-- ==== Sys2Proof/Word.lean ====
section
/-! DEFINITION. The word and byte types of the block, and the name of a bit field of a register. -/

namespace Sys2Proof

/-- Registers and structure words are 32 bits wide (R4, R12). -/
abbrev Word := BitVec 32

/-- The smallest addressable unit. -/
abbrev Byte := BitVec 8

/-- A nozzle code: rail select in [3:2], drop size in [1:0] (00_scope.md, headline figures). -/
abbrev Code := BitVec 4

/-- A bit field of a register: the register's address, the field's lowest bit and its width in bits. -/
structure Fld where
  addr : Nat
  lo : Nat
  width : Nat
  deriving DecidableEq, Repr

end Sys2Proof
end

