-- ==== Sys2Proof/Syntax.lean ====
section
/-! DEFINITION. The commands the block takes: one constructor per row of spec/opcode_table.json, with the operands
the row's rule gives it (an address, a value, a length, a packet, a measured value). Facts from outside the block (pin
levels, analogue readings, what host memory or another node holds) come as operands. -/

namespace Sys2Proof

/-- What an access outside the block or an imperfect memory brings back: the transaction status of "Barlan fabric"
(0 OK), the words read, the local word addresses at which a single-bit or a double-bit error was met, and those that the
data plane's port wrote in the same cycle (R363). -/
structure Access where
  status : Nat := 0
  words : List Word := []
  ce : List Nat := []
  ue : List Nat := []
  coll : List Nat := []
  deriving DecidableEq, Repr, Inhabited

/-- A head, and what the reads of its skew rows in SRAM meet as its port prepares a line (R362). -/
structure HeadRead where
  head : Nat := 0
  x : Access := {}
  deriving DecidableEq, Repr, Inhabited

/-- What a write of LOCK_CTL meets: whether VPP_OTP is at or above 5.7 V, and the results of the pulses of a PGM command in
progress on the region so far (R402). -/
structure LockEnv where
  vpp : Bool := true
  sofar : List (Nat × Nat) := []
  deriving DecidableEq, Repr, Inhabited

/-- What a channel run measures of one feedback converter (R238 step 2): its gain correction, its zero and its
nonlinearity, in the units of the point entry. -/
structure ConvMeas where
  gain : Nat := 0
  zero : Int := 0
  inl : Nat := 0
  deriving DecidableEq, Repr, Inhabited

/-- What a delay-path run measures of one candidate (R241): the delay that T_WF = 40.000 ns needs, in ps, and the
delay measured at each of 16 settings; a setting is given in DLY_FRAC's unit, in ascending order. -/
structure DelayMeas where
  need : Int := 0
  pts : List (Nat × Int) := []
  deriving DecidableEq, Repr, Inhabited

/-- The measurements of a calibration run (R238): VREF_EXT in 0.1 mV; the two converters; the sum of 256 IFB counts at
REST; the 72 cell weights; the sums of 256 VFB counts at REST, at REST − 0x2000 and at REST + 0x2000; the VFB counts after
the step; and the four candidates (R241). -/
structure CalMeas where
  vref : Nat := 0
  conv0 : ConvMeas := {}
  conv1 : ConvMeas := {}
  ifbSum : Nat := 0
  weights : List Nat := []
  restSum : Nat := 0
  lowSum : Nat := 0
  highSum : Nat := 0
  stepVfb : List Nat := []
  delay : List DelayMeas := []
  deriving DecidableEq, Repr, Inhabited

/-- The results of the fuse pulses that a reset cuts short: those of the command in progress, and those of the lock that
runs beside it (R407). -/
structure PulseCut where
  cmd : List (Nat × Nat) := []
  lock : List (Nat × Nat) := []
  deriving DecidableEq, Repr, Inhabited

/-- Supplies that trip: what a fuse pulse leaves, and the supplies below their level, bits 0 VDD_CORE, 1 VDD_SER, 2 VDD_DDR,
3 VDDIO_18, 4 VDDA_18, 5 VDDIO_33 (R429) and 6 VDD_GATE (R430). -/
structure TripEnv where
  cut : PulseCut := {}
  low : Nat := 1
  deriving DecidableEq, Repr, Inhabited

/-- What the world gives a device reset: the HOST_EN strap as sampled (R453), the QSPI images at the primary and the
second offset (R405), the results of fuse pulses that the reset cut short (R407), and those of pulses that the boot
sequence or a transition makes (R395, R404); vpp: VPP_OTP is at or above 5.7 V. -/
structure ResetEnv where
  hostEn : Bool := true
  flash : List (List Byte) := []
  cut : PulseCut := {}
  burn : List (Nat × Nat) := []
  vpp : Bool := false
  deriving DecidableEq, Repr, Inhabited

/-- What an access of a bus brings besides its data: the errors it meets in memory, and the facts that the action of a
register field takes from the world. pin: AMP_FLT_n is low (R122), SDA stays low (R96), VPP_OTP is high enough (R398), the
PCIe link is in L1 (R414). a and b: shorted and open lanes (R101), or the result and the data of a PMBus transfer (R423).
beats: the heads whose discarded lines end within a transfer of this many beats, as of LQ_DISABLE. reset: what a device
reset meets, and the results of fuse pulses. -/
structure BusEnv where
  x : Access := {}
  reset : ResetEnv := {}
  pin : Bool := false
  a : Nat := 0
  b : Nat := 0
  beats : List (Nat × Nat) := []
  deriving DecidableEq, Repr, Inhabited

/-- A fabric packet (R286): the two header words, the two BULK header words or nothing, and the payload. The CRC word
follows from them when the packet is sent (Packet.crcWord); an arriving packet comes with the CRC word received. -/
structure Packet where
  h0 : Word := 0#32
  h1 : Word := 0#32
  ext : List Word := []
  payload : List Word := []
  deriving DecidableEq, Repr, Inhabited

/-- What one cycle shows of the waveform channels (R124, R130); counts are given by converter. ramps: channels whose RAMP
ends in it, with the feedback samples taken during the ramp. shorts: channels with a third current sample in a row beyond
I_SHORT. amps: channels whose fault input has been low for 100 ns, with their samples. tracks: channels with their samples
and the errors e of the last TRACK_N feedback samples. offs: channels whose CH_CTL.EN a write of this cycle clears. -/
structure CycleFaults where
  ramps : List (Nat × List (Nat × Nat)) := []
  shorts : List (Nat × (Nat × Nat)) := []
  amps : List (Nat × (Nat × Nat)) := []
  tracks : List (Nat × ((Nat × Nat) × List Int)) := []
  offs : List Nat := []
  deriving DecidableEq, Repr, Inhabited

/-- One command of the block (spec/opcode_table.json). -/
inductive Instr where
  /-- REGISTER_WRITE (R9): A write to a register that has no row of its own acts on each field under its access code and class. -/
  | registerWrite (issuer : Nat) (addr : Nat) (width : Nat) (v : Nat) (env : BusEnv)
  /-- RC_READ (R8): A full read of an RC register returns its value and clears it. -/
  | rcRead (issuer : Nat) (addr : Nat) (width : Nat) (x : Access)
  /-- CROSSING_READ (R5): A read that crosses a 4-byte boundary returns 0, reads no register and reports REG_ACCESS. -/
  | crossingRead (issuer : Nat) (addr : Nat) (width : Nat)
  /-- ARM_EN (R17): A write to SYS.MGMT_CTL.ARM_EN opens the arm gate, or closes it and disarms a job not yet running. -/
  | armEn (on : Bool)
  /-- TBL_SWAP_CAL (R18): Setting SYS.TBL_SWAP.CAL requests a swap of the calibration set at a fire-line boundary. -/
  | tblSwapCal (mask : Nat)
  /-- TBL_SWAP_RAIL (R18): Setting SYS.TBL_SWAP.RAIL requests a swap of the RAIL table at compose line L. -/
  | tblSwapRail (mask : Nat)
  /-- TBL_SWAP_COMP (R18): Setting SYS.TBL_SWAP.COMP requests a swap of the COMP table at compose line L. -/
  | tblSwapComp (mask : Nat)
  /-- TBL_SWAP_HEALTH (R18): Setting SYS.TBL_SWAP.HEALTH requests a swap of the HEALTH table at compose line L. -/
  | tblSwapHealth (mask : Nat)
  /-- SWAP_IDLE_COMPLETE (R22): A pending swap completes at once once it reaches an idle compositor or fire engine. -/
  | swapIdleComplete
  /-- ERROR_REPORT (R383): The collector takes a report, updates the source's record, queues it and applies the configured reactions. -/
  | errorReport (q : Nat) (inst : Nat) (detail : Nat)
  /-- SLUICE_PIN (R158): SLUICE_N held low for 10 ns stops the node with cause pin. -/
  | sluicePin
  /-- SLUICE_SET (R158): A write of 1 to FIRE.SLUICE_CTL.SET stops the node. -/
  | sluiceSet
  /-- SLUICE_CLR (R160): A write of 1 to FIRE.SLUICE_CTL.CLR releases the node's drive of SLUICE_N. -/
  | sluiceClr
  /-- SLUICE_CLR_CHECK (R160): 1.0 µs after CLR the engine clears STOPPED if the pin is high and no stop is asserted. -/
  | sluiceClrCheck (low : Bool)
  /-- FIRE_ENABLE (R136): Setting FIRE.CTL.EN is refused for a reserved AXIS. -/
  | fireEnable
  /-- FIRE_DISABLE (R35): Clearing FIRE.CTL.EN during a job aborts the running job. -/
  | fireDisable
  /-- CMP_ENABLE (R58): Setting CMP.CTL.EN is refused when table bases are invalid or overlap. -/
  | cmpEnable
  /-- CMP_DISABLE (R462): Clearing CMP.CTL.EN abandons the line, drops the next program and aborts the held jobs. -/
  | cmpDisable (beats : List (Nat × Nat))
  /-- COMPOSE_LINE_BOUNDARY (R38): The compositor begins the first op of a new line once the previous line is emitted. -/
  | composeLineBoundary (x : Access)
  /-- OP_CLEAR (R43): The CLEAR op writes a constant code into the destination buffer for the masked heads. -/
  | opClear
  /-- FETCH (R39): The FETCH op reads layer pixels and converts them to codes, holding the line while a stream line is undelivered. -/
  | fetchOp (x : Access)
  /-- MERGE (R43): The MERGE op combines destination and source codes by its mode. -/
  | mergeOp
  /-- LOOKUP (R43): The LOOKUP op maps source codes through a 16-entry table. -/
  | lookupOp
  /-- PASSMASK (R44): The PASSMASK op keeps codes whose mask entry equals the head's pass. -/
  | passmaskOp
  /-- STITCH (R45): The STITCH op divides overlap codes between a head and its right neighbour. -/
  | stitchOp
  /-- RAIL (R53): The RAIL op writes rail bits from the RAIL table. -/
  | railOp (x : Access)
  /-- COMP (R55): The COMP op moves dead nozzles' drops to alternate-pass or neighbour targets. -/
  | compOp (x : Access)
  /-- EMIT (R46): The EMIT op corrects codes and pushes the line to the target queues, waiting while a queue is full. -/
  | emitOp (stall : Nat) (x : Access)
  /-- PROGRAM_LOAD (R49): The compositor loads and checks the next job's program and layer table. -/
  | programLoad (xp : Access) (xt : Access)
  /-- KILL_SET (R56): A write to CMP.KILL_SET sets the kill bit of one nozzle. -/
  | killSet (n : Nat)
  /-- KILL_CLR (R56): A write of 1 to CMP.KILL_CLR clears every kill bit. -/
  | killClr
  /-- LINE_PUSH (R59): A line enters a queue when its 64th beat is written. -/
  | linePush (h : Nat)
  /-- TAIL_TO_HEAD_MOVE (R60): A tail-to-head move of a line completes. -/
  | tailToHeadMove (h : Nat)
  /-- SPILL_COMPLETE (R60): A spill of the oldest tail line to the spillway completes with its write response. -/
  | spillComplete (h : Nat) (x : Access)
  /-- REFILL_COMPLETE (R60): A refill of the oldest spillway line into the head section completes. -/
  | refillComplete (h : Nat) (x : Access)
  /-- POP (R68): A head-port pop request discards late lines and returns the matching line, a blank or a retry. -/
  | popLine (h : HeadRead)
  /-- POP_DEADLINE (R77): When a line's pop deadline passes with no line, the pop returns blank. -/
  | popDeadline (h : HeadRead)
  /-- LQ_FLUSH (R71): Setting LQ.FLUSH bit h requests a flush of queue h. -/
  | lqFlush (mask : Nat)
  /-- FLUSH_EFFECT (R71): A flush takes effect once no transfer is in flight, discarding all lines and setting RESYNC. -/
  | flushEffect (h : Nat) (beats : Nat)
  /-- FLUSH_TIMEOUT (R72): A flush not in effect within FLUSH_TMO is forced. -/
  | flushTimeout (h : Nat) (beats : Nat)
  /-- LQ_ENABLE (R65): Setting LQ.CTL.EN is refused when a queue's capacity or spillway is invalid. -/
  | lqEnable
  /-- LQ_DISABLE (R73): Clearing LQ.CTL.EN flushes all queues at once and aborts the running job. -/
  | lqDisable (beats : List (Nat × Nat))
  /-- QPTR_MISMATCH (R74): Differing pointer copies reset the queue and are reported. -/
  | qptrMismatch (h : Nat) (ptr : Nat) (a : Nat) (b : Nat) (beats : Nat)
  /-- LAT_START (R78): The port raises LAT for a fire line whose frame completed in time. -/
  | latStart (h : Nat)
  /-- LAT_END (R78): The LAT pulse ends, opening the pop window of the next line. -/
  | latEnd (h : HeadRead)
  /-- FRAME_COMPLETE (R78): The last bit of a frame leaves the lanes. -/
  | frameComplete (h : Nat)
  /-- XFER_LATE (R79): A frame not complete by LAT start minus LAT_SETUP is stopped and its line not fired. -/
  | xferLate (h : Nat)
  /-- CONST (R87): The framing CONST instruction emits a pattern REP times. -/
  | constBits (h : Nat) (lane : Nat)
  /-- NOZ (R88): The framing NOZ instruction emits the symbols of a strided run of positions. -/
  | noz (h : Nat) (lane : Nat)
  /-- CRCMARK (R87): The framing CRCMARK instruction resets the lane CRC to CRC_INIT. -/
  | crcMark (h : Nat) (lane : Nat)
  /-- CRC (R87): The framing CRC instruction emits the lane's CRC. -/
  | crcInsert (h : Nat) (lane : Nat)
  /-- LOOP (R88): The framing LOOP instruction repeats its body, advancing NOZ starts. -/
  | loopLane (h : Nat) (lane : Nat)
  /-- FRAME_END (R88): The framing END instruction ends the lane list. -/
  | frameEnd (h : Nat) (lane : Nat)
  /-- FP_LOAD (R89): A write of 1 to PCTL_h.FP_LOAD reads a framing program into the pending buffer and starts its check. -/
  | fpLoad (h : Nat) (x : Access)
  /-- FP_CHECK_COMPLETE (R89): The framing program check completes, setting FP_PEND or FP_ERR. -/
  | fpCheckComplete (h : Nat)
  /-- PORT_ENABLE (R92): Setting PCTL_h.EN starts the presence reading, orientation, class and load checks. -/
  | portEnable (h : Nat)
  /-- PORT_READY (R92): The enable checks finish and the port sets READY or refuses EN. -/
  | portReady (h : Nat) (raw : Nat) (stable : Bool) (shorts : Nat) (opens : Nat)
  /-- PORT_DISABLE (R91): Clearing PCTL_h.EN during a job takes the port down with cause DISABLED. -/
  | portDisable (h : Nat)
  /-- HPT_DISABLE (R91): Clearing HPT.CTL.EN takes the ports down and aborts the running job. -/
  | hptDisable
  /-- PRS_SAMPLE (R94): Every 1 ms the port reads PRS and takes the port down on a stable code change. -/
  | prsSample (h : Nat) (raw : Nat)
  /-- LANE_FAULT (R98): A lane current out of range for 1 µs is a short or open and takes the port down. -/
  | laneFault (h : Nat) (lane : Nat) (short : Bool)
  /-- DOWN_CLR (R101): A write of PCTL_h.DOWN_CLR requests the end of a LANE or WFE down state. -/
  | downClr (h : Nat) (shorts : Nat) (opens : Nat)
  /-- I2C_TRANSACTION (R95): A write of I2C_CTL_h.START runs one ID-bus transaction. -/
  | i2cTransaction (h : Nat) (ctl : Word) (stuck : Bool)
  /-- I2C_DONE (R96): An ID-bus transaction ends, setting DONE and NACK as they apply. -/
  | i2cDone (h : Nat) (nack : Bool) (nbytes : Nat) (read : List Nat)
  /-- I2C_STRETCH_TIMEOUT (R95): A clock stretch over 25 ms ends the transaction with TMO. -/
  | i2cStretchTimeout (h : Nat) (nbytes : Nat)
  /-- RAMP (R108): The RAMP instruction adds SLOPE to the accumulator for N samples. -/
  | ramp (c : Nat) (l : CycleFaults)
  /-- HOLD (R108): The HOLD instruction optionally loads LEVEL and holds for N samples. -/
  | hold (c : Nat)
  /-- WIN (R117): The WIN instruction records the window and requests a window strobe. -/
  | win (c : Nat)
  /-- SENSE (R120): The SENSE instruction floats the rail and hands feedback samples to nozzle sensing. -/
  | sense (c : Nat) (vfb : List (Nat × Nat))
  /-- JUMP (R108): The JUMP instruction continues at TARGET when its condition holds. -/
  | jump (c : Nat)
  /-- END (R110): The END instruction ends the slot and returns the rail to rest. -/
  | endSlot (c : Nat) (vfb : List (Nat × Nat))
  /-- SLOT_LIMIT (R106): A slot that runs SLOT_LIMIT without END is ended at once and reported. -/
  | slotLimit (c : Nat)
  /-- CHANNEL_ENABLE (R122): Setting CH_CTL.EN starts the channel's enable sequence. -/
  | channelEnable (c : Nat) (flt : Bool)
  /-- CHANNEL_READY (R122): The enable ramp ends and the channel sets READY or FAULTED. -/
  | channelReady (c : Nat) (es : List Int)
  /-- CHANNEL_DISABLE (R123): Clearing CH_CTL.EN ramps the channel down, or faults it DISABLED during a job. -/
  | channelDisable (c : Nat)
  /-- RAMP_DOWN_COMPLETE (R123): The disable ramp ends and AMP_EN_n goes high. -/
  | rampDownComplete (c : Nat)
  /-- WFE_DISABLE (R123): Clearing WFE.CTL.EN clears every channel enable and aborts the running job. -/
  | wfeDisable
  /-- FAULT_CLR (R131): A write of CH_CTL.FAULT_CLR clears a channel fault and reruns the enable sequence. -/
  | faultClr (c : Nat) (flt : Bool)
  /-- PD_RESET (R116): A write of CH_CTL.PD_RESET zeros both correction tables. -/
  | pdReset (c : Nat)
  /-- SHORT (R124): Three consecutive current samples beyond I_SHORT fault the channel. -/
  | shortFault (l : CycleFaults)
  /-- AMP_FLT (R124): AMP_FLT_n low for 100 ns faults the channel. -/
  | ampFlt (l : CycleFaults)
  /-- TRACK (R124): TRACK_N consecutive samples beyond TRACK_LIM set TRACK and may fault the channel. -/
  | trackFault (l : CycleFaults)
  /-- TAKEOVER_CLR (R131): A write of HEAD_CTL_h.TAKEOVER_CLR ends a fault takeover when the channel is READY. -/
  | takeoverClr (h : Nat)
  /-- HEAD_DOWN_CLR (R132): A write of HEAD_CTL_h.DOWN_CLR ends DOWN when all three channels are READY. -/
  | headDownClr (h : Nat)
  /-- VALID_SAMPLE (R138): A new valid position sample updates the prediction and every uncommitted instant. -/
  | validSample
  /-- PREDICTION_STALE (R137): The prediction becomes invalid when the latest sample passes STALE_TMO. -/
  | predictionStale
  /-- JOB_ARM (R150): The fire engine arms the first queued job once its program passed and the gate is open. -/
  | jobArm
  /-- FIRE_LINE_BOUNDARY (R142): A line's compare matches the predicted position and its fire instants are computed. -/
  | fireLineBoundary
  /-- ROW_TRIGGER (R144): A row group's trigger instant arrives and starts a slot on the head. -/
  | rowTrigger (h : Nat)
  /-- JOB_COMPLETE (R153): A job completes once its last fire line's slots have ended and tap words are sent. -/
  | jobComplete
  /-- INPUT_ACCEPTED (R165): An axis input change held for FILT ticks is accepted and decoded. -/
  | inputAccepted (n : Nat) (l : Nat)
  /-- AXIS_STOPPED (R179): No step for STOP_TMO sets STOPPED and zeroes SPEED. -/
  | axisStopped (n : Nat)
  /-- SERIAL_FRAME_START (R180): At a period tick the axis starts an SSI or BiSS frame if SLO is high. -/
  | serialFrameStart (n : Nat) (slo : Bool)
  /-- NOACK (R181): No BiSS start bit within ACK_MAX clocks fails the frame. -/
  | noack (n : Nat)
  /-- SERIAL_TIMEOUT (R180): SLO not returning high within TIMEOUT fails the frame with TMO. -/
  | serialTimeout (n : Nat) (bits : Nat) (delay : Nat)
  /-- SERIAL_FRAME_COMPLETE (R182): A completed frame is checked for CRC, error bit and jump and produces a sample. -/
  | serialFrameComplete (n : Nat) (bits : Nat) (delay : Nat)
  /-- WIRE_LOSS (R186): A used input below 150 mV differential for 1 µs puts the axis in wire loss. -/
  | wireLoss (n : Nat) (mask : Nat)
  /-- WIRE_RESTORE (R186): After every used input is valid for 10 µs the axis leaves wire loss. -/
  | wireRestore (n : Nat)
  /-- SNAP (R188): A write of SNAP.REQ captures the latest sample of all four axes. -/
  | snapAll
  /-- TIDE_HANDOFF (R189): At each 1 µs tick the Tide axis sample is handed to the fabric. -/
  | tideHandoff
  /-- AXIS_ENABLE (R191): Setting AX_CTL_n.EN starts the axis or is refused for invalid settings. -/
  | axisEnable (n : Nat)
  /-- AXIS_DISABLE (R192): Clearing AX_CTL_n.EN stops decoding and aborts a job that uses the axis. -/
  | axisDisable (n : Nat)
  /-- TEMP_MEASURE (R194): Every 1 ms the thermistor is measured, converted and the heater loop updated. -/
  | tempMeasure (h : Nat) (x : Nat)
  /-- NO_RISE (R199): Full duty for RISE_TMO without temperature rise latches the heater off. -/
  | noRise (h : Nat)
  /-- HTR_FAULT (R200): A heater pin readback mismatch for 1 µs latches the heater off. -/
  | htrFault (h : Nat)
  /-- SENSE_RESULT (R210): The analyser's result updates the nozzle's record and may declare a class. -/
  | senseResult (h : Nat) (x : Access)
  /-- FORCE (R213): A write to NH.FORCE resets, forces or unforces a nozzle's class. -/
  | forceClass (v : Word) (x : Access)
  /-- STATE_CLR (R213): A write of HCTL_h.STATE_CLR clears every record of the head. -/
  | stateClr (h : Nat)
  /-- PUBLISH_REQ (R216): A write of 1 to PUB_CTL.REQ triggers a publish. -/
  | publishReq
  /-- PUB_TMO (R216): PUB_TMO after an unpublished change triggers a publish. -/
  | pubTmo
  /-- PUBLISH (R216): A publish writes the inactive HEALTH copy and requests the HEALTH swap. -/
  | publish (x : Access)
  /-- NH_ENABLE (R223): Setting NH.CTL.EN is refused for invalid map, baseline or ring settings. -/
  | nhEnable
  /-- SENSE_EN (R223): Setting HCTL_h.SENSE_EN resets the scan position or is refused. -/
  | senseEn (h : Nat)
  /-- DIE_TEMP_SAMPLE (R231): Every 100 µs the die sensors are read and may make elements pending. -/
  | dieTempSample (t0 : Nat) (t1 : Nat) (t2 : Nat) (t3 : Nat)
  /-- CAL_REQ (R231): A write to CAL.REQ makes an element pending. -/
  | calReq (e : Nat)
  /-- CHANNEL_RUN (R238): A channel run obtains the channel and measures converters, cells, gain, offset and loop delay. -/
  | channelRun
  /-- DELAY_PATH_RUN (R241): A delay-path run measures the four candidates and selects one. -/
  | delayPathRun
  /-- ENCODER_RUN (R242): An encoder run collects a window of steps and computes phase offsets. -/
  | encoderRun
  /-- ENC_TMO (R242): No complete encoder window within ENC_TMO aborts the run. -/
  | encTmo
  /-- BASELINE_RUN (R244): A baseline run collects tickle results and writes per-nozzle baselines. -/
  | baselineRun (h : Nat)
  /-- RAIL_RUN (R247): A rail run reassigns nozzles between rails and requests the RAIL swap. -/
  | railRun (x : Access)
  /-- RUN_COMPLETE (R248): A calibration run ends, its result is checked against limits and written or discarded. -/
  | runComplete (e : Nat) (d : CalMeas)
  /-- CTL_ABORT (R240): A write of 1 to CAL.CTL.ABORT aborts the measurement-lane run. -/
  | ctlAbort
  /-- RETRY_TMO (R233): After RETRY_TMO a deferred or aborted element may run again. -/
  | retryTmo (e : Nat)
  /-- RECALC (R229): A write of 1 to CAL.CTL.RECALC triggers a rebuild. -/
  | recalc
  /-- REBUILD (R229): A rebuild writes the inactive live set and requests the CAL swap. -/
  | rebuild (x : Access)
  /-- EXPORT (R252): A write of REC_CTL.EXPORT writes a CAL_RECORD to REC_BASE. -/
  | calExport (x : Access)
  /-- IMPORT (R253): A write of REC_CTL.IMPORT checks and loads a CAL_RECORD. -/
  | calImport (x : Access)
  /-- WEIR_POR (R269): The Weir starts at VDD_WEIR power-on, checks its cistern and fuses and runs the ROM. -/
  | weirPor (kept : Bool)
  /-- TAP_GAP (R258): The core supply present while VDD_WEIR is absent sets the TAP_GAP latch. -/
  | tapGap
  /-- GET_ID (R281): The GET_ID command returns the Weir's software identity. -/
  | getId (c : Nat)
  /-- GET_STATUS (R272): The GET_STATUS command returns WSTAT and operating time. -/
  | getStatus (c : Nat)
  /-- READ_TOTALS (R279): The READ_TOTALS command returns a signed totals record from one snapshot. -/
  | readTotals (c : Nat)
  /-- READ_EVENT (R280): The READ_EVENT command returns a held event record. -/
  | readEvent (c : Nat)
  /-- READ_PARAMS (R274): The READ_PARAMS command returns the current parameter block. -/
  | readParams (c : Nat)
  /-- LOAD_BEGIN (R269): The LOAD_BEGIN command opens an image load in the ROM. -/
  | loadBegin (c : Nat)
  /-- LOAD_CHUNK (R269): The LOAD_CHUNK command adds image words at ascending offsets. -/
  | loadChunk (c : Nat)
  /-- LOAD_END (R265): The LOAD_END command checks the image digest and starts the firmware. -/
  | loadEnd (c : Nat)
  /-- CHALLENGE (R273): The CHALLENGE command returns a fresh nonce. -/
  | challenge (c : Nat)
  /-- PARAM_LOAD (R275): The PARAM_LOAD command checks and loads a stored parameter block. -/
  | paramLoad (c : Nat)
  /-- SET_PARAMS (R277): The authorised SET_PARAMS command changes parameters and logs an event. -/
  | setParams (c : Nat) (burn : List (Nat × Nat))
  /-- SEAL (R277): The authorised SEAL command seals the Weir and logs an event. -/
  | sealWeir (c : Nat) (held : Bool) (burn : List (Nat × Nat))
  /-- ADD_FW (R265): The authorised ADD_FW command programs the next firmware digest slot. -/
  | addFw (c : Nat) (burn : List (Nat × Nat)) (slot : List (Nat × Nat))
  /-- AUTH_LOCK_EXPIRY (R273): After 60 s of operating time the authorisation lock ends. -/
  | authLockExpiry
  /-- WX_STEP (R261): A WX quadrature step updates WHW and the length totals. -/
  | wxStep (l : Nat)
  /-- WX_LOST (R260): A WX input below 150 mV for 1 µs stops counting. -/
  | wxLost (mask : Nat)
  /-- TAP_WORD_RECEIVED (R262): The Weir accepts a tap word into its drop accumulators or discards it. -/
  | tapWordReceived (flip : Nat)
  /-- VOL_UPDATE (R263): Every 1 ms the Weir converts new drop counts into volume. -/
  | volUpdate
  /-- SEAL_BREACH (R278): SEAL_BRK high for 10 µs, or a linked tamper, sets the breach latch. -/
  | sealBreach
  /-- LATCH_HANDLING (R277): The Weir handles a pending latch, logging its event and changing state. -/
  | latchHandling (burn : List (Nat × Nat))
  /-- LINK_UP (R284): A port completes training and latches its neighbour's identity. -/
  | linkUp (p : Nat) (identLo : Word) (identHi : Word) (rate16 : Bool) (width2 : Bool) (swap : Bool) (inv : Nat)
  /-- TRAIN_RETRY (R284): A port not UP restarts training from DETECT every 10 ms, or 10 µs after a loss. -/
  | trainRetry (p : Nat)
  /-- LINK_LOST (R285): A lost link enters LOST and triggers failover. -/
  | linkLost (p : Nat) (why : Nat)
  /-- REPLAY_TIMEOUT (R289): No ACK progress for 1 µs replays every unacknowledged packet. -/
  | replayTimeout (p : Nat)
  /-- STOP (R319): A new STOP packet stops the node and is forwarded. -/
  | stopPacket (p : Nat) (crc : Word) (k : Packet)
  /-- CLEAR (R320): A new CLEAR packet releases the node's SLUICE_N drive and schedules the check at EXEC_T. -/
  | clearPacket (p : Nat) (crc : Word) (k : Packet)
  /-- CLEAR_EXEC (R320): At EXEC_T the node makes the release check of R160. -/
  | clearExec (low : Bool)
  /-- BCAST_CLR (R320): A write of FAB.SLUICE_CTL.BCAST_CLR floods a CLEAR packet. -/
  | bcastClr
  /-- CTRL_RD (R309): A CTRL_RD packet reads a register at the target and is answered. -/
  | ctrlRd (p : Nat) (crc : Word) (k : Packet)
  /-- CTRL_WR (R309): A CTRL_WR packet writes a register at the target and is answered. -/
  | ctrlWr (p : Nat) (crc : Word) (k : Packet) (env : BusEnv)
  /-- CTRL_RSP (R308): A CTRL_RSP completes an outstanding CTRL request. -/
  | ctrlRsp (p : Nat) (crc : Word) (k : Packet)
  /-- PROBE (R295): A PROBE packet is forwarded or answered in hardware. -/
  | probe (p : Nat) (crc : Word) (k : Packet)
  /-- PROBE_RSP (R295): A PROBE_RSP returns identity and port state to the requester. -/
  | probeRsp (p : Nat) (crc : Word) (k : Packet)
  /-- ASSIGN (R296): An ASSIGN packet with matching IDENT sets node ID, depth and time parents. -/
  | assign (p : Nat) (crc : Word) (k : Packet)
  /-- ASSIGN_RSP (R296): An ASSIGN_RSP returns the assignment status. -/
  | assignRsp (p : Nat) (crc : Word) (k : Packet)
  /-- TIME (R313): A TIME packet from the parent steps or slews fabric time. -/
  | timePacket (p : Nat) (crc : Word) (k : Packet)
  /-- TIME_SEND (R311): Every 1 µs a LOCKED node sends a TIME packet on each UP port. -/
  | timeSend
  /-- POS (R318): A POS packet from the Tide source is delivered to the fire engine and forwarded. -/
  | posPacket (p : Nat) (crc : Word) (k : Packet)
  /-- WR (R307): A BULK WR packet writes target memory and is answered with WR_RSP. -/
  | bulkWr (p : Nat) (crc : Word) (k : Packet) (env : BusEnv)
  /-- RD (R307): A BULK RD packet reads target memory and is answered with RD_CPL. -/
  | bulkRd (p : Nat) (crc : Word) (k : Packet) (x : Access)
  /-- WR_RSP (R308): A WR_RSP completes an outstanding BULK write. -/
  | wrRsp (p : Nat) (crc : Word) (k : Packet)
  /-- RD_CPL (R308): An RD_CPL completes an outstanding BULK read. -/
  | rdCpl (p : Nat) (crc : Word) (k : Packet)
  /-- CREDIT (R290): A CREDIT packet returns freed receive buffers per class. -/
  | creditPacket (p : Nat) (crc : Word) (k : Packet)
  /-- ACK (R289): An ACK releases acknowledged packets from the replay buffer. -/
  | ackPacket (p : Nat) (crc : Word) (k : Packet)
  /-- NAK (R289): A NAK replays every packet after the acknowledged one. -/
  | nakPacket (p : Nat) (crc : Word) (k : Packet)
  /-- KEEPALIVE (R286): A KEEPALIVE carries the neighbour's node word. -/
  | keepalive (p : Nat) (crc : Word) (k : Packet)
  /-- DLY_REQ (R312): A DLY_REQ is stamped and answered with DLY_RSP. -/
  | dlyReq (p : Nat) (crc : Word) (k : Packet)
  /-- DLY_RSP (R312): A DLY_RSP yields a link delay result for the filter. -/
  | dlyRsp (p : Nat) (crc : Word) (k : Packet)
  /-- DELAY_MEASUREMENT (R312): Every 125 µs each UP port sends a DLY_REQ. -/
  | delayMeasurement
  /-- BULK_TIMEOUT (R308): A BULK request without response in BULK_TMO completes with TIMEOUT. -/
  | bulkTimeout (tag : Nat)
  /-- CTRL_TIMEOUT (R308): A CTRL request without response in CTRL_TMO completes with TIMEOUT. -/
  | ctrlTimeout (tag : Nat)
  /-- HOLDOVER_TIMEOUT (R315): HOLD_TMO in holdover sets LOST and reports FAB_TIME_LOST. -/
  | holdoverTimeout
  /-- ROUTE_RESTORE (R305): A route on ALT returns to PRI after its link has been UP for 1 ms. -/
  | routeRestore (d : Nat)
  /-- PARENT_RESTORE (R315): The time source returns to PARENT after its link has been UP for 1 ms. -/
  | parentRestore
  /-- CREQ_CTRL_RD (R309): A CREQ GO with KIND 0 sends a CTRL_RD. -/
  | creqCtrlRd
  /-- CREQ_CTRL_WR (R309): A CREQ GO with KIND 1 sends a CTRL_WR. -/
  | creqCtrlWr
  /-- CREQ_PROBE (R295): A CREQ GO with KIND 2 sends a source-routed PROBE. -/
  | creqProbe
  /-- CREQ_ASSIGN (R296): A CREQ GO with KIND 3 sends an ASSIGN. -/
  | creqAssign
  /-- FAB_ENABLE (R324): Setting FAB.CTL.EN starts the fabric or is refused for an invalid parent. -/
  | fabEnable
  /-- BOOT_GO (R322): A write of BOOT_CTL.GO checks and starts a fabric-loaded image. -/
  | bootGo (v : Nat)
  /-- HEADRACE_DOORBELL (R327): A doorbell write on ring 0 advances the headrace producer count. -/
  | headraceDoorbell (v : Nat)
  /-- COMPLETION_DOORBELL (R327): A doorbell write on ring 1 advances the completion consumer count. -/
  | completionDoorbell (v : Nat)
  /-- TAILRACE_DOORBELL (R327): A doorbell write on ring 2 advances the tailrace consumer count. -/
  | tailraceDoorbell (v : Nat)
  /-- STREAM_DOORBELL (R327): A doorbell write on a stream ring advances its producer count. -/
  | streamDoorbell (r : Nat) (v : Nat)
  /-- JOB_DESCRIPTOR (R331): The parser checks a fetched job descriptor and queues or forwards it. -/
  | jobDescriptor (x : Access)
  /-- JQ_IN (R333): A 16-word write from node 0 to JQ_IN places a job in the node's queue. -/
  | jqIn (ws : List Word)
  /-- CPL_IN (R334): A completion record written to the root's CPL_IN is placed on the completion ring. -/
  | cplIn (ws : List Word)
  /-- CPL_RETRY (R334): A failed completion write is resent every 100 µs. -/
  | cplRetry
  /-- EVT_IN (R338): An event written to the root's EVT_IN is queued for the tailrace. -/
  | evtIn (ws : List Word)
  /-- STREAM_ENTRY (R335): A stream context consumes an entry and writes its lines into the layer ring. -/
  | streamEntry (r : Nat) (x : Access) (pay : Access)
  /-- STREAM_POLL (R336): A blocked context rereads the target's stream mirrors every POLL µs. -/
  | streamPoll (r : Nat)
  /-- IDLE_TMO (R340): An uncovered entry older than IDLE_TMO triggers an MSI-X message. -/
  | idleTmo (v : Nat)
  /-- CULVERT_ACCESS (R343): A BAR 2 access is mapped through its aperture to a node's memory. -/
  | culvertAccess (off : Nat) (write : Bool) (n : Nat) (data : List Nat) (x : Access)
  /-- HOST_FLR (R345): A Function Level Reset clears the host interface and is reported. -/
  | hostFlr
  /-- HOST_LINK_DOWN (R345): A loss of the PCIe link clears the host interface and is reported. -/
  | hostLinkDown
  /-- HOSTIF_ENABLE (R346): Setting HOSTIF.CTL.EN starts the rings or is refused. -/
  | hostifEnable
  /-- CH_GO (R350): A write of CH_CTL.GO loads the list head and starts the channel. -/
  | chGo (n : Nat) (x : Access)
  /-- COPY (R352): A COPY descriptor moves LEN bytes from source to destination. -/
  | dmaCopy (n : Nat) (x : Access) (env : BusEnv) (nx : Access) (sent : Nat)
  /-- FILL (R355): A FILL descriptor writes a pattern over LEN bytes. -/
  | dmaFill (n : Nat) (env : BusEnv) (nx : Access)
  /-- CMP (R355): A CMP descriptor compares two ranges and halts at the first mismatch. -/
  | dmaCmp (n : Nat) (x : Access) (y : Access) (nx : Access)
  /-- CMP_PAT (R355): A CMP_PAT descriptor compares a range with a pattern. -/
  | dmaCmpPat (n : Nat) (y : Access) (nx : Access)
  /-- DESCRIPTOR_COMPLETE (R354): A descriptor completes when all responses are in, and word 5 is written. -/
  | descriptorComplete (n : Nat) (env : BusEnv)
  /-- CH_STOP (R356): A write of CH_CTL.STOP stops the channel at its next descriptor boundary. -/
  | chStop (n : Nat)
  /-- QUIESCE_REQUEST (R358): A power-down request makes affected channels quiesce at their boundaries. -/
  | quiesceRequest (mask : Nat)
  /-- PD_QUIESCE_TMO (R358): Channels not quiesced by the timeout halt with POWER_ABORT. -/
  | pdQuiesceTmo
  /-- MARCH_ENABLE (R365): Setting MARCH_CTL.EN starts the march engine or is refused. -/
  | marchEnable
  /-- MARCH_WINDOW (R366): After PACE the engine tests the next window or bank. -/
  | marchWindow (fails : List (Nat × (Word × Nat)))
  /-- MARCH_YIELD (R366): A port access to a held window restores it and yields. -/
  | marchYield
  /-- DRAM_ENABLE (R368): Setting DRAMC.CTL.EN starts training and wipe. -/
  | dramEnable
  /-- DRAM_READY (R368): Training and wipe complete and READY sets, or training fails. -/
  | dramReady (bad : Nat)
  /-- SCRUB (R369): Every PERIOD µs the controller scrubs one 4 KB block. -/
  | scrub (x : Access)
  /-- WIPE_COMPLETE (R370): A memory wipe finishes and its WIPE_STAT bit sets. -/
  | wipeComplete (part : Nat)
  /-- DEVICE_RESET (R370): A device reset senses OTP, wipes memories and runs the boot ROM. -/
  | deviceReset (cause : Nat) (e : ResetEnv)
  /-- HBOOT_GO (R405): A write of HBOOT_CTL.GO loads an image from host memory for the ROM to check. -/
  | hbootGo (x : Access)
  /-- RST_DEVICE (R386): A write of RST_CTL.DEVICE with the key resets the device. -/
  | rstDevice (v : Nat) (e : ResetEnv)
  /-- RST_CORE (R381): A write of RST_CTL.CORE performs a management-core-only reset. -/
  | rstCore
  /-- WDT_KICK (R380): A write of 0x0000_C0DE to WDT_KICK restarts the watchdog count. -/
  | wdtKick (v : Nat)
  /-- WDT_WARN (R380): The watchdog passing half its timeout pends WDT_WARN. -/
  | wdtWarn
  /-- WDT_EXPIRED (R380): Watchdog expiry resets the core or escalates to the fatal path. -/
  | wdtExpired
  /-- MCCLEAN (R374): The MCCLEAN CSR write cleans one cache line. -/
  | mcclean (a : Nat)
  /-- MCINVAL (R374): The MCINVAL CSR write invalidates one cache line. -/
  | mcinval (a : Nat)
  /-- MCFLUSH (R374): The MCFLUSH CSR write cleans and invalidates one cache line. -/
  | mcflush (a : Nat)
  /-- MCALL (R374): The MCALL CSR write cleans and or invalidates the whole cache. -/
  | mcall (v : Nat)
  /-- JLOG_READ (R378): A read of JLOG_1 removes the oldest job-log entry. -/
  | jlogRead
  /-- EVQ_POP (R384): A write to EVQ_POP removes the head of the event queue. -/
  | evqPop
  /-- REC_CLEAR (R383): A write of 1 to REC_s_0.FIRST_VALID clears the source's record. -/
  | recClear (q : Nat)
  /-- FW_REPORT (R382): A write to SYS.FW_REPORT reports FW_EVENT with the written severity. -/
  | fwReport (v : Nat)
  /-- LOAD_WINDOW (R379): At the end of each load window BUSY is updated and MGMT_LOAD may be reported. -/
  | loadWindow (busy : Nat)
  /-- SUMP_HW_DONE (R386): The sump writer finishes the hardware part of the dump. -/
  | sumpHwDone
  /-- SUMP_DONE (R386): A write of SUMP_CTL.DONE ends the dump and reports SUMP_DONE. -/
  | sumpDone
  /-- SUMP_TMO (R386): SUMP_TMO after the fatal path ends the dump and holds the core in reset. -/
  | sumpTmo
  /-- RST_TMO (R386): RST_TMO after the dump ends the device resets itself. -/
  | rstTmo (e : ResetEnv)
  /-- NMI_REARM (R377): A write of SUMP_CTL.NMI_REARM re-enables the NMI. -/
  | nmiRearm
  /-- PGM_GO (R397): A write of PGM_CTL.GO programs an OTP word bit by bit or is refused. -/
  | pgmGo (vpp : Bool)
  /-- PGM_DONE (R397): An OTP program command finishes or fails on a bit. -/
  | pgmDone (burn : List (Nat × Nat))
  /-- FIN_GO (R401): A write of FIN_CTL.GO finalises a region by burning its digest and lock. -/
  | finGo (vpp : Bool)
  /-- LOCK_CTL (R402): A write to LOCK_CTL burns a region's write or read lock. -/
  | lockCtl (v : Nat) (burn : List (Nat × Nat)) (e : LockEnv)
  /-- KEY_OPEN (R403): Clearing KEY_OPEN.OPEN closes reads of read-locked regions. -/
  | keyOpen
  /-- LC_REQ (R404): A keyed write to LC_REQ burns a transition word and resets the device. -/
  | lcReq (v : Nat) (e : ResetEnv)
  /-- STATE_REQ_STILL (R414): A GO with TARGET 1 requests the STILL state. -/
  | stateReqStill
  /-- STATE_REQ_LOW (R414): A GO with TARGET 2 requests the LOW state. -/
  | stateReqLow (l1 : Bool)
  /-- STATE_REQ_DRY (R414): A GO with TARGET 3 requests the DRY state. -/
  | stateReqDry
  /-- STATE_ENTRY (R414): After WFI and DMA ready the PMU takes the domains to the target state. -/
  | stateEntry
  /-- WAKE (R415): An enabled wake source returns the device from STILL or LOW to FLOW. -/
  | wake (src : Nat) (cycles : Nat)
  /-- DRY_WAKE (R417): WAKE_N low for 10 µs in DRY drives PWR_EN high for a cold start. -/
  | dryWake
  /-- TAMPER (R418): TAMPER_N low for 10 µs sets the tamper latch. -/
  | tamper
  /-- TAMPER_CLR (R418): A write of 1 to TAMPER.LATCH clears the latch while the pin is high. -/
  | tamperClr (low : Bool)
  /-- XTAL_FAIL (R409): A failed crystal switches PLLs to the backup oscillator and stops the node. -/
  | xtalFail (why : Nat)
  /-- XTAL_RESTORE (R409): After 1 ms of stable crystal the references switch back. -/
  | xtalRestore
  /-- PLL_LOCK (R408): A PLL locks and the enable that waited for it takes effect. -/
  | pllLock (p : Nat)
  /-- PLL_FAIL (R409): A PLL losing lock stops the node and is reported. -/
  | pllFail (p : Nat)
  /-- HV_ENABLE (R419): Setting HV_CTL_g.EN starts the boost controller ramp. -/
  | hvEnable (g : Nat)
  /-- PGOOD (R419): The output within 2 % for 100 µs sets PGOOD. -/
  | pgood (g : Nat) (vs : Nat) (cs : Nat)
  /-- HV_OV (R420): Output above the OV margin for 1 µs faults the controller and its heads. -/
  | hvOv (g : Nat) (vs : Nat) (cs : Nat)
  /-- HV_UV (R420): Output below the UV margin for 20 µs faults the controller and its heads. -/
  | hvUv (g : Nat) (vs : Nat) (cs : Nat)
  /-- HV_OC (R420): 64 consecutive current-limited cycles fault the controller and its heads. -/
  | hvOc (g : Nat) (vs : Nat) (cs : Nat)
  /-- HV_DISABLE (R421): Clearing HV_CTL_g.EN stops the controller, or is ignored while a channel is enabled. -/
  | hvDisable (g : Nat)
  /-- PMBUS_POLL (R422): Every POLL ms the host reads STATUS_WORD and READ_VOUT of each device. -/
  | pmbusPoll (k : Nat) (st : Nat) (vout : Nat) (err : Nat)
  /-- SEND_BYTE (R423): A PMB_XFER START with KIND 0 sends a byte command. -/
  | sendByte (k : Nat) (cmd : Nat) (err : Nat)
  /-- WRITE_BYTE (R423): A PMB_XFER START with KIND 1 writes a byte. -/
  | writeByte (k : Nat) (cmd : Nat) (err : Nat)
  /-- WRITE_WORD (R423): A PMB_XFER START with KIND 2 writes a word. -/
  | writeWord (k : Nat) (cmd : Nat) (err : Nat)
  /-- READ_BYTE (R423): A PMB_XFER START with KIND 3 reads a byte. -/
  | readByte (k : Nat) (cmd : Nat) (err : Nat) (data : Nat)
  /-- READ_WORD (R423): A PMB_XFER START with KIND 4 reads a word. -/
  | readWord (k : Nat) (cmd : Nat) (err : Nat) (data : Nat)
  /-- PMBUS_TIMEOUT (R422): A PMBus transaction longer than 35 ms ends with a timeout and reports PMU_PMBUS. -/
  | pmbusTimeout
  /-- VBAT_CHECK (R425): Every 1 s VBAT is checked and PMU_VBAT_LOW reported below 2.2 V. -/
  | vbatCheck (mv : Nat)
  /-- POWER_ON (R428): Internal reset is released 1 ms after all supplies are within limits and RESET_N is high. -/
  | powerOn (pin : Bool) (e : ResetEnv)
  /-- SUPPLY_TRIP (R429): A monitored supply below its trip level for 1 µs drives safe outputs and resets with POR. -/
  | supplyTrip (e : TripEnv)
  /-- TEST_EN (R454): TEST_EN high holds internal reset and drives outputs to safe levels. -/
  | testEn (high : Bool) (cut : PulseCut)
  /-- VDD_WEIR_LOSS (R258): VDD_WEIR leaving its limits stops the Weir, clears WEIR_UP and leaves the cistern on VBAT. -/
  | vddWeirLoss
  /-- WX_RESTORE (R260): After every WX input has been valid for 10 µs, the Weir clears WX_LOST and counting resumes. -/
  | wxRestore
  /-- PCIE_LINK_UP (R345): The PCIe link comes up on the root and LINK.UP sets, so the host interface can be enabled again. -/
  | pcieLinkUp (width : Nat) (speed : Nat)
  /-- MACHINE_TIMER (R376): MTIME reaching MTIMECMP makes the core's timer interrupt pending. -/
  | machineTimer
  /-- X32_LOSS (R409): A missing or stopped 32.768 kHz crystal clears CLK_STAT.X32_OK and stops the RTC. -/
  | x32Loss
  /-- FIN_DONE (R401): A finalise ends after its digest, lock and any D_SELF bits are burned, writing FIN_STAT and clearing PGM_BUSY. -/
  | finDone (burn : List (Nat × Nat))
  /-- ACK_SEND (R289): When 500 ns have passed since the last unacknowledged in-order packet, the receiver sends ACK. -/
  | ackSend (p : Nat)
  /-- CREDIT_SEND (R290): At least every 1 µs a port sends a CREDIT packet with its freed-buffer counts. -/
  | creditSend (p : Nat)
  deriving DecidableEq, Repr

end Sys2Proof
end

