-- ==== Sys2Proof/Machine/Bits.lean ====
section
/-! DEFINITION. Bit fields of words, bytes and words of structures in memory (R12), small arithmetic, and the CRC-32 of
IEEE 802.3 that programs, packets and dumps use. -/

namespace Sys2Proof.Machine

/-- All ones in the low w bits of a word. -/
def lowMask (w : Nat) : Word := BitVec.ofNat 32 (2 ^ w - 1)

/-- The field of width w whose lowest bit is lo. -/
def fieldOf (x : Word) (lo w : Nat) : Nat := (x.toNat >>> lo) % 2 ^ w

/-- The word with that field replaced by the low w bits of v. -/
def withField (x : Word) (lo w v : Nat) : Word :=
  (x &&& ~~~(lowMask w <<< lo)) ||| ((BitVec.ofNat 32 v &&& lowMask w) <<< lo)

/-- A word from a number, modulo 2^32. -/
def w32 (n : Nat) : Word := BitVec.ofNat 32 n

/-- Bit i of a number. -/
def bit (n i : Nat) : Bool := n.testBit i

/-- A truth value as a number. -/
def nat01 (b : Bool) : Nat := if b then 1 else 0

/-- The number with bit i set or cleared. -/
def setBitTo (n i : Nat) (b : Bool) : Nat :=
  if n.testBit i == b then n else if b then n + 2 ^ i else n - 2 ^ i

/-- Number of set bits among bits 0 to w − 1. -/
def popcount (w n : Nat) : Nat := (List.range w).countP (n.testBit ·)

/-- The set bits of n below w, ascending. -/
def bitsOf (w n : Nat) : List Nat := (List.range w).filter (n.testBit ·)

/-- A number of width w read as a two's-complement integer. -/
def signedOf (w n : Nat) : Int :=
  let m := n % 2 ^ w
  if m < 2 ^ (w - 1) then (m : Int) else (m : Int) - (2 ^ w : Nat)

/-- The two's-complement code of an integer in w bits (wrapping). -/
def unsignedOf (w : Nat) (z : Int) : Nat := (z % ((2 ^ w : Nat) : Int)).toNat

/-- An integer clamped to lo … hi. -/
def clampInt (lo hi z : Int) : Int := if z < lo then lo else if hi < z then hi else z

/-- A number clamped to lo … hi. -/
def clampNat (lo hi n : Nat) : Nat := if n < lo then lo else if hi < n then hi else n

/-- Zero is treated as one: many time fields of spec/ say so. -/
def oneIfZero (n : Nat) : Nat := if n = 0 then 1 else n

/-- Rounding a quotient to the nearest integer, a half away from zero; 0 for a zero divisor. -/
def roundDiv (a b : Int) : Int :=
  if b = 0 then 0
  else
    let q := (2 * a.natAbs + b.natAbs) / (2 * b.natAbs)
    if (a < 0) == (b < 0) then (q : Int) else -(q : Int)

/-- The four bytes of a word, lowest address first (R12: little-endian). -/
def wordBytes (w : Word) : List Byte :=
  [w.extractLsb' 0 8, w.extractLsb' 8 8, w.extractLsb' 16 8, w.extractLsb' 24 8]

/-- The bytes of a list of words in address order. -/
def wordsBytes (ws : List Word) : List Byte := ws.flatMap wordBytes

/-- The little-endian number of a list of bytes. -/
def bytesNat : List Byte → Nat
  | [] => 0
  | b :: t => b.toNat + 256 * bytesNat t

/-- The low n bytes of a number, lowest address first. -/
def natBytes : Nat → Nat → List Byte
  | 0, _ => []
  | n + 1, v => BitVec.ofNat 8 v :: natBytes n (v / 256)

/-- n words of a list of bytes, missing bytes read as 0. -/
def bytesWords : Nat → List Byte → List Word
  | 0, _ => []
  | n + 1, l => w32 (bytesNat (l.take 4)) :: bytesWords n (l.drop 4)

/-- Word i of a structure, 0 beyond its end. -/
def wordAt (ws : List Word) (i : Nat) : Word := ws.getD i 0#32

/-- A field of word i of a structure. -/
def wf (ws : List Word) (i lo w : Nat) : Nat := fieldOf (wordAt ws i) lo w

/-- One bit of the reflected CRC-32. -/
def crc32Bit (c : Nat) : Nat := if c % 2 = 1 then (c / 2) ^^^ 0xEDB88320 else c / 2

/-- One byte of the reflected CRC-32 (polynomial 0x04C1_1DB7). -/
def crc32Byte (c : Nat) (b : Byte) : Nat :=
  let c0 := c ^^^ b.toNat
  crc32Bit (crc32Bit (crc32Bit (crc32Bit (crc32Bit (crc32Bit (crc32Bit (crc32Bit c0)))))))

/-- The CRC-32 of IEEE 802.3: initial value 0xFFFF_FFFF, reflected, final XOR 0xFFFF_FFFF
(spec/02_compositor.md, The layer program). -/
def crc32 (l : List Byte) : Nat := (l.foldl crc32Byte 0xFFFFFFFF) ^^^ 0xFFFFFFFF

/-- The CRC-32 over words in address order. -/
def crc32Words (ws : List Word) : Nat := crc32 (wordsBytes ws)

/-- Element i of a list replaced by f of it; a list shorter than that stays. -/
def modAt {α : Type} (l : List α) (i : Nat) (f : α → α) : List α :=
  match l, i with
  | [], _ => []
  | x :: t, 0 => f x :: t
  | x :: t, i + 1 => x :: modAt t i f

/-- Add a member to an ascending list without repeats. -/
def insertAsc (l : List Nat) (x : Nat) : List Nat :=
  match l with
  | [] => [x]
  | y :: t => if x < y then x :: y :: t else if x = y then y :: t else y :: insertAsc t x

/-- Is the list free of anything but members of 0 … n − 1 once? Used for small permutations. -/
def isPermOfRange (n : Nat) (l : List Nat) : Bool :=
  l.length == n && (List.range n).all (l.contains ·)

end Sys2Proof.Machine
end

