-- ==== Sys2Proof/Machine/Crypto.lean ====
section
/-! DEFINITION. The algorithms that spec/ names by their standards: SHA-256 (FIPS 180-4), HMAC-SHA-256 (FIPS 198-1), the
8-byte digest of R391, and ECDSA verification with P-256 (FIPS 186-4). -/

namespace Sys2Proof.Machine

/-! SHA-256 -/

/-- The prime numbers below 312, the 64 that FIPS 180-4 takes its constants from: 312 is less than the square of 18. -/
def shaPrimes : List Nat :=
  (List.range 312).filter (fun n => 2 ≤ n && (List.range 16).all (fun d => n % (d + 2) != 0 || n == d + 2))

/-- The whole part of the k-th root of v, with bits below 2^n to be found and r found so far. -/
def rootFloor (k v : Nat) : Nat → Nat → Nat
  | 0, r => r
  | n + 1, r => rootFloor k v n (if (r + 2 ^ n) ^ k ≤ v then r + 2 ^ n else r)

/-- The first 32 bits of the fraction of the k-th root of p. -/
def rootFraction (k p : Nat) : Word := w32 (rootFloor k (p * 2 ^ (32 * k)) 37 0)

/-- Round constants: from the cube roots of the 64 primes. -/
def shaK : List Word := shaPrimes.map (rootFraction 3)

/-- Initial hash value: from the square roots of the first 8. -/
def shaInit : List Word := (shaPrimes.take 8).map (rootFraction 2)

/-- A big-endian word of four bytes. -/
def beWord (l : List Byte) : Word := w32 (bytesNat (l.take 4).reverse)

/-- The next words of a message schedule held newest first. -/
def shaExtend : Nat → List Word → List Word
  | 0, w => w
  | n + 1, w =>
    let a := w.getD 1 0#32
    let b := w.getD 14 0#32
    let s1 := a.rotateRight 17 ^^^ a.rotateRight 19 ^^^ (a >>> 10)
    let s0 := b.rotateRight 7 ^^^ b.rotateRight 18 ^^^ (b >>> 3)
    shaExtend n ((s1 + w.getD 6 0#32 + s0 + w.getD 15 0#32) :: w)

/-- One round on the working variables a … h. -/
def shaRound (v : List Word) (kw : Word × Word) : List Word :=
  let g := fun i => v.getD i 0#32
  let s1 := (g 4).rotateRight 6 ^^^ (g 4).rotateRight 11 ^^^ (g 4).rotateRight 25
  let ch := (g 4 &&& g 5) ^^^ (~~~(g 4) &&& g 6)
  let t1 := g 7 + s1 + ch + kw.1 + kw.2
  let s0 := (g 0).rotateRight 2 ^^^ (g 0).rotateRight 13 ^^^ (g 0).rotateRight 22
  let maj := (g 0 &&& g 1) ^^^ (g 0 &&& g 2) ^^^ (g 1 &&& g 2)
  [t1 + s0 + maj, g 0, g 1, g 2, g 3 + t1, g 4, g 5, g 6]

/-- The 16 words of a 64-byte block, newest first. -/
def blockWords : Nat → List Byte → List Word → List Word
  | 0, _, acc => acc
  | n + 1, l, acc => blockWords n (l.drop 4) (beWord l :: acc)

/-- One block into the hash value. -/
def shaBlock (h : List Word) (blk : List Byte) : List Word :=
  let w := (shaExtend 48 (blockWords 16 blk [])).reverse
  (h.zip ((shaK.zip w).foldl shaRound h)).map (fun p => p.1 + p.2)

/-- n blocks. -/
def shaBlocks : Nat → List Byte → List Word → List Word
  | 0, _, h => h
  | n + 1, l, h => shaBlocks n (l.drop 64) (shaBlock h (l.take 64))

/-- Bytes of a number, most significant first. -/
def beBytes (n v : Nat) : List Byte := (natBytes n v).reverse

/-- SHA-256: hash byte 0 first. -/
def sha256 (l : List Byte) : List Byte :=
  let pad := (119 - l.length % 64) % 64
  let m := l ++ [0x80#8] ++ List.replicate pad 0#8 ++ beBytes 8 (8 * l.length)
  (shaBlocks (m.length / 64) m shaInit).flatMap (fun w => beBytes 4 w.toNat)

/-- HMAC-SHA-256 with a key of at most 64 bytes. -/
def hmac (key msg : List Byte) : List Byte :=
  let k := key ++ List.replicate (64 - key.length) 0#8
  sha256 (k.map (· ^^^ 0x5c#8) ++ sha256 (k.map (· ^^^ 0x36#8) ++ msg))

/-- The digest of R391: the first 8 bytes of the hash as a number, 0 replaced by 1. -/
def digest64 (l : List Byte) : Nat := oneIfZero (bytesNat ((sha256 l).take 8))

/-! ECDSA with P-256 -/

def p256P : Nat := 0xffffffff00000001000000000000000000000000ffffffffffffffffffffffff
def p256N : Nat := 0xffffffff00000000ffffffffffffffffbce6faada7179e84f3b9cac2fc632551
def p256B : Nat := 0x5ac635d8aa3a93e7b3ebbd55769886bc651d06b0cc53b0f63bce3c3e27d2604b
def p256G : Nat × Nat := (0x6b17d1f2e12c4247f8bce6e563a440f277037d812deb33a0f4a13945d898c296,
  0x4fe342e2fe1a7f9b8ee7eb4a7c0f9e162bce33576b315ececbb6406837bf51f5)

/-- b ^ e modulo m, over the low bits of e. -/
def powMod (m : Nat) : Nat → Nat → Nat → Nat
  | 0, _, _ => 1 % m
  | n + 1, b, e =>
    let r := powMod m n (b * b % m) (e / 2)
    if e % 2 = 1 then b * r % m else r

/-- The inverse modulo a prime below 2^256 (Fermat). -/
def invMod (m a : Nat) : Nat := powMod m 256 (a % m) (m - 2)

/-- Difference modulo p. -/
def subP (a b : Nat) : Nat := (a + p256P - b % p256P) % p256P

/-- Addition of points; none is the point at infinity. -/
def ecAdd (a b : Option (Nat × Nat)) : Option (Nat × Nat) :=
  match a, b with
  | none, q => q
  | q, none => q
  | some p, some q =>
    if p.1 = q.1 ∧ (p.2 + q.2) % p256P = 0 then none
    else
      let l := if p.1 = q.1 then (3 * p.1 * p.1 + p256P - 3) % p256P * invMod p256P (2 * p.2) % p256P
        else subP q.2 p.2 * invMod p256P (subP q.1 p.1) % p256P
      let x := subP (subP (l * l) p.1) q.1
      some (x, subP (l * subP p.1 x) p.2)

/-- k times a point, over the low n bits of k. -/
def ecMul : Nat → Nat → Option (Nat × Nat) → Option (Nat × Nat)
  | 0, _, _ => none
  | n + 1, k, p =>
    let r := ecMul n (k / 2) (ecAdd p p)
    if k % 2 = 1 then ecAdd p r else r

/-- Is the point a public key: on the curve, within range? -/
def onCurve (q : Nat × Nat) : Bool :=
  q.1 < p256P && q.2 < p256P && q.2 * q.2 % p256P == (q.1 * q.1 * q.1 + (p256P - 3) * q.1 + p256B) % p256P

/-- Does the signature (r, s) over a message verify under public key q? -/
def ecdsaVerify (q : Nat × Nat) (r s : Nat) (msg : List Byte) : Bool :=
  if onCurve q && 1 ≤ r && r < p256N && 1 ≤ s && s < p256N then
    let e := bytesNat (sha256 msg).reverse
    let w := invMod p256N s
    match ecAdd (ecMul 256 (e * w % p256N) (some p256G)) (ecMul 256 (r * w % p256N) (some q)) with
    | some x => x.1 % p256N == r
    | none => false
  else false

end Sys2Proof.Machine
end

