-- ==== Sys2Proof/Config.lean ====
section
/-! DEFINITION. The free values: what the spec leaves undefined while the block goes on. Each is an opaque constant
without a body, so a claim holds whatever it is (log entry 1). -/

namespace Sys2Proof

/-- Contents of line buffer b, head h, position j, at the start of the line with this number: undefined by R43. -/
opaque Config.lineBuffer : (line b h j : Nat) → Code

/-- The bytes of the boot ROM: not in the spec. -/
opaque Config.romByte : Nat → Byte

/-- The management core's pc when the NMI interrupts it: the core's instructions are not commands of this block. -/
opaque Config.corePc : Nat → Word

/-- SKEW_SIZE for a ROWS value that names no valid rows: R82 and R465 state none. -/
opaque Config.skewSize : (nrows rgrp : Nat) → Nat

/-- A feedback count in sample units when CAL.AMP_DIV.DIV is 0: R236 divides by it. -/
opaque Config.feedbackNoDiv : Int → Int

/-- rp of a result when PER_B is 0 and AMP_B is not: R212 takes it from R209, which then divides by 0. -/
opaque Config.ratioNoPeriod : (fPer : Nat) → Nat

/-- The speed of a window whose edge times span no time, or a negative one after a step of fabric time: R176 divides
by it. Applied to the counts passed and the span. -/
opaque Config.speedNoSpan : (counts span : Int) → Int

/-- Whether a phase correction that lies between two units rounds up: R243 states no rounding. Applied to the exact
value in units. -/
opaque Config.phaseUp : Rat → Bool

/-- GAIN of a channel run whose measured path gain is 0: R238 divides by it. Applied to TGT. -/
opaque Config.gainNoSwing : Nat → Nat

/-- Output voltage in mV of a supply whose DIV is 0, for a reading in µV: R419 divides by it. -/
opaque Config.hvNoDiv : Nat → Nat

/-- Check bits of 8 bytes of DRAM that are not all zero (R369): the spec gives no code. -/
opaque Config.checkBits : Nat → Byte

/-- thr of a rail run when TGT_A and TGT_B are both 0: R247 divides by their sum. -/
opaque Config.railThreshold : Unit → Nat

/-- Whether rail B counts as the one with the larger target when TGT_A = TGT_B: R247 does not say. Applied to the
common target. -/
opaque Config.railTie : Nat → Bool

/-- Word i of the n-th nonce that the Weir draws from its entropy source (R273). -/
opaque Config.nonce : (n i : Nat) → Word

/-- What the fuse pulses of a Weir event have left when VDD_WEIR fails in it, for each pulse begun: for each copy 0 blank, 1
readable at normal margin, 2 at the tight margin (row 5 of R282). Applied to the draw. -/
opaque Config.cutPulses : Nat → List (Nat × Nat)

/-- The Weir's ROM version (R281): not in the spec. -/
opaque Config.weirRom : Unit → Word

/-- What word i of the parameter set counts as for the length rules while no set is loaded: R261 uses SCALE, WX_DIR and
PRINT_GAP, and R264 counts steps without a set. -/
opaque Config.noParams : (i : Nat) → Word

/-- Words of an event record that name the block in force when there is none (R280). -/
opaque Config.noBlock : (i : Nat) → Word

/-- Whether a port in DETECT or TRAIN is ready to move on (R284): the spec gives no instant. Applied to the clock tick and the
port. -/
opaque Config.trainMoves : (tick port : Nat) → Bool

/-- Whether the core's data cache keeps its lines through a management-core-only reset: R381 does not say. -/
opaque Config.cacheKept : Nat → Bool

/-- Which line of the core's data cache gives way to a new one, an index at or above the number of lines for none: the
spec names no associativity and no replacement rule. -/
opaque Config.cacheVictim : Nat → Nat

end Sys2Proof
end

