-- ==== Sys2Proof/Machine/RegReset.lean ====
section
/-! DEFINITION. The reset values of the registers that do not reset to 0, from the Reset column of the register tables
of spec/ (R11) and, for ERR.SRC_CFG_s, from R382. Where a table gives no number (CHIP_ID, RST_CAUSE, the MSI-X table),
the value is the model's: DESIGN CHOICE, log entries 3 to 5. Registers that are not listed reset to 0. -/

namespace Sys2Proof.Machine

/-- Registers at base, base + stride, … (count of them) that reset to one value. -/
structure ResetRow where
  base : Nat
  stride : Nat
  count : Nat
  value : Nat
  deriving DecidableEq, Repr

/-- Does the row cover address a? -/
def ResetRow.covers (r : ResetRow) (a : Nat) : Bool :=
  r.base ≤ a && (a - r.base) % r.stride == 0 && (a - r.base) / r.stride < r.count

/-- The registers of the tables with a reset value other than 0; the first row that covers an address gives it. -/
def resetRows : List ResetRow := [
  ⟨0x4003080C, 4, 1, 0x80⟩ /- SRC_CFG of WDT_WARN -/,
  ⟨0x40030814, 4, 1, 0x80⟩ /- SRC_CFG of MGMT_LOAD -/,
  ⟨0x40030818, 4, 1, 0x80⟩ /- SRC_CFG of EVQ_OVF -/,
  ⟨0x4003081C, 4, 1, 0x80⟩ /- SRC_CFG of JLOG_OVF -/,
  ⟨0x40030820, 4, 1, 0xB3⟩ /- SRC_CFG of TCM_UE -/,
  ⟨0x40030828, 4, 1, 0x82⟩ /- SRC_CFG of SUMP_DONE -/,
  ⟨0x40030904, 4, 1, 0x93⟩ /- SRC_CFG of MEM_SRAM_CE -/,
  ⟨0x40030980, 4, 1, 0x93⟩ /- SRC_CFG of FAB_LINK_DOWN -/,
  ⟨0x40030994, 4, 1, 0x93⟩ /- SRC_CFG of FAB_TIME_STEP -/,
  ⟨0x400309C0, 4, 1, 0x80⟩ /- SRC_CFG of CMP_STALL -/,
  ⟨0x40030A00, 4, 1, 0x93⟩ /- SRC_CFG of LQ_UNDERRUN -/,
  ⟨0x40030A40, 4, 1, 0x93⟩ /- SRC_CFG of HPT_XFER_LATE -/,
  ⟨0x40030A80, 4, 1, 0x93⟩ /- SRC_CFG of WFE_REFUSED -/,
  ⟨0x40030AA8, 4, 1, 0x93⟩ /- SRC_CFG of WFE_STB -/,
  ⟨0x40030AC0, 4, 1, 0x93⟩ /- SRC_CFG of FIRE_PRED_LOST -/,
  ⟨0x40030AC4, 4, 1, 0x93⟩ /- SRC_CFG of FIRE_OVERSPEED -/,
  ⟨0x40030AC8, 4, 1, 0x93⟩ /- SRC_CFG of FIRE_ROW_REFUSED -/,
  ⟨0x40030AD0, 4, 1, 0x93⟩ /- SRC_CFG of FIRE_LATE -/,
  ⟨0x40030B00, 4, 1, 0x93⟩ /- SRC_CFG of POS_SKIP -/,
  ⟨0x40030B40, 4, 1, 0x93⟩ /- SRC_CFG of NH_DEAD -/,
  ⟨0x40030B44, 4, 1, 0x80⟩ /- SRC_CFG of NH_CLASS -/,
  ⟨0x40030B80, 4, 1, 0x93⟩ /- SRC_CFG of CAL_DEFER -/,
  ⟨0x40000000, 4, 1, 0x6416B100⟩ /- SYS.CHIP_ID -/,
  ⟨0x40000010, 4, 1, 0x1⟩ /- SYS.RST_CAUSE -/,
  ⟨0x40000028, 4, 1, 0x8000000⟩ /- SYS.NMI_VEC -/,
  ⟨0x40000040, 4, 1, 0x3E8⟩ /- SYS.WDT_CTL -/,
  ⟨0x40000050, 4, 1, 0xE666000A⟩ /- SYS.LOAD_CFG -/,
  ⟨0x40000068, 4, 1, 0xFFFFFFFF⟩ /- SYS.MTIMECMP_LO -/,
  ⟨0x4000006C, 4, 1, 0xFFFFFFFF⟩ /- SYS.MTIMECMP_HI -/,
  ⟨0x40000098, 4, 1, 0x40⟩ /- SYS.SUMP_SIZE -/,
  ⟨0x4000009C, 4, 1, 0x320001⟩ /- SYS.SUMP_CTL -/,
  ⟨0x4001000C, 4, 1, 0x1⟩ /- PMU.WAKE_EN -/,
  ⟨0x40010014, 4, 1, 0xC7⟩ /- PMU.CLK_STAT -/,
  ⟨0x4001001C, 4, 1, 0x3FF⟩ /- PMU.DOM_STAT -/,
  ⟨0x40010028, 4, 1, 0xFFFFFFFF⟩ /- PMU.RTC_ALM_LO -/,
  ⟨0x4001002C, 4, 1, 0xFFFF⟩ /- PMU.RTC_ALM_HI -/,
  ⟨0x40010100, 64, 4, 0x1900⟩ /- PMU.HV_CTL -/,
  ⟨0x40010104, 64, 4, 0x5DC0⟩ /- PMU.HV_SET -/,
  ⟨0x40010108, 64, 4, 0xA⟩ /- PMU.HV_RAMP -/,
  ⟨0x4001010C, 64, 4, 0x141E0FA0⟩ /- PMU.HV_LIM -/
] ++ [
  ⟨0x40010110, 64, 4, 0x44444⟩ /- PMU.HV_SENSE -/,
  ⟨0x40010114, 64, 4, 0x2710⟩ /- PMU.HV_ISENSE -/,
  ⟨0x40010200, 4, 1, 0x640000⟩ /- PMU.PMB_CTL -/,
  ⟨0x40020004, 4, 1, 0x100⟩ /- OTP.LC_STATE of a blank array -/,
  ⟨0x40020010, 4, 1, 0x314⟩ /- OTP.PGM_CFG -/,
  ⟨0x4002003C, 4, 1, 0x1⟩ /- OTP.KEY_OPEN -/,
  ⟨0x40020078, 4, 3, 0x1⟩ /- OTP.REGION_STAT of the sealed regions -/,
  ⟨0x40040008, 4, 1, 0x64⟩ /- DMA.PD_QUIESCE_TMO -/,
  ⟨0x40050030, 4, 1, 0xA⟩ /- MEMC.MARCH_CTL -/,
  ⟨0x40060010, 4, 1, 0x8000000A⟩ /- DRAMC.SCRUB_CFG -/,
  ⟨0x40080004, 4, 1, 0x2⟩ /- HOSTIF.STATUS -/,
  ⟨0x4008000C, 4, 1, 0x640001⟩ /- HOSTIF.CPL_MOD -/,
  ⟨0x40080010, 4, 1, 0x640010⟩ /- HOSTIF.EVT_MOD -/,
  ⟨0x40080028, 4, 1, 0x4⟩ /- HOSTIF.HR_SIZE -/,
  ⟨0x40080048, 4, 1, 0x4⟩ /- HOSTIF.CPL_SIZE -/,
  ⟨0x40080068, 4, 1, 0x4⟩ /- HOSTIF.TR_SIZE -/,
  ⟨0x40081000, 32, 248, 0x10004⟩ /- HOSTIF.SCTX_CFG -/,
  ⟨0x4009000C, 16, 64, 0x1⟩ /- MSIX_TABLE vector control -/,
  ⟨0x400A0004, 4, 1, 0x200⟩ /- FAB.STATUS -/,
  ⟨0x400A0014, 4, 1, 0x103⟩ /- FAB.ACCESS -/,
  ⟨0x400A0018, 4, 1, 0x640032⟩ /- FAB.TMO_CFG -/,
  ⟨0x400A001C, 4, 1, 0x28⟩ /- FAB.IN_LIMIT -/,
  ⟨0x400A0020, 4, 1, 0x640404⟩ /- FAB.TIME_CFG -/,
  ⟨0x400A0038, 4, 1, 0xC00001F4⟩ /- FAB.SLUICE_CFG -/,
  ⟨0x400A0100, 64, 4, 0x7⟩ /- FAB.PORT_CTL -/,
  ⟨0x400A0400, 4, 64, 0x44⟩ /- FAB.ROUTE -/,
  ⟨0x40100008, 4, 1, 0x50⟩ /- CMP.CFG -/,
  ⟨0x4010000C, 4, 1, 0x30⟩ /- CMP.COMP_CFG -/,
  ⟨0x4012000C, 4, 1, 0x32⟩ /- LQ.FLUSH_TMO -/,
  ⟨0x40120100, 64, 16, 0x10⟩ /- LQ.CAP -/,
  ⟨0x40120104, 64, 16, 0x10⟩ /- LQ.CFG -/,
  ⟨0x40141008, 512, 16, 0x4⟩ /- HPT.CLK -/,
  ⟨0x4014100C, 512, 16, 0xE4⟩ /- HPT.LANES -/,
  ⟨0x40141010, 512, 16, 0x140808⟩ /- HPT.LAT -/,
  ⟨0x40141014, 512, 16, 0x11⟩ /- HPT.ROWS -/,
  ⟨0x40141018, 512, 16, 0xFAC688⟩ /- HPT.ROWPERM -/,
  ⟨0x40181000, 128, 48, 0x80⟩ /- WFE.CH_CTL -/,
  ⟨0x40181010, 128, 48, 0x800⟩ /- WFE.SLOT_LIMIT -/,
  ⟨0x40181014, 128, 48, 0x1000⟩ /- WFE.I_SHORT -/,
  ⟨0x40181018, 128, 48, 0x80021000⟩ /- WFE.OPEN_CFG -/,
  ⟨0x40181020, 128, 48, 0x8000555⟩ /- WFE.TRACK_CFG -/,
  ⟨0x40181024, 128, 48, 0x80004⟩ /- WFE.PD_CFG -/
] ++ [
  ⟨0x40181030, 128, 48, 0x8000⟩ /- WFE.GAIN_EFF -/,
  ⟨0x40181048, 128, 48, 0x20002000⟩ /- WFE.FB_LAST -/,
  ⟨0x40183000, 64, 16, 0x12⟩ /- WFE.HEAD_CTL -/,
  ⟨0x40183004, 64, 16, 0x4⟩ /- WFE.HEAD_STAT -/,
  ⟨0x401C0000, 4, 1, 0x4⟩ /- FIRE.CTL -/,
  ⟨0x401C0008, 4, 1, 0xC82710⟩ /- FIRE.CFG -/,
  ⟨0x401C000C, 4, 1, 0x280003E8⟩ /- FIRE.PRED_CFG -/,
  ⟨0x401C0010, 4, 1, 0x100⟩ /- FIRE.REV_CFG -/,
  ⟨0x401C1004, 128, 16, 0x1⟩ /- FIRE.HSTAT -/,
  ⟨0x401E0100, 256, 4, 0x4104000⟩ /- POS.AX_CTL -/,
  ⟨0x401E013C, 256, 4, 0xA030FA0⟩ /- POS.RATE_CFG -/,
  ⟨0x401E0160, 256, 4, 0x4063⟩ /- POS.SER_CLK -/,
  ⟨0x401E0170, 256, 4, 0x85003E8⟩ /- POS.SER_TIME -/,
  ⟨0x401E0174, 256, 4, 0x1000⟩ /- POS.SER_MAP -/,
  ⟨0x40200008, 4, 1, 0x5A201313⟩ /- NH.CLASS_CFG -/,
  ⟨0x4020000C, 4, 1, 0x28E643⟩ /- NH.CLASS_CFG2 -/,
  ⟨0x40200010, 4, 1, 0x302818⟩ /- NH.DS_REF -/,
  ⟨0x4020001C, 4, 1, 0x640001⟩ /- NH.PUB_CFG -/,
  ⟨0x40200044, 4, 1, 0xA⟩ /- NH.RES_CFG -/,
  ⟨0x40201000, 128, 16, 0x11000⟩ /- NH.HCTL -/,
  ⟨0x40201020, 128, 16, 0x10000000⟩ /- NH.CLASS_CNT_C -/,
  ⟨0x40201028, 128, 16, 0x280⟩ /- NH.HEAT_SET -/,
  ⟨0x4020102C, 128, 16, 0x1000100⟩ /- NH.HEAT_PI -/,
  ⟨0x40201030, 128, 16, 0x3C003FF⟩ /- NH.HEAT_LIM -/,
  ⟨0x40201038, 128, 16, 0xFA00028⟩ /- NH.TH_LIM -/,
  ⟨0x4020103C, 128, 16, 0x12C0010⟩ /- NH.RISE_CFG -/,
  ⟨0x40220008, 4, 1, 0xA040030⟩ /- CAL.DT_CFG -/,
  ⟨0x4022000C, 4, 1, 0x4⟩ /- CAL.TP_CNT -/,
  ⟨0x40220010, 4, 1, 0x2300190⟩ /- CAL.TP_01 -/,
  ⟨0x40220014, 4, 1, 0x37002D0⟩ /- CAL.TP_23 -/,
  ⟨0x40220050, 4, 1, 0x81488000⟩ /- CAL.RAIL_TGT -/,
  ⟨0x40220054, 4, 1, 0x80000002⟩ /- CAL.RAIL_CFG -/,
  ⟨0x40220058, 4, 1, 0x100C040⟩ /- CAL.RAIL_LIM -/,
  ⟨0x40220060, 4, 1, 0x55555⟩ /- CAL.AMP_DIV -/,
  ⟨0x40220064, 4, 1, 0x7D0⟩ /- CAL.AMP_ISENSE -/,
  ⟨0x40220068, 4, 1, 0x1430D4⟩ /- CAL.REF_CFG -/,
  ⟨0x40220070, 4, 1, 0x8CCD7333⟩ /- CAL.LIM_GAIN -/,
  ⟨0x40220074, 4, 1, 0xA4⟩ /- CAL.LIM_GAIN2 -/,
  ⟨0x40220078, 4, 1, 0x20010000⟩ /- CAL.LIM_OFS -/,
  ⟨0x4022007C, 4, 1, 0x2904021⟩ /- CAL.LIM_FB -/
] ++ [
  ⟨0x40220080, 4, 1, 0x20000014⟩ /- CAL.LIM_DL -/,
  ⟨0x40220084, 4, 1, 0x40001000⟩ /- CAL.LIM_ENC -/,
  ⟨0x40220088, 4, 1, 0x40040010⟩ /- CAL.LIM_BASE -/,
  ⟨0x4022008C, 4, 1, 0x1F400064⟩ /- CAL.LIM_BASE_AMP -/,
  ⟨0x40220090, 4, 1, 0x4000040⟩ /- CAL.LIM_BASE_PER -/,
  ⟨0x40220094, 4, 1, 0x28F⟩ /- CAL.CELL_CFG -/,
  ⟨0x40220098, 4, 1, 0x64080001⟩ /- CAL.ENC_CFG -/,
  ⟨0x402200B4, 4, 1, 0x3⟩ /- CAL.REC_CTL -/,
  ⟨0x402200B8, 4, 1, 0x1⟩ /- CAL.REC_SEQ -/,
  ⟨0x40030800, 4, 256, 0xA3⟩ /- SRC_CFG, every other source -/
  ]

/-- The value of the register at address a after reset (R11). -/
def resetWord (a : Nat) : Word :=
  match resetRows.find? (·.covers a) with
  | some r => BitVec.ofNat 32 r.value
  | none => 0#32

end Sys2Proof.Machine
end

