-- ==== Sys2Proof/Machine/Regs1.lean ====
section
/-! DEFINITION. The register addresses and the bit fields of the blocks
SYS, PMU, OTP, ERR, DMA, MEMC, DRAMC, HOSTIF, FAB,
from the register and field tables of the chapters under spec/ (R4, R31). A name is BLOCK.REGISTER for the address
of a register and BLOCK.REGISTER.FIELD for a field; an indexed register takes its index letters as arguments. -/

namespace Sys2Proof.Machine

/-! SYS, from spec/14_management_errors.md -/
abbrev SYS.CHIP_ID : Nat := 0x40000000
abbrev SYS.CHIP_ID.PART : Fld := ⟨SYS.CHIP_ID, 16, 16⟩
abbrev SYS.CHIP_ID.STEP : Fld := ⟨SYS.CHIP_ID, 8, 8⟩
abbrev SYS.MGMT_CTL : Nat := 0x40000004
abbrev SYS.MGMT_CTL.ARM_EN : Fld := ⟨SYS.MGMT_CTL, 0, 1⟩
abbrev SYS.TBL_SWAP : Nat := 0x40000008
abbrev SYS.TBL_SWAP.CAL : Fld := ⟨SYS.TBL_SWAP, 3, 1⟩
abbrev SYS.TBL_SWAP.RAIL : Fld := ⟨SYS.TBL_SWAP, 2, 1⟩
abbrev SYS.TBL_SWAP.COMP : Fld := ⟨SYS.TBL_SWAP, 1, 1⟩
abbrev SYS.TBL_SWAP.HEALTH : Fld := ⟨SYS.TBL_SWAP, 0, 1⟩
abbrev SYS.DRAM_WIN : Nat := 0x4000000C
abbrev SYS.DRAM_WIN.PAGE : Fld := ⟨SYS.DRAM_WIN, 0, 6⟩
abbrev SYS.RST_CAUSE : Nat := 0x40000010
abbrev SYS.RST_CAUSE.SW_CORE : Fld := ⟨SYS.RST_CAUSE, 9, 1⟩
abbrev SYS.RST_CAUSE.WDT : Fld := ⟨SYS.RST_CAUSE, 8, 1⟩
abbrev SYS.RST_CAUSE.DRY_WAKE : Fld := ⟨SYS.RST_CAUSE, 4, 1⟩
abbrev SYS.RST_CAUSE.LIFECYCLE : Fld := ⟨SYS.RST_CAUSE, 3, 1⟩
abbrev SYS.RST_CAUSE.SW_DEVICE : Fld := ⟨SYS.RST_CAUSE, 2, 1⟩
abbrev SYS.RST_CAUSE.PIN : Fld := ⟨SYS.RST_CAUSE, 1, 1⟩
abbrev SYS.RST_CAUSE.POR : Fld := ⟨SYS.RST_CAUSE, 0, 1⟩
abbrev SYS.RST_CTL : Nat := 0x40000014
abbrev SYS.RST_CTL.DEVICE : Fld := ⟨SYS.RST_CTL, 31, 1⟩
abbrev SYS.RST_CTL.CORE : Fld := ⟨SYS.RST_CTL, 30, 1⟩
abbrev SYS.BOOT_STAT : Nat := 0x40000018
abbrev SYS.BOOT_STAT.RESTRICT : Fld := ⟨SYS.BOOT_STAT, 16, 1⟩
abbrev SYS.BOOT_STAT.FAIL : Fld := ⟨SYS.BOOT_STAT, 8, 8⟩
abbrev SYS.BOOT_STAT.STAGE : Fld := ⟨SYS.BOOT_STAT, 0, 8⟩
abbrev SYS.STATUS : Nat := 0x4000001C
abbrev SYS.STATUS.TCM_CE_CNT : Fld := ⟨SYS.STATUS, 16, 16⟩
abbrev SYS.STATUS.WRITE_IGNORED : Fld := ⟨SYS.STATUS, 0, 1⟩
abbrev SYS.IRQ_EN : Nat := 0x40000020
abbrev SYS.IRQ_EN.LINE : Fld := ⟨SYS.IRQ_EN, 0, 9⟩
abbrev SYS.IRQ_PEND : Nat := 0x40000024
abbrev SYS.IRQ_PEND.LINE : Fld := ⟨SYS.IRQ_PEND, 0, 9⟩
abbrev SYS.NMI_VEC : Nat := 0x40000028
abbrev SYS.NMI_VEC.ADDR : Fld := ⟨SYS.NMI_VEC, 2, 30⟩
abbrev SYS.NMI_EPC : Nat := 0x4000002C
abbrev SYS.NMI_CAUSE : Nat := 0x40000030
abbrev SYS.WDT_CTL : Nat := 0x40000040
abbrev SYS.WDT_CTL.EN : Fld := ⟨SYS.WDT_CTL, 31, 1⟩
abbrev SYS.WDT_CTL.LOCK : Fld := ⟨SYS.WDT_CTL, 30, 1⟩
abbrev SYS.WDT_CTL.ESC_N : Fld := ⟨SYS.WDT_CTL, 24, 4⟩
abbrev SYS.WDT_CTL.TMO : Fld := ⟨SYS.WDT_CTL, 0, 16⟩
abbrev SYS.WDT_KICK : Nat := 0x40000044
abbrev SYS.WDT_STAT : Nat := 0x40000048
abbrev SYS.WDT_STAT.REMAIN : Fld := ⟨SYS.WDT_STAT, 16, 16⟩
abbrev SYS.WDT_STAT.RESETS : Fld := ⟨SYS.WDT_STAT, 0, 8⟩
abbrev SYS.LOAD_CFG : Nat := 0x40000050
abbrev SYS.LOAD_CFG.LIM : Fld := ⟨SYS.LOAD_CFG, 16, 16⟩
abbrev SYS.LOAD_CFG.WIN : Fld := ⟨SYS.LOAD_CFG, 0, 8⟩
abbrev SYS.LOAD : Nat := 0x40000054
abbrev SYS.LOAD.BUSY : Fld := ⟨SYS.LOAD, 0, 16⟩
abbrev SYS.LOAD_PEAK : Nat := 0x40000058
abbrev SYS.LOAD_PEAK.BUSY : Fld := ⟨SYS.LOAD_PEAK, 0, 16⟩
abbrev SYS.MTIME_LO : Nat := 0x40000060
abbrev SYS.MTIME_HI : Nat := 0x40000064
abbrev SYS.MTIMECMP_LO : Nat := 0x40000068
abbrev SYS.MTIMECMP_HI : Nat := 0x4000006C
abbrev SYS.JLOG_0 : Nat := 0x40000070
abbrev SYS.JLOG_0.WORD : Fld := ⟨SYS.JLOG_0, 0, 32⟩
abbrev SYS.JLOG_1 : Nat := 0x40000074
abbrev SYS.JLOG_1.WORD : Fld := ⟨SYS.JLOG_1, 0, 32⟩
abbrev SYS.JLOG_STAT : Nat := 0x40000078
abbrev SYS.JLOG_STAT.CNT : Fld := ⟨SYS.JLOG_STAT, 0, 5⟩
abbrev SYS.JLOG_LOST : Nat := 0x4000007C
abbrev SYS.FW_DETAIL : Nat := 0x40000080
abbrev SYS.FW_DETAIL.DETAIL : Fld := ⟨SYS.FW_DETAIL, 0, 32⟩
abbrev SYS.FW_REPORT : Nat := 0x40000084
abbrev SYS.FW_REPORT.SEV : Fld := ⟨SYS.FW_REPORT, 28, 2⟩
abbrev SYS.FW_REPORT.INST : Fld := ⟨SYS.FW_REPORT, 16, 8⟩
abbrev SYS.SUMP_BASE_LO : Nat := 0x40000090
abbrev SYS.SUMP_BASE_LO.ADDR : Fld := ⟨SYS.SUMP_BASE_LO, 0, 32⟩
abbrev SYS.SUMP_BASE_HI : Nat := 0x40000094
abbrev SYS.SUMP_BASE_HI.ADDR : Fld := ⟨SYS.SUMP_BASE_HI, 0, 32⟩
abbrev SYS.SUMP_SIZE : Nat := 0x40000098
abbrev SYS.SUMP_SIZE.KB : Fld := ⟨SYS.SUMP_SIZE, 0, 11⟩
abbrev SYS.SUMP_CTL : Nat := 0x4000009C
abbrev SYS.SUMP_CTL.DONE : Fld := ⟨SYS.SUMP_CTL, 31, 1⟩
abbrev SYS.SUMP_CTL.NMI_REARM : Fld := ⟨SYS.SUMP_CTL, 30, 1⟩
abbrev SYS.SUMP_CTL.TMO : Fld := ⟨SYS.SUMP_CTL, 16, 8⟩
abbrev SYS.SUMP_CTL.RST_TMO : Fld := ⟨SYS.SUMP_CTL, 1, 15⟩
abbrev SYS.SUMP_CTL.GUARD : Fld := ⟨SYS.SUMP_CTL, 0, 1⟩
abbrev SYS.SUMP_STAT : Nat := 0x400000A0
abbrev SYS.SUMP_STAT.SEQ : Fld := ⟨SYS.SUMP_STAT, 16, 16⟩
abbrev SYS.SUMP_STAT.SECOND_FATAL : Fld := ⟨SYS.SUMP_STAT, 3, 1⟩
abbrev SYS.SUMP_STAT.TMO : Fld := ⟨SYS.SUMP_STAT, 2, 1⟩
abbrev SYS.SUMP_STAT.HW_DONE : Fld := ⟨SYS.SUMP_STAT, 1, 1⟩
abbrev SYS.SUMP_STAT.ACTIVE : Fld := ⟨SYS.SUMP_STAT, 0, 1⟩
abbrev SYS.IMG_DIGEST (k : Nat) : Nat := 0x400000C0 + 0x4 * k
abbrev SYS.IMG_DIGEST.WORD (k : Nat) : Fld := ⟨SYS.IMG_DIGEST k, 0, 32⟩
abbrev SYS.IMG_LEN : Nat := 0x400000E0
abbrev SYS.IMG_LEN.ITCM_LEN : Fld := ⟨SYS.IMG_LEN, 0, 18⟩
abbrev SYS.IMG_ENTRY : Nat := 0x400000E4
abbrev SYS.IMG_ENTRY.ENTRY : Fld := ⟨SYS.IMG_ENTRY, 0, 17⟩

/-! PMU, from spec/16_power_clocks.md -/
abbrev PMU.STATE_REQ : Nat := 0x40010000
abbrev PMU.STATE_REQ.GO : Fld := ⟨PMU.STATE_REQ, 31, 1⟩
abbrev PMU.STATE_REQ.TARGET : Fld := ⟨PMU.STATE_REQ, 0, 2⟩
abbrev PMU.STATE_STAT : Nat := 0x40010004
abbrev PMU.STATE_STAT.BUSY : Fld := ⟨PMU.STATE_STAT, 31, 1⟩
abbrev PMU.STATE_STAT.REFUSE : Fld := ⟨PMU.STATE_STAT, 24, 3⟩
abbrev PMU.STATE_STAT.LAST_WAKE : Fld := ⟨PMU.STATE_STAT, 8, 6⟩
abbrev PMU.STATE_STAT.ABORTED : Fld := ⟨PMU.STATE_STAT, 2, 1⟩
abbrev PMU.STATE_STAT.STATE : Fld := ⟨PMU.STATE_STAT, 0, 2⟩
abbrev PMU.STATUS : Nat := 0x40010008
abbrev PMU.STATUS.VBAT_LOW : Fld := ⟨PMU.STATUS, 5, 1⟩
abbrev PMU.STATUS.XTAL_FAIL : Fld := ⟨PMU.STATUS, 4, 1⟩
abbrev PMU.STATUS.PLL_FAIL : Fld := ⟨PMU.STATUS, 3, 1⟩
abbrev PMU.STATUS.REFUSED : Fld := ⟨PMU.STATUS, 2, 1⟩
abbrev PMU.STATUS.WRITE_IGNORED : Fld := ⟨PMU.STATUS, 1, 1⟩
abbrev PMU.STATUS.ON_BACKUP : Fld := ⟨PMU.STATUS, 0, 1⟩
abbrev PMU.WAKE_EN : Nat := 0x4001000C
abbrev PMU.WAKE_EN.TAMPER : Fld := ⟨PMU.WAKE_EN, 5, 1⟩
abbrev PMU.WAKE_EN.FAB : Fld := ⟨PMU.WAKE_EN, 4, 1⟩
abbrev PMU.WAKE_EN.PCIE : Fld := ⟨PMU.WAKE_EN, 3, 1⟩
abbrev PMU.WAKE_EN.WAKE_N : Fld := ⟨PMU.WAKE_EN, 2, 1⟩
abbrev PMU.WAKE_EN.RTC : Fld := ⟨PMU.WAKE_EN, 1, 1⟩
abbrev PMU.WAKE_EN.IRQ : Fld := ⟨PMU.WAKE_EN, 0, 1⟩
abbrev PMU.WAKE_STAT : Nat := 0x40010010
abbrev PMU.WAKE_STAT.TAMPER : Fld := ⟨PMU.WAKE_STAT, 5, 1⟩
abbrev PMU.WAKE_STAT.FAB : Fld := ⟨PMU.WAKE_STAT, 4, 1⟩
abbrev PMU.WAKE_STAT.PCIE : Fld := ⟨PMU.WAKE_STAT, 3, 1⟩
abbrev PMU.WAKE_STAT.WAKE_N : Fld := ⟨PMU.WAKE_STAT, 2, 1⟩
abbrev PMU.WAKE_STAT.RTC : Fld := ⟨PMU.WAKE_STAT, 1, 1⟩
abbrev PMU.WAKE_STAT.IRQ : Fld := ⟨PMU.WAKE_STAT, 0, 1⟩
abbrev PMU.CLK_STAT : Nat := 0x40010014
abbrev PMU.CLK_STAT.X32_OK : Fld := ⟨PMU.CLK_STAT, 7, 1⟩
abbrev PMU.CLK_STAT.XTAL_OK : Fld := ⟨PMU.CLK_STAT, 6, 1⟩
abbrev PMU.CLK_STAT.SER : Fld := ⟨PMU.CLK_STAT, 4, 1⟩
abbrev PMU.CLK_STAT.DDR : Fld := ⟨PMU.CLK_STAT, 3, 1⟩
abbrev PMU.CLK_STAT.TIME : Fld := ⟨PMU.CLK_STAT, 2, 1⟩
abbrev PMU.CLK_STAT.CORE : Fld := ⟨PMU.CLK_STAT, 1, 1⟩
abbrev PMU.CLK_STAT.SYS : Fld := ⟨PMU.CLK_STAT, 0, 1⟩
abbrev PMU.DOM_AUTO : Nat := 0x40010018
abbrev PMU.DOM_AUTO.DOM : Fld := ⟨PMU.DOM_AUTO, 0, 10⟩
abbrev PMU.DOM_STAT : Nat := 0x4001001C
abbrev PMU.DOM_STAT.GATED : Fld := ⟨PMU.DOM_STAT, 16, 10⟩
abbrev PMU.DOM_STAT.ON : Fld := ⟨PMU.DOM_STAT, 0, 10⟩
abbrev PMU.RTC_LO : Nat := 0x40010020
abbrev PMU.RTC_LO.COUNT : Fld := ⟨PMU.RTC_LO, 0, 32⟩
abbrev PMU.RTC_HI : Nat := 0x40010024
abbrev PMU.RTC_HI.COUNT : Fld := ⟨PMU.RTC_HI, 0, 16⟩
abbrev PMU.RTC_ALM_LO : Nat := 0x40010028
abbrev PMU.RTC_ALM_LO.ALM : Fld := ⟨PMU.RTC_ALM_LO, 0, 32⟩
abbrev PMU.RTC_ALM_HI : Nat := 0x4001002C
abbrev PMU.RTC_ALM_HI.ALM : Fld := ⟨PMU.RTC_ALM_HI, 0, 16⟩
abbrev PMU.TAMPER : Nat := 0x40010030
abbrev PMU.TAMPER.PIN : Fld := ⟨PMU.TAMPER, 1, 1⟩
abbrev PMU.TAMPER.LATCH : Fld := ⟨PMU.TAMPER, 0, 1⟩
abbrev PMU.HV_CTL (g : Nat) : Nat := 0x40010100 + 0x40 * g
abbrev PMU.HV_CTL.FSW (g : Nat) : Fld := ⟨PMU.HV_CTL g, 4, 10⟩
abbrev PMU.HV_CTL.EN (g : Nat) : Fld := ⟨PMU.HV_CTL g, 0, 1⟩
abbrev PMU.HV_SET (g : Nat) : Nat := 0x40010104 + 0x40 * g
abbrev PMU.HV_SET.MV (g : Nat) : Fld := ⟨PMU.HV_SET g, 0, 16⟩
abbrev PMU.HV_RAMP (g : Nat) : Nat := 0x40010108 + 0x40 * g
abbrev PMU.HV_RAMP.RATE (g : Nat) : Fld := ⟨PMU.HV_RAMP g, 0, 8⟩
abbrev PMU.HV_LIM (g : Nat) : Nat := 0x4001010C + 0x40 * g
abbrev PMU.HV_LIM.OV_MARGIN (g : Nat) : Fld := ⟨PMU.HV_LIM g, 24, 8⟩
abbrev PMU.HV_LIM.UV_MARGIN (g : Nat) : Fld := ⟨PMU.HV_LIM g, 16, 8⟩
abbrev PMU.HV_LIM.OC_LIM (g : Nat) : Fld := ⟨PMU.HV_LIM g, 0, 16⟩
abbrev PMU.HV_SENSE (g : Nat) : Nat := 0x40010110 + 0x40 * g
abbrev PMU.HV_SENSE.DIV (g : Nat) : Fld := ⟨PMU.HV_SENSE g, 0, 24⟩
abbrev PMU.HV_ISENSE (g : Nat) : Nat := 0x40010114 + 0x40 * g
abbrev PMU.HV_ISENSE.ISENSE_FS (g : Nat) : Fld := ⟨PMU.HV_ISENSE g, 0, 16⟩
abbrev PMU.HV_STAT (g : Nat) : Nat := 0x40010118 + 0x40 * g
abbrev PMU.HV_STAT.CAUSE (g : Nat) : Fld := ⟨PMU.HV_STAT g, 4, 3⟩
abbrev PMU.HV_STAT.FAULT (g : Nat) : Fld := ⟨PMU.HV_STAT g, 3, 1⟩
abbrev PMU.HV_STAT.ILIM (g : Nat) : Fld := ⟨PMU.HV_STAT g, 2, 1⟩
abbrev PMU.HV_STAT.RAMPING (g : Nat) : Fld := ⟨PMU.HV_STAT g, 1, 1⟩
abbrev PMU.HV_STAT.PGOOD (g : Nat) : Fld := ⟨PMU.HV_STAT g, 0, 1⟩
abbrev PMU.HV_MEAS (g : Nat) : Nat := 0x4001011C + 0x40 * g
abbrev PMU.HV_MEAS.V (g : Nat) : Fld := ⟨PMU.HV_MEAS g, 16, 16⟩
abbrev PMU.HV_MEAS.I (g : Nat) : Fld := ⟨PMU.HV_MEAS g, 0, 16⟩
abbrev PMU.PMB_CTL : Nat := 0x40010200
abbrev PMU.PMB_CTL.POLL : Fld := ⟨PMU.PMB_CTL, 16, 16⟩
abbrev PMU.PMB_CTL.PEC : Fld := ⟨PMU.PMB_CTL, 2, 1⟩
abbrev PMU.PMB_CTL.SPEED : Fld := ⟨PMU.PMB_CTL, 1, 1⟩
abbrev PMU.PMB_CTL.EN : Fld := ⟨PMU.PMB_CTL, 0, 1⟩
abbrev PMU.PMB_DEV (k : Nat) : Nat := 0x40010210 + 0x4 * k
abbrev PMU.PMB_DEV.EN (k : Nat) : Fld := ⟨PMU.PMB_DEV k, 31, 1⟩
abbrev PMU.PMB_DEV.ADDR (k : Nat) : Fld := ⟨PMU.PMB_DEV k, 0, 7⟩
abbrev PMU.PMB_STAT (k : Nat) : Nat := 0x40010220 + 0x4 * k
abbrev PMU.PMB_STAT.STATUS_WORD (k : Nat) : Fld := ⟨PMU.PMB_STAT k, 16, 16⟩
abbrev PMU.PMB_STAT.VOUT (k : Nat) : Fld := ⟨PMU.PMB_STAT k, 0, 16⟩
abbrev PMU.PMB_XFER : Nat := 0x40010230
abbrev PMU.PMB_XFER.START : Fld := ⟨PMU.PMB_XFER, 31, 1⟩
abbrev PMU.PMB_XFER.DEV : Fld := ⟨PMU.PMB_XFER, 28, 2⟩
abbrev PMU.PMB_XFER.KIND : Fld := ⟨PMU.PMB_XFER, 24, 3⟩
abbrev PMU.PMB_XFER.CMD : Fld := ⟨PMU.PMB_XFER, 0, 8⟩
abbrev PMU.PMB_DATA : Nat := 0x40010234
abbrev PMU.PMB_DATA.DATA : Fld := ⟨PMU.PMB_DATA, 0, 16⟩
abbrev PMU.PMB_XSTAT : Nat := 0x40010238
abbrev PMU.PMB_XSTAT.TMO : Fld := ⟨PMU.PMB_XSTAT, 4, 1⟩
abbrev PMU.PMB_XSTAT.PEC_ERR : Fld := ⟨PMU.PMB_XSTAT, 3, 1⟩
abbrev PMU.PMB_XSTAT.NACK : Fld := ⟨PMU.PMB_XSTAT, 2, 1⟩
abbrev PMU.PMB_XSTAT.DONE : Fld := ⟨PMU.PMB_XSTAT, 1, 1⟩
abbrev PMU.PMB_XSTAT.BUSY : Fld := ⟨PMU.PMB_XSTAT, 0, 1⟩
abbrev PMU.PMB_FLT : Nat := 0x4001023C
abbrev PMU.PMB_FLT.BUS : Fld := ⟨PMU.PMB_FLT, 4, 4⟩
abbrev PMU.PMB_FLT.REG : Fld := ⟨PMU.PMB_FLT, 0, 4⟩

/-! OTP, from spec/15_otp_lifecycle.md -/
abbrev OTP.STATUS : Nat := 0x40020000
abbrev OTP.STATUS.WRITE_IGNORED : Fld := ⟨OTP.STATUS, 6, 1⟩
abbrev OTP.STATUS.RESTRICT : Fld := ⟨OTP.STATUS, 5, 1⟩
abbrev OTP.STATUS.MARGIN : Fld := ⟨OTP.STATUS, 4, 1⟩
abbrev OTP.STATUS.VPP_OK : Fld := ⟨OTP.STATUS, 3, 1⟩
abbrev OTP.STATUS.PGM_REFUSED : Fld := ⟨OTP.STATUS, 2, 1⟩
abbrev OTP.STATUS.PGM_FAIL : Fld := ⟨OTP.STATUS, 1, 1⟩
abbrev OTP.STATUS.PGM_BUSY : Fld := ⟨OTP.STATUS, 0, 1⟩
abbrev OTP.LC_STATE : Nat := 0x40020004
abbrev OTP.LC_STATE.RESTRICTED : Fld := ⟨OTP.LC_STATE, 9, 1⟩
abbrev OTP.LC_STATE.DEBUG_OPEN : Fld := ⟨OTP.LC_STATE, 8, 1⟩
abbrev OTP.LC_STATE.STATE : Fld := ⟨OTP.LC_STATE, 0, 3⟩
abbrev OTP.LC_REQ : Nat := 0x40020008
abbrev OTP.LC_REQ.KEY : Fld := ⟨OTP.LC_REQ, 16, 16⟩
abbrev OTP.LC_REQ.TARGET : Fld := ⟨OTP.LC_REQ, 0, 3⟩
abbrev OTP.LC_STAT : Nat := 0x4002000C
abbrev OTP.LC_STAT.CODE : Fld := ⟨OTP.LC_STAT, 0, 8⟩
abbrev OTP.PGM_CFG : Nat := 0x40020010
abbrev OTP.PGM_CFG.SRC : Fld := ⟨OTP.PGM_CFG, 12, 2⟩
abbrev OTP.PGM_CFG.RETRY : Fld := ⟨OTP.PGM_CFG, 8, 4⟩
abbrev OTP.PGM_CFG.PULSE : Fld := ⟨OTP.PGM_CFG, 0, 6⟩
abbrev OTP.PGM_WORD : Nat := 0x40020014
abbrev OTP.PGM_WORD.INDEX : Fld := ⟨OTP.PGM_WORD, 0, 8⟩
abbrev OTP.PGM_DATA : Nat := 0x40020018
abbrev OTP.PGM_DATA.DATA : Fld := ⟨OTP.PGM_DATA, 0, 32⟩
abbrev OTP.PGM_CTL : Nat := 0x4002001C
abbrev OTP.PGM_CTL.GO : Fld := ⟨OTP.PGM_CTL, 0, 1⟩
abbrev OTP.PGM_STAT : Nat := 0x40020020
abbrev OTP.PGM_STAT.CODE : Fld := ⟨OTP.PGM_STAT, 24, 8⟩
abbrev OTP.PGM_STAT.BIT : Fld := ⟨OTP.PGM_STAT, 8, 13⟩
abbrev OTP.PGM_STAT.WEAK : Fld := ⟨OTP.PGM_STAT, 0, 8⟩
abbrev OTP.RD_WORD : Nat := 0x40020024
abbrev OTP.RD_WORD.INDEX : Fld := ⟨OTP.RD_WORD, 0, 8⟩
abbrev OTP.RD_DATA : Nat := 0x40020028
abbrev OTP.RD_DATA.DATA : Fld := ⟨OTP.RD_DATA, 0, 32⟩
abbrev OTP.RD_TIGHT : Nat := 0x4002002C
abbrev OTP.RD_TIGHT.DATA : Fld := ⟨OTP.RD_TIGHT, 0, 32⟩
abbrev OTP.FIN_CTL : Nat := 0x40020030
abbrev OTP.FIN_CTL.GO : Fld := ⟨OTP.FIN_CTL, 31, 1⟩
abbrev OTP.FIN_CTL.FORCE : Fld := ⟨OTP.FIN_CTL, 30, 1⟩
abbrev OTP.FIN_CTL.REGION : Fld := ⟨OTP.FIN_CTL, 0, 4⟩
abbrev OTP.FIN_STAT : Nat := 0x40020034
abbrev OTP.FIN_STAT.CODE : Fld := ⟨OTP.FIN_STAT, 0, 8⟩
abbrev OTP.LOCK_CTL : Nat := 0x40020038
abbrev OTP.LOCK_CTL.RLOCK : Fld := ⟨OTP.LOCK_CTL, 5, 1⟩
abbrev OTP.LOCK_CTL.WLOCK : Fld := ⟨OTP.LOCK_CTL, 4, 1⟩
abbrev OTP.LOCK_CTL.REGION : Fld := ⟨OTP.LOCK_CTL, 0, 4⟩
abbrev OTP.KEY_OPEN : Nat := 0x4002003C
abbrev OTP.KEY_OPEN.OPEN : Fld := ⟨OTP.KEY_OPEN, 0, 1⟩
abbrev OTP.MARGIN_MAP (m : Nat) : Nat := 0x40020040 + 0x4 * m
abbrev OTP.MARGIN_MAP.WORD (m : Nat) : Fld := ⟨OTP.MARGIN_MAP m, 0, 32⟩
abbrev OTP.REGION_STAT (r : Nat) : Nat := 0x40020060 + 0x4 * r
abbrev OTP.REGION_STAT.WRITTEN (r : Nat) : Fld := ⟨OTP.REGION_STAT r, 12, 4⟩
abbrev OTP.REGION_STAT.FAILED (r : Nat) : Fld := ⟨OTP.REGION_STAT r, 5, 1⟩
abbrev OTP.REGION_STAT.FORCED (r : Nat) : Fld := ⟨OTP.REGION_STAT r, 4, 1⟩
abbrev OTP.REGION_STAT.RLOCK (r : Nat) : Fld := ⟨OTP.REGION_STAT r, 3, 1⟩
abbrev OTP.REGION_STAT.WLOCK (r : Nat) : Fld := ⟨OTP.REGION_STAT r, 2, 1⟩
abbrev OTP.REGION_STAT.FINAL (r : Nat) : Fld := ⟨OTP.REGION_STAT r, 1, 1⟩
abbrev OTP.REGION_STAT.UNREADABLE (r : Nat) : Fld := ⟨OTP.REGION_STAT r, 0, 1⟩
abbrev OTP.HBOOT_ADDR_LO : Nat := 0x400200A0
abbrev OTP.HBOOT_ADDR_LO.ADDR : Fld := ⟨OTP.HBOOT_ADDR_LO, 0, 32⟩
abbrev OTP.HBOOT_ADDR_HI : Nat := 0x400200A4
abbrev OTP.HBOOT_ADDR_HI.ADDR : Fld := ⟨OTP.HBOOT_ADDR_HI, 0, 32⟩
abbrev OTP.HBOOT_LEN : Nat := 0x400200A8
abbrev OTP.HBOOT_LEN.LEN : Fld := ⟨OTP.HBOOT_LEN, 0, 21⟩
abbrev OTP.HBOOT_CTL : Nat := 0x400200AC
abbrev OTP.HBOOT_CTL.GO : Fld := ⟨OTP.HBOOT_CTL, 0, 1⟩
abbrev OTP.HBOOT_STAT : Nat := 0x400200B0
abbrev OTP.HBOOT_STAT.RESULT : Fld := ⟨OTP.HBOOT_STAT, 0, 4⟩
abbrev OTP.SHADOW (w : Nat) : Nat := 0x40020400 + 0x4 * w
abbrev OTP.SHADOW.DATA (w : Nat) : Fld := ⟨OTP.SHADOW w, 0, 32⟩

/-! ERR, from spec/14_management_errors.md -/
abbrev ERR.CFG : Nat := 0x40030000
abbrev ERR.CFG.REPEAT_LIM : Fld := ⟨ERR.CFG, 0, 8⟩
abbrev ERR.STATUS : Nat := 0x40030004
abbrev ERR.STATUS.WRITE_IGNORED : Fld := ⟨ERR.STATUS, 3, 1⟩
abbrev ERR.STATUS.EVQ_OVF : Fld := ⟨ERR.STATUS, 2, 1⟩
abbrev ERR.STATUS.PEND_SEV : Fld := ⟨ERR.STATUS, 0, 2⟩
abbrev ERR.EVQ_CNT : Nat := 0x40030010
abbrev ERR.EVQ_CNT.CNT : Fld := ⟨ERR.EVQ_CNT, 0, 7⟩
abbrev ERR.EVQ_POP : Nat := 0x40030014
abbrev ERR.EVQ_POP.POP : Fld := ⟨ERR.EVQ_POP, 0, 1⟩
abbrev ERR.EVQ_HEAD (k : Nat) : Nat := 0x40030020 + 0x4 * k
abbrev ERR.FATAL_SRC : Nat := 0x40030040
abbrev ERR.FATAL_SRC.VALID : Fld := ⟨ERR.FATAL_SRC, 31, 1⟩
abbrev ERR.FATAL_SRC.INST : Fld := ⟨ERR.FATAL_SRC, 8, 8⟩
abbrev ERR.FATAL_SRC.SRC : Fld := ⟨ERR.FATAL_SRC, 0, 8⟩
abbrev ERR.STOP_SRC : Nat := 0x40030044
abbrev ERR.STOP_SRC.ACTIVE : Fld := ⟨ERR.STOP_SRC, 31, 1⟩
abbrev ERR.STOP_SRC.SRC : Fld := ⟨ERR.STOP_SRC, 0, 8⟩
abbrev ERR.DEC_ADDR_LO : Nat := 0x40030048
abbrev ERR.DEC_ADDR_LO.ADDR : Fld := ⟨ERR.DEC_ADDR_LO, 0, 32⟩
abbrev ERR.DEC_ADDR_HI : Nat := 0x4003004C
abbrev ERR.DEC_ADDR_HI.ADDR : Fld := ⟨ERR.DEC_ADDR_HI, 0, 8⟩
abbrev ERR.SRC_CFG (s : Nat) : Nat := 0x40030800 + 0x4 * s
abbrev ERR.SRC_CFG.EN (s : Nat) : Fld := ⟨ERR.SRC_CFG s, 7, 1⟩
abbrev ERR.SRC_CFG.SEV (s : Nat) : Fld := ⟨ERR.SRC_CFG s, 4, 2⟩
abbrev ERR.SRC_CFG.STOP (s : Nat) : Fld := ⟨ERR.SRC_CFG s, 2, 1⟩
abbrev ERR.SRC_CFG.HOST (s : Nat) : Fld := ⟨ERR.SRC_CFG s, 1, 1⟩
abbrev ERR.SRC_CFG.IRQ (s : Nat) : Fld := ⟨ERR.SRC_CFG s, 0, 1⟩
abbrev ERR.REC (s : Nat) (k : Nat) : Nat := 0x40031000 + 0x20 * s + 0x4 * k

/-! DMA, from spec/13_dma_memory.md -/
abbrev DMA.CTL : Nat := 0x40040000
abbrev DMA.CTL.EN : Fld := ⟨DMA.CTL, 0, 1⟩
abbrev DMA.STATUS : Nat := 0x40040004
abbrev DMA.STATUS.WRITE_IGNORED : Fld := ⟨DMA.STATUS, 2, 1⟩
abbrev DMA.STATUS.QUIESCING : Fld := ⟨DMA.STATUS, 1, 1⟩
abbrev DMA.STATUS.BUSY : Fld := ⟨DMA.STATUS, 0, 1⟩
abbrev DMA.PD_QUIESCE_TMO : Nat := 0x40040008
abbrev DMA.PD_QUIESCE_TMO.TMO : Fld := ⟨DMA.PD_QUIESCE_TMO, 0, 16⟩
abbrev DMA.INFLIGHT : Nat := 0x4004000C
abbrev DMA.INFLIGHT.CH : Fld := ⟨DMA.INFLIGHT, 0, 16⟩
abbrev DMA.DONE_SUM : Nat := 0x40040010
abbrev DMA.DONE_SUM.CH : Fld := ⟨DMA.DONE_SUM, 0, 16⟩
abbrev DMA.CH_CTL (n : Nat) : Nat := 0x40040100 + 0x40 * n
abbrev DMA.CH_CTL.GO (n : Nat) : Fld := ⟨DMA.CH_CTL n, 31, 1⟩
abbrev DMA.CH_CTL.STOP (n : Nat) : Fld := ⟨DMA.CH_CTL n, 30, 1⟩
abbrev DMA.CH_CTL.PRIO (n : Nat) : Fld := ⟨DMA.CH_CTL n, 8, 2⟩
abbrev DMA.CH_CTL.EVT_EN (n : Nat) : Fld := ⟨DMA.CH_CTL n, 0, 1⟩
abbrev DMA.CH_STAT (n : Nat) : Nat := 0x40040104 + 0x40 * n
abbrev DMA.CH_STAT.ERR_DIR (n : Nat) : Fld := ⟨DMA.CH_STAT n, 31, 1⟩
abbrev DMA.CH_STAT.CAUSE (n : Nat) : Fld := ⟨DMA.CH_STAT n, 28, 3⟩
abbrev DMA.CH_STAT.XSTAT (n : Nat) : Fld := ⟨DMA.CH_STAT n, 24, 4⟩
abbrev DMA.CH_STAT.CODE (n : Nat) : Fld := ⟨DMA.CH_STAT n, 16, 8⟩
abbrev DMA.CH_STAT.DONE (n : Nat) : Fld := ⟨DMA.CH_STAT n, 8, 1⟩
abbrev DMA.CH_STAT.SHADOW (n : Nat) : Fld := ⟨DMA.CH_STAT n, 4, 1⟩
abbrev DMA.CH_STAT.STATE (n : Nat) : Fld := ⟨DMA.CH_STAT n, 0, 3⟩
abbrev DMA.CH_DESC_LO (n : Nat) : Nat := 0x40040108 + 0x40 * n
abbrev DMA.CH_DESC_LO.ADDR (n : Nat) : Fld := ⟨DMA.CH_DESC_LO n, 0, 32⟩
abbrev DMA.CH_DESC_HI (n : Nat) : Nat := 0x4004010C + 0x40 * n
abbrev DMA.CH_DESC_HI.ADDR (n : Nat) : Fld := ⟨DMA.CH_DESC_HI n, 0, 32⟩
abbrev DMA.CH_SRC_LO (n : Nat) : Nat := 0x40040110 + 0x40 * n
abbrev DMA.CH_SRC_HI (n : Nat) : Nat := 0x40040114 + 0x40 * n
abbrev DMA.CH_DST_LO (n : Nat) : Nat := 0x40040118 + 0x40 * n
abbrev DMA.CH_DST_HI (n : Nat) : Nat := 0x4004011C + 0x40 * n
abbrev DMA.CH_LEN (n : Nat) : Nat := 0x40040120 + 0x40 * n
abbrev DMA.CH_ERR_LO (n : Nat) : Nat := 0x40040124 + 0x40 * n
abbrev DMA.CH_ERR_LO.ADDR (n : Nat) : Fld := ⟨DMA.CH_ERR_LO n, 0, 32⟩
abbrev DMA.CH_ERR_HI (n : Nat) : Nat := 0x40040128 + 0x40 * n
abbrev DMA.CH_ERR_HI.ADDR (n : Nat) : Fld := ⟨DMA.CH_ERR_HI n, 0, 32⟩
abbrev DMA.CH_DONE_CNT (n : Nat) : Nat := 0x4004012C + 0x40 * n
abbrev DMA.CH_DONE_CNT.COUNT (n : Nat) : Fld := ⟨DMA.CH_DONE_CNT n, 0, 32⟩
abbrev DMA.CH_BYTE_CNT (n : Nat) : Nat := 0x40040130 + 0x40 * n
abbrev DMA.CH_BYTE_CNT.COUNT (n : Nat) : Fld := ⟨DMA.CH_BYTE_CNT n, 0, 32⟩

/-! MEMC, from spec/13_dma_memory.md -/
abbrev MEMC.CTL : Nat := 0x40050000
abbrev MEMC.CTL.CE_EVT : Fld := ⟨MEMC.CTL, 1, 1⟩
abbrev MEMC.CTL.COLL_EVT : Fld := ⟨MEMC.CTL, 0, 1⟩
abbrev MEMC.STATUS : Nat := 0x40050004
abbrev MEMC.STATUS.CFG_ERR : Fld := ⟨MEMC.STATUS, 4, 1⟩
abbrev MEMC.STATUS.WRITE_IGNORED : Fld := ⟨MEMC.STATUS, 3, 1⟩
abbrev MEMC.STATUS.UE : Fld := ⟨MEMC.STATUS, 2, 1⟩
abbrev MEMC.STATUS.COLL : Fld := ⟨MEMC.STATUS, 1, 1⟩
abbrev MEMC.STATUS.MARCH_BUSY : Fld := ⟨MEMC.STATUS, 0, 1⟩
abbrev MEMC.URGENT : Nat := 0x40050008
abbrev MEMC.URGENT.BANK : Fld := ⟨MEMC.URGENT, 0, 32⟩
abbrev MEMC.OFFLINE : Nat := 0x4005000C
abbrev MEMC.OFFLINE.BANK : Fld := ⟨MEMC.OFFLINE, 0, 32⟩
abbrev MEMC.COLL_CNT : Nat := 0x40050010
abbrev MEMC.COLL_ADDR : Nat := 0x40050014
abbrev MEMC.COLL_ADDR.ADDR : Fld := ⟨MEMC.COLL_ADDR, 0, 32⟩
abbrev MEMC.CE_CNT : Nat := 0x40050018
abbrev MEMC.UE_CNT : Nat := 0x4005001C
abbrev MEMC.ERR_ADDR : Nat := 0x40050020
abbrev MEMC.ERR_ADDR.ADDR : Fld := ⟨MEMC.ERR_ADDR, 0, 32⟩
abbrev MEMC.MARCH_CTL : Nat := 0x40050030
abbrev MEMC.MARCH_CTL.EN : Fld := ⟨MEMC.MARCH_CTL, 31, 1⟩
abbrev MEMC.MARCH_CTL.MODE : Fld := ⟨MEMC.MARCH_CTL, 30, 1⟩
abbrev MEMC.MARCH_CTL.PACE : Fld := ⟨MEMC.MARCH_CTL, 0, 16⟩
abbrev MEMC.MARCH_BANKS : Nat := 0x40050034
abbrev MEMC.MARCH_BANKS.BANK : Fld := ⟨MEMC.MARCH_BANKS, 0, 32⟩
abbrev MEMC.MARCH_POS : Nat := 0x40050038
abbrev MEMC.MARCH_POS.BANK : Fld := ⟨MEMC.MARCH_POS, 16, 5⟩
abbrev MEMC.MARCH_POS.WINDOW : Fld := ⟨MEMC.MARCH_POS, 0, 10⟩
abbrev MEMC.MARCH_STAT : Nat := 0x4005003C
abbrev MEMC.MARCH_STAT.PASSES : Fld := ⟨MEMC.MARCH_STAT, 16, 16⟩
abbrev MEMC.MARCH_STAT.FAIL : Fld := ⟨MEMC.MARCH_STAT, 3, 1⟩
abbrev MEMC.MARCH_STAT.DONE : Fld := ⟨MEMC.MARCH_STAT, 2, 1⟩
abbrev MEMC.MARCH_STAT.HELD : Fld := ⟨MEMC.MARCH_STAT, 1, 1⟩
abbrev MEMC.MARCH_STAT.BUSY : Fld := ⟨MEMC.MARCH_STAT, 0, 1⟩
abbrev MEMC.MARCH_FAIL_ADDR : Nat := 0x40050040
abbrev MEMC.MARCH_FAIL_ADDR.ADDR : Fld := ⟨MEMC.MARCH_FAIL_ADDR, 0, 32⟩
abbrev MEMC.MARCH_FAIL_XOR_LO : Nat := 0x40050044
abbrev MEMC.MARCH_FAIL_XOR_LO.BITS : Fld := ⟨MEMC.MARCH_FAIL_XOR_LO, 0, 32⟩
abbrev MEMC.MARCH_FAIL_XOR_HI : Nat := 0x40050048
abbrev MEMC.MARCH_FAIL_XOR_HI.BITS : Fld := ⟨MEMC.MARCH_FAIL_XOR_HI, 0, 7⟩
abbrev MEMC.YIELD_CNT : Nat := 0x4005004C
abbrev MEMC.SKIP_CNT : Nat := 0x40050050
abbrev MEMC.WIPE_STAT : Nat := 0x40050054
abbrev MEMC.WIPE_STAT.ALL_DONE : Fld := ⟨MEMC.WIPE_STAT, 31, 1⟩
abbrev MEMC.WIPE_STAT.DRAM_SKIP : Fld := ⟨MEMC.WIPE_STAT, 5, 1⟩
abbrev MEMC.WIPE_STAT.DRAM : Fld := ⟨MEMC.WIPE_STAT, 4, 1⟩
abbrev MEMC.WIPE_STAT.DMABUF : Fld := ⟨MEMC.WIPE_STAT, 3, 1⟩
abbrev MEMC.WIPE_STAT.LQ_WMEM : Fld := ⟨MEMC.WIPE_STAT, 2, 1⟩
abbrev MEMC.WIPE_STAT.TCM : Fld := ⟨MEMC.WIPE_STAT, 1, 1⟩
abbrev MEMC.WIPE_STAT.SRAM : Fld := ⟨MEMC.WIPE_STAT, 0, 1⟩

/-! DRAMC, from spec/13_dma_memory.md -/
abbrev DRAMC.CTL : Nat := 0x40060000
abbrev DRAMC.CTL.EN : Fld := ⟨DRAMC.CTL, 0, 1⟩
abbrev DRAMC.STATUS : Nat := 0x40060004
abbrev DRAMC.STATUS.WRITE_IGNORED : Fld := ⟨DRAMC.STATUS, 4, 1⟩
abbrev DRAMC.STATUS.UE : Fld := ⟨DRAMC.STATUS, 3, 1⟩
abbrev DRAMC.STATUS.TRAIN_FAIL : Fld := ⟨DRAMC.STATUS, 2, 1⟩
abbrev DRAMC.STATUS.SELF_REFRESH : Fld := ⟨DRAMC.STATUS, 1, 1⟩
abbrev DRAMC.STATUS.READY : Fld := ⟨DRAMC.STATUS, 0, 1⟩
abbrev DRAMC.CFG : Nat := 0x40060008
abbrev DRAMC.CFG.DENSITY : Fld := ⟨DRAMC.CFG, 28, 2⟩
abbrev DRAMC.CFG.RATE : Fld := ⟨DRAMC.CFG, 16, 2⟩
abbrev DRAMC.CAP : Nat := 0x4006000C
abbrev DRAMC.CAP.SIZE : Fld := ⟨DRAMC.CAP, 0, 16⟩
abbrev DRAMC.SCRUB_CFG : Nat := 0x40060010
abbrev DRAMC.SCRUB_CFG.EN : Fld := ⟨DRAMC.SCRUB_CFG, 31, 1⟩
abbrev DRAMC.SCRUB_CFG.PERIOD : Fld := ⟨DRAMC.SCRUB_CFG, 0, 16⟩
abbrev DRAMC.SCRUB_POS : Nat := 0x40060014
abbrev DRAMC.SCRUB_POS.BLOCK : Fld := ⟨DRAMC.SCRUB_POS, 0, 32⟩
abbrev DRAMC.CE_CNT : Nat := 0x40060018
abbrev DRAMC.UE_CNT : Nat := 0x4006001C
abbrev DRAMC.ERR_ADDR_LO : Nat := 0x40060020
abbrev DRAMC.ERR_ADDR_LO.ADDR : Fld := ⟨DRAMC.ERR_ADDR_LO, 0, 32⟩
abbrev DRAMC.ERR_ADDR_HI : Nat := 0x40060024
abbrev DRAMC.ERR_ADDR_HI.ADDR : Fld := ⟨DRAMC.ERR_ADDR_HI, 0, 32⟩
abbrev DRAMC.BW_RD : Nat := 0x40060028
abbrev DRAMC.BW_RD.RATE : Fld := ⟨DRAMC.BW_RD, 0, 16⟩
abbrev DRAMC.BW_WR : Nat := 0x4006002C
abbrev DRAMC.BW_WR.RATE : Fld := ⟨DRAMC.BW_WR, 0, 16⟩

/-! HOSTIF, from spec/12_host_interface.md -/
abbrev HOSTIF.CTL : Nat := 0x40080000
abbrev HOSTIF.CTL.NS_EN : Fld := ⟨HOSTIF.CTL, 3, 1⟩
abbrev HOSTIF.CTL.EN : Fld := ⟨HOSTIF.CTL, 0, 1⟩
abbrev HOSTIF.STATUS : Nat := 0x40080004
abbrev HOSTIF.STATUS.HR_WAIT : Fld := ⟨HOSTIF.STATUS, 8, 1⟩
abbrev HOSTIF.STATUS.CFG_ERR : Fld := ⟨HOSTIF.STATUS, 7, 1⟩
abbrev HOSTIF.STATUS.CULV_ERR : Fld := ⟨HOSTIF.STATUS, 6, 1⟩
abbrev HOSTIF.STATUS.RING_ERR : Fld := ⟨HOSTIF.STATUS, 5, 1⟩
abbrev HOSTIF.STATUS.EVT_OVF : Fld := ⟨HOSTIF.STATUS, 4, 1⟩
abbrev HOSTIF.STATUS.WRITE_IGNORED : Fld := ⟨HOSTIF.STATUS, 3, 1⟩
abbrev HOSTIF.STATUS.ROOT : Fld := ⟨HOSTIF.STATUS, 1, 1⟩
abbrev HOSTIF.STATUS.BUSY : Fld := ⟨HOSTIF.STATUS, 0, 1⟩
abbrev HOSTIF.LINK : Nat := 0x40080008
abbrev HOSTIF.LINK.UP : Fld := ⟨HOSTIF.LINK, 15, 1⟩
abbrev HOSTIF.LINK.WIDTH : Fld := ⟨HOSTIF.LINK, 8, 5⟩
abbrev HOSTIF.LINK.SPEED : Fld := ⟨HOSTIF.LINK, 0, 4⟩
abbrev HOSTIF.CPL_MOD : Nat := 0x4008000C
abbrev HOSTIF.CPL_MOD.IDLE_TMO : Fld := ⟨HOSTIF.CPL_MOD, 16, 16⟩
abbrev HOSTIF.CPL_MOD.INT_CNT : Fld := ⟨HOSTIF.CPL_MOD, 0, 8⟩
abbrev HOSTIF.EVT_MOD : Nat := 0x40080010
abbrev HOSTIF.EVT_MOD.IDLE_TMO : Fld := ⟨HOSTIF.EVT_MOD, 16, 16⟩
abbrev HOSTIF.EVT_MOD.INT_CNT : Fld := ⟨HOSTIF.EVT_MOD, 0, 8⟩
abbrev HOSTIF.EVT_LOST : Nat := 0x40080014
abbrev HOSTIF.EVT_LOST.COUNT : Fld := ⟨HOSTIF.EVT_LOST, 0, 32⟩
abbrev HOSTIF.CPL_LOST : Nat := 0x40080018
abbrev HOSTIF.CPL_LOST.COUNT : Fld := ⟨HOSTIF.CPL_LOST, 0, 32⟩
abbrev HOSTIF.PARSE_ERR : Nat := 0x4008001C
abbrev HOSTIF.PARSE_ERR.CODE : Fld := ⟨HOSTIF.PARSE_ERR, 24, 8⟩
abbrev HOSTIF.PARSE_ERR.NODE : Fld := ⟨HOSTIF.PARSE_ERR, 16, 6⟩
abbrev HOSTIF.PARSE_ERR.JOB_ID : Fld := ⟨HOSTIF.PARSE_ERR, 0, 16⟩
abbrev HOSTIF.HR_BASE_LO : Nat := 0x40080020
abbrev HOSTIF.HR_BASE_LO.ADDR : Fld := ⟨HOSTIF.HR_BASE_LO, 0, 32⟩
abbrev HOSTIF.HR_BASE_HI : Nat := 0x40080024
abbrev HOSTIF.HR_BASE_HI.ADDR : Fld := ⟨HOSTIF.HR_BASE_HI, 0, 32⟩
abbrev HOSTIF.HR_SIZE : Nat := 0x40080028
abbrev HOSTIF.HR_SIZE.SIZE_LOG2 : Fld := ⟨HOSTIF.HR_SIZE, 0, 5⟩
abbrev HOSTIF.HR_SHADOW_LO : Nat := 0x4008002C
abbrev HOSTIF.HR_SHADOW_LO.ADDR : Fld := ⟨HOSTIF.HR_SHADOW_LO, 0, 32⟩
abbrev HOSTIF.HR_SHADOW_HI : Nat := 0x40080030
abbrev HOSTIF.HR_SHADOW_HI.ADDR : Fld := ⟨HOSTIF.HR_SHADOW_HI, 0, 32⟩
abbrev HOSTIF.HR_PROD : Nat := 0x40080034
abbrev HOSTIF.HR_PROD.COUNT : Fld := ⟨HOSTIF.HR_PROD, 0, 32⟩
abbrev HOSTIF.HR_CONS : Nat := 0x40080038
abbrev HOSTIF.HR_CONS.COUNT : Fld := ⟨HOSTIF.HR_CONS, 0, 32⟩
abbrev HOSTIF.CPL_BASE_LO : Nat := 0x40080040
abbrev HOSTIF.CPL_BASE_LO.ADDR : Fld := ⟨HOSTIF.CPL_BASE_LO, 0, 32⟩
abbrev HOSTIF.CPL_BASE_HI : Nat := 0x40080044
abbrev HOSTIF.CPL_BASE_HI.ADDR : Fld := ⟨HOSTIF.CPL_BASE_HI, 0, 32⟩
abbrev HOSTIF.CPL_SIZE : Nat := 0x40080048
abbrev HOSTIF.CPL_SIZE.SIZE_LOG2 : Fld := ⟨HOSTIF.CPL_SIZE, 0, 5⟩
abbrev HOSTIF.CPL_PROD : Nat := 0x4008004C
abbrev HOSTIF.CPL_PROD.COUNT : Fld := ⟨HOSTIF.CPL_PROD, 0, 32⟩
abbrev HOSTIF.CPL_CONS : Nat := 0x40080050
abbrev HOSTIF.CPL_CONS.COUNT : Fld := ⟨HOSTIF.CPL_CONS, 0, 32⟩
abbrev HOSTIF.TR_BASE_LO : Nat := 0x40080060
abbrev HOSTIF.TR_BASE_LO.ADDR : Fld := ⟨HOSTIF.TR_BASE_LO, 0, 32⟩
abbrev HOSTIF.TR_BASE_HI : Nat := 0x40080064
abbrev HOSTIF.TR_BASE_HI.ADDR : Fld := ⟨HOSTIF.TR_BASE_HI, 0, 32⟩
abbrev HOSTIF.TR_SIZE : Nat := 0x40080068
abbrev HOSTIF.TR_SIZE.SIZE_LOG2 : Fld := ⟨HOSTIF.TR_SIZE, 0, 5⟩
abbrev HOSTIF.TR_PROD : Nat := 0x4008006C
abbrev HOSTIF.TR_PROD.COUNT : Fld := ⟨HOSTIF.TR_PROD, 0, 32⟩
abbrev HOSTIF.TR_CONS : Nat := 0x40080070
abbrev HOSTIF.TR_CONS.COUNT : Fld := ⟨HOSTIF.TR_CONS, 0, 32⟩
abbrev HOSTIF.JQ_LAST : Nat := 0x40080080
abbrev HOSTIF.JQ_LAST.VALID : Fld := ⟨HOSTIF.JQ_LAST, 16, 1⟩
abbrev HOSTIF.JQ_LAST.JOB_ID : Fld := ⟨HOSTIF.JQ_LAST, 0, 16⟩
abbrev HOSTIF.JQ_OCC (k : Nat) : Nat := 0x40080100 + 0x4 * k
abbrev HOSTIF.JQ_OCC.OCC_0 (k : Nat) : Fld := ⟨HOSTIF.JQ_OCC k, 0, 5⟩
abbrev HOSTIF.JQ_OCC.OCC_1 (k : Nat) : Fld := ⟨HOSTIF.JQ_OCC k, 8, 5⟩
abbrev HOSTIF.JQ_OCC.OCC_2 (k : Nat) : Fld := ⟨HOSTIF.JQ_OCC k, 16, 5⟩
abbrev HOSTIF.JQ_OCC.OCC_3 (k : Nat) : Fld := ⟨HOSTIF.JQ_OCC k, 24, 5⟩
abbrev HOSTIF.CULV_MAP (k : Nat) : Nat := 0x40080180 + 0x4 * k
abbrev HOSTIF.CULV_MAP.VALID (k : Nat) : Fld := ⟨HOSTIF.CULV_MAP k, 31, 1⟩
abbrev HOSTIF.CULV_MAP.NODE (k : Nat) : Fld := ⟨HOSTIF.CULV_MAP k, 24, 6⟩
abbrev HOSTIF.CULV_MAP.BASE (k : Nat) : Fld := ⟨HOSTIF.CULV_MAP k, 0, 14⟩
abbrev HOSTIF.CULV_ERR : Nat := 0x400801C0
abbrev HOSTIF.CULV_ERR.WRITE : Fld := ⟨HOSTIF.CULV_ERR, 31, 1⟩
abbrev HOSTIF.CULV_ERR.NODE : Fld := ⟨HOSTIF.CULV_ERR, 24, 6⟩
abbrev HOSTIF.CULV_ERR.STATUS : Fld := ⟨HOSTIF.CULV_ERR, 16, 4⟩
abbrev HOSTIF.CULV_ERR.APERTURE : Fld := ⟨HOSTIF.CULV_ERR, 0, 4⟩
abbrev HOSTIF.CULV_ERR_CNT : Nat := 0x400801C4
abbrev HOSTIF.CULV_ERR_CNT.COUNT : Fld := ⟨HOSTIF.CULV_ERR_CNT, 0, 32⟩
abbrev HOSTIF.SDELIV (k : Nat) : Nat := 0x40080200 + 0x10 * k
abbrev HOSTIF.SDELIV.COUNT (k : Nat) : Fld := ⟨HOSTIF.SDELIV k, 0, 32⟩
abbrev HOSTIF.SCONS (k : Nat) : Nat := 0x40080204 + 0x10 * k
abbrev HOSTIF.SCONS.COUNT (k : Nat) : Fld := ⟨HOSTIF.SCONS k, 0, 32⟩
abbrev HOSTIF.SJOB (k : Nat) : Nat := 0x40080208 + 0x10 * k
abbrev HOSTIF.SJOB.RUN (k : Nat) : Fld := ⟨HOSTIF.SJOB k, 16, 1⟩
abbrev HOSTIF.SJOB.JOB_ID (k : Nat) : Fld := ⟨HOSTIF.SJOB k, 0, 16⟩
abbrev HOSTIF.SCTX_CFG (r : Nat) : Nat := 0x40081000 + 0x20 * r
abbrev HOSTIF.SCTX_CFG.EN (r : Nat) : Fld := ⟨HOSTIF.SCTX_CFG r, 31, 1⟩
abbrev HOSTIF.SCTX_CFG.NODE (r : Nat) : Fld := ⟨HOSTIF.SCTX_CFG r, 24, 6⟩
abbrev HOSTIF.SCTX_CFG.POLL (r : Nat) : Fld := ⟨HOSTIF.SCTX_CFG r, 16, 8⟩
abbrev HOSTIF.SCTX_CFG.RING (r : Nat) : Fld := ⟨HOSTIF.SCTX_CFG r, 12, 3⟩
abbrev HOSTIF.SCTX_CFG.VEC (r : Nat) : Fld := ⟨HOSTIF.SCTX_CFG r, 5, 6⟩
abbrev HOSTIF.SCTX_CFG.SIZE_LOG2 (r : Nat) : Fld := ⟨HOSTIF.SCTX_CFG r, 0, 5⟩
abbrev HOSTIF.SCTX_BASE_LO (r : Nat) : Nat := 0x40081004 + 0x20 * r
abbrev HOSTIF.SCTX_BASE_LO.ADDR (r : Nat) : Fld := ⟨HOSTIF.SCTX_BASE_LO r, 0, 32⟩
abbrev HOSTIF.SCTX_BASE_HI (r : Nat) : Nat := 0x40081008 + 0x20 * r
abbrev HOSTIF.SCTX_BASE_HI.ADDR (r : Nat) : Fld := ⟨HOSTIF.SCTX_BASE_HI r, 0, 32⟩
abbrev HOSTIF.SCTX_SHADOW_LO (r : Nat) : Nat := 0x4008100C + 0x20 * r
abbrev HOSTIF.SCTX_SHADOW_LO.ADDR (r : Nat) : Fld := ⟨HOSTIF.SCTX_SHADOW_LO r, 0, 32⟩
abbrev HOSTIF.SCTX_SHADOW_HI (r : Nat) : Nat := 0x40081010 + 0x20 * r
abbrev HOSTIF.SCTX_SHADOW_HI.ADDR (r : Nat) : Fld := ⟨HOSTIF.SCTX_SHADOW_HI r, 0, 32⟩
abbrev HOSTIF.SCTX_PROD (r : Nat) : Nat := 0x40081014 + 0x20 * r
abbrev HOSTIF.SCTX_PROD.COUNT (r : Nat) : Fld := ⟨HOSTIF.SCTX_PROD r, 0, 32⟩
abbrev HOSTIF.SCTX_CONS (r : Nat) : Nat := 0x40081018 + 0x20 * r
abbrev HOSTIF.SCTX_CONS.COUNT (r : Nat) : Fld := ⟨HOSTIF.SCTX_CONS r, 0, 32⟩
abbrev HOSTIF.SSTAT (r : Nat) : Nat := 0x4008101C + 0x20 * r
abbrev HOSTIF.SSTAT.ERR (r : Nat) : Fld := ⟨HOSTIF.SSTAT r, 31, 1⟩
abbrev HOSTIF.SSTAT.WAIT (r : Nat) : Fld := ⟨HOSTIF.SSTAT r, 30, 1⟩
abbrev HOSTIF.SSTAT.BAD (r : Nat) : Fld := ⟨HOSTIF.SSTAT r, 16, 14⟩
abbrev HOSTIF.SSTAT.SKIP (r : Nat) : Fld := ⟨HOSTIF.SSTAT r, 0, 16⟩
abbrev HOSTIF.CPL_IN (k : Nat) : Nat := 0x40088000 + 0x4 * k
abbrev HOSTIF.EVT_IN (k : Nat) : Nat := 0x40088100 + 0x4 * k
abbrev HOSTIF.JQ_IN (k : Nat) : Nat := 0x40088200 + 0x4 * k
abbrev HOSTIF.MSIX_TABLE (k : Nat) : Nat := 0x40090000 + 0x4 * k
abbrev HOSTIF.MSIX_PBA (k : Nat) : Nat := 0x40090800 + 0x4 * k

/-! FAB, from spec/11_fabric.md -/
abbrev FAB.CTL : Nat := 0x400A0000
abbrev FAB.CTL.EN : Fld := ⟨FAB.CTL, 0, 1⟩
abbrev FAB.STATUS : Nat := 0x400A0004
abbrev FAB.STATUS.BOOT_MODE : Fld := ⟨FAB.STATUS, 10, 1⟩
abbrev FAB.STATUS.ROOT : Fld := ⟨FAB.STATUS, 9, 1⟩
abbrev FAB.STATUS.CFG_ERR : Fld := ⟨FAB.STATUS, 8, 1⟩
abbrev FAB.STATUS.ID_CHANGED : Fld := ⟨FAB.STATUS, 7, 1⟩
abbrev FAB.STATUS.TIDE_FOREIGN : Fld := ⟨FAB.STATUS, 6, 1⟩
abbrev FAB.STATUS.ROUTE_ERR : Fld := ⟨FAB.STATUS, 5, 1⟩
abbrev FAB.STATUS.UNREACH : Fld := ⟨FAB.STATUS, 4, 1⟩
abbrev FAB.STATUS.PKT_ERR : Fld := ⟨FAB.STATUS, 3, 1⟩
abbrev FAB.STATUS.DENIED : Fld := ⟨FAB.STATUS, 2, 1⟩
abbrev FAB.STATUS.TMO : Fld := ⟨FAB.STATUS, 1, 1⟩
abbrev FAB.STATUS.WRITE_IGNORED : Fld := ⟨FAB.STATUS, 0, 1⟩
abbrev FAB.IDENT_LO : Nat := 0x400A0008
abbrev FAB.IDENT_HI : Nat := 0x400A000C
abbrev FAB.NODE : Nat := 0x400A0010
abbrev FAB.NODE.VALID : Fld := ⟨FAB.NODE, 31, 1⟩
abbrev FAB.NODE.DEPTH : Fld := ⟨FAB.NODE, 16, 5⟩
abbrev FAB.NODE.ID : Fld := ⟨FAB.NODE, 0, 6⟩
abbrev FAB.ACCESS : Nat := 0x400A0014
abbrev FAB.ACCESS.ROOT_ONLY : Fld := ⟨FAB.ACCESS, 8, 1⟩
abbrev FAB.ACCESS.CTRL_IN : Fld := ⟨FAB.ACCESS, 1, 1⟩
abbrev FAB.ACCESS.BULK_IN : Fld := ⟨FAB.ACCESS, 0, 1⟩
abbrev FAB.TMO_CFG : Nat := 0x400A0018
abbrev FAB.TMO_CFG.BULK_TMO : Fld := ⟨FAB.TMO_CFG, 16, 16⟩
abbrev FAB.TMO_CFG.CTRL_TMO : Fld := ⟨FAB.TMO_CFG, 0, 16⟩
abbrev FAB.IN_LIMIT : Nat := 0x400A001C
abbrev FAB.IN_LIMIT.LIMIT : Fld := ⟨FAB.IN_LIMIT, 0, 8⟩
abbrev FAB.TIME_CFG : Nat := 0x400A0020
abbrev FAB.TIME_CFG.HOLD_TMO : Fld := ⟨FAB.TIME_CFG, 16, 16⟩
abbrev FAB.TIME_CFG.ALT_PARENT : Fld := ⟨FAB.TIME_CFG, 8, 3⟩
abbrev FAB.TIME_CFG.PARENT : Fld := ⟨FAB.TIME_CFG, 0, 3⟩
abbrev FAB.TIME_STAT : Nat := 0x400A0024
abbrev FAB.TIME_STAT.LOCKED : Fld := ⟨FAB.TIME_STAT, 31, 1⟩
abbrev FAB.TIME_STAT.HOLDOVER : Fld := ⟨FAB.TIME_STAT, 30, 1⟩
abbrev FAB.TIME_STAT.LOST : Fld := ⟨FAB.TIME_STAT, 29, 1⟩
abbrev FAB.TIME_STAT.ON_ALT : Fld := ⟨FAB.TIME_STAT, 28, 1⟩
abbrev FAB.TIME_STAT.STEP_CNT : Fld := ⟨FAB.TIME_STAT, 0, 16⟩
abbrev FAB.TIME_OFS : Nat := 0x400A0028
abbrev FAB.TIME_OFS.O : Fld := ⟨FAB.TIME_OFS, 0, 32⟩
abbrev FAB.TIME_RATE : Nat := 0x400A002C
abbrev FAB.TIME_RATE.RATE : Fld := ⟨FAB.TIME_RATE, 0, 32⟩
abbrev FAB.FT_LO : Nat := 0x400A0030
abbrev FAB.FT_LO.TIME : Fld := ⟨FAB.FT_LO, 0, 32⟩
abbrev FAB.FT_HI : Nat := 0x400A0034
abbrev FAB.FT_HI.TIME : Fld := ⟨FAB.FT_HI, 0, 16⟩
abbrev FAB.SLUICE_CFG : Nat := 0x400A0038
abbrev FAB.SLUICE_CFG.TX_PIN : Fld := ⟨FAB.SLUICE_CFG, 31, 1⟩
abbrev FAB.SLUICE_CFG.TX_LOCAL : Fld := ⟨FAB.SLUICE_CFG, 30, 1⟩
abbrev FAB.SLUICE_CFG.CLR_LEAD : Fld := ⟨FAB.SLUICE_CFG, 0, 16⟩
abbrev FAB.SLUICE_CTL : Nat := 0x400A003C
abbrev FAB.SLUICE_CTL.BCAST_CLR : Fld := ⟨FAB.SLUICE_CTL, 0, 1⟩
abbrev FAB.SLUICE_STAT : Nat := 0x400A0040
abbrev FAB.SLUICE_STAT.VALID : Fld := ⟨FAB.SLUICE_STAT, 31, 1⟩
abbrev FAB.SLUICE_STAT.SRC : Fld := ⟨FAB.SLUICE_STAT, 24, 6⟩
abbrev FAB.SLUICE_STAT.REASON : Fld := ⟨FAB.SLUICE_STAT, 16, 8⟩
abbrev FAB.SLUICE_STAT.TAG : Fld := ⟨FAB.SLUICE_STAT, 0, 16⟩
abbrev FAB.TIDE_CFG : Nat := 0x400A0044
abbrev FAB.TIDE_CFG.RX_EN : Fld := ⟨FAB.TIDE_CFG, 8, 1⟩
abbrev FAB.TIDE_CFG.SRC : Fld := ⟨FAB.TIDE_CFG, 0, 6⟩
abbrev FAB.TIDE_RX_CNT : Nat := 0x400A0048
abbrev FAB.TIDE_FOREIGN_CNT : Nat := 0x400A004C
abbrev FAB.LATE_RSP_CNT : Nat := 0x400A0050
abbrev FAB.TMO_CNT : Nat := 0x400A0054
abbrev FAB.UNREACH_CNT : Nat := 0x400A0058
abbrev FAB.FAILOVER_CNT : Nat := 0x400A005C
abbrev FAB.CREQ_CTL : Nat := 0x400A0060
abbrev FAB.CREQ_CTL.GO : Fld := ⟨FAB.CREQ_CTL, 31, 1⟩
abbrev FAB.CREQ_CTL.KIND : Fld := ⟨FAB.CREQ_CTL, 24, 4⟩
abbrev FAB.CREQ_CTL.NHOPS : Fld := ⟨FAB.CREQ_CTL, 16, 5⟩
abbrev FAB.CREQ_CTL.DST : Fld := ⟨FAB.CREQ_CTL, 0, 6⟩
abbrev FAB.CREQ_ROUTE : Nat := 0x400A0064
abbrev FAB.CREQ_ROUTE.ROUTE : Fld := ⟨FAB.CREQ_ROUTE, 0, 32⟩
abbrev FAB.CREQ_ADDR : Nat := 0x400A0068
abbrev FAB.CREQ_ADDR.ARG : Fld := ⟨FAB.CREQ_ADDR, 0, 32⟩
abbrev FAB.CREQ_DATA : Nat := 0x400A006C
abbrev FAB.CREQ_DATA.DATA : Fld := ⟨FAB.CREQ_DATA, 0, 32⟩
abbrev FAB.CREQ_STAT : Nat := 0x400A0070
abbrev FAB.CREQ_STAT.DONE : Fld := ⟨FAB.CREQ_STAT, 31, 1⟩
abbrev FAB.CREQ_STAT.STATUS : Fld := ⟨FAB.CREQ_STAT, 0, 4⟩
abbrev FAB.CREQ_IDENT_LO : Nat := 0x400A0074
abbrev FAB.CREQ_IDENT_LO.IDENT : Fld := ⟨FAB.CREQ_IDENT_LO, 0, 32⟩
abbrev FAB.CREQ_IDENT_HI : Nat := 0x400A0078
abbrev FAB.CREQ_IDENT_HI.IDENT : Fld := ⟨FAB.CREQ_IDENT_HI, 0, 32⟩
abbrev FAB.LATE_CLR_CNT : Nat := 0x400A007C
abbrev FAB.CRSP (k : Nat) : Nat := 0x400A0080 + 0x4 * k
abbrev FAB.CRSP.WORD (k : Nat) : Fld := ⟨FAB.CRSP k, 0, 32⟩
abbrev FAB.BOOT_CTL : Nat := 0x400A00C0
abbrev FAB.BOOT_CTL.GO : Fld := ⟨FAB.BOOT_CTL, 31, 1⟩
abbrev FAB.BOOT_CTL.LEN : Fld := ⟨FAB.BOOT_CTL, 0, 21⟩
abbrev FAB.BOOT_STAT : Nat := 0x400A00C4
abbrev FAB.BOOT_STAT.RESULT : Fld := ⟨FAB.BOOT_STAT, 0, 4⟩
abbrev FAB.PORT_CTL (p : Nat) : Nat := 0x400A0100 + 0x40 * p
abbrev FAB.PORT_CTL.ASYM (p : Nat) : Fld := ⟨FAB.PORT_CTL p, 16, 16⟩
abbrev FAB.PORT_CTL.DIR (p : Nat) : Fld := ⟨FAB.PORT_CTL p, 3, 2⟩
abbrev FAB.PORT_CTL.ALLOW_X1 (p : Nat) : Fld := ⟨FAB.PORT_CTL p, 2, 1⟩
abbrev FAB.PORT_CTL.ALLOW_8G (p : Nat) : Fld := ⟨FAB.PORT_CTL p, 1, 1⟩
abbrev FAB.PORT_CTL.EN (p : Nat) : Fld := ⟨FAB.PORT_CTL p, 0, 1⟩
abbrev FAB.PORT_STAT (p : Nat) : Nat := 0x400A0104 + 0x40 * p
abbrev FAB.PORT_STAT.LOST (p : Nat) : Fld := ⟨FAB.PORT_STAT p, 9, 1⟩
abbrev FAB.PORT_STAT.NBR_VALID (p : Nat) : Fld := ⟨FAB.PORT_STAT p, 8, 1⟩
abbrev FAB.PORT_STAT.POL_INV (p : Nat) : Fld := ⟨FAB.PORT_STAT p, 6, 2⟩
abbrev FAB.PORT_STAT.LANE_SWAP (p : Nat) : Fld := ⟨FAB.PORT_STAT p, 5, 1⟩
abbrev FAB.PORT_STAT.WIDTH2 (p : Nat) : Fld := ⟨FAB.PORT_STAT p, 4, 1⟩
abbrev FAB.PORT_STAT.RATE16 (p : Nat) : Fld := ⟨FAB.PORT_STAT p, 3, 1⟩
abbrev FAB.PORT_STAT.STATE (p : Nat) : Fld := ⟨FAB.PORT_STAT p, 0, 3⟩
abbrev FAB.NBR_IDENT_LO (p : Nat) : Nat := 0x400A0108 + 0x40 * p
abbrev FAB.NBR_IDENT_HI (p : Nat) : Nat := 0x400A010C + 0x40 * p
abbrev FAB.NBR_NODE (p : Nat) : Nat := 0x400A0110 + 0x40 * p
abbrev FAB.NBR_NODE.WORD (p : Nat) : Fld := ⟨FAB.NBR_NODE p, 0, 32⟩
abbrev FAB.LINK_DLY (p : Nat) : Nat := 0x400A0114 + 0x40 * p
abbrev FAB.LINK_DLY.DLY (p : Nat) : Fld := ⟨FAB.LINK_DLY p, 0, 24⟩
abbrev FAB.DLY_REJ_CNT (p : Nat) : Nat := 0x400A0118 + 0x40 * p
abbrev FAB.CRC_ERR_CNT (p : Nat) : Nat := 0x400A011C + 0x40 * p
abbrev FAB.REPLAY_CNT (p : Nat) : Nat := 0x400A0120 + 0x40 * p
abbrev FAB.LOSS_CNT (p : Nat) : Nat := 0x400A0124 + 0x40 * p
abbrev FAB.TX_WORDS (p : Nat) : Nat := 0x400A0128 + 0x40 * p
abbrev FAB.RX_WORDS (p : Nat) : Nat := 0x400A012C + 0x40 * p
abbrev FAB.ROUTE (d : Nat) : Nat := 0x400A0400 + 0x4 * d
abbrev FAB.ROUTE.VALID (d : Nat) : Fld := ⟨FAB.ROUTE d, 31, 1⟩
abbrev FAB.ROUTE.ALT (d : Nat) : Fld := ⟨FAB.ROUTE d, 4, 3⟩
abbrev FAB.ROUTE.PRI (d : Nat) : Fld := ⟨FAB.ROUTE d, 0, 3⟩
abbrev FAB.ROUTE.ON_ALT (d : Nat) : Fld := ⟨FAB.ROUTE d, 8, 1⟩

end Sys2Proof.Machine
end

