-- ==== Sys2Proof/Machine/Regs2.lean ====
section
/-! DEFINITION. The register addresses and the bit fields of the blocks
CMP, LQ, HPT, WFE, FIRE, POS, NH, CAL, WEIRMB,
from the register and field tables of the chapters under spec/ (R4, R31). A name is BLOCK.REGISTER for the address
of a register and BLOCK.REGISTER.FIELD for a field; an indexed register takes its index letters as arguments. -/

namespace Sys2Proof.Machine

/-! CMP, from spec/02_compositor.md -/
abbrev CMP.CTL : Nat := 0x40100000
abbrev CMP.CTL.KILL_AUTOCLR : Fld := ⟨CMP.CTL, 2, 1⟩
abbrev CMP.CTL.STALL_EVT : Fld := ⟨CMP.CTL, 1, 1⟩
abbrev CMP.CTL.EN : Fld := ⟨CMP.CTL, 0, 1⟩
abbrev CMP.STATUS : Nat := 0x40100004
abbrev CMP.STATUS.WRITE_IGNORED : Fld := ⟨CMP.STATUS, 7, 1⟩
abbrev CMP.STATUS.PROG_ERR : Fld := ⟨CMP.STATUS, 6, 1⟩
abbrev CMP.STATUS.FETCH_ERR : Fld := ⟨CMP.STATUS, 5, 1⟩
abbrev CMP.STATUS.STALL : Fld := ⟨CMP.STATUS, 4, 1⟩
abbrev CMP.STATUS.COMP_OVF : Fld := ⟨CMP.STATUS, 3, 1⟩
abbrev CMP.STATUS.RAIL_FIX : Fld := ⟨CMP.STATUS, 2, 1⟩
abbrev CMP.STATUS.PROG_NEXT : Fld := ⟨CMP.STATUS, 1, 1⟩
abbrev CMP.STATUS.BUSY : Fld := ⟨CMP.STATUS, 0, 1⟩
abbrev CMP.CFG : Nat := 0x40100008
abbrev CMP.CFG.BW_LIMIT : Fld := ⟨CMP.CFG, 0, 8⟩
abbrev CMP.COMP_CFG : Nat := 0x4010000C
abbrev CMP.COMP_CFG.CLASS_WEAK : Fld := ⟨CMP.COMP_CFG, 7, 1⟩
abbrev CMP.COMP_CFG.CLASS_AIR : Fld := ⟨CMP.COMP_CFG, 6, 1⟩
abbrev CMP.COMP_CFG.CLASS_CLOG : Fld := ⟨CMP.COMP_CFG, 5, 1⟩
abbrev CMP.COMP_CFG.CLASS_DEAD : Fld := ⟨CMP.COMP_CFG, 4, 1⟩
abbrev CMP.COMP_CFG.KEEP_DEAD : Fld := ⟨CMP.COMP_CFG, 3, 1⟩
abbrev CMP.LINE_CNT : Nat := 0x40100010
abbrev CMP.LINE_CNT.COUNT : Fld := ⟨CMP.LINE_CNT, 0, 32⟩
abbrev CMP.JOB_LINE : Nat := 0x40100014
abbrev CMP.JOB_LINE.LINE : Fld := ⟨CMP.JOB_LINE, 0, 32⟩
abbrev CMP.JOB_ID : Nat := 0x40100018
abbrev CMP.JOB_ID.ID : Fld := ⟨CMP.JOB_ID, 0, 16⟩
abbrev CMP.PROG_CHECK : Nat := 0x4010001C
abbrev CMP.PROG_CHECK.CODE : Fld := ⟨CMP.PROG_CHECK, 24, 8⟩
abbrev CMP.PROG_CHECK.OP : Fld := ⟨CMP.PROG_CHECK, 19, 5⟩
abbrev CMP.PROG_CHECK.JOB_ID : Fld := ⟨CMP.PROG_CHECK, 0, 16⟩
abbrev CMP.LOAD : Nat := 0x40100020
abbrev CMP.LOAD.STALL_CYCLES : Fld := ⟨CMP.LOAD, 16, 16⟩
abbrev CMP.LOAD.LINE_CYCLES : Fld := ⟨CMP.LOAD, 0, 16⟩
abbrev CMP.STALL_CNT : Nat := 0x40100024
abbrev CMP.STALL_CNT.COUNT : Fld := ⟨CMP.STALL_CNT, 0, 32⟩
abbrev CMP.LOST_CNT : Nat := 0x40100028
abbrev CMP.LOST_CNT.COUNT : Fld := ⟨CMP.LOST_CNT, 0, 32⟩
abbrev CMP.RAIL_FIX_CNT : Nat := 0x4010002C
abbrev CMP.RAIL_FIX_CNT.COUNT : Fld := ⟨CMP.RAIL_FIX_CNT, 0, 32⟩
abbrev CMP.DEAD_CNT : Nat := 0x40100030
abbrev CMP.DEAD_CNT.COUNT : Fld := ⟨CMP.DEAD_CNT, 0, 12⟩
abbrev CMP.TBL_ACTIVE : Nat := 0x40100034
abbrev CMP.TBL_ACTIVE.RAIL : Fld := ⟨CMP.TBL_ACTIVE, 2, 1⟩
abbrev CMP.TBL_ACTIVE.COMP : Fld := ⟨CMP.TBL_ACTIVE, 1, 1⟩
abbrev CMP.TBL_ACTIVE.HEALTH : Fld := ⟨CMP.TBL_ACTIVE, 0, 1⟩
abbrev CMP.RAIL_BASE_0 : Nat := 0x40100040
abbrev CMP.RAIL_BASE_0.ADDR : Fld := ⟨CMP.RAIL_BASE_0, 12, 20⟩
abbrev CMP.RAIL_BASE_1 : Nat := 0x40100044
abbrev CMP.RAIL_BASE_1.ADDR : Fld := ⟨CMP.RAIL_BASE_1, 12, 20⟩
abbrev CMP.COMP_BASE_0 : Nat := 0x40100048
abbrev CMP.COMP_BASE_0.ADDR : Fld := ⟨CMP.COMP_BASE_0, 12, 20⟩
abbrev CMP.COMP_BASE_1 : Nat := 0x4010004C
abbrev CMP.COMP_BASE_1.ADDR : Fld := ⟨CMP.COMP_BASE_1, 12, 20⟩
abbrev CMP.HEALTH_BASE_0 : Nat := 0x40100050
abbrev CMP.HEALTH_BASE_0.ADDR : Fld := ⟨CMP.HEALTH_BASE_0, 12, 20⟩
abbrev CMP.HEALTH_BASE_1 : Nat := 0x40100054
abbrev CMP.HEALTH_BASE_1.ADDR : Fld := ⟨CMP.HEALTH_BASE_1, 12, 20⟩
abbrev CMP.KILL_SET : Nat := 0x40100060
abbrev CMP.KILL_SET.NOZZLE : Fld := ⟨CMP.KILL_SET, 0, 16⟩
abbrev CMP.KILL_CLR : Nat := 0x40100064
abbrev CMP.KILL_CNT : Nat := 0x40100068
abbrev CMP.KILL_CNT.COUNT : Fld := ⟨CMP.KILL_CNT, 0, 17⟩
abbrev CMP.STREAM_CONS (k : Nat) : Nat := 0x40100080 + 0x4 * k
abbrev CMP.STREAM_CONS.COUNT (k : Nat) : Fld := ⟨CMP.STREAM_CONS k, 0, 32⟩

/-! LQ, from spec/03_line_queues.md -/
abbrev LQ.CTL : Nat := 0x40120000
abbrev LQ.CTL.EN : Fld := ⟨LQ.CTL, 0, 1⟩
abbrev LQ.STATUS : Nat := 0x40120004
abbrev LQ.STATUS.WRITE_IGNORED : Fld := ⟨LQ.STATUS, 2, 1⟩
abbrev LQ.STATUS.CFG_ERR : Fld := ⟨LQ.STATUS, 1, 1⟩
abbrev LQ.STATUS.BUSY : Fld := ⟨LQ.STATUS, 0, 1⟩
abbrev LQ.FLUSH : Nat := 0x40120008
abbrev LQ.FLUSH.REQ : Fld := ⟨LQ.FLUSH, 0, 16⟩
abbrev LQ.FLUSH_TMO : Nat := 0x4012000C
abbrev LQ.FLUSH_TMO.TMO : Fld := ⟨LQ.FLUSH_TMO, 0, 16⟩
abbrev LQ.RESYNC : Nat := 0x40120010
abbrev LQ.RESYNC.Q : Fld := ⟨LQ.RESYNC, 0, 16⟩
abbrev LQ.CAP (h : Nat) : Nat := 0x40120100 + 0x40 * h
abbrev LQ.CAP.CAP (h : Nat) : Fld := ⟨LQ.CAP h, 0, 17⟩
abbrev LQ.CFG (h : Nat) : Nat := 0x40120104 + 0x40 * h
abbrev LQ.CFG.UNDER_LIMIT (h : Nat) : Fld := ⟨LQ.CFG h, 0, 8⟩
abbrev LQ.SPILL_BASE_LO (h : Nat) : Nat := 0x40120108 + 0x40 * h
abbrev LQ.SPILL_BASE_LO.ADDR (h : Nat) : Fld := ⟨LQ.SPILL_BASE_LO h, 11, 21⟩
abbrev LQ.SPILL_BASE_HI (h : Nat) : Nat := 0x4012010C + 0x40 * h
abbrev LQ.SPILL_BASE_HI.ADDR (h : Nat) : Fld := ⟨LQ.SPILL_BASE_HI h, 0, 32⟩
abbrev LQ.SPILL_LINES (h : Nat) : Nat := 0x40120110 + 0x40 * h
abbrev LQ.SPILL_LINES.LINES (h : Nat) : Fld := ⟨LQ.SPILL_LINES h, 0, 16⟩
abbrev LQ.DEPTH (h : Nat) : Nat := 0x40120114 + 0x40 * h
abbrev LQ.DEPTH.DEPTH (h : Nat) : Fld := ⟨LQ.DEPTH h, 0, 17⟩
abbrev LQ.OCC (h : Nat) : Nat := 0x40120118 + 0x40 * h
abbrev LQ.OCC.SPILL_CNT (h : Nat) : Fld := ⟨LQ.OCC h, 8, 16⟩
abbrev LQ.OCC.HEAD_CNT (h : Nat) : Fld := ⟨LQ.OCC h, 4, 4⟩
abbrev LQ.OCC.TAIL_CNT (h : Nat) : Fld := ⟨LQ.OCC h, 0, 4⟩
abbrev LQ.PEAK (h : Nat) : Nat := 0x4012011C + 0x40 * h
abbrev LQ.PEAK.PEAK (h : Nat) : Fld := ⟨LQ.PEAK h, 0, 17⟩
abbrev LQ.QSTATUS (h : Nat) : Nat := 0x40120120 + 0x40 * h
abbrev LQ.QSTATUS.CAP_REFUSED (h : Nat) : Fld := ⟨LQ.QSTATUS h, 5, 1⟩
abbrev LQ.QSTATUS.SPILL_ERR (h : Nat) : Fld := ⟨LQ.QSTATUS h, 4, 1⟩
abbrev LQ.QSTATUS.FLUSH_FORCED (h : Nat) : Fld := ⟨LQ.QSTATUS h, 3, 1⟩
abbrev LQ.QSTATUS.QPTR_MISMATCH (h : Nat) : Fld := ⟨LQ.QSTATUS h, 2, 1⟩
abbrev LQ.QSTATUS.SEQ (h : Nat) : Fld := ⟨LQ.QSTATUS h, 1, 1⟩
abbrev LQ.QSTATUS.UNDERRUN (h : Nat) : Fld := ⟨LQ.QSTATUS h, 0, 1⟩
abbrev LQ.UNDER_CNT (h : Nat) : Nat := 0x40120124 + 0x40 * h
abbrev LQ.UNDER_CNT.COUNT (h : Nat) : Fld := ⟨LQ.UNDER_CNT h, 0, 32⟩
abbrev LQ.BLANK_CNT (h : Nat) : Nat := 0x40120128 + 0x40 * h
abbrev LQ.BLANK_CNT.COUNT (h : Nat) : Fld := ⟨LQ.BLANK_CNT h, 0, 32⟩
abbrev LQ.LATE_CNT (h : Nat) : Nat := 0x4012012C + 0x40 * h
abbrev LQ.LATE_CNT.COUNT (h : Nat) : Fld := ⟨LQ.LATE_CNT h, 0, 32⟩
abbrev LQ.DROP_BEATS (h : Nat) : Nat := 0x40120130 + 0x40 * h
abbrev LQ.DROP_BEATS.COUNT (h : Nat) : Fld := ⟨LQ.DROP_BEATS h, 0, 32⟩
abbrev LQ.HEAD_Y (h : Nat) : Nat := 0x40120134 + 0x40 * h
abbrev LQ.HEAD_Y.Y (h : Nat) : Fld := ⟨LQ.HEAD_Y h, 0, 32⟩
abbrev LQ.HEAD_JOB (h : Nat) : Nat := 0x40120138 + 0x40 * h
abbrev LQ.HEAD_JOB.VALID (h : Nat) : Fld := ⟨LQ.HEAD_JOB h, 16, 1⟩
abbrev LQ.HEAD_JOB.JOB_ID (h : Nat) : Fld := ⟨LQ.HEAD_JOB h, 0, 16⟩

/-! HPT, from spec/04_head_ports.md -/
abbrev HPT.CTL : Nat := 0x40140000
abbrev HPT.CTL.EN : Fld := ⟨HPT.CTL, 0, 1⟩
abbrev HPT.STATUS : Nat := 0x40140004
abbrev HPT.STATUS.WRITE_IGNORED : Fld := ⟨HPT.STATUS, 1, 1⟩
abbrev HPT.STATUS.BUSY : Fld := ⟨HPT.STATUS, 0, 1⟩
abbrev HPT.PCTL (h : Nat) : Nat := 0x40141000 + 0x200 * h
abbrev HPT.PCTL.DOWN_CLR (h : Nat) : Fld := ⟨HPT.PCTL h, 9, 1⟩
abbrev HPT.PCTL.FP_LOAD (h : Nat) : Fld := ⟨HPT.PCTL h, 8, 1⟩
abbrev HPT.PCTL.CLASS_EXPECT (h : Nat) : Fld := ⟨HPT.PCTL h, 2, 3⟩
abbrev HPT.PCTL.AUTO_ORIENT (h : Nat) : Fld := ⟨HPT.PCTL h, 1, 1⟩
abbrev HPT.PCTL.EN (h : Nat) : Fld := ⟨HPT.PCTL h, 0, 1⟩
abbrev HPT.PSTATUS (h : Nat) : Nat := 0x40141004 + 0x200 * h
abbrev HPT.PSTATUS.FP_ERR (h : Nat) : Fld := ⟨HPT.PSTATUS h, 13, 1⟩
abbrev HPT.PSTATUS.PRS_CHANGE (h : Nat) : Fld := ⟨HPT.PSTATUS h, 12, 1⟩
abbrev HPT.PSTATUS.LANE_FAULT (h : Nat) : Fld := ⟨HPT.PSTATUS h, 11, 1⟩
abbrev HPT.PSTATUS.XFER_LATE (h : Nat) : Fld := ⟨HPT.PSTATUS h, 10, 1⟩
abbrev HPT.PSTATUS.REVERSED (h : Nat) : Fld := ⟨HPT.PSTATUS h, 9, 1⟩
abbrev HPT.PSTATUS.NO_HEAD (h : Nat) : Fld := ⟨HPT.PSTATUS h, 8, 1⟩
abbrev HPT.PSTATUS.FP_PEND (h : Nat) : Fld := ⟨HPT.PSTATUS h, 7, 1⟩
abbrev HPT.PSTATUS.FP_VALID (h : Nat) : Fld := ⟨HPT.PSTATUS h, 6, 1⟩
abbrev HPT.PSTATUS.READY (h : Nat) : Fld := ⟨HPT.PSTATUS h, 5, 1⟩
abbrev HPT.PSTATUS.DOWN_CAUSE (h : Nat) : Fld := ⟨HPT.PSTATUS h, 1, 4⟩
abbrev HPT.PSTATUS.DOWN (h : Nat) : Fld := ⟨HPT.PSTATUS h, 0, 1⟩
abbrev HPT.CLK (h : Nat) : Nat := 0x40141008 + 0x200 * h
abbrev HPT.CLK.CK_GATE (h : Nat) : Fld := ⟨HPT.CLK h, 9, 1⟩
abbrev HPT.CLK.CK_MODE (h : Nat) : Fld := ⟨HPT.CLK h, 8, 1⟩
abbrev HPT.CLK.RATE_DIV (h : Nat) : Fld := ⟨HPT.CLK h, 0, 6⟩
abbrev HPT.LANES (h : Nat) : Nat := 0x4014100C + 0x200 * h
abbrev HPT.LANES.POL_INV (h : Nat) : Fld := ⟨HPT.LANES h, 8, 6⟩
abbrev HPT.LANES.LANE_MAP (h : Nat) : Fld := ⟨HPT.LANES h, 0, 8⟩
abbrev HPT.LAT (h : Nat) : Nat := 0x40141010 + 0x200 * h
abbrev HPT.LAT.LAT_POL (h : Nat) : Fld := ⟨HPT.LAT h, 31, 1⟩
abbrev HPT.LAT.LAT_LEAD (h : Nat) : Fld := ⟨HPT.LAT h, 16, 12⟩
abbrev HPT.LAT.LAT_SETUP (h : Nat) : Fld := ⟨HPT.LAT h, 8, 8⟩
abbrev HPT.LAT.LAT_W (h : Nat) : Fld := ⟨HPT.LAT h, 0, 8⟩
abbrev HPT.ROWS (h : Nat) : Nat := 0x40141014 + 0x200 * h
abbrev HPT.ROWS.RGRP (h : Nat) : Fld := ⟨HPT.ROWS h, 4, 13⟩
abbrev HPT.ROWS.NROWS (h : Nat) : Fld := ⟨HPT.ROWS h, 0, 4⟩
abbrev HPT.ROWPERM (h : Nat) : Nat := 0x40141018 + 0x200 * h
abbrev HPT.ROWPERM.PERM (h : Nat) : Fld := ⟨HPT.ROWPERM h, 0, 24⟩
abbrev HPT.ROW_DLY (h : Nat) (r : Nat) : Nat := 0x40141020 + 0x200 * h + 0x4 * r
abbrev HPT.ROW_DLY.DLY (h : Nat) (r : Nat) : Fld := ⟨HPT.ROW_DLY h r, 0, 10⟩
abbrev HPT.SKEW_BASE (h : Nat) : Nat := 0x40141040 + 0x200 * h
abbrev HPT.SKEW_BASE.ADDR (h : Nat) : Fld := ⟨HPT.SKEW_BASE h, 5, 27⟩
abbrev HPT.SKEW_SIZE (h : Nat) : Nat := 0x40141044 + 0x200 * h
abbrev HPT.SKEW_SIZE.BYTES (h : Nat) : Fld := ⟨HPT.SKEW_SIZE h, 0, 21⟩
abbrev HPT.FPROG_LO (h : Nat) : Nat := 0x40141048 + 0x200 * h
abbrev HPT.FPROG_LO.ADDR (h : Nat) : Fld := ⟨HPT.FPROG_LO h, 0, 32⟩
abbrev HPT.FPROG_HI (h : Nat) : Nat := 0x4014104C + 0x200 * h
abbrev HPT.FPROG_HI.ADDR (h : Nat) : Fld := ⟨HPT.FPROG_HI h, 0, 32⟩
abbrev HPT.FP_STATUS (h : Nat) : Nat := 0x40141050 + 0x200 * h
abbrev HPT.FP_STATUS.CODE (h : Nat) : Fld := ⟨HPT.FP_STATUS h, 24, 8⟩
abbrev HPT.FP_STATUS.LANE (h : Nat) : Fld := ⟨HPT.FP_STATUS h, 22, 2⟩
abbrev HPT.FP_STATUS.INSTR (h : Nat) : Fld := ⟨HPT.FP_STATUS h, 16, 6⟩
abbrev HPT.FP_STATUS.FRAME_BITS (h : Nat) : Fld := ⟨HPT.FP_STATUS h, 0, 16⟩
abbrev HPT.PRS (h : Nat) : Nat := 0x40141054 + 0x200 * h
abbrev HPT.PRS.VALID (h : Nat) : Fld := ⟨HPT.PRS h, 16, 1⟩
abbrev HPT.PRS.RAW (h : Nat) : Fld := ⟨HPT.PRS h, 8, 8⟩
abbrev HPT.PRS.REV (h : Nat) : Fld := ⟨HPT.PRS h, 7, 1⟩
abbrev HPT.PRS.CLASS (h : Nat) : Fld := ⟨HPT.PRS h, 4, 3⟩
abbrev HPT.PRS.CODE (h : Nat) : Fld := ⟨HPT.PRS h, 0, 4⟩
abbrev HPT.RAIL_STATE (h : Nat) : Nat := 0x40141058 + 0x200 * h
abbrev HPT.RAIL_STATE.STATE (h : Nat) : Fld := ⟨HPT.RAIL_STATE h, 0, 2⟩
abbrev HPT.I2C_CTL (h : Nat) : Nat := 0x40141060 + 0x200 * h
abbrev HPT.I2C_CTL.START (h : Nat) : Fld := ⟨HPT.I2C_CTL h, 31, 1⟩
abbrev HPT.I2C_CTL.SPEED (h : Nat) : Fld := ⟨HPT.I2C_CTL h, 24, 1⟩
abbrev HPT.I2C_CTL.RLEN (h : Nat) : Fld := ⟨HPT.I2C_CTL h, 16, 6⟩
abbrev HPT.I2C_CTL.WLEN (h : Nat) : Fld := ⟨HPT.I2C_CTL h, 8, 6⟩
abbrev HPT.I2C_CTL.DEV (h : Nat) : Fld := ⟨HPT.I2C_CTL h, 0, 7⟩
abbrev HPT.I2C_STATUS (h : Nat) : Nat := 0x40141064 + 0x200 * h
abbrev HPT.I2C_STATUS.NBYTES (h : Nat) : Fld := ⟨HPT.I2C_STATUS h, 8, 8⟩
abbrev HPT.I2C_STATUS.STUCK (h : Nat) : Fld := ⟨HPT.I2C_STATUS h, 4, 1⟩
abbrev HPT.I2C_STATUS.TMO (h : Nat) : Fld := ⟨HPT.I2C_STATUS h, 3, 1⟩
abbrev HPT.I2C_STATUS.NACK (h : Nat) : Fld := ⟨HPT.I2C_STATUS h, 2, 1⟩
abbrev HPT.I2C_STATUS.DONE (h : Nat) : Fld := ⟨HPT.I2C_STATUS h, 1, 1⟩
abbrev HPT.I2C_STATUS.BUSY (h : Nat) : Fld := ⟨HPT.I2C_STATUS h, 0, 1⟩
abbrev HPT.I2C_DATA (h : Nat) (k : Nat) : Nat := 0x40141070 + 0x200 * h + 0x4 * k
abbrev HPT.XFER_LATE_CNT (h : Nat) : Nat := 0x40141090 + 0x200 * h
abbrev HPT.XFER_LATE_CNT.COUNT (h : Nat) : Fld := ⟨HPT.XFER_LATE_CNT h, 0, 32⟩
abbrev HPT.DOWN_DISCARD_CNT (h : Nat) : Nat := 0x40141094 + 0x200 * h
abbrev HPT.DOWN_DISCARD_CNT.COUNT (h : Nat) : Fld := ⟨HPT.DOWN_DISCARD_CNT h, 0, 32⟩
abbrev HPT.LANE_STAT (h : Nat) : Nat := 0x40141098 + 0x200 * h
abbrev HPT.LANE_STAT.OPEN (h : Nat) : Fld := ⟨HPT.LANE_STAT h, 8, 6⟩
abbrev HPT.LANE_STAT.SHORT (h : Nat) : Fld := ⟨HPT.LANE_STAT h, 0, 6⟩
abbrev HPT.FRAME_CNT (h : Nat) : Nat := 0x4014109C + 0x200 * h
abbrev HPT.FRAME_CNT.COUNT (h : Nat) : Fld := ⟨HPT.FRAME_CNT h, 0, 32⟩

/-! WFE, from spec/05_waveform_engine.md -/
abbrev WFE.CTL : Nat := 0x40180000
abbrev WFE.CTL.EN : Fld := ⟨WFE.CTL, 0, 1⟩
abbrev WFE.STATUS : Nat := 0x40180004
abbrev WFE.STATUS.WRITE_IGNORED : Fld := ⟨WFE.STATUS, 2, 1⟩
abbrev WFE.STATUS.PROG_ERR : Fld := ⟨WFE.STATUS, 1, 1⟩
abbrev WFE.STATUS.BUSY : Fld := ⟨WFE.STATUS, 0, 1⟩
abbrev WFE.FAULT_SUM : Nat := 0x40180008
abbrev WFE.FAULT_SUM.DOWN : Fld := ⟨WFE.FAULT_SUM, 16, 16⟩
abbrev WFE.FAULT_SUM.TAKE : Fld := ⟨WFE.FAULT_SUM, 0, 16⟩
abbrev WFE.CH_CTL (c : Nat) : Nat := 0x40181000 + 0x80 * c
abbrev WFE.CH_CTL.FAULT_CLR (c : Nat) : Fld := ⟨WFE.CH_CTL c, 31, 1⟩
abbrev WFE.CH_CTL.PD_RESET (c : Nat) : Fld := ⟨WFE.CH_CTL c, 30, 1⟩
abbrev WFE.CH_CTL.TRACK_ACT (c : Nat) : Fld := ⟨WFE.CH_CTL c, 8, 1⟩
abbrev WFE.CH_CTL.OPEN_EN (c : Nat) : Fld := ⟨WFE.CH_CTL c, 7, 1⟩
abbrev WFE.CH_CTL.PD_EN (c : Nat) : Fld := ⟨WFE.CH_CTL c, 6, 1⟩
abbrev WFE.CH_CTL.EN (c : Nat) : Fld := ⟨WFE.CH_CTL c, 0, 1⟩
abbrev WFE.CH_STATUS (c : Nat) : Nat := 0x40181004 + 0x80 * c
abbrev WFE.CH_STATUS.WIN (c : Nat) : Fld := ⟨WFE.CH_STATUS c, 12, 3⟩
abbrev WFE.CH_STATUS.SAT (c : Nat) : Fld := ⟨WFE.CH_STATUS c, 11, 1⟩
abbrev WFE.CH_STATUS.PD_SAT (c : Nat) : Fld := ⟨WFE.CH_STATUS c, 10, 1⟩
abbrev WFE.CH_STATUS.TRACK (c : Nat) : Fld := ⟨WFE.CH_STATUS c, 9, 1⟩
abbrev WFE.CH_STATUS.PROG_ERR (c : Nat) : Fld := ⟨WFE.CH_STATUS c, 8, 1⟩
abbrev WFE.CH_STATUS.SLOT_LIMIT (c : Nat) : Fld := ⟨WFE.CH_STATUS c, 7, 1⟩
abbrev WFE.CH_STATUS.REST_MISMATCH (c : Nat) : Fld := ⟨WFE.CH_STATUS c, 6, 1⟩
abbrev WFE.CH_STATUS.FAULT_CAUSE (c : Nat) : Fld := ⟨WFE.CH_STATUS c, 3, 3⟩
abbrev WFE.CH_STATUS.FAULTED (c : Nat) : Fld := ⟨WFE.CH_STATUS c, 2, 1⟩
abbrev WFE.CH_STATUS.READY (c : Nat) : Fld := ⟨WFE.CH_STATUS c, 1, 1⟩
abbrev WFE.CH_STATUS.BUSY (c : Nat) : Fld := ⟨WFE.CH_STATUS c, 0, 1⟩
abbrev WFE.PROG_PTR (c : Nat) : Nat := 0x40181008 + 0x80 * c
abbrev WFE.PROG_PTR.INDEX (c : Nat) : Fld := ⟨WFE.PROG_PTR c, 0, 14⟩
abbrev WFE.REST (c : Nat) : Nat := 0x4018100C + 0x80 * c
abbrev WFE.REST.CODE (c : Nat) : Fld := ⟨WFE.REST c, 0, 16⟩
abbrev WFE.SLOT_LIMIT (c : Nat) : Nat := 0x40181010 + 0x80 * c
abbrev WFE.SLOT_LIMIT.LIMIT (c : Nat) : Fld := ⟨WFE.SLOT_LIMIT c, 0, 16⟩
abbrev WFE.I_SHORT (c : Nat) : Nat := 0x40181014 + 0x80 * c
abbrev WFE.I_SHORT.LIMIT (c : Nat) : Fld := ⟨WFE.I_SHORT c, 0, 14⟩
abbrev WFE.OPEN_CFG (c : Nat) : Nat := 0x40181018 + 0x80 * c
abbrev WFE.OPEN_CFG.OPEN_FRAC (c : Nat) : Fld := ⟨WFE.OPEN_CFG c, 24, 8⟩
abbrev WFE.OPEN_CFG.OPEN_N (c : Nat) : Fld := ⟨WFE.OPEN_CFG c, 16, 4⟩
abbrev WFE.OPEN_CFG.OPEN_MIN_DV (c : Nat) : Fld := ⟨WFE.OPEN_CFG c, 0, 16⟩
abbrev WFE.LOAD_C (c : Nat) : Nat := 0x4018101C + 0x80 * c
abbrev WFE.LOAD_C.C_NOZ (c : Nat) : Fld := ⟨WFE.LOAD_C c, 16, 16⟩
abbrev WFE.LOAD_C.C_FIX (c : Nat) : Fld := ⟨WFE.LOAD_C c, 0, 16⟩
abbrev WFE.TRACK_CFG (c : Nat) : Nat := 0x40181020 + 0x80 * c
abbrev WFE.TRACK_CFG.TRACK_N (c : Nat) : Fld := ⟨WFE.TRACK_CFG c, 24, 8⟩
abbrev WFE.TRACK_CFG.TRACK_LIM (c : Nat) : Fld := ⟨WFE.TRACK_CFG c, 0, 16⟩
abbrev WFE.PD_CFG (c : Nat) : Nat := 0x40181024 + 0x80 * c
abbrev WFE.PD_CFG.PD_EVERY (c : Nat) : Fld := ⟨WFE.PD_CFG c, 28, 4⟩
abbrev WFE.PD_CFG.CORR_LIM (c : Nat) : Fld := ⟨WFE.PD_CFG c, 8, 16⟩
abbrev WFE.PD_CFG.MU_SH (c : Nat) : Fld := ⟨WFE.PD_CFG c, 0, 4⟩
abbrev WFE.GAIN_EFF (c : Nat) : Nat := 0x40181030 + 0x80 * c
abbrev WFE.GAIN_EFF.GAIN (c : Nat) : Fld := ⟨WFE.GAIN_EFF c, 0, 16⟩
abbrev WFE.OFFSET_EFF (c : Nat) : Nat := 0x40181034 + 0x80 * c
abbrev WFE.OFFSET_EFF.OFFSET (c : Nat) : Fld := ⟨WFE.OFFSET_EFF c, 0, 24⟩
abbrev WFE.LOOP_DLY_EFF (c : Nat) : Nat := 0x40181038 + 0x80 * c
abbrev WFE.LOOP_DLY_EFF.DLY (c : Nat) : Fld := ⟨WFE.LOOP_DLY_EFF c, 0, 6⟩
abbrev WFE.SLOT_CNT (c : Nat) : Nat := 0x40181040 + 0x80 * c
abbrev WFE.SLOT_CNT.COUNT (c : Nat) : Fld := ⟨WFE.SLOT_CNT c, 0, 32⟩
abbrev WFE.FAULT_CNT (c : Nat) : Nat := 0x40181044 + 0x80 * c
abbrev WFE.FAULT_CNT.COUNT (c : Nat) : Fld := ⟨WFE.FAULT_CNT c, 0, 32⟩
abbrev WFE.FB_LAST (c : Nat) : Nat := 0x40181048 + 0x80 * c
abbrev WFE.FB_LAST.IFB (c : Nat) : Fld := ⟨WFE.FB_LAST c, 16, 14⟩
abbrev WFE.FB_LAST.VFB (c : Nat) : Fld := ⟨WFE.FB_LAST c, 0, 14⟩
abbrev WFE.SLOT_LEN (c : Nat) : Nat := 0x4018104C + 0x80 * c
abbrev WFE.SLOT_LEN.LEN (c : Nat) : Fld := ⟨WFE.SLOT_LEN c, 0, 20⟩
abbrev WFE.PD_UPD_CNT (c : Nat) : Nat := 0x40181050 + 0x80 * c
abbrev WFE.PD_UPD_CNT.COUNT (c : Nat) : Fld := ⟨WFE.PD_UPD_CNT c, 0, 32⟩
abbrev WFE.SAT_CNT (c : Nat) : Nat := 0x40181054 + 0x80 * c
abbrev WFE.SAT_CNT.COUNT (c : Nat) : Fld := ⟨WFE.SAT_CNT c, 0, 32⟩
abbrev WFE.HEAD_CTL (h : Nat) : Nat := 0x40183000 + 0x40 * h
abbrev WFE.HEAD_CTL.DOWN_CLR (h : Nat) : Fld := ⟨WFE.HEAD_CTL h, 31, 1⟩
abbrev WFE.HEAD_CTL.TAKEOVER_CLR (h : Nat) : Fld := ⟨WFE.HEAD_CTL h, 30, 1⟩
abbrev WFE.HEAD_CTL.STB_ADJ (h : Nat) : Fld := ⟨WFE.HEAD_CTL h, 16, 8⟩
abbrev WFE.HEAD_CTL.STB_EN (h : Nat) : Fld := ⟨WFE.HEAD_CTL h, 4, 1⟩
abbrev WFE.HEAD_CTL.WSTB_W (h : Nat) : Fld := ⟨WFE.HEAD_CTL h, 0, 3⟩
abbrev WFE.HEAD_STAT (h : Nat) : Nat := 0x40183004 + 0x40 * h
abbrev WFE.HEAD_STAT.DOWN_WHY (h : Nat) : Fld := ⟨WFE.HEAD_STAT h, 12, 4⟩
abbrev WFE.HEAD_STAT.HEAD_DOWN (h : Nat) : Fld := ⟨WFE.HEAD_STAT h, 10, 1⟩
abbrev WFE.HEAD_STAT.STB_COLLIDE (h : Nat) : Fld := ⟨WFE.HEAD_STAT h, 9, 1⟩
abbrev WFE.HEAD_STAT.REFUSED (h : Nat) : Fld := ⟨WFE.HEAD_STAT h, 8, 1⟩
abbrev WFE.HEAD_STAT.SENSE_LOST (h : Nat) : Fld := ⟨WFE.HEAD_STAT h, 5, 1⟩
abbrev WFE.HEAD_STAT.CAL_TAKE (h : Nat) : Fld := ⟨WFE.HEAD_STAT h, 4, 1⟩
abbrev WFE.HEAD_STAT.FAULT_TAKE (h : Nat) : Fld := ⟨WFE.HEAD_STAT h, 3, 1⟩
abbrev WFE.HEAD_STAT.SETTLED (h : Nat) : Fld := ⟨WFE.HEAD_STAT h, 2, 1⟩
abbrev WFE.HEAD_STAT.RAIL_STATE (h : Nat) : Fld := ⟨WFE.HEAD_STAT h, 0, 2⟩
abbrev WFE.REFUSED_CNT (h : Nat) : Nat := 0x40183008 + 0x40 * h
abbrev WFE.REFUSED_CNT.COUNT (h : Nat) : Fld := ⟨WFE.REFUSED_CNT h, 0, 32⟩
abbrev WFE.STB_COLLIDE_CNT (h : Nat) : Nat := 0x4018300C + 0x40 * h
abbrev WFE.STB_COLLIDE_CNT.COUNT (h : Nat) : Fld := ⟨WFE.STB_COLLIDE_CNT h, 0, 32⟩
abbrev WFE.SENSE_VOID_CNT (h : Nat) : Nat := 0x40183010 + 0x40 * h
abbrev WFE.SENSE_VOID_CNT.COUNT (h : Nat) : Fld := ⟨WFE.SENSE_VOID_CNT h, 0, 32⟩
abbrev WFE.TAKEOVER_CNT (h : Nat) : Nat := 0x40183014 + 0x40 * h
abbrev WFE.TAKEOVER_CNT.COUNT (h : Nat) : Fld := ⟨WFE.TAKEOVER_CNT h, 0, 32⟩
abbrev WFE.CORR (c : Nat) (k : Nat) : Nat := 0x40190000 + 0x400 * c + 0x4 * k
abbrev WFE.WMEM (k : Nat) : Nat := 0x401A0000 + 0x4 * k

/-! FIRE, from spec/06_fire_timing.md -/
abbrev FIRE.CTL : Nat := 0x401C0000
abbrev FIRE.CTL.SLUICE_OUT : Fld := ⟨FIRE.CTL, 2, 1⟩
abbrev FIRE.CTL.EN : Fld := ⟨FIRE.CTL, 0, 1⟩
abbrev FIRE.STATUS : Nat := 0x401C0004
abbrev FIRE.STATUS.WRITE_IGNORED : Fld := ⟨FIRE.STATUS, 9, 1⟩
abbrev FIRE.STATUS.CFG_ERR : Fld := ⟨FIRE.STATUS, 8, 1⟩
abbrev FIRE.STATUS.PRED_LOST : Fld := ⟨FIRE.STATUS, 7, 1⟩
abbrev FIRE.STATUS.REVERSE : Fld := ⟨FIRE.STATUS, 6, 1⟩
abbrev FIRE.STATUS.OVERSPEED : Fld := ⟨FIRE.STATUS, 5, 1⟩
abbrev FIRE.STATUS.LATE : Fld := ⟨FIRE.STATUS, 4, 1⟩
abbrev FIRE.STATUS.STOPPED : Fld := ⟨FIRE.STATUS, 3, 1⟩
abbrev FIRE.STATUS.PRED_VALID : Fld := ⟨FIRE.STATUS, 2, 1⟩
abbrev FIRE.STATUS.ARMED : Fld := ⟨FIRE.STATUS, 1, 1⟩
abbrev FIRE.STATUS.RUNNING : Fld := ⟨FIRE.STATUS, 0, 1⟩
abbrev FIRE.CFG : Nat := 0x401C0008
abbrev FIRE.CFG.AXIS : Fld := ⟨FIRE.CFG, 28, 3⟩
abbrev FIRE.CFG.LOOKAHEAD : Fld := ⟨FIRE.CFG, 16, 10⟩
abbrev FIRE.CFG.MIN_PERIOD : Fld := ⟨FIRE.CFG, 0, 16⟩
abbrev FIRE.PRED_CFG : Nat := 0x401C000C
abbrev FIRE.PRED_CFG.COMMIT : Fld := ⟨FIRE.PRED_CFG, 24, 8⟩
abbrev FIRE.PRED_CFG.STALE_TMO : Fld := ⟨FIRE.PRED_CFG, 0, 16⟩
abbrev FIRE.REV_CFG : Nat := 0x401C0010
abbrev FIRE.REV_CFG.REV_LIMIT : Fld := ⟨FIRE.REV_CFG, 0, 24⟩
abbrev FIRE.SLUICE_CTL : Nat := 0x401C0014
abbrev FIRE.SLUICE_CTL.SET : Fld := ⟨FIRE.SLUICE_CTL, 1, 1⟩
abbrev FIRE.SLUICE_CTL.CLR : Fld := ⟨FIRE.SLUICE_CTL, 0, 1⟩
abbrev FIRE.SLUICE_STAT : Nat := 0x401C0018
abbrev FIRE.SLUICE_STAT.CAUSE : Fld := ⟨FIRE.SLUICE_STAT, 4, 4⟩
abbrev FIRE.SLUICE_STAT.PIN : Fld := ⟨FIRE.SLUICE_STAT, 2, 1⟩
abbrev FIRE.SLUICE_STAT.DRIVE : Fld := ⟨FIRE.SLUICE_STAT, 1, 1⟩
abbrev FIRE.SLUICE_STAT.STOPPED : Fld := ⟨FIRE.SLUICE_STAT, 0, 1⟩
abbrev FIRE.ARM_ERR : Nat := 0x401C001C
abbrev FIRE.ARM_ERR.CODE : Fld := ⟨FIRE.ARM_ERR, 24, 8⟩
abbrev FIRE.ARM_ERR.JOB_ID : Fld := ⟨FIRE.ARM_ERR, 0, 16⟩
abbrev FIRE.CMP_FRAC : Nat := 0x401C0020
abbrev FIRE.CMP_FRAC.CMP : Fld := ⟨FIRE.CMP_FRAC, 0, 24⟩
abbrev FIRE.CMP_INT : Nat := 0x401C0024
abbrev FIRE.CMP_INT.CMP : Fld := ⟨FIRE.CMP_INT, 0, 24⟩
abbrev FIRE.PITCH_FRAC : Nat := 0x401C0028
abbrev FIRE.PITCH_FRAC.PITCH : Fld := ⟨FIRE.PITCH_FRAC, 0, 24⟩
abbrev FIRE.PITCH_INT : Nat := 0x401C002C
abbrev FIRE.PITCH_INT.PITCH : Fld := ⟨FIRE.PITCH_INT, 0, 24⟩
abbrev FIRE.HWM : Nat := 0x401C0030
abbrev FIRE.HWM.POS : Fld := ⟨FIRE.HWM, 0, 24⟩
abbrev FIRE.JOB_ID : Nat := 0x401C0034
abbrev FIRE.JOB_ID.ID : Fld := ⟨FIRE.JOB_ID, 0, 16⟩
abbrev FIRE.JOB_LINE : Nat := 0x401C0038
abbrev FIRE.JOB_LINE.LINE : Fld := ⟨FIRE.JOB_LINE, 0, 32⟩
abbrev FIRE.LINE_CNT : Nat := 0x401C003C
abbrev FIRE.LINE_CNT.COUNT : Fld := ⟨FIRE.LINE_CNT, 0, 32⟩
abbrev FIRE.TREF_LO : Nat := 0x401C0040
abbrev FIRE.TREF_LO.TIME : Fld := ⟨FIRE.TREF_LO, 0, 32⟩
abbrev FIRE.TREF_HI : Nat := 0x401C0044
abbrev FIRE.TREF_HI.TIME : Fld := ⟨FIRE.TREF_HI, 0, 16⟩
abbrev FIRE.SPEED : Nat := 0x401C0048
abbrev FIRE.SPEED.V : Fld := ⟨FIRE.SPEED, 0, 32⟩
abbrev FIRE.MISSED : Nat := 0x401C004C
abbrev FIRE.MISSED.COUNT : Fld := ⟨FIRE.MISSED, 0, 32⟩
abbrev FIRE.LATE_CNT : Nat := 0x401C0050
abbrev FIRE.LATE_CNT.COUNT : Fld := ⟨FIRE.LATE_CNT, 0, 32⟩
abbrev FIRE.OVERSPEED_CNT : Nat := 0x401C0054
abbrev FIRE.OVERSPEED_CNT.COUNT : Fld := ⟨FIRE.OVERSPEED_CNT, 0, 32⟩
abbrev FIRE.PRED_LOST_CNT : Nat := 0x401C0058
abbrev FIRE.PRED_LOST_CNT.COUNT : Fld := ⟨FIRE.PRED_LOST_CNT, 0, 32⟩
abbrev FIRE.REVERSE_CNT : Nat := 0x401C005C
abbrev FIRE.REVERSE_CNT.COUNT : Fld := ⟨FIRE.REVERSE_CNT, 0, 32⟩
abbrev FIRE.TAP_CNT : Nat := 0x401C0060
abbrev FIRE.TAP_CNT.COUNT : Fld := ⟨FIRE.TAP_CNT, 0, 32⟩
abbrev FIRE.HEAD_CFG (h : Nat) : Nat := 0x401C1000 + 0x80 * h
abbrev FIRE.HEAD_CFG.DLY (h : Nat) : Fld := ⟨FIRE.HEAD_CFG h, 0, 16⟩
abbrev FIRE.HSTAT (h : Nat) : Nat := 0x401C1004 + 0x80 * h
abbrev FIRE.HSTAT.ROW_REFUSED (h : Nat) : Fld := ⟨FIRE.HSTAT h, 8, 1⟩
abbrev FIRE.HSTAT.NO_TRIG (h : Nat) : Fld := ⟨FIRE.HSTAT h, 7, 1⟩
abbrev FIRE.HSTAT.GROUPS (h : Nat) : Fld := ⟨FIRE.HSTAT h, 0, 4⟩
abbrev FIRE.ROW_MISS_CNT (h : Nat) : Nat := 0x401C1008 + 0x80 * h
abbrev FIRE.ROW_MISS_CNT.COUNT (h : Nat) : Fld := ⟨FIRE.ROW_MISS_CNT h, 0, 32⟩
abbrev FIRE.TRIG_CNT (h : Nat) : Nat := 0x401C100C + 0x80 * h
abbrev FIRE.TRIG_CNT.COUNT (h : Nat) : Fld := ⟨FIRE.TRIG_CNT h, 0, 32⟩
abbrev FIRE.LAST_TRIG_LO (h : Nat) : Nat := 0x401C1010 + 0x80 * h
abbrev FIRE.LAST_TRIG_LO.TIME (h : Nat) : Fld := ⟨FIRE.LAST_TRIG_LO h, 0, 32⟩
abbrev FIRE.LAST_TRIG_HI (h : Nat) : Nat := 0x401C1014 + 0x80 * h
abbrev FIRE.LAST_TRIG_HI.TIME (h : Nat) : Fld := ⟨FIRE.LAST_TRIG_HI h, 0, 16⟩
abbrev FIRE.ROW_FRAC (h : Nat) (r : Nat) : Nat := 0x401C1020 + 0x80 * h + 0x4 * r
abbrev FIRE.ROW_FRAC.FRAC (h : Nat) (r : Nat) : Fld := ⟨FIRE.ROW_FRAC h r, 0, 16⟩

/-! POS, from spec/07_position.md -/
abbrev POS.CTL : Nat := 0x401E0000
abbrev POS.CTL.EN : Fld := ⟨POS.CTL, 0, 1⟩
abbrev POS.STATUS : Nat := 0x401E0004
abbrev POS.STATUS.CFG_ERR : Fld := ⟨POS.STATUS, 1, 1⟩
abbrev POS.STATUS.WRITE_IGNORED : Fld := ⟨POS.STATUS, 0, 1⟩
abbrev POS.SNAP : Nat := 0x401E0008
abbrev POS.SNAP.REQ : Fld := ⟨POS.SNAP, 0, 1⟩
abbrev POS.TIDE_CFG : Nat := 0x401E000C
abbrev POS.TIDE_CFG.EN : Fld := ⟨POS.TIDE_CFG, 4, 1⟩
abbrev POS.TIDE_CFG.AXIS : Fld := ⟨POS.TIDE_CFG, 0, 3⟩
abbrev POS.TIDE_CNT : Nat := 0x401E0010
abbrev POS.TIDE_CNT.COUNT : Fld := ⟨POS.TIDE_CNT, 0, 32⟩
abbrev POS.SNAP_P (n : Nat) : Nat := 0x401E0040 + 0x10 * n
abbrev POS.SNAP_T_LO (n : Nat) : Nat := 0x401E0044 + 0x10 * n
abbrev POS.SNAP_T_HI (n : Nat) : Nat := 0x401E0048 + 0x10 * n
abbrev POS.SNAP_T_HI.VALID (n : Nat) : Fld := ⟨POS.SNAP_T_HI n, 16, 1⟩
abbrev POS.SNAP_T_HI.TIME (n : Nat) : Fld := ⟨POS.SNAP_T_HI n, 0, 16⟩
abbrev POS.SNAP_V (n : Nat) : Nat := 0x401E004C + 0x10 * n
abbrev POS.AX_CTL (n : Nat) : Nat := 0x401E0100 + 0x100 * n
abbrev POS.AX_CTL.SPD_M (n : Nat) : Fld := ⟨POS.AX_CTL n, 24, 6⟩
abbrev POS.AX_CTL.FILT (n : Nat) : Fld := ⟨POS.AX_CTL n, 16, 6⟩
abbrev POS.AX_CTL.WIRE_EN (n : Nat) : Fld := ⟨POS.AX_CTL n, 14, 1⟩
abbrev POS.AX_CTL.ZQ_EN (n : Nat) : Fld := ⟨POS.AX_CTL n, 13, 1⟩
abbrev POS.AX_CTL.ZQ_B (n : Nat) : Fld := ⟨POS.AX_CTL n, 12, 1⟩
abbrev POS.AX_CTL.ZQ_A (n : Nat) : Fld := ⟨POS.AX_CTL n, 11, 1⟩
abbrev POS.AX_CTL.IDX_MODE (n : Nat) : Fld := ⟨POS.AX_CTL n, 9, 2⟩
abbrev POS.AX_CTL.TERM_EN (n : Nat) : Fld := ⟨POS.AX_CTL n, 8, 1⟩
abbrev POS.AX_CTL.INV_Z (n : Nat) : Fld := ⟨POS.AX_CTL n, 7, 1⟩
abbrev POS.AX_CTL.INV_B (n : Nat) : Fld := ⟨POS.AX_CTL n, 6, 1⟩
abbrev POS.AX_CTL.INV_A (n : Nat) : Fld := ⟨POS.AX_CTL n, 5, 1⟩
abbrev POS.AX_CTL.SWAP_AB (n : Nat) : Fld := ⟨POS.AX_CTL n, 4, 1⟩
abbrev POS.AX_CTL.MODE (n : Nat) : Fld := ⟨POS.AX_CTL n, 1, 3⟩
abbrev POS.AX_CTL.EN (n : Nat) : Fld := ⟨POS.AX_CTL n, 0, 1⟩
abbrev POS.AX_STATUS (n : Nat) : Nat := 0x401E0104 + 0x100 * n
abbrev POS.AX_STATUS.IDX_RST_BLOCKED (n : Nat) : Fld := ⟨POS.AX_STATUS n, 12, 1⟩
abbrev POS.AX_STATUS.AXIS_LOST (n : Nat) : Fld := ⟨POS.AX_STATUS n, 11, 1⟩
abbrev POS.AX_STATUS.WIRE (n : Nat) : Fld := ⟨POS.AX_STATUS n, 10, 1⟩
abbrev POS.AX_STATUS.IDX_DRIFT (n : Nat) : Fld := ⟨POS.AX_STATUS n, 9, 1⟩
abbrev POS.AX_STATUS.SER_ERR (n : Nat) : Fld := ⟨POS.AX_STATUS n, 8, 1⟩
abbrev POS.AX_STATUS.HALL_INVALID (n : Nat) : Fld := ⟨POS.AX_STATUS n, 7, 1⟩
abbrev POS.AX_STATUS.HALL_SEQ (n : Nat) : Fld := ⟨POS.AX_STATUS n, 6, 1⟩
abbrev POS.AX_STATUS.SKIP (n : Nat) : Fld := ⟨POS.AX_STATUS n, 5, 1⟩
abbrev POS.AX_STATUS.XMODE (n : Nat) : Fld := ⟨POS.AX_STATUS n, 3, 1⟩
abbrev POS.AX_STATUS.STOPPED (n : Nat) : Fld := ⟨POS.AX_STATUS n, 2, 1⟩
abbrev POS.AX_STATUS.DIR (n : Nat) : Fld := ⟨POS.AX_STATUS n, 1, 1⟩
abbrev POS.AX_STATUS.VALID (n : Nat) : Fld := ⟨POS.AX_STATUS n, 0, 1⟩
abbrev POS.COUNT (n : Nat) : Nat := 0x401E0108 + 0x100 * n
abbrev POS.COUNT.COUNT (n : Nat) : Fld := ⟨POS.COUNT n, 0, 24⟩
abbrev POS.SPEED (n : Nat) : Nat := 0x401E010C + 0x100 * n
abbrev POS.SPEED.V (n : Nat) : Fld := ⟨POS.SPEED n, 0, 32⟩
abbrev POS.SAMP_P (n : Nat) : Nat := 0x401E0110 + 0x100 * n
abbrev POS.SAMP_P.P (n : Nat) : Fld := ⟨POS.SAMP_P n, 0, 24⟩
abbrev POS.SAMP_T_LO (n : Nat) : Nat := 0x401E0114 + 0x100 * n
abbrev POS.SAMP_T_LO.TIME (n : Nat) : Fld := ⟨POS.SAMP_T_LO n, 0, 32⟩
abbrev POS.SAMP_T_HI (n : Nat) : Nat := 0x401E0118 + 0x100 * n
abbrev POS.SAMP_T_HI.TIME (n : Nat) : Fld := ⟨POS.SAMP_T_HI n, 0, 16⟩
abbrev POS.SAMP_V (n : Nat) : Nat := 0x401E011C + 0x100 * n
abbrev POS.SAMP_V.V (n : Nat) : Fld := ⟨POS.SAMP_V n, 0, 32⟩
abbrev POS.IDX_P (n : Nat) : Nat := 0x401E0120 + 0x100 * n
abbrev POS.IDX_P.P (n : Nat) : Fld := ⟨POS.IDX_P n, 0, 24⟩
abbrev POS.IDX_T_LO (n : Nat) : Nat := 0x401E0124 + 0x100 * n
abbrev POS.IDX_T_LO.TIME (n : Nat) : Fld := ⟨POS.IDX_T_LO n, 0, 32⟩
abbrev POS.IDX_T_HI (n : Nat) : Nat := 0x401E0128 + 0x100 * n
abbrev POS.IDX_T_HI.DIR (n : Nat) : Fld := ⟨POS.IDX_T_HI n, 16, 1⟩
abbrev POS.IDX_T_HI.TIME (n : Nat) : Fld := ⟨POS.IDX_T_HI n, 0, 16⟩
abbrev POS.IDX_DRIFT (n : Nat) : Nat := 0x401E012C + 0x100 * n
abbrev POS.IDX_DRIFT.D (n : Nat) : Fld := ⟨POS.IDX_DRIFT n, 0, 24⟩
abbrev POS.IDX_SPACING (n : Nat) : Nat := 0x401E0130 + 0x100 * n
abbrev POS.IDX_SPACING.COUNTS (n : Nat) : Fld := ⟨POS.IDX_SPACING n, 0, 24⟩
abbrev POS.IDX_TOL (n : Nat) : Nat := 0x401E0134 + 0x100 * n
abbrev POS.IDX_TOL.COUNTS (n : Nat) : Fld := ⟨POS.IDX_TOL n, 0, 16⟩
abbrev POS.RST_VAL (n : Nat) : Nat := 0x401E0138 + 0x100 * n
abbrev POS.RST_VAL.VALUE (n : Nat) : Fld := ⟨POS.RST_VAL n, 0, 24⟩
abbrev POS.RATE_CFG (n : Nat) : Nat := 0x401E013C + 0x100 * n
abbrev POS.RATE_CFG.STOP_TMO (n : Nat) : Fld := ⟨POS.RATE_CFG n, 24, 8⟩
abbrev POS.RATE_CFG.XDIV (n : Nat) : Fld := ⟨POS.RATE_CFG n, 16, 3⟩
abbrev POS.RATE_CFG.XRATE (n : Nat) : Fld := ⟨POS.RATE_CFG n, 0, 14⟩
abbrev POS.SKIP_CNT (n : Nat) : Nat := 0x401E0140 + 0x100 * n
abbrev POS.SKIP_CNT.COUNT (n : Nat) : Fld := ⟨POS.SKIP_CNT n, 0, 32⟩
abbrev POS.DISC_CNT (n : Nat) : Nat := 0x401E0144 + 0x100 * n
abbrev POS.DISC_CNT.COUNT (n : Nat) : Fld := ⟨POS.DISC_CNT n, 0, 32⟩
abbrev POS.SEQ_CNT (n : Nat) : Nat := 0x401E0148 + 0x100 * n
abbrev POS.SEQ_CNT.COUNT (n : Nat) : Fld := ⟨POS.SEQ_CNT n, 0, 32⟩
abbrev POS.SER_ERR_CNT (n : Nat) : Nat := 0x401E014C + 0x100 * n
abbrev POS.SER_ERR_CNT.COUNT (n : Nat) : Fld := ⟨POS.SER_ERR_CNT n, 0, 32⟩
abbrev POS.EDGE_CNT (n : Nat) : Nat := 0x401E0150 + 0x100 * n
abbrev POS.EDGE_CNT.COUNT (n : Nat) : Fld := ⟨POS.EDGE_CNT n, 0, 32⟩
abbrev POS.IDX_CNT (n : Nat) : Nat := 0x401E0154 + 0x100 * n
abbrev POS.IDX_CNT.COUNT (n : Nat) : Fld := ⟨POS.IDX_CNT n, 0, 32⟩
abbrev POS.SER_CLK (n : Nat) : Nat := 0x401E0160 + 0x100 * n
abbrev POS.SER_CLK.LEAD (n : Nat) : Fld := ⟨POS.SER_CLK n, 24, 3⟩
abbrev POS.SER_CLK.FAIL_LIM (n : Nat) : Fld := ⟨POS.SER_CLK n, 12, 4⟩
abbrev POS.SER_CLK.CLK_DIV (n : Nat) : Fld := ⟨POS.SER_CLK n, 0, 10⟩
abbrev POS.SER_FRAME (n : Nat) : Nat := 0x401E0164 + 0x100 * n
abbrev POS.SER_FRAME.ERR_POL (n : Nat) : Fld := ⟨POS.SER_FRAME n, 31, 1⟩
abbrev POS.SER_FRAME.ERR_EN (n : Nat) : Fld := ⟨POS.SER_FRAME n, 30, 1⟩
abbrev POS.SER_FRAME.ERR_IDX (n : Nat) : Fld := ⟨POS.SER_FRAME n, 24, 6⟩
abbrev POS.SER_FRAME.POS_W (n : Nat) : Fld := ⟨POS.SER_FRAME n, 16, 6⟩
abbrev POS.SER_FRAME.POS_FIRST (n : Nat) : Fld := ⟨POS.SER_FRAME n, 8, 6⟩
abbrev POS.SER_FRAME.GRAY (n : Nat) : Fld := ⟨POS.SER_FRAME n, 6, 1⟩
abbrev POS.SER_FRAME.LEN_M1 (n : Nat) : Fld := ⟨POS.SER_FRAME n, 0, 6⟩
abbrev POS.SER_CRC (n : Nat) : Nat := 0x401E0168 + 0x100 * n
abbrev POS.SER_CRC.CRC_IDX (n : Nat) : Fld := ⟨POS.SER_CRC n, 16, 6⟩
abbrev POS.SER_CRC.CRC_FROM (n : Nat) : Fld := ⟨POS.SER_CRC n, 8, 6⟩
abbrev POS.SER_CRC.CRC_INV (n : Nat) : Fld := ⟨POS.SER_CRC n, 5, 1⟩
abbrev POS.SER_CRC.CRC_W (n : Nat) : Fld := ⟨POS.SER_CRC n, 0, 5⟩
abbrev POS.SER_POLY (n : Nat) : Nat := 0x401E016C + 0x100 * n
abbrev POS.SER_POLY.INIT (n : Nat) : Fld := ⟨POS.SER_POLY n, 16, 16⟩
abbrev POS.SER_POLY.POLY (n : Nat) : Fld := ⟨POS.SER_POLY n, 0, 16⟩
abbrev POS.SER_TIME (n : Nat) : Nat := 0x401E0170 + 0x100 * n
abbrev POS.SER_TIME.ACK_MAX (n : Nat) : Fld := ⟨POS.SER_TIME n, 24, 8⟩
abbrev POS.SER_TIME.TIMEOUT (n : Nat) : Fld := ⟨POS.SER_TIME n, 16, 8⟩
abbrev POS.SER_TIME.PERIOD (n : Nat) : Fld := ⟨POS.SER_TIME n, 0, 16⟩
abbrev POS.SER_MAP (n : Nat) : Nat := 0x401E0174 + 0x100 * n
abbrev POS.SER_MAP.SHIFT (n : Nat) : Fld := ⟨POS.SER_MAP n, 24, 6⟩
abbrev POS.SER_MAP.MAX_STEP (n : Nat) : Fld := ⟨POS.SER_MAP n, 0, 24⟩
abbrev POS.SER_LAT (n : Nat) : Nat := 0x401E0178 + 0x100 * n
abbrev POS.SER_LAT.SAMPLE_DLY (n : Nat) : Fld := ⟨POS.SER_LAT n, 16, 16⟩
abbrev POS.SER_LAT.LAT_COMP (n : Nat) : Fld := ⟨POS.SER_LAT n, 0, 16⟩
abbrev POS.SER_STAT (n : Nat) : Nat := 0x401E017C + 0x100 * n
abbrev POS.SER_STAT.LAST_ERR (n : Nat) : Fld := ⟨POS.SER_STAT n, 16, 4⟩
abbrev POS.SER_STAT.DELAY (n : Nat) : Fld := ⟨POS.SER_STAT n, 0, 16⟩
abbrev POS.SER_RAW_LO (n : Nat) : Nat := 0x401E0180 + 0x100 * n
abbrev POS.SER_RAW_LO.BITS (n : Nat) : Fld := ⟨POS.SER_RAW_LO n, 0, 32⟩
abbrev POS.SER_RAW_HI (n : Nat) : Nat := 0x401E0184 + 0x100 * n
abbrev POS.SER_RAW_HI.BITS (n : Nat) : Fld := ⟨POS.SER_RAW_HI n, 0, 32⟩

/-! NH, from spec/08_nozzle_health.md -/
abbrev NH.CTL : Nat := 0x40200000
abbrev NH.CTL.CLASS_EVT : Fld := ⟨NH.CTL, 3, 1⟩
abbrev NH.CTL.AUTO_PUB : Fld := ⟨NH.CTL, 2, 1⟩
abbrev NH.CTL.SENSE_EN : Fld := ⟨NH.CTL, 1, 1⟩
abbrev NH.CTL.EN : Fld := ⟨NH.CTL, 0, 1⟩
abbrev NH.STATUS : Nat := 0x40200004
abbrev NH.STATUS.PUB_OVF : Fld := ⟨NH.STATUS, 4, 1⟩
abbrev NH.STATUS.WRITE_IGNORED : Fld := ⟨NH.STATUS, 3, 1⟩
abbrev NH.STATUS.CFG_ERR : Fld := ⟨NH.STATUS, 2, 1⟩
abbrev NH.STATUS.PUB_BUSY : Fld := ⟨NH.STATUS, 1, 1⟩
abbrev NH.STATUS.BUSY : Fld := ⟨NH.STATUS, 0, 1⟩
abbrev NH.CLASS_CFG : Nat := 0x40200008
abbrev NH.CLASS_CFG.AMP_WEAK : Fld := ⟨NH.CLASS_CFG, 24, 8⟩
abbrev NH.CLASS_CFG.AMP_DEAD : Fld := ⟨NH.CLASS_CFG, 16, 8⟩
abbrev NH.CLASS_CFG.PER_AIR : Fld := ⟨NH.CLASS_CFG, 8, 8⟩
abbrev NH.CLASS_CFG.PER_CLOG : Fld := ⟨NH.CLASS_CFG, 0, 8⟩
abbrev NH.CLASS_CFG2 : Nat := 0x4020000C
abbrev NH.CLASS_CFG2.AMP_ABS_DEAD : Fld := ⟨NH.CLASS_CFG2, 16, 16⟩
abbrev NH.CLASS_CFG2.DECAY_CLOG : Fld := ⟨NH.CLASS_CFG2, 8, 8⟩
abbrev NH.CLASS_CFG2.RECOVER_N : Fld := ⟨NH.CLASS_CFG2, 4, 4⟩
abbrev NH.CLASS_CFG2.CONFIRM_N : Fld := ⟨NH.CLASS_CFG2, 0, 4⟩
abbrev NH.DS_REF : Nat := 0x40200010
abbrev NH.DS_REF.K_3 : Fld := ⟨NH.DS_REF, 16, 8⟩
abbrev NH.DS_REF.K_2 : Fld := ⟨NH.DS_REF, 8, 8⟩
abbrev NH.DS_REF.K_1 : Fld := ⟨NH.DS_REF, 0, 8⟩
abbrev NH.MAP_BASE : Nat := 0x40200014
abbrev NH.MAP_BASE.ADDR : Fld := ⟨NH.MAP_BASE, 12, 20⟩
abbrev NH.BASE_BASE : Nat := 0x40200018
abbrev NH.BASE_BASE.ADDR : Fld := ⟨NH.BASE_BASE, 12, 20⟩
abbrev NH.PUB_CFG : Nat := 0x4020001C
abbrev NH.PUB_CFG.PUB_TMO : Fld := ⟨NH.PUB_CFG, 16, 16⟩
abbrev NH.PUB_CFG.PUB_CHG : Fld := ⟨NH.PUB_CFG, 0, 16⟩
abbrev NH.PUB_CTL : Nat := 0x40200020
abbrev NH.PUB_CTL.REQ : Fld := ⟨NH.PUB_CTL, 0, 1⟩
abbrev NH.CHG_CNT : Nat := 0x40200024
abbrev NH.CHG_CNT.COUNT : Fld := ⟨NH.CHG_CNT, 0, 17⟩
abbrev NH.PUB_CNT : Nat := 0x40200028
abbrev NH.PUB_CNT.COUNT : Fld := ⟨NH.PUB_CNT, 0, 32⟩
abbrev NH.FORCE : Nat := 0x4020002C
abbrev NH.FORCE.CLR : Fld := ⟨NH.FORCE, 31, 1⟩
abbrev NH.FORCE.RESET : Fld := ⟨NH.FORCE, 30, 1⟩
abbrev NH.FORCE.CLASS : Fld := ⟨NH.FORCE, 24, 3⟩
abbrev NH.FORCE.NOZZLE : Fld := ⟨NH.FORCE, 0, 16⟩
abbrev NH.RES_BASE : Nat := 0x40200040
abbrev NH.RES_BASE.ADDR : Fld := ⟨NH.RES_BASE, 12, 20⟩
abbrev NH.RES_CFG : Nat := 0x40200044
abbrev NH.RES_CFG.MODE : Fld := ⟨NH.RES_CFG, 16, 2⟩
abbrev NH.RES_CFG.SIZE_LOG2 : Fld := ⟨NH.RES_CFG, 0, 4⟩
abbrev NH.RES_WR : Nat := 0x40200048
abbrev NH.RES_WR.INDEX : Fld := ⟨NH.RES_WR, 0, 16⟩
abbrev NH.RES_RD : Nat := 0x4020004C
abbrev NH.RES_RD.INDEX : Fld := ⟨NH.RES_RD, 0, 16⟩
abbrev NH.RES_DROP_CNT : Nat := 0x40200050
abbrev NH.RES_DROP_CNT.COUNT : Fld := ⟨NH.RES_DROP_CNT, 0, 32⟩
abbrev NH.TH_LUT (k : Nat) : Nat := 0x40200080 + 0x4 * k
abbrev NH.TH_LUT.K_HI (k : Nat) : Fld := ⟨NH.TH_LUT k, 16, 16⟩
abbrev NH.TH_LUT.K_LO (k : Nat) : Fld := ⟨NH.TH_LUT k, 0, 16⟩
abbrev NH.HCTL (h : Nat) : Nat := 0x40201000 + 0x80 * h
abbrev NH.HCTL.STATE_CLR (h : Nat) : Fld := ⟨NH.HCTL h, 31, 1⟩
abbrev NH.HCTL.SCAN_STEP (h : Nat) : Fld := ⟨NH.HCTL h, 16, 13⟩
abbrev NH.HCTL.SENSE_EN (h : Nat) : Fld := ⟨NH.HCTL h, 15, 1⟩
abbrev NH.HCTL.HEAT_EN (h : Nat) : Fld := ⟨NH.HCTL h, 14, 1⟩
abbrev NH.HCTL.NNOZ (h : Nat) : Fld := ⟨NH.HCTL h, 0, 13⟩
abbrev NH.HSTAT (h : Nat) : Nat := 0x40201004 + 0x80 * h
abbrev NH.HSTAT.NO_RISE (h : Nat) : Fld := ⟨NH.HSTAT h, 13, 1⟩
abbrev NH.HSTAT.HTR_FAULT (h : Nat) : Fld := ⟨NH.HSTAT h, 12, 1⟩
abbrev NH.HSTAT.OVERTEMP (h : Nat) : Fld := ⟨NH.HSTAT h, 11, 1⟩
abbrev NH.HSTAT.TH_SHORT (h : Nat) : Fld := ⟨NH.HSTAT h, 10, 1⟩
abbrev NH.HSTAT.TH_OPEN (h : Nat) : Fld := ⟨NH.HSTAT h, 9, 1⟩
abbrev NH.HSTAT.SUSP_OVF (h : Nat) : Fld := ⟨NH.HSTAT h, 8, 1⟩
abbrev NH.HSTAT.SUSP_CNT (h : Nat) : Fld := ⟨NH.HSTAT h, 4, 4⟩
abbrev NH.HSTAT.HEAT_LATCH (h : Nat) : Fld := ⟨NH.HSTAT h, 3, 1⟩
abbrev NH.HSTAT.HEATING (h : Nat) : Fld := ⟨NH.HSTAT h, 2, 1⟩
abbrev NH.HSTAT.TEMP_VALID (h : Nat) : Fld := ⟨NH.HSTAT h, 1, 1⟩
abbrev NH.HSTAT.SENSING (h : Nat) : Fld := ⟨NH.HSTAT h, 0, 1⟩
abbrev NH.SCAN (h : Nat) : Nat := 0x40201008 + 0x80 * h
abbrev NH.SCAN.PASSES (h : Nat) : Fld := ⟨NH.SCAN h, 16, 16⟩
abbrev NH.SCAN.POS (h : Nat) : Fld := ⟨NH.SCAN h, 0, 13⟩
abbrev NH.SENSE_CNT (h : Nat) : Nat := 0x4020100C + 0x80 * h
abbrev NH.SENSE_CNT.COUNT (h : Nat) : Fld := ⟨NH.SENSE_CNT h, 0, 32⟩
abbrev NH.SKIP_CNT (h : Nat) : Nat := 0x40201010 + 0x80 * h
abbrev NH.SKIP_CNT.COUNT (h : Nat) : Fld := ⟨NH.SKIP_CNT h, 0, 32⟩
abbrev NH.DECL_CNT (h : Nat) : Nat := 0x40201014 + 0x80 * h
abbrev NH.DECL_CNT.COUNT (h : Nat) : Fld := ⟨NH.DECL_CNT h, 0, 32⟩
abbrev NH.CLASS_CNT_A (h : Nat) : Nat := 0x40201018 + 0x80 * h
abbrev NH.CLASS_CNT_A.WEAK (h : Nat) : Fld := ⟨NH.CLASS_CNT_A h, 16, 13⟩
abbrev NH.CLASS_CNT_A.OK (h : Nat) : Fld := ⟨NH.CLASS_CNT_A h, 0, 13⟩
abbrev NH.CLASS_CNT_B (h : Nat) : Nat := 0x4020101C + 0x80 * h
abbrev NH.CLASS_CNT_B.AIR (h : Nat) : Fld := ⟨NH.CLASS_CNT_B h, 16, 13⟩
abbrev NH.CLASS_CNT_B.CLOG (h : Nat) : Fld := ⟨NH.CLASS_CNT_B h, 0, 13⟩
abbrev NH.CLASS_CNT_C (h : Nat) : Nat := 0x40201020 + 0x80 * h
abbrev NH.CLASS_CNT_C.UNKNOWN (h : Nat) : Fld := ⟨NH.CLASS_CNT_C h, 16, 13⟩
abbrev NH.CLASS_CNT_C.DEAD (h : Nat) : Fld := ⟨NH.CLASS_CNT_C h, 0, 13⟩
abbrev NH.TEMP (h : Nat) : Nat := 0x40201024 + 0x80 * h
abbrev NH.TEMP.RAW (h : Nat) : Fld := ⟨NH.TEMP h, 16, 12⟩
abbrev NH.TEMP.T (h : Nat) : Fld := ⟨NH.TEMP h, 0, 16⟩
abbrev NH.HEAT_SET (h : Nat) : Nat := 0x40201028 + 0x80 * h
abbrev NH.HEAT_SET.SETPOINT (h : Nat) : Fld := ⟨NH.HEAT_SET h, 0, 16⟩
abbrev NH.HEAT_PI (h : Nat) : Nat := 0x4020102C + 0x80 * h
abbrev NH.HEAT_PI.KI (h : Nat) : Fld := ⟨NH.HEAT_PI h, 16, 16⟩
abbrev NH.HEAT_PI.KP (h : Nat) : Fld := ⟨NH.HEAT_PI h, 0, 16⟩
abbrev NH.HEAT_LIM (h : Nat) : Nat := 0x40201030 + 0x80 * h
abbrev NH.HEAT_LIM.T_MAX (h : Nat) : Fld := ⟨NH.HEAT_LIM h, 16, 16⟩
abbrev NH.HEAT_LIM.DUTY_MAX (h : Nat) : Fld := ⟨NH.HEAT_LIM h, 0, 10⟩
abbrev NH.HEAT_DUTY (h : Nat) : Nat := 0x40201034 + 0x80 * h
abbrev NH.HEAT_DUTY.I (h : Nat) : Fld := ⟨NH.HEAT_DUTY h, 16, 10⟩
abbrev NH.HEAT_DUTY.D (h : Nat) : Fld := ⟨NH.HEAT_DUTY h, 0, 10⟩
abbrev NH.TH_LIM (h : Nat) : Nat := 0x40201038 + 0x80 * h
abbrev NH.TH_LIM.OPEN_CODE (h : Nat) : Fld := ⟨NH.TH_LIM h, 16, 12⟩
abbrev NH.TH_LIM.SHORT_CODE (h : Nat) : Fld := ⟨NH.TH_LIM h, 0, 12⟩
abbrev NH.RISE_CFG (h : Nat) : Nat := 0x4020103C + 0x80 * h
abbrev NH.RISE_CFG.RISE_TMO (h : Nat) : Fld := ⟨NH.RISE_CFG h, 16, 16⟩
abbrev NH.RISE_CFG.RISE_MIN (h : Nat) : Fld := ⟨NH.RISE_CFG h, 0, 16⟩

/-! CAL, from spec/09_calibration.md -/
abbrev CAL.CTL : Nat := 0x40220000
abbrev CAL.CTL.RAIL_OWN : Fld := ⟨CAL.CTL, 4, 1⟩
abbrev CAL.CTL.RECALC : Fld := ⟨CAL.CTL, 3, 1⟩
abbrev CAL.CTL.ABORT : Fld := ⟨CAL.CTL, 2, 1⟩
abbrev CAL.CTL.AUTO : Fld := ⟨CAL.CTL, 1, 1⟩
abbrev CAL.CTL.EN : Fld := ⟨CAL.CTL, 0, 1⟩
abbrev CAL.STATUS : Nat := 0x40220004
abbrev CAL.STATUS.REF_MISMATCH : Fld := ⟨CAL.STATUS, 5, 1⟩
abbrev CAL.STATUS.IMPORT_ERR : Fld := ⟨CAL.STATUS, 4, 1⟩
abbrev CAL.STATUS.WRITE_IGNORED : Fld := ⟨CAL.STATUS, 3, 1⟩
abbrev CAL.STATUS.REBUILD : Fld := ⟨CAL.STATUS, 2, 1⟩
abbrev CAL.STATUS.HEAD_BUSY : Fld := ⟨CAL.STATUS, 1, 1⟩
abbrev CAL.STATUS.MEAS_BUSY : Fld := ⟨CAL.STATUS, 0, 1⟩
abbrev CAL.DT_CFG : Nat := 0x40220008
abbrev CAL.DT_CFG.RETRY_TMO : Fld := ⟨CAL.DT_CFG, 24, 8⟩
abbrev CAL.DT_CFG.RECALC_DT : Fld := ⟨CAL.DT_CFG, 16, 8⟩
abbrev CAL.DT_CFG.CAL_DT : Fld := ⟨CAL.DT_CFG, 0, 16⟩
abbrev CAL.TP_CNT : Nat := 0x4022000C
abbrev CAL.TP_CNT.NPOINTS : Fld := ⟨CAL.TP_CNT, 0, 4⟩
abbrev CAL.TP_01 : Nat := 0x40220010
abbrev CAL.TP_01.TP_HI : Fld := ⟨CAL.TP_01, 16, 16⟩
abbrev CAL.TP_01.TP_LO : Fld := ⟨CAL.TP_01, 0, 16⟩
abbrev CAL.TP_23 : Nat := 0x40220014
abbrev CAL.TP_23.TP_HI : Fld := ⟨CAL.TP_23, 16, 16⟩
abbrev CAL.TP_23.TP_LO : Fld := ⟨CAL.TP_23, 0, 16⟩
abbrev CAL.TP_45 : Nat := 0x40220018
abbrev CAL.TP_45.TP_HI : Fld := ⟨CAL.TP_45, 16, 16⟩
abbrev CAL.TP_45.TP_LO : Fld := ⟨CAL.TP_45, 0, 16⟩
abbrev CAL.TP_67 : Nat := 0x4022001C
abbrev CAL.TP_67.TP_HI : Fld := ⟨CAL.TP_67, 16, 16⟩
abbrev CAL.TP_67.TP_LO : Fld := ⟨CAL.TP_67, 0, 16⟩
abbrev CAL.REQ : Nat := 0x40220020
abbrev CAL.REQ.ELEM : Fld := ⟨CAL.REQ, 0, 7⟩
abbrev CAL.CUR : Nat := 0x40220024
abbrev CAL.CUR.BUSY : Fld := ⟨CAL.CUR, 31, 1⟩
abbrev CAL.CUR.ELEM : Fld := ⟨CAL.CUR, 16, 7⟩
abbrev CAL.CUR.T_RUN : Fld := ⟨CAL.CUR, 0, 16⟩
abbrev CAL.ENC_OK : Nat := 0x40220028
abbrev CAL.ENC_OK.AXIS : Fld := ⟨CAL.ENC_OK, 0, 5⟩
abbrev CAL.PEND (k : Nat) : Nat := 0x40220030 + 0x4 * k
abbrev CAL.PEND.ELEM (k : Nat) : Fld := ⟨CAL.PEND k, 0, 32⟩
abbrev CAL.AUTO_MASK (k : Nat) : Nat := 0x40220040 + 0x4 * k
abbrev CAL.AUTO_MASK.ELEM (k : Nat) : Fld := ⟨CAL.AUTO_MASK k, 0, 32⟩
abbrev CAL.RAIL_TGT : Nat := 0x40220050
abbrev CAL.RAIL_TGT.TGT_B : Fld := ⟨CAL.RAIL_TGT, 16, 16⟩
abbrev CAL.RAIL_TGT.TGT_A : Fld := ⟨CAL.RAIL_TGT, 0, 16⟩
abbrev CAL.RAIL_CFG : Nat := 0x40220054
abbrev CAL.RAIL_CFG.TGT_S : Fld := ⟨CAL.RAIL_CFG, 16, 16⟩
abbrev CAL.RAIL_CFG.HYST : Fld := ⟨CAL.RAIL_CFG, 0, 8⟩
abbrev CAL.RAIL_LIM : Nat := 0x40220058
abbrev CAL.RAIL_LIM.MAX_CHG : Fld := ⟨CAL.RAIL_LIM, 16, 16⟩
abbrev CAL.RAIL_LIM.A_MAX : Fld := ⟨CAL.RAIL_LIM, 8, 8⟩
abbrev CAL.RAIL_LIM.A_MIN : Fld := ⟨CAL.RAIL_LIM, 0, 8⟩
abbrev CAL.AMP_DIV : Nat := 0x40220060
abbrev CAL.AMP_DIV.DIV : Fld := ⟨CAL.AMP_DIV, 0, 24⟩
abbrev CAL.AMP_ISENSE : Nat := 0x40220064
abbrev CAL.AMP_ISENSE.ISENSE_FS : Fld := ⟨CAL.AMP_ISENSE, 0, 16⟩
abbrev CAL.REF_CFG : Nat := 0x40220068
abbrev CAL.REF_CFG.EXT_EN : Fld := ⟨CAL.REF_CFG, 31, 1⟩
abbrev CAL.REF_CFG.REF_TOL : Fld := ⟨CAL.REF_CFG, 16, 8⟩
abbrev CAL.REF_CFG.EXT_NOM : Fld := ⟨CAL.REF_CFG, 0, 16⟩
abbrev CAL.REF_MEAS : Nat := 0x4022006C
abbrev CAL.REF_MEAS.VREF_EXT : Fld := ⟨CAL.REF_MEAS, 0, 16⟩
abbrev CAL.LIM_GAIN : Nat := 0x40220070
abbrev CAL.LIM_GAIN.GAIN_MAX : Fld := ⟨CAL.LIM_GAIN, 16, 16⟩
abbrev CAL.LIM_GAIN.GAIN_MIN : Fld := ⟨CAL.LIM_GAIN, 0, 16⟩
abbrev CAL.LIM_GAIN2 : Nat := 0x40220074
abbrev CAL.LIM_GAIN2.GAIN_STEP : Fld := ⟨CAL.LIM_GAIN2, 0, 16⟩
abbrev CAL.LIM_OFS : Nat := 0x40220078
abbrev CAL.LIM_OFS.OFS_STEP : Fld := ⟨CAL.LIM_OFS, 24, 8⟩
abbrev CAL.LIM_OFS.OFS_MAX : Fld := ⟨CAL.LIM_OFS, 0, 24⟩
abbrev CAL.LIM_FB : Nat := 0x4022007C
abbrev CAL.LIM_FB.FB_DEV : Fld := ⟨CAL.LIM_FB, 16, 16⟩
abbrev CAL.LIM_FB.FB_ZERO_MAX : Fld := ⟨CAL.LIM_FB, 8, 8⟩
abbrev CAL.LIM_FB.FB_STEP : Fld := ⟨CAL.LIM_FB, 0, 8⟩
abbrev CAL.LIM_DL : Nat := 0x40220080
abbrev CAL.LIM_DL.FRAC_STEP : Fld := ⟨CAL.LIM_DL, 16, 16⟩
abbrev CAL.LIM_DL.LIN_MAX : Fld := ⟨CAL.LIM_DL, 0, 16⟩
abbrev CAL.LIM_ENC : Nat := 0x40220084
abbrev CAL.LIM_ENC.ENC_OFS_MAX : Fld := ⟨CAL.LIM_ENC, 16, 16⟩
abbrev CAL.LIM_ENC.ENC_OFS_STEP : Fld := ⟨CAL.LIM_ENC, 0, 16⟩
abbrev CAL.LIM_BASE : Nat := 0x40220088
abbrev CAL.LIM_BASE.BASE_STEP : Fld := ⟨CAL.LIM_BASE, 24, 8⟩
abbrev CAL.LIM_BASE.BASE_N : Fld := ⟨CAL.LIM_BASE, 16, 8⟩
abbrev CAL.LIM_BASE.BASE_TMO : Fld := ⟨CAL.LIM_BASE, 0, 16⟩
abbrev CAL.LIM_BASE_AMP : Nat := 0x4022008C
abbrev CAL.LIM_BASE_AMP.AMP_MAX : Fld := ⟨CAL.LIM_BASE_AMP, 16, 16⟩
abbrev CAL.LIM_BASE_AMP.AMP_MIN : Fld := ⟨CAL.LIM_BASE_AMP, 0, 16⟩
abbrev CAL.LIM_BASE_PER : Nat := 0x40220090
abbrev CAL.LIM_BASE_PER.PER_MAX : Fld := ⟨CAL.LIM_BASE_PER, 16, 16⟩
abbrev CAL.LIM_BASE_PER.PER_MIN : Fld := ⟨CAL.LIM_BASE_PER, 0, 16⟩
abbrev CAL.CELL_CFG : Nat := 0x40220094
abbrev CAL.CELL_CFG.CELL_TOL : Fld := ⟨CAL.CELL_CFG, 0, 16⟩
abbrev CAL.ENC_CFG : Nat := 0x40220098
abbrev CAL.ENC_CFG.ENC_TMO : Fld := ⟨CAL.ENC_CFG, 24, 8⟩
abbrev CAL.ENC_CFG.ENC_WIN : Fld := ⟨CAL.ENC_CFG, 16, 8⟩
abbrev CAL.ENC_CFG.ENC_MINRATE : Fld := ⟨CAL.ENC_CFG, 0, 16⟩
abbrev CAL.POINT_BASE : Nat := 0x402200A0
abbrev CAL.POINT_BASE.ADDR : Fld := ⟨CAL.POINT_BASE, 12, 20⟩
abbrev CAL.LIVE_BASE_0 : Nat := 0x402200A4
abbrev CAL.LIVE_BASE_0.ADDR : Fld := ⟨CAL.LIVE_BASE_0, 12, 20⟩
abbrev CAL.LIVE_BASE_1 : Nat := 0x402200A8
abbrev CAL.LIVE_BASE_1.ADDR : Fld := ⟨CAL.LIVE_BASE_1, 12, 20⟩
abbrev CAL.LIVE_ACTIVE : Nat := 0x402200AC
abbrev CAL.LIVE_ACTIVE.COPY : Fld := ⟨CAL.LIVE_ACTIVE, 0, 1⟩
abbrev CAL.REC_BASE : Nat := 0x402200B0
abbrev CAL.REC_BASE.ADDR : Fld := ⟨CAL.REC_BASE, 12, 20⟩
abbrev CAL.REC_CTL : Nat := 0x402200B4
abbrev CAL.REC_CTL.EXPORT : Fld := ⟨CAL.REC_CTL, 31, 1⟩
abbrev CAL.REC_CTL.IMPORT : Fld := ⟨CAL.REC_CTL, 30, 1⟩
abbrev CAL.REC_CTL.RAIL_INC : Fld := ⟨CAL.REC_CTL, 1, 1⟩
abbrev CAL.REC_CTL.BASE_INC : Fld := ⟨CAL.REC_CTL, 0, 1⟩
abbrev CAL.REC_SEQ : Nat := 0x402200B8
abbrev CAL.REC_SEQ.SEQ : Fld := ⟨CAL.REC_SEQ, 0, 32⟩
abbrev CAL.REC_STAT : Nat := 0x402200BC
abbrev CAL.REC_STAT.BUSY : Fld := ⟨CAL.REC_STAT, 31, 1⟩
abbrev CAL.REC_STAT.OK : Fld := ⟨CAL.REC_STAT, 30, 1⟩
abbrev CAL.REC_STAT.CODE : Fld := ⟨CAL.REC_STAT, 16, 8⟩
abbrev CAL.REC_STAT.BAD_PTS : Fld := ⟨CAL.REC_STAT, 0, 16⟩
abbrev CAL.REC_LEN : Nat := 0x402200C0
abbrev CAL.REC_LEN.BYTES : Fld := ⟨CAL.REC_LEN, 0, 20⟩
abbrev CAL.VIEW_SEL : Nat := 0x402200C4
abbrev CAL.VIEW_SEL.ELEM : Fld := ⟨CAL.VIEW_SEL, 0, 7⟩
abbrev CAL.DIE_TEMP_01 : Nat := 0x402200D0
abbrev CAL.DIE_TEMP_01.TS_HI : Fld := ⟨CAL.DIE_TEMP_01, 16, 16⟩
abbrev CAL.DIE_TEMP_01.TS_LO : Fld := ⟨CAL.DIE_TEMP_01, 0, 16⟩
abbrev CAL.DIE_TEMP_23 : Nat := 0x402200D4
abbrev CAL.DIE_TEMP_23.TS_HI : Fld := ⟨CAL.DIE_TEMP_23, 16, 16⟩
abbrev CAL.DIE_TEMP_23.TS_LO : Fld := ⟨CAL.DIE_TEMP_23, 0, 16⟩
abbrev CAL.RUN_CNT : Nat := 0x402200E0
abbrev CAL.RUN_CNT.COUNT : Fld := ⟨CAL.RUN_CNT, 0, 32⟩
abbrev CAL.FAIL_CNT : Nat := 0x402200E4
abbrev CAL.FAIL_CNT.COUNT : Fld := ⟨CAL.FAIL_CNT, 0, 32⟩
abbrev CAL.DEFER_CNT : Nat := 0x402200E8
abbrev CAL.DEFER_CNT.COUNT : Fld := ⟨CAL.DEFER_CNT, 0, 32⟩
abbrev CAL.ABORT_CNT : Nat := 0x402200EC
abbrev CAL.ABORT_CNT.COUNT : Fld := ⟨CAL.ABORT_CNT, 0, 32⟩
abbrev CAL.RES (e : Nat) : Nat := 0x40220100 + 0x4 * e
abbrev CAL.RES.CODE (e : Nat) : Fld := ⟨CAL.RES e, 24, 8⟩
abbrev CAL.RES.QTY (e : Nat) : Fld := ⟨CAL.RES e, 20, 4⟩
abbrev CAL.RES.POINT (e : Nat) : Fld := ⟨CAL.RES e, 16, 4⟩
abbrev CAL.RES.T_RUN (e : Nat) : Fld := ⟨CAL.RES e, 0, 16⟩
abbrev CAL.T_LAST (e : Nat) : Nat := 0x40220300 + 0x4 * e
abbrev CAL.T_LAST.T (e : Nat) : Fld := ⟨CAL.T_LAST e, 0, 16⟩
abbrev CAL.VIEW (v : Nat) : Nat := 0x40220500 + 0x4 * v
abbrev CAL.VIEW.WORD (v : Nat) : Fld := ⟨CAL.VIEW v, 0, 32⟩

/-! WEIRMB, from spec/10_weir.md -/
abbrev WEIRMB.REQ (c : Nat) (k : Nat) : Nat := 0x40300000 + 0x1000 * c + 0x4 * k
abbrev WEIRMB.RSP (c : Nat) (k : Nat) : Nat := 0x40300400 + 0x1000 * c + 0x4 * k
abbrev WEIRMB.DB (c : Nat) : Nat := 0x40300800 + 0x1000 * c
abbrev WEIRMB.DB.TAG (c : Nat) : Fld := ⟨WEIRMB.DB c, 0, 8⟩
abbrev WEIRMB.CH_STAT (c : Nat) : Nat := 0x40300804 + 0x1000 * c
abbrev WEIRMB.CH_STAT.BUSY (c : Nat) : Fld := ⟨WEIRMB.CH_STAT c, 31, 1⟩
abbrev WEIRMB.CH_STAT.DONE (c : Nat) : Fld := ⟨WEIRMB.CH_STAT c, 30, 1⟩
abbrev WEIRMB.CH_STAT.OVERRUN (c : Nat) : Fld := ⟨WEIRMB.CH_STAT c, 29, 1⟩
abbrev WEIRMB.CH_STAT.NO_WEIR (c : Nat) : Fld := ⟨WEIRMB.CH_STAT c, 28, 1⟩
abbrev WEIRMB.CH_STAT.TAG (c : Nat) : Fld := ⟨WEIRMB.CH_STAT c, 16, 8⟩
abbrev WEIRMB.CH_STAT.WORDS (c : Nat) : Fld := ⟨WEIRMB.CH_STAT c, 0, 9⟩
abbrev WEIRMB.IRQ_EN (c : Nat) : Nat := 0x40300808 + 0x1000 * c
abbrev WEIRMB.IRQ_EN.DONE (c : Nat) : Fld := ⟨WEIRMB.IRQ_EN c, 0, 1⟩
abbrev WEIRMB.WSTAT : Nat := 0x40302000
abbrev WEIRMB.WSTAT.WEIR_UP : Fld := ⟨WEIRMB.WSTAT, 31, 1⟩
abbrev WEIRMB.WSTAT.FW : Fld := ⟨WEIRMB.WSTAT, 30, 1⟩
abbrev WEIRMB.WSTAT.VALID : Fld := ⟨WEIRMB.WSTAT, 29, 1⟩
abbrev WEIRMB.WSTAT.STATE : Fld := ⟨WEIRMB.WSTAT, 26, 3⟩
abbrev WEIRMB.WSTAT.BRK_PEND : Fld := ⟨WEIRMB.WSTAT, 25, 1⟩
abbrev WEIRMB.WSTAT.TAP_GAP : Fld := ⟨WEIRMB.WSTAT, 24, 1⟩
abbrev WEIRMB.WSTAT.CONT_LOST : Fld := ⟨WEIRMB.WSTAT, 23, 1⟩
abbrev WEIRMB.WSTAT.WX_LOST : Fld := ⟨WEIRMB.WSTAT, 22, 1⟩
abbrev WEIRMB.WSTAT.WX_DRIFT : Fld := ⟨WEIRMB.WSTAT, 21, 1⟩
abbrev WEIRMB.WSTAT.OSC_FALLBACK : Fld := ⟨WEIRMB.WSTAT, 20, 1⟩
abbrev WEIRMB.WSTAT.LOG_CNT : Fld := ⟨WEIRMB.WSTAT, 0, 11⟩
abbrev WEIRMB.HEARTBEAT : Nat := 0x40302004
abbrev WEIRMB.HEARTBEAT.COUNT : Fld := ⟨WEIRMB.HEARTBEAT, 0, 32⟩
abbrev WEIRMB.STATUS : Nat := 0x40302008
abbrev WEIRMB.STATUS.WRITE_IGNORED : Fld := ⟨WEIRMB.STATUS, 0, 1⟩

end Sys2Proof.Machine
end

