-- ==== Sys2Proof/Machine/RegTable.lean ====
section
/-! DEFINITION. The access masks of every register, from the Access and Class columns of the register and field
tables of spec/ (R7, R9), one row per register of the tables, and the reset values of the registers whose reset value
is not 0 (R11). The masks name RW bits of class L, RW bits of class S, RW bits of class B, W1C bits and RC bits. W1S
and WO bits start actions and are the business of the commands that have rows of their own. -/

namespace Sys2Proof.Machine

/-- One row of the register tables: where the registers lie (base, up to two strides and counts) and their masks. -/
structure RegRow where
  base : Nat
  s1 : Nat
  n1 : Nat
  s2 : Nat
  n2 : Nat
  live : Nat
  stat : Nat
  bnd : Nat
  w1c : Nat
  rc : Nat
  /-- Address of the register with the owning enable bit (R9), its stride by the row's first index, and the bit. -/
  own : Nat
  ownStride : Nat
  ownBit : Nat
  deriving DecidableEq, Repr

/-- The rows of SYS, spec/14_management_errors.md. -/
def regRowsSYS : List RegRow := [
  ⟨0x40000000, 0x0, 1, 0x0, 1, 0x0, 0x0, 0x0, 0x0, 0x0, 0, 0, 0⟩ /- CHIP_ID -/,
  ⟨0x40000004, 0x0, 1, 0x0, 1, 0x1, 0x0, 0x0, 0x0, 0x0, 0, 0, 0⟩ /- MGMT_CTL -/,
  ⟨0x40000008, 0x0, 1, 0x0, 1, 0x0, 0x0, 0x0, 0x0, 0x0, 0, 0, 0⟩ /- TBL_SWAP -/,
  ⟨0x4000000C, 0x0, 1, 0x0, 1, 0x3F, 0x0, 0x0, 0x0, 0x0, 0, 0, 0⟩ /- DRAM_WIN -/,
  ⟨0x40000010, 0x0, 1, 0x0, 1, 0x0, 0x0, 0x0, 0x31F, 0x0, 0, 0, 0⟩ /- RST_CAUSE -/,
  ⟨0x40000014, 0x0, 1, 0x0, 1, 0x0, 0x0, 0x0, 0x0, 0x0, 0, 0, 0⟩ /- RST_CTL -/,
  ⟨0x40000018, 0x0, 1, 0x0, 1, 0x0, 0x0, 0x0, 0x0, 0x0, 0, 0, 0⟩ /- BOOT_STAT -/,
  ⟨0x4000001C, 0x0, 1, 0x0, 1, 0x0, 0x0, 0x0, 0x1, 0x0, 0, 0, 0⟩ /- STATUS -/,
  ⟨0x40000020, 0x0, 1, 0x0, 1, 0x1FF, 0x0, 0x0, 0x0, 0x0, 0, 0, 0⟩ /- IRQ_EN -/,
  ⟨0x40000024, 0x0, 1, 0x0, 1, 0x0, 0x0, 0x0, 0x0, 0x0, 0, 0, 0⟩ /- IRQ_PEND -/,
  ⟨0x40000028, 0x0, 1, 0x0, 1, 0xFFFFFFFC, 0x0, 0x0, 0x0, 0x0, 0, 0, 0⟩ /- NMI_VEC -/,
  ⟨0x4000002C, 0x0, 1, 0x0, 1, 0x0, 0x0, 0x0, 0x0, 0x0, 0, 0, 0⟩ /- NMI_EPC -/,
  ⟨0x40000030, 0x0, 1, 0x0, 1, 0x0, 0x0, 0x0, 0x0, 0x0, 0, 0, 0⟩ /- NMI_CAUSE -/,
  ⟨0x40000040, 0x0, 1, 0x0, 1, 0xCF00FFFF, 0x0, 0x0, 0x0, 0x0, 0, 0, 0⟩ /- WDT_CTL -/,
  ⟨0x40000044, 0x0, 1, 0x0, 1, 0x0, 0x0, 0x0, 0x0, 0x0, 0, 0, 0⟩ /- WDT_KICK -/,
  ⟨0x40000048, 0x0, 1, 0x0, 1, 0x0, 0x0, 0x0, 0x0, 0x0, 0, 0, 0⟩ /- WDT_STAT -/,
  ⟨0x40000050, 0x0, 1, 0x0, 1, 0xFFFF00FF, 0x0, 0x0, 0x0, 0x0, 0, 0, 0⟩ /- LOAD_CFG -/,
  ⟨0x40000054, 0x0, 1, 0x0, 1, 0x0, 0x0, 0x0, 0x0, 0x0, 0, 0, 0⟩ /- LOAD -/,
  ⟨0x40000058, 0x0, 1, 0x0, 1, 0x0, 0x0, 0x0, 0x0, 0xFFFF, 0, 0, 0⟩ /- LOAD_PEAK -/,
  ⟨0x40000060, 0x0, 1, 0x0, 1, 0x0, 0x0, 0x0, 0x0, 0x0, 0, 0, 0⟩ /- MTIME_LO -/,
  ⟨0x40000064, 0x0, 1, 0x0, 1, 0x0, 0x0, 0x0, 0x0, 0x0, 0, 0, 0⟩ /- MTIME_HI -/,
  ⟨0x40000068, 0x0, 1, 0x0, 1, 0xFFFFFFFF, 0x0, 0x0, 0x0, 0x0, 0, 0, 0⟩ /- MTIMECMP_LO -/,
  ⟨0x4000006C, 0x0, 1, 0x0, 1, 0xFFFFFFFF, 0x0, 0x0, 0x0, 0x0, 0, 0, 0⟩ /- MTIMECMP_HI -/,
  ⟨0x40000070, 0x0, 1, 0x0, 1, 0x0, 0x0, 0x0, 0x0, 0x0, 0, 0, 0⟩ /- JLOG_0 -/,
  ⟨0x40000074, 0x0, 1, 0x0, 1, 0x0, 0x0, 0x0, 0x0, 0xFFFFFFFF, 0, 0, 0⟩ /- JLOG_1 -/,
  ⟨0x40000078, 0x0, 1, 0x0, 1, 0x0, 0x0, 0x0, 0x0, 0x0, 0, 0, 0⟩ /- JLOG_STAT -/,
  ⟨0x4000007C, 0x0, 1, 0x0, 1, 0x0, 0x0, 0x0, 0x0, 0xFFFFFFFF, 0, 0, 0⟩ /- JLOG_LOST -/,
  ⟨0x40000080, 0x0, 1, 0x0, 1, 0xFFFFFFFF, 0x0, 0x0, 0x0, 0x0, 0, 0, 0⟩ /- FW_DETAIL -/,
  ⟨0x40000084, 0x0, 1, 0x0, 1, 0x0, 0x0, 0x0, 0x0, 0x0, 0, 0, 0⟩ /- FW_REPORT -/,
  ⟨0x40000090, 0x0, 1, 0x0, 1, 0xFFFFFFFF, 0x0, 0x0, 0x0, 0x0, 0, 0, 0⟩ /- SUMP_BASE_LO -/,
  ⟨0x40000094, 0x0, 1, 0x0, 1, 0xFFFFFFFF, 0x0, 0x0, 0x0, 0x0, 0, 0, 0⟩ /- SUMP_BASE_HI -/,
  ⟨0x40000098, 0x0, 1, 0x0, 1, 0x7FF, 0x0, 0x0, 0x0, 0x0, 0, 0, 0⟩ /- SUMP_SIZE -/,
  ⟨0x4000009C, 0x0, 1, 0x0, 1, 0xFFFFFF, 0x0, 0x0, 0x0, 0x0, 0, 0, 0⟩ /- SUMP_CTL -/,
  ⟨0x400000A0, 0x0, 1, 0x0, 1, 0x0, 0x0, 0x0, 0x0, 0x0, 0, 0, 0⟩ /- SUMP_STAT -/,
  ⟨0x400000C0, 0x4, 8, 0x0, 1, 0x0, 0x0, 0x0, 0x0, 0x0, 0, 0, 0⟩ /- IMG_DIGEST -/,
  ⟨0x400000E0, 0x0, 1, 0x0, 1, 0x0, 0x0, 0x0, 0x0, 0x0, 0, 0, 0⟩ /- IMG_LEN -/,
  ⟨0x400000E4, 0x0, 1, 0x0, 1, 0x0, 0x0, 0x0, 0x0, 0x0, 0, 0, 0⟩ /- IMG_ENTRY -/
  ]

/-- The rows of PMU, spec/16_power_clocks.md. -/
def regRowsPMU : List RegRow := [
  ⟨0x40010000, 0x0, 1, 0x0, 1, 0x3, 0x0, 0x0, 0x0, 0x0, 0, 0, 0⟩ /- STATE_REQ -/,
  ⟨0x40010004, 0x0, 1, 0x0, 1, 0x0, 0x0, 0x0, 0x0, 0x0, 0, 0, 0⟩ /- STATE_STAT -/,
  ⟨0x40010008, 0x0, 1, 0x0, 1, 0x0, 0x0, 0x0, 0x1E, 0x0, 0, 0, 0⟩ /- STATUS -/,
  ⟨0x4001000C, 0x0, 1, 0x0, 1, 0x0, 0x0, 0x3F, 0x0, 0x0, 0x40010200, 0x0, 0⟩ /- WAKE_EN -/,
  ⟨0x40010010, 0x0, 1, 0x0, 1, 0x0, 0x0, 0x0, 0x3F, 0x0, 0, 0, 0⟩ /- WAKE_STAT -/,
  ⟨0x40010014, 0x0, 1, 0x0, 1, 0x0, 0x0, 0x0, 0x0, 0x0, 0, 0, 0⟩ /- CLK_STAT -/,
  ⟨0x40010018, 0x0, 1, 0x0, 1, 0x3FF, 0x0, 0x0, 0x0, 0x0, 0, 0, 0⟩ /- DOM_AUTO -/,
  ⟨0x4001001C, 0x0, 1, 0x0, 1, 0x0, 0x0, 0x0, 0x0, 0x0, 0, 0, 0⟩ /- DOM_STAT -/,
  ⟨0x40010020, 0x0, 1, 0x0, 1, 0x0, 0x0, 0x0, 0x0, 0x0, 0, 0, 0⟩ /- RTC_LO -/,
  ⟨0x40010024, 0x0, 1, 0x0, 1, 0x0, 0x0, 0x0, 0x0, 0x0, 0, 0, 0⟩ /- RTC_HI -/,
  ⟨0x40010028, 0x0, 1, 0x0, 1, 0xFFFFFFFF, 0x0, 0x0, 0x0, 0x0, 0, 0, 0⟩ /- RTC_ALM_LO -/,
  ⟨0x4001002C, 0x0, 1, 0x0, 1, 0xFFFF, 0x0, 0x0, 0x0, 0x0, 0, 0, 0⟩ /- RTC_ALM_HI -/,
  ⟨0x40010030, 0x0, 1, 0x0, 1, 0x0, 0x0, 0x0, 0x1, 0x0, 0, 0, 0⟩ /- TAMPER -/,
  ⟨0x40010100, 0x40, 4, 0x0, 1, 0x1, 0x3FF0, 0x0, 0x0, 0x0, 0x40010100, 0x40, 0⟩ /- HV_CTL -/,
  ⟨0x40010104, 0x40, 4, 0x0, 1, 0xFFFF, 0x0, 0x0, 0x0, 0x0, 0, 0, 0⟩ /- HV_SET -/,
  ⟨0x40010108, 0x40, 4, 0x0, 1, 0x0, 0xFF, 0x0, 0x0, 0x0, 0x40010100, 0x40, 0⟩ /- HV_RAMP -/,
  ⟨0x4001010C, 0x40, 4, 0x0, 1, 0x0, 0xFFFFFFFF, 0x0, 0x0, 0x0, 0x40010100, 0x40, 0⟩ /- HV_LIM -/,
  ⟨0x40010110, 0x40, 4, 0x0, 1, 0x0, 0xFFFFFF, 0x0, 0x0, 0x0, 0x40010100, 0x40, 0⟩ /- HV_SENSE -/,
  ⟨0x40010114, 0x40, 4, 0x0, 1, 0x0, 0xFFFF, 0x0, 0x0, 0x0, 0x40010100, 0x40, 0⟩ /- HV_ISENSE -/,
  ⟨0x40010118, 0x40, 4, 0x0, 1, 0x0, 0x0, 0x0, 0x8, 0x0, 0, 0, 0⟩ /- HV_STAT -/,
  ⟨0x4001011C, 0x40, 4, 0x0, 1, 0x0, 0x0, 0x0, 0x0, 0x0, 0, 0, 0⟩ /- HV_MEAS -/,
  ⟨0x40010200, 0x0, 1, 0x0, 1, 0x1, 0xFFFF0006, 0x0, 0x0, 0x0, 0x40010200, 0x0, 0⟩ /- PMB_CTL -/,
  ⟨0x40010210, 0x4, 4, 0x0, 1, 0x0, 0x8000007F, 0x0, 0x0, 0x0, 0x40010200, 0x0, 0⟩ /- PMB_DEV -/,
  ⟨0x40010220, 0x4, 4, 0x0, 1, 0x0, 0x0, 0x0, 0x0, 0x0, 0, 0, 0⟩ /- PMB_STAT -/,
  ⟨0x40010230, 0x0, 1, 0x0, 1, 0x370000FF, 0x0, 0x0, 0x0, 0x0, 0, 0, 0⟩ /- PMB_XFER -/,
  ⟨0x40010234, 0x0, 1, 0x0, 1, 0xFFFF, 0x0, 0x0, 0x0, 0x0, 0, 0, 0⟩ /- PMB_DATA -/,
  ⟨0x40010238, 0x0, 1, 0x0, 1, 0x0, 0x0, 0x0, 0x1E, 0x0, 0, 0, 0⟩ /- PMB_XSTAT -/,
  ⟨0x4001023C, 0x0, 1, 0x0, 1, 0x0, 0x0, 0x0, 0xFF, 0x0, 0, 0, 0⟩ /- PMB_FLT -/
  ]

/-- The rows of OTP, spec/15_otp_lifecycle.md. -/
def regRowsOTP : List RegRow := [
  ⟨0x40020000, 0x0, 1, 0x0, 1, 0x0, 0x0, 0x0, 0x56, 0x0, 0, 0, 0⟩ /- STATUS -/,
  ⟨0x40020004, 0x0, 1, 0x0, 1, 0x0, 0x0, 0x0, 0x0, 0x0, 0, 0, 0⟩ /- LC_STATE -/,
  ⟨0x40020008, 0x0, 1, 0x0, 1, 0x0, 0x0, 0x0, 0x0, 0x0, 0, 0, 0⟩ /- LC_REQ -/,
  ⟨0x4002000C, 0x0, 1, 0x0, 1, 0x0, 0x0, 0x0, 0x0, 0x0, 0, 0, 0⟩ /- LC_STAT -/,
  ⟨0x40020010, 0x0, 1, 0x0, 1, 0x3F3F, 0x0, 0x0, 0x0, 0x0, 0, 0, 0⟩ /- PGM_CFG -/,
  ⟨0x40020014, 0x0, 1, 0x0, 1, 0xFF, 0x0, 0x0, 0x0, 0x0, 0, 0, 0⟩ /- PGM_WORD -/,
  ⟨0x40020018, 0x0, 1, 0x0, 1, 0xFFFFFFFF, 0x0, 0x0, 0x0, 0x0, 0, 0, 0⟩ /- PGM_DATA -/,
  ⟨0x4002001C, 0x0, 1, 0x0, 1, 0x0, 0x0, 0x0, 0x0, 0x0, 0, 0, 0⟩ /- PGM_CTL -/,
  ⟨0x40020020, 0x0, 1, 0x0, 1, 0x0, 0x0, 0x0, 0x0, 0x0, 0, 0, 0⟩ /- PGM_STAT -/,
  ⟨0x40020024, 0x0, 1, 0x0, 1, 0xFF, 0x0, 0x0, 0x0, 0x0, 0, 0, 0⟩ /- RD_WORD -/,
  ⟨0x40020028, 0x0, 1, 0x0, 1, 0x0, 0x0, 0x0, 0x0, 0x0, 0, 0, 0⟩ /- RD_DATA -/,
  ⟨0x4002002C, 0x0, 1, 0x0, 1, 0x0, 0x0, 0x0, 0x0, 0x0, 0, 0, 0⟩ /- RD_TIGHT -/,
  ⟨0x40020030, 0x0, 1, 0x0, 1, 0x4000000F, 0x0, 0x0, 0x0, 0x0, 0, 0, 0⟩ /- FIN_CTL -/,
  ⟨0x40020034, 0x0, 1, 0x0, 1, 0x0, 0x0, 0x0, 0x0, 0x0, 0, 0, 0⟩ /- FIN_STAT -/,
  ⟨0x40020038, 0x0, 1, 0x0, 1, 0x0, 0x0, 0x0, 0x0, 0x0, 0, 0, 0⟩ /- LOCK_CTL -/,
  ⟨0x4002003C, 0x0, 1, 0x0, 1, 0x1, 0x0, 0x0, 0x0, 0x0, 0, 0, 0⟩ /- KEY_OPEN -/,
  ⟨0x40020040, 0x4, 8, 0x0, 1, 0x0, 0x0, 0x0, 0x0, 0x0, 0, 0, 0⟩ /- MARGIN_MAP -/,
  ⟨0x40020060, 0x4, 10, 0x0, 1, 0x0, 0x0, 0x0, 0x0, 0x0, 0, 0, 0⟩ /- REGION_STAT -/,
  ⟨0x400200A0, 0x0, 1, 0x0, 1, 0xFFFFFFFF, 0x0, 0x0, 0x0, 0x0, 0, 0, 0⟩ /- HBOOT_ADDR_LO -/,
  ⟨0x400200A4, 0x0, 1, 0x0, 1, 0xFFFFFFFF, 0x0, 0x0, 0x0, 0x0, 0, 0, 0⟩ /- HBOOT_ADDR_HI -/,
  ⟨0x400200A8, 0x0, 1, 0x0, 1, 0x1FFFFF, 0x0, 0x0, 0x0, 0x0, 0, 0, 0⟩ /- HBOOT_LEN -/,
  ⟨0x400200AC, 0x0, 1, 0x0, 1, 0x0, 0x0, 0x0, 0x0, 0x0, 0, 0, 0⟩ /- HBOOT_CTL -/,
  ⟨0x400200B0, 0x0, 1, 0x0, 1, 0x0, 0x0, 0x0, 0x0, 0x0, 0, 0, 0⟩ /- HBOOT_STAT -/,
  ⟨0x40020400, 0x4, 256, 0x0, 1, 0x0, 0x0, 0x0, 0x0, 0x0, 0, 0, 0⟩ /- SHADOW -/
  ]

/-- The rows of ERR, spec/14_management_errors.md. -/
def regRowsERR : List RegRow := [
  ⟨0x40030000, 0x0, 1, 0x0, 1, 0xFF, 0x0, 0x0, 0x0, 0x0, 0, 0, 0⟩ /- CFG -/,
  ⟨0x40030004, 0x0, 1, 0x0, 1, 0x0, 0x0, 0x0, 0xC, 0x0, 0, 0, 0⟩ /- STATUS -/,
  ⟨0x40030010, 0x0, 1, 0x0, 1, 0x0, 0x0, 0x0, 0x0, 0x0, 0, 0, 0⟩ /- EVQ_CNT -/,
  ⟨0x40030014, 0x0, 1, 0x0, 1, 0x0, 0x0, 0x0, 0x0, 0x0, 0, 0, 0⟩ /- EVQ_POP -/,
  ⟨0x40030020, 0x4, 4, 0x0, 1, 0x0, 0x0, 0x0, 0x0, 0x0, 0, 0, 0⟩ /- EVQ_HEAD -/,
  ⟨0x40030040, 0x0, 1, 0x0, 1, 0x0, 0x0, 0x0, 0x0, 0x0, 0, 0, 0⟩ /- FATAL_SRC -/,
  ⟨0x40030044, 0x0, 1, 0x0, 1, 0x0, 0x0, 0x0, 0x0, 0x0, 0, 0, 0⟩ /- STOP_SRC -/,
  ⟨0x40030048, 0x0, 1, 0x0, 1, 0x0, 0x0, 0x0, 0x0, 0x0, 0, 0, 0⟩ /- DEC_ADDR_LO -/,
  ⟨0x4003004C, 0x0, 1, 0x0, 1, 0x0, 0x0, 0x0, 0x0, 0x0, 0, 0, 0⟩ /- DEC_ADDR_HI -/,
  ⟨0x40030800, 0x4, 256, 0x0, 1, 0xB7, 0x0, 0x0, 0x0, 0x0, 0, 0, 0⟩ /- SRC_CFG -/,
  ⟨0x40031000, 0x20, 256, 0x4, 8, 0x0, 0x0, 0x0, 0x0, 0x0, 0, 0, 0⟩ /- REC -/
  ]

/-- The rows of DMA, spec/13_dma_memory.md. -/
def regRowsDMA : List RegRow := [
  ⟨0x40040000, 0x0, 1, 0x0, 1, 0x1, 0x0, 0x0, 0x0, 0x0, 0, 0, 0⟩ /- CTL -/,
  ⟨0x40040004, 0x0, 1, 0x0, 1, 0x0, 0x0, 0x0, 0x4, 0x0, 0, 0, 0⟩ /- STATUS -/,
  ⟨0x40040008, 0x0, 1, 0x0, 1, 0x0, 0xFFFF, 0x0, 0x0, 0x0, 0x40040000, 0x0, 0⟩ /- PD_QUIESCE_TMO -/,
  ⟨0x4004000C, 0x0, 1, 0x0, 1, 0x0, 0x0, 0x0, 0x0, 0x0, 0, 0, 0⟩ /- INFLIGHT -/,
  ⟨0x40040010, 0x0, 1, 0x0, 1, 0x0, 0x0, 0x0, 0x0, 0x0, 0, 0, 0⟩ /- DONE_SUM -/,
  ⟨0x40040100, 0x40, 16, 0x0, 1, 0x1, 0x0, 0x300, 0x0, 0x0, 0x40040000, 0x0, 0⟩ /- CH_CTL -/,
  ⟨0x40040104, 0x40, 16, 0x0, 1, 0x0, 0x0, 0x0, 0x100, 0x0, 0, 0, 0⟩ /- CH_STAT -/,
  ⟨0x40040108, 0x40, 16, 0x0, 1, 0xFFFFFFFF, 0x0, 0x0, 0x0, 0x0, 0, 0, 0⟩ /- CH_DESC_LO -/,
  ⟨0x4004010C, 0x40, 16, 0x0, 1, 0xFFFFFFFF, 0x0, 0x0, 0x0, 0x0, 0, 0, 0⟩ /- CH_DESC_HI -/,
  ⟨0x40040110, 0x40, 16, 0x0, 1, 0x0, 0x0, 0x0, 0x0, 0x0, 0, 0, 0⟩ /- CH_SRC_LO -/,
  ⟨0x40040114, 0x40, 16, 0x0, 1, 0x0, 0x0, 0x0, 0x0, 0x0, 0, 0, 0⟩ /- CH_SRC_HI -/,
  ⟨0x40040118, 0x40, 16, 0x0, 1, 0x0, 0x0, 0x0, 0x0, 0x0, 0, 0, 0⟩ /- CH_DST_LO -/,
  ⟨0x4004011C, 0x40, 16, 0x0, 1, 0x0, 0x0, 0x0, 0x0, 0x0, 0, 0, 0⟩ /- CH_DST_HI -/,
  ⟨0x40040120, 0x40, 16, 0x0, 1, 0x0, 0x0, 0x0, 0x0, 0x0, 0, 0, 0⟩ /- CH_LEN -/,
  ⟨0x40040124, 0x40, 16, 0x0, 1, 0x0, 0x0, 0x0, 0x0, 0x0, 0, 0, 0⟩ /- CH_ERR_LO -/,
  ⟨0x40040128, 0x40, 16, 0x0, 1, 0x0, 0x0, 0x0, 0x0, 0x0, 0, 0, 0⟩ /- CH_ERR_HI -/,
  ⟨0x4004012C, 0x40, 16, 0x0, 1, 0x0, 0x0, 0x0, 0x0, 0x0, 0, 0, 0⟩ /- CH_DONE_CNT -/,
  ⟨0x40040130, 0x40, 16, 0x0, 1, 0x0, 0x0, 0x0, 0x0, 0x0, 0, 0, 0⟩ /- CH_BYTE_CNT -/
  ]

/-- The rows of MEMC, spec/13_dma_memory.md. -/
def regRowsMEMC : List RegRow := [
  ⟨0x40050000, 0x0, 1, 0x0, 1, 0x3, 0x0, 0x0, 0x0, 0x0, 0, 0, 0⟩ /- CTL -/,
  ⟨0x40050004, 0x0, 1, 0x0, 1, 0x0, 0x0, 0x0, 0x1E, 0x0, 0, 0, 0⟩ /- STATUS -/,
  ⟨0x40050008, 0x0, 1, 0x0, 1, 0xFFFFFFFF, 0x0, 0x0, 0x0, 0x0, 0, 0, 0⟩ /- URGENT -/,
  ⟨0x4005000C, 0x0, 1, 0x0, 1, 0xFFFFFFFF, 0x0, 0x0, 0x0, 0x0, 0, 0, 0⟩ /- OFFLINE -/,
  ⟨0x40050010, 0x0, 1, 0x0, 1, 0x0, 0x0, 0x0, 0x0, 0xFFFFFFFF, 0, 0, 0⟩ /- COLL_CNT -/,
  ⟨0x40050014, 0x0, 1, 0x0, 1, 0x0, 0x0, 0x0, 0x0, 0x0, 0, 0, 0⟩ /- COLL_ADDR -/,
  ⟨0x40050018, 0x0, 1, 0x0, 1, 0x0, 0x0, 0x0, 0x0, 0xFFFFFFFF, 0, 0, 0⟩ /- CE_CNT -/,
  ⟨0x4005001C, 0x0, 1, 0x0, 1, 0x0, 0x0, 0x0, 0x0, 0xFFFFFFFF, 0, 0, 0⟩ /- UE_CNT -/,
  ⟨0x40050020, 0x0, 1, 0x0, 1, 0x0, 0x0, 0x0, 0x0, 0x0, 0, 0, 0⟩ /- ERR_ADDR -/,
  ⟨0x40050030, 0x0, 1, 0x0, 1, 0x80000000, 0x4000FFFF, 0x0, 0x0, 0x0, 0x40050030, 0x0, 31⟩ /- MARCH_CTL -/,
  ⟨0x40050034, 0x0, 1, 0x0, 1, 0x0, 0xFFFFFFFF, 0x0, 0x0, 0x0, 0x40050030, 0x0, 31⟩ /- MARCH_BANKS -/,
  ⟨0x40050038, 0x0, 1, 0x0, 1, 0x0, 0x0, 0x0, 0x0, 0x0, 0, 0, 0⟩ /- MARCH_POS -/,
  ⟨0x4005003C, 0x0, 1, 0x0, 1, 0x0, 0x0, 0x0, 0xC, 0x0, 0, 0, 0⟩ /- MARCH_STAT -/,
  ⟨0x40050040, 0x0, 1, 0x0, 1, 0x0, 0x0, 0x0, 0x0, 0x0, 0, 0, 0⟩ /- MARCH_FAIL_ADDR -/,
  ⟨0x40050044, 0x0, 1, 0x0, 1, 0x0, 0x0, 0x0, 0x0, 0x0, 0, 0, 0⟩ /- MARCH_FAIL_XOR_LO -/,
  ⟨0x40050048, 0x0, 1, 0x0, 1, 0x0, 0x0, 0x0, 0x0, 0x0, 0, 0, 0⟩ /- MARCH_FAIL_XOR_HI -/,
  ⟨0x4005004C, 0x0, 1, 0x0, 1, 0x0, 0x0, 0x0, 0x0, 0xFFFFFFFF, 0, 0, 0⟩ /- YIELD_CNT -/,
  ⟨0x40050050, 0x0, 1, 0x0, 1, 0x0, 0x0, 0x0, 0x0, 0xFFFFFFFF, 0, 0, 0⟩ /- SKIP_CNT -/,
  ⟨0x40050054, 0x0, 1, 0x0, 1, 0x0, 0x0, 0x0, 0x0, 0x0, 0, 0, 0⟩ /- WIPE_STAT -/
  ]

/-- The rows of DRAMC, spec/13_dma_memory.md. -/
def regRowsDRAMC : List RegRow := [
  ⟨0x40060000, 0x0, 1, 0x0, 1, 0x1, 0x0, 0x0, 0x0, 0x0, 0, 0, 0⟩ /- CTL -/,
  ⟨0x40060004, 0x0, 1, 0x0, 1, 0x0, 0x0, 0x0, 0x1C, 0x0, 0, 0, 0⟩ /- STATUS -/,
  ⟨0x40060008, 0x0, 1, 0x0, 1, 0x0, 0x30030000, 0x0, 0x0, 0x0, 0x40060000, 0x0, 0⟩ /- CFG -/,
  ⟨0x4006000C, 0x0, 1, 0x0, 1, 0x0, 0x0, 0x0, 0x0, 0x0, 0, 0, 0⟩ /- CAP -/,
  ⟨0x40060010, 0x0, 1, 0x0, 1, 0x8000FFFF, 0x0, 0x0, 0x0, 0x0, 0, 0, 0⟩ /- SCRUB_CFG -/,
  ⟨0x40060014, 0x0, 1, 0x0, 1, 0x0, 0x0, 0x0, 0x0, 0x0, 0, 0, 0⟩ /- SCRUB_POS -/,
  ⟨0x40060018, 0x0, 1, 0x0, 1, 0x0, 0x0, 0x0, 0x0, 0xFFFFFFFF, 0, 0, 0⟩ /- CE_CNT -/,
  ⟨0x4006001C, 0x0, 1, 0x0, 1, 0x0, 0x0, 0x0, 0x0, 0xFFFFFFFF, 0, 0, 0⟩ /- UE_CNT -/,
  ⟨0x40060020, 0x0, 1, 0x0, 1, 0x0, 0x0, 0x0, 0x0, 0x0, 0, 0, 0⟩ /- ERR_ADDR_LO -/,
  ⟨0x40060024, 0x0, 1, 0x0, 1, 0x0, 0x0, 0x0, 0x0, 0x0, 0, 0, 0⟩ /- ERR_ADDR_HI -/,
  ⟨0x40060028, 0x0, 1, 0x0, 1, 0x0, 0x0, 0x0, 0x0, 0x0, 0, 0, 0⟩ /- BW_RD -/,
  ⟨0x4006002C, 0x0, 1, 0x0, 1, 0x0, 0x0, 0x0, 0x0, 0x0, 0, 0, 0⟩ /- BW_WR -/
  ]

/-- The rows of HOSTIF, spec/12_host_interface.md. -/
def regRowsHOSTIF : List RegRow := [
  ⟨0x40080000, 0x0, 1, 0x0, 1, 0x1, 0x8, 0x0, 0x0, 0x0, 0x40080000, 0x0, 0⟩ /- CTL -/,
  ⟨0x40080004, 0x0, 1, 0x0, 1, 0x0, 0x0, 0x0, 0xF8, 0x0, 0, 0, 0⟩ /- STATUS -/,
  ⟨0x40080008, 0x0, 1, 0x0, 1, 0x0, 0x0, 0x0, 0x0, 0x0, 0, 0, 0⟩ /- LINK -/,
  ⟨0x4008000C, 0x0, 1, 0x0, 1, 0x0, 0x0, 0xFFFF00FF, 0x0, 0x0, 0x40080000, 0x0, 0⟩ /- CPL_MOD -/,
  ⟨0x40080010, 0x0, 1, 0x0, 1, 0x0, 0x0, 0xFFFF00FF, 0x0, 0x0, 0x40080000, 0x0, 0⟩ /- EVT_MOD -/,
  ⟨0x40080014, 0x0, 1, 0x0, 1, 0x0, 0x0, 0x0, 0x0, 0xFFFFFFFF, 0, 0, 0⟩ /- EVT_LOST -/,
  ⟨0x40080018, 0x0, 1, 0x0, 1, 0x0, 0x0, 0x0, 0x0, 0xFFFFFFFF, 0, 0, 0⟩ /- CPL_LOST -/,
  ⟨0x4008001C, 0x0, 1, 0x0, 1, 0x0, 0x0, 0x0, 0x0, 0x0, 0, 0, 0⟩ /- PARSE_ERR -/,
  ⟨0x40080020, 0x0, 1, 0x0, 1, 0x0, 0xFFFFFFFF, 0x0, 0x0, 0x0, 0x40080000, 0x0, 0⟩ /- HR_BASE_LO -/,
  ⟨0x40080024, 0x0, 1, 0x0, 1, 0x0, 0xFFFFFFFF, 0x0, 0x0, 0x0, 0x40080000, 0x0, 0⟩ /- HR_BASE_HI -/,
  ⟨0x40080028, 0x0, 1, 0x0, 1, 0x0, 0x1F, 0x0, 0x0, 0x0, 0x40080000, 0x0, 0⟩ /- HR_SIZE -/,
  ⟨0x4008002C, 0x0, 1, 0x0, 1, 0x0, 0xFFFFFFFF, 0x0, 0x0, 0x0, 0x40080000, 0x0, 0⟩ /- HR_SHADOW_LO -/,
  ⟨0x40080030, 0x0, 1, 0x0, 1, 0x0, 0xFFFFFFFF, 0x0, 0x0, 0x0, 0x40080000, 0x0, 0⟩ /- HR_SHADOW_HI -/,
  ⟨0x40080034, 0x0, 1, 0x0, 1, 0x0, 0x0, 0x0, 0x0, 0x0, 0, 0, 0⟩ /- HR_PROD -/,
  ⟨0x40080038, 0x0, 1, 0x0, 1, 0x0, 0x0, 0x0, 0x0, 0x0, 0, 0, 0⟩ /- HR_CONS -/,
  ⟨0x40080040, 0x0, 1, 0x0, 1, 0x0, 0xFFFFFFFF, 0x0, 0x0, 0x0, 0x40080000, 0x0, 0⟩ /- CPL_BASE_LO -/,
  ⟨0x40080044, 0x0, 1, 0x0, 1, 0x0, 0xFFFFFFFF, 0x0, 0x0, 0x0, 0x40080000, 0x0, 0⟩ /- CPL_BASE_HI -/,
  ⟨0x40080048, 0x0, 1, 0x0, 1, 0x0, 0x1F, 0x0, 0x0, 0x0, 0x40080000, 0x0, 0⟩ /- CPL_SIZE -/,
  ⟨0x4008004C, 0x0, 1, 0x0, 1, 0x0, 0x0, 0x0, 0x0, 0x0, 0, 0, 0⟩ /- CPL_PROD -/,
  ⟨0x40080050, 0x0, 1, 0x0, 1, 0x0, 0x0, 0x0, 0x0, 0x0, 0, 0, 0⟩ /- CPL_CONS -/,
  ⟨0x40080060, 0x0, 1, 0x0, 1, 0x0, 0xFFFFFFFF, 0x0, 0x0, 0x0, 0x40080000, 0x0, 0⟩ /- TR_BASE_LO -/,
  ⟨0x40080064, 0x0, 1, 0x0, 1, 0x0, 0xFFFFFFFF, 0x0, 0x0, 0x0, 0x40080000, 0x0, 0⟩ /- TR_BASE_HI -/,
  ⟨0x40080068, 0x0, 1, 0x0, 1, 0x0, 0x1F, 0x0, 0x0, 0x0, 0x40080000, 0x0, 0⟩ /- TR_SIZE -/,
  ⟨0x4008006C, 0x0, 1, 0x0, 1, 0x0, 0x0, 0x0, 0x0, 0x0, 0, 0, 0⟩ /- TR_PROD -/,
  ⟨0x40080070, 0x0, 1, 0x0, 1, 0x0, 0x0, 0x0, 0x0, 0x0, 0, 0, 0⟩ /- TR_CONS -/,
  ⟨0x40080080, 0x0, 1, 0x0, 1, 0x0, 0x0, 0x0, 0x0, 0x0, 0, 0, 0⟩ /- JQ_LAST -/,
  ⟨0x40080100, 0x4, 16, 0x0, 1, 0x0, 0x0, 0x0, 0x0, 0x0, 0, 0, 0⟩ /- JQ_OCC -/,
  ⟨0x40080180, 0x4, 16, 0x0, 1, 0xBF003FFF, 0x0, 0x0, 0x0, 0x0, 0, 0, 0⟩ /- CULV_MAP -/,
  ⟨0x400801C0, 0x0, 1, 0x0, 1, 0x0, 0x0, 0x0, 0x0, 0x0, 0, 0, 0⟩ /- CULV_ERR -/,
  ⟨0x400801C4, 0x0, 1, 0x0, 1, 0x0, 0x0, 0x0, 0x0, 0xFFFFFFFF, 0, 0, 0⟩ /- CULV_ERR_CNT -/,
  ⟨0x40080200, 0x10, 8, 0x0, 1, 0xFFFFFFFF, 0x0, 0x0, 0x0, 0x0, 0, 0, 0⟩ /- SDELIV -/,
  ⟨0x40080204, 0x10, 8, 0x0, 1, 0x0, 0x0, 0x0, 0x0, 0x0, 0, 0, 0⟩ /- SCONS -/,
  ⟨0x40080208, 0x10, 8, 0x0, 1, 0x0, 0x0, 0x0, 0x0, 0x0, 0, 0, 0⟩ /- SJOB -/,
  ⟨0x40081000, 0x20, 248, 0x0, 1, 0x80000000, 0x3FFF77FF, 0x0, 0x0, 0x0, 0x40081000, 0x20, 31⟩ /- SCTX_CFG -/,
  ⟨0x40081004, 0x20, 248, 0x0, 1, 0x0, 0xFFFFFFFF, 0x0, 0x0, 0x0, 0x40081000, 0x20, 31⟩ /- SCTX_BASE_LO -/,
  ⟨0x40081008, 0x20, 248, 0x0, 1, 0x0, 0xFFFFFFFF, 0x0, 0x0, 0x0, 0x40081000, 0x20, 31⟩ /- SCTX_BASE_HI -/,
  ⟨0x4008100C, 0x20, 248, 0x0, 1, 0x0, 0xFFFFFFFF, 0x0, 0x0, 0x0, 0x40081000, 0x20, 31⟩ /- SCTX_SHADOW_LO -/,
  ⟨0x40081010, 0x20, 248, 0x0, 1, 0x0, 0xFFFFFFFF, 0x0, 0x0, 0x0, 0x40081000, 0x20, 31⟩ /- SCTX_SHADOW_HI -/,
  ⟨0x40081014, 0x20, 248, 0x0, 1, 0x0, 0x0, 0x0, 0x0, 0x0, 0, 0, 0⟩ /- SCTX_PROD -/,
  ⟨0x40081018, 0x20, 248, 0x0, 1, 0x0, 0x0, 0x0, 0x0, 0x0, 0, 0, 0⟩ /- SCTX_CONS -/
] ++ [
  ⟨0x4008101C, 0x20, 248, 0x0, 1, 0x0, 0x0, 0x0, 0x80000000, 0x0, 0, 0, 0⟩ /- SSTAT -/,
  ⟨0x40088000, 0x4, 16, 0x0, 1, 0x0, 0x0, 0x0, 0x0, 0x0, 0, 0, 0⟩ /- CPL_IN -/,
  ⟨0x40088100, 0x4, 16, 0x0, 1, 0x0, 0x0, 0x0, 0x0, 0x0, 0, 0, 0⟩ /- EVT_IN -/,
  ⟨0x40088200, 0x4, 16, 0x0, 1, 0x0, 0x0, 0x0, 0x0, 0x0, 0, 0, 0⟩ /- JQ_IN -/,
  ⟨0x40090000, 0x10, 64, 0x4, 3, 0xFFFFFFFF, 0x0, 0x0, 0x0, 0x0, 0, 0, 0⟩ /- MSIX_TABLE, address and data -/,
  ⟨0x4009000C, 0x10, 64, 0x0, 1, 0x1, 0x0, 0x0, 0x0, 0x0, 0, 0, 0⟩ /- MSIX_TABLE, vector control -/,
  ⟨0x40090800, 0x4, 2, 0x0, 1, 0x0, 0x0, 0x0, 0x0, 0x0, 0, 0, 0⟩ /- MSIX_PBA -/
  ]

/-- The rows of FAB, spec/11_fabric.md. -/
def regRowsFAB : List RegRow := [
  ⟨0x400A0000, 0x0, 1, 0x0, 1, 0x1, 0x0, 0x0, 0x0, 0x0, 0, 0, 0⟩ /- CTL -/,
  ⟨0x400A0004, 0x0, 1, 0x0, 1, 0x0, 0x0, 0x0, 0x1FF, 0x0, 0, 0, 0⟩ /- STATUS -/,
  ⟨0x400A0008, 0x0, 1, 0x0, 1, 0x0, 0x0, 0x0, 0x0, 0x0, 0, 0, 0⟩ /- IDENT_LO -/,
  ⟨0x400A000C, 0x0, 1, 0x0, 1, 0x0, 0x0, 0x0, 0x0, 0x0, 0, 0, 0⟩ /- IDENT_HI -/,
  ⟨0x400A0010, 0x0, 1, 0x0, 1, 0x801F003F, 0x0, 0x0, 0x0, 0x0, 0, 0, 0⟩ /- NODE -/,
  ⟨0x400A0014, 0x0, 1, 0x0, 1, 0x103, 0x0, 0x0, 0x0, 0x0, 0, 0, 0⟩ /- ACCESS -/,
  ⟨0x400A0018, 0x0, 1, 0x0, 1, 0x0, 0xFFFFFFFF, 0x0, 0x0, 0x0, 0x400A0000, 0x0, 0⟩ /- TMO_CFG -/,
  ⟨0x400A001C, 0x0, 1, 0x0, 1, 0x0, 0xFF, 0x0, 0x0, 0x0, 0x400A0000, 0x0, 0⟩ /- IN_LIMIT -/,
  ⟨0x400A0020, 0x0, 1, 0x0, 1, 0xFFFF0707, 0x0, 0x0, 0x0, 0x0, 0, 0, 0⟩ /- TIME_CFG -/,
  ⟨0x400A0024, 0x0, 1, 0x0, 1, 0x0, 0x0, 0x0, 0x0, 0x0, 0, 0, 0⟩ /- TIME_STAT -/,
  ⟨0x400A0028, 0x0, 1, 0x0, 1, 0x0, 0x0, 0x0, 0x0, 0x0, 0, 0, 0⟩ /- TIME_OFS -/,
  ⟨0x400A002C, 0x0, 1, 0x0, 1, 0x0, 0x0, 0x0, 0x0, 0x0, 0, 0, 0⟩ /- TIME_RATE -/,
  ⟨0x400A0030, 0x0, 1, 0x0, 1, 0x0, 0x0, 0x0, 0x0, 0x0, 0, 0, 0⟩ /- FT_LO -/,
  ⟨0x400A0034, 0x0, 1, 0x0, 1, 0x0, 0x0, 0x0, 0x0, 0x0, 0, 0, 0⟩ /- FT_HI -/,
  ⟨0x400A0038, 0x0, 1, 0x0, 1, 0x0, 0xC000FFFF, 0x0, 0x0, 0x0, 0x400A0000, 0x0, 0⟩ /- SLUICE_CFG -/,
  ⟨0x400A003C, 0x0, 1, 0x0, 1, 0x0, 0x0, 0x0, 0x0, 0x0, 0, 0, 0⟩ /- SLUICE_CTL -/,
  ⟨0x400A0040, 0x0, 1, 0x0, 1, 0x0, 0x0, 0x0, 0x0, 0x0, 0, 0, 0⟩ /- SLUICE_STAT -/,
  ⟨0x400A0044, 0x0, 1, 0x0, 1, 0x13F, 0x0, 0x0, 0x0, 0x0, 0, 0, 0⟩ /- TIDE_CFG -/,
  ⟨0x400A0048, 0x0, 1, 0x0, 1, 0x0, 0x0, 0x0, 0x0, 0x0, 0, 0, 0⟩ /- TIDE_RX_CNT -/,
  ⟨0x400A004C, 0x0, 1, 0x0, 1, 0x0, 0x0, 0x0, 0x0, 0xFFFFFFFF, 0, 0, 0⟩ /- TIDE_FOREIGN_CNT -/,
  ⟨0x400A0050, 0x0, 1, 0x0, 1, 0x0, 0x0, 0x0, 0x0, 0xFFFFFFFF, 0, 0, 0⟩ /- LATE_RSP_CNT -/,
  ⟨0x400A0054, 0x0, 1, 0x0, 1, 0x0, 0x0, 0x0, 0x0, 0xFFFFFFFF, 0, 0, 0⟩ /- TMO_CNT -/,
  ⟨0x400A0058, 0x0, 1, 0x0, 1, 0x0, 0x0, 0x0, 0x0, 0xFFFFFFFF, 0, 0, 0⟩ /- UNREACH_CNT -/,
  ⟨0x400A005C, 0x0, 1, 0x0, 1, 0x0, 0x0, 0x0, 0x0, 0xFFFFFFFF, 0, 0, 0⟩ /- FAILOVER_CNT -/,
  ⟨0x400A0060, 0x0, 1, 0x0, 1, 0xF1F003F, 0x0, 0x0, 0x0, 0x0, 0, 0, 0⟩ /- CREQ_CTL -/,
  ⟨0x400A0064, 0x0, 1, 0x0, 1, 0xFFFFFFFF, 0x0, 0x0, 0x0, 0x0, 0, 0, 0⟩ /- CREQ_ROUTE -/,
  ⟨0x400A0068, 0x0, 1, 0x0, 1, 0xFFFFFFFF, 0x0, 0x0, 0x0, 0x0, 0, 0, 0⟩ /- CREQ_ADDR -/,
  ⟨0x400A006C, 0x0, 1, 0x0, 1, 0xFFFFFFFF, 0x0, 0x0, 0x0, 0x0, 0, 0, 0⟩ /- CREQ_DATA -/,
  ⟨0x400A0070, 0x0, 1, 0x0, 1, 0x0, 0x0, 0x0, 0x80000000, 0x0, 0, 0, 0⟩ /- CREQ_STAT -/,
  ⟨0x400A0074, 0x0, 1, 0x0, 1, 0xFFFFFFFF, 0x0, 0x0, 0x0, 0x0, 0, 0, 0⟩ /- CREQ_IDENT_LO -/,
  ⟨0x400A0078, 0x0, 1, 0x0, 1, 0xFFFFFFFF, 0x0, 0x0, 0x0, 0x0, 0, 0, 0⟩ /- CREQ_IDENT_HI -/,
  ⟨0x400A007C, 0x0, 1, 0x0, 1, 0x0, 0x0, 0x0, 0x0, 0xFFFFFFFF, 0, 0, 0⟩ /- LATE_CLR_CNT -/,
  ⟨0x400A0080, 0x4, 16, 0x0, 1, 0x0, 0x0, 0x0, 0x0, 0x0, 0, 0, 0⟩ /- CRSP -/,
  ⟨0x400A00C0, 0x0, 1, 0x0, 1, 0x1FFFFF, 0x0, 0x0, 0x0, 0x0, 0, 0, 0⟩ /- BOOT_CTL -/,
  ⟨0x400A00C4, 0x0, 1, 0x0, 1, 0x0, 0x0, 0x0, 0x0, 0x0, 0, 0, 0⟩ /- BOOT_STAT -/,
  ⟨0x400A0100, 0x40, 4, 0x0, 1, 0xFFFF0019, 0x6, 0x0, 0x0, 0x0, 0x400A0100, 0x40, 0⟩ /- PORT_CTL -/,
  ⟨0x400A0104, 0x40, 4, 0x0, 1, 0x0, 0x0, 0x0, 0x200, 0x0, 0, 0, 0⟩ /- PORT_STAT -/,
  ⟨0x400A0108, 0x40, 4, 0x0, 1, 0x0, 0x0, 0x0, 0x0, 0x0, 0, 0, 0⟩ /- NBR_IDENT_LO -/,
  ⟨0x400A010C, 0x40, 4, 0x0, 1, 0x0, 0x0, 0x0, 0x0, 0x0, 0, 0, 0⟩ /- NBR_IDENT_HI -/,
  ⟨0x400A0110, 0x40, 4, 0x0, 1, 0x0, 0x0, 0x0, 0x0, 0x0, 0, 0, 0⟩ /- NBR_NODE -/
] ++ [
  ⟨0x400A0114, 0x40, 4, 0x0, 1, 0x0, 0x0, 0x0, 0x0, 0x0, 0, 0, 0⟩ /- LINK_DLY -/,
  ⟨0x400A0118, 0x40, 4, 0x0, 1, 0x0, 0x0, 0x0, 0x0, 0xFFFFFFFF, 0, 0, 0⟩ /- DLY_REJ_CNT -/,
  ⟨0x400A011C, 0x40, 4, 0x0, 1, 0x0, 0x0, 0x0, 0x0, 0xFFFFFFFF, 0, 0, 0⟩ /- CRC_ERR_CNT -/,
  ⟨0x400A0120, 0x40, 4, 0x0, 1, 0x0, 0x0, 0x0, 0x0, 0xFFFFFFFF, 0, 0, 0⟩ /- REPLAY_CNT -/,
  ⟨0x400A0124, 0x40, 4, 0x0, 1, 0x0, 0x0, 0x0, 0x0, 0xFFFFFFFF, 0, 0, 0⟩ /- LOSS_CNT -/,
  ⟨0x400A0128, 0x40, 4, 0x0, 1, 0x0, 0x0, 0x0, 0x0, 0x0, 0, 0, 0⟩ /- TX_WORDS -/,
  ⟨0x400A012C, 0x40, 4, 0x0, 1, 0x0, 0x0, 0x0, 0x0, 0x0, 0, 0, 0⟩ /- RX_WORDS -/,
  ⟨0x400A0400, 0x4, 64, 0x0, 1, 0x80000077, 0x0, 0x0, 0x0, 0x0, 0, 0, 0⟩ /- ROUTE -/
  ]

/-- The rows of CMP, spec/02_compositor.md. -/
def regRowsCMP : List RegRow := [
  ⟨0x40100000, 0x0, 1, 0x0, 1, 0x3, 0x4, 0x0, 0x0, 0x0, 0x40100000, 0x0, 0⟩ /- CTL -/,
  ⟨0x40100004, 0x0, 1, 0x0, 1, 0x0, 0x0, 0x0, 0xFC, 0x0, 0, 0, 0⟩ /- STATUS -/,
  ⟨0x40100008, 0x0, 1, 0x0, 1, 0x0, 0xFF, 0x0, 0x0, 0x0, 0x40100000, 0x0, 0⟩ /- CFG -/,
  ⟨0x4010000C, 0x0, 1, 0x0, 1, 0x0, 0x0, 0xF8, 0x0, 0x0, 0x40100000, 0x0, 0⟩ /- COMP_CFG -/,
  ⟨0x40100010, 0x0, 1, 0x0, 1, 0x0, 0x0, 0x0, 0x0, 0x0, 0, 0, 0⟩ /- LINE_CNT -/,
  ⟨0x40100014, 0x0, 1, 0x0, 1, 0x0, 0x0, 0x0, 0x0, 0x0, 0, 0, 0⟩ /- JOB_LINE -/,
  ⟨0x40100018, 0x0, 1, 0x0, 1, 0x0, 0x0, 0x0, 0x0, 0x0, 0, 0, 0⟩ /- JOB_ID -/,
  ⟨0x4010001C, 0x0, 1, 0x0, 1, 0x0, 0x0, 0x0, 0x0, 0x0, 0, 0, 0⟩ /- PROG_CHECK -/,
  ⟨0x40100020, 0x0, 1, 0x0, 1, 0x0, 0x0, 0x0, 0x0, 0x0, 0, 0, 0⟩ /- LOAD -/,
  ⟨0x40100024, 0x0, 1, 0x0, 1, 0x0, 0x0, 0x0, 0x0, 0xFFFFFFFF, 0, 0, 0⟩ /- STALL_CNT -/,
  ⟨0x40100028, 0x0, 1, 0x0, 1, 0x0, 0x0, 0x0, 0x0, 0xFFFFFFFF, 0, 0, 0⟩ /- LOST_CNT -/,
  ⟨0x4010002C, 0x0, 1, 0x0, 1, 0x0, 0x0, 0x0, 0x0, 0xFFFFFFFF, 0, 0, 0⟩ /- RAIL_FIX_CNT -/,
  ⟨0x40100030, 0x0, 1, 0x0, 1, 0x0, 0x0, 0x0, 0x0, 0x0, 0, 0, 0⟩ /- DEAD_CNT -/,
  ⟨0x40100034, 0x0, 1, 0x0, 1, 0x0, 0x0, 0x0, 0x0, 0x0, 0, 0, 0⟩ /- TBL_ACTIVE -/,
  ⟨0x40100040, 0x0, 1, 0x0, 1, 0x0, 0xFFFFF000, 0x0, 0x0, 0x0, 0x40100000, 0x0, 0⟩ /- RAIL_BASE_0 -/,
  ⟨0x40100044, 0x0, 1, 0x0, 1, 0x0, 0xFFFFF000, 0x0, 0x0, 0x0, 0x40100000, 0x0, 0⟩ /- RAIL_BASE_1 -/,
  ⟨0x40100048, 0x0, 1, 0x0, 1, 0x0, 0xFFFFF000, 0x0, 0x0, 0x0, 0x40100000, 0x0, 0⟩ /- COMP_BASE_0 -/,
  ⟨0x4010004C, 0x0, 1, 0x0, 1, 0x0, 0xFFFFF000, 0x0, 0x0, 0x0, 0x40100000, 0x0, 0⟩ /- COMP_BASE_1 -/,
  ⟨0x40100050, 0x0, 1, 0x0, 1, 0x0, 0xFFFFF000, 0x0, 0x0, 0x0, 0x40100000, 0x0, 0⟩ /- HEALTH_BASE_0 -/,
  ⟨0x40100054, 0x0, 1, 0x0, 1, 0x0, 0xFFFFF000, 0x0, 0x0, 0x0, 0x40100000, 0x0, 0⟩ /- HEALTH_BASE_1 -/,
  ⟨0x40100060, 0x0, 1, 0x0, 1, 0x0, 0x0, 0x0, 0x0, 0x0, 0, 0, 0⟩ /- KILL_SET -/,
  ⟨0x40100064, 0x0, 1, 0x0, 1, 0x0, 0x0, 0x0, 0x0, 0x0, 0, 0, 0⟩ /- KILL_CLR -/,
  ⟨0x40100068, 0x0, 1, 0x0, 1, 0x0, 0x0, 0x0, 0x0, 0x0, 0, 0, 0⟩ /- KILL_CNT -/,
  ⟨0x40100080, 0x4, 8, 0x0, 1, 0x0, 0x0, 0x0, 0x0, 0x0, 0, 0, 0⟩ /- STREAM_CONS -/
  ]

/-- The rows of LQ, spec/03_line_queues.md. -/
def regRowsLQ : List RegRow := [
  ⟨0x40120000, 0x0, 1, 0x0, 1, 0x1, 0x0, 0x0, 0x0, 0x0, 0, 0, 0⟩ /- CTL -/,
  ⟨0x40120004, 0x0, 1, 0x0, 1, 0x0, 0x0, 0x0, 0x6, 0x0, 0, 0, 0⟩ /- STATUS -/,
  ⟨0x40120008, 0x0, 1, 0x0, 1, 0x0, 0x0, 0x0, 0x0, 0x0, 0, 0, 0⟩ /- FLUSH -/,
  ⟨0x4012000C, 0x0, 1, 0x0, 1, 0x0, 0xFFFF, 0x0, 0x0, 0x0, 0x40120000, 0x0, 0⟩ /- FLUSH_TMO -/,
  ⟨0x40120010, 0x0, 1, 0x0, 1, 0x0, 0x0, 0x0, 0x0, 0x0, 0, 0, 0⟩ /- RESYNC -/,
  ⟨0x40120100, 0x40, 16, 0x0, 1, 0x0, 0x0, 0x1FFFF, 0x0, 0x0, 0x40120000, 0x0, 0⟩ /- CAP -/,
  ⟨0x40120104, 0x40, 16, 0x0, 1, 0x0, 0x0, 0xFF, 0x0, 0x0, 0x40120000, 0x0, 0⟩ /- CFG -/,
  ⟨0x40120108, 0x40, 16, 0x0, 1, 0x0, 0xFFFFF800, 0x0, 0x0, 0x0, 0x40120000, 0x0, 0⟩ /- SPILL_BASE_LO -/,
  ⟨0x4012010C, 0x40, 16, 0x0, 1, 0x0, 0xFFFFFFFF, 0x0, 0x0, 0x0, 0x40120000, 0x0, 0⟩ /- SPILL_BASE_HI -/,
  ⟨0x40120110, 0x40, 16, 0x0, 1, 0x0, 0xFFFF, 0x0, 0x0, 0x0, 0x40120000, 0x0, 0⟩ /- SPILL_LINES -/,
  ⟨0x40120114, 0x40, 16, 0x0, 1, 0x0, 0x0, 0x0, 0x0, 0x0, 0, 0, 0⟩ /- DEPTH -/,
  ⟨0x40120118, 0x40, 16, 0x0, 1, 0x0, 0x0, 0x0, 0x0, 0x0, 0, 0, 0⟩ /- OCC -/,
  ⟨0x4012011C, 0x40, 16, 0x0, 1, 0x0, 0x0, 0x0, 0x0, 0x1FFFF, 0, 0, 0⟩ /- PEAK -/,
  ⟨0x40120120, 0x40, 16, 0x0, 1, 0x0, 0x0, 0x0, 0x3F, 0x0, 0, 0, 0⟩ /- QSTATUS -/,
  ⟨0x40120124, 0x40, 16, 0x0, 1, 0x0, 0x0, 0x0, 0x0, 0xFFFFFFFF, 0, 0, 0⟩ /- UNDER_CNT -/,
  ⟨0x40120128, 0x40, 16, 0x0, 1, 0x0, 0x0, 0x0, 0x0, 0xFFFFFFFF, 0, 0, 0⟩ /- BLANK_CNT -/,
  ⟨0x4012012C, 0x40, 16, 0x0, 1, 0x0, 0x0, 0x0, 0x0, 0xFFFFFFFF, 0, 0, 0⟩ /- LATE_CNT -/,
  ⟨0x40120130, 0x40, 16, 0x0, 1, 0x0, 0x0, 0x0, 0x0, 0xFFFFFFFF, 0, 0, 0⟩ /- DROP_BEATS -/,
  ⟨0x40120134, 0x40, 16, 0x0, 1, 0x0, 0x0, 0x0, 0x0, 0x0, 0, 0, 0⟩ /- HEAD_Y -/,
  ⟨0x40120138, 0x40, 16, 0x0, 1, 0x0, 0x0, 0x0, 0x0, 0x0, 0, 0, 0⟩ /- HEAD_JOB -/
  ]

/-- The rows of HPT, spec/04_head_ports.md. -/
def regRowsHPT : List RegRow := [
  ⟨0x40140000, 0x0, 1, 0x0, 1, 0x1, 0x0, 0x0, 0x0, 0x0, 0, 0, 0⟩ /- CTL -/,
  ⟨0x40140004, 0x0, 1, 0x0, 1, 0x0, 0x0, 0x0, 0x2, 0x0, 0, 0, 0⟩ /- STATUS -/,
  ⟨0x40141000, 0x200, 16, 0x0, 1, 0x1, 0x1E, 0x0, 0x0, 0x0, 0x40141000, 0x200, 0⟩ /- PCTL -/,
  ⟨0x40141004, 0x200, 16, 0x0, 1, 0x0, 0x0, 0x0, 0x3C00, 0x0, 0, 0, 0⟩ /- PSTATUS -/,
  ⟨0x40141008, 0x200, 16, 0x0, 1, 0x0, 0x33F, 0x0, 0x0, 0x0, 0x40141000, 0x200, 0⟩ /- CLK -/,
  ⟨0x4014100C, 0x200, 16, 0x0, 1, 0x0, 0x3FFF, 0x0, 0x0, 0x0, 0x40141000, 0x200, 0⟩ /- LANES -/,
  ⟨0x40141010, 0x200, 16, 0x0, 1, 0x0, 0x80000000, 0xFFFFFFF, 0x0, 0x0, 0x40141000, 0x200, 0⟩ /- LAT -/,
  ⟨0x40141014, 0x200, 16, 0x0, 1, 0x0, 0x0, 0x1FFFF, 0x0, 0x0, 0x40141000, 0x200, 0⟩ /- ROWS -/,
  ⟨0x40141018, 0x200, 16, 0x0, 1, 0x0, 0x0, 0xFFFFFF, 0x0, 0x0, 0x40141000, 0x200, 0⟩ /- ROWPERM -/,
  ⟨0x40141020, 0x200, 16, 0x4, 8, 0x0, 0x0, 0x3FF, 0x0, 0x0, 0x40141000, 0x200, 0⟩ /- ROW_DLY -/,
  ⟨0x40141040, 0x200, 16, 0x0, 1, 0x0, 0xFFFFFFE0, 0x0, 0x0, 0x0, 0x40141000, 0x200, 0⟩ /- SKEW_BASE -/,
  ⟨0x40141044, 0x200, 16, 0x0, 1, 0x0, 0x0, 0x0, 0x0, 0x0, 0, 0, 0⟩ /- SKEW_SIZE -/,
  ⟨0x40141048, 0x200, 16, 0x0, 1, 0xFFFFFFFF, 0x0, 0x0, 0x0, 0x0, 0, 0, 0⟩ /- FPROG_LO -/,
  ⟨0x4014104C, 0x200, 16, 0x0, 1, 0xFFFFFFFF, 0x0, 0x0, 0x0, 0x0, 0, 0, 0⟩ /- FPROG_HI -/,
  ⟨0x40141050, 0x200, 16, 0x0, 1, 0x0, 0x0, 0x0, 0x0, 0x0, 0, 0, 0⟩ /- FP_STATUS -/,
  ⟨0x40141054, 0x200, 16, 0x0, 1, 0x0, 0x0, 0x0, 0x0, 0x0, 0, 0, 0⟩ /- PRS -/,
  ⟨0x40141058, 0x200, 16, 0x0, 1, 0x0, 0x0, 0x0, 0x0, 0x0, 0, 0, 0⟩ /- RAIL_STATE -/,
  ⟨0x40141060, 0x200, 16, 0x0, 1, 0x13F3F7F, 0x0, 0x0, 0x0, 0x0, 0, 0, 0⟩ /- I2C_CTL -/,
  ⟨0x40141064, 0x200, 16, 0x0, 1, 0x0, 0x0, 0x0, 0x1E, 0x0, 0, 0, 0⟩ /- I2C_STATUS -/,
  ⟨0x40141070, 0x200, 16, 0x4, 8, 0xFFFFFFFF, 0x0, 0x0, 0x0, 0x0, 0, 0, 0⟩ /- I2C_DATA -/,
  ⟨0x40141090, 0x200, 16, 0x0, 1, 0x0, 0x0, 0x0, 0x0, 0xFFFFFFFF, 0, 0, 0⟩ /- XFER_LATE_CNT -/,
  ⟨0x40141094, 0x200, 16, 0x0, 1, 0x0, 0x0, 0x0, 0x0, 0xFFFFFFFF, 0, 0, 0⟩ /- DOWN_DISCARD_CNT -/,
  ⟨0x40141098, 0x200, 16, 0x0, 1, 0x0, 0x0, 0x0, 0x3F3F, 0x0, 0, 0, 0⟩ /- LANE_STAT -/,
  ⟨0x4014109C, 0x200, 16, 0x0, 1, 0x0, 0x0, 0x0, 0x0, 0x0, 0, 0, 0⟩ /- FRAME_CNT -/
  ]

/-- The rows of WFE, spec/05_waveform_engine.md. -/
def regRowsWFE : List RegRow := [
  ⟨0x40180000, 0x0, 1, 0x0, 1, 0x1, 0x0, 0x0, 0x0, 0x0, 0, 0, 0⟩ /- CTL -/,
  ⟨0x40180004, 0x0, 1, 0x0, 1, 0x0, 0x0, 0x0, 0x6, 0x0, 0, 0, 0⟩ /- STATUS -/,
  ⟨0x40180008, 0x0, 1, 0x0, 1, 0x0, 0x0, 0x0, 0x0, 0x0, 0, 0, 0⟩ /- FAULT_SUM -/,
  ⟨0x40181000, 0x80, 48, 0x0, 1, 0x41, 0x180, 0x0, 0x0, 0x0, 0x40180000, 0x0, 0⟩ /- CH_CTL -/,
  ⟨0x40181004, 0x80, 48, 0x0, 1, 0x0, 0x0, 0x0, 0xFC0, 0x0, 0, 0, 0⟩ /- CH_STATUS -/,
  ⟨0x40181008, 0x80, 48, 0x0, 1, 0x0, 0x0, 0x3FFF, 0x0, 0x0, 0x40180000, 0x0, 0⟩ /- PROG_PTR -/,
  ⟨0x4018100C, 0x80, 48, 0x0, 1, 0x0, 0xFFFF, 0x0, 0x0, 0x0, 0x40180000, 0x0, 0⟩ /- REST -/,
  ⟨0x40181010, 0x80, 48, 0x0, 1, 0x0, 0x0, 0xFFFF, 0x0, 0x0, 0x40180000, 0x0, 0⟩ /- SLOT_LIMIT -/,
  ⟨0x40181014, 0x80, 48, 0x0, 1, 0x0, 0x3FFF, 0x0, 0x0, 0x0, 0x40180000, 0x0, 0⟩ /- I_SHORT -/,
  ⟨0x40181018, 0x80, 48, 0x0, 1, 0x0, 0xFF0FFFFF, 0x0, 0x0, 0x0, 0x40180000, 0x0, 0⟩ /- OPEN_CFG -/,
  ⟨0x4018101C, 0x80, 48, 0x0, 1, 0x0, 0xFFFFFFFF, 0x0, 0x0, 0x0, 0x40180000, 0x0, 0⟩ /- LOAD_C -/,
  ⟨0x40181020, 0x80, 48, 0x0, 1, 0x0, 0xFF00FFFF, 0x0, 0x0, 0x0, 0x40180000, 0x0, 0⟩ /- TRACK_CFG -/,
  ⟨0x40181024, 0x80, 48, 0x0, 1, 0x0, 0x0, 0xF0FFFF0F, 0x0, 0x0, 0x40180000, 0x0, 0⟩ /- PD_CFG -/,
  ⟨0x40181030, 0x80, 48, 0x0, 1, 0x0, 0x0, 0x0, 0x0, 0x0, 0, 0, 0⟩ /- GAIN_EFF -/,
  ⟨0x40181034, 0x80, 48, 0x0, 1, 0x0, 0x0, 0x0, 0x0, 0x0, 0, 0, 0⟩ /- OFFSET_EFF -/,
  ⟨0x40181038, 0x80, 48, 0x0, 1, 0x0, 0x0, 0x0, 0x0, 0x0, 0, 0, 0⟩ /- LOOP_DLY_EFF -/,
  ⟨0x40181040, 0x80, 48, 0x0, 1, 0x0, 0x0, 0x0, 0x0, 0x0, 0, 0, 0⟩ /- SLOT_CNT -/,
  ⟨0x40181044, 0x80, 48, 0x0, 1, 0x0, 0x0, 0x0, 0x0, 0xFFFFFFFF, 0, 0, 0⟩ /- FAULT_CNT -/,
  ⟨0x40181048, 0x80, 48, 0x0, 1, 0x0, 0x0, 0x0, 0x0, 0x0, 0, 0, 0⟩ /- FB_LAST -/,
  ⟨0x4018104C, 0x80, 48, 0x0, 1, 0x0, 0x0, 0x0, 0x0, 0x0, 0, 0, 0⟩ /- SLOT_LEN -/,
  ⟨0x40181050, 0x80, 48, 0x0, 1, 0x0, 0x0, 0x0, 0x0, 0xFFFFFFFF, 0, 0, 0⟩ /- PD_UPD_CNT -/,
  ⟨0x40181054, 0x80, 48, 0x0, 1, 0x0, 0x0, 0x0, 0x0, 0xFFFFFFFF, 0, 0, 0⟩ /- SAT_CNT -/,
  ⟨0x40183000, 0x40, 16, 0x0, 1, 0x0, 0xFF0017, 0x0, 0x0, 0x0, 0x40180000, 0x0, 0⟩ /- HEAD_CTL -/,
  ⟨0x40183004, 0x40, 16, 0x0, 1, 0x0, 0x0, 0x0, 0x700, 0x0, 0, 0, 0⟩ /- HEAD_STAT -/,
  ⟨0x40183008, 0x40, 16, 0x0, 1, 0x0, 0x0, 0x0, 0x0, 0xFFFFFFFF, 0, 0, 0⟩ /- REFUSED_CNT -/,
  ⟨0x4018300C, 0x40, 16, 0x0, 1, 0x0, 0x0, 0x0, 0x0, 0xFFFFFFFF, 0, 0, 0⟩ /- STB_COLLIDE_CNT -/,
  ⟨0x40183010, 0x40, 16, 0x0, 1, 0x0, 0x0, 0x0, 0x0, 0xFFFFFFFF, 0, 0, 0⟩ /- SENSE_VOID_CNT -/,
  ⟨0x40183014, 0x40, 16, 0x0, 1, 0x0, 0x0, 0x0, 0x0, 0xFFFFFFFF, 0, 0, 0⟩ /- TAKEOVER_CNT -/,
  ⟨0x40190000, 0x400, 48, 0x4, 256, 0x0, 0x0, 0x0, 0x0, 0x0, 0, 0, 0⟩ /- CORR -/,
  ⟨0x401A0000, 0x4, 32768, 0x0, 1, 0xFFFFFFFF, 0x0, 0x0, 0x0, 0x0, 0, 0, 0⟩ /- WMEM -/
  ]

/-- The rows of FIRE, spec/06_fire_timing.md. -/
def regRowsFIRE : List RegRow := [
  ⟨0x401C0000, 0x0, 1, 0x0, 1, 0x1, 0x4, 0x0, 0x0, 0x0, 0x401C0000, 0x0, 0⟩ /- CTL -/,
  ⟨0x401C0004, 0x0, 1, 0x0, 1, 0x0, 0x0, 0x0, 0x3F0, 0x0, 0, 0, 0⟩ /- STATUS -/,
  ⟨0x401C0008, 0x0, 1, 0x0, 1, 0x0, 0x73FFFFFF, 0x0, 0x0, 0x0, 0x401C0000, 0x0, 0⟩ /- CFG -/,
  ⟨0x401C000C, 0x0, 1, 0x0, 1, 0x0, 0xFF00FFFF, 0x0, 0x0, 0x0, 0x401C0000, 0x0, 0⟩ /- PRED_CFG -/,
  ⟨0x401C0010, 0x0, 1, 0x0, 1, 0x0, 0xFFFFFF, 0x0, 0x0, 0x0, 0x401C0000, 0x0, 0⟩ /- REV_CFG -/,
  ⟨0x401C0014, 0x0, 1, 0x0, 1, 0x0, 0x0, 0x0, 0x0, 0x0, 0, 0, 0⟩ /- SLUICE_CTL -/,
  ⟨0x401C0018, 0x0, 1, 0x0, 1, 0x0, 0x0, 0x0, 0x0, 0x0, 0, 0, 0⟩ /- SLUICE_STAT -/,
  ⟨0x401C001C, 0x0, 1, 0x0, 1, 0x0, 0x0, 0x0, 0x0, 0x0, 0, 0, 0⟩ /- ARM_ERR -/,
  ⟨0x401C0020, 0x0, 1, 0x0, 1, 0x0, 0x0, 0x0, 0x0, 0x0, 0, 0, 0⟩ /- CMP_FRAC -/,
  ⟨0x401C0024, 0x0, 1, 0x0, 1, 0x0, 0x0, 0x0, 0x0, 0x0, 0, 0, 0⟩ /- CMP_INT -/,
  ⟨0x401C0028, 0x0, 1, 0x0, 1, 0x0, 0x0, 0x0, 0x0, 0x0, 0, 0, 0⟩ /- PITCH_FRAC -/,
  ⟨0x401C002C, 0x0, 1, 0x0, 1, 0x0, 0x0, 0x0, 0x0, 0x0, 0, 0, 0⟩ /- PITCH_INT -/,
  ⟨0x401C0030, 0x0, 1, 0x0, 1, 0x0, 0x0, 0x0, 0x0, 0x0, 0, 0, 0⟩ /- HWM -/,
  ⟨0x401C0034, 0x0, 1, 0x0, 1, 0x0, 0x0, 0x0, 0x0, 0x0, 0, 0, 0⟩ /- JOB_ID -/,
  ⟨0x401C0038, 0x0, 1, 0x0, 1, 0x0, 0x0, 0x0, 0x0, 0x0, 0, 0, 0⟩ /- JOB_LINE -/,
  ⟨0x401C003C, 0x0, 1, 0x0, 1, 0x0, 0x0, 0x0, 0x0, 0x0, 0, 0, 0⟩ /- LINE_CNT -/,
  ⟨0x401C0040, 0x0, 1, 0x0, 1, 0x0, 0x0, 0x0, 0x0, 0x0, 0, 0, 0⟩ /- TREF_LO -/,
  ⟨0x401C0044, 0x0, 1, 0x0, 1, 0x0, 0x0, 0x0, 0x0, 0x0, 0, 0, 0⟩ /- TREF_HI -/,
  ⟨0x401C0048, 0x0, 1, 0x0, 1, 0x0, 0x0, 0x0, 0x0, 0x0, 0, 0, 0⟩ /- SPEED -/,
  ⟨0x401C004C, 0x0, 1, 0x0, 1, 0x0, 0x0, 0x0, 0x0, 0xFFFFFFFF, 0, 0, 0⟩ /- MISSED -/,
  ⟨0x401C0050, 0x0, 1, 0x0, 1, 0x0, 0x0, 0x0, 0x0, 0xFFFFFFFF, 0, 0, 0⟩ /- LATE_CNT -/,
  ⟨0x401C0054, 0x0, 1, 0x0, 1, 0x0, 0x0, 0x0, 0x0, 0xFFFFFFFF, 0, 0, 0⟩ /- OVERSPEED_CNT -/,
  ⟨0x401C0058, 0x0, 1, 0x0, 1, 0x0, 0x0, 0x0, 0x0, 0xFFFFFFFF, 0, 0, 0⟩ /- PRED_LOST_CNT -/,
  ⟨0x401C005C, 0x0, 1, 0x0, 1, 0x0, 0x0, 0x0, 0x0, 0xFFFFFFFF, 0, 0, 0⟩ /- REVERSE_CNT -/,
  ⟨0x401C0060, 0x0, 1, 0x0, 1, 0x0, 0x0, 0x0, 0x0, 0x0, 0, 0, 0⟩ /- TAP_CNT -/,
  ⟨0x401C1000, 0x80, 16, 0x0, 1, 0x0, 0x0, 0xFFFF, 0x0, 0x0, 0x401C0000, 0x0, 0⟩ /- HEAD_CFG -/,
  ⟨0x401C1004, 0x80, 16, 0x0, 1, 0x0, 0x0, 0x0, 0x180, 0x0, 0, 0, 0⟩ /- HSTAT -/,
  ⟨0x401C1008, 0x80, 16, 0x0, 1, 0x0, 0x0, 0x0, 0x0, 0xFFFFFFFF, 0, 0, 0⟩ /- ROW_MISS_CNT -/,
  ⟨0x401C100C, 0x80, 16, 0x0, 1, 0x0, 0x0, 0x0, 0x0, 0x0, 0, 0, 0⟩ /- TRIG_CNT -/,
  ⟨0x401C1010, 0x80, 16, 0x0, 1, 0x0, 0x0, 0x0, 0x0, 0x0, 0, 0, 0⟩ /- LAST_TRIG_LO -/,
  ⟨0x401C1014, 0x80, 16, 0x0, 1, 0x0, 0x0, 0x0, 0x0, 0x0, 0, 0, 0⟩ /- LAST_TRIG_HI -/,
  ⟨0x401C1020, 0x80, 16, 0x4, 8, 0x0, 0x0, 0xFFFF, 0x0, 0x0, 0x401C0000, 0x0, 0⟩ /- ROW_FRAC -/
  ]

/-- The rows of POS, spec/07_position.md. -/
def regRowsPOS : List RegRow := [
  ⟨0x401E0000, 0x0, 1, 0x0, 1, 0x1, 0x0, 0x0, 0x0, 0x0, 0, 0, 0⟩ /- CTL -/,
  ⟨0x401E0004, 0x0, 1, 0x0, 1, 0x0, 0x0, 0x0, 0x3, 0x0, 0, 0, 0⟩ /- STATUS -/,
  ⟨0x401E0008, 0x0, 1, 0x0, 1, 0x0, 0x0, 0x0, 0x0, 0x0, 0, 0, 0⟩ /- SNAP -/,
  ⟨0x401E000C, 0x0, 1, 0x0, 1, 0x10, 0x7, 0x0, 0x0, 0x0, 0x401E000C, 0x0, 4⟩ /- TIDE_CFG -/,
  ⟨0x401E0010, 0x0, 1, 0x0, 1, 0x0, 0x0, 0x0, 0x0, 0x0, 0, 0, 0⟩ /- TIDE_CNT -/,
  ⟨0x401E0040, 0x10, 4, 0x0, 1, 0x0, 0x0, 0x0, 0x0, 0x0, 0, 0, 0⟩ /- SNAP_P -/,
  ⟨0x401E0044, 0x10, 4, 0x0, 1, 0x0, 0x0, 0x0, 0x0, 0x0, 0, 0, 0⟩ /- SNAP_T_LO -/,
  ⟨0x401E0048, 0x10, 4, 0x0, 1, 0x0, 0x0, 0x0, 0x0, 0x0, 0, 0, 0⟩ /- SNAP_T_HI -/,
  ⟨0x401E004C, 0x10, 4, 0x0, 1, 0x0, 0x0, 0x0, 0x0, 0x0, 0, 0, 0⟩ /- SNAP_V -/,
  ⟨0x401E0100, 0x100, 4, 0x0, 1, 0x1, 0x3F3F7FFE, 0x0, 0x0, 0x0, 0x401E0100, 0x100, 0⟩ /- AX_CTL -/,
  ⟨0x401E0104, 0x100, 4, 0x0, 1, 0x0, 0x0, 0x0, 0x1FE0, 0x0, 0, 0, 0⟩ /- AX_STATUS -/,
  ⟨0x401E0108, 0x100, 4, 0x0, 1, 0x0, 0x0, 0x0, 0x0, 0x0, 0, 0, 0⟩ /- COUNT -/,
  ⟨0x401E010C, 0x100, 4, 0x0, 1, 0x0, 0x0, 0x0, 0x0, 0x0, 0, 0, 0⟩ /- SPEED -/,
  ⟨0x401E0110, 0x100, 4, 0x0, 1, 0x0, 0x0, 0x0, 0x0, 0x0, 0, 0, 0⟩ /- SAMP_P -/,
  ⟨0x401E0114, 0x100, 4, 0x0, 1, 0x0, 0x0, 0x0, 0x0, 0x0, 0, 0, 0⟩ /- SAMP_T_LO -/,
  ⟨0x401E0118, 0x100, 4, 0x0, 1, 0x0, 0x0, 0x0, 0x0, 0x0, 0, 0, 0⟩ /- SAMP_T_HI -/,
  ⟨0x401E011C, 0x100, 4, 0x0, 1, 0x0, 0x0, 0x0, 0x0, 0x0, 0, 0, 0⟩ /- SAMP_V -/,
  ⟨0x401E0120, 0x100, 4, 0x0, 1, 0x0, 0x0, 0x0, 0x0, 0x0, 0, 0, 0⟩ /- IDX_P -/,
  ⟨0x401E0124, 0x100, 4, 0x0, 1, 0x0, 0x0, 0x0, 0x0, 0x0, 0, 0, 0⟩ /- IDX_T_LO -/,
  ⟨0x401E0128, 0x100, 4, 0x0, 1, 0x0, 0x0, 0x0, 0x0, 0x0, 0, 0, 0⟩ /- IDX_T_HI -/,
  ⟨0x401E012C, 0x100, 4, 0x0, 1, 0x0, 0x0, 0x0, 0x0, 0x0, 0, 0, 0⟩ /- IDX_DRIFT -/,
  ⟨0x401E0130, 0x100, 4, 0x0, 1, 0x0, 0xFFFFFF, 0x0, 0x0, 0x0, 0x401E0100, 0x100, 0⟩ /- IDX_SPACING -/,
  ⟨0x401E0134, 0x100, 4, 0x0, 1, 0x0, 0xFFFF, 0x0, 0x0, 0x0, 0x401E0100, 0x100, 0⟩ /- IDX_TOL -/,
  ⟨0x401E0138, 0x100, 4, 0x0, 1, 0x0, 0xFFFFFF, 0x0, 0x0, 0x0, 0x401E0100, 0x100, 0⟩ /- RST_VAL -/,
  ⟨0x401E013C, 0x100, 4, 0x0, 1, 0x0, 0xFF073FFF, 0x0, 0x0, 0x0, 0x401E0100, 0x100, 0⟩ /- RATE_CFG -/,
  ⟨0x401E0140, 0x100, 4, 0x0, 1, 0x0, 0x0, 0x0, 0x0, 0xFFFFFFFF, 0, 0, 0⟩ /- SKIP_CNT -/,
  ⟨0x401E0144, 0x100, 4, 0x0, 1, 0x0, 0x0, 0x0, 0x0, 0xFFFFFFFF, 0, 0, 0⟩ /- DISC_CNT -/,
  ⟨0x401E0148, 0x100, 4, 0x0, 1, 0x0, 0x0, 0x0, 0x0, 0xFFFFFFFF, 0, 0, 0⟩ /- SEQ_CNT -/,
  ⟨0x401E014C, 0x100, 4, 0x0, 1, 0x0, 0x0, 0x0, 0x0, 0xFFFFFFFF, 0, 0, 0⟩ /- SER_ERR_CNT -/,
  ⟨0x401E0150, 0x100, 4, 0x0, 1, 0x0, 0x0, 0x0, 0x0, 0x0, 0, 0, 0⟩ /- EDGE_CNT -/,
  ⟨0x401E0154, 0x100, 4, 0x0, 1, 0x0, 0x0, 0x0, 0x0, 0x0, 0, 0, 0⟩ /- IDX_CNT -/,
  ⟨0x401E0160, 0x100, 4, 0x0, 1, 0x0, 0x700F3FF, 0x0, 0x0, 0x0, 0x401E0100, 0x100, 0⟩ /- SER_CLK -/,
  ⟨0x401E0164, 0x100, 4, 0x0, 1, 0x0, 0xFF3F3F7F, 0x0, 0x0, 0x0, 0x401E0100, 0x100, 0⟩ /- SER_FRAME -/,
  ⟨0x401E0168, 0x100, 4, 0x0, 1, 0x0, 0x3F3F3F, 0x0, 0x0, 0x0, 0x401E0100, 0x100, 0⟩ /- SER_CRC -/,
  ⟨0x401E016C, 0x100, 4, 0x0, 1, 0x0, 0xFFFFFFFF, 0x0, 0x0, 0x0, 0x401E0100, 0x100, 0⟩ /- SER_POLY -/,
  ⟨0x401E0170, 0x100, 4, 0x0, 1, 0x0, 0xFFFFFFFF, 0x0, 0x0, 0x0, 0x401E0100, 0x100, 0⟩ /- SER_TIME -/,
  ⟨0x401E0174, 0x100, 4, 0x0, 1, 0x0, 0x3FFFFFFF, 0x0, 0x0, 0x0, 0x401E0100, 0x100, 0⟩ /- SER_MAP -/,
  ⟨0x401E0178, 0x100, 4, 0x0, 1, 0x0, 0xFFFFFFFF, 0x0, 0x0, 0x0, 0x401E0100, 0x100, 0⟩ /- SER_LAT -/,
  ⟨0x401E017C, 0x100, 4, 0x0, 1, 0x0, 0x0, 0x0, 0x0, 0x0, 0, 0, 0⟩ /- SER_STAT -/,
  ⟨0x401E0180, 0x100, 4, 0x0, 1, 0x0, 0x0, 0x0, 0x0, 0x0, 0, 0, 0⟩ /- SER_RAW_LO -/
] ++ [
  ⟨0x401E0184, 0x100, 4, 0x0, 1, 0x0, 0x0, 0x0, 0x0, 0x0, 0, 0, 0⟩ /- SER_RAW_HI -/
  ]

/-- The rows of NH, spec/08_nozzle_health.md. -/
def regRowsNH : List RegRow := [
  ⟨0x40200000, 0x0, 1, 0x0, 1, 0xF, 0x0, 0x0, 0x0, 0x0, 0, 0, 0⟩ /- CTL -/,
  ⟨0x40200004, 0x0, 1, 0x0, 1, 0x0, 0x0, 0x0, 0x1C, 0x0, 0, 0, 0⟩ /- STATUS -/,
  ⟨0x40200008, 0x0, 1, 0x0, 1, 0x0, 0x0, 0xFFFFFFFF, 0x0, 0x0, 0x40200000, 0x0, 0⟩ /- CLASS_CFG -/,
  ⟨0x4020000C, 0x0, 1, 0x0, 1, 0x0, 0x0, 0xFFFFFFFF, 0x0, 0x0, 0x40200000, 0x0, 0⟩ /- CLASS_CFG2 -/,
  ⟨0x40200010, 0x0, 1, 0x0, 1, 0x0, 0x0, 0xFFFFFF, 0x0, 0x0, 0x40200000, 0x0, 0⟩ /- DS_REF -/,
  ⟨0x40200014, 0x0, 1, 0x0, 1, 0x0, 0xFFFFF000, 0x0, 0x0, 0x0, 0x40200000, 0x0, 0⟩ /- MAP_BASE -/,
  ⟨0x40200018, 0x0, 1, 0x0, 1, 0x0, 0x0, 0xFFFFF000, 0x0, 0x0, 0x40200000, 0x0, 0⟩ /- BASE_BASE -/,
  ⟨0x4020001C, 0x0, 1, 0x0, 1, 0xFFFFFFFF, 0x0, 0x0, 0x0, 0x0, 0, 0, 0⟩ /- PUB_CFG -/,
  ⟨0x40200020, 0x0, 1, 0x0, 1, 0x0, 0x0, 0x0, 0x0, 0x0, 0, 0, 0⟩ /- PUB_CTL -/,
  ⟨0x40200024, 0x0, 1, 0x0, 1, 0x0, 0x0, 0x0, 0x0, 0x0, 0, 0, 0⟩ /- CHG_CNT -/,
  ⟨0x40200028, 0x0, 1, 0x0, 1, 0x0, 0x0, 0x0, 0x0, 0x0, 0, 0, 0⟩ /- PUB_CNT -/,
  ⟨0x4020002C, 0x0, 1, 0x0, 1, 0x0, 0x0, 0x0, 0x0, 0x0, 0, 0, 0⟩ /- FORCE -/,
  ⟨0x40200040, 0x0, 1, 0x0, 1, 0x0, 0xFFFFF000, 0x0, 0x0, 0x0, 0x40200000, 0x0, 0⟩ /- RES_BASE -/,
  ⟨0x40200044, 0x0, 1, 0x0, 1, 0x0, 0x3000F, 0x0, 0x0, 0x0, 0x40200000, 0x0, 0⟩ /- RES_CFG -/,
  ⟨0x40200048, 0x0, 1, 0x0, 1, 0x0, 0x0, 0x0, 0x0, 0x0, 0, 0, 0⟩ /- RES_WR -/,
  ⟨0x4020004C, 0x0, 1, 0x0, 1, 0xFFFF, 0x0, 0x0, 0x0, 0x0, 0, 0, 0⟩ /- RES_RD -/,
  ⟨0x40200050, 0x0, 1, 0x0, 1, 0x0, 0x0, 0x0, 0x0, 0xFFFFFFFF, 0, 0, 0⟩ /- RES_DROP_CNT -/,
  ⟨0x40200080, 0x4, 16, 0x0, 1, 0xFFFFFFFF, 0x0, 0x0, 0x0, 0x0, 0, 0, 0⟩ /- TH_LUT -/,
  ⟨0x402000C0, 0x0, 1, 0x0, 1, 0xFFFF, 0x0, 0x0, 0x0, 0x0, 0, 0, 0⟩ /- TH_LUT_16 -/,
  ⟨0x40201000, 0x80, 16, 0x0, 1, 0xC000, 0x1FFF1FFF, 0x0, 0x0, 0x0, 0x40201000, 0x80, 15⟩ /- HCTL -/,
  ⟨0x40201004, 0x80, 16, 0x0, 1, 0x0, 0x0, 0x0, 0x3F00, 0x0, 0, 0, 0⟩ /- HSTAT -/,
  ⟨0x40201008, 0x80, 16, 0x0, 1, 0x0, 0x0, 0x0, 0x0, 0x0, 0, 0, 0⟩ /- SCAN -/,
  ⟨0x4020100C, 0x80, 16, 0x0, 1, 0x0, 0x0, 0x0, 0x0, 0x0, 0, 0, 0⟩ /- SENSE_CNT -/,
  ⟨0x40201010, 0x80, 16, 0x0, 1, 0x0, 0x0, 0x0, 0x0, 0xFFFFFFFF, 0, 0, 0⟩ /- SKIP_CNT -/,
  ⟨0x40201014, 0x80, 16, 0x0, 1, 0x0, 0x0, 0x0, 0x0, 0xFFFFFFFF, 0, 0, 0⟩ /- DECL_CNT -/,
  ⟨0x40201018, 0x80, 16, 0x0, 1, 0x0, 0x0, 0x0, 0x0, 0x0, 0, 0, 0⟩ /- CLASS_CNT_A -/,
  ⟨0x4020101C, 0x80, 16, 0x0, 1, 0x0, 0x0, 0x0, 0x0, 0x0, 0, 0, 0⟩ /- CLASS_CNT_B -/,
  ⟨0x40201020, 0x80, 16, 0x0, 1, 0x0, 0x0, 0x0, 0x0, 0x0, 0, 0, 0⟩ /- CLASS_CNT_C -/,
  ⟨0x40201024, 0x80, 16, 0x0, 1, 0x0, 0x0, 0x0, 0x0, 0x0, 0, 0, 0⟩ /- TEMP -/,
  ⟨0x40201028, 0x80, 16, 0x0, 1, 0xFFFF, 0x0, 0x0, 0x0, 0x0, 0, 0, 0⟩ /- HEAT_SET -/,
  ⟨0x4020102C, 0x80, 16, 0x0, 1, 0xFFFFFFFF, 0x0, 0x0, 0x0, 0x0, 0, 0, 0⟩ /- HEAT_PI -/,
  ⟨0x40201030, 0x80, 16, 0x0, 1, 0xFFFF03FF, 0x0, 0x0, 0x0, 0x0, 0, 0, 0⟩ /- HEAT_LIM -/,
  ⟨0x40201034, 0x80, 16, 0x0, 1, 0x0, 0x0, 0x0, 0x0, 0x0, 0, 0, 0⟩ /- HEAT_DUTY -/,
  ⟨0x40201038, 0x80, 16, 0x0, 1, 0xFFF0FFF, 0x0, 0x0, 0x0, 0x0, 0, 0, 0⟩ /- TH_LIM -/,
  ⟨0x4020103C, 0x80, 16, 0x0, 1, 0xFFFFFFFF, 0x0, 0x0, 0x0, 0x0, 0, 0, 0⟩ /- RISE_CFG -/
  ]

/-- The rows of CAL, spec/09_calibration.md. -/
def regRowsCAL : List RegRow := [
  ⟨0x40220000, 0x0, 1, 0x0, 1, 0x3, 0x10, 0x0, 0x0, 0x0, 0x40220000, 0x0, 0⟩ /- CTL -/,
  ⟨0x40220004, 0x0, 1, 0x0, 1, 0x0, 0x0, 0x0, 0x38, 0x0, 0, 0, 0⟩ /- STATUS -/,
  ⟨0x40220008, 0x0, 1, 0x0, 1, 0x0, 0x0, 0xFFFFFFFF, 0x0, 0x0, 0x40220000, 0x0, 0⟩ /- DT_CFG -/,
  ⟨0x4022000C, 0x0, 1, 0x0, 1, 0x0, 0xF, 0x0, 0x0, 0x0, 0x40220000, 0x0, 0⟩ /- TP_CNT -/,
  ⟨0x40220010, 0x0, 1, 0x0, 1, 0x0, 0xFFFFFFFF, 0x0, 0x0, 0x0, 0x40220000, 0x0, 0⟩ /- TP_01 -/,
  ⟨0x40220014, 0x0, 1, 0x0, 1, 0x0, 0xFFFFFFFF, 0x0, 0x0, 0x0, 0x40220000, 0x0, 0⟩ /- TP_23 -/,
  ⟨0x40220018, 0x0, 1, 0x0, 1, 0x0, 0xFFFFFFFF, 0x0, 0x0, 0x0, 0x40220000, 0x0, 0⟩ /- TP_45 -/,
  ⟨0x4022001C, 0x0, 1, 0x0, 1, 0x0, 0xFFFFFFFF, 0x0, 0x0, 0x0, 0x40220000, 0x0, 0⟩ /- TP_67 -/,
  ⟨0x40220020, 0x0, 1, 0x0, 1, 0x0, 0x0, 0x0, 0x0, 0x0, 0, 0, 0⟩ /- REQ -/,
  ⟨0x40220024, 0x0, 1, 0x0, 1, 0x0, 0x0, 0x0, 0x0, 0x0, 0, 0, 0⟩ /- CUR -/,
  ⟨0x40220028, 0x0, 1, 0x0, 1, 0x1F, 0x0, 0x0, 0x0, 0x0, 0, 0, 0⟩ /- ENC_OK -/,
  ⟨0x40220030, 0x4, 4, 0x0, 1, 0x0, 0x0, 0x0, 0x0, 0x0, 0, 0, 0⟩ /- PEND -/,
  ⟨0x40220040, 0x4, 4, 0x0, 1, 0xFFFFFFFF, 0x0, 0x0, 0x0, 0x0, 0, 0, 0⟩ /- AUTO_MASK -/,
  ⟨0x40220050, 0x0, 1, 0x0, 1, 0x0, 0x0, 0xFFFFFFFF, 0x0, 0x0, 0x40220000, 0x0, 0⟩ /- RAIL_TGT -/,
  ⟨0x40220054, 0x0, 1, 0x0, 1, 0x0, 0x0, 0xFFFF00FF, 0x0, 0x0, 0x40220000, 0x0, 0⟩ /- RAIL_CFG -/,
  ⟨0x40220058, 0x0, 1, 0x0, 1, 0x0, 0x0, 0xFFFFFFFF, 0x0, 0x0, 0x40220000, 0x0, 0⟩ /- RAIL_LIM -/,
  ⟨0x40220060, 0x0, 1, 0x0, 1, 0x0, 0xFFFFFF, 0x0, 0x0, 0x0, 0x40220000, 0x0, 0⟩ /- AMP_DIV -/,
  ⟨0x40220064, 0x0, 1, 0x0, 1, 0x0, 0xFFFF, 0x0, 0x0, 0x0, 0x40220000, 0x0, 0⟩ /- AMP_ISENSE -/,
  ⟨0x40220068, 0x0, 1, 0x0, 1, 0x0, 0x80FFFFFF, 0x0, 0x0, 0x0, 0x40220000, 0x0, 0⟩ /- REF_CFG -/,
  ⟨0x4022006C, 0x0, 1, 0x0, 1, 0x0, 0x0, 0x0, 0x0, 0x0, 0, 0, 0⟩ /- REF_MEAS -/,
  ⟨0x40220070, 0x0, 1, 0x0, 1, 0x0, 0x0, 0xFFFFFFFF, 0x0, 0x0, 0x40220000, 0x0, 0⟩ /- LIM_GAIN -/,
  ⟨0x40220074, 0x0, 1, 0x0, 1, 0x0, 0x0, 0xFFFF, 0x0, 0x0, 0x40220000, 0x0, 0⟩ /- LIM_GAIN2 -/,
  ⟨0x40220078, 0x0, 1, 0x0, 1, 0x0, 0x0, 0xFFFFFFFF, 0x0, 0x0, 0x40220000, 0x0, 0⟩ /- LIM_OFS -/,
  ⟨0x4022007C, 0x0, 1, 0x0, 1, 0x0, 0x0, 0xFFFFFFFF, 0x0, 0x0, 0x40220000, 0x0, 0⟩ /- LIM_FB -/,
  ⟨0x40220080, 0x0, 1, 0x0, 1, 0x0, 0x0, 0xFFFFFFFF, 0x0, 0x0, 0x40220000, 0x0, 0⟩ /- LIM_DL -/,
  ⟨0x40220084, 0x0, 1, 0x0, 1, 0x0, 0x0, 0xFFFFFFFF, 0x0, 0x0, 0x40220000, 0x0, 0⟩ /- LIM_ENC -/,
  ⟨0x40220088, 0x0, 1, 0x0, 1, 0x0, 0x0, 0xFFFFFFFF, 0x0, 0x0, 0x40220000, 0x0, 0⟩ /- LIM_BASE -/,
  ⟨0x4022008C, 0x0, 1, 0x0, 1, 0x0, 0x0, 0xFFFFFFFF, 0x0, 0x0, 0x40220000, 0x0, 0⟩ /- LIM_BASE_AMP -/,
  ⟨0x40220090, 0x0, 1, 0x0, 1, 0x0, 0x0, 0xFFFFFFFF, 0x0, 0x0, 0x40220000, 0x0, 0⟩ /- LIM_BASE_PER -/,
  ⟨0x40220094, 0x0, 1, 0x0, 1, 0x0, 0x0, 0xFFFF, 0x0, 0x0, 0x40220000, 0x0, 0⟩ /- CELL_CFG -/,
  ⟨0x40220098, 0x0, 1, 0x0, 1, 0x0, 0x0, 0xFFFFFFFF, 0x0, 0x0, 0x40220000, 0x0, 0⟩ /- ENC_CFG -/,
  ⟨0x402200A0, 0x0, 1, 0x0, 1, 0x0, 0xFFFFF000, 0x0, 0x0, 0x0, 0x40220000, 0x0, 0⟩ /- POINT_BASE -/,
  ⟨0x402200A4, 0x0, 1, 0x0, 1, 0x0, 0xFFFFF000, 0x0, 0x0, 0x0, 0x40220000, 0x0, 0⟩ /- LIVE_BASE_0 -/,
  ⟨0x402200A8, 0x0, 1, 0x0, 1, 0x0, 0xFFFFF000, 0x0, 0x0, 0x0, 0x40220000, 0x0, 0⟩ /- LIVE_BASE_1 -/,
  ⟨0x402200AC, 0x0, 1, 0x0, 1, 0x0, 0x0, 0x0, 0x0, 0x0, 0, 0, 0⟩ /- LIVE_ACTIVE -/,
  ⟨0x402200B0, 0x0, 1, 0x0, 1, 0x0, 0xFFFFF000, 0x0, 0x0, 0x0, 0x40220000, 0x0, 0⟩ /- REC_BASE -/,
  ⟨0x402200B4, 0x0, 1, 0x0, 1, 0x3, 0x0, 0x0, 0x0, 0x0, 0, 0, 0⟩ /- REC_CTL -/,
  ⟨0x402200B8, 0x0, 1, 0x0, 1, 0xFFFFFFFF, 0x0, 0x0, 0x0, 0x0, 0, 0, 0⟩ /- REC_SEQ -/,
  ⟨0x402200BC, 0x0, 1, 0x0, 1, 0x0, 0x0, 0x0, 0x0, 0x0, 0, 0, 0⟩ /- REC_STAT -/,
  ⟨0x402200C0, 0x0, 1, 0x0, 1, 0x0, 0x0, 0x0, 0x0, 0x0, 0, 0, 0⟩ /- REC_LEN -/
] ++ [
  ⟨0x402200C4, 0x0, 1, 0x0, 1, 0x7F, 0x0, 0x0, 0x0, 0x0, 0, 0, 0⟩ /- VIEW_SEL -/,
  ⟨0x402200D0, 0x0, 1, 0x0, 1, 0x0, 0x0, 0x0, 0x0, 0x0, 0, 0, 0⟩ /- DIE_TEMP_01 -/,
  ⟨0x402200D4, 0x0, 1, 0x0, 1, 0x0, 0x0, 0x0, 0x0, 0x0, 0, 0, 0⟩ /- DIE_TEMP_23 -/,
  ⟨0x402200E0, 0x0, 1, 0x0, 1, 0x0, 0x0, 0x0, 0x0, 0x0, 0, 0, 0⟩ /- RUN_CNT -/,
  ⟨0x402200E4, 0x0, 1, 0x0, 1, 0x0, 0x0, 0x0, 0x0, 0xFFFFFFFF, 0, 0, 0⟩ /- FAIL_CNT -/,
  ⟨0x402200E8, 0x0, 1, 0x0, 1, 0x0, 0x0, 0x0, 0x0, 0xFFFFFFFF, 0, 0, 0⟩ /- DEFER_CNT -/,
  ⟨0x402200EC, 0x0, 1, 0x0, 1, 0x0, 0x0, 0x0, 0x0, 0xFFFFFFFF, 0, 0, 0⟩ /- ABORT_CNT -/,
  ⟨0x40220100, 0x4, 128, 0x0, 1, 0x0, 0x0, 0x0, 0x0, 0x0, 0, 0, 0⟩ /- RES -/,
  ⟨0x40220300, 0x4, 128, 0x0, 1, 0x0, 0x0, 0x0, 0x0, 0x0, 0, 0, 0⟩ /- T_LAST -/,
  ⟨0x40220500, 0x4, 12, 0x0, 1, 0x0, 0x0, 0x0, 0x0, 0x0, 0, 0, 0⟩ /- VIEW -/
  ]

/-- The rows of WEIRMB, spec/10_weir.md. -/
def regRowsWEIRMB : List RegRow := [
  ⟨0x40300000, 0x1000, 2, 0x4, 256, 0xFFFFFFFF, 0x0, 0x0, 0x0, 0x0, 0, 0, 0⟩ /- REQ -/,
  ⟨0x40300400, 0x1000, 2, 0x4, 256, 0x0, 0x0, 0x0, 0x0, 0x0, 0, 0, 0⟩ /- RSP -/,
  ⟨0x40300800, 0x1000, 2, 0x0, 1, 0x0, 0x0, 0x0, 0x0, 0x0, 0, 0, 0⟩ /- DB -/,
  ⟨0x40300804, 0x1000, 2, 0x0, 1, 0x0, 0x0, 0x0, 0x70000000, 0x0, 0, 0, 0⟩ /- CH_STAT -/,
  ⟨0x40300808, 0x1000, 2, 0x0, 1, 0x1, 0x0, 0x0, 0x0, 0x0, 0, 0, 0⟩ /- IRQ_EN -/,
  ⟨0x40302000, 0x0, 1, 0x0, 1, 0x0, 0x0, 0x0, 0x0, 0x0, 0, 0, 0⟩ /- WSTAT -/,
  ⟨0x40302004, 0x0, 1, 0x0, 1, 0x0, 0x0, 0x0, 0x0, 0x0, 0, 0, 0⟩ /- HEARTBEAT -/,
  ⟨0x40302008, 0x0, 1, 0x0, 1, 0x0, 0x0, 0x0, 0x1, 0x0, 0, 0, 0⟩ /- STATUS -/
  ]

end Sys2Proof.Machine
end

