-- ==== Sys2Proof/Machine/Sources.lean ====
section
/-! DEFINITION. The source IDs of the error collector (ID = 16 × group + index): the table of source IDs in
spec/14_management_errors.md, group 1 from R425 and group 2 from spec/15_otp_lifecycle.md. -/

namespace Sys2Proof.Machine

abbrev Src.REG_ACCESS : Nat := 0x00
abbrev Src.ADDR_DECODE : Nat := 0x01
abbrev Src.BLOCK_DISABLED_RUNNING : Nat := 0x02
abbrev Src.WDT_WARN : Nat := 0x03
abbrev Src.WDT_EXPIRED : Nat := 0x04
abbrev Src.MGMT_LOAD : Nat := 0x05
abbrev Src.EVQ_OVF : Nat := 0x06
abbrev Src.JLOG_OVF : Nat := 0x07
abbrev Src.TCM_UE : Nat := 0x08
abbrev Src.SUMP_GUARD : Nat := 0x09
abbrev Src.SUMP_DONE : Nat := 0x0A
abbrev Src.FW_EVENT : Nat := 0x0B
abbrev Src.PMU_XTAL : Nat := 0x10
abbrev Src.PMU_PLL : Nat := 0x11
abbrev Src.PMU_STATE : Nat := 0x12
abbrev Src.PMU_HV_OV : Nat := 0x13
abbrev Src.PMU_HV_UV : Nat := 0x14
abbrev Src.PMU_HV_OC : Nat := 0x15
abbrev Src.PMU_REG : Nat := 0x16
abbrev Src.PMU_PMBUS : Nat := 0x17
abbrev Src.PMU_TAMPER : Nat := 0x18
abbrev Src.PMU_VBAT_LOW : Nat := 0x19
abbrev Src.OTP_MARGIN : Nat := 0x20
abbrev Src.OTP_DIGEST : Nat := 0x21
abbrev Src.OTP_PGM : Nat := 0x22
abbrev Src.OTP_REFUSED : Nat := 0x23
abbrev Src.OTP_FORCED : Nat := 0x24
abbrev Src.OTP_LC : Nat := 0x25
abbrev Src.DMA_DESC : Nat := 0x30
abbrev Src.DMA_BUS : Nat := 0x31
abbrev Src.DMA_MISMATCH : Nat := 0x32
abbrev Src.DMA_POWER_ABORT : Nat := 0x33
abbrev Src.MEM_SRAM_UE : Nat := 0x40
abbrev Src.MEM_SRAM_CE : Nat := 0x41
abbrev Src.MEM_COLL : Nat := 0x42
abbrev Src.MEM_OFFLINE : Nat := 0x43
abbrev Src.MEM_MARCH_FAIL : Nat := 0x44
abbrev Src.MEM_CFG : Nat := 0x45
abbrev Src.DRAM_UE : Nat := 0x46
abbrev Src.DRAM_TRAIN : Nat := 0x47
abbrev Src.HOST_RING : Nat := 0x50
abbrev Src.HOST_JOB : Nat := 0x51
abbrev Src.HOST_FWD : Nat := 0x52
abbrev Src.HOST_STREAM : Nat := 0x53
abbrev Src.HOST_CULVERT : Nat := 0x54
abbrev Src.HOST_LINK_DOWN : Nat := 0x55
abbrev Src.HOST_FLR : Nat := 0x56
abbrev Src.HOST_CFG : Nat := 0x57
abbrev Src.FAB_LINK_DOWN : Nat := 0x60
abbrev Src.FAB_PKT : Nat := 0x61
abbrev Src.FAB_ROUTE : Nat := 0x62
abbrev Src.FAB_UNREACH : Nat := 0x63
abbrev Src.FAB_TMO : Nat := 0x64
abbrev Src.FAB_TIME_STEP : Nat := 0x65
abbrev Src.FAB_TIME_LOST : Nat := 0x66
abbrev Src.FAB_TIDE_SRC : Nat := 0x67
abbrev Src.FAB_CFG : Nat := 0x68
abbrev Src.CMP_STALL : Nat := 0x70
abbrev Src.CMP_FETCH : Nat := 0x71
abbrev Src.CMP_PROG : Nat := 0x72
abbrev Src.CMP_COMP_OVF : Nat := 0x73
abbrev Src.CMP_CFG : Nat := 0x74
abbrev Src.LQ_UNDERRUN : Nat := 0x80
abbrev Src.LQ_STARVED : Nat := 0x81
abbrev Src.LQ_SEQ : Nat := 0x82
abbrev Src.LQ_SPILL_ERR : Nat := 0x83
abbrev Src.LQ_FLUSH_FORCED : Nat := 0x84
abbrev Src.QPTR_MISMATCH : Nat := 0x85
abbrev Src.LQ_CFG : Nat := 0x86
abbrev Src.HPT_XFER_LATE : Nat := 0x90
abbrev Src.HPT_FP : Nat := 0x91
abbrev Src.HPT_CFG : Nat := 0x92
abbrev Src.HPT_PRESENCE : Nat := 0x93
abbrev Src.HPT_LANE : Nat := 0x94
abbrev Src.WFE_REFUSED : Nat := 0xA0
abbrev Src.WFE_SLOT_LIMIT : Nat := 0xA1
abbrev Src.WFE_PROG : Nat := 0xA2
abbrev Src.WFE_SHORT : Nat := 0xA3
abbrev Src.WFE_AMP_FLT : Nat := 0xA4
abbrev Src.WFE_OPEN : Nat := 0xA5
abbrev Src.WFE_TRACK : Nat := 0xA6
abbrev Src.WFE_TAKEOVER : Nat := 0xA7
abbrev Src.HEAD_DOWN : Nat := 0xA8
abbrev Src.WFE_SENSE_LOST : Nat := 0xA9
abbrev Src.WFE_STB : Nat := 0xAA
abbrev Src.FIRE_PRED_LOST : Nat := 0xB0
abbrev Src.FIRE_OVERSPEED : Nat := 0xB1
abbrev Src.FIRE_ROW_REFUSED : Nat := 0xB2
abbrev Src.FIRE_CFG : Nat := 0xB3
abbrev Src.FIRE_LATE : Nat := 0xB4
abbrev Src.POS_REVERSE : Nat := 0xB5
abbrev Src.POS_SKIP : Nat := 0xC0
abbrev Src.POS_HALL_SEQ : Nat := 0xC1
abbrev Src.POS_HALL_INVALID : Nat := 0xC2
abbrev Src.POS_SER : Nat := 0xC3
abbrev Src.POS_WIRE : Nat := 0xC4
abbrev Src.POS_IDX_DRIFT : Nat := 0xC5
abbrev Src.POS_AXIS_LOST : Nat := 0xC6
abbrev Src.POS_CFG : Nat := 0xC7
abbrev Src.NH_DEAD : Nat := 0xD0
abbrev Src.NH_CLASS : Nat := 0xD1
abbrev Src.NH_TH_OPEN : Nat := 0xD2
abbrev Src.NH_TH_SHORT : Nat := 0xD3
abbrev Src.NH_OVERTEMP : Nat := 0xD4
abbrev Src.NH_NO_RISE : Nat := 0xD5
abbrev Src.NH_HTR_FAULT : Nat := 0xD6
abbrev Src.NH_PUB_OVF : Nat := 0xD7
abbrev Src.NH_CFG : Nat := 0xD8
abbrev Src.CAL_DEFER : Nat := 0xE0
abbrev Src.CAL_ABORT : Nat := 0xE1
abbrev Src.CAL_LIMIT : Nat := 0xE2
abbrev Src.CAL_REF : Nat := 0xE3
abbrev Src.CAL_IMPORT : Nat := 0xE4

end Sys2Proof.Machine
end

