-- ==== Sys2Proof/Machine/Blocks.lean ====
section
/-! DEFINITION. The types of the state that the spec gives the block beside its registers: queues, buffers, sequencer
state and what the engines remember. Every field is plain data. The docstrings name the rule of spec/ behind a field. -/

namespace Sys2Proof.Machine

/-! Jobs and the management block -/

/-- The states of a job that is not complete (06_fire_timing.md, Jobs). -/
inductive JobState where
  | queued
  | armed
  | running
  /-- Past its last fire line while the next job runs; it completes once its slots have ended (R153). -/
  | ending
  deriving DecidableEq, Repr, Inhabited

/-- A job of this node from its arrival to its completion (R331-R333, R48, R150-R154). -/
structure Job where
  /-- Order of arrival: the job order of R62. -/
  seq : Nat := 0
  /-- The 16-word descriptor. -/
  words : List Word := []
  st : JobState := .queued
  /-- The program has passed its check (R48). -/
  checked : Bool := false
  /-- The layer program as read once (R50). -/
  prog : List Word := []
  /-- The layer table as read once. -/
  ltbl : List Word := []
  /-- The compositor has emitted the last line of the job, or has abandoned it. -/
  composed : Bool := false
  /-- The LATE flag (R154). -/
  late : Bool := false
  /-- Job lines skipped (R154). -/
  missed : Nat := 0
  /-- Fire-line boundaries passed, tail excluded. -/
  fired : Nat := 0
  /-- The boundary of its last fire line has passed. -/
  last : Bool := false
  /-- Fabric time of the first fire-line boundary, 0 if none. -/
  tStart : Nat := 0
  deriving DecidableEq, Repr, Inhabited

/-- An entry of the error event queue (R384). -/
structure EvqEntry where
  w0 : Word := 0#32
  w1 : Word := 0#32
  w2 : Word := 0#32
  w3 : Word := 0#32
  deriving DecidableEq, Repr, Inhabited

/-- What the management core is doing (R380, R381, R386, R388, R412). -/
inductive CoreState where
  /-- In the boot ROM, before an image is entered. -/
  | rom
  /-- Firmware runs. -/
  | running
  /-- Firmware waits in WFI. -/
  | wfi
  /-- The boot ROM waits in WFI, without an image (R388). -/
  | noImage
  /-- Held in reset (R386 step 4, or before boot step 5). -/
  | held
  deriving DecidableEq, Repr, Inhabited

/-- A line of the core's data cache (R374): its core address, its 32 bytes, and whether it is dirty. -/
structure CacheLine where
  addr : Nat := 0
  dirty : Bool := false
  bytes : List Byte := []
  deriving DecidableEq, Repr, Inhabited

/-- State of SYS and ERR beside their registers. -/
structure SysState where
  core : CoreState := .held
  /-- Words 0 and 1 of each logged descriptor, oldest first, at most 16 (R378). -/
  jlog : List (Word × Word) := []
  /-- JLOG_OVF has been reported and JLOG_LOST not read since (R378). -/
  jlogOvf : Bool := false
  /-- NMIs are enabled (R377). -/
  nmiOn : Bool := true
  /-- The error event queue, oldest first, at most 64 (R384). -/
  evq : List EvqEntry := []
  /-- Sources whose record is valid, ascending (R383). -/
  recs : List Nat := []
  /-- Sources whose record asserts a node stop, ascending (R385). -/
  stops : List Nat := []
  /-- Lowest value MTIME may show: the held value of a backward step (R376). -/
  mtimeFloor : Nat := 0
  /-- Times that the 48-bit fabric time has wrapped forward, less those that a step took it back: MTIME counts on (R376). -/
  wraps : Int := 0
  /-- The core's last access ended in an access fault (R373). -/
  coreFault : Bool := false
  /-- SEQ of the sump dump, of which SUMP_STAT shows the low half (R386). -/
  sumpSeq : Nat := 0
  /-- The ROM waits after a management-core-only reset until these DMA channels are no longer STOPPING (R381). -/
  romFor : Option (List Nat) := none
  /-- The image check that the ROM runs for a GO, with its length: from the host (R405), else from the fabric (R322). -/
  romCheck : Option (Bool × Nat) := none
  /-- The machine timer interrupt is pending (R376). -/
  mtip : Bool := false
  /-- The data cache: 512 lines at most. -/
  cache : List CacheLine := []
  /-- The record words as they stood at step 1 of the fatal path (R386 step 2). -/
  sumpRecs : List Word := []
  /-- RST_CAUSE as at step 1 of the fatal path (sump word 2). -/
  sumpCause : Word := 0#32
  /-- The watchdog has passed half its timeout since the last kick. -/
  wdtHalf : Bool := false
  /-- Tick at which the running watchdog expires, and the ticks it has left while it is paused (R380). -/
  wdtEnd : Nat := 0
  wdtLeft : Nat := 0
  /-- Firmware ran at step 1 of the fatal path, and step 4 has been taken (R386). -/
  sumpFw : Bool := false
  sumpEnded : Bool := false
  /-- The images that QSPI flash holds at the primary and the second offset (R405). -/
  flash : List (List Byte) := []
  deriving DecidableEq, Repr, Inhabited

/-! Power management -/

/-- A PMBus transfer as START took it: device, KIND and CMD, and the result and the data that the bus gives (R423). -/
structure PmbJob where
  dev : Nat
  kind : Nat
  cmd : Nat
  err : Nat
  data : Nat
  deriving DecidableEq, Repr, Inhabited

/-- State of PMU beside its registers. -/
structure PmuState where
  /-- RTC count at tick rtcFrom; it runs on from there while X32_OK is set. -/
  rtcBase : Nat := 0
  rtcFrom : Nat := 0
  /-- Blocks whose enable waits for its PLL (R408): 0 CMP, 1 FIRE, 2 LQ, 3 HPT, 4 WFE, 5 DMA, 6 POS, 7 MEMC, 8 DRAMC,
  9 FAB. -/
  waiting : List Nat := []
  /-- PLLs that have been started (R408): 0 SYS, 1 CORE, 2 TIME, 3 DDR, 4 SER. -/
  pllRun : List Nat := [0, 1, 2]
  /-- Target of the transition in progress: 1 STILL, 2 LOW, 3 DRY; 0 none (R414). -/
  goal : Nat := 0
  /-- Every domain is off: 1 internal reset is held, 2 DRY (R417, R429, R454). -/
  off : Nat := 0
  /-- RST_CAUSE bit of the next release of internal reset: 0 POR, 4 DRY_WAKE. -/
  why : Nat := 0
  /-- PWR_EN is driven high (R414, R417). -/
  pwrEn : Bool := true
  /-- The PCIe link is in L1 (R413). -/
  l1 : Bool := false
  /-- TEST_EN reads high (R454). -/
  test : Bool := false
  /-- The tamper latch has set in DRY and is reported at the next FLOW (R418). -/
  tamperDue : Bool := false
  /-- Supplies below their trip level: the bits of TripEnv.low (R429, R430). -/
  low : Nat := 0
  /-- The device whose poll is in progress (R422). -/
  pmb : Option Nat := none
  /-- The transfer that waits for that poll (R423). -/
  pmbWait : Option PmbJob := none
  /-- The device of the transfer on the bus (R423). -/
  pmbDev : Nat := 0
  /-- What the PMBus host has sent: device address, command, data bytes, with PEC when it is on. -/
  pmbOut : List (Nat × (Nat × List Byte)) := []
  deriving DecidableEq, Repr, Inhabited

/-! Table swaps -/

/-- The swaps requested by one write of SYS.TBL_SWAP (R18-R25). Masks have CAL in bit 3, RAIL 2, COMP 1, HEALTH 0. -/
structure Swap where
  mask : Nat := 0
  /-- Tables of the write that have not swapped yet. -/
  left : Nat := 0
  /-- Line L, 0 when CAL is requested alone. -/
  lineL : Nat := 0
  /-- Tag of line L (job sequence and job line) once it is composed. -/
  tag : Option (Nat × Nat) := none
  /-- F, set when CAL swaps. -/
  lineF : Nat := 0
  deriving DecidableEq, Repr, Inhabited

/-! Host interface -/

/-- A posted write of the PCIe port: address and bytes (R329, R330, R341). -/
structure HostWrite where
  addr : Nat := 0
  bytes : List Byte := []
  deriving DecidableEq, Repr, Inhabited

/-- Moderation state of the completion ring or the tailrace (R340): weight and presence of uncovered entries. -/
structure Cover where
  weight : Nat := 0
  entries : Nat := 0
  deriving DecidableEq, Repr, Inhabited

/-- What a stream context remembers (R335-R337). -/
structure StreamCtx where
  /-- Next line number c of the job's stream. -/
  line : Nat := 0
  /-- JOB_ID of the stream in progress, none before a FIRST entry. -/
  job : Option Nat := none
  /-- Words 6-9 of the FIRST entry. -/
  dst : List Word := []
  /-- The entry in hand, not yet consumed, whether its FIRST has begun, and the lines already moved. -/
  entry : List Word := []
  begun : Bool := false
  moved : Nat := 0
  /-- Views of the target's SCONS_k and SJOB_k, for a target other than the root. -/
  viewCons : Nat := 0
  viewJob : Word := 0#32
  /-- What the outstanding requests of the context are: 1 a line's writes, 2 the write of SDELIV_k, 3 a read of the
  mirrors. -/
  phase : Nat := 0
  /-- Halted after a failed read or write. -/
  halted : Bool := false
  /-- The entry in hand was fetched before CTL.EN was last set: it is finished, and not counted in the new ring. -/
  old : Bool := false
  deriving DecidableEq, Repr, Inhabited

/-- A job that the root has parsed and that has not completed (R332, R340). A job that the parser rejects is held until
its completion is written, but not counted. -/
structure OpenJob where
  node : Nat := 0
  id : Nat := 0
  irq : Bool := false
  counted : Bool := true
  deriving DecidableEq, Repr, Inhabited

/-- A BAR 2 read from another node in progress (R343, R344): the aperture, the byte offset and length within the words
asked for, the TAGs of its requests in order, and the answers. -/
structure CulvRead where
  aperture : Nat := 0
  node : Nat := 0
  skip : Nat := 0
  len : Nat := 0
  tags : List Nat := []
  got : List (Nat × List Word) := []
  bad : Option Nat := none
  deriving DecidableEq, Repr, Inhabited

/-- A BAR 2 write to another node whose responses are outstanding (R343, R344): the aperture, the node, the TAGs without
a response, and the first status other than OK. -/
structure CulvWrite where
  aperture : Nat := 0
  node : Nat := 0
  tags : List Nat := []
  bad : Option Nat := none
  deriving DecidableEq, Repr, Inhabited

/-- A BAR 2 read that waits for the BAR 2 writes before it (R344): aperture, node, local address, length, and the TAGs of
those writes. -/
structure CulvWait where
  aperture : Nat := 0
  node : Nat := 0
  addr : Nat := 0
  len : Nat := 0
  behind : List Nat := []
  deriving DecidableEq, Repr, Inhabited

/-- State of HOSTIF beside its registers. -/
structure HostState where
  /-- Completion records waiting for the ring (root, at most 64) or for the root's CPL_IN (other nodes). -/
  cplBuf : List (List Word) := []
  /-- Events waiting for the tailrace (64 on the root) or for the root's EVT_IN (16 on other nodes). -/
  evtBuf : List (List Word) := []
  openJobs : List OpenJob := []
  /-- Jobs, node and JOB_ID, whose completion has passed the root since their descriptor was parsed (R336). -/
  passed : List (Nat × Nat) := []
  /-- After a function level reset or a link loss, until CTL.EN is set again (R345). -/
  lost : Bool := false
  /-- The next event entry written carries OVF (R338). -/
  ovf : Bool := false
  cplCover : Cover := {}
  evtCover : Cover := {}
  /-- What the port has written to host memory, oldest first. -/
  posted : List HostWrite := []
  /-- The descriptor that the parser holds while it waits (R332, R333). -/
  parser : Option (List Word) := none
  /-- The parser fetched it before CTL.EN was last set: it is not counted in the new ring. -/
  parserOld : Bool := false
  /-- Descriptor forwards that await their response, TAG and words (R333). -/
  forwards : List (Nat × List Word) := []
  /-- Stream contexts with a number, sparse, ascending. -/
  ctx : List (Nat × StreamCtx) := []
  culvRead : Option CulvRead := none
  /-- BAR 2 writes in flight, and BAR 2 reads that wait, oldest first. -/
  culvWr : List CulvWrite := []
  culvWait : List CulvWait := []
  /-- Bytes returned by the last culvert read. -/
  culvData : List Byte := []
  deriving DecidableEq, Repr, Inhabited

/-! Compositor -/

/-- State of the compositor beside its registers. -/
structure CmpState where
  /-- Sequence number of the job being composed (R48). -/
  job : Option Nat := none
  /-- The job is abandoned at the next compose-line boundary (R462). -/
  abandon : Bool := false
  /-- Index of the next op of the line in progress. -/
  op : Nat := 0
  /-- Number of the line in progress, for the undefined buffer contents of R43. -/
  lineSeq : Nat := 0
  /-- LB_0-LB_3, per buffer and head the codes of positions 0 … NNZ − 1; an empty list is not written yet (R43). -/
  lb : List (List (List Code)) := []
  /-- The dead list of the line in progress, ascending (R54). -/
  dead : List Nat := []
  /-- The kill mask as the ascending list of nozzles whose bit is set. -/
  kill : List Nat := []
  /-- The line in progress has been counted as stalled (R41). -/
  stalled : Bool := false
  /-- Head lines that EMIT has still to push (R46). -/
  emit : List (Nat × List Code) := []
  /-- What CMP.LOAD shows once the line that EMIT writes is complete: its stall and its cycles (R47). -/
  load : Nat := 0
  /-- The job of the line in progress when it has completed before its last line (R462): the line is still finished. -/
  hold : Option Job := none
  deriving DecidableEq, Repr, Inhabited

/-! Line queues -/

/-- A line with its tag (R62). A line lost to a spill error is delivered blank (R73). -/
structure QLine where
  seq : Nat := 0
  job : Nat := 0
  y : Nat := 0
  codes : List Code := []
  bad : Bool := false
  deriving DecidableEq, Repr, Inhabited

/-- A line queue beside its registers (R59-R74). A move, spill or refill in flight changes the sections at its
completion. -/
structure Queue where
  tail : List QLine := []
  /-- The landing buffer (R67). -/
  landing : Option QLine := none
  /-- Lines in the spillway, oldest first, with their slots; the codes lie in DRAM (R61). -/
  spill : List (QLine × Nat) := []
  head : List QLine := []
  /-- Next spillway slot to write. -/
  slot : Nat := 0
  /-- Beats of a flushed partial line that EMIT has still to write and the queue drops (R71). -/
  drop : Nat := 0
  /-- A stop has abandoned a line of which part may stand in the queue: the flush of the stop discards it (R51, R71). -/
  part : Bool := false
  /-- Beats of that abandoned line that an earlier flush has counted already (R71). -/
  cut : Nat := 0
  /-- A tail-to-head move, a spill and a refill in flight (R60). -/
  moving : Bool := false
  spilling : Bool := false
  refilling : Bool := false
  /-- The waiting value of CAP has been refused, and reported (R64). -/
  refused : Bool := false
  /-- Consecutive underrun blank lines of the run (R70). -/
  run : Nat := 0
  /-- LQ_STARVED has been reported for the run. -/
  starved : Bool := false
  deriving DecidableEq, Repr, Inhabited

/-! Head ports -/

/-- A LOOP of a lane list in progress (R87, R88): its body, the passes still to come and the pass number. -/
structure LaneLoop where
  first : Nat := 0
  count : Nat := 0
  left : Nat := 0
  pass : Nat := 0
  adv : Int := 0
  deriving DecidableEq, Repr, Inhabited

/-- One lane of a frame: the next instruction, what has been sent, and the bits the CRC covers (R87). -/
structure Lane where
  pc : Nat := 0
  loop : Option LaneLoop := none
  bits : List Bool := []
  covered : List Bool := []
  done : Bool := false
  deriving DecidableEq, Repr, Inhabited

/-- A transfer: its fire line, the codes after skew, the codes sent (R84), drops per row, the sensed position, and its
frame. -/
structure Xfer where
  seq : Nat := 0
  y : Nat := 0
  /-- Words of LAT, ROWS, ROWPERM and ROW_DLY_0-7 that the transfer uses (R149). -/
  cfg : List Word := []
  raw : List Code := []
  codes : List Code := []
  /-- Drops of sizes 1, 2 and 3 of each row. -/
  drops : List (Nat × (Nat × Nat)) := []
  /-- Sensed position and its drop size, none when no sense is made. -/
  sense : Option (Nat × Nat) := none
  /-- The framing program that frames the transfer. -/
  prog : List Word := []
  lanes : List Lane := []
  /-- The last bit has left the lanes (R78), and the fabric time at which it did. -/
  complete : Bool := false
  doneAt : Nat := 0
  deriving DecidableEq, Repr, Inhabited

/-- A head port beside its registers (R75-R101). -/
structure Port where
  /-- The active framing program, and a checked one that waits for a job start (R89). -/
  prog : List Word := []
  pend : List Word := []
  /-- The program being checked and whether a read of it failed. -/
  loading : Option (List Word × Bool) := none
  /-- The enable checks run (R92). -/
  enabling : Bool := false
  /-- Two consecutive presence readings decide (R94): the last one differed. -/
  prsDiff : Bool := false
  /-- Causes that hold the port down, and those of them that have ended, bit c = cause c (R101). -/
  causes : Nat := 0
  ended : Nat := 0
  /-- The port acts as down since a fire-line boundary (R100). -/
  acting : Bool := false
  /-- DOWN_CLR has been written and not used up. -/
  clrReq : Bool := false
  /-- The pop window is open (R77). -/
  window : Bool := false
  xfer : Option Xfer := none
  /-- What the head holds: the transfer of the last LAT. -/
  latched : Option Xfer := none
  latUp : Bool := false
  /-- Start and end of the last line latch, ticks (R118). -/
  latAt : Option (Nat × Nat) := none
  /-- Lines that entered the skew store since it was last empty (R83), and the last of them: its job, and its job line
  counted from line 0 of that job, below 0 for a line of the job before it. -/
  skewN : Nat := 0
  lastTag : Option (Nat × Int) := none
  /-- Job whose values are active, and the values and program taken for the next job's first transfer (R149). -/
  jobSeq : Option Nat := none
  snap : Option (Nat × List Word) := none
  snapProg : List Word := []
  /-- The program taken was a pending one; FP_PEND stays set until it becomes active (R89). -/
  snapPend : Bool := false
  /-- The port is in a run of late lines (R79). -/
  lateRun : Bool := false
  /-- The ID-bus transaction in progress: device address, bytes to write, bytes to read (R95). -/
  i2cNow : Option (Nat × (List Byte × Nat)) := none
  /-- Bytes written on the ID bus, with the device address, oldest first (R95). -/
  i2cSent : List (Nat × List Byte) := []
  deriving DecidableEq, Repr, Inhabited

/-! Waveform engine -/

/-- Where a channel stands in its enable and disable sequences (R122, R123). -/
inductive ChanPhase where
  /-- DAC at code 0, amplifier off. -/
  | off
  /-- In the enable sequence of R122. -/
  | enabling
  /-- Enabled and READY. -/
  | on
  /-- EN is cleared and a slot still plays. -/
  | ending
  /-- Ramping down (R123). -/
  | rampDown
  deriving DecidableEq, Repr, Inhabited

/-- A slot in progress on a channel (R104-R110). -/
structure Slot where
  /-- Tick of the slot start. -/
  start : Nat := 0
  line : Nat := 0
  seq : Nat := 0
  y : Nat := 0
  /-- Rows served, bit r = row r; the lowest is the row of ROW_EQ. -/
  rows : Nat := 0
  /-- Rail whose program plays: 0 A, 1 B, 2 S. -/
  rail : Nat := 0
  /-- S's first takeover slot (R128). -/
  first : Bool := false
  /-- Sensed position and drop size of an S slot, and whether the sense is void (R121). -/
  sense : Option (Nat × Nat) := none
  void : Bool := false
  pc : Nat := 0
  acc : Int := 0
  /-- Samples played. -/
  idx : Nat := 0
  /-- Zero-time instructions since the last sample (R109). -/
  zeros : Nat := 0
  rest : Int := 0
  gain : Nat := 0x8000
  offset : Int := 0
  /-- VFB_GAIN and VFB_ZERO that the slot uses (R114, R236). -/
  vgain : Nat := 0x8000
  vzero : Int := 0
  /-- IFB_GAIN and IFB_ZERO that the slot uses (R114, R236). -/
  igain : Nat := 0x8000
  izero : Nat := 8192
  /-- p of R113 at samples 0, 8, 16 …, oldest first. -/
  ideal : List Int := []
  /-- SENSE intervals, first sample and end. -/
  mute : List (Nat × Nat) := []
  /-- Intervals of samples for which AMP_EN_n is driven high: the SENSEs of a named nozzle (R120). -/
  floats : List (Nat × Nat) := []
  /-- DAC codes of the samples, oldest first. -/
  codes : List Nat := []
  /-- Nozzles with a nonzero drop size that the transfer places on the rail (R125). -/
  load : Nat := 0
  /-- A stop cuts the slot at FIRE.CFG.MIN_PERIOD (R133). -/
  cut : Bool := false
  deriving DecidableEq, Repr, Inhabited

/-- A waveform channel beside its registers. -/
structure Chan where
  phase : ChanPhase := .off
  /-- AMP_EN_n is low. -/
  ampOn : Bool := false
  /-- DAC code between slots. -/
  dac : Nat := 0
  slot : Option Slot := none
  /-- DAC codes of the last slot that ended, oldest first. -/
  played : List Nat := []
  /-- PROG_PTR of the last slot of the own program (R111). -/
  ptr : Option Nat := none
  /-- Active correction table, entries not listed are 0, the updated one, and the entries that the inactive table holds
  while it has no update (R115, R116). -/
  corr : List Int := []
  next : Option (List Int) := none
  spare : List Int := []
  /-- Failing ramps in a row (R125). -/
  fails : Nat := 0
  /-- Rail whose copy S plays: none plays its own program, or the copy is due at the next slot start (R126). -/
  copy : Option Nat := none
  /-- A PD_RESET zeroes both tables before the next slot plays (R116). -/
  pdClear : Bool := false
  /-- The channel's two converters exchange roles: ADC_SWAP as taken at the last slot start (R114, R236). -/
  swapped : Bool := false
  /-- Fabric time up to which a SENSE suspends the short, open and tracking checks (R120). -/
  quiet : Option Nat := none
  /-- Intervals for which AMP_EN_n was high in the last slot that ended, first sample and end. -/
  floated : List (Nat × Nat) := []
  /-- A calibration run holds the channel (R238). -/
  cal : Bool := false
  deriving DecidableEq, Repr, Inhabited

/-- The rail state of a head beside HEAD_STAT (R126-R128). -/
structure WaveHead where
  /-- Fire-line boundaries the head took part in since the last change. -/
  seen : Nat := 0
  /-- Rail whose copy S still serves after a change to NONE. -/
  serving : Option Nat := none
  /-- Line of S's first takeover slot, and whether the next line taking part is that line. -/
  takeLine : Option Nat := none
  takeNext : Bool := false
  /-- DL_SEL and DLY_FRAC that the head's delay path applies, those of its last slot start (R230). -/
  dlSel : Nat := 0
  dlyFrac : Nat := 0x8000
  /-- Window strobes sent, start tick and width in ticks, oldest first (R117). -/
  strobes : List (Nat × Nat) := []
  deriving DecidableEq, Repr, Inhabited

/-! Nozzle sensing -/

/-- Words of the class-B registers of nozzle sensing that the result of a sense uses (R223). -/
structure SenseCfg where
  cls : Word := 0#32
  cls2 : Word := 0#32
  ds : Word := 0#32
  base : Word := 0#32
  deriving DecidableEq, Repr, Inhabited

/-- A named sense that is outstanding (R203, R205): the position, whether it was a scan naming, and the number of its own
fire line. -/
structure Sense where
  pos : Nat := 0
  scan : Bool := false
  no : Nat := 0
  /-- Those of the boundary of its own line, from then on. -/
  cfg : SenseCfg := {}
  /-- The nozzle carried only code 0x0 in the head's 4 transfers before this one (R244). -/
  atRest : Bool := false
  deriving DecidableEq, Repr, Inhabited

/-- Samples that SENSE has handed on (R120). -/
structure Samples where
  pos : Nat := 0
  ds : Nat := 0
  /-- FIRE.LINE_CNT of the sensed line. -/
  line : Nat := 0
  start : Nat := 0
  vfb : List Nat := []
  scan : Bool := false
  /-- The nozzle carried only code 0x0 in the head's 4 transfers before the sensed one (R244). -/
  atRest : Bool := false
  cfg : SenseCfg := {}
  deriving DecidableEq, Repr, Inhabited

/-- Nozzle sensing and heater of one head beside the registers. -/
structure NhHead where
  retry : Option Nat := none
  /-- The suspect list, oldest first, at most 8 (R206). -/
  suspects : List Nat := []
  /-- Suspects of the list up to and with the one named last, and whether the previous naming was a suspect (R203). -/
  passed : Nat := 0
  wasSuspect : Bool := false
  /-- Fire-line boundaries so far, which number the lines of R205. -/
  lineNo : Nat := 0
  /-- Scan steps of the pass in progress (R204). -/
  steps : Nat := 0
  out : List Sense := []
  results : List Samples := []
  /-- Codes of the head's last 4 transfers, newest first (R244). -/
  past : List (List Code) := []
  /-- The integrator in 1/65,536 of a duty step (R197). -/
  integ : Nat := 0
  /-- Consecutive measurements at or beyond the open limit, the short limit, and inside both (R195). -/
  opens : Nat := 0
  shorts : Nat := 0
  good : Nat := 0
  /-- An episode of an open thermistor, of a shorted one, is in progress. -/
  isOpen : Bool := false
  isShort : Bool := false
  /-- Off since OVERTEMP (R198). -/
  hot : Bool := false
  /-- Temperature at the start of the run at DUTY_MAX (R199). -/
  runT : Option Int := none
  /-- The HTR-role pin is at high impedance after a readback mismatch (R200). -/
  hiZ : Bool := false
  deriving DecidableEq, Repr, Inhabited

/-- State of the NH block beside its registers and heads. -/
structure NhState where
  /-- A publish trigger is waiting (R216). -/
  pubWait : Bool := false
  /-- A publish has begun whose HEALTH swap is not over (R217). -/
  pubSwap : Bool := false
  /-- DEAD nozzles declared after their entry was published, held for the swap (R217), at most 128. -/
  held : List Nat := []
  /-- Beyond 128: their kill bit is set again one cycle after the swap, and those whose swap has just passed. -/
  late : List Nat := []
  due : List Nat := []
  deriving DecidableEq, Repr, Inhabited

/-! Calibration -/

/-- A run on the measurement lane (R232). -/
structure MeasRun where
  elem : Nat := 0
  /-- T_run, 1/16 °C, 16 bits. -/
  tRun : Nat := 0
  /-- A channel run holds its channel: the takeover has settled (R237). -/
  holds : Bool := false
  /-- Encoder run: edge times in ticks and unwrapped counts of the window, oldest first (R242). -/
  edges : List (Nat × Int) := []
  /-- Encoder run: direction of the last step, +1 or -1. -/
  dir : Int := 0
  deriving DecidableEq, Repr, Inhabited

/-- Samples that a baseline run has collected for a position (R245). -/
structure BaseAcc where
  pos : Nat := 0
  n : Nat := 0
  amp : Nat := 0
  per : Nat := 0
  deriving DecidableEq, Repr, Inhabited

/-- A baseline run on the head lane (R244-R246). -/
structure BaseRun where
  head : Nat := 0
  tRun : Nat := 0
  /-- SCAN.PASSES of the head at the start of the run. -/
  passes : Nat := 0
  acc : List BaseAcc := []
  /-- Positions written or kept, ascending, and whether an old entry was kept. -/
  done : List Nat := []
  kept : Bool := false
  deriving DecidableEq, Repr, Inhabited

/-- State of CAL beside its registers (R224-R256). -/
structure CalState where
  meas : Option MeasRun := none
  /-- ID that the measurement lane last started. -/
  last : Option Nat := none
  /-- Elements that wait out RETRY_TMO, ascending (R233). -/
  retry : List Nat := []
  /-- Baseline entries that wait for an export to end: address and word (R252). -/
  waiting : List (Nat × Word) := []
  /-- Elements whose deferral has been reported in the present pending episode (R249). -/
  deferred : List Nat := []
  /-- Elements that have completed a run since CTL.EN was set (R231). -/
  done : List Nat := []
  base : List BaseRun := []
  /-- A rebuild waits or is due (R229). -/
  rebuild : Bool := false
  /-- A stop has taken effect during a channel run, whose abort has not been recorded yet (R240). -/
  stopDue : Bool := false
  deriving DecidableEq, Repr, Inhabited

/-! Fuses -/

/-- An OTP command in progress (R397, R401). -/
inductive OtpCmd where
  /-- A PGM command: word and data as at GO. -/
  | program (word : Nat) (data : Nat)
  /-- A finalise of a region, and whether FORCE = 1 let an unwritten mandatory slot pass. -/
  | finalise (region : Nat) (forced : Bool)
  /-- A life-cycle transition to a state, with what its fuse pulses and the reset after it meet (R404). -/
  | transition (target : Nat) (env : ResetEnv)
  deriving DecidableEq, Repr, Inhabited

/-- A lock in progress (R402): the value written, the results of the lock fuses' pulses, and those of the bits that a PGM
command on the region has programmed by then. -/
structure OtpLock where
  v : Nat := 0
  burn : List (Nat × Nat) := []
  sofar : List (Nat × Nat) := []
  deriving DecidableEq, Repr, Inhabited

/-- State of OTP beside its registers. -/
structure OtpState where
  /-- Programmed cells, ascending: cell 2i is copy A of logical bit i and 2i + 1 copy B; 1 = reads 1 at normal margin
  only, 2 = at the tight margin too. A cell that is not listed is blank (R390, R393). -/
  cells : List (Nat × Nat) := []
  /-- Words 102-188 as the last sensing gave them to the Weir, not 0 (R392). -/
  sealed : List (Nat × Word) := []
  /-- WEIR_CFG or WEIR_KEY failed its check at the last sensing (R269, R394). -/
  weirBad : Bool := false
  /-- Every root key slot is treated as revoked (restrictive defaults). -/
  keysOff : Bool := false
  cmd : Option OtpCmd := none
  lock : Option OtpLock := none
  deriving DecidableEq, Repr, Inhabited

/-! The Weir -/

/-- An event record that the cistern holds (R280): LOG_CNT after the event, and the words. -/
structure WeirEvent where
  cnt : Nat := 0
  words : List Word := []
  deriving DecidableEq, Repr, Inhabited

/-- What the cistern keeps while VDD_WEIR or VBAT is present (R259). Lengths are in 1/65,536 µm, volumes in 1/256 pL. -/
structure Cistern where
  rseq : Nat := 1
  /-- The last audit count. -/
  logCnt : Nat := 0
  /-- Weir operating time in ticks of 0.625 ns up to the last start. -/
  opTicks : Nat := 0
  lenTotal : Nat := 0
  lenPrint : Nat := 0
  lenRev : Nat := 0
  uncertLen : Nat := 0
  uncertDrops : Nat := 0
  /-- DROPS(h, s), entry 3h + s − 1, and the part of them already converted (R263). -/
  drops : List Nat := []
  done : List Nat := []
  vol : List Nat := []
  tapWords : Nat := 0
  tapErr : Nat := 0
  wxSkip : Nat := 0
  /-- Event latches not handled yet. -/
  contLost : Bool := false
  tapGap : Bool := false
  breach : Bool := false
  /-- FLAGS.CONT_LOST and FLAGS.TAP_GAP: set until the next SET_PARAMS or SEAL. -/
  contFlag : Bool := false
  gapFlag : Bool := false
  /-- Since the previous totals record: WX_LOST, WX_DRIFT, WX_SKIP, TAP_ERR, OSC_FALLBACK (FLAGS [23:19], R279). -/
  seenLost : Bool := false
  seenDrift : Bool := false
  seenSkip : Bool := false
  seenTapErr : Bool := false
  seenOsc : Bool := false
  /-- Event records, oldest first, at most 16. -/
  events : List WeirEvent := []
  /-- Consecutive AUTH_FAIL results, and the authorisation lock (R273). -/
  authFails : Nat := 0
  locked : Bool := false
  deriving DecidableEq, Repr, Inhabited

/-- An image load in the ROM (R269): its length and the bytes so far. -/
structure WeirLoad where
  len : Nat := 0
  bytes : List Byte := []
  deriving DecidableEq, Repr, Inhabited

/-- A request that the Weir has taken from a channel (R271); live while its response can still be posted (R272). -/
structure WeirReq where
  chan : Nat := 0
  words : List Word := []
  live : Bool := true
  deriving DecidableEq, Repr, Inhabited

/-- The Weir, but for what WEIRMB's registers show. -/
structure WeirState where
  /-- VDD_WEIR is within its limits. -/
  vdd : Bool := true
  /-- ROM or firmware runs; firmware runs. -/
  up : Bool := false
  fw : Bool := false
  /-- Started restricted (R269 step 1). -/
  restricted : Bool := false
  regress : Bool := false
  /-- 0 BLANK, 1 UNSEALED, 2 SEALED, 3 BROKEN, 4 INVALID. -/
  st : Nat := 0
  /-- The parameter block in force: words 0-47 as issued or loaded. -/
  block : Option (List Word) := none
  /-- IDENT (words 0 and 1) and words 102-156 as the Weir read them at its start. -/
  fuses : List (Nat × Word) := []
  cistern : Cistern := {}
  /-- Tick at which the Weir came up. -/
  upFrom : Nat := 0
  /-- Image running: VERSION word and digest bytes. -/
  swVer : Word := 0#32
  digest : List Byte := []
  load : Option WeirLoad := none
  reqs : List WeirReq := []
  /-- The live nonce with the operating time of its issue in ticks. -/
  nonce : Option (List Word × Nat) := none
  /-- Accepted WX levels (bit 0 A, 1 B, 2 Z), lost inputs, forward count and high-water mark WHW. -/
  wx : Nat := 0
  wxLost : Nat := 0
  wxPos : Int := 0
  whw : Int := 0
  /-- Forward count at the previous forward rising edge of WX_Z, none after a step back. -/
  wxIdx : Option Int := none
  wxDrift : Bool := false
  /-- The last WX step went forward. -/
  wxFwd : Bool := false
  /-- Tick of the last accepted tap word. -/
  lastTap : Option Nat := none
  oscFallback : Bool := false
  /-- The crystal gives no edges (R258, R409). -/
  noXtal : Bool := false
  deriving DecidableEq, Repr, Inhabited

/-! Position and speed feedback -/

/-- An axis beside its registers (R164-R187). -/
structure Axis where
  /-- Accepted levels at the pins: bit 0 A, 1 B, 2 Z (R165). -/
  levels : Nat := 0
  /-- The phase of the last tick, or the place of the last valid Hall state (R166, R170). -/
  ref : Option Nat := none
  /-- The speed window: edge time and P of each valid step or good frame, newest first (R176, R184). -/
  window : List (Nat × Nat) := []
  /-- Edge time of the last valid step, and steps since the extrapolating mode was entered (R178). -/
  lastStep : Option Nat := none
  xCnt : Nat := 0
  /-- The qualified index of the last tick (R172). -/
  qi : Bool := false
  /-- Direction of the previous index crossing since EN, 1 = down, and whether a step went the other way since (R174). -/
  idxDir : Option Nat := none
  turned : Bool := false
  /-- Lost inputs: bit 0 A, 1 B, 2 Z (R186). -/
  lost : Nat := 0
  /-- Fabric time of the first falling clock edge of the serial frame in progress (R180, R181). -/
  frame : Option Nat := none
  /-- u of the last good frame (R183), and consecutive failed frames (R184). -/
  uPrev : Option Nat := none
  fails : Nat := 0
  deriving DecidableEq, Repr, Inhabited

/-! Fire engine -/

/-- A valid position sample (R136): position in 24.24 form, its fabric time, and the speed in 1/65,536 count per
microsecond, signed. -/
structure Sample where
  p : Nat := 0
  t : Nat := 0
  v : Int := 0
  deriving DecidableEq, Repr, Inhabited

/-- A row trigger that has not been issued (R144-R146). -/
structure Trig where
  head : Nat := 0
  group : Nat := 0
  /-- Rows of the group, bit r = row r. -/
  rows : Nat := 0
  /-- LINE_CNT of the fire line. -/
  line : Nat := 0
  seq : Nat := 0
  y : Nat := 0
  /-- Compare of the line plus the group's fraction, 24.24. -/
  pos : Nat := 0
  /-- Added time of a clamped line, ticks (R143). -/
  shift : Int := 0
  /-- A line found behind keeps its t_ref (R154): that instant, and the compare of the line. -/
  ref : Option (Nat × Nat) := none
  /-- HEAD_CFG.DLY as at the line's boundary (R163). -/
  dly : Nat := 0
  /-- Placed instant. -/
  at_ : Nat := 0
  committed : Bool := false
  deriving DecidableEq, Repr, Inhabited

/-- Drops of one head and line whose slots are playing (R161). -/
structure TapAcc where
  head : Nat := 0
  line : Nat := 0
  seq : Nat := 0
  /-- Slots of the line still to come or in progress. -/
  slots : Nat := 0
  /-- A slot of the line has played. -/
  played : Bool := false
  n1 : Nat := 0
  n2 : Nat := 0
  n3 : Nat := 0
  deriving DecidableEq, Repr, Inhabited

/-- State of the fire engine beside its registers. -/
structure FireState where
  sample : Option Sample := none
  /-- Valid samples of the selected source that the engine has not taken yet, oldest first. -/
  inbox : List Sample := []
  /-- The high-water mark in 24.24 form (R155), none before a job is armed with a sample. -/
  hwm : Option Nat := none
  /-- The compare is loaded and its boundary has not passed. -/
  loaded : Bool := false
  /-- Sequence number of the job the compare belongs to. -/
  cmpJob : Nat := 0
  /-- Job line of the compare. -/
  cmpY : Nat := 0
  /-- The check of R154 is due for the compare. -/
  check : Bool := false
  /-- Compare and pitch of the last fire line, since EN was set or the last stop (R150 code 0x04, R151). -/
  prev : Option (Nat × Nat) := none
  /-- Job and job line of the last fire line, and the last job that started without an empty fire line before it, with the
  job and job line of the fire line that it followed (R83). -/
  prevSeq : Nat := 0
  prevY : Nat := 0
  contig : Option (Nat × (Nat × Nat)) := none
  /-- t_ref of the previous line of the same job run (R143). -/
  tRefPrev : Option Nat := none
  /-- A run of clamped lines is in progress (R143). -/
  overRun : Bool := false
  /-- DIR of the last armed job (R155). -/
  lastDir : Option Nat := none
  /-- POS_REVERSE has been reported and no sample has reached the mark since (R157). -/
  revReported : Bool := false
  /-- FIRE_PRED_LOST has been reported for the present loss (R137). -/
  predLost : Bool := false
  /-- Triggers not issued yet. -/
  trigs : List Trig := []
  taps : List TapAcc := []
  /-- Heads in a run of refused slots (R148), bit h. -/
  refusedRun : Nat := 0
  /-- SLUICE_N is held low from outside the node. -/
  pinLow : Bool := false
  /-- A CLR, or a CLEAR packet, awaits its check (R160, R320). -/
  clrDue : Bool := false
  deriving DecidableEq, Repr, Inhabited

/-! DMA and memories -/

/-- A DMA descriptor as read: its address, its eight words, and the transaction status of the read (R349). -/
structure DmaDesc where
  addr : Nat := 0
  words : List Word := []
  status : Nat := 0
  deriving DecidableEq, Repr, Inhabited

/-- A DMA channel beside its registers (R348-R358). -/
structure DmaChan where
  /-- The active set, and the shadow set with the next descriptor. -/
  active : Option DmaDesc := none
  shadow : Option DmaDesc := none
  /-- The descriptor in execution: 0 not begun, 1 waits for write responses, 2 all responses are in, 3 waits for the
  response to the write of word 5. -/
  phase : Nat := 0
  /-- The channel occupies a slot. -/
  slot : Bool := false
  /-- A STOP takes effect at the next boundary. -/
  stop : Bool := false
  /-- Writes to other nodes without a response: TAG, offset in the destination, address. -/
  out : List (Nat × (Nat × Nat)) := []
  /-- The first failed access: address, status, and whether it was a write. -/
  fail : Option (Nat × (Nat × Bool)) := none
  /-- The compare met a byte that differs. -/
  mismatch : Bool := false
  /-- Bytes from the start that are written, or are on their way, without an error; for a compare, bytes that agree. -/
  okTo : Nat := 0
  deriving DecidableEq, Repr, Inhabited

/-- State of the DMA engine beside its registers. -/
structure DmaState where
  chans : List DmaChan := []
  /-- Channel last admitted to a slot (R351). -/
  last : Nat := 15
  /-- Domains that are down or being quiesced, bit d (R358). -/
  down : Nat := 0
  deriving DecidableEq, Repr, Inhabited

/-- State of MEMC and DRAMC beside their registers. -/
structure MemState where
  /-- Times in a row that the present window has yielded (R366). -/
  yields : Nat := 0
  /-- DRAM is being trained and wiped (R368). -/
  training : Bool := false
  deriving DecidableEq, Repr, Inhabited

/-! Fabric -/

/-- State of a fabric port beside its registers. -/
structure FabPort where
  /-- Packets that wait for a credit or for room in the replay buffer, each with the receive buffer that it occupies, 0
  for a packet of this node. -/
  waiting : List (Packet × Nat) := []
  /-- Sent packets without an ACK, oldest first (R289). -/
  replay : List Packet := []
  /-- LINK packets sent, oldest first. -/
  linkOut : List Packet := []
  txSeq : Nat := 0
  rxSeq : Nat := 0
  /-- Packets accepted since the last ACK sent. -/
  unacked : Nat := 0
  /-- Credits held: SLUICE, TIDE, BULK, DETOUR (R290). -/
  credits : List Nat := [4, 8, 32, 4]
  /-- Freed counts last received from the neighbour. -/
  freedSeen : List Nat := [0, 0, 0, 0]
  /-- Receive buffers in use, buffer number and class, and the buffers freed so far per class, modulo 256 (R290). -/
  inBuf : List (Nat × Nat) := []
  freed : List Nat := [0, 0, 0, 0]
  /-- What this end's training ordered sets have carried, for each lane: IDENT, port, lane, node word (R284). -/
  trainOut : List (List Word) := []
  /-- Failed training attempts (R284). -/
  attempts : Nat := 0
  /-- Consecutive replays without ACK progress (R285). -/
  replays : Nat := 0
  /-- Delay measurement: departure stamp of the request in flight, in 1/64 tick (R312). -/
  dlyT1 : Option Nat := none
  /-- Twice the last accepted delay results, newest first, at most 8. -/
  dlyLast : List Int := []
  /-- Consecutive rejected results. -/
  dlyRej : Nat := 0
  /-- The last TIME packet on the port reported LOCKED. -/
  timeLocked : Bool := false
  deriving DecidableEq, Repr, Inhabited

/-- What an outstanding BULK request is for. -/
inductive Purpose where
  | dma (n : Nat)
  | completion
  | event
  | jobForward (node : Nat)
  | culvertWrite (i : Nat)
  | culvertRead (i : Nat)
  | stream (r : Nat)
  | other
  deriving DecidableEq, Repr, Inhabited

/-- An outstanding BULK or CTRL request (R308). -/
structure Txn where
  tag : Nat := 0
  dst : Nat := 0
  ctrl : Bool := false
  write : Bool := false
  why : Purpose := .other
  deriving DecidableEq, Repr, Inhabited

/-- State of the fabric block beside its registers. -/
structure FabState where
  /-- FAB.CTL.EN has been set since the device reset (sump word 7, R386). -/
  wasOn : Bool := false
  ports : List FabPort := [{}, {}, {}, {}]
  /-- Number of the next receive buffer to be taken. -/
  nextBuf : Nat := 1
  /-- Packets that this node has addressed to itself, oldest first. -/
  loop : List Packet := []
  /-- Last accepted flooded TAG per source and kind (64 × VC + TYPE), with the tick of its acceptance (R301). -/
  flood : List ((Nat × Nat) × (Nat × Nat)) := []
  txns : List Txn := []
  /-- BULK requests beyond the 128 outstanding ones, oldest first (R308). -/
  held : List (Txn × Packet) := []
  nextTag : Nat := 0
  /-- The last CTRL request executed per source: tag, status, data (R309). -/
  lastCtrl : List (Nat × (Nat × (Nat × Word))) := []
  stopTag : Nat := 0
  clearTag : Nat := 0
  posTag : Nat := 0
  /-- T of the last Tide sample handed to the fire engine (R189). -/
  tideT : Option Nat := none
  /-- A stop packet asserts a stop until a CLEAR (R160, R319). -/
  chanStop : Bool := false
  /-- EXEC_T of a CLEAR whose check is due (R320). -/
  execT : Option Nat := none
  /-- Consecutive TIME packets within the lock limit, and beyond the unlock limit (R314). -/
  lockRun : Nat := 0
  unlockRun : Nat := 0
  /-- Sub-tick part of fabric time in 1/64 tick (R312). -/
  frac : Nat := 0
  /-- The offset whose quarter is being slewed, with the tick of its TIME packet (R313). -/
  slew : Option (Int × Nat) := none
  /-- The rate correction in 1/2048 of 0.001 ppm, and what it has gathered towards the next 1/64 tick. -/
  rate : Int := 0
  rateRem : Int := 0
  /-- Destinations reported as unreachable since STATUS.UNREACH was last cleared, and drops not reported yet, destination
  and header word 0 (R306, R324). -/
  unreach : List Nat := []
  unreachDue : List (Nat × Nat) := []
  /-- TAG of CREQ's CTRL request in flight. -/
  creqTag : Option Nat := none
  deriving DecidableEq, Repr, Inhabited

end Sys2Proof.Machine
end

