-- ==== Sys2Proof/Machine/State.lean ====
section
/-! DEFINITION. The state of the block, plain data, the reasons a command can stop, and the state after reset. -/

namespace Sys2Proof.Machine

/-- The block's state. Registers live in regs, keyed by local address; the rest is what the spec gives the block
without a register. -/
structure State where
  /-- What a read of each register returns, for the registers that differ from their reset value (R7, R10, R11). -/
  regs : List (Nat × Word) := []
  /-- Active copies of class-B registers whose shadow has been written since their boundary (R10, R32). -/
  act : List (Nat × Word) := []
  /-- Local memory: SRAM, TCMs, DRAM; a byte not listed reads 0 (R370). -/
  mem : List Host.Cell := []
  /-- Fabric time in ticks of 0.625 ns, below 2^48 (R135). -/
  time : Nat := 0
  /-- Ticks of 0.625 ns since reset: what the block's own timers count. -/
  ticks : Nat := 0
  /-- The data the last register read returned to its issuer. -/
  rdata : Word := 0#32
  /-- Status of the response to the last single access: 0 OK, 1 DECODE, 2 ECC (R29, R362). -/
  resp : Nat := 0
  /-- The HOST_EN strap is high: the node is the root (R294, R326). -/
  root : Bool := true
  /-- The variant fuse: a GH-6408 (R2). -/
  small : Bool := false
  /-- Jobs not complete yet, in job order (at most 16). -/
  jobs : List Job := []
  /-- Order number of the next job to arrive. -/
  jobSeq : Nat := 0
  /-- Pending table swaps, oldest first. -/
  swaps : List Swap := []
  sys : SysState := {}
  pmu : PmuState := {}
  host : HostState := {}
  cmp : CmpState := {}
  lq : List Queue := []
  /-- What the DRAM port of the spillways serves (R61): nothing, a spill (some none), or the refill of a queue. -/
  lqPort : Option (Option Nat) := none
  hpt : List Port := []
  wfe : List Chan := []
  whead : List WaveHead := []
  nh : NhState := {}
  nhead : List NhHead := []
  cal : CalState := {}
  axis : List Axis := []
  otp : OtpState := {}
  weir : WeirState := {}
  fire : FireState := {}
  dma : DmaState := {}
  memc : MemState := {}
  fab : FabState := {}
  /-- Tap words on their way to the Weir, oldest first (R161, R26). -/
  tap : List (Word × Word) := []
  /-- The model's own: how many free values the machine has drawn (log entry 1). -/
  fresh : Nat := 0
  /-- The commands that wait, first in, first out. -/
  pending : List Instr := []
  deriving DecidableEq, Repr, Inhabited

/-- Why a command stops with a fault. No command of this block raises one: the spec reports every error through the
error collector and goes on (R23). -/
inductive Fault where
  /-- Raised by no command; kept so that the type has a member. Safe. -/
  | none
  deriving DecidableEq, Repr

/-- Why a command has no meaning. -/
inductive Refusal where
  /-- The command of this mnemonic has no meaning yet. Safe: nothing is claimed of it. -/
  | notModelled (mnemonic : String)
  deriving DecidableEq, Repr

/-- The block right after reset (R11, R370): every register at its reset value, memory wiped, nothing queued. -/
def State.reset : State := {}

end Sys2Proof.Machine
end

