-- ==== Sys2Proof/Machine/Ops.lean ====
section
/-! DEFINITION. The named operations over registers, memory, jobs and the per-block state. Everything else is written
with them. -/

namespace Sys2Proof.Machine

/-! Canonical sparse maps: addresses strictly rising, no entry equal to what an unlisted address holds. -/

/-- The value at key a; d gives what an unlisted key holds. -/
def mapGet {α : Type} (d : Nat → α) : List (Nat × α) → Nat → α
  | [], a => d a
  | (k, v) :: t, a => if k = a then v else mapGet d t a

/-- Insert or replace in a rising list. -/
def mapInsert {α : Type} : List (Nat × α) → Nat → α → List (Nat × α)
  | [], a, v => [(a, v)]
  | (k, w) :: t, a, v =>
    if a < k then (a, v) :: (k, w) :: t
    else if a = k then (a, v) :: t
    else (k, w) :: mapInsert t a v

/-- Remove a key. -/
def mapErase {α : Type} : List (Nat × α) → Nat → List (Nat × α)
  | [], _ => []
  | (k, w) :: t, a => if k = a then mapErase t a else (k, w) :: mapErase t a

/-- Write a key, keeping the canonical form. -/
def mapPut {α : Type} [DecidableEq α] (d : Nat → α) (m : List (Nat × α)) (a : Nat) (v : α) : List (Nat × α) :=
  if v = d a then mapErase m a else mapInsert m a v

/-- The canonical form of a sparse map. -/
def mapWf {α : Type} [DecidableEq α] (d : Nat → α) (m : List (Nat × α)) : Bool :=
  decide (m.Pairwise (fun x y => x.1 < y.1)) && m.all (fun x => decide (x.2 ≠ d x.1))

/-! Registers -/

/-- The stored word of the register at a: what a read returns before any side effect. -/
def State.rd (s : State) (a : Nat) : Word := mapGet resetWord s.regs a

/-- Store a register word. -/
def State.wr (s : State) (a : Nat) (v : Word) : State := { s with regs := mapPut resetWord s.regs a v }

/-- A field's value. -/
def State.get (s : State) (f : Fld) : Nat := fieldOf (s.rd f.addr) f.lo f.width

/-- Set a field; higher bits of v are dropped. -/
def State.put (s : State) (f : Fld) (v : Nat) : State := s.wr f.addr (withField (s.rd f.addr) f.lo f.width v)

/-- Is a one-bit field set? -/
def State.flag (s : State) (f : Fld) : Bool := s.get f != 0

/-- Set a one-bit field. -/
def State.raise (s : State) (f : Fld) : State := s.put f 1

/-- Clear a field. -/
def State.drop (s : State) (f : Fld) : State := s.put f 0

/-- Add n to a counter field, wrapping at its width. -/
def State.bump (s : State) (f : Fld) (n : Nat := 1) : State := s.put f (s.get f + n)

/-- Add n to a counter field, saturating at its width. -/
def State.bumpSat (s : State) (f : Fld) (n : Nat := 1) : State :=
  s.put f (min (2 ^ f.width - 1) (s.get f + n))

/-- The whole register as a 32-bit field. -/
def wordFld (a : Nat) : Fld := ⟨a, 0, 32⟩

/-- The word of a class-B register that the block uses: its active copy (R10). -/
def State.activeWord (s : State) (a : Nat) : Word :=
  match s.act.find? (·.1 == a) with
  | some e => e.2
  | none => s.rd a

/-- A field of the active copy. -/
def State.getA (s : State) (f : Fld) : Nat := fieldOf (s.activeWord f.addr) f.lo f.width

/-- Load the shadows of the class-B registers from address lo up to hi: their boundary (R10). -/
def State.loadB (s : State) (lo hi : Nat) : State :=
  { s with act := s.act.filter (fun e => !(lo ≤ e.1 && e.1 < hi)) }

/-- Keep the active copy of a register before its shadow is written (R10); a copy already kept stays. -/
def State.keepActive (s : State) (a : Nat) : State :=
  if s.act.any (·.1 == a) then s else { s with act := mapInsert s.act a (s.rd a) }

/-- Two registers as one 64-bit number. -/
def State.rd64 (s : State) (lo hi : Nat) : Nat := (s.rd lo).toNat + 2 ^ 32 * (s.rd hi).toNat

/-- Store a number in a low and a high register. -/
def State.wr64 (s : State) (lo hi : Nat) (v : Nat) : State := (s.wr lo (w32 v)).wr hi (w32 (v / 2 ^ 32))

/-- Store a 48-bit time in a low register and the low 16 bits of a high one. -/
def State.wrTime (s : State) (lo hi : Nat) (t : Nat) : State := (s.wr lo (w32 t)).put ⟨hi, 0, 16⟩ (t / 2 ^ 32)

/-! Conditional and repeated updates -/

/-- f when the condition holds. -/
def State.when (s : State) (c : Bool) (f : State → State) : State := if c then f s else s

/-- f for each member of a list, in order. -/
def State.each {α : Type} (s : State) (l : List α) (f : α → State → State) : State :=
  l.foldl (fun t x => f x t) s

/-! Per-block state -/

def State.onSys (s : State) (f : SysState → SysState) : State := { s with sys := f s.sys }
def State.onHost (s : State) (f : HostState → HostState) : State := { s with host := f s.host }
def State.onCmp (s : State) (f : CmpState → CmpState) : State := { s with cmp := f s.cmp }
def State.onFire (s : State) (f : FireState → FireState) : State := { s with fire := f s.fire }
def State.onFab (s : State) (f : FabState → FabState) : State := { s with fab := f s.fab }

def State.onCal (s : State) (f : CalState → CalState) : State := { s with cal := f s.cal }

/-- Queue h; an index without an entry is an empty queue. -/
def State.queue (s : State) (h : Nat) : Queue := s.lq.getD h {}

/-- Replace member i of a list that is filled up with defaults as far as i. -/
def setFill {α : Type} (d : α) : List α → Nat → α → List α
  | [], 0, x => [x]
  | [], i + 1, x => d :: setFill d [] i x
  | _ :: t, 0, x => x :: t
  | y :: t, i + 1, x => y :: setFill d t i x

def State.onQueue (s : State) (h : Nat) (f : Queue → Queue) : State :=
  { s with lq := setFill {} s.lq h (f (s.queue h)) }

/-- Port h. -/
def State.hport (s : State) (h : Nat) : Port := s.hpt.getD h {}

def State.onHport (s : State) (h : Nat) (f : Port → Port) : State :=
  { s with hpt := setFill {} s.hpt h (f (s.hport h)) }

/-- Waveform channel c. -/
def State.chan (s : State) (c : Nat) : Chan := s.wfe.getD c {}

def State.onChan (s : State) (c : Nat) (f : Chan → Chan) : State :=
  { s with wfe := setFill {} s.wfe c (f (s.chan c)) }

/-- Rail state of head h beside its registers. -/
def State.wave (s : State) (h : Nat) : WaveHead := s.whead.getD h {}

def State.onWave (s : State) (h : Nat) (f : WaveHead → WaveHead) : State :=
  { s with whead := setFill {} s.whead h (f (s.wave h)) }

def State.onNh (s : State) (f : NhState → NhState) : State := { s with nh := f s.nh }

/-- Nozzle sensing of head h. -/
def State.nhh (s : State) (h : Nat) : NhHead := s.nhead.getD h {}

def State.onNhh (s : State) (h : Nat) (f : NhHead → NhHead) : State :=
  { s with nhead := setFill {} s.nhead h (f (s.nhh h)) }

def State.onOtp (s : State) (f : OtpState → OtpState) : State := { s with otp := f s.otp }
def State.onWeir (s : State) (f : WeirState → WeirState) : State := { s with weir := f s.weir }
def State.onCistern (s : State) (f : Cistern → Cistern) : State := s.onWeir (fun w => { w with cistern := f w.cistern })

/-- Axis n of POS beside its registers. -/
def State.ax (s : State) (n : Nat) : Axis := s.axis.getD n {}

def State.onAx (s : State) (n : Nat) (f : Axis → Axis) : State :=
  { s with axis := setFill {} s.axis n (f (s.ax n)) }

def State.onMem (s : State) (f : MemState → MemState) : State := { s with memc := f s.memc }
def State.onDma (s : State) (f : DmaState → DmaState) : State := { s with dma := f s.dma }

/-- DMA channel n. -/
def State.dmaCh (s : State) (n : Nat) : DmaChan := s.dma.chans.getD n {}

def State.onDmaCh (s : State) (n : Nat) (f : DmaChan → DmaChan) : State :=
  s.onDma (fun d => { d with chans := setFill {} d.chans n (f (s.dmaCh n)) })

/-- A free value is drawn: the counter moves on (log entry 1). -/
def State.draw (s : State) : State := { s with fresh := s.fresh + 1 }

/-! Memory, byte by byte -/

/-- What a byte of local memory reads as when nothing has written it: 0, after the wipes of R370. -/
def emptyByte (_ : Nat) : Byte := 0#8

/-- One byte of RAM. -/
def State.byte (s : State) (a : Nat) : Byte := mapGet emptyByte s.mem a

/-- Write one byte of RAM. -/
def State.setByte (s : State) (a : Nat) (b : Byte) : State := { s with mem := mapPut emptyByte s.mem a b }

/-- n bytes of RAM from a up. -/
def State.bytes (s : State) (a n : Nat) : List Byte := (List.range n).map (fun i => s.byte (a + i))

/-- Write bytes of RAM from a up. -/
def State.setBytes (s : State) : Nat → List Byte → State
  | _, [] => s
  | a, b :: t => (s.setByte a b).setBytes (a + 1) t

/-- A little-endian word of RAM. -/
def State.word (s : State) (a : Nat) : Word := w32 (bytesNat (s.bytes a 4))

/-- Write a little-endian word of RAM. -/
def State.setWord (s : State) (a : Nat) (w : Word) : State := s.setBytes a (wordBytes w)

/-- Memory is in canonical form. -/
def Memory.wf (m : List Host.Cell) : Bool := mapWf emptyByte m

/-! Internal reset (R417, R429, R454) -/

/-- Internal reset is held: a supply has tripped, TEST_EN reads high, or the device is in DRY. -/
def State.held (s : State) : Bool := s.pmu.off != 0

/-- VDDIO_33 and VDD_GATE stand, so that the device drives AMP_EN_n and HV_g_GATE (R430). -/
def State.padsOn (s : State) : Bool := s.pmu.off != 2 && s.pmu.low / 32 % 4 == 0

/-! Heads and channels of the variant (R2) -/

/-- Head ports of the part. -/
def State.nHeads (s : State) : Nat := if s.small then 8 else 16

/-- Is head or port h enabled by the variant? -/
def State.headOn (s : State) (h : Nat) : Bool := h < s.nHeads

/-- Is waveform channel c enabled by the variant? WC_16-WC_31 and WC_40-WC_47 are not on the GH-6408. -/
def State.chanOn (s : State) (c : Nat) : Bool :=
  c < 48 && (!s.small || c < 16 || (32 ≤ c && c < 40))

/-! Jobs -/

def Job.id (j : Job) : Nat := wf j.words 1 0 16
def Job.startMode (j : Job) : Nat := wf j.words 1 30 1
def Job.dir (j : Job) : Nat := wf j.words 1 29 1
def Job.cplIrq (j : Job) : Nat := wf j.words 1 31 1
def Job.progAddr (j : Job) : Nat := (wordAt j.words 2).toNat + 2 ^ 32 * (wordAt j.words 3).toNat
def Job.ltblAddr (j : Job) : Nat := (wordAt j.words 4).toNat + 2 ^ 32 * (wordAt j.words 5).toNat
/-- START and PITCH in 24.24 form (R140). -/
def Job.start (j : Job) : Nat := wf j.words 6 0 24 + 2 ^ 24 * wf j.words 7 0 24
def Job.pitch (j : Job) : Nat := wf j.words 8 0 24 + 2 ^ 24 * wf j.words 9 0 24
def Job.lines (j : Job) : Nat := (wordAt j.words 10).toNat
/-- HEAD_MASK of the job's program header. -/
def Job.headMask (j : Job) : Nat := wf j.prog 1 16 16

/-- The job with a sequence number. -/
def State.job? (s : State) (q : Nat) : Option Job := s.jobs.find? (·.seq == q)

/-- Change the job with a sequence number. -/
def State.onJob (s : State) (q : Nat) (f : Job → Job) : State :=
  { s with jobs := s.jobs.map (fun j => if j.seq == q then f j else j) }

/-- The first job in a state, in job order. -/
def State.firstJob (s : State) (st : JobState) : Option Job := s.jobs.find? (·.st == st)

/-- The running job. -/
def State.running (s : State) : Option Job := s.firstJob .running

/-- The armed job. -/
def State.armed (s : State) : Option Job := s.firstJob .armed

/-- The node's own ID (R294). -/
def State.nodeId (s : State) : Nat := s.get FAB.NODE.ID

end Sys2Proof.Machine
end

