-- ==== Sys2Proof/Machine/Packets.lean ====
section
/-! DEFINITION. Fabric packets and the sending side of a port: header fields (R286), channel classes, receive buffers,
credits and the replay buffer (R289-R292), flooding (R301). Nothing here reports to the error collector. -/

namespace Sys2Proof

open Sys2Proof.Machine

def Packet.vc (p : Packet) : Nat := fieldOf p.h0 30 2
def Packet.typ (p : Packet) : Nat := fieldOf p.h0 24 6
def Packet.lseq (p : Packet) : Nat := fieldOf p.h0 16 8
def Packet.len (p : Packet) : Nat := fieldOf p.h0 8 8
def Packet.sr (p : Packet) : Bool := fieldOf p.h0 7 1 == 1
def Packet.dbit (p : Packet) : Bool := fieldOf p.h0 6 1 == 1
def Packet.detour (p : Packet) : Bool := fieldOf p.h0 5 1 == 1
/-- HOP, or REM of a source-routed packet. -/
def Packet.hop (p : Packet) : Nat := fieldOf p.h0 0 5
def Packet.dst (p : Packet) : Nat := fieldOf p.h1 26 6
def Packet.src (p : Packet) : Nat := fieldOf p.h1 20 6
def Packet.isFlood (p : Packet) : Bool := fieldOf p.h1 19 1 == 1
def Packet.tag (p : Packet) : Nat := fieldOf p.h1 0 16
/-- Target address of a BULK request. -/
def Packet.addr (p : Packet) : Nat := (wordAt p.ext 0).toNat / 4 * 4 + 2 ^ 32 * wf p.ext 1 0 8
/-- STATUS of a BULK response. -/
def Packet.status (p : Packet) : Nat := wf p.ext 0 0 4

/-- The packet is of this channel and type. -/
def Packet.isType (p : Packet) (vc typ : Nat) : Bool := p.vc == vc && p.typ == typ

/-- The words of the packet before its CRC word. -/
def Packet.body (p : Packet) : List Word := p.h0 :: p.h1 :: (p.ext ++ p.payload)

/-- The CRC word: CRC-32 over every preceding word (R287). The sender forms it as the packet leaves, so that it follows
every change on the way: LSEQ, HOP, and the stamp of a TIME packet on each replay (R288). -/
def Packet.crcWord (p : Packet) : Word := w32 (crc32Words p.body)

/-- The packet as it stands on the link. -/
def Packet.wire (p : Packet) : List Word := p.body ++ [p.crcWord]

/-- The CRC word that came with the packet holds (R287). -/
def Packet.crcGood (p : Packet) (crc : Word) : Bool := crc == p.crcWord

@[simp] theorem Packet.crcGood_self (p : Packet) : p.crcGood p.crcWord = true := by simp [Packet.crcGood]

/-- Words of the packet on the link: header, payload and CRC word. -/
def Packet.size (p : Packet) : Nat := p.wire.length

/-- Channel class of a packet: 0 SLUICE, 1 TIDE, 2 BULK, 3 DETOUR (table of channel classes). -/
def Packet.cls (p : Packet) : Nat := if p.vc = 2 then (if p.detour then 3 else 2) else p.vc

/-- STOP and CLEAR. -/
def Packet.urgent (p : Packet) : Bool := p.vc == 0 && (p.typ == 1 || p.typ == 2)

/-- Order of sending (R291): lower first. -/
def Packet.rank (p : Packet) : Nat :=
  if p.urgent then 0 else match p.cls with | 0 => 1 | 1 => 2 | 3 => 3 | _ => 4

/-- A CTRL or BULK request: the packets that R306 answers. -/
def Packet.isRequest (p : Packet) : Bool :=
  (p.vc == 0 && (p.typ == 3 || p.typ == 4)) || (p.vc == 2 && (p.typ == 1 || p.typ == 2))

end Sys2Proof

namespace Sys2Proof.Machine

/-- Header word 0. -/
def mkH0 (vc typ len : Nat) : Word := w32 (vc * 2 ^ 30 + typ * 2 ^ 24 + len * 2 ^ 8)

/-- Header word 1 of a packet with SR = 0. -/
def mkH1 (dst src tag : Nat) (flood : Bool) : Word :=
  w32 ((dst % 64) * 2 ^ 26 + (src % 64) * 2 ^ 20 + nat01 flood * 2 ^ 19 + tag % 2 ^ 16)

/-- A packet without BULK words. -/
def mkPacket (vc typ : Nat) (h1 : Word) (payload : List Word) : Packet :=
  { h0 := mkH0 vc typ payload.length, h1 := h1, payload := payload }

/-- A LINK packet: word 1 is all it carries (R286). -/
def mkLink (typ : Nat) (h1 : Word) : Packet := mkPacket 3 typ h1 []

/-- Header words 2 and 3 of a BULK request. -/
def bulkExt (addr rdw : Nat) (firstBe lastBe : Nat := 15) : List Word :=
  [w32 (addr / 4 * 4), w32 ((rdw % 256) * 2 ^ 16 + lastBe * 2 ^ 12 + firstBe * 2 ^ 8 + addr / 2 ^ 32 % 256)]

/-! Ports -/

def State.port (s : State) (p : Nat) : FabPort := s.fab.ports.getD p {}
def State.onPort (s : State) (p : Nat) (f : FabPort → FabPort) : State :=
  s.onFab (fun b => { b with ports := setFill {} b.ports p (f (b.ports.getD p {})) })

/-- The link on port p is in the state UP (R284). -/
def State.portUp (s : State) (p : Nat) : Bool := p < 4 && s.get (FAB.PORT_STAT.STATE p) == 4

/-- Send a LINK packet: no LSEQ, no credit (R286, R291). -/
def State.sendLink (s : State) (p : Nat) (k : Packet) : State :=
  if s.portUp p then (s.onPort p (fun f => { f with linkOut := f.linkOut ++ [k] })).bump (wordFld (FAB.TX_WORDS p)) k.size
  else s

/-- The CREDIT packet with the freed counts of port p (R290). -/
def State.sendCredit (s : State) (p : Nat) : State :=
  let f := (s.port p).freed
  s.sendLink p (mkLink 1 (w32 (f.getD 0 0 * 2 ^ 24 + f.getD 1 0 * 2 ^ 16 + f.getD 2 0 * 2 ^ 8 + f.getD 3 0)))

/-- One buffer of a class of port p is free: it is counted and a CREDIT goes out (R290). -/
def State.countFreed (s : State) (p cls : Nat) : State :=
  (s.onPort p (fun f => { f with freed := modAt f.freed cls (fun n => (n + 1) % 256) })).sendCredit p

/-- Free receive buffer b once no packet waits in it any more. -/
def State.settleBuf (s : State) (b : Nat) : State :=
  if b == 0 || s.fab.ports.any (fun f => f.waiting.any (·.2 == b)) then s
  else s.each ((List.range 4).filter (fun p => (s.port p).inBuf.any (·.1 == b))) (fun p t =>
    let cls := (((t.port p).inBuf.find? (·.1 == b)).getD (0, 0)).2
    (t.onPort p (fun f => { f with inBuf := f.inBuf.filter (·.1 != b) })).countFreed p cls)

/-- The present fabric time in 1/64 tick. -/
def State.stamp (s : State) : Nat := s.time * 64 + s.fab.frac

/-- T_DEP, its fraction, and the sender's lock and depth (R288): the payload of a TIME packet. -/
def State.timePayload (s : State) : List Word :=
  [w32 s.time, w32 (s.fab.frac * 2 ^ 16 + s.time / 2 ^ 32 % 2 ^ 16),
   w32 (s.get FAB.TIME_STAT.LOCKED * 2 ^ 16 + s.get FAB.NODE.DEPTH)]

/-- A TIME packet takes its departure stamp as it leaves, on every replay again (R288). -/
def State.stamped (s : State) (k : Packet) : Packet := if k.isType 1 1 then { k with payload := s.timePayload } else k

/-- May the port send the packet now? It needs a credit of the class and room in the replay buffer; control packets
leave the last SLUICE credit to STOP and CLEAR (R289, R290, R292). -/
def FabPort.canSend (f : FabPort) (k : Packet) : Bool :=
  f.replay.length < 64 && (if k.rank == 1 then 2 else 1) ≤ f.credits.getD k.cls 0

/-- The packet of lowest rank that can be sent, the oldest of its rank. -/
def bestOf (f : FabPort) : List (Packet × Nat) → Option (Packet × Nat)
  | [] => none
  | k :: t =>
    match bestOf f t with
    | some j => if f.canSend k.1 && k.1.rank ≤ j.1.rank then some k else some j
    | none => if f.canSend k.1 then some k else none

/-- Put a waiting packet on the link, with its stamp: its LSEQ, its credit, its place in the replay buffer. -/
def FabPort.launch (f : FabPort) (w : Packet × Nat) (k : Packet) : FabPort :=
  { f with
    waiting := f.waiting.erase w
    replay := f.replay ++ [{ k with h0 := withField k.h0 16 8 f.txSeq }]
    txSeq := (f.txSeq + 1) % 256
    credits := modAt f.credits k.cls (· - 1) }

/-- Send waiting packets while credits and the replay buffer allow, at most n of them. -/
def State.pump (s : State) (p : Nat) : Nat → State
  | 0 => s
  | n + 1 =>
    match if s.portUp p then bestOf (s.port p) (s.port p).waiting else none with
    | some w =>
      (((s.onPort p (·.launch w (s.stamped w.1))).bump (wordFld (FAB.TX_WORDS p)) w.1.size).settleBuf w.2).pump p n
    | none => s

/-- Send what port p can send. -/
def State.pumpAll (s : State) (p : Nat) : State := s.pump p (s.port p).waiting.length

/-- D is set on a packet that leaves on a LEAFWARD port (R299). -/
def State.leaving (s : State) (p : Nat) (k : Packet) : Packet :=
  if s.get (FAB.PORT_CTL.DIR p) == 2 then { k with h0 := withField k.h0 6 1 1 } else k

/-- Hand a packet to port p; b is the receive buffer it occupies, 0 for none. -/
def State.enqueue (s : State) (p : Nat) (k : Packet) (b : Nat := 0) : State :=
  (s.onPort p (fun f => { f with waiting := f.waiting ++ [(s.leaving p k, b)] })).pumpAll p

/-- Send a packet on every port whose link is UP but one (R301). -/
def State.floodOut (s : State) (except : Option Nat) (k : Packet) (b : Nat := 0) : State :=
  s.each ((List.range 4).filter (fun p => s.portUp p && except != some p)) (fun p t => t.enqueue p k b)

/-- Key of a flooded packet: its source and its kind. -/
def floodKey (k : Packet) : Nat × Nat := (k.src, 64 * k.vc + k.typ)

/-- Remember the TAG of a flooded packet (R301). -/
def State.noteFlood (s : State) (k : Packet) : State :=
  s.onFab (fun b => { b with flood := b.flood.filter (·.1 != floodKey k) ++ [(floodKey k, (k.tag, s.ticks))] })

/-- A flooded packet is new: its TAG is ahead of the last one accepted, or that is more than 100 µs old (R301). -/
def State.isNew (s : State) (k : Packet) : Bool :=
  match s.fab.flood.find? (·.1 == floodKey k) with
  | some e => 0 < signedOf 16 (k.tag + 2 ^ 16 - e.2.1) || 160000 < s.ticks - e.2.2
  | none => true

/-- Flood a packet of this node. -/
def State.floodOwn (s : State) (k : Packet) : State := (s.noteFlood k).floodOut none k

/-- A STOP packet of this node is flooded when a stop takes effect on it (R319). -/
def State.floodStop (s : State) (cause : Nat) : State :=
  let go := (cause == 1 && s.flag FAB.SLUICE_CFG.TX_PIN) || ((cause == 3 || cause == 4) && s.flag FAB.SLUICE_CFG.TX_LOCAL)
  if go then
    let tag := (s.fab.stopTag + 1) % 2 ^ 16
    (s.onFab (fun b => { b with stopTag := tag })).floodOwn (mkPacket 0 1 (mkH1 0 s.nodeId tag true) [w32 cause])
  else s

end Sys2Proof.Machine
end

