-- ==== Sys2Proof/Machine/HostPost.lean ====
section
/-! DEFINITION. What the host interface posts: ring entries (R329), completions (R334), tailrace events (R338) and MSI-X
messages (R339-R341), on the root and on the other nodes. -/

namespace Sys2Proof.Machine

/-- A posted write of the PCIe port. -/
def State.postBytes (s : State) (addr : Nat) (l : List Byte) : State :=
  s.onHost (fun h => { h with posted := h.posted ++ [⟨addr, l⟩] })

/-- A posted write of whole words. -/
def State.post (s : State) (addr : Nat) (ws : List Word) : State := s.postBytes addr (wordsBytes ws)

/-- Send the message of a vector, or set its pending bit while the vector is masked (R339, the PCIe MSI-X rules). -/
def State.msix (s : State) (v : Nat) : State :=
  if fieldOf (s.rd (HOSTIF.MSIX_TABLE (4 * v + 3))) 0 1 == 1 then
    s.put ⟨HOSTIF.MSIX_PBA (v / 32), v % 32, 1⟩ 1
  else
    s.post (s.rd64 (HOSTIF.MSIX_TABLE (4 * v)) (HOSTIF.MSIX_TABLE (4 * v + 1))) [s.rd (HOSTIF.MSIX_TABLE (4 * v + 2))]

/-- Entries of a ring of this SIZE_LOG2. -/
def ringSize (log2 : Nat) : Nat := 2 ^ log2

/-- Filled entries P − C (mod 2^32). -/
def filled (p c : Nat) : Nat := (p + 2 ^ 32 - c) % 2 ^ 32

/-- The entry with its PHASE bit for count c (R329). -/
def withPhase (size c : Nat) (ws : List Word) : List Word :=
  match ws with
  | [] => []
  | w :: t => withField w 31 1 (nat01 (c / size % 2 == 0)) :: t

/-- Write one entry at the producer count of a device-produced ring and advance the count. -/
def State.ringWrite (s : State) (baseLo baseHi : Nat) (log2 : Fld) (prod : Nat) (ws : List Word) : State :=
  let c := (s.rd prod).toNat
  let size := ringSize (s.get log2)
  (s.post (s.rd64 baseLo baseHi + 64 * (c % size)) (withPhase size c ws)).wr prod (w32 (c + 1))

/-- May the root write a ring entry: enabled, link up, and the ring not full? -/
def State.ringOpen (s : State) (log2 : Fld) (prod cons : Nat) : Bool :=
  s.root && s.flag HOSTIF.CTL.EN && filled (s.rd prod).toNat (s.rd cons).toNat < ringSize (s.get log2)

/-- Count an entry written as uncovered and send the ring's message when enough are uncovered (R340). -/
def State.coverCpl (s : State) (irq : Bool) : State :=
  let lim := oneIfZero (s.getA HOSTIF.CPL_MOD.INT_CNT)
  let w := s.host.cplCover.weight + (if irq then lim else 1)
  if lim ≤ w then (s.onHost (fun h => { h with cplCover := {} })).msix 0
  else s.onHost (fun h => { h with cplCover := ⟨w, h.cplCover.entries + 1⟩ })

def State.coverEvt (s : State) : State :=
  let lim := oneIfZero (s.getA HOSTIF.EVT_MOD.INT_CNT)
  let w := s.host.evtCover.weight + 1
  if lim ≤ w then (s.onHost (fun h => { h with evtCover := {} })).msix 1
  else s.onHost (fun h => { h with evtCover := ⟨w, h.evtCover.entries + 1⟩ })

/-- A message goes when the uncovered entries of a ring number its INT_CNT or more, also when a smaller INT_CNT takes
effect (R340). -/
def State.coverDue (s : State) : State :=
  let a := s.when (s.host.cplCover.entries != 0 && oneIfZero (s.getA HOSTIF.CPL_MOD.INT_CNT) ≤ s.host.cplCover.weight)
    (fun t => (t.onHost (fun h => { h with cplCover := {} })).msix 0)
  a.when (a.host.evtCover.entries != 0 && oneIfZero (a.getA HOSTIF.EVT_MOD.INT_CNT) ≤ a.host.evtCover.weight)
    (fun t => (t.onHost (fun h => { h with evtCover := {} })).msix 1)

/-- The class-B fields of HOSTIF take effect: a ring entry is fetched, or the rings stop (R32, R346). -/
def State.hostBoundary (s : State) : State := (s.loadB 0x40080000 0x400A0000).coverDue

/-- The open-job count of a node (R332). -/
def occFld (node : Nat) : Fld := ⟨HOSTIF.JQ_OCC (node / 4), 8 * (node % 4), 5⟩

/-- The open entry that a completion record closes: a rejection by the parser was not counted, any other job was. -/
def State.openJob (s : State) (r : List Word) : Option OpenJob :=
  let parser := wf r 0 28 3 == 3 && wf r 0 26 2 == 1
  s.host.openJobs.find? (fun e => e.node == wf r 0 0 6 && e.id == wf r 1 0 16 && e.counted == !parser)

/-- A completion passes the root: its job's entry closes, the node's count falls, and streams of the job end (R334,
R336). -/
def State.closeJob (s : State) (r : List Word) : State :=
  let node := wf r 0 0 6
  let key := (node, wf r 1 0 16)
  let a := s.onHost (fun h => { h with passed := h.passed.filter (· != key) ++ [key] })
  match s.openJob r with
  | some e =>
    (a.onHost (fun h => { h with openJobs := h.openJobs.erase e })).when e.counted (fun t => t.put (occFld node) (t.get (occFld node) - 1))
  | none => a

/-- Write waiting completion records to the ring, in order, while it has room (R334). -/
def State.drainCpl (s : State) : Nat → State
  | 0 => s
  | n + 1 =>
    match s.host.cplBuf with
    | [] => s
    | r :: t =>
      if s.ringOpen HOSTIF.CPL_SIZE.SIZE_LOG2 HOSTIF.CPL_PROD HOSTIF.CPL_CONS then
        let irq := (s.openJob r).any (·.irq)
        ((((s.onHost (fun h => { h with cplBuf := t })).ringWrite HOSTIF.CPL_BASE_LO HOSTIF.CPL_BASE_HI
          HOSTIF.CPL_SIZE.SIZE_LOG2 HOSTIF.CPL_PROD r).closeJob r).coverCpl irq).drainCpl n
      else s

/-- Write waiting events to the tailrace while it has room; the first after a loss carries OVF (R338). -/
def State.drainEvt (s : State) : Nat → State
  | 0 => s
  | n + 1 =>
    match s.host.evtBuf with
    | [] => s
    | r :: t =>
      if s.ringOpen HOSTIF.TR_SIZE.SIZE_LOG2 HOSTIF.TR_PROD HOSTIF.TR_CONS then
        let r' := match r with
          | [] => []
          | w :: u => withField w 30 1 (nat01 (s.host.ovf || w.getLsbD 30)) :: u
        (((s.onHost (fun h => { h with evtBuf := t, ovf := false })).ringWrite HOSTIF.TR_BASE_LO HOSTIF.TR_BASE_HI
          HOSTIF.TR_SIZE.SIZE_LOG2 HOSTIF.TR_PROD r').coverEvt).drainEvt n
      else s

/-- A port that routed packets may use: its link is UP and its direction is set (R299). -/
def State.routable (s : State) (p : Nat) : Bool :=
  s.portUp p && (s.get (FAB.PORT_CTL.DIR p) == 1 || s.get (FAB.PORT_CTL.DIR p) == 2)

/-- The output port toward node d for a packet without DETOUR, and whether it leaves as a detour (R300, R303). -/
def State.routePort (s : State) (d : Nat) : Option (Nat × Bool) :=
  let pri := s.get (FAB.ROUTE.PRI d)
  let alt := s.get (FAB.ROUTE.ALT d)
  let viaAlt := if s.routable alt then some (alt, true) else none
  if !s.flag (FAB.ROUTE.VALID d) then none
  else if s.flag (FAB.ROUTE.ON_ALT d) then viaAlt
  else if s.portUp pri then (if s.routable pri then some (pri, false) else none)
  else viaAlt

/-- Mark a packet that leaves on an alternate port. -/
def asDetour (k : Packet) (det : Bool) : Packet := if det then { k with h0 := withField k.h0 5 1 1 } else k

/-- The next free TAG of this node's requests. -/
def State.newTag (s : State) : State := s.onFab (fun b => { b with nextTag := (b.nextTag + 1) % 2 ^ 16 })

/-- A packet without a path is dropped, counted and marked for its report (R306). -/
def State.countNoPath (s : State) (k : Packet) : State :=
  (s.bump (wordFld FAB.UNREACH_CNT)).onFab (fun b => { b with unreachDue := b.unreachDue ++ [(k.dst, k.h0.toNat)] })

/-- Send a routed packet; one to the node itself goes through its loop. -/
def State.sendAnswer (s : State) (k : Packet) : State :=
  if k.dst == s.nodeId then s.onFab (fun b => { b with loop := b.loop ++ [k] })
  else match s.routePort k.dst with
    | some (p, det) => s.enqueue p (asDetour k det)
    | none => s.countNoPath k

/-- The answer to a CTRL or BULK request with a status: CTRL_RSP, WR_RSP or RD_CPL (table of packet types). -/
def State.answer (s : State) (k : Packet) (status : Nat) (data : List Word) : Packet :=
  let h := mkH1 k.src s.nodeId k.tag false
  if k.vc == 0 then mkPacket 0 5 h [w32 status, wordAt data 0]
  else if k.typ == 1 then { h0 := mkH0 2 3 0, h1 := h, ext := [w32 status, 0#32] }
  else { h0 := mkH0 2 4 data.length, h1 := h, ext := [w32 status, 0#32], payload := data }

/-- Words that a BULK RD asks for. -/
def readLen (k : Packet) : Nat := if k.typ == 2 then wf k.ext 1 16 8 + 1 else 1

/-- A packet that has no path; the node answers a request with UNREACH (R306). -/
def State.noPath (s : State) (k : Packet) : State :=
  let a := s.countNoPath k
  a.when k.isRequest (fun t => t.sendAnswer (t.answer k 3 (List.replicate (readLen k) 0#32)))

/-- Send a routed request of this node. -/
def State.sendRouted (s : State) (k : Packet) : State :=
  if k.dst == s.nodeId then s.sendAnswer k
  else match s.routePort k.dst with
    | some (p, det) => s.enqueue p (asDetour k det)
    | none => s.noPath k

/-- Issue a BULK request with the next TAG; while 128 are outstanding it waits (R308). -/
def State.issue (s : State) (t : Txn) (k : Packet) : State :=
  let a := s.newTag
  if 128 ≤ s.fab.txns.countP (!·.ctrl) || !s.fab.held.isEmpty then a.onFab (fun b => { b with held := b.held ++ [(t, k)] })
  else (a.onFab (fun b => { b with txns := b.txns ++ [t] })).sendRouted k

/-- Issue waiting BULK requests, at most n, while fewer than 128 are outstanding. -/
def State.issueHeld (s : State) : Nat → State
  | 0 => s
  | n + 1 =>
    match s.fab.held with
    | [] => s
    | (t, k) :: r =>
      if 128 ≤ s.fab.txns.countP (!·.ctrl) then s
      else ((s.onFab (fun b => { b with held := r, txns := b.txns ++ [t] })).sendRouted k).issueHeld n

/-- Send a BULK WR of whole words to another node and keep it outstanding (R308). -/
def State.sendWr (s : State) (dst addr : Nat) (ws : List Word) (why : Purpose) : State :=
  let tag := s.fab.nextTag
  let k : Packet := { h0 := mkH0 2 1 ws.length, h1 := mkH1 dst s.nodeId tag false, ext := bulkExt addr 0, payload := ws }
  s.issue ⟨tag, dst, false, true, why⟩ k

/-- Send a BULK RD of n words and keep it outstanding (R308). -/
def State.sendRd (s : State) (dst addr n : Nat) (why : Purpose) : State :=
  let tag := s.fab.nextTag
  let k : Packet := { h0 := mkH0 2 2 0, h1 := mkH1 dst s.nodeId tag false, ext := bulkExt addr (n - 1) }
  s.issue ⟨tag, dst, false, false, why⟩ k

/-! Requests for a range of bytes -/

/-- A byte range cut at multiples of 256 bytes: requests of at most 64 words that cross no 4 KB boundary (R286, R343). -/
def bulkPieces : Nat → Nat → Nat → List (Nat × Nat)
  | 0, _, _ => []
  | fuel + 1, a, n =>
    if n == 0 then []
    else let m := min n (256 - a % 256)
         (a, m) :: bulkPieces fuel (a + m) (n - m)

/-- The words that cover n bytes from a. -/
def coverWords (a n : Nat) : Nat := (a % 4 + n + 3) / 4

/-- Byte enables of the first and the last word of a range. -/
def firstBe (a : Nat) : Nat := 16 - 2 ^ (a % 4)
def lastBe (a n : Nat) : Nat := 2 ^ ((a + n - 1) % 4 + 1) - 1

/-- The TAGs of n requests issued from now on. -/
def State.nextTags (s : State) (n : Nat) : List Nat := (List.range n).map (fun i => (s.fab.nextTag + i) % 2 ^ 16)

/-- Is a request with this purpose outstanding? -/
def State.outstanding (s : State) (why : Purpose) : Bool := s.fab.txns.any (·.why == why) || s.fab.held.any (·.1.why == why)

/-- A non-root node sends its oldest completion to the root's CPL_IN, one at a time (R334). -/
def State.sendCpl (s : State) : State :=
  match s.host.cplBuf with
  | r :: _ => if s.root || s.outstanding .completion then s else s.sendWr 0 (HOSTIF.CPL_IN 0) r .completion
  | [] => s

/-- The event with OVF when ovf says that events were lost before it (R338). -/
def markOvf (ovf : Bool) (r : List Word) : List Word :=
  if ovf then modAt r 0 (fun w => w ||| 0x40000000#32) else r

/-- A non-root node sends its oldest event to the root's EVT_IN, one at a time; the first after a loss carries OVF
(R338). -/
def State.sendEvt (s : State) : State :=
  match s.host.evtBuf with
  | r :: t =>
    if s.root || s.outstanding .event then s
    else (s.onHost (fun h => { h with evtBuf := markOvf h.ovf r :: t, ovf := false })).sendWr 0 (HOSTIF.EVT_IN 0)
      (markOvf s.host.ovf r) .event
  | [] => s

/-- A completion record reaches this node's host interface: the root writes it to the ring or counts it lost after a
function level reset (R345); another node sends it to the root. -/
def State.postCompletion (s : State) (r : List Word) : State :=
  if s.root then
    if s.host.lost then (s.closeJob r).bump HOSTIF.CPL_LOST.COUNT
    else (s.onHost (fun h => { h with cplBuf := h.cplBuf ++ [r] })).drainCpl (s.host.cplBuf.length + 1)
  else (s.onHost (fun h => { h with cplBuf := h.cplBuf ++ [r] })).sendCpl

/-- Capacity of the event queue (R338). -/
def State.evtCap (s : State) : Nat := if s.root then 64 else 16

/-- Same NODE and CODE (R338). -/
def sameEvent (a b : List Word) : Bool := wf a 0 24 6 == wf b 0 24 6 && wf a 0 0 16 == wf b 0 0 16

/-- Add 1 to COUNT of an event. -/
def countEvent (r : List Word) : List Word := modAt r 1 (fun w => w32 (w.toNat + 1))

/-- An event record joins the event queue: dropped or counted when the queue is full (R338, R345). -/
def State.queueEvent (s : State) (r : List Word) : State :=
  if s.root && s.host.lost then s.bump HOSTIF.EVT_LOST.COUNT
  else if s.host.evtBuf.length < s.evtCap then
    let t := s.onHost (fun h => { h with evtBuf := h.evtBuf ++ [r] })
    if s.root then t.drainEvt (s.host.evtBuf.length + 1) else t.sendEvt
  else
  let sent := if s.outstanding .event then 1 else 0
  if (s.host.evtBuf.drop sent).any (sameEvent r) then
    s.onHost (fun h => { h with evtBuf := modAt h.evtBuf (sent + (h.evtBuf.drop sent).findIdx (sameEvent r)) countEvent })
  else ((s.bump HOSTIF.EVT_LOST.COUNT).raise HOSTIF.STATUS.EVT_OVF).onHost (fun h => { h with ovf := true })

/-- The event of a code with its data words, stamped with fabric time (the event entry table). -/
def State.postEvent (s : State) (code : Nat) (data : List Word) : State :=
  s.queueEvent ([w32 ((s.nodeId % 64) * 2 ^ 24 + code % 2 ^ 16), 1#32, w32 s.time, w32 (s.time / 2 ^ 32)]
    ++ (List.range 12).map (fun i => wordAt data i))

end Sys2Proof.Machine
end

