-- ==== Sys2Proof/Machine/Rails.lean ====
section
/-! DEFINITION. What the ends of jobs and a node stop do to rail states, slots and senses: SETTLED without a boundary
(R127), void and unmade senses (R121, R205), and slots that a stop cuts (R133). -/

namespace Sys2Proof.Machine

/-- Head h lies in the HEAD_MASK of the running job (also past its last fire line) or of the armed job. -/
def State.headInJob (s : State) (h : Nat) : Bool :=
  s.jobs.any (fun j => (j.st == .running || j.st == .ending || j.st == .armed) && bit j.headMask h)

/-- SETTLED sets while the port holds no transfer and prepares none (second case of R127); S's first takeover slot is
then that of the next line the head takes part in (R128). -/
def State.trySettle (s : State) (h : Nat) : State :=
  s.when (!s.flag (WFE.HEAD_STAT.SETTLED h) && (!s.headInJob h || (s.hport h).acting)) (fun t =>
    (t.raise (WFE.HEAD_STAT.SETTLED h)).onWave h (fun w => { w with serving := none, takeNext := true, takeLine := none }))

/-- trySettle for every head. -/
def State.settleHeads (s : State) : State := s.each (List.range 16) (fun h t => t.trySettle h)

/-- A sense that is not made: counted, and a scan nozzle goes into the retry slot when that is empty (R205). -/
def State.countSkip (s : State) (h pos : Nat) (scan : Bool) : State :=
  (s.bump (NH.SKIP_CNT.COUNT h)).onNhh h (fun n => if scan && n.retry.isNone then { n with retry := some pos } else n)

/-- Close the outstanding sense of a position as not made (R205). -/
def State.skipSense (s : State) (h pos : Nat) : State :=
  match (s.nhh h).out.find? (·.pos == pos) with
  | some o => (s.onNhh h (fun n => { n with out := n.out.erase o })).countSkip h pos o.scan
  | none => s

/-- A void sense (R121): counted, and nozzle sensing treats it as not made. -/
def State.voidSense (s : State) (h pos : Nat) : State :=
  let t := s.bump (WFE.SENSE_VOID_CNT.COUNT h)
  match (t.nhh h).results.find? (·.pos == pos) with
  | some r => (t.onNhh h (fun n => { n with results := n.results.erase r })).countSkip h pos r.scan
  | none => t.skipSense h pos

/-- Head of a channel (R102). -/
def headOf (c : Nat) : Nat := if c < 32 then c / 2 else c - 32

/-- Show a rail state: 0 NONE, 1 A_TO_S, 2 B_TO_S, 3 DOWN (R126; HPT.RAIL_STATE; FAULT_SUM). -/
def State.showRail (s : State) (h st : Nat) : State :=
  let a := (s.put (WFE.HEAD_STAT.RAIL_STATE h) st).put (HPT.RAIL_STATE.STATE h) st
  (a.put WFE.FAULT_SUM.DOWN (setBitTo (a.get WFE.FAULT_SUM.DOWN) h (st == 3))).put WFE.FAULT_SUM.TAKE
    (setBitTo (a.get WFE.FAULT_SUM.TAKE) h (st == 1 || st == 2))

/-- A rail state changes: SETTLED clears (R127), a copy for S is due at the next slot start (R126), and after a change from X_TO_S to NONE S serves the copy on. -/
def State.moveRail (s : State) (h st : Nat) : State :=
  let old := s.get (WFE.HEAD_STAT.RAIL_STATE h)
  let a := ((s.showRail h st).drop (WFE.HEAD_STAT.SETTLED h)).onWave h (fun w => { w with
    seen := 0, takeLine := none, takeNext := false
    serving := if st == 0 && (old == 1 || old == 2) then some (old - 1) else none })
  (a.when (st == 1 || st == 2) (·.onChan (32 + h) (fun k => { k with copy := none }))).trySettle h

/-- A calibration takeover is released (R129). -/
def State.releaseRail (s : State) (h : Nat) : State :=
  if s.flag (WFE.HEAD_STAT.CAL_TAKE h) then (s.drop (WFE.HEAD_STAT.CAL_TAKE h)).moveRail h 0 else s

/-- The sense of an S channel's slot becomes void. -/
def State.voidSlot (s : State) (c : Nat) : State :=
  match (s.chan c).slot with
  | some z =>
    match z.sense with
    | some p => if z.void || c < 32 then s else
        (s.onChan c (fun k => { k with slot := some { z with void := true } })).voidSense (headOf c) p.1
    | none => s
  | none => s

/-- A stop: slots in progress play on, cut at MIN_PERIOD after their start, and their senses are void (R121, R133). -/
def State.cutSlots (s : State) : State :=
  s.each ((List.range 48).filter (fun c => (s.chan c).slot.isSome)) (fun c t =>
    (t.voidSlot c).onChan c (fun k => { k with slot := k.slot.map (fun z => { z with cut := true }) }))

end Sys2Proof.Machine
end

