-- ==== Sys2Proof/Machine/Stop.lean ====
section
/-! DEFINITION. The ends of jobs (R153, R24, R35), table swaps (R18-R25), the Weir tap word (R161) and the node stop
(R24, R25, R51, R158, R159). -/

namespace Sys2Proof.Machine

/-! Completions -/

/-- While no job runs, the class-B registers of NH and CAL show what was written last (R32). -/
def State.idleClassB (s : State) : State := s.when s.running.isNone (·.loadB 0x40200000 0x40300000)

/-- The completion entry of a job (completion entry table): STATUS 0 DONE, 1 STOPPED, 2 ABORTED, 3 REJECTED. -/
def Job.record (j : Job) (node now status source code : Nat) : List Word :=
  [w32 (status * 2 ^ 28 + source * 2 ^ 26 + nat01 j.late * 2 ^ 25 + code % 256 * 2 ^ 16 + node % 64),
   w32 j.id, w32 j.missed, w32 j.fired, wordAt j.words 12, wordAt j.words 13,
   w32 j.tStart, w32 (j.tStart / 2 ^ 32), w32 now, w32 (now / 2 ^ 32), 0#32, 0#32, 0#32, 0#32, 0#32, 0#32]

/-- Job q completes: it leaves the queue and its record goes to the host. A compositor that is writing a line of it
finishes the line and abandons the job then; between two lines it abandons the job at once (R462). -/
def State.complete (s : State) (q status source code : Nat) : State :=
  match s.job? q with
  | none => s
  | some j =>
    let t := { s with jobs := s.jobs.filter (·.seq != q) }
    let u := t.when (s.cmp.job == some q && !j.composed) (·.onCmp (fun c =>
      if s.flag CMP.STATUS.BUSY then { c with abandon := true, hold := some j } else { c with job := none, abandon := false }))
    ((u.postCompletion (j.record s.nodeId s.time status source code)).settleHeads).idleClassB

/-- Keep FIRE.STATUS in step with the jobs. -/
def State.syncFire (s : State) : State :=
  (s.put FIRE.STATUS.RUNNING (nat01 s.running.isSome)).put FIRE.STATUS.ARMED (nat01 s.armed.isSome)

/-- The compositor holds a checked program of a job it has not begun (PROG_NEXT). -/
def State.progNext (s : State) : Option Job :=
  s.jobs.find? (fun j => j.checked && !j.composed && s.cmp.job != some j.seq)

def State.syncCmp (s : State) : State := s.put CMP.STATUS.PROG_NEXT (nat01 s.progNext.isSome)

/-! Table swaps -/

/-- The compositor composes no job and holds none that has passed its check, or is disabled (R22). -/
def State.cmpIdle (s : State) : Bool :=
  !s.flag CMP.CTL.EN || (s.cmp.job.isNone && s.progNext.isNone)

/-- The fire engine is disabled or has no job RUNNING or ARMED (R22). -/
def State.fireIdle (s : State) : Bool :=
  !s.flag FIRE.CTL.EN || (s.running.isNone && s.armed.isNone)

/-- Change the kill mask and its count (R56). -/
def State.setKill (s : State) (l : List Nat) : State :=
  (s.onCmp (fun c => { c with kill := l })).put CMP.KILL_CNT.COUNT l.length

/-- Exchange the active and the inactive copy of the tables in a mask (R18, R20); a HEALTH swap clears the kill bits
under KILL_AUTOCLR (R56), and nozzle sensing sets those it holds again (R217). -/
def State.toggleTables (s : State) (m : Nat) : State :=
  let t := (s.put CMP.TBL_ACTIVE.HEALTH (s.get CMP.TBL_ACTIVE.HEALTH + nat01 (bit m 0)))
  let u := t.put CMP.TBL_ACTIVE.COMP (t.get CMP.TBL_ACTIVE.COMP + nat01 (bit m 1))
  let v := u.put CMP.TBL_ACTIVE.RAIL (u.get CMP.TBL_ACTIVE.RAIL + nat01 (bit m 2))
  let w := v.put CAL.LIVE_ACTIVE.COPY (v.get CAL.LIVE_ACTIVE.COPY + nat01 (bit m 3))
  let x := w.wr SYS.TBL_SWAP (w.rd SYS.TBL_SWAP &&& ~~~(w32 m))
  let y := x.when (bit m 0 && x.flag CMP.CTL.KILL_AUTOCLR) (·.setKill [])
  y.when (bit m 0) (fun t => (t.setKill (t.nh.held.foldl insertAsc t.cmp.kill)).onNh
    (fun n => { n with pubSwap := false, held := [], late := [], due := n.due ++ n.late }))

/-- The cycle after a HEALTH swap: the kill bits that the swap cycle could not set again (R217). -/
def State.lateKills (s : State) : State :=
  (s.setKill (s.nh.due.foldl insertAsc s.cmp.kill)).onNh (fun n => { n with due := [] })

/-- Post TBL_SWAP_DONE for every write whose tables have all swapped (R18). -/
def State.finishSwaps (s : State) : State :=
  State.each { s with swaps := s.swaps.filter (fun (w : Swap) => w.left != 0) } (s.swaps.filter (fun (w : Swap) => w.left == 0))
    (fun w t => t.postEvent 0x0001 [w32 w.mask, w32 w.lineL, w32 w.lineF])

/-- Swap, in every pending write that sel picks, the tables of the write's left mask that m names, with upd recording
L or F. -/
def State.swapWhere (s : State) (sel : Swap → Bool) (m : Nat) (upd : Swap → Swap) : State :=
  let hit := fun (w : Swap) => sel w && w.left &&& m != 0
  let all := (s.swaps.filter hit).foldl (fun a w => a ||| (w.left &&& m)) 0
  ({ (s.toggleTables all) with
      swaps := s.swaps.map (fun w => if hit w then { upd w with left := w.left - (w.left &&& m) } else w) }).finishSwaps

/-- The compose tables of writes with line L swap at its compose-line boundary (R18). -/
def State.swapComposeAt (s : State) (l : Nat) : State := s.swapWhere (fun w => w.lineL == l) 7 id

/-- The compose tables complete at once on an idle compositor (R22). -/
def State.swapComposeIdle (s : State) : State :=
  (s.swapWhere (fun _ => true) 7 (fun w => { w with lineL := (s.get CMP.LINE_CNT.COUNT + 1) % 2 ^ 32 })).lateKills

/-- CAL completes at once on an idle fire engine (R22). -/
def State.swapCalIdle (s : State) : State :=
  s.swapWhere (fun _ => true) 8 (fun w => { w with lineF := s.get FIRE.LINE_CNT.COUNT })

/-- Order of tags: job order first and y second (R62). -/
def tagBefore (a b : Nat × Nat) : Bool := a.1 < b.1 || (a.1 == b.1 && a.2 < b.2)

/-- CAL swaps at the fire-line boundary of tag g: CAL requested alone, or the write's line L is this line or lies
before it (R18). -/
def State.swapCalAt (s : State) (g : Nat × Nat) : State :=
  s.swapWhere (fun w => w.mask &&& 7 == 0 || (match w.tag with | some t => !tagBefore g t | none => false)) 8
    (fun w => { w with lineF := s.get FIRE.LINE_CNT.COUNT })

/-- Line L of pending writes takes its tag when it is composed (R18). -/
def State.tagSwaps (s : State) (l : Nat) (g : Nat × Nat) : State :=
  { s with swaps := s.swaps.map (fun w => if w.lineL == l && w.mask &&& 7 != 0 && w.tag.isNone then { w with tag := some g } else w) }

/-- A stop completes every pending swap at once (R25). -/
def State.swapStop (s : State) : State :=
  let t := s.swapWhere (fun _ => true) 7 (fun w => { w with lineL := s.get CMP.LINE_CNT.COUNT })
  (t.swapWhere (fun _ => true) 8 (fun w => { w with lineF := s.get FIRE.LINE_CNT.COUNT })).lateKills

/-! The Weir tap -/

/-- Parity of a number of 64 bits. -/
def parity64 (n : Nat) : Nat := popcount 64 n % 2

/-- The tap word of a head and line (tap word table). -/
def tapWord (h line n1 n2 n3 : Nat) : Word × Word :=
  let a := h % 16 * 2 ^ 28 + n2 % 2 ^ 13 * 2 ^ 13 + n1 % 2 ^ 13
  let b := line % 2 ^ 16 * 2 ^ 16 + n3 % 2 ^ 13
  (w32 a, w32 (b + parity64 (a + 2 ^ 32 * b) * 2 ^ 15))

/-- Send one tap word (R161). -/
def State.sendTap (s : State) (a : TapAcc) : State :=
  ({ s with tap := s.tap ++ [tapWord a.head a.line a.n1 a.n2 a.n3] }).bump FIRE.TAP_CNT.COUNT

/-! The node stop -/

/-- SLUICE_N as the pin shows it: driven by this node or held low from outside. -/
def State.syncPin (s : State) : State :=
  s.put FIRE.SLUICE_STAT.PIN (nat01 (s.fire.pinLow || s.flag FIRE.SLUICE_STAT.DRIVE))

/-- Beats of the line that EMIT writes which a flush has counted in DROP_BEATS (R71). -/
def Queue.counted (q : Queue) : Nat := if q.drop == 0 then 0 else 64 - q.drop

/-- The compositor abandons its line and drops the next program (R51). The next beat that EMIT writes starts a line; at a stop
what it has written of this one stands in the queue until the flush. -/
def State.cmpAbandon (s : State) (stop : Bool) : State :=
  ((s.each s.cmp.emit (fun e t => t.onQueue e.1 (fun q => { q with
    drop := 0, part := stop, cut := if stop then q.counted else 0 }))).onCmp (fun c => { c with
      job := none, abandon := false, hold := none, op := 0, emit := [], stalled := false })).drop CMP.STATUS.BUSY

/-- Every job completes STOPPED, in job order (R24). -/
def State.stopJobs (s : State) : State := s.each (s.jobs.map (·.seq)) (fun q t => t.complete q 1 0 0)

/-- A stop ends the frame in progress and clears the skew stores (R101). -/
def State.stopPorts (s : State) : State :=
  { s with hpt := s.hpt.map (fun p => { p with xfer := none, skewN := 0, lastTag := none, snap := none, window := true }) }

/-- A stop takes effect with a cause: 1 pin, 2 SLUICE channel, 3 ERR, 4 SET (R24, R25, R51, R158, R159, R319). A line of
which no slot has played fires nothing on its head (R147). A stop while STOPPED is set changes nothing. -/
def State.nodeStop (s : State) (cause : Nat) : State :=
  if s.flag FIRE.SLUICE_STAT.STOPPED then s
  else
    let a := ((s.raise FIRE.SLUICE_STAT.STOPPED).put FIRE.SLUICE_STAT.CAUSE cause).raise FIRE.STATUS.STOPPED
    let b := (a.when (cause != 1 && a.flag FIRE.CTL.SLUICE_OUT) (·.raise FIRE.SLUICE_STAT.DRIVE)).syncPin
    let z := b.each (b.fire.taps.filter (!·.played)) (fun x t => t.raise (FIRE.HSTAT.NO_TRIG x.head))
    let c := z.each (b.fire.taps.filter (·.played)) (fun x t => t.sendTap x)
    let d := c.onFire (fun f => { f with trigs := [], taps := [], loaded := false, check := false, prev := none, contig := none,
                                         tRefPrev := none, overRun := false })
    let e := ((d.wr FIRE.CMP_FRAC 0#32).wr FIRE.CMP_INT 0#32).stopJobs
    let f := (e.cmpAbandon true).swapStop
    let g := (f.syncFire).syncCmp
    let h := g.put LQ.FLUSH.REQ (g.get LQ.FLUSH.REQ ||| (2 ^ g.nHeads - 1))
    let i := ((h.stopPorts).cutSlots).floodStop cause
    match i.cal.meas with
    | some r => i.onCal (fun c => { c with stopDue := decide (r.elem < 48) })
    | none => i

end Sys2Proof.Machine
end

