-- ==== Sys2Proof/Machine/CalCore.lean ====
section
/-! DEFINITION. How a calibration run is recorded and ended (R233, R249), as far as the error collector and the stop
need it. -/

namespace Sys2Proof.Machine

/-- Write RES_e and count the run (R249). -/
def State.calResult (s : State) (e code qty point t : Nat) : State :=
  (s.wr (CAL.RES e) (w32 (code % 256 * 2 ^ 24 + qty % 16 * 2 ^ 20 + point % 16 * 2 ^ 16 + t % 2 ^ 16))).bump CAL.RUN_CNT.COUNT

/-- The element does not start again until RETRY_TMO has passed (R233). -/
def State.calRetry (s : State) (e : Nat) : State := s.onCal (fun c => { c with retry := insertAsc c.retry e })

/-- The measurement lane is free again, and its channel with it. -/
def State.freeLane (s : State) : State :=
  match s.cal.meas with
  | none => s
  | some r =>
    let a := (s.onCal (fun c => { c with meas := none, stopDue := false })).drop CAL.STATUS.MEAS_BUSY
    let b := a.drop CAL.CUR.BUSY
    b.when (r.elem < 48) (fun t => t.onChan r.elem (fun k => { k with cal := false }))

/-- The measurement-lane run is aborted with a code: nothing is written but its record (R240). The drive rail's takeover
is released. -/
def State.abortLane (s : State) (code : Nat) : State :=
  match s.cal.meas with
  | none => s
  | some r =>
    let a := (((s.calResult r.elem code 0 0 r.tRun).bump CAL.ABORT_CNT.COUNT).calRetry r.elem).freeLane
    a.when (r.elem < 32) (·.releaseRail (headOf r.elem))

end Sys2Proof.Machine
end

