-- ==== Sys2Proof/Machine/Flags.lean ====
section
/-! DEFINITION. The error collector (R23, R382-R386, R461), sticky flags and the interrupt lines of SYS.IRQ_PEND. -/

namespace Sys2Proof.Machine

/-! Fields of a record (record table of R385) -/

def recFirst (q : Nat) : Fld := ⟨ERR.REC q 0, 31, 1⟩
def recLatest (q : Nat) : Fld := ⟨ERR.REC q 0, 30, 1⟩
def recSev (q : Nat) : Fld := ⟨ERR.REC q 0, 28, 2⟩
def recOvf (q : Nat) : Fld := ⟨ERR.REC q 0, 27, 1⟩
def recInst (q : Nat) : Fld := ⟨ERR.REC q 0, 16, 8⟩
def recSubseq (q : Nat) : Fld := ⟨ERR.REC q 0, 0, 16⟩
def recLost (q : Nat) : Fld := ⟨ERR.REC q 4, 0, 16⟩

/-- The words of a record. -/
def State.recWords (s : State) (q : Nat) : List Word := (List.range 8).map (fun k => s.rd (ERR.REC q k))

/-- ERR.STATUS.PEND_SEV: the highest SEV of the valid records. -/
def State.syncSev (s : State) : State :=
  s.put ERR.STATUS.PEND_SEV ((s.sys.recs.map (fun q => s.get (recSev q))).foldl max 0)

/-- ERR.STOP_SRC: the lowest source that asserts a stop (R385). -/
def State.syncStops (s : State) : State :=
  s.wr ERR.STOP_SRC (match s.sys.stops with | [] => 0#32 | q :: _ => w32 (2 ^ 31 + q))

/-- EVQ_CNT and EVQ_HEAD follow the queue (R384). -/
def State.syncEvq (s : State) : State :=
  let e := s.sys.evq.headD {}
  ((((s.put ERR.EVQ_CNT.CNT s.sys.evq.length).wr (ERR.EVQ_HEAD 0) e.w0).wr (ERR.EVQ_HEAD 1) e.w1).wr
    (ERR.EVQ_HEAD 2) e.w2).wr (ERR.EVQ_HEAD 3) e.w3

/-- The first report of a source fills FIRST (R383). -/
def State.recordFirst (s : State) (q sev inst detail : Nat) : State :=
  ((((((((s.wr (ERR.REC q 0) (w32 (2 ^ 31 + sev % 4 * 2 ^ 28 + inst % 256 * 2 ^ 16))).wr (ERR.REC q 1) (w32 detail)).wr
    (ERR.REC q 2) (w32 s.time)).wr (ERR.REC q 3) (w32 (q % 256 * 2 ^ 24 + sev % 4 * 2 ^ 22 + s.time / 2 ^ 32 % 2 ^ 16))).wr
    (ERR.REC q 4) 0#32).wr (ERR.REC q 5) 0#32).wr (ERR.REC q 6) 0#32).wr (ERR.REC q 7) 0#32).onSys
    (fun y => { y with recs := insertAsc y.recs q })

/-- SEV of a pending record after a further report of severity sev, with SUBSEQ already raised to n (R383). -/
def escalated (limit n old sev : Nat) : Nat :=
  let a := if limit ≠ 0 ∧ n % limit = 0 then min 3 (old + 1) else old
  if a < sev then sev else a

/-- A later report of a source replaces LATEST and may escalate the record (R383). -/
def State.recordLatest (s : State) (q sev inst detail : Nat) : State :=
  let n := min 65535 (s.get (recSubseq q) + 1)
  let a := ((s.put (recLatest q) 1).put (recSubseq q) n).put (recSev q)
    (escalated (s.get ERR.CFG.REPEAT_LIM) n (s.get (recSev q)) sev)
  (((a.wr (ERR.REC q 4) (w32 (sev % 4 * 2 ^ 28 + inst % 256 * 2 ^ 16 + a.get (recLost q)))).wr
    (ERR.REC q 5) (w32 detail)).wr (ERR.REC q 6) (w32 s.time)).wr (ERR.REC q 7) (w32 (s.time / 2 ^ 32 % 2 ^ 16))

/-- The event queue entry of a report (R384). -/
def State.evqEntry (s : State) (q sev inst detail : Nat) (latest : Bool) : EvqEntry :=
  { w0 := w32 (2 ^ 31 + nat01 latest * 2 ^ 30 + s.get (recSev q) * 2 ^ 28 + s.get (recOvf q) * 2 ^ 27
      + inst % 256 * 2 ^ 16 + s.get (recSubseq q))
    w1 := w32 detail
    w2 := w32 s.time
    w3 := w32 (q % 256 * 2 ^ 24 + sev % 4 * 2 ^ 22 + s.time / 2 ^ 32 % 2 ^ 16) }

/-- Firmware is running: the core has entered its image, and executes it or waits in WFI. -/
def State.fwRunning (s : State) : Bool := s.sys.core == .running || s.sys.core == .wfi

/-- The NMI: the pc goes to NMI_EPC and FATAL_SRC to NMI_CAUSE, and further NMIs are disabled (R377). -/
def State.nmi (s : State) : State :=
  if s.sys.nmiOn && s.fwRunning then
    (((s.wr SYS.NMI_EPC (Config.corePc s.fresh)).wr SYS.NMI_CAUSE (s.rd ERR.FATAL_SRC)).draw).onSys
      (fun y => { y with nmiOn := false, core := .running })
  else s

/-- The watchdog stops counting: what it has left is kept (R380). -/
def State.wdtPause (s : State) : State :=
  s.when (s.flag SYS.WDT_CTL.EN && !s.flag SYS.SUMP_STAT.ACTIVE) (fun t => t.onSys (fun y => { y with wdtLeft := y.wdtEnd - t.ticks }))

/-- One more fatal path: SUMP_STAT shows the low half of its number (R386). -/
def State.countFatal (s : State) : State :=
  let n := (s.sys.sumpSeq + 1) % 2 ^ 32
  (s.onSys (fun y => { y with sumpSeq := n })).put SYS.SUMP_STAT.SEQ n

/-- A record's SEV has become FATAL: steps 1 and 3 of R386, or SECOND_FATAL while a fatal path is active. -/
def State.fatal (s : State) (q : Nat) : State :=
  if s.flag SYS.SUMP_STAT.ACTIVE then s.raise SYS.SUMP_STAT.SECOND_FATAL
  else
    let a := s.wr ERR.FATAL_SRC (w32 (2 ^ 31 + s.get (recInst q) * 2 ^ 8 + q % 256))
    let b := (((a.wdtPause).raise SYS.SUMP_STAT.ACTIVE).drop SYS.SUMP_STAT.HW_DONE).drop SYS.SUMP_STAT.TMO
    let c := (b.drop SYS.SUMP_STAT.SECOND_FATAL).countFatal
    (c.onSys (fun y => { y with
      sumpRecs := y.recs.flatMap c.recWords
      sumpCause := c.rd SYS.RST_CAUSE
      sumpFw := c.fwRunning
      sumpEnded := false })).nmi

/-- Take one report: record, event queue, host event, stop and fatal path (R383-R386). The report's severity is given;
a report that misses the full event queue is only counted here. -/
def State.reportCore (s : State) (q sev inst detail : Nat) : State :=
  if s.get (ERR.SRC_CFG.EN q) = 0 then s
  else
    let latest := s.flag (recFirst q)
    let old := if latest then s.get (recSev q) else 0
    let a := if latest then s.recordLatest q sev inst detail else s.recordFirst q sev inst detail
    let b := if a.sys.evq.length < 64 then
        (a.onSys (fun y => { y with evq := y.evq ++ [a.evqEntry q sev inst detail latest] })).syncEvq
      else (a.bump (recLost q)).raise (recOvf q)
    let now := b.get (recSev q)
    let c := b.syncSev
    let d := c.when (c.flag (ERR.SRC_CFG.HOST q)) (fun t => t.postEvent (0x8000 + q) (t.recWords q))
    let halt := d.flag (ERR.SRC_CFG.STOP q) || now == 3
    let e := d.when halt (fun t => (t.onSys (fun y => { y with stops := insertAsc y.stops q })).syncStops)
    let f := e.when halt (·.nodeStop 3)
    f.when (now == 3 && (old != 3 || (sev == 3 && f.flag SYS.SUMP_STAT.ACTIVE))) (·.fatal q)

/-- A report of source q finds the event queue full. -/
def State.evqFull (s : State) (q : Nat) : Bool := s.get (ERR.SRC_CFG.EN q) != 0 && 64 ≤ s.sys.evq.length

/-- EVQ_OVF is reported once until its flag is cleared (R384). -/
def State.noteOverflow (s : State) (full : Bool) (q : Nat) : State :=
  s.when (full && !s.flag ERR.STATUS.EVQ_OVF)
    (fun t => (t.raise ERR.STATUS.EVQ_OVF).reportCore Src.EVQ_OVF (t.get (ERR.SRC_CFG.SEV Src.EVQ_OVF)) 0 (q % 256))

/-- The abort of a channel run by a stop is recorded and reported (R240, R249). -/
def State.stopRun (s : State) : State :=
  match s.cal.stopDue, s.cal.meas with
  | true, some r =>
    let a := s.abortLane 0x21
    (a.reportCore Src.CAL_ABORT (a.get (ERR.SRC_CFG.SEV Src.CAL_ABORT)) r.elem (a.rd (CAL.RES r.elem)).toNat).noteOverflow
      (a.evqFull Src.CAL_ABORT) Src.CAL_ABORT
  | _, _ => s

/-- Drops of unroutable packets are reported, once per destination until STATUS.UNREACH is cleared (R306, R324). -/
def State.unreachRun (s : State) : State :=
  (s.onFab (fun b => { b with unreachDue := [] })).each s.fab.unreachDue (fun d t =>
    if t.fab.unreach.contains d.1 then t.raise FAB.STATUS.UNREACH
    else
      let a := (t.raise FAB.STATUS.UNREACH).onFab (fun b => { b with unreach := insertAsc b.unreach d.1 })
      (a.reportCore Src.FAB_UNREACH (a.get (ERR.SRC_CFG.SEV Src.FAB_UNREACH)) d.1 d.2).noteOverflow
        (a.evqFull Src.FAB_UNREACH) Src.FAB_UNREACH)

/-- A stop takes effect with a cause (R24, R158), and a channel run with it ends. -/
def State.halt (s : State) (cause : Nat) : State := ((s.nodeStop cause).stopRun).unreachRun

/-- A report with a severity of its own (FW_EVENT, the watchdog's escalation); when it misses the full event queue,
EVQ_OVF is reported once until its flag is cleared (R384). -/
def State.reportSev (s : State) (q sev inst detail : Nat) : State :=
  (((s.reportCore q sev inst detail).noteOverflow (s.evqFull q) q).stopRun).unreachRun

/-- A report of source q with its configured severity (R382, R383). -/
def State.report (s : State) (q inst detail : Nat) : State := s.reportSev q (s.get (ERR.SRC_CFG.SEV q)) inst detail

/-- The measurement-lane run is aborted and reported (R240, R242, R249). -/
def State.calAbortRun (s : State) (code : Nat) : State :=
  match s.cal.meas with
  | some r => let a := s.abortLane code
              a.report Src.CAL_ABORT r.elem (a.rd (CAL.RES r.elem)).toNat
  | none => s

/-- Set a flag, and report the source only when the flag was 0 (R324, R372 and the like). -/
def State.reportOnce (s : State) (f : Fld) (q inst detail : Nat) : State :=
  (s.raise f).when (!s.flag f) (fun t => t.report q inst detail)

/-- The tag of a detail: JOB_ID in [31:16], the low bits of y in [15:0] (R461). -/
def tagDetail (job y : Nat) : Nat := job % 2 ^ 16 * 2 ^ 16 + y % 2 ^ 16

/-- A decode error: reported with the issuer, the full address latched (R29, R461). -/
def State.decodeError (s : State) (issuer addr : Nat) : State :=
  ((s.wr ERR.DEC_ADDR_LO (w32 addr)).put ERR.DEC_ADDR_HI.ADDR (addr / 2 ^ 32)).report Src.ADDR_DECODE issuer (addr % 2 ^ 32)

/-! Interrupt lines of the management core -/

/-- The PMU line (R425). -/
def State.irqPmu (s : State) : Bool :=
  (s.rd PMU.WAKE_STAT).toNat % 64 != 0 || s.flag PMU.STATUS.XTAL_FAIL || s.flag PMU.STATUS.PLL_FAIL ||
  s.flag PMU.STATUS.REFUSED || s.flag PMU.STATUS.WRITE_IGNORED || (List.range 4).any (fun g => s.flag (PMU.HV_STAT.FAULT g)) ||
  s.flag PMU.PMB_XSTAT.DONE || (s.rd PMU.PMB_FLT).toNat % 256 != 0 ||
  s.flag PMU.TAMPER.LATCH

/-- SYS.IRQ_PEND as the table of its lines gives it. -/
def State.irqPend (s : State) : Nat :=
  let irq := s.sys.recs.filter (fun q => s.flag (ERR.SRC_CFG.IRQ q))
  nat01 (irq.any (fun q => s.get (recSev q) ≤ 1))
    + nat01 (irq.any (fun q => s.get (recSev q) == 2)) * 2
    + nat01 ((s.rd DMA.DONE_SUM).toNat != 0) * 4
    + nat01 (s.flag (WEIRMB.CH_STAT.DONE 0) && s.flag (WEIRMB.IRQ_EN.DONE 0)) * 8
    + nat01 (s.flag FAB.CREQ_STAT.DONE) * 16
    + nat01 (!s.sys.jlog.isEmpty) * 32
    + nat01 (!s.sys.evq.isEmpty) * 64
    + nat01 s.sys.wdtHalf * 128
    + nat01 s.irqPmu * 256

end Sys2Proof.Machine
end

