-- ==== Sys2Proof/Machine/Cells.lean ====
section
/-! DEFINITION. The OTP array (15_otp_lifecycle.md): its cells, reads at both margins, and the programming of one bit. -/

namespace Sys2Proof.Machine

/-- Strength of a cell: 0 blank, 1 reads 1 at normal margin only, 2 at the tight margin too. -/
def State.cell (s : State) (k : Nat) : Nat := mapGet (fun _ => 0) s.otp.cells k

/-- Program a cell to a strength; a cell never goes back (R390). -/
def State.setCell (s : State) (k v : Nat) : State :=
  s.onOtp (fun o => { o with cells := mapPut (fun _ => 0) o.cells k (max (min 2 v) (s.cell k)) })

/-- A logical bit at normal and at tight margin (R390, R393). -/
def State.fuseBit (s : State) (i : Nat) : Bool := 1 ≤ s.cell (2 * i) || 1 ≤ s.cell (2 * i + 1)
def State.fuseTight (s : State) (i : Nat) : Bool := 2 ≤ s.cell (2 * i) || 2 ≤ s.cell (2 * i + 1)

/-- A word from its bits. -/
def bitsWord (f : Nat → Bool) : Word := w32 ((List.range 32).foldl (fun a i => a + nat01 (f i) * 2 ^ i) 0)

/-- A word of the array at normal and at tight margin. -/
def State.fuseWord (s : State) (w : Nat) : Word := bitsWord (fun i => s.fuseBit (32 * w + i))
def State.tightWord (s : State) (w : Nat) : Word := bitsWord (fun i => s.fuseTight (32 * w + i))

/-- n bits from word w up as a number, with a given read of a word. -/
def rangeNat (rd : Nat → Word) (w n : Nat) : Nat :=
  ((List.range ((n + 31) / 32)).foldl (fun a i => a + (rd (w + i)).toNat * 2 ^ (32 * i)) 0) % 2 ^ n

/-- Those bits as bytes, byte k holding bits [8k+7:8k] (R391). -/
def rangeBytes (rd : Nat → Word) (w n : Nat) : List Byte := natBytes ((n + 7) / 8) (rangeNat rd w n)

/-- Flag a word in the margin map. -/
def State.flagMargin (s : State) (w : Nat) : State := s.raise ⟨OTP.MARGIN_MAP (w / 32), w % 32, 1⟩

/-- What the pulses left of a bit: the strengths of its two copies. -/
abbrev Burn := Nat × Nat

/-- Program one bit (R397): a copy verifies when it reads 1 at the tight margin; with one copy verified the word is
flagged. The answer says whether the bit is programmed. -/
def State.burnBit (s : State) (i : Nat) (r : Burn) : State × Bool :=
  let a := (s.setCell (2 * i) r.1).setCell (2 * i + 1) r.2
  let va := 2 ≤ a.cell (2 * i)
  let vb := 2 ≤ a.cell (2 * i + 1)
  (a.when (va != vb) (·.flagMargin (i / 32)), va || vb)

/-- Bits of a word that a command programs: 1 in the data and 0 at normal margin, ascending (R397). -/
def State.bitsToBurn (s : State) (w data : Nat) : List Nat :=
  (List.range 32).filterMap (fun i => if bit data i && !s.fuseBit (32 * w + i) then some (32 * w + i) else none)

/-- Program bits in order with their results; a result that is not given is that both copies verify. The answer is the
state, the bit at which the command stopped, and the number of weak bits. -/
def State.burnBits (s : State) : List Nat → List Burn → Nat → State × (Option Nat × Nat)
  | [], _, weak => (s, (none, weak))
  | i :: t, r, weak =>
    let b := s.burnBit i (r.headD (2, 2))
    if b.2 then
      let one := (2 ≤ b.1.cell (2 * i)) != (2 ≤ b.1.cell (2 * i + 1))
      b.1.burnBits t (r.drop 1) (weak + nat01 one)
    else (b.1, (some i, weak))

/-! Regions and their locks -/

/-- Region index of a word (table of the OTP regions); 10 stands for LOCKS. -/
def otpRegion (w : Nat) : Nat :=
  if w < 6 then 0 else if w < 10 then 1 else if w < 44 then 2 else if w < 50 then 3 else if w < 66 then 4
  else if w < 102 then 5 else if w < 137 then 6 else if w < 157 then 7 else if w < 189 then 8 else if w < 191 then 10 else 9

/-- Lock fuse k of a region: 0 WLOCK, 1 RLOCK, 2 FORCED. -/
def lockBit (q k : Nat) : Nat := 6048 + 4 * (q - 4) + k

/-- Regions 4-7 and 9 have lock fuses. -/
def hasLocks (q : Nat) : Bool := q == 4 || q == 5 || q == 6 || q == 7 || q == 9

def State.locked (s : State) (q k : Nat) : Bool := hasLocks q && s.fuseBit (lockBit q k)

/-- A word of the array as a chip-side reader sees it: sealed words and unreadable regions read 0, and read-locked ones
too, but for the management core while KEY_OPEN is 1 (R392, R396, R403). -/
def State.fuseShown (s : State) (issuer w : Nat) (v : Word) : Word :=
  let q := otpRegion w
  if 6 ≤ q && q ≤ 8 then 0#32
  else if (q == 4 || q == 5 || q == 9) && s.flag (OTP.REGION_STAT.FAILED q) then 0#32
  else if q != 6 && q != 7 && s.locked q 1 && !(issuer == 0 && s.flag OTP.KEY_OPEN.OPEN) then 0#32
  else v

/-- RD_DATA, RD_TIGHT and the shadows. -/
def State.fuseView (s : State) (issuer a : Nat) : Option Word :=
  let w := s.get OTP.RD_WORD.INDEX
  if a == OTP.RD_DATA then some (s.fuseShown issuer w (s.fuseWord w))
  else if a == OTP.RD_TIGHT then some (s.fuseShown issuer w (s.tightWord w))
  else if OTP.SHADOW 0 ≤ a && a ≤ OTP.SHADOW 255 then some (s.fuseShown issuer ((a - OTP.SHADOW 0) / 4) (s.rd a))
  else none

/-! The audit log in fuses (R267) -/

/-- First bit and number of bits of WEIR_LOG. -/
def logBase : Nat := 5024

/-- LOG_CNT: the bits that read 1 at normal margin. -/
def State.logCnt (s : State) : Nat := ((List.range 1024).filter (fun i => s.fuseBit (logBase + i))).length

/-- Program the next bit that reads 0, up to n of them, until one reads 1; one that reads 1 at normal margin alone counts,
and its word is flagged. -/
def State.burnLog (s : State) : Nat → List Burn → List Nat → State × Bool
  | 0, _, _ => (s, false)
  | _, _, [] => (s, false)
  | n + 1, r, i :: t =>
    let b := s.burnBit i (r.headD (2, 2))
    if b.1.fuseBit i then (b.1.when (!b.2) (·.flagMargin (i / 32)), true) else b.1.burnLog n (r.drop 1) t

/-- The bits of WEIR_LOG that read 0, ascending. -/
def State.freeLog (s : State) : List Nat :=
  ((List.range 1024).filter (fun i => !s.fuseBit (logBase + i))).map (logBase + ·)

/-- Record an event in WEIR_LOG; the answer is a result code: 0 OK, 8 LOG_FULL, 9 BURN_FAIL. -/
def State.logFuse (s : State) (r : List Burn) : State × Nat :=
  if s.logCnt == 1024 then (s, 8)
  else
    let b := s.burnLog 4 r s.freeLog
    (b.1, if b.2 then 0 else 9)

end Sys2Proof.Machine
end

