-- ==== Sys2Proof/Machine/PortCfg.lean ====
section
/-! DEFINITION. The class-B settings of a head port as one list of words (LAT, ROWS, ROWPERM, ROW_DLY_0 to ROW_DLY_7),
the rows of R81, the layout of the skew store (R82), and the status bits that follow other state. -/

namespace Sys2Proof.Machine

/-- Addresses of the class-B registers of port h. -/
def portRegs (h : Nat) : List Nat :=
  [HPT.LAT h, HPT.ROWS h, HPT.ROWPERM h] ++ (List.range 8).map (HPT.ROW_DLY h)

/-- The settings as written, and as active. -/
def State.portShadow (s : State) (h : Nat) : List Word := (portRegs h).map s.rd
def State.portActive (s : State) (h : Nat) : List Word := (portRegs h).map s.activeWord

/-- LAT_W (0 is treated as 1), LAT_SETUP and LAT_LEAD in ticks: units of 5 ns are 8 ticks. -/
def latW (c : List Word) : Nat := 8 * oneIfZero (wf c 0 0 8)
def latSetup (c : List Word) : Nat := 8 * wf c 0 8 8
def latLead (c : List Word) : Nat := 8 * wf c 0 16 12
def nRows (c : List Word) : Nat := wf c 1 0 4
def rGrp (c : List Word) : Nat := wf c 1 4 13
def rowDly (c : List Word) (r : Nat) : Nat := wf c (3 + r) 0 10

/-- ROWS is valid (R465). -/
def rowsOk (c : List Word) : Bool := 1 ≤ nRows c && nRows c ≤ 8 && 1 ≤ rGrp c && rGrp c ≤ 4096

/-- Row of position j (R81). -/
def rowOfPos (c : List Word) (j : Nat) : Nat := wf c 2 (3 * ((j / rGrp c) % nRows c)) 3

/-- The rows of positions 0 to 4095, in order. -/
def rowList (c : List Word) : List Nat := (List.range 4096).map (rowOfPos c)

/-- Bytes of one slot of row r: S_r of R82. -/
def slotBytes (rows : List Nat) (r : Nat) : Nat := 32 * ((rows.count r + 63) / 64)

/-- Byte offset of row r in the skew store: the rows follow one another in ascending r (R82). -/
def skewOffset (c : List Word) (rows : List Nat) (r : Nat) : Nat :=
  ((List.range r).map (fun q => rowDly c q * slotBytes rows q)).sum

/-- Size of the skew store (R82); without valid rows it is not stated. -/
def skewSize (c : List Word) : Nat :=
  if rowsOk c then skewOffset c (rowList c) 8 else Config.skewSize (nRows c) (rGrp c)

/-- The largest delay of a row in use. -/
def maxDly (c : List Word) : Nat :=
  ((List.range (nRows c)).map (fun i => rowDly c (wf c 2 (3 * i) 3))).foldl max 0

/-- ROWS, ROWPERM and every ROW_DLY agree (R83, R152). -/
def sameRows (a b : List Word) : Bool :=
  nRows a == nRows b && rGrp a == rGrp b && wf a 2 0 24 == wf b 2 0 24 && (List.range 8).all (fun r => rowDly a r == rowDly b r)

/-- Settings that the next transfer or start of a job takes: those taken already for its first transfer, else the
shadows (R149). -/
def State.portNext (s : State) (h : Nat) (seq : Nat) : List Word :=
  match (s.hport h).snap with
  | some p => if p.1 == seq then p.2 else s.portShadow h
  | none => s.portShadow h

/-- Head h names sensed nozzles (R201, HSTAT.SENSING). -/
def State.sensing (s : State) (h : Nat) : Bool :=
  s.flag NH.CTL.EN && s.flag NH.CTL.SENSE_EN && s.flag (NH.HCTL.SENSE_EN h)
    && !s.flag (WFE.HEAD_STAT.SENSE_LOST h) && s.get (WFE.HEAD_STAT.RAIL_STATE h) == 0

/-- A sense is outstanding or being analysed. -/
def State.senseBusy (s : State) : Bool := s.nhead.any (fun n => !n.out.isEmpty || !n.results.isEmpty)

/-- A word of the active correction table (CORR_c). -/
def State.corrWord (s : State) (c k : Nat) : Word :=
  let l := (s.chan c).corr
  w32 (unsignedOf 16 (l.getD (2 * k) 0) + 2 ^ 16 * unsignedOf 16 (l.getD (2 * k + 1) 0))

/-- Word i of the live entry of element e in the active copy (R228). -/
def State.liveWord (s : State) (e i : Nat) : Word :=
  s.word ((s.rd (if s.get CAL.LIVE_ACTIVE.COPY == 0 then CAL.LIVE_BASE_0 else CAL.LIVE_BASE_1)).toNat / 4096 * 4096 + 48 * e + 4 * i)

/-- The live entry of e holds derived values that are in use: without it the neutral values are (R228). -/
def State.liveOn (s : State) (e : Nat) : Bool := s.flag CAL.CTL.EN && e < 69 && fieldOf (s.liveWord e 0) 31 1 == 1

/-- A field of the live entry of e, or its neutral value. -/
def State.liveField (s : State) (e i lo w neutral : Nat) : Nat := if s.liveOn e then fieldOf (s.liveWord e i) lo w else neutral

/-- GAIN, OFFSET, LOOP_DLY, VFB_GAIN and VFB_ZERO, IFB_GAIN and IFB_ZERO of channel c (R114, R236). -/
def State.calGain (s : State) (c : Nat) : Nat := s.liveField c 1 16 16 0x8000
def State.calVfbGain (s : State) (c : Nat) : Nat := s.liveField c 1 0 16 0x8000
def State.calOffset (s : State) (c : Nat) : Int := signedOf 24 (s.liveField c 2 0 24 0)
def State.calIfbGain (s : State) (c : Nat) : Nat := s.liveField c 3 16 16 0x8000
def State.calIfbZero (s : State) (c : Nat) : Nat := s.liveField c 3 0 14 8192
def State.calVfbZero (s : State) (c : Nat) : Int := signedOf 16 (s.liveField c 4 16 16 0)
def State.calSwap (s : State) (c : Nat) : Bool := s.liveField c 5 8 1 0 == 1
def State.calLoopDly (s : State) (c : Nat) : Nat := s.liveField c 5 0 6 0

/-- Registers of the print path whose bits follow other state. -/
def State.printView (s : State) (a : Nat) : Option Word :=
  if 0x40141000 ≤ a && a < 0x40143000 && (a - 0x40141000) % 0x200 == 0x44 then
    some (w32 (skewSize (s.portShadow ((a - 0x40141000) / 0x200))))
  else if a == HPT.STATUS then some (withField (s.rd a) 0 1 (nat01 (s.hpt.any (·.xfer.isSome))))
  else if a == WFE.STATUS then some (withField (s.rd a) 0 1 (nat01 (s.wfe.any (·.slot.isSome))))
  else if 0x40190000 ≤ a && a < 0x4019C000 then some (s.corrWord ((a - 0x40190000) / 0x400) ((a - 0x40190000) % 0x400 / 4))
  else if a == NH.STATUS then some (withField (s.rd a) 0 1 (nat01 s.senseBusy))
  else if 0x40201000 ≤ a && a < 0x40201800 && (a - 0x40201000) % 0x80 == 4 then
    some (withField (s.rd a) 0 1 (nat01 (s.sensing ((a - 0x40201000) / 0x80))))
  else if CAL.VIEW 0 ≤ a && a ≤ CAL.VIEW 11 && a % 4 == 0 then
    some (if s.get CAL.VIEW_SEL.ELEM < 69 then s.liveWord (s.get CAL.VIEW_SEL.ELEM) ((a - CAL.VIEW 0) / 4) else 0#32)
  else none

end Sys2Proof.Machine
end

