-- ==== Sys2Proof/Machine/Operands.lean ====
section
/-! DEFINITION. Access to local memory and to registers: the local memory map (R27-R29), error-corrected memories
(R362, R364, R369), dropped writes into inactive table copies (R19), and what a register read returns and a register
write stores (R2-R10, R32-R34). Actions that a write starts are in RegWrite.lean. -/

namespace Sys2Proof.Machine

/-! The local map -/

/-- What lies at a local physical address (table of the local physical map). -/
inductive Region where
  | rom
  | itcm
  | dtcm
  | sram
  | regs
  | dram
  | hole
  deriving DecidableEq, Repr

/-- End of the DRAM data: 7/8 of the fitted capacity (R29), 0 while READY = 0 (R368). -/
def State.dramEnd (s : State) : Nat :=
  if s.flag DRAMC.STATUS.READY then s.get DRAMC.CAP.SIZE * 2 ^ 26 * 7 / 8 else 0

def State.region (s : State) (a : Nat) : Region :=
  if a < 0x10000 then .rom
  else if 0x08000000 ≤ a && a < 0x08020000 then .itcm
  else if 0x09000000 ≤ a && a < 0x09020000 then .dtcm
  else if 0x10000000 ≤ a && a < 0x10800000 then .sram
  else if 0x40000000 ≤ a && a < 0x41000000 then .regs
  else if 0x8000000000 ≤ a && a < 0x8000000000 + s.dramEnd then .dram
  else .hole

/-- SRAM bank of an address (R361). -/
def bankOf (a : Nat) : Nat := (a - 0x10000000) / 0x40000

/-- The address is error-free RAM for the whole range. -/
def State.inRam (s : State) (a n : Nat) : Bool :=
  n != 0 && (let r := s.region a
    (r == .sram || r == .dram || r == .itcm || r == .dtcm) && s.region (a + n - 1) == r)

/-- The whole range lies in SRAM. -/
def inSram (a n : Nat) : Bool := 0x10000000 ≤ a && a + n ≤ 0x10800000

/-! Error-corrected reads -/

/-- Bytes that share check bits: 8 in DRAM, 4 elsewhere (R362, R369). -/
def State.eccUnit (s : State) (a : Nat) : Nat := if s.region a == .dram then 8 else 4

/-- The check bits of 8 bytes of DRAM: those of all-zero data are 0 (R369), and the spec gives no code for other data. -/
def checkBits (w : Nat) : Byte := if w == 0 then 0#8 else Config.checkBits w

/-- The byte at an offset of the top eighth of the fitted DRAM: the check bits of its 8-byte word (R369). -/
def State.dramCheck (s : State) (off : Nat) : Byte :=
  let top := s.get DRAMC.CAP.SIZE * 2 ^ 26 * 7 / 8
  checkBits (bytesNat ((List.range 8).map (fun i => s.byte (0x8000000000 + 8 * (off - top) + i))))

/-- The word with an error at address w has bytes among the n from a. -/
def State.eccHit (s : State) (a n w : Nat) : Bool :=
  let k := s.eccUnit w
  a < w / k * k + k && w / k * k < a + n

/-- It has others too: a write of the n bytes is narrow there. -/
def State.eccEdge (s : State) (a n w : Nat) : Bool :=
  let k := s.eccUnit w
  s.eccHit a n w && (w / k * k < a || a + n < w / k * k + k)

/-- A corrected error met at word address a (R362, R369, R373). -/
def State.corrected (s : State) (a : Nat) : State :=
  match s.region a with
  | .sram =>
    let t := s.bump (wordFld MEMC.CE_CNT)
    t.when (t.flag MEMC.CTL.CE_EVT) (·.report Src.MEM_SRAM_CE (bankOf a) (a % 2 ^ 32))
  | .dram => s.bump (wordFld DRAMC.CE_CNT)
  | .itcm => s.bumpSat SYS.STATUS.TCM_CE_CNT
  | .dtcm => s.bumpSat SYS.STATUS.TCM_CE_CNT
  | _ => s

/-- An uncorrectable error met at word address a. MEM_SRAM_UE and DRAM_UE are reported when their flag rises (R372). -/
def State.uncorrectable (s : State) (a : Nat) : State :=
  match s.region a with
  | .sram => (((s.bump (wordFld MEMC.UE_CNT)).wr MEMC.ERR_ADDR (w32 a))).reportOnce MEMC.STATUS.UE Src.MEM_SRAM_UE (bankOf a) (a % 2 ^ 32)
  | .dram =>
    let t := ((s.bump (wordFld DRAMC.UE_CNT)).wr DRAMC.ERR_ADDR_LO (w32 a)).wr DRAMC.ERR_ADDR_HI (w32 (a / 2 ^ 32))
    t.reportOnce DRAMC.STATUS.UE Src.DRAM_UE (a / 256 % 2) ((a - 0x8000000000) / 8 % 2 ^ 32)
  | .itcm => s.report Src.TCM_UE 0 (a % 2 ^ 32)
  | .dtcm => s.report Src.TCM_UE 1 (a % 2 ^ 32)
  | _ => s

/-- Is the bank of an SRAM address offline (R364)? -/
def State.offline (s : State) (a : Nat) : Bool :=
  s.region a == .sram && bit (s.get MEMC.OFFLINE.BANK) (bankOf a)

/-- Read n bytes of local RAM or ROM for an issuer (R461). An engine that reads memory gets DECODE for the register range (log
entry 80). x names the word addresses at which an error was met. The
answer is the state after the counts and reports, a status (0 OK, 1 DECODE, 2 ECC) and the bytes. -/
def State.ramRead (s : State) (issuer a n : Nat) (x : Access := {}) : State × (Nat × List Byte) :=
  let bad := (List.range n).find? (fun i => s.region (a + i) == .hole || s.region (a + i) == .regs)
  match bad with
  | some i => (s.decodeError issuer (a + i), (1, List.replicate n 0#8))
  | none =>
    let ce := x.ce.filter (s.eccHit a n)
    let ue := x.ue.filter (s.eccHit a n)
    let t := (s.each ce (fun w u => u.corrected w)).each ue (fun w u => u.uncorrectable w)
    let off := n != 0 && (s.offline a || s.offline (a + n - 1))
    let u := t.when off (·.report Src.MEM_OFFLINE issuer (a % 2 ^ 32))
    (u, (if ue.isEmpty then 0 else 2, (List.range n).map (fun i =>
      if s.region (a + i) == .rom then Config.romByte (a + i) else if s.offline (a + i) then 0#8 else s.byte (a + i))))

/-! Writes -/

/-- A copy of a double-buffered table: first byte, length, and the owning block's WRITE_IGNORED flag. -/
structure TableCopy where
  base : Nat
  len : Nat
  ignored : Fld

/-- The inactive copies of the tables whose swap is requested: writes into them are dropped (R19). Of the owners that the
table of copies names, the flag of CMP and that of CAL show the drop (log entry 79). -/
def State.lockedCopies (s : State) : List TableCopy :=
  let one := fun (pend : Fld) (act : Fld) (b0 b1 len : Nat) (ig : Fld) =>
    if s.flag pend then [TableCopy.mk ((s.rd (if s.get act == 0 then b1 else b0)).toNat / 4096 * 4096) len ig] else []
  one ⟨SYS.TBL_SWAP, 2, 1⟩ CMP.TBL_ACTIVE.RAIL CMP.RAIL_BASE_0 CMP.RAIL_BASE_1 0x2000 CMP.STATUS.WRITE_IGNORED
  ++ one ⟨SYS.TBL_SWAP, 1, 1⟩ CMP.TBL_ACTIVE.COMP CMP.COMP_BASE_0 CMP.COMP_BASE_1 0x20000 CMP.STATUS.WRITE_IGNORED
  ++ one ⟨SYS.TBL_SWAP, 0, 1⟩ CMP.TBL_ACTIVE.HEALTH CMP.HEALTH_BASE_0 CMP.HEALTH_BASE_1 0x8000 CMP.STATUS.WRITE_IGNORED
  ++ one ⟨SYS.TBL_SWAP, 3, 1⟩ CAL.LIVE_ACTIVE.COPY CAL.LIVE_BASE_0 CAL.LIVE_BASE_1 (69 * 48) CAL.STATUS.WRITE_IGNORED

/-- Does the byte lie in the copy? -/
def TableCopy.has (c : TableCopy) (a : Nat) : Bool := c.base ≤ a && a < c.base + c.len

/-- The sump stack while it is guarded (R375). -/
def State.guarded (s : State) (issuer a : Nat) : Bool :=
  0x0901F000 ≤ a && a < 0x09020000 && s.flag SYS.SUMP_CTL.GUARD && !s.flag SYS.SUMP_STAT.ACTIVE && (issuer == 0 || issuer == 3)

/-- A write of port 1 meets one of port 0 on the same word: port 0's stands, and the meeting is counted (R363). -/
def State.collide (s : State) (w : Nat) : State :=
  let t := (s.bump (wordFld MEMC.COLL_CNT)).wr MEMC.COLL_ADDR (w32 w)
  if t.flag MEMC.CTL.COLL_EVT then t.reportOnce MEMC.STATUS.COLL Src.MEM_COLL (bankOf w) (w % 2 ^ 32) else t.raise MEMC.STATUS.COLL

/-- Write bytes of local RAM for an issuer. x names word addresses at which the read of a narrow write met an error: one
that was corrected counts, and the write of an uncorrectable word is dropped with status ECC (R362, R369). Answers the state
and the status. -/
def State.ramWrite (s : State) (issuer a : Nat) (l : List Byte) (x : Access := {}) : State × Nat :=
  let n := l.length
  let bad := (List.range n).find? (fun i => s.region (a + i) == .hole || s.region (a + i) == .regs || s.region (a + i) == .rom)
  match bad with
  | some i => (s.decodeError issuer (a + i), 1)
  | none =>
    let ue := x.ue.filter (s.eccEdge a n)
    if n != 0 && (s.guarded issuer a || s.guarded issuer (a + n - 1)) then (s.report Src.SUMP_GUARD issuer (a % 2 ^ 32), 0)
    else
      let off := n != 0 && (s.offline a || s.offline (a + n - 1))
      let t := s.when off (·.report Src.MEM_OFFLINE issuer (a % 2 ^ 32))
      let locked := s.lockedCopies
      let hits := locked.filter (fun c => (List.range n).any (fun i => c.has (a + i)))
      let coll := x.coll.filter (fun w => a ≤ w + 3 && w < a + n && s.region w == .sram)
      let r := (t.each hits (fun c v => v.raise c.ignored)).each coll (fun w v => v.collide w)
      let u := (r.each (x.ce.filter (s.eccEdge a n)) (fun w v => v.corrected w)).each ue (fun w v => v.uncorrectable w)
      (u.each ((List.range n).zip l) (fun p v =>
        if s.offline (a + p.1) || coll.contains ((a + p.1) / 4 * 4) || locked.any (fun c => c.has (a + p.1))
            || ue.any (s.eccHit (a + p.1) 1) then v else v.setByte (a + p.1) p.2), if ue.isEmpty then 0 else 2)

/-- Write words of local RAM. -/
def State.ramWriteWords (s : State) (issuer a : Nat) (ws : List Word) (x : Access := {}) : State × Nat :=
  s.ramWrite issuer a (wordsBytes ws) x

/-! Device addresses (R13, R27, R28) -/

/-- What a 64-bit device address names. -/
inductive Target where
  | localMem (a : Nat)
  | host (a : Nat)
  | node (n a : Nat)
  | error
  deriving DecidableEq, Repr

def State.target (s : State) (a : Nat) : Target :=
  let sp := a / 2 ^ 60
  if sp == 0 then (if a < 2 ^ 40 then .localMem a else .error)
  else if sp == 1 then (if s.root then .host (a % 2 ^ 60) else .error)
  else if sp == 2 then
    (if a / 2 ^ 56 % 16 == 0 && a / 2 ^ 40 % 2 ^ 10 == 0 then
      (let n := a / 2 ^ 50 % 64
       if n == s.nodeId then .localMem (a % 2 ^ 40) else .node n (a % 2 ^ 40))
     else .error)
  else .error

/-- A request of this node without a response in time is counted and reported (R308, R324). -/
def State.noteTmo (s : State) (dst detail : Nat) : State :=
  (s.bump (wordFld FAB.TMO_CNT)).reportOnce FAB.STATUS.TMO Src.FAB_TMO dst detail

/-- A BULK RD of m bytes at b of node n whose answer x the command brings: it takes its TAG and has no path, or is issued
and stays outstanding until its RD_CPL, while a timeout ends it at once; the answer is the transaction status (R306-R308;
log entry 94). -/
def State.farRd (s : State) (n b m : Nat) (x : Access) : State × Nat :=
  let tag := s.fab.nextTag
  let k : Packet := { h0 := mkH0 2 2 0, h1 := mkH1 n s.nodeId tag false, ext := bulkExt b (coverWords b m - 1) }
  match s.routePort n with
  | none => ((s.newTag.countNoPath k).unreachRun, 3)
  | some _ =>
    let t : Txn := ⟨tag, n, false, false, .other⟩
    let a := s.issue t k
    (a.when (x.status == 5 && a.fab.txns.contains t)
      (fun u => (u.onFab (fun f => { f with txns := f.txns.erase t })).noteTmo n tag), x.status)

/-- Reads of a range of another node, piece by piece until one fails. -/
def State.farRds (s : State) (n : Nat) (l : List (Nat × Nat)) (x : Access) : State × Nat :=
  l.foldl (fun r p => if r.2 != 0 then r else r.1.farRd n p.1 p.2 x) (s, 0)

/-- Read n bytes at a device address: local memory, or the bytes that x brings from the host or another node. An
address error answers DECODE. Registers are read by RegWrite.lean's bus operations. -/
def State.devRead (s : State) (issuer a n : Nat) (x : Access := {}) : State × (Nat × List Byte) :=
  match s.target a with
  | .localMem b => s.ramRead issuer b n x
  | .host _ => (s, (x.status, (wordsBytes x.words).take n))
  | .node m b =>
    let r := s.farRds m (bulkPieces (n / 256 + 2) b n) x
    (r.1, (r.2, (wordsBytes x.words).take n))
  | .error => (s, (1, List.replicate n 0#8))

/-- Read n words at a device address. -/
def State.devWords (s : State) (issuer a n : Nat) (x : Access := {}) : State × (Nat × List Word) :=
  let r := s.devRead issuer a (4 * n) x
  (r.1, (r.2.1, bytesWords n r.2.2))

/-! Register blocks -/

/-- A register block: its addresses (R31), its rows, and its WRITE_IGNORED flag (R34). -/
structure Block where
  lo : Nat
  hi : Nat
  rows : List RegRow
  ignored : Fld
  deriving DecidableEq, Repr

/-- Table of the register blocks. -/
def blocks : List Block := [
  ⟨0x40000000, 0x40010000, regRowsSYS, SYS.STATUS.WRITE_IGNORED⟩,
  ⟨0x40010000, 0x40020000, regRowsPMU, PMU.STATUS.WRITE_IGNORED⟩,
  ⟨0x40020000, 0x40030000, regRowsOTP, OTP.STATUS.WRITE_IGNORED⟩,
  ⟨0x40030000, 0x40040000, regRowsERR, ERR.STATUS.WRITE_IGNORED⟩,
  ⟨0x40040000, 0x40050000, regRowsDMA, DMA.STATUS.WRITE_IGNORED⟩,
  ⟨0x40050000, 0x40060000, regRowsMEMC, MEMC.STATUS.WRITE_IGNORED⟩,
  ⟨0x40060000, 0x40080000, regRowsDRAMC, DRAMC.STATUS.WRITE_IGNORED⟩,
  ⟨0x40080000, 0x400A0000, regRowsHOSTIF, HOSTIF.STATUS.WRITE_IGNORED⟩,
  ⟨0x400A0000, 0x40100000, regRowsFAB, FAB.STATUS.WRITE_IGNORED⟩,
  ⟨0x40100000, 0x40120000, regRowsCMP, CMP.STATUS.WRITE_IGNORED⟩,
  ⟨0x40120000, 0x40140000, regRowsLQ, LQ.STATUS.WRITE_IGNORED⟩,
  ⟨0x40140000, 0x40180000, regRowsHPT, HPT.STATUS.WRITE_IGNORED⟩,
  ⟨0x40180000, 0x401C0000, regRowsWFE, WFE.STATUS.WRITE_IGNORED⟩,
  ⟨0x401C0000, 0x401E0000, regRowsFIRE, FIRE.STATUS.WRITE_IGNORED⟩,
  ⟨0x401E0000, 0x40200000, regRowsPOS, POS.STATUS.WRITE_IGNORED⟩,
  ⟨0x40200000, 0x40220000, regRowsNH, NH.STATUS.WRITE_IGNORED⟩,
  ⟨0x40220000, 0x40300000, regRowsCAL, CAL.STATUS.WRITE_IGNORED⟩,
  ⟨0x40300000, 0x40310000, regRowsWEIRMB, WEIRMB.STATUS.WRITE_IGNORED⟩]

/-- The block that decodes an address. -/
def blockOf (a : Nat) : Option Block := blocks.find? (fun b => b.lo ≤ a && a < b.hi)

/-- The first index of the register of a row at an address, if the row covers it. -/
def RegRow.index (r : RegRow) (a : Nat) : Option Nat :=
  if a < r.base then none
  else
    let d := a - r.base
    let i := if r.s1 == 0 then 0 else min (d / r.s1) (r.n1 - 1)
    let e := d - i * r.s1
    let j := if r.s2 == 0 then 0 else e / r.s2
    if i < r.n1 && j < r.n2 && i * r.s1 + j * r.s2 == d then some i else none

/-- The row of a register and its first index. -/
def rowOf (b : Block) (a : Nat) : Option (RegRow × Nat) :=
  b.rows.findSome? (fun r => (r.index a).map (fun i => (r, i)))

/-- Is the register's owning enable bit set? A row without an owner is never enabled. -/
def State.owned (s : State) (r : RegRow) (i : Nat) : Bool :=
  r.own != 0 && s.flag ⟨r.own + r.ownStride * i, r.ownBit, 1⟩

/-- Registers of disabled ports, channels and high-voltage controllers (R2), and the host-port registers on other nodes than the root (R326). -/
def State.hidden (s : State) (a : Nat) : Bool :=
  (s.small && ((0x40141000 ≤ a && a < 0x40143000 && 8 ≤ (a - 0x40141000) / 0x200)
    || (0x40120100 ≤ a && a < 0x40120500 && 8 ≤ (a - 0x40120100) / 0x40)
    || (0x401C1000 ≤ a && a < 0x401C1800 && 8 ≤ (a - 0x401C1000) / 0x80)
    || (0x40201000 ≤ a && a < 0x40201800 && 8 ≤ (a - 0x40201000) / 0x80)
    || (0x40010180 ≤ a && a < 0x40010200)
    || (0x40183000 ≤ a && a < 0x40183400 && 8 ≤ (a - 0x40183000) / 0x40)
    || (0x40190000 ≤ a && a < 0x4019C000 && !s.chanOn ((a - 0x40190000) / 0x400))
    || (0x40181000 ≤ a && a < 0x40182800 && !s.chanOn ((a - 0x40181000) / 0x80))))
  || (!s.root && ((0x40080020 ≤ a && a < 0x40080080) || (0x40080100 ≤ a && a < 0x40080200)
    || (0x40081000 ≤ a && a < 0x40088000) || (0x40090000 ≤ a && a < 0x400A0000)))

/-! Reads -/

/-- MTIME: fabric time divided by 64, counted on over the wraps of fabric time and never behind a value it held (R376). -/
def State.mtime (s : State) : Nat := max s.sys.mtimeFloor (((s.time : Int) + 2 ^ 48 * s.sys.wraps) / 64).toNat

def State.mtimecmp (s : State) : Nat := s.rd64 SYS.MTIMECMP_LO SYS.MTIMECMP_HI

/-- The timer interrupt is pending while MTIME is at or above MTIMECMP (R376). -/
def State.timerPending (s : State) : Bool := decide (s.mtimecmp ≤ s.mtime)

/-- The core's timer line follows MTIME and MTIMECMP. -/
def State.syncTimer (s : State) : State := s.onSys (fun y => { y with mtip := s.timerPending })

/-- The 32.768 kHz count (R409 stops it without its crystal). -/
def State.rtc (s : State) : Nat :=
  (s.pmu.rtcBase + (if s.flag PMU.CLK_STAT.X32_OK then (s.ticks - s.pmu.rtcFrom) * 8 / 390625 else 0)) % 2 ^ 48

/-- Ticks the watchdog has left (R380): it runs while EN = 1 and no fatal path is active. -/
def State.wdtTicks (s : State) : Nat :=
  if s.flag SYS.WDT_CTL.EN && !s.flag SYS.SUMP_STAT.ACTIVE then s.sys.wdtEnd - s.ticks else s.sys.wdtLeft

/-- HOSTIF.SJOB_k: RUN while the compositor composes a job, and a copy of CMP.JOB_ID. -/
def State.sjob (s : State) : Word := w32 (nat01 s.cmp.job.isSome * 2 ^ 16 + s.get CMP.JOB_ID.ID)

/-- What a read of the register at a returns, before any side effect of the read. -/
def State.view (s : State) (a : Nat) : Word :=
  if s.hidden a then 0#32
  else if a == SYS.IRQ_PEND then w32 s.irqPend
  else if a == SYS.MTIME_LO then w32 s.mtime
  else if a == FAB.FT_LO then w32 s.time
  else if a == PMU.RTC_LO then w32 s.rtc
  else if a == SYS.WDT_STAT then withField (s.rd a) 16 16 (min 65535 ((s.wdtTicks + 1599999) / 1600000))
  else if HOSTIF.SCONS 0 ≤ a && a ≤ HOSTIF.SCONS 7 && (a - HOSTIF.SCONS 0) % 16 == 0 then s.rd (CMP.STREAM_CONS ((a - HOSTIF.SCONS 0) / 16))
  else if HOSTIF.SJOB 0 ≤ a && a ≤ HOSTIF.SJOB 7 && (a - HOSTIF.SJOB 0) % 16 == 0 then s.sjob
  else (s.printView a).getD (s.rd a)

/-- The side effects of a full read: RC bits clear, and some registers latch or pop (R7, R8, R376, R378). -/
def State.afterRead (s : State) (a : Nat) (rc : Word) : State :=
  let t := s.when (rc != 0#32) (fun u => u.wr a (u.rd a &&& ~~~rc))
  if a == SYS.MTIME_LO then t.wr SYS.MTIME_HI (w32 (s.mtime / 2 ^ 32))
  else if a == FAB.FT_LO then t.wr FAB.FT_HI (w32 (s.time / 2 ^ 32))
  else if a == PMU.RTC_LO then t.wr (PMU.RTC_LO + 4) (w32 (s.rtc / 2 ^ 32))
  else if a == SYS.JLOG_LOST then t.onSys (fun y => { y with jlogOvf := false })
  else t

/-- SYS.JLOG_0, JLOG_1 and JLOG_STAT follow the log (R378). -/
def State.syncJlog (s : State) : State :=
  let e := s.sys.jlog.headD (0#32, 0#32)
  ((s.wr SYS.JLOG_0 e.1).wr SYS.JLOG_1 e.2).put SYS.JLOG_STAT.CNT s.sys.jlog.length

/-- Read a whole aligned register word for an issuer (R5, R29). -/
def State.regRead (s : State) (issuer a : Nat) : State × Word :=
  match blockOf a with
  | none => (s.decodeError issuer a, 0#32)
  | some b =>
    match rowOf b a with
    | none => (s, 0#32)
    | some (r, _) =>
      if s.hidden a then (s, 0#32)
      else if a == SYS.JLOG_1 then
        ((s.onSys (fun y => { y with jlog := y.jlog.drop 1 })).syncJlog, s.view a)
      else (s.afterRead a (w32 r.rc), (s.fuseView issuer a).getD (s.view a))

/-! Stores -/

/-- Put the bits of v that mask names into x. -/
def mergeBits (x v mask : Word) : Word := (x &&& ~~~mask) ||| (v &&& mask)

/-- Does a write to a class-B field of a register go to its shadow (R10, R32)? A disabled block sets both copies; NH
and CAL wait only while a job runs; a waveform channel whose sequencer is idle is always at its boundary. -/
def State.shadowed (s : State) (a : Nat) (r : RegRow) (i : Nat) : Bool :=
  if 0x40010000 ≤ a && a < 0x40020000 then true
  else if 0x40200000 ≤ a && a < 0x40300000 then s.owned r i && s.running.isSome
  else if 0x40181000 ≤ a && a < 0x40183000 then s.owned r i && s.flag (WFE.CH_STATUS.BUSY i)
  else s.owned r i

/-- Bits that no plain write stores because a rule of their own governs them (R17, R294, R368, R380, R386). -/
def State.heldBits (s : State) (a : Nat) : Word :=
  if a == SYS.WDT_CTL && s.flag SYS.WDT_CTL.LOCK then 0xCF00FFFF#32
  else if (a == SYS.SUMP_BASE_LO || a == SYS.SUMP_BASE_HI) && s.flag SYS.SUMP_STAT.ACTIVE then 0xFFFFFFFF#32
  else if a == DRAMC.CTL && s.flag DRAMC.CTL.EN then 1#32
  else if a == FAB.NODE && s.root then 0x3F#32
  else 0#32

/-- Store a write under the access code and class of each field (R7, R9, R10, R32, R33, R34); act names the bits whose
change is an action with a rule of its own and is left to that rule. -/
def State.storeReg (s : State) (b : Block) (r : RegRow) (i a : Nat) (v act : Word) : State :=
  let old := s.rd a
  let held := s.heldBits a ||| act
  let on := s.owned r i
  let stat := w32 r.stat
  let t := s.when (on && (v ^^^ old) &&& stat != 0#32) (·.raise b.ignored)
  let live := (w32 r.live ||| (if on then 0#32 else stat)) &&& ~~~held
  let bnd := w32 r.bnd &&& ~~~held
  let u := t.when (bnd != 0#32) (fun w => if s.shadowed a r i then w.keepActive a else w.loadB a (a + 1))
  u.wr a (mergeBits old v (live ||| bnd) &&& ~~~(v &&& w32 r.w1c &&& ~~~held))

end Sys2Proof.Machine
end

