-- ==== Sys2Proof/Machine/JobOps.lean ====
section
/-! DEFINITION. Operations on jobs that several blocks share: the compare (R151), arming undone (R17), a running job
aborted by a disabled block (R35), table swaps on idle engines (R22), and enables that wait for a PLL (R408). -/

namespace Sys2Proof.Machine

/-- The line compare in 24.24 form (R141). -/
def State.compare (s : State) : Nat := s.get FIRE.CMP_FRAC.CMP + 2 ^ 24 * s.get FIRE.CMP_INT.CMP

/-- Set the line compare, modulo 2^24 counts. -/
def State.setCompare (s : State) (c : Nat) : State :=
  (s.wr FIRE.CMP_FRAC (w32 (c % 2 ^ 24))).wr FIRE.CMP_INT (w32 (c / 2 ^ 24 % 2 ^ 24))

/-- C(0) of a job (R151): START, or one pitch beyond the last fire line of the job before. -/
def State.firstCompare (s : State) (j : Job) : Nat :=
  if j.startMode == 1 then
    match s.fire.prev with
    | some (c, p) => (c + p) % 2 ^ 48
    | none => j.start
  else j.start

/-- Load the armed job's C(0) when no other compare is loaded (R151); the check of R154 is then due. -/
def State.loadArmed (s : State) : State :=
  match s.armed with
  | some j =>
    if s.fire.loaded then s
    else (s.setCompare (s.firstCompare j)).onFire (fun f => { f with loaded := true, cmpJob := j.seq, cmpY := 0, check := true })
  | none => s

/-- Clear the compare when it belongs to job q. -/
def State.dropCompare (s : State) (q : Nat) : State :=
  if s.fire.loaded && s.fire.cmpJob == q then (s.setCompare 0).onFire (fun f => { f with loaded := false, check := false }) else s

/-- Disarm the armed job: it is QUEUED again and keeps its checked program (R17); the rail state of its heads may settle
then (second case of R127). -/
def State.disarm (s : State) : State :=
  match s.armed with
  | some j => ((s.dropCompare j.seq).onJob j.seq (fun k => { k with st := .queued })).syncFire.settleHeads
  | none => s

/-- Cancel the triggers that sel picks. A line whose slot still plays sends its tap word when that ends, one whose slots
have ended sends it now, and one that has not played sends none (R161). -/
def State.cancelTrigs (s : State) (sel : Nat → Bool) : State :=
  let gone := s.fire.trigs.filter (fun t => sel t.seq)
  let hit := fun (a : TapAcc) => gone.any (fun t => t.head == a.head && t.line == a.line)
  let plays := fun (a : TapAcc) => s.wfe.any (fun k => match k.slot with
    | some z => z.line == a.line && [2 * a.head, 2 * a.head + 1, 32 + a.head].any (fun c => (s.chan c).slot == some z)
    | none => false)
  let t := s.each (s.fire.taps.filter (fun a => hit a && a.played && !plays a)) (fun a u => u.sendTap a)
  t.onFire (fun f => { f with
    trigs := f.trigs.filter (fun t => !sel t.seq)
    taps := (f.taps.filter (fun a => !hit a || plays a)).map (fun a => if hit a then { a with slots := 1 } else a) })

/-- A job ends before its last fire line: its triggers are cancelled and its compare dropped. -/
def State.endJob (s : State) (q status : Nat) : State :=
  let a := (s.dropCompare q).complete q status 0 0
  let b := a.cancelTrigs (· == q)
  ((b.loadArmed).syncFire).syncCmp

/-- A data-plane block of this source group is disabled: with a job running the job completes ABORTED, and the disable is
reported, whatever stop the report asserts (R35). -/
def State.abortRunning (s : State) (group : Nat) : State :=
  match s.running with
  | some j => (s.endJob j.seq 2).report Src.BLOCK_DISABLED_RUNNING group (j.id % 2 ^ 16)
  | none => s

/-- Complete the swaps that wait for an idle engine (R22). -/
def State.settleSwaps (s : State) : State :=
  let t := s.when s.cmpIdle (·.swapComposeIdle)
  (t.when t.fireIdle (·.swapCalIdle)).unreachRun

/-! Enables and PLLs -/

/-- A block's enable takes effect (R408). -/
def State.startBlock (s : State) (code : Nat) : State :=
  if code == 0 then s.wr CMP.LINE_CNT 0#32
  else if code == 1 then ((s.wr FIRE.LINE_CNT 0#32).wr FIRE.TAP_CNT 0#32).onFire (fun f => { f with prev := none })
  else if code == 9 then s.each ((List.range 4).filter (fun p => s.flag (FAB.PORT_CTL.EN p))) (fun p t => t.put (FAB.PORT_STAT.STATE p) 1)
  else s

/-- Lock bit of a PLL in CLK_STAT: 0 SYS, 1 CORE, 2 TIME, 3 DDR, 4 SER. -/
def pllFld (p : Nat) : Fld := ⟨PMU.CLK_STAT, p, 1⟩

/-- Set an enable bit; its PLL starts if need be, and the enable takes effect at once, or at the lock of its PLL (R408).
Nothing is enabled while internal reset is held (R429). -/
def State.enableBlock (s : State) (en : Fld) (pll code : Nat) : State :=
  if s.held then s else
  let r := s.raise en
  let t := { r with pmu := { r.pmu with pllRun := insertAsc r.pmu.pllRun pll } }
  if t.flag (pllFld pll) then t.startBlock code
  else { t with pmu := { t.pmu with waiting := insertAsc t.pmu.waiting code } }

/-- Clear an enable bit; a wait for a PLL ends. -/
def State.disableBlock (s : State) (en : Fld) (code : Nat) : State :=
  let t := s.drop en
  { t with pmu := { t.pmu with waiting := t.pmu.waiting.filter (· != code) } }

/-- Domain of a block whose enable may wait (table of domains). -/
def codeDomain (code : Nat) : Nat :=
  if code < 4 then 4 else if code == 4 then 5 else if code == 6 then 6 else if code == 8 then 3 else if code == 9 then 7 else 9

/-- Does domain d run (table of domains)? STILL gates CORE, SRAM, DATA and DMA and keeps DRAM in refresh; LOW leaves AON and
the PCIe link; none runs while internal reset is held. -/
def State.domainRuns (s : State) (d : Nat) : Bool :=
  !s.held && match s.get PMU.STATE_STAT.STATE with
  | 0 => true
  | 1 => d == 0 || (5 ≤ d && d ≤ 8)
  | 2 => d == 0 || d == 8
  | _ => false

/-- The block is enabled, its enable has taken effect (R408), and its domain runs (R414). -/
def State.blockOn (s : State) (en : Fld) (code : Nat) : Bool :=
  s.flag en && !s.pmu.waiting.contains code && s.domainRuns (codeDomain code)

def State.cmpOn (s : State) : Bool := s.blockOn CMP.CTL.EN 0
def State.fireOn (s : State) : Bool := s.blockOn FIRE.CTL.EN 1
def State.stopped (s : State) : Bool := s.flag FIRE.SLUICE_STAT.STOPPED

end Sys2Proof.Machine
end

