-- ==== Sys2Proof/Machine/Arch.lean ====
section
/-! DEFINITION. The commands of the five meeting points (01_architecture.md): the arm gate, table swaps, error reports
and the sluice. -/

namespace Sys2Proof.Machine

/-- A write of ARM_EN (R16, R17, R380). -/
def State.setArm (s : State) (on : Bool) : State :=
  if on then (s.raise SYS.MGMT_CTL.ARM_EN).put SYS.WDT_STAT.RESETS 0
  else (s.drop SYS.MGMT_CTL.ARM_EN).disarm

/-- ARM_EN (R17). -/
def execArmEn (on : Bool) (s : State) : Host.Outcome State Fault Refusal := .next (s.setArm on)

/-- A write of a mask to SYS.TBL_SWAP: tables already requested are left out (R19); line L is the next compose line
when a compose table is requested (R18). -/
def State.requestSwap (s : State) (mask : Nat) : State :=
  let new := mask % 16 &&& (15 - s.get ⟨SYS.TBL_SWAP, 0, 4⟩)
  if new == 0 then s
  else
    let l := if new &&& 7 == 0 then 0 else (s.get CMP.LINE_CNT.COUNT + 1) % 2 ^ 32
    { (s.put ⟨SYS.TBL_SWAP, 0, 4⟩ (s.get ⟨SYS.TBL_SWAP, 0, 4⟩ ||| new)) with
      swaps := s.swaps ++ [{ mask := new, left := new, lineL := l }] }

/-- TBL_SWAP_CAL (R18): the operand is the whole mask of the write. -/
def execTblSwapCal (mask : Nat) (s : State) : Host.Outcome State Fault Refusal := .next (s.when (bit mask 3) (·.requestSwap mask))
/-- TBL_SWAP_RAIL (R18). -/
def execTblSwapRail (mask : Nat) (s : State) : Host.Outcome State Fault Refusal := .next (s.when (bit mask 2) (·.requestSwap mask))
/-- TBL_SWAP_COMP (R18). -/
def execTblSwapComp (mask : Nat) (s : State) : Host.Outcome State Fault Refusal := .next (s.when (bit mask 1) (·.requestSwap mask))
/-- TBL_SWAP_HEALTH (R18). -/
def execTblSwapHealth (mask : Nat) (s : State) : Host.Outcome State Fault Refusal := .next (s.when (bit mask 0) (·.requestSwap mask))

/-- SWAP_IDLE_COMPLETE (R22). -/
def execSwapIdleComplete (s : State) : Host.Outcome State Fault Refusal := .next s.settleSwaps

/-- Number of sources each group names (table of source IDs). -/
def groupSizes : List Nat := [12, 10, 6, 4, 8, 8, 9, 5, 7, 5, 11, 6, 8, 9, 5]

/-- Is the source ID named by the table? -/
def srcNamed (q : Nat) : Bool := q % 16 < groupSizes.getD (q / 16) 0

/-- ERROR_REPORT (R383): a block reports source q with an instance and a detail; a reserved ID reports nothing. -/
def execErrorReport (q inst detail : Nat) (s : State) : Host.Outcome State Fault Refusal :=
  .next (s.when (!s.held && srcNamed q) (·.report q inst detail))

/-! The sluice -/

/-- SLUICE_PIN (R158): the pin has been low for 10 ns. -/
def execSluicePin (s : State) : Host.Outcome State Fault Refusal :=
  .next (((s.onFire (fun f => { f with pinLow := true })).syncPin).halt 1)

/-- SLUICE_SET (R158). -/
def execSluiceSet (s : State) : Host.Outcome State Fault Refusal := .next (s.halt 4)

/-- Release of the node's own drive; the check follows 1.0 µs later (R160). -/
def State.sluiceClear (s : State) : State :=
  ((s.drop FIRE.SLUICE_STAT.DRIVE).syncPin).onFire (fun f => { f with clrDue := true })

/-- SLUICE_CLR (R160). -/
def execSluiceClr (s : State) : Host.Outcome State Fault Refusal := .next s.sluiceClear

/-- The release check (R160), with the level another device gives the pin. -/
def State.sluiceCheck (s : State) (low : Bool) : State :=
  let t := (s.onFire (fun f => { f with clrDue := false, pinLow := low })).syncPin
  if !t.flag FIRE.SLUICE_STAT.PIN && t.sys.stops.isEmpty && !t.fab.chanStop then
    ((t.drop FIRE.SLUICE_STAT.STOPPED).drop FIRE.SLUICE_STAT.CAUSE).drop FIRE.STATUS.STOPPED
  else t.raise FIRE.STATUS.WRITE_IGNORED

/-- SLUICE_CLR_CHECK (R160). -/
def execSluiceClrCheck (low : Bool) (s : State) : Host.Outcome State Fault Refusal :=
  .next (s.when s.fire.clrDue (·.sluiceCheck low))

/-! Enable of the fire engine -/

/-- Setting FIRE.CTL.EN (R136): refused while AXIS is reserved. -/
def State.fireEnable (s : State) : State :=
  if s.flag FIRE.CTL.EN then s
  else if 5 ≤ s.get FIRE.CFG.AXIS then
    (s.raise FIRE.STATUS.CFG_ERR).report Src.FIRE_CFG 0 (s.get FIRE.CFG.AXIS)
  else s.enableBlock FIRE.CTL.EN 2 1

/-- FIRE_ENABLE (R136). -/
def execFireEnable (s : State) : Host.Outcome State Fault Refusal := .next s.fireEnable

/-- Clearing FIRE.CTL.EN (R35): the running job completes ABORTED, and nothing that was placed is issued. -/
def State.fireDisable (s : State) : State :=
  if !s.flag FIRE.CTL.EN then s
  else
    let a := (s.disableBlock FIRE.CTL.EN 1).abortRunning 11
    let b := ((a.disarm).cancelTrigs (fun _ => true)).onFire (fun f => { f with
      loaded := false, check := false, prev := none, contig := none, tRefPrev := none, overRun := false })
    let c := (b.setCompare 0).drop FIRE.STATUS.PRED_VALID
    { c with act := c.act.filter (fun e => !(0x401C0000 ≤ e.1 && e.1 < 0x401E0000)) }.settleSwaps

/-- FIRE_DISABLE (R35). -/
def execFireDisable (s : State) : Host.Outcome State Fault Refusal := .next s.fireDisable

end Sys2Proof.Machine
end

