-- ==== Sys2Proof/Machine/FabLink.lean ====
section
/-! DEFINITION. The link layer of the fabric (11_fabric.md, Links, Packets, Channels, Routing, Failover): what a port does
with an arriving packet, acknowledgement and replay, credits, routing and failover, training and loss. -/

namespace Sys2Proof.Machine

/-! Arrival (R287, R289, R290) -/

/-- The type is one of the table of packet types. -/
def typeKnown (vc typ : Nat) : Bool :=
  match vc with
  | 0 => (1 ≤ typ && typ ≤ 5) || (8 ≤ typ && typ ≤ 11)
  | 1 => typ == 1 || typ == 2
  | 2 => 1 ≤ typ && typ ≤ 4
  | _ => 1 ≤ typ && typ ≤ 6

/-- Malformed by its header (R287). -/
def badHeader (k : Packet) : Bool :=
  !typeKnown k.vc k.typ || 64 < k.len || (!k.sr && 16 < k.hop) || (k.sr && k.vc != 0)

/-- Receive buffers of a class (table of channel classes). -/
def bufCount (cls : Nat) : Nat := [4, 8, 32, 4].getD cls 0

/-- The port has a free receive buffer of the class. -/
def FabPort.roomFor (f : FabPort) (cls : Nat) : Bool := f.inBuf.countP (·.2 == cls) < bufCount cls

/-- A malformed packet is counted and reported (R287, R324). -/
def State.malformed (s : State) (p : Nat) (k : Packet) : State := s.reportOnce FAB.STATUS.PKT_ERR Src.FAB_PKT p k.h0.toNat

/-- The last LSEQ received in order. -/
def FabPort.lastSeq (f : FabPort) : Nat := (f.rxSeq + 255) % 256

/-- Send ACK (R289). -/
def State.sendAck (s : State) (p : Nat) : State :=
  (s.onPort p (fun f => { f with unacked := 0 })).sendLink p (mkLink 2 (w32 (s.port p).lastSeq))

/-- Send NAK (R289). -/
def State.sendNak (s : State) (p : Nat) : State := s.sendLink p (mkLink 3 (w32 (s.port p).lastSeq))

/-- Acknowledge an in-order packet: ACK after at most 8 (R289). -/
def State.takeSeq (s : State) (p : Nat) : State :=
  let t := s.onPort p (fun f => { f with rxSeq := (f.rxSeq + 1) % 256, unacked := f.unacked + 1 })
  t.when (8 ≤ (t.port p).unacked) (·.sendAck p)

/-- A receive buffer takes the packet. -/
def State.takeBuf (s : State) (p : Nat) (k : Packet) : State :=
  let b := s.fab.nextBuf
  (s.onPort p (fun f => { f with inBuf := f.inBuf ++ [(b, k.cls)] })).onFab (fun g => { g with nextBuf := b + 1 })

/-- A packet arrives at port p, good when its CRC word holds (R287); port 4 is the node's own loop. The answer names the receive
buffer when the packet is to be acted on (0 for a LINK or looped packet). -/
def State.receive (s : State) (p : Nat) (good : Bool) (k : Packet) : State × Option Nat :=
  if p == 4 then
    (match s.fab.loop with
     | j :: t => if j == k then (s.onFab (fun b => { b with loop := t }), some 0) else (s, none)
     | [] => (s, none))
  else if !s.portUp p then (s, none)
  else
    let a := s.bump (wordFld (FAB.RX_WORDS p)) k.size
    if !good then ((a.bump (wordFld (FAB.CRC_ERR_CNT p))).sendNak p, none)
    else if k.vc == 3 then (if badHeader k then (a.malformed p k, none) else (a, some 0))
    else if k.lseq != (a.port p).rxSeq then (a.sendNak p, none)
    else
      let b := a.takeSeq p
      if !(b.port p).roomFor k.cls then (b.malformed p k, none)
      else if badHeader k then ((b.malformed p k).countFreed p k.cls, none)
      else (b.takeBuf p k, some b.fab.nextBuf)

/-! Replay and failover (R285, R289, R303) -/

/-- Drop the packets of the replay buffer up to the one with this LSEQ. -/
def releaseTo (lseq : Nat) (l : List Packet) : List Packet :=
  if l.any (·.lseq == lseq) then (l.dropWhile (·.lseq != lseq)).drop 1 else l

/-- An acknowledgement arrives; progress ends a run of replays (R285). -/
def State.acked (s : State) (p lseq : Nat) : State :=
  let rest := releaseTo lseq (s.port p).replay
  (s.onPort p (fun f => { f with replay := rest, replays := if rest.length < f.replay.length then 0 else f.replays })).pumpAll p

/-- The output port of a routed packet that came in on port arr, and whether it leaves as a detour (R300, R304). -/
def State.pick (s : State) (k : Packet) (arr : Option Nat) : Option (Nat × Bool) :=
  if k.detour then
    let ok := fun (p : Nat) => s.routable p && arr != some p
    if !s.flag (FAB.ROUTE.VALID k.dst) then none
    else if ok (s.get (FAB.ROUTE.PRI k.dst)) then some (s.get (FAB.ROUTE.PRI k.dst), true)
    else if ok (s.get (FAB.ROUTE.ALT k.dst)) then some (s.get (FAB.ROUTE.ALT k.dst), true)
    else none
  else s.routePort k.dst

/-- Put a packet at the head of a port's queue. -/
def State.enqueueFirst (s : State) (p : Nat) (k : Packet) (b : Nat) : State :=
  s.onPort p (fun f => { f with waiting := (s.leaving p k, b) :: f.waiting })

/-- The packets of a lost port, in order, that failover moves: routed ones only (R303). -/
def movable (k : Packet) : Bool := !k.sr && !k.isFlood && !k.isType 1 1

/-- Move the unacknowledged and waiting packets of lost port p to the ports of their destinations, ahead of any later
packet; the others are discarded (R303). -/
def State.moveOver (s : State) (p : Nat) : State :=
  let f := s.port p
  let gone := f.replay.map (fun k => (k, 0)) ++ f.waiting
  let a := s.onPort p (fun g => { g with replay := [], waiting := [] })
  let b := a.each (gone.filter (fun w => movable w.1)).reverse (fun w t =>
    match t.pick w.1 none with
    | some (q, det) => t.enqueueFirst q (asDetour w.1 det) w.2
    | none => (t.noPath w.1).settleBuf w.2)
  let c := b.each (gone.filter (fun w => !movable w.1)) (fun w t => t.settleBuf w.2)
  c.each (List.range 4) (fun q t => t.pumpAll q)

/-- Routes over a lost port switch to ALT where that link is UP (R303). -/
def State.switchRoutes (s : State) (p : Nat) : State :=
  s.each ((List.range 64).filter (fun d => s.get (FAB.ROUTE.PRI d) == p && s.portUp (s.get (FAB.ROUTE.ALT d))
      && !s.flag (FAB.ROUTE.ON_ALT d)))
    (fun d t => (t.raise (FAB.ROUTE.ON_ALT d)).bump (wordFld FAB.FAILOVER_CNT))

/-- The port that fabric time comes from (R315): none in HOLDOVER. -/
def State.timePort (s : State) : Option Nat :=
  if s.flag FAB.TIME_STAT.HOLDOVER then none
  else if s.flag FAB.TIME_STAT.ON_ALT then some (s.get FAB.TIME_CFG.ALT_PARENT)
  else some (s.get FAB.TIME_CFG.PARENT)

/-- LOCKED ends (R314). -/
def State.unlock (s : State) : State := (s.drop FAB.TIME_STAT.LOCKED).onFab (fun b => { b with lockRun := 0, unlockRun := 0 })

/-- The time source is lost: the other parent takes over if its link is UP and its last TIME packet reported LOCKED, else
HOLDOVER begins (R315). -/
def State.loseTime (s : State) (p : Nat) : State :=
  if s.root || s.timePort != some p then s
  else
    let other := if s.flag FAB.TIME_STAT.ON_ALT then s.get FAB.TIME_CFG.PARENT else s.get FAB.TIME_CFG.ALT_PARENT
    if s.portUp other && other != p && (s.port other).timeLocked then s.put FAB.TIME_STAT.ON_ALT (1 - s.get FAB.TIME_STAT.ON_ALT)
    else (((s.raise FAB.TIME_STAT.HOLDOVER).drop FAB.TIME_STAT.ON_ALT).unlock).onFab (fun b => { b with slew := none })

/-- The link on port p is lost with a reason (R285, R303, R315). -/
def State.linkLost (s : State) (p why : Nat) : State :=
  if !s.portUp p then s
  else
    let a := ((s.put (FAB.PORT_STAT.STATE p) 5).raise (FAB.PORT_STAT.LOST p)).bump (wordFld (FAB.LOSS_CNT p))
    let b := ((a.report Src.FAB_LINK_DOWN p why).switchRoutes p).loseTime p
    ((b.onPort p (fun f => { f with replays := 0, timeLocked := false, dlyT1 := none })).moveOver p).unreachRun

/-- LINK_LOST (R285): 1 block lock lost, 2 no good packet for 4 µs, 3 replays without progress. -/
def execLinkLost (p why : Nat) (s : State) : Host.Outcome State Fault Refusal := .next (s.linkLost p why)

/-- Replay every unacknowledged packet; the loss of R285 when four replays have brought no progress. -/
def State.replayAll (s : State) (p : Nat) : State :=
  let f := s.port p
  if f.replay.isEmpty then s
  else if 4 ≤ f.replays then s.linkLost p 3
  else
    let a := s.onPort p (fun g => { g with replays := g.replays + 1, replay := g.replay.map s.stamped })
    (a.bump (wordFld (FAB.REPLAY_CNT p))).bump (wordFld (FAB.TX_WORDS p)) ((f.replay.map (·.size)).foldl (· + ·) 0)

/-- REPLAY_TIMEOUT (R289): no ACK progress for 1 µs. -/
def execReplayTimeout (p : Nat) (s : State) : Host.Outcome State Fault Refusal := .next (s.when (s.portUp p) (·.replayAll p))

/-- ACK (R289). -/
def execAckPacket (p : Nat) (crc : Word) (k : Packet) (s : State) : Host.Outcome State Fault Refusal :=
  let r := s.receive p (k.crcGood crc) k
  .next (r.1.when (r.2.isSome && k.isType 3 2) (·.acked p (fieldOf k.h1 0 8)))

/-- NAK (R289). -/
def execNakPacket (p : Nat) (crc : Word) (k : Packet) (s : State) : Host.Outcome State Fault Refusal :=
  let r := s.receive p (k.crcGood crc) k
  .next (r.1.when (r.2.isSome && k.isType 3 3) (fun t => (t.acked p (fieldOf k.h1 0 8)).replayAll p))

/-- ACK_SEND (R289): 500 ns have passed since the last unacknowledged in-order packet. -/
def execAckSend (p : Nat) (s : State) : Host.Outcome State Fault Refusal :=
  .next (s.when (s.portUp p && (s.port p).unacked != 0) (·.sendAck p))

/-- CREDIT_SEND (R290). -/
def execCreditSend (p : Nat) (s : State) : Host.Outcome State Fault Refusal := .next (s.when (s.portUp p) (·.sendCredit p))

/-- CREDIT counts received: each class gains what has been freed since (R290). -/
def State.takeCredits (s : State) (p : Nat) (w : Word) : State :=
  let now := [fieldOf w 24 8, fieldOf w 16 8, fieldOf w 8 8, fieldOf w 0 8]
  (s.onPort p (fun f => { f with
    credits := (List.range 4).map (fun c => f.credits.getD c 0 + (now.getD c 0 + 256 - f.freedSeen.getD c 0) % 256)
    freedSeen := now })).pumpAll p

/-- CREDIT (R290). -/
def execCreditPacket (p : Nat) (crc : Word) (k : Packet) (s : State) : Host.Outcome State Fault Refusal :=
  let r := s.receive p (k.crcGood crc) k
  .next (r.1.when (r.2.isSome && k.isType 3 1) (·.takeCredits p k.h1))

/-- KEEPALIVE (R286). -/
def execKeepalive (p : Nat) (crc : Word) (k : Packet) (s : State) : Host.Outcome State Fault Refusal :=
  let r := s.receive p (k.crcGood crc) k
  .next (r.1.when (r.2.isSome && k.isType 3 4) (·.wr (FAB.NBR_NODE p) k.h1))

/-! Training (R284) -/

/-- The port trains: enabled with the fabric, whose PLL has locked, and not UP. -/
def State.trains (s : State) (p : Nat) : Bool :=
  p < 4 && s.blockOn FAB.CTL.EN 9 && s.flag (FAB.PORT_CTL.EN p) && !s.portUp p

/-- The port is in DETECT, TRAIN or ALIGN. -/
def State.inTraining (s : State) (p : Nat) : Bool := 1 ≤ s.get (FAB.PORT_STAT.STATE p) && s.get (FAB.PORT_STAT.STATE p) ≤ 3

/-- The rate at which the port trains: 8.0 Gb/s after 3 failed attempts where ALLOW_8G permits it. -/
def State.trainsAt16 (s : State) (p : Nat) : Bool := !(s.flag (FAB.PORT_CTL.ALLOW_8G p) && 3 ≤ (s.port p).attempts)

/-- What this end's training ordered sets carry on a lane: IDENT, port number, lane number and node word (R284). -/
def State.trainWords (s : State) (p lane : Nat) : List Word :=
  [s.rd FAB.IDENT_LO, s.rd FAB.IDENT_HI, w32 p, w32 lane, s.rd FAB.NODE]

/-- Training moves on to TRAIN, where this end sends its training words on both lanes, and then to ALIGN. -/
def State.trainOn (s : State) (p : Nat) : State :=
  match s.get (FAB.PORT_STAT.STATE p) with
  | 1 => (s.put (FAB.PORT_STAT.STATE p) 2).onPort p (fun f => { f with trainOut := f.trainOut ++ [s.trainWords p 0, s.trainWords p 1] })
  | 2 => s.put (FAB.PORT_STAT.STATE p) 3
  | _ => s

/-- With the clock a port in DETECT or TRAIN moves on when it is ready: the spec gives no instant (log entry 98). -/
def State.trainTick (s : State) : State :=
  s.each ((List.range 4).filter (fun p => s.trains p && Config.trainMoves s.ticks p)) (fun p t => t.trainOn p)

/-- LINK_UP (R284): training is complete, through TRAIN and ALIGN; the neighbour's identity, the rate, the width and the
corrections that training found. A lower width needs its permission. -/
def execLinkUp (p : Nat) (identLo identHi : Word) (rate16 width2 swap : Bool) (inv : Nat) (s : State) :
    Host.Outcome State Fault Refusal :=
  let widthOk := width2 || s.flag (FAB.PORT_CTL.ALLOW_X1 p)
  if !(s.trains p && s.inTraining p && rate16 == s.trainsAt16 p && widthOk) then .next s
  else
    let t := (s.trainOn p).trainOn p
    let a := (((t.put (FAB.PORT_STAT.STATE p) 4).put (FAB.PORT_STAT.RATE16 p) (nat01 rate16)).put
      (FAB.PORT_STAT.WIDTH2 p) (nat01 width2)).put (FAB.PORT_STAT.LANE_SWAP p) (nat01 swap)
    let b := ((a.put (FAB.PORT_STAT.POL_INV p) inv).raise (FAB.PORT_STAT.NBR_VALID p)).wr (FAB.NBR_IDENT_LO p) identLo
    .next (((b.wr (FAB.NBR_IDENT_HI p) identHi).onPort p (fun f => { waiting := f.waiting, trainOut := f.trainOut })).pumpAll p)

/-- TRAIN_RETRY (R284, R285): training begins again from DETECT. -/
def execTrainRetry (p : Nat) (s : State) : Host.Outcome State Fault Refusal :=
  .next (s.when (s.trains p) (fun t => (t.put (FAB.PORT_STAT.STATE p) 1).onPort p (fun f =>
    { f with attempts := if s.get (FAB.PORT_STAT.STATE p) == 5 then 0 else f.attempts + 1 })))

/-- Forget what a disabled port holds, and free the buffers of what waited in it. -/
def State.portDown (s : State) (p : Nat) : State :=
  let w := (s.port p).waiting
  (((s.put (FAB.PORT_STAT.STATE p) 0).onPort p (fun _ => {})).each w (fun x t => t.settleBuf x.2))

/-- A write of PORT_CTL_p.EN (R284); the first port of an enabled fabric starts PLL_SER (R408). -/
def State.setPortEn (s : State) (p : Nat) (on : Bool) : State :=
  let t := s.put (FAB.PORT_CTL.EN p) (nat01 on)
  if s.flag (FAB.PORT_CTL.EN p) == on then s
  else if on then
    t.when (t.flag FAB.CTL.EN) (fun u =>
      if u.pmu.pllRun.contains 4 then u.when (u.blockOn FAB.CTL.EN 9) (·.put (FAB.PORT_STAT.STATE p) 1)
      else u.enableBlock FAB.CTL.EN 4 9)
  else (t.loseTime p).portDown p

/-! Forwarding (R288, R299, R300) -/

/-- Forward a routed packet that arrived on port p and occupies buffer b. -/
def State.forward (s : State) (p b : Nat) (k : Packet) : State :=
  if 16 ≤ k.hop then (s.malformed p k).settleBuf b
  else
    match s.pick k (some p) with
    | none => (s.noPath k).unreachRun.settleBuf b
    | some (q, det) =>
      if k.dbit && !det && s.get (FAB.PORT_CTL.DIR q) == 1 then
        (s.reportOnce FAB.STATUS.ROUTE_ERR Src.FAB_ROUTE p k.h1.toNat).settleBuf b
      else s.enqueue q (asDetour { k with h0 := withField k.h0 0 5 (k.hop + 1) } det) b

/-- Forward a flooded packet that arrived on port p (R301); with another port to leave on, HOP must not exceed 16 (R287). -/
def State.forwardFlood (s : State) (p b : Nat) (k : Packet) : State :=
  if 16 ≤ k.hop && (List.range 4).any (fun q => q != p && s.portUp q) then (s.malformed p k).settleBuf b
  else (s.floodOut (some p) { k with h0 := withField k.h0 0 5 (k.hop + 1) } b).settleBuf b

/-- What a node does with an arriving packet of channel vc and type typ that is routed: another node's is forwarded,
its own is given to f, and then its buffer is free. -/
def State.routed (s : State) (p : Nat) (good : Bool) (k : Packet) (vc typ : Nat) (f : State → State) : State :=
  let r := s.receive p good k
  match r.2 with
  | none => r.1
  | some b =>
    if !k.isType vc typ then r.1.settleBuf b
    else if p == 4 || k.dst == r.1.nodeId then (f r.1).settleBuf b
    else r.1.forward p b k

/-- What a node does with a flooded packet of channel vc and type typ: a new one is given to f and then forwarded
(R301). -/
def State.flooded (s : State) (p : Nat) (good : Bool) (k : Packet) (vc typ : Nat) (f : State → State) : State :=
  let r := s.receive p good k
  match r.2 with
  | none => r.1
  | some b =>
    if k.isType vc typ && r.1.isNew k then (f (r.1.noteFlood k)).forwardFlood p b k else r.1.settleBuf b

/-! Source-routed packets (R295) -/

/-- Send a source-routed packet with REM hops to go, on the next port of its ROUTE. A port whose link is not UP sends
nothing. -/
def State.sendSr (s : State) (k : Packet) (b : Nat := 0) : State :=
  let p := k.h1.toNat % 4
  if s.portUp p then
    s.enqueue p { k with h0 := withField k.h0 0 5 (k.hop - 1), h1 := w32 (k.h1.toNat / 4) } b
  else s.settleBuf b

/-- A source-routed packet of a node. -/
def mkSr (typ route rem : Nat) (payload : List Word) : Packet :=
  { h0 := withField (withField (mkH0 0 typ payload.length) 7 1 1) 0 5 rem, h1 := w32 route, payload := payload }

/-- What a node does with an arriving source-routed packet: it notes its input port in RET and forwards the packet, or as
the target gives it to f (R295). -/
def State.sourceRouted (s : State) (p : Nat) (good : Bool) (k : Packet) (typ : Nat) (f : Packet → State → State) : State :=
  let r := s.receive p good k
  match r.2 with
  | none => r.1
  | some b =>
    if !(k.isType 0 typ && (p == 4 || k.sr)) then r.1.settleBuf b
    else
      let j := if p == 4 then k else { k with payload := modAt k.payload 0 (fun w => w32 (w.toNat * 4 + p % 4)) }
      if k.hop == 0 then (f j r.1).settleBuf b else r.1.sendSr j b

/-- Answer a source-routed request: ROUTE = RET and REM = NHOPS; with no hops to go the answer is the node's own. -/
def State.answerSr (s : State) (k : Packet) (typ : Nat) (rest : List Word) : State :=
  let n := wf k.payload 1 0 5
  let a := mkSr typ (wordAt k.payload 0).toNat n ([wordAt k.payload 0, w32 n] ++ rest)
  if n == 0 then s.onFab (fun b => { b with loop := b.loop ++ [a] }) else s.sendSr a

/-! Route and time restoration (R305, R315) -/

/-- ROUTE_RESTORE (R305): the link on PRI has been UP for 1 ms. -/
def execRouteRestore (d : Nat) (s : State) : Host.Outcome State Fault Refusal :=
  .next (s.when (d < 64 && s.flag (FAB.ROUTE.ON_ALT d) && s.portUp (s.get (FAB.ROUTE.PRI d))) (·.drop (FAB.ROUTE.ON_ALT d)))

/-- PARENT_RESTORE (R315): the link on PARENT has been UP for 1 ms. -/
def execParentRestore (s : State) : Host.Outcome State Fault Refusal :=
  .next (s.when (s.flag FAB.TIME_STAT.ON_ALT && s.portUp (s.get FAB.TIME_CFG.PARENT)) (·.drop FAB.TIME_STAT.ON_ALT))

end Sys2Proof.Machine
end

