-- ==== Sys2Proof/Machine/FabTime.lean ====
section
/-! DEFINITION. Fabric time over the links (11_fabric.md, Fabric time): TIME packets and the servo, lock and holdover,
link delays, and how fabric time advances with the node's own clock. -/

namespace Sys2Proof.Machine

/-- Set fabric time, in 1/64 tick and modulo 2^48 ticks; MTIME holds its value through a backward step and counts on over
a wrap (R135, R376). -/
def State.setStamp (s : State) (t : Int) : State :=
  let n := (t % (2 ^ 54 : Int)).toNat
  let u := s.onSys (fun y => { y with mtimeFloor := s.mtime, wraps := y.wraps + t / (2 ^ 54 : Int) })
  ({ u with time := n / 64, fab := { u.fab with frac := n % 64 } }).syncTimer

/-- A stamp of two payload words: bits [31:0]; fraction in [21:16] and bits [47:32] in [15:0] (table of packet types). -/
def stampOf (lo hi : Word) : Nat := (lo.toNat + 2 ^ 32 * fieldOf hi 0 16) * 64 + fieldOf hi 16 6

/-- The words of a stamp. -/
def stampWords (t : Nat) : List Word := [w32 (t / 64), w32 (t % 64 * 2 ^ 16 + t / 64 / 2 ^ 32 % 2 ^ 16)]

/-- ±100 ppm in 1/2048 of 0.001 ppm. -/
def rateLimit : Int := 204800000

/-- o / 256, per microsecond, is 78,125 / 2,048 of 0.001 ppm for each 1/64 tick of o (R313, log entry 30). -/
def ratePerUnit : Int := 78125

/-- TIME_RATE shows the rate correction. -/
def State.syncRate (s : State) : State := s.wr FAB.TIME_RATE (w32 (unsignedOf 32 (Int.tdiv s.fab.rate 2048)))

/-- The servo takes an offset o from the packet on port p (R313). -/
def State.servo (s : State) (p : Nat) (o : Int) : State :=
  let a := s.wr FAB.TIME_OFS (w32 (unsignedOf 32 o))
  if 102400 < o.natAbs then
    let b := (a.setStamp (a.stamp + o)).onFab (fun f => { f with slew := none })
    (b.bump FAB.TIME_STAT.STEP_CNT).report Src.FAB_TIME_STEP p (unsignedOf 32 o)
  else
    (a.onFab (fun f => { f with slew := some (o, a.ticks)
                                rate := clampInt (-rateLimit) rateLimit (f.rate + o * ratePerUnit) })).syncRate

/-- LOCKED after 16 packets within the lock limit from a parent that reports LOCKED, and not after 4 beyond the unlock
limit or when the parent stops reporting it (R314). -/
def State.lockStep (s : State) (o : Int) (parentLocked : Bool) : State :=
  let near := if o.natAbs ≤ 51 && parentLocked then s.fab.lockRun + 1 else 0
  let far := if 204 < o.natAbs then s.fab.unlockRun + 1 else 0
  let t := s.onFab (fun b => { b with lockRun := min 16 near, unlockRun := min 4 far })
  if !parentLocked || 4 ≤ far then t.unlock
  else if 16 ≤ near then t.raise FAB.TIME_STAT.LOCKED
  else t

/-- A usable parent ends HOLDOVER: PARENT, or ALT_PARENT while it reports LOCKED (R315). -/
def State.leaveHoldover (s : State) (p : Nat) (locked : Bool) : State :=
  if !s.flag FAB.TIME_STAT.HOLDOVER then s
  else if p == s.get FAB.TIME_CFG.PARENT then (s.drop FAB.TIME_STAT.HOLDOVER).drop FAB.TIME_STAT.LOST
  else if p == s.get FAB.TIME_CFG.ALT_PARENT && locked then
    ((s.drop FAB.TIME_STAT.HOLDOVER).drop FAB.TIME_STAT.LOST).raise FAB.TIME_STAT.ON_ALT
  else s

/-- A TIME packet on port p (R313-R315). -/
def State.takeTime (s : State) (p : Nat) (k : Packet) : State :=
  let locked := wf k.payload 2 16 1 == 1
  let a := s.onPort p (fun f => { f with timeLocked := locked })
  if a.root then a
  else
    let b := a.leaveHoldover p locked
    if b.timePort != some p then b
    else
      let dep := stampOf (wordAt k.payload 0) (wordAt k.payload 1)
      let o := signedOf 54 (unsignedOf 54 ((dep : Int) + b.get (FAB.LINK_DLY.DLY p)
        + signedOf 16 (b.get (FAB.PORT_CTL.ASYM p)) - b.stamp))
      (b.servo p o).lockStep o locked

/-- TIME (R313). -/
def execTimePacket (p : Nat) (crc : Word) (k : Packet) (s : State) : Host.Outcome State Fault Refusal :=
  let r := s.receive p (k.crcGood crc) k
  match r.2 with
  | none => .next r.1
  | some b => .next ((r.1.when (k.isType 1 1) (·.takeTime p k)).settleBuf b)

/-- TIME_SEND (R311): a LOCKED node, and the root, sends TIME on every port whose link is UP. -/
def execTimeSend (s : State) : Host.Outcome State Fault Refusal :=
  .next (s.when (s.blockOn FAB.CTL.EN 9 && s.flag FAB.TIME_STAT.LOCKED)
    (·.floodOut none (mkPacket 1 1 (mkH1 0 s.nodeId 0 false) s.timePayload)))

/-- HOLDOVER_TIMEOUT (R315). -/
def execHoldoverTimeout (s : State) : Host.Outcome State Fault Refusal :=
  .next (s.when (s.flag FAB.TIME_STAT.HOLDOVER) (·.reportOnce FAB.TIME_STAT.LOST Src.FAB_TIME_LOST 0 0))

/-! Link delay (R312) -/

/-- DELAY_MEASUREMENT (R312): every port whose link is UP sends DLY_REQ and stamps its departure. -/
def execDelayMeasurement (s : State) : Host.Outcome State Fault Refusal :=
  .next (s.each ((List.range 4).filter s.portUp) (fun p t =>
    (t.onPort p (fun f => { f with dlyT1 := some t.stamp })).sendLink p (mkLink 5 0#32)))

/-- DLY_REQ (R312): the answer carries the stamps of its arrival and of its own departure. -/
def execDlyReq (p : Nat) (crc : Word) (k : Packet) (s : State) : Host.Outcome State Fault Refusal :=
  let r := s.receive p (k.crcGood crc) k
  .next (r.1.when (r.2.isSome && k.isType 3 5) (fun t =>
    t.sendLink p (mkPacket 3 6 0#32 (stampWords t.stamp ++ stampWords t.stamp))))

/-- LINK_DLY: the mean of the last accepted results. -/
def State.syncDly (s : State) (p : Nat) : State :=
  let l := (s.port p).dlyLast
  s.put (FAB.LINK_DLY.DLY p) (unsignedOf 24 (Int.tdiv (l.foldl (· + ·) 0) (2 * l.length)))

/-- The filter takes a result, given as twice the delay: after 8 accepted ones a result more than 500 ps (51.2 units)
from their mean is rejected, and 8 rejections in a row restart it. -/
def State.takeDelay (s : State) (p : Nat) (d : Int) : State :=
  let f := s.port p
  let far := f.dlyLast.length == 8 && 4096 < 5 * (8 * d - f.dlyLast.foldl (· + ·) 0).natAbs
  if far then
    (s.bump (wordFld (FAB.DLY_REJ_CNT p))).onPort p (fun g =>
      if 7 ≤ g.dlyRej then { g with dlyRej := 0, dlyLast := [] } else { g with dlyRej := g.dlyRej + 1 })
  else (s.onPort p (fun g => { g with dlyRej := 0, dlyLast := (d :: g.dlyLast).take 8 })).syncDly p

/-- DLY_RSP (R312). -/
def execDlyRsp (p : Nat) (crc : Word) (k : Packet) (s : State) : Host.Outcome State Fault Refusal :=
  let r := s.receive p (k.crcGood crc) k
  if !(r.2.isSome && k.isType 3 6) then .next r.1
  else match (r.1.port p).dlyT1 with
    | none => .next r.1
    | some t1 =>
      let t2 := stampOf (wordAt k.payload 0) (wordAt k.payload 1)
      let t3 := stampOf (wordAt k.payload 2) (wordAt k.payload 3)
      let d := signedOf 54 (unsignedOf 54 ((r.1.stamp : Int) - t1)) - signedOf 54 (unsignedOf 54 ((t3 : Int) - t2))
      .next ((r.1.onPort p (fun f => { f with dlyT1 := none })).takeDelay p d)

/-! The passing of time -/

/-- What the slew of R313 has added n ticks after its packet, in 1/64 tick: a quarter of o over 1,600 ticks. -/
def slewAt (o : Int) (n : Nat) : Int := Int.tdiv (o * (min n 1600 : Nat)) 6400

/-- One tick of the node's clock: fabric time moves on by a tick, and on a node that follows others by the rate correction
and the slew too (R311, R313, R315). In LOW and with internal reset held fabric time stands (R416). -/
def State.tickTime (s : State) : State :=
  let u := { s with ticks := s.ticks + 1 }
  if s.get PMU.STATE_STAT.STATE == 2 || s.pmu.off != 0 then u
  else if s.root || !s.flag FAB.CTL.EN then
    { u with time := (s.time + 1) % 2 ^ 48, sys := { u.sys with wraps := u.sys.wraps + ((s.time + 1) / 2 ^ 48 : Nat) } }
  else
    let acc := s.fab.rateRem + 64 * s.fab.rate
    let whole := acc / 2048000000000
    let add := match s.fab.slew with
      | some (o, t0) => slewAt o (u.ticks - t0) - slewAt o (s.ticks - t0)
      | none => 0
    let t : Int := s.stamp + 64 + whole + add
    let n := (t % (2 ^ 54 : Int)).toNat
    { u with time := n / 64, fab := { u.fab with frac := n % 64, rateRem := acc - whole * 2048000000000 }
             sys := { u.sys with wraps := u.sys.wraps + t / (2 ^ 54 : Int) } }

end Sys2Proof.Machine
end

