-- ==== Sys2Proof/Machine/FabStop.lean ====
section
/-! DEFINITION. Stop, release and the Tide over the fabric (11_fabric.md, R317-R320; 07_position.md, R189). -/

namespace Sys2Proof.Machine

/-! Stop and release -/

/-- A new STOP: it is recorded and takes effect with cause 2 (R319). -/
def State.takeStop (s : State) (k : Packet) : State :=
  let a := s.wr FAB.SLUICE_STAT (w32 (2 ^ 31 + k.src * 2 ^ 24 + wf k.payload 0 0 8 * 2 ^ 16 + k.tag))
  (a.onFab (fun b => { b with chanStop := true })).halt 2

/-- STOP (R319). -/
def execStopPacket (p : Nat) (crc : Word) (k : Packet) (s : State) : Host.Outcome State Fault Refusal :=
  .next (s.flooded p (k.crcGood crc) k 0 1 (·.takeStop k))

/-- A CLEAR with EXEC_T: the node's own drive is released, and the check is due at EXEC_T, or 1.0 µs after receipt when
EXEC_T is nearer than that (R320). -/
def State.takeClear (s : State) (exec : Nat) : State :=
  let lead := signedOf 48 (unsignedOf 48 ((exec : Int) - s.time))
  let a := (s.onFab (fun b => { b with chanStop := false })).sluiceClear
  if lead < 1600 then (a.bump (wordFld FAB.LATE_CLR_CNT)).onFab (fun b => { b with execT := none })
  else (a.onFire (fun f => { f with clrDue := false })).onFab (fun b => { b with execT := some exec })

/-- CLEAR (R320). -/
def execClearPacket (p : Nat) (crc : Word) (k : Packet) (s : State) : Host.Outcome State Fault Refusal :=
  .next (s.flooded p (k.crcGood crc) k 0 2 (·.takeClear ((wordAt k.payload 0).toNat + 2 ^ 32 * wf k.payload 1 0 16)))

/-- CLEAR_EXEC (R320): the check of R160 at EXEC_T, with the level another device gives the pin. -/
def execClearExec (low : Bool) (s : State) : Host.Outcome State Fault Refusal :=
  .next (s.when s.fab.execT.isSome (fun t => (t.onFab (fun b => { b with execT := none })).sluiceCheck low))

/-- A write of BCAST_CLR: a CLEAR is flooded, and the sender acts on it too (R320). -/
def State.bcastClr (s : State) : State :=
  let exec := (s.time + 16 * s.get FAB.SLUICE_CFG.CLR_LEAD) % 2 ^ 48
  let tag := (s.fab.clearTag + 1) % 2 ^ 16
  let k := mkPacket 0 2 (mkH1 0 s.nodeId tag true) [w32 exec, w32 (exec / 2 ^ 32)]
  ((s.onFab (fun b => { b with clearTag := tag })).floodOwn k).takeClear exec

/-- BCAST_CLR (R320). -/
def execBcastClr (s : State) : Host.Outcome State Fault Refusal := .next s.bcastClr

/-! The Tide -/

/-- A Tide sample reaches the fire engine, when that takes the Tide and T is a new one (R136, R189). -/
def State.tideSample (s : State) (p t : Nat) (v : Int) : State :=
  if s.fab.tideT == some t then s
  else
    let a := s.onFab (fun b => { b with tideT := some t })
    a.when (a.get FIRE.CFG.AXIS == 4) (·.onFire (fun f => { f with inbox := f.inbox ++ [⟨p * 2 ^ 24, t, v⟩] }))

/-- The sample of a POS packet. -/
def State.takePos (s : State) (k : Packet) : State :=
  (s.bump (wordFld FAB.TIDE_RX_CNT)).tideSample (wf k.payload 0 0 24)
    ((wordAt k.payload 1).toNat + 2 ^ 32 * wf k.payload 2 0 16) (signedOf 32 (wordAt k.payload 3).toNat)

/-- A foreign Tide source is reported once until its flag is cleared (R317, R318). -/
def State.tideForeign (s : State) (src : Nat) : State :=
  s.reportOnce FAB.STATUS.TIDE_FOREIGN Src.FAB_TIDE_SRC src (s.rd FAB.TIDE_CFG).toNat

/-- POS (R318): a packet from another source than SRC is discarded and not forwarded. -/
def execPosPacket (p : Nat) (crc : Word) (k : Packet) (s : State) : Host.Outcome State Fault Refusal :=
  if s.flag FAB.TIDE_CFG.RX_EN && k.isType 1 2 && k.src != s.get FAB.TIDE_CFG.SRC then
    let r := s.receive p (k.crcGood crc) k
    match r.2 with
    | none => .next r.1
    | some b => .next (((r.1.bump (wordFld FAB.TIDE_FOREIGN_CNT)).tideForeign k.src).settleBuf b)
  else .next (s.flooded p (k.crcGood crc) k 1 2 (fun t => t.when (t.flag FAB.TIDE_CFG.RX_EN) (·.takePos k)))

/-- The latest valid sample of the Tide axis becomes a POS packet and reaches the node's own fire engine (R189, R317). -/
def State.handOff (s : State) : State :=
  let n := s.get POS.TIDE_CFG.AXIS
  let tag := (s.fab.posTag + 1) % 2 ^ 16
  let pos := s.rd (POS.SAMP_P n)
  let lo := s.rd (POS.SAMP_T_LO n)
  let hi := w32 (fieldOf (s.rd (POS.SAMP_T_HI n)) 0 16)
  let v := s.rd (POS.SAMP_V n)
  let k := mkPacket 1 2 (mkH1 0 s.nodeId tag true) [w32 (pos.toNat % 2 ^ 24), lo, hi, v]
  (((s.onFab (fun b => { b with posTag := tag })).bump (wordFld POS.TIDE_CNT)).floodOwn k).tideSample
    (pos.toNat % 2 ^ 24) (lo.toNat + 2 ^ 32 * hi.toNat) (signedOf 32 v.toNat)

/-- TIDE_HANDOFF (R189, R317). -/
def execTideHandoff (s : State) : Host.Outcome State Fault Refusal :=
  if !s.flag POS.TIDE_CFG.EN then .next s
  else if s.get FAB.TIDE_CFG.SRC != s.nodeId then .next (s.tideForeign s.nodeId)
  else .next (s.when (s.flag (POS.AX_STATUS.VALID (s.get POS.TIDE_CFG.AXIS))) (·.handOff))

end Sys2Proof.Machine
end

