-- ==== Sys2Proof/Machine/FabCtl.lean ====
section
/-! DEFINITION. Identity, control requests and the enable of the fabric (11_fabric.md, R294-R297, R306, R308-R310, R324).
The requests that reach memory or registers at a target are in FabAccess.lean. -/

namespace Sys2Proof.Machine

/-! CREQ -/

/-- CREQ ends with a transaction status and the payload of its response. -/
def State.creqDone (s : State) (status : Nat) (payload : List Word) : State :=
  let a := s.each (List.range (min 16 payload.length)) (fun i t => t.wr (FAB.CRSP i) (wordAt payload i))
  (((a.put FAB.CREQ_STAT.STATUS status).raise FAB.CREQ_STAT.DONE).drop FAB.CREQ_CTL.GO).onFab (fun b => { b with creqTag := none })

/-- Send CREQ's CTRL request (R308, R309). -/
def State.creqCtrl (s : State) (typ : Nat) (payload : List Word) : State :=
  let tag := s.fab.nextTag
  let dst := s.get FAB.CREQ_CTL.DST
  let k := mkPacket 0 typ (mkH1 dst s.nodeId tag false) payload
  let a := (s.newTag).onFab (fun b => { b with creqTag := some tag, txns := b.txns ++ [⟨tag, dst, true, typ == 4, .other⟩] })
  (a.sendRouted k).unreachRun

/-- Send CREQ's source-routed request (R295). -/
def State.creqSr (s : State) (typ : Nat) (rest : List Word) : State :=
  let n := s.get FAB.CREQ_CTL.NHOPS
  let k := mkSr typ (s.rd FAB.CREQ_ROUTE).toNat n ([0#32, w32 n] ++ rest)
  if n == 0 then s.onFab (fun b => { b with loop := b.loop ++ [k] }) else s.sendSr k

/-- GO may be written: no request is in flight. -/
def State.creqFree (s : State) : Bool := !s.flag FAB.CREQ_CTL.GO

/-- A GO with this KIND. -/
def State.creqGo (s : State) : State := s.raise FAB.CREQ_CTL.GO

def State.creqRead (s : State) : State := s.creqGo.creqCtrl 3 [w32 (s.get FAB.CREQ_ADDR.ARG % 2 ^ 24)]
def State.creqWrite (s : State) : State := s.creqGo.creqCtrl 4 [w32 (s.get FAB.CREQ_ADDR.ARG % 2 ^ 24), s.rd FAB.CREQ_DATA]
def State.creqProbe (s : State) : State := s.creqGo.creqSr 8 []
def State.creqAssign (s : State) : State :=
  s.creqGo.creqSr 10 [s.rd FAB.CREQ_IDENT_LO, s.rd FAB.CREQ_IDENT_HI, s.rd FAB.CREQ_ADDR]

/-- CREQ_CTRL_RD (R309): GO with KIND 0. -/
def execCreqCtrlRd (s : State) : Host.Outcome State Fault Refusal :=
  .next (s.when (s.creqFree && s.get FAB.CREQ_CTL.KIND == 0) (·.creqRead))
/-- CREQ_CTRL_WR (R309): GO with KIND 1. -/
def execCreqCtrlWr (s : State) : Host.Outcome State Fault Refusal :=
  .next (s.when (s.creqFree && s.get FAB.CREQ_CTL.KIND == 1) (·.creqWrite))
/-- CREQ_PROBE (R295): GO with KIND 2. -/
def execCreqProbe (s : State) : Host.Outcome State Fault Refusal :=
  .next (s.when (s.creqFree && s.get FAB.CREQ_CTL.KIND == 2) (·.creqProbe))
/-- CREQ_ASSIGN (R296): GO with KIND 3. -/
def execCreqAssign (s : State) : Host.Outcome State Fault Refusal :=
  .next (s.when (s.creqFree && s.get FAB.CREQ_CTL.KIND == 3) (·.creqAssign))

/-- A write of GO acts by KIND; a reserved KIND sends nothing. -/
def State.creqStart (s : State) : State :=
  if !s.creqFree then s
  else match s.get FAB.CREQ_CTL.KIND with
    | 0 => s.creqRead
    | 1 => s.creqWrite
    | 2 => s.creqProbe
    | 3 => s.creqAssign
    | _ => s

/-! Responses and timeouts -/

/-- The outstanding request with a TAG. -/
def State.txn? (s : State) (ctrl : Bool) (tag : Nat) : Option Txn := s.fab.txns.find? (fun t => t.ctrl == ctrl && t.tag == tag)

/-- A request is no longer outstanding. -/
def State.endTxn (s : State) (t : Txn) : State :=
  ((s.onFab (fun b => { b with txns := b.txns.erase t })).issueHeld s.fab.held.length).unreachRun

/-- A response without its request is dropped (R308). -/
def State.lateRsp (s : State) : State := s.bump (wordFld FAB.LATE_RSP_CNT)

/-- A CTRL_RSP completes its request. -/
def State.takeCtrlRsp (s : State) (k : Packet) : State :=
  match s.txn? true k.tag with
  | none => s.lateRsp
  | some t => (s.endTxn t).when (s.fab.creqTag == some k.tag) (·.creqDone (wf k.payload 0 0 4) k.payload)

/-- CTRL_RSP (R308). -/
def execCtrlRsp (p : Nat) (crc : Word) (k : Packet) (s : State) : Host.Outcome State Fault Refusal :=
  .next (s.routed p (k.crcGood crc) k 0 5 (fun t => t.unreachRun.takeCtrlRsp k))

/-- A timed-out request is counted and reported (R308, R324). -/
def State.countTmo (s : State) (t : Txn) : State :=
  s.noteTmo t.dst (nat01 t.ctrl * 2 ^ 31 + t.tag)

/-- CTRL_TIMEOUT (R308): the CTRL request with a TAG, or the probe or assignment of CREQ that has no TAG. -/
def execCtrlTimeout (tag : Nat) (s : State) : Host.Outcome State Fault Refusal :=
  match s.txn? true tag with
  | some t => .next (((s.endTxn t).countTmo t).when (s.fab.creqTag == some tag) (·.creqDone 5 []))
  | none =>
    .next (s.when (s.flag FAB.CREQ_CTL.GO && s.fab.creqTag.isNone)
      (fun u => (u.countTmo { tag := 0, dst := u.get FAB.CREQ_CTL.DST, ctrl := true }).creqDone 5 []))

/-! Probe and assignment -/

/-- The node word of R294. -/
def State.nodeWord (s : State) : Word := s.rd FAB.NODE

/-- The port word of PROBE_RSP: state in bits [8p+2:8p], NBR_VALID in bit 8p+3. -/
def State.portWord (s : State) : Nat :=
  ((List.range 4).map (fun p => (s.get (FAB.PORT_STAT.STATE p) + 8 * s.get (FAB.PORT_STAT.NBR_VALID p)) * 2 ^ (8 * p))).foldl (· + ·) 0

/-- What PROBE_RSP carries after RET and NHOPS. -/
def State.probeWords (s : State) : List Word :=
  [s.rd FAB.IDENT_LO, s.rd FAB.IDENT_HI, s.nodeWord, s.rd SYS.CHIP_ID, w32 s.portWord]
    ++ (List.range 4).flatMap (fun p => [s.rd (FAB.NBR_IDENT_LO p), s.rd (FAB.NBR_IDENT_HI p)])

/-- PROBE (R295). -/
def execProbe (p : Nat) (crc : Word) (k : Packet) (s : State) : Host.Outcome State Fault Refusal :=
  .next (s.sourceRouted p (k.crcGood crc) k 8 (fun j t => t.answerSr j 9 t.probeWords))

/-- A source-routed answer completes CREQ's request, when one is in flight. -/
def State.takeSrRsp (s : State) (k : Packet) : State :=
  if s.flag FAB.CREQ_CTL.GO && s.fab.creqTag.isNone then s.creqDone 0 k.payload else s.lateRsp

/-- PROBE_RSP (R295). -/
def execProbeRsp (p : Nat) (crc : Word) (k : Packet) (s : State) : Host.Outcome State Fault Refusal :=
  .next (s.sourceRouted p (k.crcGood crc) k 9 (fun j t => t.takeSrRsp j))

/-- The assignment of R296; the root keeps ID 0 (R294). -/
def State.assignNode (s : State) (w : Word) : State :=
  let id := if s.root then 0 else fieldOf w 0 6
  let a := ((s.raise FAB.NODE.VALID).put FAB.NODE.DEPTH (fieldOf w 27 5)).put FAB.NODE.ID id
  let b := (a.put FAB.TIME_CFG.PARENT (fieldOf w 16 3)).put FAB.TIME_CFG.ALT_PARENT (fieldOf w 24 3)
  let c := b.wr (FAB.ROUTE 0) (w32 (2 ^ 31 + fieldOf w 24 3 * 16 + fieldOf w 16 3))
  c.when (id != s.nodeId) (·.raise FAB.STATUS.ID_CHANGED)

/-- ASSIGN at its target: another IDENT changes nothing (R296). -/
def State.takeAssign (s : State) (k : Packet) : State :=
  if wordAt k.payload 2 == s.rd FAB.IDENT_LO && wordAt k.payload 3 == s.rd FAB.IDENT_HI then
    (s.assignNode (wordAt k.payload 4)).answerSr k 11 [0#32]
  else s.answerSr k 11 [1#32]

/-- ASSIGN (R296). -/
def execAssign (p : Nat) (crc : Word) (k : Packet) (s : State) : Host.Outcome State Fault Refusal :=
  .next (s.sourceRouted p (k.crcGood crc) k 10 (fun j t => t.takeAssign j))

/-- An assignment's answer reaches its requester. -/
def State.takeAssignRsp (s : State) (k : Packet) : State := s.takeSrRsp k

/-- ASSIGN_RSP (R296). -/
def execAssignRsp (p : Nat) (crc : Word) (k : Packet) (s : State) : Host.Outcome State Fault Refusal :=
  .next (s.sourceRouted p (k.crcGood crc) k 11 (fun j t => t.takeAssignRsp j))

/-! Access from other nodes (R310, R321) -/

/-- A request from another node is refused by ACCESS. -/
def State.denied (s : State) (k : Packet) : Bool :=
  k.src != s.nodeId &&
    ((k.vc == 2 && !s.flag FAB.ACCESS.BULK_IN) || (k.vc == 0 && !s.flag FAB.ACCESS.CTRL_IN)
      || (s.flag FAB.ACCESS.ROOT_ONLY && k.src != 0))

/-- The boot window (R321). -/
def inBootWindow (a n : Nat) : Bool := 0x10000000 ≤ a && a + n ≤ 0x10200000

/-- In boot mode a node takes only BULK WRs of node 0 into the boot window, CTRL_RDs of FAB registers, and CTRL_WRs of
BOOT_CTL (R321). -/
def State.bootDenied (s : State) (k : Packet) : Bool :=
  s.flag FAB.STATUS.BOOT_MODE &&
    (let off := wf k.payload 0 0 24
     if k.isType 2 1 then !(k.src == 0 && inBootWindow k.addr (4 * k.payload.length))
     else if k.isType 0 3 then !(0xA0000 ≤ off && off < 0x100000)
     else if k.isType 0 4 then off != 0xA00C0
     else true)

/-! Enable -/

/-- Setting FAB.CTL.EN (R294, R324); PLL_SER starts once a port is enabled too (R408). -/
def State.fabEnable (s : State) : State :=
  if s.flag FAB.CTL.EN || s.held then s
  else
    let par := s.get FAB.TIME_CFG.PARENT
    if !s.root && par < 4 && !s.flag (FAB.PORT_CTL.EN par) then
      s.reportOnce FAB.STATUS.CFG_ERR Src.FAB_CFG 0 (s.rd FAB.TIME_CFG).toNat
    else
      let a := (s.wr FAB.TIME_STAT 0#32).onFab (fun b => { b with lockRun := 0, unlockRun := 0, slew := none })
      let b := (a.onFab (fun f => { f with wasOn := true })).when a.root (fun t => (t.wr FAB.NODE (w32 (2 ^ 31))).raise FAB.TIME_STAT.LOCKED)
      if (List.range 4).any (fun p => b.flag (FAB.PORT_CTL.EN p)) then b.enableBlock FAB.CTL.EN 4 9 else b.raise FAB.CTL.EN

/-- FAB_ENABLE (R324). -/
def execFabEnable (s : State) : Host.Outcome State Fault Refusal := .next s.fabEnable

/-- Clearing FAB.CTL.EN: the ports are DISABLED, and fabric time runs from the node's own crystal (R284, R311). -/
def State.fabDisable (s : State) : State :=
  let a := (s.disableBlock FAB.CTL.EN 9).each (List.range 4) (fun p t => t.portDown p)
  let b := (((a.drop FAB.TIME_STAT.LOCKED).drop FAB.TIME_STAT.HOLDOVER).drop FAB.TIME_STAT.LOST).drop FAB.TIME_STAT.ON_ALT
  b.onFab (fun f => { f with lockRun := 0, unlockRun := 0, slew := none })

end Sys2Proof.Machine
end

