-- ==== Sys2Proof/Machine/HostIf.lean ====
section
/-! DEFINITION. The host interface (12_host_interface.md): doorbells, the job parser, completions and events of other
nodes, the culvert, and the reset, link and enable rules. Stream contexts are in Streams.lean, ring writes in
HostPost.lean. -/

namespace Sys2Proof.Machine

/-! Doorbells (R327) -/

/-- HOST_RING, HOST_STREAM and HOST_JOB also send vector 3 (R339). -/
def State.reportHost (s : State) (q inst detail : Nat) : State := (s.report q inst detail).msix 3

/-- A write that a rule of the host interface ignores shows in its flag (R34). -/
def State.hostIgnored (s : State) : State := s.raise HOSTIF.STATUS.WRITE_IGNORED

/-- An invalid doorbell value is ignored, flagged and reported. -/
def State.ringError (s : State) (idx v : Nat) : State := (s.hostIgnored.raise HOSTIF.STATUS.RING_ERR).reportHost Src.HOST_RING (idx % 256) v

/-- Does the written count move forwards? -/
def forwards (old new : Nat) : Bool := decide (filled new old < 2 ^ 31)

/-- A producer count written by the host driver. -/
def State.producerBell (s : State) (idx prod cons size v : Nat) : State :=
  if forwards (s.rd prod).toNat v && filled v (s.rd cons).toNat ≤ size then s.wr prod (w32 v) else s.ringError idx v

/-- The host port works and its rings run. -/
def State.hostOn (s : State) : Bool := s.root && s.flag HOSTIF.CTL.EN

/-- Entries are fetched from the rings: not while a LOW or DRY transition or LOW itself holds them (R414). -/
def State.fetching (s : State) : Bool := s.hostOn && s.pmu.goal < 2 && s.get PMU.STATE_STAT.STATE != 2

/-- HEADRACE_DOORBELL (R327). -/
def execHeadraceDoorbell (v : Nat) (s : State) : Host.Outcome State Fault Refusal :=
  .next (s.when s.hostOn (·.producerBell 0 HOSTIF.HR_PROD HOSTIF.HR_CONS (ringSize (s.get HOSTIF.HR_SIZE.SIZE_LOG2)) (v % 2 ^ 32)))

/-- A consumer count written by the host driver; the freed slots may be written at once (R347). -/
def State.consumerBell (s : State) (idx prod cons size v : Nat) (drain : State → State) : State :=
  if forwards (s.rd cons).toNat v && filled (s.rd prod).toNat v ≤ size then drain (s.wr cons (w32 v)) else s.ringError idx v

/-- COMPLETION_DOORBELL (R327). -/
def execCompletionDoorbell (v : Nat) (s : State) : Host.Outcome State Fault Refusal :=
  .next (s.when s.hostOn (·.consumerBell 1 HOSTIF.CPL_PROD HOSTIF.CPL_CONS (ringSize (s.get HOSTIF.CPL_SIZE.SIZE_LOG2)) (v % 2 ^ 32)
    (fun t => t.drainCpl t.host.cplBuf.length)))

/-- TAILRACE_DOORBELL (R327). -/
def execTailraceDoorbell (v : Nat) (s : State) : Host.Outcome State Fault Refusal :=
  .next (s.when s.hostOn (·.consumerBell 2 HOSTIF.TR_PROD HOSTIF.TR_CONS (ringSize (s.get HOSTIF.TR_SIZE.SIZE_LOG2)) (v % 2 ^ 32)
    (fun t => t.drainEvt t.host.evtBuf.length)))

/-- STREAM_DOORBELL (R327): the doorbell of stream context r. -/
def execStreamDoorbell (r v : Nat) (s : State) : Host.Outcome State Fault Refusal :=
  .next (s.when (s.hostOn && r < 248 && s.flag (HOSTIF.SCTX_CFG.EN r))
    (·.producerBell (r + 8) (HOSTIF.SCTX_PROD r) (HOSTIF.SCTX_CONS r) (ringSize (s.get (HOSTIF.SCTX_CFG.SIZE_LOG2 r))) (v % 2 ^ 32)))

/-- Offset 0 of doorbell page idx reads the count that the device writes (table of doorbell indices). -/
def State.bellView (s : State) (idx : Nat) : Word :=
  if idx == 0 then s.rd HOSTIF.HR_CONS
  else if idx == 1 then s.rd HOSTIF.CPL_PROD
  else if idx == 2 then s.rd HOSTIF.TR_PROD
  else if 8 ≤ idx && idx < 256 then s.rd (HOSTIF.SCTX_CONS (idx - 8))
  else 0#32

/-! Jobs arrive (R331-R333, R378) -/

/-- Words 0 and 1 of a descriptor go to the job log; a copy that finds it full is counted, and reported once until the
counter is read. -/
def State.logJob (s : State) (w : List Word) : State :=
  if s.sys.jlog.length < 16 then (s.onSys (fun y => { y with jlog := y.jlog ++ [(wordAt w 0, wordAt w 1)] })).syncJlog
  else
    let t := s.bump (wordFld SYS.JLOG_LOST)
    if t.sys.jlogOvf then t
    else (t.onSys (fun y => { y with jlogOvf := true })).report Src.JLOG_OVF 0 (wf w 1 0 16)

/-- A descriptor joins this node's job queue. -/
def State.placeJob (s : State) (w : List Word) : State :=
  let j : Job := { seq := s.jobSeq, words := w }
  ({ s with jobs := s.jobs ++ [j], jobSeq := s.jobSeq + 1 }.wr HOSTIF.JQ_LAST (w32 (2 ^ 16 + j.id))).logJob w

/-- Check code of R331, 0 when every test passes. -/
def State.parseCode (s : State) (w : List Word) : Nat :=
  let resv := wf w 0 6 2 != 0 || wf w 1 16 13 != 0 || [6, 7, 8, 9].any (fun i => wf w i 24 8 != 0) || [11, 14, 15].any (fun i => wordAt w i != 0#32)
  let spaceBad := fun (i : Nat) => wf w i 28 4 != 0 && wf w i 28 4 != 2
  let node := wf w 0 0 6
  if wf w 0 16 16 != 0x4A44 || wf w 0 8 8 != 1 then 1
  else if resv then 2
  else if node != 0 && !s.flag (FAB.ROUTE.VALID node) then 3
  else if spaceBad 3 || spaceBad 5 || wf w 2 0 6 != 0 || wf w 4 0 5 != 0 then 4
  else 0

/-- A job is parsed anew: an earlier completion of the same JOB_ID says nothing about it. -/
def State.newJobId (s : State) (w : List Word) : State :=
  s.onHost (fun h => { h with passed := h.passed.filter (· != (wf w 0 0 6, wf w 1 0 16)) })

/-- The job is completed REJECTED with source HOSTIF and a code (R331, R333). -/
def State.rejectJob (s : State) (w : List Word) (code : Nat) : State :=
  let j : Job := { words := w }
  let node := wf w 0 0 6
  let a := s.wr HOSTIF.PARSE_ERR (w32 (code * 2 ^ 24 + node * 2 ^ 16 + j.id))
  let b := a.reportHost Src.HOST_JOB node (a.rd HOSTIF.PARSE_ERR).toNat
  let c := b.when (code == 6) (·.report Src.HOST_FWD node (a.rd HOSTIF.PARSE_ERR).toNat)
  (c.postCompletion (j.record node c.time 3 1 code)).unreachRun

/-- An entry of the headrace is consumed and its count written to the shadow (R330). -/
def State.consumeHead (s : State) : State :=
  if s.host.parserOld then (s.drop HOSTIF.STATUS.HR_WAIT).onHost (fun h => { h with parser := none, parserOld := false })
  else
  let c := w32 ((s.rd HOSTIF.HR_CONS).toNat + 1)
  (((s.wr HOSTIF.HR_CONS c).drop HOSTIF.STATUS.HR_WAIT).onHost (fun h => { h with parser := none })).post
    (s.rd64 HOSTIF.HR_SHADOW_LO HOSTIF.HR_SHADOW_HI) [c]

/-- A job that passed is counted for its node (R332). -/
def State.openUp (s : State) (w : List Word) : State :=
  let node := wf w 0 0 6
  (s.put (occFld node) (s.get (occFld node) + 1)).onHost (fun h => { h with
    openJobs := h.openJobs ++ [⟨node, wf w 1 0 16, wf w 1 31 1 == 1, true⟩] })

/-- Write a descriptor into a node's JQ_IN (R333). -/
def State.forwardJob (s : State) (w : List Word) : State :=
  let node := wf w 0 0 6
  (s.onHost (fun h => { h with forwards := h.forwards ++ [(s.fab.nextTag, w)] })).sendWr node (HOSTIF.JQ_IN 0) w (.jobForward node)

/-- A BAR 2 write to a node awaits its response. -/
def State.culvertBusy (s : State) (node : Nat) : Bool :=
  (s.fab.txns ++ s.fab.held.map (·.1)).any (fun t => t.dst == node && (match t.why with | .culvertWrite _ => true | _ => false))

/-- The parser acts on a descriptor in hand: it rejects it, waits for room or for earlier BAR 2 writes, or passes it on
(R331-R333). -/
def State.parse (s : State) (w : List Word) : State :=
  let node := wf w 0 0 6
  let hold := s.onHost (fun h => { h with parser := some w })
  match s.parseCode w with
  | 0 =>
    if 16 ≤ s.get (occFld node) then hold.raise HOSTIF.STATUS.HR_WAIT
    else if node == 0 then ((((s.newJobId w).consumeHead).openUp w).placeJob w)
    else if s.culvertBusy node then hold.drop HOSTIF.STATUS.HR_WAIT
    else ((((s.newJobId w).consumeHead).openUp w).forwardJob w).unreachRun
  | code =>
    (((s.newJobId w).consumeHead).onHost (fun h => { h with
      openJobs := h.openJobs ++ [⟨node, wf w 1 0 16, wf w 1 31 1 == 1, false⟩] })).rejectJob w code

/-- JOB_DESCRIPTOR (R331): the parser takes the descriptor it holds, or the next headrace entry that the read brings.
Class-B fields take effect as an entry is fetched (R346). -/
def execJobDescriptor (x : Access) (s : State) : Host.Outcome State Fault Refusal :=
  match s.host.parser with
  | some w => .next (s.parse w)
  | none =>
    if s.fetching && s.rd HOSTIF.HR_PROD != s.rd HOSTIF.HR_CONS && x.status == 0 then
      .next (s.hostBoundary.parse ((List.range 16).map (wordAt x.words)))
    else .next s

/-- The write of a descriptor to JQ_IN (R333): only 16 words of node 0 are taken. -/
def State.jqIn (s : State) (src : Nat) (ws : List Word) : State :=
  if src == 0 && ws.length == 16 then s.placeJob ws else s.raise HOSTIF.STATUS.WRITE_IGNORED

/-- JQ_IN (R333): a write of node 0. -/
def execJqIn (ws : List Word) (s : State) : Host.Outcome State Fault Refusal := .next (s.jqIn 0 ws)

/-- The forward of a job has failed: the job is counted no more and is rejected with a code. -/
def State.rejectForward (s : State) (w : List Word) (code : Nat) : State :=
  let node := wf w 0 0 6
  let hit := fun (e : OpenJob) => e.node == node && e.id == wf w 1 0 16 && e.counted
  ((s.put (occFld node) (s.get (occFld node) - 1)).onHost (fun h => { h with
    openJobs := modAt h.openJobs (h.openJobs.findIdx hit) (fun e => { e with counted := false }) })).rejectJob w code

/-- The response, or the timeout, of a descriptor's write or of the read of JQ_LAST that follows a timeout (R333). -/
def State.forwardDone (s : State) (t : Txn) (status : Nat) (data : List Word) : State :=
  match s.host.forwards.find? (·.1 == t.tag) with
  | none => s
  | some f =>
    let a := s.onHost (fun h => { h with forwards := h.forwards.erase f })
    if t.write then
      (if status == 0 then a
       else if status == 5 then
        (a.onHost (fun h => { h with forwards := h.forwards ++ [(a.fab.nextTag, f.2)] })).sendRd t.dst HOSTIF.JQ_LAST 1 (.jobForward t.dst)
       else a.rejectForward f.2 5)
    else if status == 0 then
      (if wordAt data 0 == w32 (2 ^ 16 + wf f.2 1 0 16) then a else a.rejectForward f.2 5)
    else a.rejectForward f.2 6

/-! Completions and events of other nodes (R334, R338) -/

/-- A completion record arrives at CPL_IN, which works on every node (R326). -/
def State.takeCpl (s : State) (ws : List Word) : State :=
  if ws.length == 16 then (s.postCompletion ws).unreachRun else s.raise HOSTIF.STATUS.WRITE_IGNORED

/-- CPL_IN is held back while the root's 64-record buffer is full. -/
def State.cplFull (s : State) : Bool := s.root && 64 ≤ s.host.cplBuf.length

/-- CPL_IN (R334). -/
def execCplIn (ws : List Word) (s : State) : Host.Outcome State Fault Refusal := .next (s.when (!s.cplFull) (·.takeCpl ws))

/-- An event record arrives at EVT_IN, which works on every node (R326). -/
def State.takeEvt (s : State) (ws : List Word) : State :=
  if ws.length == 16 then (s.queueEvent ws).unreachRun else s.raise HOSTIF.STATUS.WRITE_IGNORED

/-- EVT_IN (R338). -/
def execEvtIn (ws : List Word) (s : State) : Host.Outcome State Fault Refusal := .next (s.takeEvt ws)

/-- CPL_RETRY (R334, R338): the record that waits is sent again. -/
def execCplRetry (s : State) : Host.Outcome State Fault Refusal := .next (((s.sendCpl).sendEvt).unreachRun)

/-- IDLE_TMO (R340): the message of the completion ring (0) or of the tailrace (1) covers what is uncovered. -/
def execIdleTmo (v : Nat) (s : State) : Host.Outcome State Fault Refusal :=
  if v == 0 then .next (s.when (s.host.cplCover.entries != 0) (fun t => (t.onHost (fun h => { h with cplCover := {} })).msix 0))
  else if v == 1 then .next (s.when (s.host.evtCover.entries != 0) (fun t => (t.onHost (fun h => { h with evtCover := {} })).msix 1))
  else .next s

/-! BULK transfers of byte ranges -/

/-- Send bytes to another node as BULK WRs, each outstanding for the same purpose. -/
def State.sendBytes (s : State) (dst a : Nat) (l : List Byte) (why : Purpose) : State :=
  s.each (bulkPieces (l.length / 256 + 2) a l.length) (fun x t =>
    let part := List.replicate (x.1 % 4) 0#8 ++ (l.drop (x.1 - a)).take x.2
    let ws := bytesWords (coverWords x.1 x.2) part
    let tag := t.fab.nextTag
    let k : Packet := { h0 := mkH0 2 1 ws.length, h1 := mkH1 dst t.nodeId tag false,
                        ext := bulkExt x.1 0 (firstBe x.1) (lastBe x.1 x.2), payload := ws }
    t.issue ⟨tag, dst, false, true, why⟩ k)

/-- Read bytes of another node with BULK RDs; answers the TAGs in order. -/
def State.sendReads (s : State) (dst a n : Nat) (why : Purpose) : State × List Nat :=
  (bulkPieces (n / 256 + 2) a n).foldl (fun (r : State × List Nat) x =>
    (r.1.sendRd dst x.1 (coverWords x.1 x.2) why, r.2 ++ [r.1.fab.nextTag])) (s, [])

/-! The culvert (R343, R344) -/

/-- A failed culvert access is recorded, counted and reported. -/
def State.culvErr (s : State) (write : Bool) (i node status : Nat) : State :=
  let a := s.wr HOSTIF.CULV_ERR (w32 (nat01 write * 2 ^ 31 + node * 2 ^ 24 + status * 2 ^ 16 + i))
  ((a.bump HOSTIF.CULV_ERR_CNT.COUNT).raise HOSTIF.STATUS.CULV_ERR).report Src.HOST_CULVERT i (a.rd HOSTIF.CULV_ERR).toNat

/-- The bytes that a BAR 2 read returns to the host. -/
def State.culvReturn (s : State) (l : List Byte) : State := s.onHost (fun h => { h with culvData := l })

/-- A write through aperture i to local address a of this node. BASE names the DRAM window. -/
def State.culvWriteHere (s : State) (i a : Nat) (l : List Byte) (x : Access) : State :=
  let r := if a < 0x8000000000 then (s, 1) else s.ramWrite 5 a l x
  r.1.when (r.2 != 0) (·.culvErr true i s.nodeId r.2)

/-- A read through aperture i of local address a of this node. -/
def State.culvReadHere (s : State) (i a n : Nat) (x : Access) : State :=
  let r := if a < 0x8000000000 then (s, (1, [])) else s.ramRead 5 a n x
  if r.2.1 == 0 then r.1.culvReturn r.2.2
  else (r.1.culvErr false i s.nodeId r.2.1).culvReturn (List.replicate n 0xFF#8)

/-- A write of another node: its BULK WRs go out and its responses are awaited. -/
def State.culvWriteFar (s : State) (i node a : Nat) (l : List Byte) : State :=
  let tags := s.nextTags (bulkPieces (l.length / 256 + 2) a l.length).length
  (s.sendBytes node a l (.culvertWrite i)).onHost (fun h => { h with
    culvWr := h.culvWr ++ (if tags.isEmpty then [] else [{ aperture := i, node := node, tags := tags }]) })

/-- The BAR 2 read at the head of those that wait begins once every BAR 2 write before it has its response, and the read
before it its data. -/
def State.culvNext (s : State) : State :=
  match s.host.culvWait with
  | [] => s
  | w :: t =>
    if s.host.culvRead.isSome || s.host.culvWr.any (fun g => g.tags.any w.behind.contains) then s
    else
      let r := s.sendReads w.node w.addr w.len (.culvertRead w.aperture)
      let c : CulvRead := { aperture := w.aperture, node := w.node, skip := w.addr % 4, len := w.len, tags := r.2 }
      r.1.onHost (fun h => { h with culvWait := t, culvRead := some c })

/-- A read of another node joins the reads that wait, behind every BAR 2 write to that node so far. -/
def State.culvReadFar (s : State) (i node a n : Nat) : State :=
  let w : CulvWait := ⟨i, node, a, n, (s.host.culvWr.filter (·.node == node)).flatMap (·.tags)⟩
  (s.onHost (fun h => { h with culvWait := h.culvWait ++ [w] })).culvNext

/-- A response, or the timeout, of a request of a BAR 2 write; with the last one the write is done, and one that has met a
status other than OK is recorded once. -/
def State.culvWrote (s : State) (tag status : Nat) : State :=
  match s.host.culvWr.find? (·.tags.contains tag) with
  | none => s
  | some g =>
    let n : CulvWrite := { g with tags := g.tags.erase tag, bad := if status != 0 && g.bad.isNone then some status else g.bad }
    if n.tags.isEmpty then
      let a := s.onHost (fun h => { h with culvWr := h.culvWr.erase g })
      match n.bad with
      | some st => (a.culvErr true n.aperture n.node st).culvNext
      | none => a.culvNext
    else (s.onHost (fun h => { h with culvWr := h.culvWr.map (fun e => if e == g then n else e) })).culvNext

/-- An answer of a culvert read; with the last one the host gets its data, or all ones after an error. -/
def State.culvGot (s : State) (t : Txn) (status : Nat) (data : List Word) : State :=
  match s.host.culvRead with
  | none => s
  | some c =>
    if !c.tags.contains t.tag then s
    else
      let d : CulvRead := { c with got := c.got ++ [(t.tag, data)]
                                   bad := if status != 0 && c.bad.isNone then some status else c.bad }
      if d.got.length < d.tags.length then s.onHost (fun h => { h with culvRead := some d })
      else
        let a := s.onHost (fun h => { h with culvRead := none })
        match d.bad with
        | some st => ((a.culvErr false d.aperture d.node st).culvReturn (List.replicate d.len 0xFF#8)).culvNext
        | none =>
          let ws := d.tags.flatMap (fun g => ((d.got.find? (·.1 == g)).getD (0, [])).2)
          (a.culvReturn (((wordsBytes ws).drop d.skip).take d.len)).culvNext

/-- CULVERT_ACCESS (R343, R344): a BAR 2 write of data bytes, or a read of n bytes, at offset off. -/
def execCulvertAccess (off : Nat) (write : Bool) (n : Nat) (data : List Nat) (x : Access) (s : State) :
    Host.Outcome State Fault Refusal :=
  let i := off / 2 ^ 26
  if !s.root || 16 ≤ i then .next s
  else if !s.flag (HOSTIF.CULV_MAP.VALID i) then
    .next (if write then s else s.culvReturn (List.replicate n 0xFF#8))
  else
    let node := s.get (HOSTIF.CULV_MAP.NODE i)
    let a := s.get (HOSTIF.CULV_MAP.BASE i) * 2 ^ 26 + off % 2 ^ 26
    let l : List Byte := data.map (BitVec.ofNat 8)
    .next (if node == s.nodeId then (if write then s.culvWriteHere i a l x else s.culvReadHere i a n x)
      else if write then (s.culvWriteFar i node a l).unreachRun
      else (s.culvReadFar i node a n).unreachRun)

/-! Reset, link and enable (R345, R346) -/

/-- Registers from lo up to hi return to their reset values. -/
def State.clearRegs (s : State) (lo hi : Nat) : State :=
  { s with regs := s.regs.filter (fun e => !(lo ≤ e.1 && e.1 < hi)), act := s.act.filter (fun e => !(lo ≤ e.1 && e.1 < hi)) }

/-- What a function level reset and a link loss do to HOSTIF; what has not been written is counted as lost. -/
def State.hostClear (s : State) : State :=
  let a := ((s.drop HOSTIF.CTL.EN).drop HOSTIF.STATUS.HR_WAIT).clearRegs 0x40080020 0x40080080
  let b := ((a.clearRegs 0x40080180 0x400801C8).clearRegs 0x40081000 0x40083000).clearRegs 0x40090000 0x40090C00
  let c := (b.bump HOSTIF.CPL_LOST.COUNT s.host.cplBuf.length).bump HOSTIF.EVT_LOST.COUNT s.host.evtBuf.length
  (c.each s.host.cplBuf (fun r t => t.closeJob r)).onHost (fun h => { h with
    cplBuf := [], evtBuf := [], lost := true, cplCover := {}, evtCover := {}, parser := none, parserOld := false, ctx := [], culvRead := none, culvWr := [], culvWait := [] })

/-- HOST_FLR (R345). -/
def execHostFlr (s : State) : Host.Outcome State Fault Refusal :=
  .next (s.when s.root (fun t => t.hostClear.report Src.HOST_FLR 0 0))

/-- HOST_LINK_DOWN (R345). -/
def execHostLinkDown (s : State) : Host.Outcome State Fault Refusal :=
  .next (s.when (s.root && s.flag HOSTIF.LINK.UP) (fun t => ((t.wr HOSTIF.LINK 0#32).hostClear).report Src.HOST_LINK_DOWN 0 0))

/-- The lanes and the speed code of a link that the port supports (R325). -/
def linkOk (width speed : Nat) : Bool := (width == 1 || width == 2 || width == 4) && 1 ≤ speed && speed ≤ 4

/-- PCIE_LINK_UP (R345): lanes and speed code. -/
def execPcieLinkUp (width speed : Nat) (s : State) : Host.Outcome State Fault Refusal :=
  .next (s.when (s.root && linkOk width speed) (fun t => ((t.raise HOSTIF.LINK.UP).put HOSTIF.LINK.WIDTH width).put HOSTIF.LINK.SPEED speed))

/-- The address lies in space 1. -/
def inSpace1 (a : Nat) : Bool := a / 2 ^ 60 == 1

/-- A ring base is wrong, a size is wrong, or a shadow is wrong: codes 2, 3, 4 of HOST_CFG. -/
def ringFault (bases : List (Nat × Nat)) (shadow : Nat) : Option Nat :=
  if bases.any (fun b => !inSpace1 b.1 || b.1 % (64 * ringSize b.2) != 0) then some 2
  else if bases.any (fun b => b.2 < 4 || 16 < b.2) then some 3
  else if !inSpace1 shadow || shadow % 8 != 0 then some 4
  else none

/-- A stream context as its ring starts again at count 0: the entry in hand goes on and is not counted in the new ring; a
halted context stays halted until its own EN is cleared and set (R337). -/
def StreamCtx.restart (c : StreamCtx) : StreamCtx := { c with old := c.old || !c.entry.isEmpty }

/-- Setting HOSTIF.CTL.EN (R346): every ring starts at count 0. -/
def State.hostEnable (s : State) : State :=
  if s.flag HOSTIF.CTL.EN then s
  else
    let bases := [(s.rd64 HOSTIF.HR_BASE_LO HOSTIF.HR_BASE_HI, s.get HOSTIF.HR_SIZE.SIZE_LOG2),
      (s.rd64 HOSTIF.CPL_BASE_LO HOSTIF.CPL_BASE_HI, s.get HOSTIF.CPL_SIZE.SIZE_LOG2),
      (s.rd64 HOSTIF.TR_BASE_LO HOSTIF.TR_BASE_HI, s.get HOSTIF.TR_SIZE.SIZE_LOG2)]
    let why := if !s.root then some 1 else ringFault bases (s.rd64 HOSTIF.HR_SHADOW_LO HOSTIF.HR_SHADOW_HI)
    match why with
    | some code => (s.raise HOSTIF.STATUS.CFG_ERR).report Src.HOST_CFG 255 code
    | none =>
      let a := s.each [HOSTIF.HR_PROD, HOSTIF.HR_CONS, HOSTIF.CPL_PROD, HOSTIF.CPL_CONS, HOSTIF.TR_PROD, HOSTIF.TR_CONS]
        (fun r t => t.wr r 0#32)
      let b := a.each (List.range 248) (fun r t => (t.wr (HOSTIF.SCTX_PROD r) 0#32).wr (HOSTIF.SCTX_CONS r) 0#32)
      let c := (b.raise HOSTIF.CTL.EN).onHost (fun h => { h with lost := false, parserOld := h.parser.isSome
                                                                 ctx := h.ctx.map (fun e => (e.1, e.2.restart)) })
      (c.drainCpl c.host.cplBuf.length).drainEvt c.host.evtBuf.length

/-- HOSTIF_ENABLE (R346). -/
def execHostifEnable (s : State) : Host.Outcome State Fault Refusal := .next s.hostEnable

/-- Clearing HOSTIF.CTL.EN: fetching stops, class-B values are loaded (R32, R346). -/
def State.hostDisable (s : State) : State := (s.drop HOSTIF.CTL.EN).hostBoundary

end Sys2Proof.Machine
end

