-- ==== Sys2Proof/Machine/Dma.lean ====
section
/-! DEFINITION. DMA channels (13_dma_memory.md, R348-R351, R353, R356, R358): descriptors and their checks, start, slots,
stop and quiesce. The movement of data is in DmaMove.lean. -/

namespace Sys2Proof.Machine

/-! Descriptors -/

def DmaDesc.op (d : DmaDesc) : Nat := wf d.words 0 28 4
def DmaDesc.endBit (d : DmaDesc) : Bool := wf d.words 0 27 1 == 1
def DmaDesc.evt (d : DmaDesc) : Bool := wf d.words 0 26 1 == 1
def DmaDesc.len (d : DmaDesc) : Nat := wf d.words 0 0 24
def DmaDesc.src (d : DmaDesc) : Nat := (wordAt d.words 1).toNat + 2 ^ 32 * (wordAt d.words 2).toNat
def DmaDesc.dst (d : DmaDesc) : Nat := (wordAt d.words 3).toNat + 2 ^ 32 * (wordAt d.words 4).toNat
def DmaDesc.pattern (d : DmaDesc) : Word := wordAt d.words 1
def DmaDesc.nextAddr (d : DmaDesc) : Nat := (wordAt d.words 6).toNat + 2 ^ 32 * (wordAt d.words 7).toNat

/-- COPY and CMP have a source address. -/
def DmaDesc.hasSrc (d : DmaDesc) : Bool := d.op == 1 || d.op == 3

/-- The addresses that a descriptor names: source, destination, next. -/
def DmaDesc.names (d : DmaDesc) : List Nat :=
  (if d.hasSrc then [d.src] else []) ++ [d.dst] ++ (if d.endBit then [] else [d.nextAddr])

/-- The part of a device address within its node, and its node; none for host memory (R27, R28). -/
def State.nodePlace (s : State) (a : Nat) : Option (Nat × Nat) :=
  match s.target a with
  | .localMem b => some (s.nodeId, b)
  | .node n b => some (n, b)
  | _ => none

/-- The address lies in a register range (R29). -/
def State.inRegs (s : State) (a : Nat) : Bool :=
  match s.nodePlace a with
  | some p => 0x40000000 ≤ p.2 && p.2 < 0x41000000
  | none => false

/-- The register-range test of a descriptor. -/
def State.regRule (s : State) (d : DmaDesc) (a : Nat) : Bool := s.inRegs a && (a % 4 != 0 || d.len % 4 != 0)

/-- Source and destination overlap in one node. -/
def State.descOverlaps (s : State) (d : DmaDesc) : Bool :=
  match s.nodePlace d.src, s.nodePlace d.dst with
  | some p, some q => p.1 == q.1 && p.2 < q.2 + d.len && q.2 < p.2 + d.len
  | _, _ => false

/-- An address in space 3 to 15, or in space 1 off the root (R349). -/
def State.badSpace (s : State) (a : Nat) : Bool := 3 ≤ a / 2 ^ 60 || (a / 2 ^ 60 == 1 && !s.root)

/-- Check code of a descriptor, 0 when every test passes (R349). -/
def State.dmaCode (s : State) (d : DmaDesc) : Nat :=
  if d.status != 0 then 7
  else if d.op == 0 || 5 ≤ d.op then 1
  else if d.len == 0 then 2
  else if d.names.any s.badSpace then 3
  else if !d.endBit && d.nextAddr % 32 != 0 then 4
  else if (d.hasSrc && s.regRule d d.src) || s.regRule d d.dst then 5
  else if d.hasSrc && s.descOverlaps d then 6
  else 0

/-- Read n register words from a up for the DMA engine; one that decodes to nothing makes the status DECODE (R29, R357). -/
def State.descRegs (s : State) (a : Nat) : Nat → State × (List Word × Nat)
  | 0 => (s, ([], 0))
  | n + 1 =>
    let r := s.regRead 3 a
    let t := r.1.descRegs (a + 4) n
    (t.1, (r.2 :: t.2.1, if (blockOf a).isNone then 1 else t.2.2))

/-- Read the 8 words of a descriptor at a device address; registers word by word (R352). -/
def State.readDesc (s : State) (a : Nat) (x : Access) : State × DmaDesc :=
  match s.target a with
  | .localMem b =>
    if s.region b == .regs then
      let r := s.descRegs b 8
      (r.1, ⟨a, r.2.1, r.2.2⟩)
    else
      let r := s.ramRead 3 b 32 x
      (r.1, ⟨a, bytesWords 8 r.2.2, r.2.1⟩)
  | .node m b =>
    let r := s.farRds m (if 0x40000000 ≤ b && b < 0x41000000 then (List.range 8).map (fun i => (b + 4 * i, 4)) else [(b, 32)]) x
    (r.1, ⟨a, (List.range 8).map (wordAt x.words), r.2⟩)
  | .error => (s, ⟨a, [], 1⟩)
  | .host _ => (s, ⟨a, (List.range 8).map (wordAt x.words), x.status⟩)

/-! Domains (R410) -/

/-- Domain of a local address. -/
def State.domainOf (s : State) (b : Nat) : Option Nat :=
  match s.region b with
  | .rom => some 1
  | .itcm => some 1
  | .dtcm => some 1
  | .sram => some 2
  | .dram => some 3
  | .hole => if 0x8000000000 ≤ b then some 3 else none
  | .regs =>
    if b < 0x40010000 then some 1
    else if b < 0x40020000 then some 0
    else if b < 0x40040000 then some 1
    else if b < 0x40060000 then some 9
    else if b < 0x40080000 then some 3
    else if b < 0x400A0000 then some 8
    else if b < 0x40100000 then some 7
    else if b < 0x40180000 then some 4
    else if b < 0x401C0000 then some 5
    else if b < 0x401E0000 then some 4
    else if b < 0x40200000 then some 6
    else if b < 0x40300000 then some 5
    else if b < 0x40310000 then some 1
    else none

/-- Domain of a device address: host memory lies behind HOST and another node behind FAB; space 2 of the node itself is its
own memory (R28). -/
def State.domain (s : State) (a : Nat) : Option Nat :=
  match s.target a with
  | .localMem b => s.domainOf b
  | .host _ => some 8
  | .node _ _ => some 7
  | .error => none

/-- The descriptor names a source, destination or NEXT in a domain of the mask. -/
def State.namesDomain (s : State) (mask : Nat) (d : DmaDesc) : Bool :=
  d.names.any (fun a => match s.domain a with | some i => bit mask i | none => false)

/-! Channel state -/

/-- States of CH_STAT.STATE. -/
def dmaIdle : Nat := 0
def dmaRunning : Nat := 1
def dmaStopping : Nat := 2
def dmaStopped : Nat := 3
def dmaHalted : Nat := 4
def dmaQuiesced : Nat := 5

def State.setCh (s : State) (n st : Nat) : State := s.put (DMA.CH_STAT.STATE n) st

/-- The channel executes a descriptor. -/
def State.dmaBusy (s : State) (n : Nat) : Bool := s.get (DMA.CH_STAT.STATE n) == 1 || s.get (DMA.CH_STAT.STATE n) == 2

/-- Status bits that follow the channels. -/
def State.syncDma (s : State) : State :=
  let fl := (List.range 16).foldl (fun a n => a + nat01 (s.dmaCh n).slot * 2 ^ n) 0
  let dn := (List.range 16).foldl (fun a n => a + s.get (DMA.CH_STAT.DONE n) * 2 ^ n) 0
  (((s.put DMA.INFLIGHT.CH fl).put DMA.STATUS.BUSY (nat01 (fl != 0))).put DMA.DONE_SUM.CH dn).each (List.range 16)
    (fun n t => t.put (DMA.CH_STAT.SHADOW n) (nat01 (t.dmaCh n).shadow.isSome))

/-- Channels that wait for a slot. -/
def State.slotWaiters (s : State) : List Nat := (List.range 16).filter (fun n => s.dmaBusy n && !(s.dmaCh n).slot)

def State.prioOf (s : State) (n : Nat) : Nat := s.getA (DMA.CH_CTL.PRIO n)

/-- The channel of a list that a free slot goes to: highest PRIO, then the next after the last admitted (R351). -/
def State.nextForSlot (s : State) (w : List Nat) : Option Nat :=
  let top := (w.map s.prioOf).foldl max 0
  ((List.range 16).map (fun i => (s.dma.last + 1 + i) % 16)).find? (fun n => w.contains n && s.prioOf n == top)

/-- Channel n takes a slot. -/
def State.takeSlot (s : State) (n : Nat) : State :=
  (s.onDmaCh n (fun c => { c with slot := true })).onDma (fun d => { d with last := n })

/-- Free slots are given out. -/
def State.admitChan (s : State) : Nat → State
  | 0 => s
  | k + 1 =>
    if 8 ≤ (List.range 16).countP (fun n => (s.dmaCh n).slot) then s
    else match s.nextForSlot s.slotWaiters with
      | some n => (s.takeSlot n).admitChan k
      | none => s

def State.settleDma (s : State) : State := (s.admitChan 8).syncDma

/-- Writes of channel n that wait to be issued are not issued any more (R357, R358). -/
def State.dropHeld (s : State) (n : Nat) : State :=
  s.onFab (fun f => { f with held := f.held.filter (·.1.why != .dma n) })

/-- The channel leaves execution for a state. -/
def State.leaveDma (s : State) (n st : Nat) : State :=
  (((s.dropHeld n).setCh n st).onDmaCh n (fun _ => {})).settleDma

/-- A descriptor check fails (R349). -/
def State.descErr (s : State) (n : Nat) (d : DmaDesc) (code : Nat) : State :=
  let a := ((s.put (DMA.CH_STAT.CAUSE n) 3).put (DMA.CH_STAT.CODE n) code).put (DMA.CH_STAT.XSTAT n) d.status
  let b := (a.wr64 (DMA.CH_DESC_LO n) (DMA.CH_DESC_HI n) d.addr).leaveDma n dmaHalted
  b.report Src.DMA_DESC n (b.rd (DMA.CH_STAT n)).toNat

/-- Show the active set. -/
def State.showSet (s : State) (n : Nat) (d : DmaDesc) : State :=
  ((s.wr64 (DMA.CH_SRC_LO n) (DMA.CH_SRC_HI n) d.src).wr64 (DMA.CH_DST_LO n) (DMA.CH_DST_HI n) d.dst).wr (DMA.CH_LEN n) (w32 d.len)

/-- A descriptor becomes the active set: it is checked, waits in QUIESCED for its domain, or starts (R349, R351, R358). -/
def State.startDesc (s : State) (n : Nat) (d : DmaDesc) : State :=
  match s.dmaCode d with
  | 0 =>
    if s.namesDomain s.dma.down d then
      (((s.setCh n dmaQuiesced).onDmaCh n (fun _ => { shadow := some d }))).settleDma
    else
      let a := (s.loadB (DMA.CH_CTL n) (DMA.CH_CTL n + 4)).showSet n d
      ((a.setCh n dmaRunning).onDmaCh n (fun c => { active := some d, slot := c.slot })).settleDma
  | code => s.descErr n d code

/-- A write of GO (R350); x brings a list head that lies outside the node. -/
def State.dmaGo (s : State) (n : Nat) (x : Access) : State :=
  let st := s.get (DMA.CH_STAT.STATE n)
  if !s.blockOn DMA.CTL.EN 5 || !(st == dmaIdle || st == dmaStopped || st == dmaHalted) then s.raise DMA.STATUS.WRITE_IGNORED
  else
    let a := s.rd64 (DMA.CH_DESC_LO n) (DMA.CH_DESC_HI n)
    let b := ((s.put (DMA.CH_STAT.CAUSE n) 0).put (DMA.CH_STAT.XSTAT n) 0).put (DMA.CH_STAT.CODE n) 0
    let c := b.drop (DMA.CH_STAT.ERR_DIR n)
    if s.badSpace a then c.descErr n ⟨a, [], 0⟩ 3
    else if a % 32 != 0 then c.descErr n ⟨a, [], 0⟩ 4
    else
      let r := c.readDesc a x
      r.1.startDesc n r.2

/-- CH_GO (R350). -/
def execChGo (n : Nat) (x : Access) (s : State) : Host.Outcome State Fault Refusal := .next (s.when (n < 16) (·.dmaGo n x))

/-- A write of STOP (R356). -/
def State.dmaStop (s : State) (n : Nat) : State :=
  match s.get (DMA.CH_STAT.STATE n) with
  | 1 => (s.setCh n dmaStopping).onDmaCh n (fun c => { c with stop := true })
  | 5 =>
    let a := match (s.dmaCh n).shadow with
      | some d => s.wr64 (DMA.CH_DESC_LO n) (DMA.CH_DESC_HI n) d.addr
      | none => s
    a.leaveDma n dmaStopped
  | _ => s

/-- CH_STOP (R356). -/
def execChStop (n : Nat) (s : State) : Host.Outcome State Fault Refusal := .next (s.when (n < 16) (·.dmaStop n))

/-- DMA.CTL.EN (R356, R408). -/
def State.dmaEnable (s : State) : State := if s.flag DMA.CTL.EN then s else s.enableBlock DMA.CTL.EN 0 5
def State.dmaDisable (s : State) : State :=
  if s.flag DMA.CTL.EN then (s.disableBlock DMA.CTL.EN 5).each (List.range 16) (fun n t => t.dmaStop n) else s

/-- The shadow set is fetched while a descriptor executes (R350); nx brings one that lies outside the node. -/
def State.fetchShadow (s : State) (n : Nat) (d : DmaDesc) (nx : Access) : State :=
  if d.endBit then s
  else
    let r := s.readDesc d.nextAddr nx
    (r.1.onDmaCh n (fun c => { c with shadow := some r.2 })).syncDma

/-- The channel gives up its slot at a boundary to another of equal or higher PRIO that waits (R351). -/
def State.yieldSlot (s : State) (n : Nat) : State :=
  let w := s.slotWaiters.filter (· != n)
  match s.nextForSlot w with
  | some m => if s.prioOf n ≤ s.prioOf m then (s.onDmaCh n (fun c => { c with slot := false })).takeSlot m else s
  | none => s

/-- The channel is affected by the open request (R358). -/
def State.affected (s : State) (n : Nat) : Bool :=
  let c := s.dmaCh n
  (c.active.any (s.namesDomain s.dma.down)) || (c.shadow.any (s.namesDomain s.dma.down))

/-- The descriptor boundary after a completed descriptor (R350, R356): an affected channel starts no new one (R358). -/
def State.dmaBoundary (s : State) (n : Nat) (d : DmaDesc) : State :=
  let c := s.dmaCh n
  if d.endBit then s.leaveDma n dmaIdle
  else if c.stop then (s.wr64 (DMA.CH_DESC_LO n) (DMA.CH_DESC_HI n) d.nextAddr).leaveDma n dmaStopped
  else match c.shadow with
    | some e =>
      if s.affected n then ((s.setCh n dmaQuiesced).onDmaCh n (fun _ => { shadow := some e })).settleDma
      else (s.yieldSlot n).startDesc n e
    | none => s.leaveDma n dmaIdle

/-! Quiesce (R358) -/

/-- Every affected channel is QUIESCED: the engine signals ready. -/
def State.dmaReady (s : State) : Bool := (List.range 16).all (fun n => !s.affected n || s.get (DMA.CH_STAT.STATE n) == 5)

/-- An affected channel that waits for a slot stands at a boundary: it does not start its descriptor. -/
def State.holdWaiting (s : State) (n : Nat) : State :=
  match (s.dmaCh n).active with
  | some d =>
    if (s.dmaCh n).stop then (s.wr64 (DMA.CH_DESC_LO n) (DMA.CH_DESC_HI n) d.addr).leaveDma n dmaStopped
    else ((s.setCh n dmaQuiesced).onDmaCh n (fun _ => { shadow := some d })).settleDma
  | none => s

/-- A power-down request for the domains of a mask. -/
def State.quiesce (s : State) (mask : Nat) : State :=
  let a := (s.onDma (fun d => { d with down := d.down ||| mask })).raise DMA.STATUS.QUIESCING
  a.each (a.slotWaiters.filter a.affected) (fun n t => t.holdWaiting n)

/-- QUIESCE_REQUEST (R358). -/
def execQuiesceRequest (mask : Nat) (s : State) : Host.Outcome State Fault Refusal := .next (s.quiesce (mask % 1024))

/-- The oldest access without a response, or the next access: address, and whether it is a write. -/
def State.openAccess (s : State) (n : Nat) : Nat × Bool :=
  let c := s.dmaCh n
  match c.active, c.out with
  | some _, o :: _ => (o.2.2, true)
  | some d, [] =>
    if 2 ≤ c.phase then (d.addr + 20, true)
    else if d.op == 2 then (d.dst, true)
    else if d.op == 4 then (d.dst, false)
    else (d.src, false)
  | none, _ => (0, false)

/-- Latch an access in CH_ERR and ERR_DIR. -/
def State.latchErr (s : State) (n a : Nat) (write : Bool) : State :=
  (s.wr64 (DMA.CH_ERR_LO n) (DMA.CH_ERR_HI n) a).put (DMA.CH_STAT.ERR_DIR n) (nat01 write)

/-- An affected channel is not QUIESCED in time. -/
def State.powerAbort (s : State) (n : Nat) : State :=
  let o := s.openAccess n
  let a := ((s.latchErr n o.1 o.2).put (DMA.CH_STAT.CAUSE n) 5).leaveDma n dmaHalted
  a.report Src.DMA_POWER_ABORT n (a.rd (DMA.CH_STAT n)).toNat

/-- PD_QUIESCE_TMO (R358). -/
def execPdQuiesceTmo (s : State) : Host.Outcome State Fault Refusal :=
  .next (s.when (s.flag DMA.STATUS.QUIESCING)
    (fun t => t.each ((List.range 16).filter (fun n => t.affected n && t.dmaBusy n)) (fun n u => u.powerAbort n)))

/-- The domains are up again: QUIESCED channels resume by themselves. -/
def State.dmaResume (s : State) : State :=
  let a := (s.onDma (fun d => { d with down := 0 })).drop DMA.STATUS.QUIESCING
  a.each ((List.range 16).filter (fun n => a.get (DMA.CH_STAT.STATE n) == 5)) (fun n t =>
    match (t.dmaCh n).shadow with
    | some d => t.startDesc n d
    | none => t.leaveDma n dmaIdle)

end Sys2Proof.Machine
end

