-- ==== Sys2Proof/Machine/Memories.lean ====
section
/-! DEFINITION. The march engine, the DRAM controller and the wipes (13_dma_memory.md, R364-R370). -/

namespace Sys2Proof.Machine

/-- Every byte from lo up to hi reads 0: the canonical form lists none of them. -/
def State.eraseRange (s : State) (lo hi : Nat) : State := { s with mem := s.mem.filter (fun e => !(lo ≤ e.1 && e.1 < hi)) }

/-! The march engine -/

/-- First address of a bank. -/
def bankBase (b : Nat) : Nat := 0x10000000 + 0x40000 * b

/-- Banks the engine may test: selected and not urgent, and in preserving mode not offline (R365, R366). -/
def State.marchBanks (s : State) : List Nat :=
  let sel := bitsOf 32 (s.get MEMC.MARCH_BANKS.BANK)
  sel.filter (fun b => !bit (s.get MEMC.URGENT.BANK) b
    && (s.flag MEMC.MARCH_CTL.MODE || !bit (s.get MEMC.OFFLINE.BANK) b))

def State.setMarchPos (s : State) (b w : Nat) : State := ((s.put MEMC.MARCH_POS.BANK b).put MEMC.MARCH_POS.WINDOW w).onMem (fun m => { m with yields := 0 })

/-- Setting MARCH_CTL.EN: refused in destructive mode when a selected bank is urgent or not offline (R365). -/
def State.marchEnable (s : State) : State :=
  if s.flag MEMC.MARCH_CTL.EN then s
  else
    let sel := s.get MEMC.MARCH_BANKS.BANK
    let bad := (bitsOf 32 sel).filter (fun b => bit (s.get MEMC.URGENT.BANK) b || !bit (s.get MEMC.OFFLINE.BANK) b)
    if s.flag MEMC.MARCH_CTL.MODE && !bad.isEmpty then
      s.reportOnce MEMC.STATUS.CFG_ERR Src.MEM_CFG 0 ((bad.map (2 ^ ·)).foldl (· + ·) 0)
    else ((s.enableBlock MEMC.MARCH_CTL.EN 0 7).raise MEMC.MARCH_STAT.BUSY).setMarchPos (s.marchBanks.headD 0) 0

/-- MARCH_ENABLE (R365). -/
def execMarchEnable (s : State) : Host.Outcome State Fault Refusal := .next s.marchEnable

/-- Clearing MARCH_CTL.EN. -/
def State.marchDisable (s : State) : State := (s.disableBlock MEMC.MARCH_CTL.EN 7).drop MEMC.MARCH_STAT.BUSY

/-- The window to test: the present one, or window 0 of the next bank in use when the present bank has dropped out. -/
def State.marchPlace (s : State) : Option (Nat × Nat) :=
  let b := s.get MEMC.MARCH_POS.BANK
  let banks := s.marchBanks
  if banks.contains b then some (b, s.get MEMC.MARCH_POS.WINDOW)
  else match banks.find? (fun c => b < c) with
    | some c => some (c, 0)
    | none => banks.head?.map (fun c => (c, 0))

/-- The next bank after b; past the last one a pass ends (R366). -/
def State.marchNextBank (s : State) (b : Nat) : State :=
  match s.marchBanks.find? (fun c => b < c) with
  | some c => s.setMarchPos c 0
  | none => (s.bump MEMC.MARCH_STAT.PASSES).setMarchPos (s.marchBanks.headD 0) 0

/-- The window after (b, w). -/
def State.marchStep (s : State) (b w : Nat) : State := if w < 1023 then s.setMarchPos b (w + 1) else s.marchNextBank b

/-- A word fails the test: its address and the differing data and check bits (R367). -/
def State.marchFail (s : State) (f : Nat × (Word × Nat)) : State :=
  let a := ((s.wr MEMC.MARCH_FAIL_ADDR (w32 f.1)).wr MEMC.MARCH_FAIL_XOR_LO f.2.1).put MEMC.MARCH_FAIL_XOR_HI.BITS f.2.2
  a.reportOnce MEMC.MARCH_STAT.FAIL Src.MEM_MARCH_FAIL (bankOf f.1) (f.1 % 2 ^ 32)

/-- The last bank of a destructive test is done. -/
def State.marchDone (s : State) : State := ((s.raise MEMC.MARCH_STAT.DONE).bump MEMC.MARCH_STAT.PASSES).marchDisable

/-- MARCH_WINDOW (R365-R367): the engine tests the next window, which keeps its contents, or in destructive mode the next
bank, which is left at 0; the words that failed are the operand. -/
def execMarchWindow (fails : List (Nat × (Word × Nat))) (s : State) : Host.Outcome State Fault Refusal :=
  if !s.blockOn MEMC.MARCH_CTL.EN 7 then .next s
  else match s.marchPlace with
    | none => .next (s.when (s.flag MEMC.MARCH_CTL.MODE) (·.marchDone))
    | some (b, w) =>
      if s.flag MEMC.MARCH_CTL.MODE then
        let a := s.each (fails.filter (fun f => bankBase b ≤ f.1 && f.1 < bankBase (b + 1))) (fun f t => t.marchFail f)
        let c := a.eraseRange (bankBase b) (bankBase (b + 1))
        .next (match c.marchBanks.find? (fun d => b < d) with
          | some d => c.setMarchPos d 0
          | none => c.marchDone)
      else
        let lo := bankBase b + 256 * w
        let a := s.each (fails.filter (fun f => lo ≤ f.1 && f.1 < lo + 256)) (fun f t => t.marchFail f)
        .next (a.marchStep b w)

/-- MARCH_YIELD (R366): a port access ends the test of the window; the 16th time in a row the window is skipped. A bank
that may not be tested any more is left, and the count is of the window that follows. -/
def execMarchYield (s : State) : Host.Outcome State Fault Refusal :=
  if !s.blockOn MEMC.MARCH_CTL.EN 7 || s.flag MEMC.MARCH_CTL.MODE then .next s
  else match s.marchPlace with
    | none => .next s
    | some (b, w) =>
      let n := (if s.get MEMC.MARCH_POS.BANK == b && s.get MEMC.MARCH_POS.WINDOW == w then s.memc.yields else 0) + 1
      let a := ((s.put MEMC.MARCH_POS.BANK b).put MEMC.MARCH_POS.WINDOW w).bump (wordFld MEMC.YIELD_CNT)
      .next (if 16 ≤ n then (a.bump (wordFld MEMC.SKIP_CNT)).marchStep b w else a.onMem (fun m => { m with yields := n }))

/-! Wipes (R370) -/

/-- A part of the wipe: 0 SRAM, 1 the TCMs, 2 line queues and WMEM, 3 the DMA buffer, 4 DRAM. -/
def wipeFld (part : Nat) : Fld := ⟨MEMC.WIPE_STAT, part, 1⟩

/-- ALL_DONE sets with the last part; without a profile the DRAM is skipped. -/
def State.wipeSum (s : State) : State :=
  let a := s.when (!s.flag DRAMC.CTL.EN && !s.flag MEMC.WIPE_STAT.DRAM) (·.raise MEMC.WIPE_STAT.DRAM_SKIP)
  a.when ((List.range 4).all (fun p => a.flag (wipeFld p)) && (a.flag MEMC.WIPE_STAT.DRAM || a.flag MEMC.WIPE_STAT.DRAM_SKIP))
    (·.raise MEMC.WIPE_STAT.ALL_DONE)

/-- What a wiped part holds. -/
def State.wipePart (s : State) (part : Nat) : State :=
  match part with
  | 0 => s.eraseRange 0x10000000 0x10800000
  | 1 => (s.eraseRange 0x08000000 0x08020000).eraseRange 0x09000000 0x09020000
  | 4 => s.eraseRange 0x8000000000 0x10000000000
  | _ => s

/-! DRAM (R368, R369) -/

/-- Setting DRAMC.CTL.EN: the controller trains and wipes. -/
def State.dramEnable (s : State) : State :=
  if s.flag DRAMC.CTL.EN then s
  else (s.enableBlock DRAMC.CTL.EN 3 8).onMem (fun m => { m with training := true })

/-- DRAM_ENABLE (R368). -/
def execDramEnable (s : State) : Host.Outcome State Fault Refusal := .next s.dramEnable

/-- Fitted capacity in units of 64 MB: two channels of 1, 2, 4 or 8 GB. -/
def State.fitted (s : State) : Nat := 32 * 2 ^ s.get DRAMC.CFG.DENSITY

/-- SCRUB (R369): the controller reads the next 4 KB block, and corrects and reports as on any read. -/
def execScrub (x : Access) (s : State) : Host.Outcome State Fault Refusal :=
  if !(s.flag DRAMC.SCRUB_CFG.EN && s.flag DRAMC.STATUS.READY) || s.flag DRAMC.STATUS.SELF_REFRESH then .next s
  else
    let k := s.get DRAMC.SCRUB_POS.BLOCK
    let lo := 0x8000000000 + 4096 * k
    let hit := fun (w : Nat) => lo ≤ w && w < lo + 4096 && s.region w == .dram
    let a := (s.each (x.ce.filter hit) (fun w t => t.corrected w)).each (x.ue.filter hit) (fun w t => t.uncorrectable w)
    let blocks := s.get DRAMC.CAP.SIZE * 16384
    .next (a.put DRAMC.SCRUB_POS.BLOCK (if k + 1 < blocks then k + 1 else 0))

end Sys2Proof.Machine
end

