-- ==== Sys2Proof/Machine/Otp.lean ====
section
/-! DEFINITION. Fuse programming, finalising and locks (15_otp_lifecycle.md, R397-R403). Sensing and life-cycle
transitions are in Boot.lean. -/

namespace Sys2Proof.Machine

/-! Digests (R391) -/

/-- First word of the digest field of a region; for IDENT and ROOTKEY the one in BOOTDIGEST. -/
def digestWord (q : Nat) : Nat :=
  match q with
  | 0 => 44 | 2 => 46 | 3 => 48 | 4 => 64 | 5 => 100 | 6 => 135 | 7 => 155 | _ => 254

/-- Bytes that the digest of a region covers, with a given read of a word. -/
def coveredBytes (rd : Nat → Word) (q : Nat) : List Byte :=
  match q with
  | 0 => rangeBytes rd 0 192
  | 2 => rangeBytes rd 10 1028
  | 3 => rangeBytes rd 44 128
  | 4 => rangeBytes rd 50 448
  | 5 => rangeBytes rd 66 1028
  | 6 => rangeBytes rd 102 256 ++ rangeBytes rd 134 32
  | 7 => rangeBytes rd 137 514
  | _ => rangeBytes rd 191 2016

/-- The stored digest of a region with a given read; 0 means not final. -/
def storedDigest (rd : Nat → Word) (q : Nat) : Nat := rangeNat rd (digestWord q) 64

/-- The region is final: its digest is burned. -/
def State.final (s : State) (q : Nat) : Bool := storedDigest s.fuseWord q != 0

/-- Written-indicators of a region's slots (table of the region contents). -/
def State.written (s : State) (q : Nat) : Nat :=
  match q with
  | 2 => fieldOf (s.fuseWord 42) 0 4
  | 5 => fieldOf (s.fuseWord 98) 0 4
  | 7 => fieldOf (s.fuseWord 153) 0 2
  | _ => 0

/-- REGION_STAT of every region: the flags that follow the array at once, beside what the last sensing gave. OEM_CFG,
OEM_KEY or USER that failed is shown unlocked and unreadable (restrictive defaults). -/
def State.syncRegions (s : State) : State :=
  s.each (List.range 10) (fun q t =>
    let f := t.flag (OTP.REGION_STAT.FAILED q)
    let open_ := f && (q == 4 || q == 5 || q == 9)
    let rlock := t.locked q 1 && q != 6 && q != 7 && !open_
    let fin := q != 1 && q != 8 && t.final q && !open_
    t.wr (OTP.REGION_STAT q) (w32 (t.written q * 2 ^ 12 + nat01 f * 32 + nat01 (t.locked q 2) * 16
      + nat01 rlock * 8 + nat01 (t.locked q 0 && !open_) * 4 + nat01 fin * 2
      + nat01 ((6 ≤ q && q ≤ 8) || open_ || rlock))))

/-! Refusals (R398) -/

/-- Some die sensor reads outside 0 to +85 °C, in 1/16 °C. -/
def State.dieHot (s : State) : Bool :=
  [CAL.DIE_TEMP_01.TS_LO, CAL.DIE_TEMP_01.TS_HI, CAL.DIE_TEMP_23.TS_LO, CAL.DIE_TEMP_23.TS_HI].any
    (fun f => let t := signedOf 16 (s.get f); t < 0 || 1360 < t)

/-- SRC = 1 selects VPP_OTP, which is below 5.7 V. -/
def State.vppLow (s : State) : Bool := s.get OTP.PGM_CFG.SRC == 1 && !s.flag OTP.STATUS.VPP_OK

def State.lcState (s : State) : Nat := s.get OTP.LC_STATE.STATE

/-- The life cycle forbids programming of a region (table of states). -/
def State.lcForbids (s : State) (q : Nat) : Bool :=
  let upper := q == 4 || q == 5 || q == 6 || q == 7 || q == 9
  match s.lcState with
  | 0 => !(q == 0 || q == 2 || upper)
  | 1 => !(q == 0 || q == 2 || upper)
  | 2 => !upper
  | 3 => !upper
  | _ => true

/-- The region failed its check (R394). -/
def State.failed (s : State) (q : Nat) : Bool := q < 10 && s.flag (OTP.REGION_STAT.FAILED q)

/-- Codes 0x04 to 0x06, 0 when none applies. -/
def State.pgmHold (s : State) : Nat :=
  if s.dieHot then 4
  else if s.vppLow then 5
  else if s.flag OTP.STATUS.PGM_BUSY then 6
  else 0

/-- The region takes no more bits: it is final or write-locked, or no chip-side command writes it. -/
def State.closed (s : State) (q : Nat) : Bool := q == 3 || q == 8 || q == 10 || (q != 1 && s.final q) || s.locked q 0

/-- Refusal code of a PGM command, 0 when it is accepted: SCRAP first, then a failed region, then the table's order (log entry
60). REVOKE bits pass 0x01 and 0x02 in every state but SCRAP. -/
def State.pgmCode (s : State) (w data : Nat) : Nat :=
  let q := otpRegion w
  let revoke := w == 42 && data % 16 == 0 && data / 256 == 0 && data / 16 % 16 != 0
  if s.lcState == 5 then 7
  else if s.failed q then 3
  else if !revoke && (s.closed q || (110 ≤ w && w < 134)) then 1
  else if !revoke && s.lcForbids q then 2
  else s.pgmHold

/-- A refused command is recorded and reported; what names the word or the region. -/
def State.otpRefused (s : State) (code what : Nat) : State :=
  (s.raise OTP.STATUS.PGM_REFUSED).report Src.OTP_REFUSED 0 (code * 2 ^ 24 + what % 256)

/-- PGM_BUSY: a command, finalise, lock or transition runs. -/
def State.syncBusy (s : State) : State := s.put OTP.STATUS.PGM_BUSY (nat01 (s.otp.cmd.isSome || s.otp.lock.isSome))

/-- A command ends. -/
def State.endOtp (s : State) : State := ((s.onOtp (fun o => { o with cmd := none })).syncBusy).syncRegions

/-- Program bits and count the weak ones in PGM_STAT (R397 step 3); the answer names the bit at which it stopped. -/
def State.burnCounted (s : State) (bits : List Nat) (burn : List Burn) : State × Option Nat :=
  let r := s.burnBits bits burn 0
  (r.1.put OTP.PGM_STAT.WEAK (min 255 (s.get OTP.PGM_STAT.WEAK + r.2.2)), r.2.1)

/-- A bit of which neither copy verified (R397 step 4). -/
def State.otpFailed (s : State) (i : Nat) : State :=
  let a := ((s.put OTP.PGM_STAT.CODE 0x10).put OTP.PGM_STAT.BIT i).raise OTP.STATUS.PGM_FAIL
  a.report Src.OTP_PGM 0 (a.rd OTP.PGM_STAT).toNat

/-! PGM (R397-R399) -/

/-- VPP_OTP as the command meets it. -/
def State.senseVpp (s : State) (vpp : Bool) : State := s.put OTP.STATUS.VPP_OK (nat01 vpp)

/-- A write of PGM_CTL.GO. -/
def State.pgmGo (s : State) : State :=
  let w := s.get OTP.PGM_WORD.INDEX
  let d := (s.rd OTP.PGM_DATA).toNat
  match s.pgmCode w d with
  | 0 => ((s.wr OTP.PGM_STAT 0#32).raise OTP.STATUS.PGM_BUSY).onOtp (fun o => { o with cmd := some (.program w d) })
  | code => (s.put OTP.PGM_STAT.CODE code).otpRefused code w

/-- PGM_GO (R397): the operand says whether VPP_OTP is at or above 5.7 V. -/
def execPgmGo (vpp : Bool) (s : State) : Host.Outcome State Fault Refusal :=
  .next (s.when (!s.held) (fun t => (t.senseVpp vpp).pgmGo))

/-- The WRITTEN bit that a command on the last word of a key slot sets (R399). -/
def writtenBit (w : Nat) : Option Nat :=
  if 10 ≤ w && w < 42 && (w - 10) % 8 == 7 then some (320 + 1024 + (w - 10) / 8)
  else if 66 ≤ w && w < 98 && (w - 66) % 8 == 7 then some (2112 + 1024 + (w - 66) / 8)
  else if 137 ≤ w && w < 153 && (w - 137) % 8 == 7 then some (4384 + 512 + (w - 137) / 8)
  else none

/-- Bits that a PGM command programs, its WRITTEN bit last. -/
def State.pgmBits (s : State) (w data : Nat) : List Nat :=
  s.bitsToBurn w data ++ (match writtenBit w with
    | some i => if s.fuseBit i then [] else [i]
    | none => [])

/-- Program bits for a PGM command and count its weak ones; the answer says whether it goes on. -/
def State.pgmBurn (s : State) (bits : List Nat) (burn : List Burn) : State × Bool :=
  let r := s.burnCounted bits burn
  match r.2 with
  | some i => ((r.1.endOtp).otpFailed i, false)
  | none => (r.1.syncRegions, true)

/-- PGM_DONE (R397, R399): the command's bits have been pulsed, with the results of the operand. -/
def execPgmDone (burn : List Burn) (s : State) : Host.Outcome State Fault Refusal :=
  match s.otp.cmd with
  | some (.program w d) =>
    let r := s.pgmBurn (s.pgmBits w d) burn
    .next (if r.2 then r.1.endOtp else r.1)
  | _ => .next s

/-! Finalising (R401) -/

/-- A mandatory slot of the region is unwritten. -/
def State.slotMissing (s : State) (q : Nat) : Bool :=
  match q with
  | 5 => s.written 5 % 2 == 0
  | 6 => rangeNat s.fuseWord 102 256 == 0
  | 7 => s.written 7 != 3
  | _ => false

/-- Refusal code of a finalise. -/
def State.finCode (s : State) (q : Nat) (force : Bool) : Nat :=
  if s.lcState == 5 then 7
  else if !(q == 0 || q == 2 || hasLocks q) then 1
  else if s.failed q then 3
  else if s.closed q then 1
  else if s.lcForbids q then 2
  else match s.pgmHold with
    | 0 => if s.slotMissing q && !force then 0x20 else 0
    | c => c

/-- A write of FIN_CTL.GO. -/
def State.finGo (s : State) : State :=
  let q := s.get OTP.FIN_CTL.REGION
  let force := s.flag OTP.FIN_CTL.FORCE
  match s.finCode q force with
  | 0 => ((s.wr OTP.FIN_STAT 0#32).raise OTP.STATUS.PGM_BUSY).onOtp (fun o => { o with cmd := some (.finalise q (s.slotMissing q)) })
  | code => (s.put OTP.FIN_STAT.CODE code).otpRefused code q

/-- FIN_GO (R401). -/
def execFinGo (vpp : Bool) (s : State) : Host.Outcome State Fault Refusal :=
  .next (s.when (!s.held) (fun t => (t.senseVpp vpp).finGo))

/-- Bits of a digest that are still to be burned. -/
def State.digestBits (s : State) (q : Nat) : List Nat :=
  let d := digest64 (coveredBytes s.fuseWord q)
  s.bitsToBurn (digestWord q) (d % 2 ^ 32) ++ s.bitsToBurn (digestWord q + 1) (d / 2 ^ 32)

/-- The digest, and for an upper region WLOCK and, when it was forced, FORCED. -/
def State.finBits (s : State) (q : Nat) (forced : Bool) : List Nat :=
  s.digestBits q ++ ((if hasLocks q then [lockBit q 0] ++ (if forced then [lockBit q 2] else []) else []).filter (fun i => !s.fuseBit i))

/-- D_SELF follows the second of D_IDENT and D_ROOTKEY. -/
def State.selfBits (s : State) (q : Nat) : List Nat :=
  if (q == 0 || q == 2) && s.final 0 && s.final 2 && !s.final 3 then s.digestBits 3 else []

/-- A finalise ends. -/
def State.finEnd (s : State) (q : Nat) (forced : Bool) (stop : Option Nat) : State :=
  match stop with
  | some i => ((s.put OTP.FIN_STAT.CODE 0x10).endOtp).otpFailed i
  | none => ((s.put OTP.FIN_STAT.CODE 0).endOtp).when forced (·.report Src.OTP_FORCED q 0)

/-- FIN_DONE (R401): the bits of the finalise have been pulsed, with the results of the operand. -/
def execFinDone (burn : List Burn) (s : State) : Host.Outcome State Fault Refusal :=
  match s.otp.cmd with
  | some (.finalise q forced) =>
    let bits := s.finBits q forced
    let a := s.burnCounted bits burn
    match a.2 with
    | some i => .next (a.1.finEnd q forced (some i))
    | none =>
      let b := a.1.burnCounted (a.1.selfBits q) (burn.drop bits.length)
      .next (b.1.finEnd q forced b.2)
  | _ => .next s

/-! Locks (R402, R403) -/

/-- A lock or a transition is in progress. -/
def State.lockRuns (s : State) : Bool :=
  s.otp.lock.isSome || (match s.otp.cmd with | some (.transition _ _) => true | _ => false)

/-- Refusal code of a lock; a lock does not wait for a PGM command or a finalise in progress. -/
def State.lockCode (s : State) (q : Nat) : Nat :=
  if s.lcState == 5 then 7
  else if !(q == 4 || q == 5 || q == 7 || q == 9) then 1
  else if s.failed q then 3
  else if s.lcState == 4 then 2
  else match s.pgmHold with
    | 6 => if s.lockRuns then 6 else 0
    | c => c

/-- A PGM command or a finalise in progress on the region: the bits of the region it has programmed so far, and those it
has not. -/
def State.opOn (s : State) (q : Nat) (sofar : List Burn) : Option (List Nat × List Nat) :=
  match s.otp.cmd with
  | some (.program w d) => if otpRegion w == q then some ((s.pgmBits w d).splitAt sofar.length) else none
  | some (.finalise r _) => if r == q then some ((s.digestBits q).splitAt sofar.length) else none
  | _ => none

/-- A PGM command or a finalise stops before its next bit because its region has been locked (R402, R407). -/
def State.opLocked (s : State) : State :=
  match s.otp.cmd with
  | some (.program w _) => ((s.put OTP.PGM_STAT.CODE 1).endOtp).otpRefused 1 w
  | some (.finalise q _) => ((s.put OTP.FIN_STAT.CODE 1).endOtp).otpRefused 1 q
  | _ => s

/-- Program the bits of the command in progress that come before a lock, and count its weak ones; the answer says whether
the command goes on. -/
def State.opBurn (s : State) (bits : List Nat) (burn : List Burn) : State × Bool :=
  match s.otp.cmd with
  | some (.finalise q f) =>
    let r := s.burnCounted bits burn
    match r.2 with
    | some i => (r.1.finEnd q f (some i), false)
    | none => (r.1.syncRegions, true)
  | _ => s.pgmBurn bits burn

/-- Lock fuses that a write of LOCK_CTL names and that are not burned yet: WLOCK first. -/
def State.lockBits (s : State) (q v : Nat) : List Nat :=
  ((if bit v 4 then [lockBit q 0] else []) ++ (if bit v 5 then [lockBit q 1] else [])).filter (fun i => !s.fuseBit i)

/-- Burn lock fuses of a region; more says that a PGM command or a finalise of it has bits of the region to come, which
stops as the first lock bit verifies. -/
def State.burnLocks (s : State) (q v : Nat) (burn : List Burn) (more : Bool) : State :=
  let bits := s.lockBits q v
  let r := s.burnCounted bits burn
  let a := (r.1.syncRegions).when (more && !bits.isEmpty && bits.head? != r.2) (·.opLocked)
  match r.2 with
  | some i => a.otpFailed i
  | none => a

/-- A write to LOCK_CTL: the lock is in progress until its pulses end (lockEnd). -/
def State.lockCtl (s : State) (v : Nat) (burn sofar : List Burn) : State :=
  let q := v % 16
  if v / 16 % 4 == 0 then s
  else match s.lockCode q with
    | 0 => (s.onOtp (fun o => { o with lock := some ⟨v, burn, sofar⟩ })).syncBusy
    | code => (s.put OTP.PGM_STAT.CODE code).otpRefused code q

/-- The pulses of the lock in progress end. -/
def State.lockEnd (s : State) : State :=
  match s.otp.lock with
  | none => s
  | some l =>
    let a := (s.onOtp (fun o => { o with lock := none })).syncBusy
    let q := l.v % 16
    match a.opOn q l.sofar with
    | some (gone, rest) =>
      let r := a.opBurn gone l.sofar
      r.1.burnLocks q l.v l.burn (r.2 && !rest.isEmpty)
    | none => a.burnLocks q l.v l.burn false

/-- LOCK_CTL (R402): the value written, the results of the lock fuses' pulses, and what the write meets. -/
def execLockCtl (v : Nat) (burn : List Burn) (e : LockEnv) (s : State) : Host.Outcome State Fault Refusal :=
  .next (s.when (!s.held) (fun t => (t.senseVpp e.vpp).lockCtl v burn e.sofar))

/-- KEY_OPEN (R403): a write of 0 clears OPEN. -/
def execKeyOpen (s : State) : Host.Outcome State Fault Refusal := .next (s.drop OTP.KEY_OPEN.OPEN)

end Sys2Proof.Machine
end

