-- ==== Sys2Proof/Machine/Predict.lean ====
section
/-! DEFINITION. Prediction of the web position (R135-R139, R142) and the predicted line latches (R78, R144, R146). -/

namespace Sys2Proof.Machine

/-- Signed distance from time b to time a on the 48-bit count of ticks. -/
def tickDist (a b : Nat) : Int := signedOf 48 (a + 2 ^ 48 - b % 2 ^ 48)

/-- The instant t has been reached at time now. -/
def reached (now t : Nat) : Bool := 0 ≤ tickDist now t

/-- Distance of position a from b in direction dir, 24.24 form, modulo 2^24 counts (R139). -/
def posDist (a b dir : Nat) : Nat := if dir == 1 then (b + 2 ^ 48 - a % 2 ^ 48) % 2 ^ 48 else (a + 2 ^ 48 - b % 2 ^ 48) % 2 ^ 48

/-- a lies ahead of b (R139). -/
def posAhead (a b dir : Nat) : Bool := 0 < posDist a b dir && posDist a b dir < 2 ^ 47

/-- a lies behind b (R139). -/
def posBehind (a b dir : Nat) : Bool := 2 ^ 47 ≤ posDist a b dir

/-- p̂(t) of a sample (R137): v is in 1/65,536 count per µs and a tick is 0.625 ns, so a tick moves the position by
v × 4 / 25 units of 2^-24 count. -/
def Sample.posAt (k : Sample) (t : Nat) : Nat :=
  unsignedOf 48 ((k.p : Int) + roundDiv (4 * k.v * tickDist t k.t) 25)

/-- The instant at which p̂ reaches a position, on the nearest tick (R135, R142). -/
def Sample.timeOf (k : Sample) (pos : Nat) : Nat :=
  let d : Int := signedOf 48 (posDist pos k.p (if k.v < 0 then 1 else 0))
  unsignedOf 48 ((k.t : Int) + roundDiv (25 * d) (4 * k.v.natAbs))

/-- The position step of one line: PITCH, taken in the direction of the job (R141, R139; log entry 85). -/
def Job.step (j : Job) : Nat := if j.dir == 1 then (2 ^ 48 - j.pitch % 2 ^ 48) % 2 ^ 48 else j.pitch

/-- A position offset of frac / 65,536 of a line, in the direction of the job (R144; log entries 85 and 86). -/
def Job.offset (j : Job) (frac : Nat) : Nat :=
  let d := frac * j.pitch / 65536
  if j.dir == 1 then (2 ^ 48 - d % 2 ^ 48) % 2 ^ 48 else d

/-- LOOKAHEAD in ticks (R142). -/
def State.lookahead (s : State) : Nat := 8 * oneIfZero (s.get FIRE.CFG.LOOKAHEAD)

/-- COMMIT in ticks (R146). -/
def State.commitLead (s : State) : Nat := 8 * max 8 (s.get FIRE.PRED_CFG.COMMIT)

/-- Smallest ROW_FRAC of the rows in use: that of group 0 (R145). -/
def State.firstFrac (s : State) (h nrows : Nat) : Nat :=
  ((List.range (nrows - 1)).map (fun r => s.get (FIRE.ROW_FRAC.FRAC h (r + 1)))).foldl min (s.get (FIRE.ROW_FRAC.FRAC h 0))

/-- The line that head h's port works toward: the first line whose latch has not started (its boundary has passed), or
the line of the loaded compare; with its job sequence, job line, and the predicted instant of its first trigger. -/
structure PortLine where
  seq : Nat
  y : Nat
  trig : Option Nat
  deriving DecidableEq, Repr

def State.portLine (s : State) (h : Nat) : Option PortLine :=
  match s.fire.trigs.find? (fun t => t.head == h && t.group == 0 && !t.committed) with
  | some t => some ⟨t.seq, t.y, if s.flag FIRE.STATUS.PRED_VALID then some t.at_ else none⟩
  | none =>
    if s.fire.loaded then
      match s.job? s.fire.cmpJob with
      | some j =>
        if bit j.headMask h then
          some ⟨j.seq, s.fire.cmpY,
            match s.fire.sample with
            | some k =>
              if s.flag FIRE.STATUS.PRED_VALID then
                some ((k.timeOf ((s.compare + j.offset (s.firstFrac h (nRows (s.portNext h j.seq)))) % 2 ^ 48)
                  + s.get (FIRE.HEAD_CFG.DLY h)) % 2 ^ 48)
              else none
            | none => none⟩
        else none
      | none => none
    else none

/-- Instant dt ticks before t. -/
def before (t dt : Nat) : Nat := (t + 2 ^ 48 - dt) % 2 ^ 48

end Sys2Proof.Machine
end

