-- ==== Sys2Proof/Machine/Framing.lean ====
section
/-! DEFINITION. Framing programs (R87-R89): their format, their check, and the six framing instructions that a lane
runs. -/

namespace Sys2Proof.Machine

/-! The format -/

def fpSymw (p : List Word) : Nat := wf p 0 4 4
def fpLanesCode (p : List Word) : Nat := wf p 0 2 2
/-- Data lanes in use. -/
def fpLanes (p : List Word) : Nat := match fpLanesCode p with | 0 => 1 | 1 => 2 | _ => 4
/-- NI_k. -/
def fpNi (p : List Word) (k : Nat) : Nat := wf p 1 (8 * k) 8
/-- Symbol of a code. -/
def fpSym (p : List Word) (c : Nat) : Nat :=
  (if c < 8 then wf p 2 (4 * c) 4 else wf p 3 (4 * (c - 8)) 4) % 2 ^ fpSymw p
def fpPoly (p : List Word) : Nat := wf p 4 16 16
def fpInit (p : List Word) : Nat := wf p 4 0 16
/-- First word of the list of lane k. -/
def fpListAt (p : List Word) (k : Nat) : Nat := 6 + 2 * ((List.range k).map (fpNi p)).sum
/-- Length of the program in words. -/
def fpLen (p : List Word) : Nat := fpListAt p 4
/-- Words 0 and 1 of instruction i of lane k. -/
def fpIns (p : List Word) (k i : Nat) : Word × Word := (wordAt p (fpListAt p k + 2 * i), wordAt p (fpListAt p k + 2 * i + 1))

def insOpc (i : Word × Word) : Nat := fieldOf i.1 28 4
def insMsbf (i : Word × Word) : Bool := fieldOf i.1 27 1 == 1
def insNbits (i : Word × Word) : Nat := fieldOf i.1 22 5 + 1
def insRep (i : Word × Word) : Nat := fieldOf i.1 10 12 + 1
def insCount (i : Word × Word) : Nat := fieldOf i.1 14 13
def insStart (i : Word × Word) : Nat := fieldOf i.1 0 12
def insStride (i : Word × Word) : Int := signedOf 16 (fieldOf i.2 0 16)
def insW16 (i : Word × Word) : Bool := fieldOf i.1 26 1 == 1
def insK (i : Word × Word) : Nat := fieldOf i.1 21 6
def insN (i : Word × Word) : Nat := fieldOf i.1 8 13 + 1
def insAdv (i : Word × Word) : Int := signedOf 16 (fieldOf i.2 0 16)

/-- Bits that one run of an instruction emits. -/
def insBits (p : List Word) (i : Word × Word) : Nat :=
  match insOpc i with
  | 1 => insNbits i * insRep i
  | 2 => insCount i * fpSymw p
  | 4 => if insW16 i then 16 else 8
  | _ => 0

/-- The LOOP of lane k whose body holds instruction i. -/
def fpLoopOf (p : List Word) (k i : Nat) : Option (Word × Word) :=
  ((List.range i).find? (fun l => insOpc (fpIns p k l) == 5 && i ≤ l + insK (fpIns p k l))).map (fpIns p k)

/-- Passes of instruction i of lane k. -/
def fpPasses (p : List Word) (k i : Nat) : Nat := match fpLoopOf p k i with | some l => insN l | none => 1

/-- Bits that lane k emits in a frame. -/
def fpBits (p : List Word) (k : Nat) : Nat :=
  ((List.range (fpNi p k)).map (fun i => insBits p (fpIns p k i) * fpPasses p k i)).sum

/-- FRAME_BITS. -/
def frameBits (p : List Word) : Nat := fpBits p 0

/-! The check (R89) -/

/-- First (lane, instruction) that a test refuses. -/
def fpBad (p : List Word) (bad : Nat → Nat → Bool) : Option (Nat × Nat) :=
  (List.range 4).findSome? (fun k => ((List.range (fpNi p k)).find? (bad k)).map (fun i => (k, i)))

/-- Tests 0x01 and 0x03. -/
def fpCheckHeader (p : List Word) : Option (Nat × (Nat × Nat)) :=
  if wf p 0 16 16 != 0x4650 || wf p 0 8 8 != 1 then some (1, (0, 0))
  else if fpSymw p == 0 || 4 < fpSymw p || fpLanesCode p == 3 then some (3, (0, 0))
  else
    match (List.range 4).find? (fun k => fpNi p k == 0 || 64 < fpNi p k) with
    | some k => some (3, (k, 0))
    | none => none

/-- Test 0x04: a reserved opcode, an END before the end, or a list that does not end with END. -/
def badOpcode (p : List Word) (k i : Nat) : Bool :=
  let o := insOpc (fpIns p k i)
  if i + 1 == fpNi p k then o != 15 else o == 15 || o == 0 || (6 ≤ o && o ≤ 14)

/-- Test 0x06: K out of range, a body that holds END or reaches past the list, or a nested LOOP. -/
def badLoop (p : List Word) (k i : Nat) : Bool :=
  let l := fpIns p k i
  insOpc l == 5 && (insK l == 0 || 32 < insK l || fpNi p k ≤ i + insK l + 1
    || (List.range (insK l)).any (fun b => insOpc (fpIns p k (i + 1 + b)) == 5))

/-- Test 0x05: COUNT or STRIDE out of range, or a position outside 0-4,095 in a pass; positions are linear in the pass
and in the index, so the four corners decide. -/
def badNoz (p : List Word) (k i : Nat) : Bool :=
  let z := fpIns p k i
  insOpc z == 2 && (insCount z == 0 || 4096 < insCount z || insStride z == 0 ||
    (let adv : Int := match fpLoopOf p k i with | some l => insAdv l * ((insN l : Int) - 1) | none => 0
     let run : Int := insStride z * ((insCount z : Int) - 1)
     [(0 : Int), run, adv, adv + run].any (fun d => (insStart z : Int) + d < 0 || 4095 < (insStart z : Int) + d)))

/-- The tests after the lists are read: 0x02, 0x04, 0x06, 0x05, 0x07, 0x08, 0x09. -/
def fpCheckBody (p : List Word) : Option (Nat × (Nat × Nat)) :=
  if crc32Words (p.drop 6) != (wordAt p 5).toNat then some (2, (0, 0))
  else
    match fpBad p (badOpcode p) with
    | some w => some (4, w)
    | none =>
      match fpBad p (badLoop p) with
      | some w => some (6, w)
      | none =>
        match fpBad p (badNoz p) with
        | some w => some (5, w)
        | none =>
          match (List.range (fpLanes p)).find? (fun k => fpBits p k != fpBits p 0) with
          | some k => some (7, (k, 0))
          | none =>
            if frameBits p == 0 || 32768 < frameBits p then some (8, (0, 0))
            else
              match (List.range 4).find? (fun k => fpLanes p ≤ k && 1 < fpNi p k) with
              | some k => some (9, (k, 0))
              | none => none

/-! Bits on a lane -/

/-- The low w bits of v, least significant first. -/
def bitsUp (w v : Nat) : List Bool := (List.range w).map v.testBit

/-- The low w bits of v in the order that MSBF names. -/
def bitsOut (msbf : Bool) (w v : Nat) : List Bool := if msbf then (bitsUp w v).reverse else bitsUp w v

/-- One bit into a lane CRC of width w (R87). -/
def crcStep (w poly c : Nat) (b : Bool) : Nat :=
  let sh := (2 * c) % 2 ^ w
  if (b != c.testBit (w - 1)) then sh ^^^ poly % 2 ^ w else sh

/-- The CRC of the covered bits. -/
def laneCrc (p : List Word) (w : Nat) (l : List Bool) : Nat :=
  l.foldl (crcStep w (fpPoly p)) (fpInit p % 2 ^ w)

/-- The next instruction after the one at pc (R88): a LOOP's body runs again while passes are left. -/
def Lane.advance (l : Lane) : Lane :=
  match l.loop with
  | some b =>
    if l.pc + 1 == b.first + b.count then
      if b.left == 0 then { l with pc := l.pc + 1, loop := none }
      else { l with pc := b.first, loop := some { b with left := b.left - 1, pass := b.pass + 1 } }
    else { l with pc := l.pc + 1 }
  | none => { l with pc := l.pc + 1 }

/-- Emit bits that the CRC covers. -/
def Lane.send (l : Lane) (b : List Bool) : Lane := { l with bits := l.bits ++ b, covered := l.covered ++ b }

/-- CONST. -/
def laneConst (i : Word × Word) (l : Lane) : Lane :=
  (l.send ((List.range (insRep i)).flatMap (fun _ => bitsOut (insMsbf i) (insNbits i) i.2.toNat))).advance

/-- Positions that a NOZ names in the present pass. -/
def nozPositions (i : Word × Word) (l : Lane) : List Nat :=
  let adv : Int := match l.loop with | some b => b.adv * b.pass | none => 0
  (List.range (insCount i)).map (fun (n : Nat) => ((insStart i : Int) + adv + insStride i * (n : Int)).toNat)

/-- NOZ. -/
def laneNoz (x : Xfer) (i : Word × Word) (l : Lane) : Lane :=
  (l.send ((nozPositions i l).flatMap (fun j =>
    bitsOut (insMsbf i) (fpSymw x.prog) (fpSym x.prog (x.codes.getD j 0#4).toNat)))).advance

/-- CRCMARK. -/
def laneMark (l : Lane) : Lane := { l with covered := [] }.advance

/-- CRC: sent most significant bit first, and not covered itself. -/
def laneCrcOut (x : Xfer) (i : Word × Word) (l : Lane) : Lane :=
  let w := if insW16 i then 16 else 8
  { l with bits := l.bits ++ (bitsUp w (laneCrc x.prog w l.covered)).reverse }.advance

/-- LOOP. -/
def laneLoop (i : Word × Word) (l : Lane) : Lane :=
  { l with pc := l.pc + 1, loop := some { first := l.pc + 1, count := insK i, left := insN i - 1, pass := 0, adv := insAdv i } }

/-- Run the next instruction of a lane of port h when it has the opcode. -/
def State.runLane (s : State) (h lane opc : Nat) (f : Xfer → Word × Word → Lane → Lane) : State :=
  match (s.hport h).xfer with
  | none => s
  | some x =>
    match x.lanes[lane]? with
    | none => s
    | some l =>
      let i := fpIns x.prog lane l.pc
      if !l.done && !x.complete && insOpc i == opc then
        s.onHport h (fun p => { p with xfer := some { x with lanes := modAt x.lanes lane (f x i) } })
      else s

/-- CONST (R88). -/
def execConstBits (h lane : Nat) (s : State) : Host.Outcome State Fault Refusal :=
  .next (s.runLane h lane 1 (fun _ i l => laneConst i l))
/-- NOZ (R88). -/
def execNoz (h lane : Nat) (s : State) : Host.Outcome State Fault Refusal := .next (s.runLane h lane 2 laneNoz)
/-- CRCMARK (R87). -/
def execCrcMark (h lane : Nat) (s : State) : Host.Outcome State Fault Refusal :=
  .next (s.runLane h lane 3 (fun _ _ l => laneMark l))
/-- CRC (R87). -/
def execCrcInsert (h lane : Nat) (s : State) : Host.Outcome State Fault Refusal := .next (s.runLane h lane 4 laneCrcOut)
/-- LOOP (R88). -/
def execLoopLane (h lane : Nat) (s : State) : Host.Outcome State Fault Refusal :=
  .next (s.runLane h lane 5 (fun _ i l => laneLoop i l))
/-- END of a lane list (R88). -/
def execFrameEnd (h lane : Nat) (s : State) : Host.Outcome State Fault Refusal :=
  .next (s.runLane h lane 15 (fun _ _ l => { l with done := true }))

end Sys2Proof.Machine
end

