-- ==== Sys2Proof/Machine/Compositor.lean ====
section
/-! DEFINITION. The image compositor (02_compositor.md): program load and check, compose lines, the nine ops, the kill
mask. -/

namespace Sys2Proof.Machine

/-! Reading a program -/

def Job.nops (j : Job) : Nat := wf j.prog 0 0 5
def Job.nlut (j : Job) : Nat := wf j.prog 1 4 4
def Job.npmask (j : Job) : Nat := wf j.prog 1 8 3
def Job.nstitch (j : Job) : Nat := wf j.prog 1 11 5
/-- Fields of the head map entry of head h. -/
def Job.used (j : Job) (h : Nat) : Bool := wf j.prog (4 + 2 * h) 31 1 == 1
def Job.pass (j : Job) (h : Nat) : Nat := wf j.prog (4 + 2 * h) 29 2
def Job.hasRight (j : Job) (h : Nat) : Bool := wf j.prog (4 + 2 * h) 28 1 == 1
def Job.right (j : Job) (h : Nat) : Nat := wf j.prog (4 + 2 * h) 24 4
def Job.stitchPat (j : Job) (h : Nat) : Nat := wf j.prog (4 + 2 * h) 20 4
def Job.nnz (j : Job) (h : Nat) : Nat := wf j.prog (4 + 2 * h) 0 13
def Job.xo (j : Job) (h : Nat) : Nat := wf j.prog (5 + 2 * h) 0 20
/-- Fields of op i. -/
def Job.opc (j : Job) (i : Nat) : Nat := wf j.prog (36 + 2 * i) 28 4
def Job.opDst (j : Job) (i : Nat) : Nat := wf j.prog (36 + 2 * i) 26 2
def Job.opSrc (j : Job) (i : Nat) : Nat := wf j.prog (36 + 2 * i) 24 2
def Job.opA (j : Job) (i : Nat) : Nat := wf j.prog (36 + 2 * i) 20 4
def Job.opB (j : Job) (i : Nat) : Nat := wf j.prog (36 + 2 * i) 16 4
def Job.opMask (j : Job) (i : Nat) : Nat := wf j.prog (36 + 2 * i) 0 16
def Job.opImm (j : Job) (i : Nat) : Nat := (wordAt j.prog (37 + 2 * i)).toNat
/-- Where the sections after the ops begin, in words. -/
def Job.lutAt (j : Job) : Nat := 36 + 2 * j.nops
def Job.pmaskAt (j : Job) : Nat := j.lutAt + 2 * j.nlut
def Job.stitchAt (j : Job) : Nat := j.pmaskAt + 256 * j.npmask
/-- Entry v of lookup table t. -/
def Job.lut (j : Job) (t v : Nat) : Code := BitVec.ofNat 4 (wf j.prog (j.lutAt + 2 * t + v / 8) (4 * (v % 8)) 4)
/-- Entry (k, r) of pass mask m (R44). -/
def Job.pmask (j : Job) (m k r : Nat) : Nat := wf j.prog (j.pmaskAt + 256 * m + 16 * r + k / 16) (2 * (k % 16)) 2
/-- SW and bit (k, r) of stitch pattern p (R45). -/
def Job.sw (j : Job) (p : Nat) : Nat := wf j.prog (j.stitchAt + 129 * p) 0 9
def Job.stitchBit (j : Job) (p k r : Nat) : Bool := wf j.prog (j.stitchAt + 129 * p + 1 + 8 * r + k / 32) (k % 32) 1 == 1

/-- Fields of layer descriptor i (layer descriptor table). -/
def Job.layerValid (j : Job) (i : Nat) : Bool := wf j.ltbl (8 * i) 31 1 == 1
def Job.fmt (j : Job) (i : Nat) : Nat := wf j.ltbl (8 * i) 29 2
def Job.streamed (j : Job) (i : Nat) : Bool := wf j.ltbl (8 * i) 28 1 == 1
def Job.ring (j : Job) (i : Nat) : Nat := wf j.ltbl (8 * i) 25 3
def Job.wrapY (j : Job) (i : Nat) : Bool := wf j.ltbl (8 * i) 24 1 == 1
def Job.oneCode (j : Job) (i : Nat) : Nat := wf j.ltbl (8 * i) 0 4
def Job.layerBase (j : Job) (i : Nat) : Nat := (wordAt j.ltbl (8 * i + 1)).toNat + 2 ^ 32 * (wordAt j.ltbl (8 * i + 2)).toNat
def Job.stride (j : Job) (i : Nat) : Nat := wf j.ltbl (8 * i + 3) 0 24
def Job.width (j : Job) (i : Nat) : Nat := wf j.ltbl (8 * i + 4) 0 20
def Job.height (j : Job) (i : Nat) : Nat := (wordAt j.ltbl (8 * i + 5)).toNat
def Job.x0 (j : Job) (i : Nat) : Nat := wf j.ltbl (8 * i + 6) 0 20
def Job.y0 (j : Job) (i : Nat) : Nat := (wordAt j.ltbl (8 * i + 7)).toNat
/-- Bits per pixel of layer i. -/
def Job.bpp (j : Job) (i : Nat) : Nat := 2 ^ j.fmt i

/-! The program check (R49): each test answers the failing op index, 31 when none is tied to it. -/

def noOp : Nat := 31

/-- First op that a test refuses. -/
def Job.badOp (j : Job) (bad : Nat → Bool) : Option Nat := (List.range j.nops).find? bad

/-- Tests 0x01, 0x03 and 0x04, which the header alone decides. -/
def Job.checkHeader (j : Job) : Option Nat :=
  if wf j.prog 0 16 16 != 0x4C50 || wf j.prog 0 8 8 != 1 then some 1
  else if j.nops == 0 || 16 < j.nops || wf j.prog 2 16 4 == 0 || 8 < wf j.prog 2 16 4 || 8 < j.nlut || 4 < j.npmask || 16 < j.nstitch then some 3
  else if wf j.prog 2 0 16 == 0 || 16000 < wf j.prog 2 0 16 then some 4
  else none

/-- Length of the program in words. -/
def Job.progLen (j : Job) : Nat := j.stitchAt + 129 * j.nstitch

/-- Cycle cost of a line (R47). -/
def Job.cost (j : Job) : Nat := 64 + 64 * ((List.range j.nops).map (fun i => popcount 16 (j.opMask i))).sum

/-- Fetched bytes of a line (R47). -/
def Job.fetchBytes (j : Job) : Nat :=
  ((List.range j.nops).map (fun i => if j.opc i == 2 then popcount 16 (j.opMask i) * 4096 * j.bpp (j.opA i) / 8 else 0)).sum

/-- Heads of a mask. -/
def headsOf (mask : Nat) : List Nat := bitsOf 16 mask

/-- Tests 0x05 to 0x0E, in order. -/
def State.checkBody (s : State) (j : Job) : Option (Nat × Nat) :=
  let nl := wf j.prog 2 16 4
  let r := 10 * wf j.prog 2 0 16
  let layers := List.range nl
  let opTest := fun (code : Nat) (bad : Nat → Bool) => (j.badOp bad).map (fun i => (code, i))
  let glob := fun (code : Nat) (bad : Bool) => if bad then some (code, noOp) else none
  let first := fun (a b : Option (Nat × Nat)) => match a with | some x => some x | none => b
  first (opTest 5 (fun i => j.opc i == 0 || 10 ≤ j.opc i || (j.opc i == 3 && 6 ≤ j.opA i) || j.opB i != 0))
  (first (opTest 6 (fun i => (j.opc i == 9) != (i + 1 == j.nops) || (i + 1 == j.nops && j.opMask i != j.headMask)))
  (first (opTest 7 (fun i => (headsOf (j.opMask i)).any (fun h => !s.headOn h || !j.used h)))
  (first (glob 7 ((List.range 16).any (fun h => j.used h && (j.nnz h == 0 || 4096 < j.nnz h))))
  (first (opTest 8 (fun i => j.opc i == 2 && nl ≤ j.opA i))
  (first (glob 8 (layers.any (fun i => !j.layerValid i || j.fmt i == 3 || j.stride i % 32 != 0
      || j.stride i * 8 < j.width i * j.bpp i || j.width i == 0 || j.height i == 0)))
  (first (glob 9 (layers.any (fun i => (j.layerBase i / 2 ^ 60 != 0 && j.layerBase i / 2 ^ 60 != 2) || j.layerBase i % 32 != 0)))
  (first (opTest 10 (fun i => (j.opc i == 4 && j.nlut ≤ j.opA i) || (j.opc i == 5 && j.npmask ≤ j.opA i)))
  (first (opTest 11 (fun i => j.opc i == 6 && (headsOf (j.opMask i)).any (fun h => j.hasRight h &&
      (let w := j.sw (j.stitchPat h)
       j.nstitch ≤ j.stitchPat h || w == 0 || 256 < w || j.nnz h < w || !j.used (j.right h) || j.xo (j.right h) + w != j.xo h + j.nnz h))))
  (first (glob 12 (layers.any (fun a => layers.any (fun b => a < b && j.streamed a && j.streamed b && j.ring a == j.ring b))))
  (first (glob 13 (10 ^ 9 < j.cost * r))
  (glob 14 (oneIfZero (s.get CMP.CFG.BW_LIMIT) * 10 ^ 8 < j.fetchBytes * r))))))))))))

/-- Result of reading and checking a program: the state after the reads, and the job with its program or a failing
(code, op). -/
def State.checkProgram (s : State) (j : Job) (xp xt : Access) : State × Sum (Nat × Nat) Job :=
  let h := s.devWords 7 j.progAddr 4 { xp with words := xp.words.take 4 }
  if h.2.1 != 0 then (h.1, .inl (15, noOp))
  else
    let k := { j with prog := h.2.2 }
    match k.checkHeader with
    | some c => (h.1, .inl (c, noOp))
    | none =>
      let rest := h.1.devWords 7 (j.progAddr + 16) (k.progLen - 4) { xp with words := xp.words.drop 4 }
      if rest.2.1 != 0 then (rest.1, .inl (15, noOp))
      else
        let p := { k with prog := h.2.2 ++ rest.2.2 }
        if crc32Words rest.2.2 != (wordAt p.prog 3).toNat then (rest.1, .inl (2, noOp))
        else
          let t := rest.1.devWords 7 j.ltblAddr (8 * wf p.prog 2 16 4) xt
          if t.2.1 != 0 then (t.1, .inl (15, noOp))
          else
            let q := { p with ltbl := t.2.2 }
            match t.1.checkBody q with
            | some e => (t.1, .inl e)
            | none => (t.1, .inr { q with checked := true })

/-- The job whose program the compositor loads next (R48): the first not yet checked, also after a disable (R462). A job that is
wholly composed stays as it is (log entry 101). -/
def State.toLoad (s : State) : Option Job := s.jobs.find? (fun j => !j.checked)

/-- Load and check the next program (R49): a failure completes the job REJECTED with the check code. -/
def State.loadProgram (s : State) (xp xt : Access) : State :=
  if !s.cmpOn || s.progNext.isSome then s
  else
    match s.toLoad with
    | none => s
    | some j =>
      match s.checkProgram j xp xt with
      | (t, .inr k) => (t.onJob j.seq (fun m => { m with checked := true, prog := k.prog, ltbl := k.ltbl })).syncCmp
      | (t, .inl (code, op)) =>
        let w := w32 (code * 2 ^ 24 + op * 2 ^ 19 + j.id)
        ((((t.wr CMP.PROG_CHECK w).raise CMP.STATUS.PROG_ERR).complete j.seq 3 2 code).report Src.CMP_PROG 0 w.toNat).syncCmp

/-- PROGRAM_LOAD (R48-R50): xp brings the program and xt the layer table when they lie in another node. -/
def execProgramLoad (xp xt : Access) (s : State) : Host.Outcome State Fault Refusal := .next (s.loadProgram xp xt)

/-! Node-wide tables -/

/-- Base of the active copy of a table. -/
def State.activeBase (s : State) (act : Fld) (b0 b1 : Nat) : Nat :=
  (s.rd (if s.get act == 0 then b0 else b1)).toNat / 4096 * 4096

def State.railBase (s : State) : Nat := s.activeBase CMP.TBL_ACTIVE.RAIL CMP.RAIL_BASE_0 CMP.RAIL_BASE_1
def State.compBase (s : State) : Nat := s.activeBase CMP.TBL_ACTIVE.COMP CMP.COMP_BASE_0 CMP.COMP_BASE_1
def State.healthBase (s : State) : Nat := s.activeBase CMP.TBL_ACTIVE.HEALTH CMP.HEALTH_BASE_0 CMP.HEALTH_BASE_1

/-- A word of an active copy: 0 where the read is uncorrectable (R463) or the bank offline (R364). -/
def State.tableWord (s : State) (x : Access) (a : Nat) : Nat :=
  if x.ue.contains a || s.offline a then 0 else (s.word a).toNat

/-- Counts and reports of reading the words from lo up to hi of an active copy (R362, R364, R463). A copy that runs past the
end of SRAM, which no enable refuses (R58), is a decode error there (R29). -/
def State.tableRead (s : State) (x : Access) (lo hi : Nat) : State :=
  let inside := fun a => lo ≤ a && a < hi
  let t := s.each (x.ce.filter inside) (fun a u => u.corrected a)
  let v := t.each (x.ue.filter inside) (fun a u =>
    ((u.uncorrectable a).raise CMP.STATUS.FETCH_ERR).report Src.CMP_FETCH 255 (a % 2 ^ 32))
  let w := v.when (v.offline lo) (·.report Src.MEM_OFFLINE 7 (lo % 2 ^ 32))
  w.when (0x10800000 < hi) (·.decodeError 7 (max lo 0x10800000))

/-- Rail bit of nozzle n in the active RAIL copy. -/
def State.railBit (s : State) (x : Access) (n : Nat) : Nat := s.tableWord x (s.railBase + n / 32 * 4) >>> (n % 32) % 2

/-- COMP entry of nozzle n. -/
def State.compEntry (s : State) (x : Access) (n : Nat) : Nat := s.tableWord x (s.compBase + n / 2 * 4) >>> (16 * (n % 2)) % 2 ^ 16

/-- Is a health class dead for compensation (R215)? -/
def State.classDead (s : State) (c : Nat) : Bool :=
  (c == 2 && s.getA CMP.COMP_CFG.CLASS_WEAK == 1) || (c == 3 && s.getA CMP.COMP_CFG.CLASS_CLOG == 1)
  || (c == 4 && s.getA CMP.COMP_CFG.CLASS_AIR == 1) || (c == 5 && s.getA CMP.COMP_CFG.CLASS_DEAD == 1)

/-- Nozzles that the active HEALTH copy makes dead, ascending; a byte of memory that is not listed holds UNKNOWN. -/
def State.healthDead (s : State) (x : Access) : List Nat :=
  let b := s.healthBase
  (s.mem.filter (fun e => b ≤ e.1 && e.1 < b + 0x8000 && !x.ue.contains (e.1 / 4 * 4) && !s.offline e.1)).flatMap (fun e =>
    let n := 2 * (e.1 - b)
    (if s.classDead (e.2.toNat % 8) then [n] else []) ++ (if s.classDead (e.2.toNat / 16 % 8) then [n + 1] else []))

/-- Merge two ascending lists without repeats; the fuel is their joint length. -/
def mergeAsc : Nat → List Nat → List Nat → List Nat
  | 0, _, _ => []
  | _ + 1, [], l => l
  | _ + 1, l, [] => l
  | k + 1, a :: u, b :: v =>
    if a < b then a :: mergeAsc k u (b :: v) else if b < a then b :: mergeAsc k (a :: u) v else a :: mergeAsc k u v

/-- The dead nozzles of the heads in a mask (R54), without the limit. -/
def State.allDead (s : State) (x : Access) (mask : Nat) : List Nat :=
  let h := s.healthDead x
  let k := s.cmp.kill
  (mergeAsc (h.length + k.length + 1) h k).filter (fun n => bit mask (n / 4096))

/-! Line buffers -/

/-- Code of buffer b, head h, position j; undefined until the line writes it (R43). -/
def State.lbCode (s : State) (b h j : Nat) : Code :=
  match (s.cmp.lb.getD b []).getD h [] with
  | [] => Config.lineBuffer s.cmp.lineSeq b h j
  | l => l.getD j 0#4

/-- Replace the codes of one head of a buffer. -/
def State.setLb (s : State) (b h : Nat) (l : List Code) : State :=
  s.onCmp (fun c => { c with lb := setFill [] c.lb b (setFill [] (c.lb.getD b []) h l) })

/-- The codes of positions 0 … NNZ − 1 of a head. -/
def State.lbCodes (s : State) (j : Job) (b h : Nat) : List Code := (List.range (j.nnz h)).map (s.lbCode b h)

/-- Rewrite the codes of every head in a mask, position by position. -/
def State.mapLb (s : State) (j : Job) (b mask : Nat) (f : (h k : Nat) → Code) : State :=
  let new := (headsOf mask).map (fun h => (h, (List.range (j.nnz h)).map (f h)))
  s.each new (fun p t => t.setLb b p.1 p.2)

/-- Drop size and rail of a code. -/
def ds (c : Code) : Nat := c.toNat % 4
def railOf (c : Code) : Nat := c.toNat / 4
def mkCode (rail d : Nat) : Code := BitVec.ofNat 4 (4 * (rail % 4) + d % 4)

/-! Lines -/

/-- The job of the line in progress, also when it has completed in the meantime (R462). -/
def State.cmpJob? (s : State) : Option Job :=
  match s.cmp.job with
  | some q => (s.job? q).or (s.cmp.hold.filter (·.seq == q))
  | none => none

/-- Go on with the line of s unless a report in t has stopped the node, which abandons it (R51). -/
def State.goOn (s t : State) (f : State → State) : State := t.when (t.cmp.job == s.cmp.job) f

/-- The job and line that the next compose line belongs to (R38, R48, R462). -/
def State.nextLine (s : State) : Option (Job × Nat) :=
  let fresh := s.progNext.map (fun j => (j, 0))
  if s.cmp.abandon then fresh
  else
    match s.cmpJob? with
    | some j => if j.composed then fresh else some (j, s.get CMP.JOB_LINE.LINE + 1)
    | none => fresh

/-- A compose-line boundary (R38): the line is counted, class-B fields load, tables swap, and the dead list is taken. A stop
that reading the HEALTH copy brings leaves the compositor idle (R51). -/
def State.composeLine (s : State) (x : Access) (j : Job) (y : Nat) : State :=
  let a := (s.loadB 0x40100000 0x40120000).bump CMP.LINE_CNT.COUNT
  let l := a.get CMP.LINE_CNT.COUNT
  let b := (a.tagSwaps l (j.seq, y)).swapComposeAt l
  let c := b.when (y == 0) (fun t => t.each (List.range 8) (fun k u => (u.wr (CMP.STREAM_CONS k) 0#32).wr (HOSTIF.SDELIV k) 0#32))
  let d := ((c.wr CMP.JOB_LINE (w32 y)).wr CMP.JOB_ID (w32 j.id)).raise CMP.STATUS.BUSY
  let hm := j.headMask
  let e := d.each (headsOf hm) (fun h t => t.tableRead x (t.healthBase + 2048 * h) (t.healthBase + 2048 * h + 2048))
  let all := d.allDead x hm
  if (e.job? j.seq).isNone then ((e.syncCmp).lateKills).unreachRun else
  let f := e.onCmp (fun m => { m with job := some j.seq, abandon := false, hold := none, op := 0, lineSeq := m.lineSeq + 1, lb := [],
                                      dead := all.take 2048, stalled := false, emit := [] })
  let g := f.wr CMP.DEAD_CNT (w32 (min 2048 all.length))
  let i := g.when (2048 < all.length) (fun t => (t.raise CMP.STATUS.COMP_OVF).report Src.CMP_COMP_OVF 0 l)
  ((i.syncCmp).lateKills).unreachRun

/-- COMPOSE_LINE_BOUNDARY (R38): it waits for the line in progress. -/
def execComposeLineBoundary (x : Access) (s : State) : Host.Outcome State Fault Refusal :=
  if s.cmpOn && !s.flag CMP.STATUS.BUSY then
    match s.nextLine with
    | some (j, y) => .next (s.composeLine x j y)
    | none => .next s
  else .next s

/-- Run op code opc of the line in progress when it is the next op and the domain of the data plane runs (R414); f gives its effect from the job, the op index and
the job line. -/
def State.runOp (s : State) (opc : Nat) (f : State → Job → Nat → Nat → State) : State :=
  match s.cmpJob? with
  | some j =>
    let i := s.cmp.op
    if s.flag CMP.STATUS.BUSY && s.domainRuns 4 && i < j.nops && j.opc i == opc && s.cmp.emit.isEmpty then f s j i (s.get CMP.JOB_LINE.LINE) else s
  | none => s

/-- The op is done; the next one follows. -/
def State.nextOp (s : State) : State := s.onCmp (fun c => { c with op := c.op + 1 })

/-- OP_CLEAR (R43). -/
def execOpClear (s : State) : Host.Outcome State Fault Refusal :=
  .next (s.runOp 1 (fun t j i _ => (t.mapLb j (j.opDst i) (j.opMask i) (fun _ _ => BitVec.ofNat 4 (j.opImm i))).nextOp))

/-! FETCH -/

/-- Layer row of job line y, none where the layer is transparent (R40, R41). -/
def Job.row (j : Job) (i y : Nat) : Option Nat :=
  if y < j.y0 i then none
  else
    let r := y - j.y0 i
    if j.streamed i || j.wrapY i then some (r % j.height i) else if r < j.height i then some r else none

/-- Has the stream ring delivered line y of the layer (R41)? -/
def State.delivered (s : State) (j : Job) (i y : Nat) : Bool :=
  !j.streamed i || y < j.y0 i || y - j.y0 i < (s.rd (HOSTIF.SDELIV (j.ring i))).toNat

/-- Column of position k of head h, none outside the layer. -/
def Job.col (j : Job) (i h k : Nat) (adj : Int) : Option Nat :=
  let c : Int := (j.xo h : Int) + k + adj - j.x0 i
  if 0 ≤ c && c < j.width i then some c.toNat else none

/-- Code of pixel value v (R39). -/
def Job.pixelCode (j : Job) (i v : Nat) : Code :=
  if j.fmt i == 0 then BitVec.ofNat 4 (if v == 0 then 0 else j.oneCode i) else BitVec.ofNat 4 v

/-- Read one 32-byte span of a layer row at device address a; span number n of the row takes words 8n … 8n + 7 of x when
the row lies in another node. A failed read substitutes 0 (R42). -/
def State.readSpan (s : State) (layer a n : Nat) (x : Access) : State × List Byte :=
  let remote := match s.target a with | .node _ _ => true | _ => false
  let hit := remote && x.ue.any (fun w => a % 2 ^ 40 ≤ w && w < a % 2 ^ 40 + 32)
  let r := s.devRead 7 a 32 { x with words := (x.words.drop (8 * n)).take 8 }
  if r.2.1 != 0 || hit then
    ((r.1.raise CMP.STATUS.FETCH_ERR).report Src.CMP_FETCH layer (a % 2 ^ 32), List.replicate 32 0#8)
  else (r.1, r.2.2)

/-- Read the spans numbered in a list, one after another. -/
def State.readSpans (s : State) (layer row : Nat) (x : Access) : List Nat → State × List (Nat × List Byte)
  | [] => (s, [])
  | n :: t =>
    let r := s.readSpan layer (row + 32 * n) n x
    let u := r.1.readSpans layer row x t
    (u.1, (n, r.2) :: u.2)

/-- Pixel c of the spans read. -/
def pixelOf (spans : List (Nat × List Byte)) (bpp c : Nat) : Nat :=
  let o := c * bpp
  match spans.find? (fun p => p.1 == o / 256) with
  | some p => (p.2.getD (o / 8 % 32) 0#8).toNat >>> (o % 8) % 2 ^ bpp
  | none => 0

/-- The line waits at the op for its stream: it is counted once (R41). -/
def State.stallLine (s : State) (j : Job) (i y : Nat) : State :=
  if s.cmp.stalled then s
  else
    let t := ((s.bump (wordFld CMP.STALL_CNT)).raise CMP.STATUS.STALL).onCmp (fun c => { c with stalled := true })
    t.when (t.flag CMP.CTL.STALL_EVT) (·.report Src.CMP_STALL (j.ring (j.opA i)) (tagDetail j.id y))

/-- Lines of a streamed layer are consumed after the last op of the line that reads it (R41). -/
def State.consume (s : State) (j : Job) (i y : Nat) : State :=
  let l := j.opA i
  let later := (List.range j.nops).any (fun k => i < k && j.opc k == 2 && j.opA k == l)
  s.when (j.streamed l && !later && j.y0 l ≤ y) (fun t => t.bump (CMP.STREAM_CONS.COUNT (j.ring l)))

/-- The effect of FETCH. -/
def State.fetchEffect (s : State) (j : Job) (i y : Nat) (x : Access) : State :=
  let l := j.opA i
  let adj := signedOf 20 (j.opImm i)
  if !s.delivered j l y then s.stallLine j i y
  else
      match j.row l y with
      | none => ((s.mapLb j (j.opDst i) (j.opMask i) (fun _ _ => 0#4)).consume j i y).nextOp
      | some r =>
        let heads := headsOf (j.opMask i)
        let need := (heads.flatMap (fun h => (List.range (j.nnz h)).filterMap (fun k =>
          (j.col l h k adj).map (fun c => c * j.bpp l / 256)))).eraseDups
        let rd := s.readSpans l (j.layerBase l + r * j.stride l) x need
        s.goOn rd.1 (fun t => ((t.mapLb j (j.opDst i) (j.opMask i) (fun h k =>
          match j.col l h k adj with
          | some c => j.pixelCode l (pixelOf rd.2 (j.bpp l) c)
          | none => 0#4)).consume j i y).nextOp)

/-- FETCH (R39-R42): x brings the row's words when the layer lies in another node, and the errors met. -/
def execFetchOp (x : Access) (s : State) : Host.Outcome State Fault Refusal :=
  .next (s.runOp 2 (fun t j i y => t.fetchEffect j i y x))

/-! MERGE, LOOKUP, PASSMASK, STITCH, RAIL -/

/-- The merge modes (table of MERGE modes). -/
def mergeCode (mode : Nat) (d c : Code) : Code :=
  match mode with
  | 0 => c
  | 1 => if ds c != 0 then c else d
  | 2 => if ds d != 0 then d else c
  | 3 => if ds d < ds c then c else d
  | 4 => if ds c == 0 then d else 0#4
  | 5 => mkCode (railOf d) (min 3 (ds d + ds c))
  | _ => d

/-- MERGE (R43). -/
def execMergeOp (s : State) : Host.Outcome State Fault Refusal :=
  .next (s.runOp 3 (fun t j i _ => (t.mapLb j (j.opDst i) (j.opMask i) (fun h k =>
    mergeCode (j.opA i) (t.lbCode (j.opDst i) h k) (t.lbCode (j.opSrc i) h k))).nextOp))

/-- LOOKUP (R43). -/
def execLookupOp (s : State) : Host.Outcome State Fault Refusal :=
  .next (s.runOp 4 (fun t j i _ => (t.mapLb j (j.opDst i) (j.opMask i) (fun h k =>
    j.lut (j.opA i) (t.lbCode (j.opSrc i) h k).toNat)).nextOp))

/-- PASSMASK (R44). -/
def execPassmaskOp (s : State) : Host.Outcome State Fault Refusal :=
  .next (s.runOp 5 (fun t j i y => (t.mapLb j (j.opDst i) (j.opMask i) (fun h k =>
    if j.pmask (j.opA i) ((j.xo h + k) % 256) (y % 16) == j.pass h then t.lbCode (j.opDst i) h k else 0#4)).nextOp))

/-- Does STITCH clear position k of head h: as the left head of an overlap, or as the right neighbour of one (R45)? -/
def Job.stitchClears (j : Job) (mask y h k : Nat) : Bool :=
  let asLeft := j.hasRight h &&
    (let w := j.sw (j.stitchPat h)
     j.nnz h ≤ k + w && !j.stitchBit (j.stitchPat h) (k + w - j.nnz h) (y % 16))
  let asRight := (headsOf mask).any (fun g => j.hasRight g && j.right g == h &&
    k < j.sw (j.stitchPat g) && j.stitchBit (j.stitchPat g) k (y % 16))
  asLeft || asRight

/-- STITCH (R45). -/
def execStitchOp (s : State) : Host.Outcome State Fault Refusal :=
  .next (s.runOp 6 (fun t j i y => (t.mapLb j (j.opDst i) (j.opMask i) (fun h k =>
    if j.stitchClears (j.opMask i) y h k then 0#4 else t.lbCode (j.opDst i) h k)).nextOp))

/-- RAIL (R53, R463): it reads the slice of the copy of each head in its mask (log entry 101). -/
def execRailOp (x : Access) (s : State) : Host.Outcome State Fault Refusal :=
  .next (s.runOp 7 (fun t j i _ =>
    let u := t.each (headsOf (j.opMask i)) (fun h v => v.tableRead x (v.railBase + 512 * h) (v.railBase + 512 * h + 512))
    t.goOn u (fun w => (w.mapLb j (j.opDst i) (j.opMask i) (fun h k =>
      let c := t.lbCode (j.opDst i) h k
      mkCode (if ds c == 0 then 0 else t.railBit x (4096 * h + k)) (ds c))).nextOp)))

/-! COMP -/

/-- The codes that COMP writes: per head in the mask, its list. -/
abbrev CompBuf := List (Nat × List Code)

def compGet (b : CompBuf) (h k : Nat) : Code :=
  match b.find? (fun p => p.1 == h) with
  | some p => p.2.getD k 0#4
  | none => 0#4

def compSet (b : CompBuf) (h k : Nat) (f : Code → Code) : CompBuf :=
  b.map (fun p => if p.1 == h then (p.1, modAt p.2 k f) else p)

/-- Is (h, k) a valid target (R55)? -/
def compTarget (j : Job) (mask : Nat) (dead : List Nat) (h : Nat) (k : Int) : Bool :=
  h < 16 && bit mask h && 0 ≤ k && k < j.nnz h && !dead.contains (4096 * h + k.toNat)

/-- The neighbours of position k that an entry tries, in order (R55). -/
def compSides (e y k : Nat) : List Int :=
  let l : Int := (k : Int) - 1
  let r : Int := (k : Int) + 1
  match e / 128 % 4 with
  | 1 => [l]
  | 2 => [r]
  | _ => if y % 2 == 0 then [l, r] else [r, l]

/-- One member n of the dead list (pseudocode of R55): the codes after it, and whether its drop was lost. -/
def compStep (j : Job) (mask y : Nat) (dead : List Nat) (keep : Bool) (old : CompBuf) (entry : Nat → Nat) (n : Nat)
    (new : CompBuf) : CompBuf × Bool :=
  let h := n / 4096
  let k := n % 4096
  let d := ds (compGet old h k)
  if !bit mask h || j.nnz h ≤ k || d == 0 then (new, false)
  else
    let e := entry n
    let mode := e / 2 ^ 14
    let v := min 3 (d + e / 32 % 4)
    let ah := e / 512 % 16
    let ak : Int := (k : Int) + j.xo h - j.xo ah
    let alt := (mode == 2 || mode == 3) && bit e 13 && compTarget j mask dead ah ak
    let near := if !alt && (mode == 1 || mode == 3) then (compSides e y k).find? (compTarget j mask dead h) else none
    let put := if alt then compSet new ah ak.toNat (fun c => mkCode (railOf c) (max (ds c) v))
      else match near with
        | some t => compSet new h t.toNat (fun c => mkCode (railOf c) (min 3 (ds c + v)))
        | none => new
    (if keep then put else compSet put h k (fun _ => 0#4), !alt && near.isNone)

/-- The whole dead list, with the count of lost drops. -/
def compAll (j : Job) (mask y : Nat) (dead : List Nat) (keep : Bool) (old : CompBuf) (entry : Nat → Nat) :
    List Nat → CompBuf → Nat → CompBuf × Nat
  | [], new, lost => (new, lost)
  | n :: t, new, lost =>
    let r := compStep j mask y dead keep old entry n new
    compAll j mask y dead keep old entry t r.1 (lost + nat01 r.2)

/-- COMP (R55, R463): it reads the slice of the copy of each head in its mask, whatever the dead list holds (log entry 101). -/
def execCompOp (x : Access) (s : State) : Host.Outcome State Fault Refusal :=
  .next (s.runOp 8 (fun t j i y =>
    let heads := headsOf (j.opMask i)
    let u := t.each heads (fun h v => v.tableRead x (v.compBase + 8192 * h) (v.compBase + 8192 * h + 8192))
    let old := heads.map (fun h => (h, t.lbCodes j (j.opDst i) h))
    let r := compAll j (j.opMask i) y t.cmp.dead (t.getA CMP.COMP_CFG.KEEP_DEAD == 1) old (t.compEntry x) t.cmp.dead old 0
    t.goOn u (fun w => ((w.each r.1 (fun p v => v.setLb (j.opDst i) p.1 p.2)).bump (wordFld CMP.LOST_CNT) r.2).nextOp)))

/-! EMIT -/

/-- A code as EMIT pushes it (R36, R46). -/
def emitCode (c : Code) (rail : Nat) : Code :=
  if ds c == 0 then 0#4 else if 2 ≤ railOf c then mkCode rail (ds c) else c

/-- Lines of a queue from the oldest on. -/
def Queue.lines (q : Queue) : List QLine := q.head ++ q.spill.map (·.1) ++ q.tail ++ q.landing.toList

/-- Is the queue full for the push of line y (R63): it holds CAP lines, its landing buffer is taken (R67), or its
job-start list is (R62)? -/
def State.queueFull (s : State) (h y : Nat) : Bool :=
  let l := (s.queue h).lines
  s.getA (LQ.CAP.CAP h) ≤ l.length || (s.queue h).landing.isSome || (y == 0 && 17 ≤ ((l.drop 1).filter (·.y == 0)).length)

/-- Reads of the RAIL copy for the codes of head h that EMIT corrects: those of rail 2 or 3 with a drop (R46, R463). -/
def State.railFixRead (s : State) (j : Job) (i : Nat) (x : Access) (h : Nat) : State :=
  let fix := (List.range (j.nnz h)).filter (fun k => let c := s.lbCode (j.opSrc i) h k; ds c != 0 && 2 ≤ railOf c)
  let ws := fix.map (fun k => s.railBase + (4096 * h + k) / 32 * 4)
  s.when (!ws.isEmpty) (·.tableRead { x with ce := x.ce.filter ws.contains, ue := x.ue.filter ws.contains }
    (s.railBase + 512 * h) (s.railBase + 512 * h + 512))

/-- The last head line is pushed: the line ends (R46), CMP.LOAD shows its load, and with its last line the job is
composed. -/
def State.endLine (s : State) : State :=
  match s.cmpJob? with
  | some j =>
    let last := j.lines ≤ s.get CMP.JOB_LINE.LINE + 1
    let t := ((s.wr CMP.LOAD (w32 s.cmp.load)).drop CMP.STATUS.BUSY).onCmp (fun c => { c with op := 0, emit := [], hold := none })
    ((t.when last (fun u => u.onJob j.seq (fun k => { k with composed := true }))).when (last || t.cmp.abandon)
      (fun u => u.onCmp (fun c => { c with job := none, abandon := false }))).syncCmp
  | none =>
    (((s.wr CMP.LOAD (w32 s.cmp.load)).drop CMP.STATUS.BUSY).onCmp (fun c => { c with
      job := none, abandon := false, hold := none, op := 0, emit := [] })).syncCmp

/-- The effect of EMIT: the corrected head lines stand ready for their queues, one LINE_PUSH each. A stop that a table read
brings abandons the line (R51). A program whose HEAD_MASK is 0 has no head line to push, and its line ends here (log entry
77). -/
def State.emitEffect (s : State) (j : Job) (i stall : Nat) (x : Access) : State :=
  let heads := headsOf (j.opMask i)
  if heads.any (fun h => s.queueFull h (s.get CMP.JOB_LINE.LINE)) then s
  else
    let fixes := (heads.map (fun h => (s.lbCodes j (j.opSrc i) h).countP (fun c => ds c != 0 && 2 ≤ railOf c))).sum
    let lines := heads.map (fun h => (h, (List.range (j.nnz h)).map (fun k =>
      emitCode (s.lbCode (j.opSrc i) h k) (s.railBit x (4096 * h + k)))))
    let t := s.when (fixes != 0) (fun u =>
      ((u.each heads (fun h w => w.railFixRead j i x h)).bump (wordFld CMP.RAIL_FIX_CNT) fixes).raise CMP.STATUS.RAIL_FIX)
    s.goOn t (fun u =>
      let v := u.onCmp (fun c => { c with emit := lines, load := min 65535 stall * 2 ^ 16 + j.cost % 2 ^ 16 })
      if lines.isEmpty then v.endLine else v)

/-- EMIT (R46): it waits while a target queue is full; stall is how many cycles the line has waited on streams. -/
def execEmitOp (stall : Nat) (x : Access) (s : State) : Host.Outcome State Fault Refusal :=
  .next (s.runOp 9 (fun t j i _ => t.emitEffect j i stall x))

/-! Kill mask, enable and disable -/

/-- Set the kill bit of nozzle n (R56). -/
def State.kill (s : State) (n : Nat) : State := s.setKill (insertAsc s.cmp.kill (n % 65536))

/-- KILL_SET (R56). -/
def execKillSet (n : Nat) (s : State) : Host.Outcome State Fault Refusal := .next (s.kill n)
/-- KILL_CLR (R56). -/
def execKillClr (s : State) : Host.Outcome State Fault Refusal := .next (s.setKill [])

/-- Base registers of the six copies with the copy's size. -/
def copySizes : List (Nat × Nat) :=
  [(CMP.RAIL_BASE_0, 0x2000), (CMP.RAIL_BASE_1, 0x2000), (CMP.COMP_BASE_0, 0x20000), (CMP.COMP_BASE_1, 0x20000),
   (CMP.HEALTH_BASE_0, 0x8000), (CMP.HEALTH_BASE_1, 0x8000)]

/-- Do two ranges share a byte? -/
def overlaps (a n b m : Nat) : Bool := n != 0 && m != 0 && a < b + m && b < a + n

/-- Detail of a refused enable (R58, R461), none when the bases are valid. -/
def State.cmpBases (s : State) : Option Nat :=
  let l := copySizes.map (fun p => (p.1, ((s.rd p.1).toNat, p.2)))
  match l.find? (fun p => !inSram p.2.1 1 || p.2.1 % 4096 != 0) with
  | some p => some (p.1 % 256)
  | none => if l.any (fun p => l.any (fun q => p.1 < q.1 && overlaps p.2.1 p.2.2 q.2.1 q.2.2)) then some 255 else none

/-- Setting CMP.CTL.EN (R58). -/
def State.cmpEnable (s : State) : State :=
  if s.flag CMP.CTL.EN then s
  else
    match s.cmpBases with
    | some d => s.report Src.CMP_CFG 0 d
    | none => s.enableBlock CMP.CTL.EN 0 0

/-- CMP_ENABLE (R58). -/
def execCmpEnable (s : State) : Host.Outcome State Fault Refusal := .next s.cmpEnable

/-- The jobs the compositor holds, beside a running one: the job in composition and the next checked one (R462). A job
that is wholly composed is none of them (log entry 101). -/
def State.heldJobs (s : State) : List Nat :=
  (s.jobs.filter (fun j => !j.composed && (s.cmp.job == some j.seq || (s.progNext.map (·.seq)) == some j.seq))).map (·.seq)

/-- The running job and more jobs complete ABORTED, and then the disable is reported, as of abortRunning. -/
def State.abortJobs (s : State) (group : Nat) (more : List Nat) : State :=
  match s.running with
  | some j => (s.each (j.seq :: more) (fun q t => t.endJob q 2)).report Src.BLOCK_DISABLED_RUNNING group (j.id % 2 ^ 16)
  | none => s.each more (fun q t => t.endJob q 2)

/-- Clearing CMP.CTL.EN (R462): beats gives, for the queues that hold part of the abandoned line, the beats they drop. The jobs
complete ABORTED in job order before the report, whatever stop it asserts. -/
def State.cmpDisable (s : State) (beats : List (Nat × Nat)) : State :=
  if !s.flag CMP.CTL.EN then s
  else
    let held := s.heldJobs
    let part := s.cmp.emit.map (·.1)
    let a := (s.disableBlock CMP.CTL.EN 0).cmpAbandon false
    let b := a.each (beats.filter (fun p => part.contains p.1)) (fun p t =>
      t.bump (LQ.DROP_BEATS.COUNT p.1) (p.2 - (s.queue p.1).counted))
    let d := b.abortJobs 7 held
    ({ d with act := d.act.filter (fun e => !(0x40100000 ≤ e.1 && e.1 < 0x40120000)) }.syncCmp).settleSwaps

/-- CMP_DISABLE (R35, R462). -/
def execCmpDisable (beats : List (Nat × Nat)) (s : State) : Host.Outcome State Fault Refusal := .next (s.cmpDisable beats)

end Sys2Proof.Machine
end

