-- ==== Sys2Proof/Machine/LineQueue.lean ====
section
/-! DEFINITION. The line queues (03_line_queues.md): pushes, the moves between the sections, pops, flushes, the check of
the pointer copies, and the block's enable. -/

namespace Sys2Proof.Machine

/-- The registers of queue h follow it (table of per-queue status fields). -/
def State.syncQueue (s : State) (h : Nat) : State :=
  let q := s.queue h
  let n := q.lines.length
  let a := (s.wr (LQ.DEPTH h) (w32 n)).wr (LQ.OCC h)
    (w32 (q.spill.length * 256 + q.head.length * 16 + (q.tail.length + q.landing.toList.length)))
  let b := a.put (LQ.PEAK.PEAK h) (max n (a.get (LQ.PEAK.PEAK h)))
  let c := match q.lines with
    | l :: _ => (b.wr (LQ.HEAD_Y h) (w32 l.y)).wr (LQ.HEAD_JOB h) (w32 (2 ^ 16 + l.job % 2 ^ 16))
    | [] => (b.wr (LQ.HEAD_Y h) 0#32).wr (LQ.HEAD_JOB h) 0#32
  c.put LQ.STATUS.BUSY (nat01 (c.lq.any (fun q => !q.lines.isEmpty)))

/-- Code of R461 for a CAP that R64 does not load, and of R65 for one that an enable refuses. -/
def State.capBad (s : State) (h cap : Nat) : Bool :=
  cap == 0 || 65536 < cap || (16 < cap && s.get (LQ.SPILL_LINES.LINES h) + 8 < cap)

/-- A slot of the tail is free: the landing line moves into it (R67). -/
def Queue.land (q : Queue) : Queue :=
  match q.landing with
  | some l => if q.tail.length < 8 then { q with tail := q.tail ++ [l], landing := none } else q
  | none => q

/-- A transfer of the queue is in flight (R60, R71). -/
def Queue.busy (q : Queue) : Bool := q.moving || q.spilling || q.refilling

/-- The transfers that start now, rules 1 to 3 of R60 in order; deep says that the active CAP exceeds 16, room that the
spillway has a free slot. -/
def Queue.start (q : Queue) (deep room : Bool) : Queue :=
  let a := if !q.spill.isEmpty && q.head.length < 8 then { q with refilling := true } else q
  let b := if a.spill.isEmpty && !a.busy && a.head.length < 8 && !a.tail.isEmpty then { a with moving := true } else a
  if deep && 8 ≤ b.tail.length && (8 ≤ b.head.length || !b.spill.isEmpty) && !b.spilling && !b.moving && room then
    { b with spilling := true }
  else b

/-- Start what R60 starts in queue h. -/
def State.startMoves (s : State) (h : Nat) : State :=
  s.onQueue h (fun q => q.start (16 < s.getA (LQ.CAP.CAP h)) (q.spill.length < s.get (LQ.SPILL_LINES.LINES h)))

/-- The refill that the DRAM port takes next (R61): that of the queue with the fewest lines in its head section, and of
these the lowest. -/
def State.nextRefill (s : State) : Option Nat :=
  ((List.range 16).filter (fun h => (s.queue h).refilling)).foldl (fun b h =>
    match b with
    | none => some h
    | some g => if (s.queue h).head.length < (s.queue g).head.length then some h else some g) none

/-- What the port serves is still in flight. -/
def State.portServes (s : State) : Bool :=
  match s.lqPort with
  | none => false
  | some none => s.lq.any (·.spilling)
  | some (some h) => (s.queue h).refilling

/-- A free DRAM port takes a refill before a spill; among spills the spec gives no order, and the sender's completion shows
which one it was (log entry 81). -/
def State.servePort (s : State) : State :=
  if s.portServes then s
  else { s with lqPort := match s.nextRefill with
                          | some h => some (some h)
                          | none => if s.lq.any (·.spilling) then some none else none }

/-- The port has done what it served. -/
def State.freePort (s : State) : State := { s with lqPort := none }

/-- Change queue h, settle its landing buffer, its transfers (R60, R61) and its registers. -/
def State.setQueue (s : State) (h : Nat) (f : Queue → Queue) : State :=
  (((s.onQueue h (fun q => (f q).land)).startMoves h).servePort).syncQueue h

/-- The boundary of queue h: a push, a pop or a discard loads its shadows, or refuses a CAP (R64). A value that is refused is
reported once, whatever CAP_REFUSED shows (log entry 100). -/
def State.queueBoundary (s : State) (h : Nat) : State :=
  let t := s.loadB (LQ.CFG h) (LQ.CFG h + 4)
  if t.act.any (·.1 == LQ.CAP h) then
    if t.capBad h (t.get (LQ.CAP.CAP h)) then
      t.when (!(t.queue h).refused) (fun u =>
        ((u.onQueue h (fun q => { q with refused := true })).raise (LQ.QSTATUS.CAP_REFUSED h)).report Src.LQ_CFG h 4)
    else ((t.loadB (LQ.CAP h) (LQ.CAP h + 4)).startMoves h).servePort
  else t

/-- The last beat of head h's line is written: the line enters the queue (R59), or its remaining beats are dropped
(R71). The line ends with the last push (R46). While the tail holds 8 lines the landing buffer takes the line, also below
CAP (log entry 81). -/
def State.pushLine (s : State) (h : Nat) : State :=
  match s.cmp.emit.find? (·.1 == h), s.cmpJob? with
  | some e, some j =>
    let y := s.get CMP.JOB_LINE.LINE
    if (s.queue h).drop != 0 then
      let t := (s.bump (LQ.DROP_BEATS.COUNT h) (s.queue h).drop).onQueue h (fun q => { q with drop := 0 })
      let u := t.onCmp (fun c => { c with emit := c.emit.erase e })
      if u.cmp.emit.isEmpty then u.endLine else u
    else if s.queueFull h y then s
    else
      let l : QLine := { seq := j.seq, job := j.id, y := y, codes := e.2 }
      let t := s.setQueue h (fun q => if q.tail.length < 8 then { q with tail := q.tail ++ [l] } else { q with landing := some l })
      let u := (t.queueBoundary h).onCmp (fun c => { c with emit := c.emit.erase e })
      if u.cmp.emit.isEmpty then u.endLine else u
  | _, _ => s

/-- LINE_PUSH (R59): a disabled queue takes no line, but it drops the further beats of one that its flush has cut (R71,
R73). -/
def execLinePush (h : Nat) (s : State) : Host.Outcome State Fault Refusal :=
  .next (s.when ((s.blockOn LQ.CTL.EN 2 || (!s.flag LQ.CTL.EN && s.domainRuns 4 && (s.queue h).drop != 0)) && s.headOn h) (·.pushLine h))

/-! Moves between the sections (R60) -/

/-- A tail-to-head move is complete. -/
def Queue.moved (q : Queue) : Queue :=
  match q.tail with
  | l :: r => { q with tail := r, head := q.head ++ [l], moving := false }
  | [] => { q with moving := false }

/-- TAIL_TO_HEAD_MOVE (R60 rule 2): the move in flight is complete. -/
def execTailToHeadMove (h : Nat) (s : State) : Host.Outcome State Fault Refusal :=
  .next (s.when (s.headOn h && s.domainRuns 4 && (s.queue h).moving) (fun t => t.setQueue h Queue.moved))

/-- Base address of the spillway of queue h. -/
def State.spillBase (s : State) (h : Nat) : Nat := s.rd64 (LQ.SPILL_BASE_LO h) (LQ.SPILL_BASE_HI h) / 2048 * 2048

/-- The 512 words of a line (R37). -/
def packLine (l : List Code) : List Byte :=
  (List.range 2048).map (fun i => BitVec.ofNat 8 ((l.getD (2 * i) 0#4).toNat + 16 * (l.getD (2 * i + 1) 0#4).toNat))

/-- The codes of 2 KB. -/
def unpackLine (l : List Byte) : List Code := l.flatMap (fun b => [BitVec.ofNat 4 (b.toNat % 16), BitVec.ofNat 4 (b.toNat / 16)])

/-- A line was lost to the spillway: it is delivered blank, and the slot is reported (R73, table of queue faults). -/
def State.spillError (s : State) (h slot : Nat) : State := (s.raise (LQ.QSTATUS.SPILL_ERR h)).report Src.LQ_SPILL_ERR h slot

/-- SPILL_COMPLETE (R60, R61): the spill in flight that the port serves is complete, and the oldest tail line is in the next
spillway slot. -/
def execSpillComplete (h : Nat) (x : Access) (s : State) : Host.Outcome State Fault Refusal :=
  if s.headOn h && s.domainRuns 4 && (s.queue h).spilling && s.lqPort == some none then
    match (s.queue h).tail with
    | l :: r =>
      let slot := (s.queue h).slot
      let w := s.ramWrite 8 (s.spillBase h + 2048 * slot) (packLine l.codes) x
      let bad := w.2 != 0 || x.status != 0
      let k : QLine := { l with codes := [], bad := l.bad || bad }
      .next (((w.1.when bad (·.spillError h slot)).freePort).setQueue h (fun q => { q with
        tail := r, spill := q.spill ++ [(k, slot)], slot := (slot + 1) % oneIfZero (s.get (LQ.SPILL_LINES.LINES h))
        spilling := false }))
    | [] => .next s
  else .next s

/-- REFILL_COMPLETE (R60, R61): the refill that the port serves is complete, and the oldest spillway line is in the head
section. -/
def execRefillComplete (h : Nat) (x : Access) (s : State) : Host.Outcome State Fault Refusal :=
  match (s.queue h).spill with
  | (l, slot) :: r =>
    if s.headOn h && s.domainRuns 4 && (s.queue h).refilling && s.lqPort == some (some h) then
      let d := s.ramRead 8 (s.spillBase h + 2048 * slot) 2048 x
      let bad := d.2.1 != 0 || x.status != 0
      let k : QLine := { l with codes := if bad || l.bad then [] else unpackLine d.2.2, bad := l.bad || bad }
      .next (((d.1.when bad (·.spillError h slot)).freePort).setQueue h (fun q => { q with
        spill := r, head := q.head ++ [k], refilling := false }))
    else .next s
  | [] => .next s

/-! Pops -/

/-- What a pop request returns (R68). -/
inductive PopResult where
  | line (codes : List Code)
  | blank
  | retry
  deriving DecidableEq, Repr

def QLine.tag (l : QLine) : Nat × Nat := (l.seq, l.y)

/-- Discard the oldest head-section lines behind a tag; the fuel is the section's length. -/
def discardBehind (g : Nat × Nat) : List QLine → List QLine
  | [] => []
  | l :: t => if tagBefore l.tag g then discardBehind g t else l :: t

/-- Is queue h in resync (R73)? -/
def State.resync (s : State) (h : Nat) : Bool := bit (s.get LQ.RESYNC.Q) h
def State.setResync (s : State) (h : Nat) (b : Bool) : State := s.put LQ.RESYNC.Q (setBitTo (s.get LQ.RESYNC.Q) h b)

/-- An underrun blank line outside resync (R70): the first of a run is reported, and the run that reaches
UNDER_LIMIT. -/
def State.underrun (s : State) (h detail : Nat) : State :=
  let n := (s.queue h).run + 1
  let a := ((s.bump (LQ.UNDER_CNT.COUNT h)).raise (LQ.QSTATUS.UNDERRUN h)).onQueue h (fun q => { q with run := n })
  let b := a.when (n == 1) (·.report Src.LQ_UNDERRUN h detail)
  let lim := b.getA (LQ.CFG.UNDER_LIMIT h)
  b.when (lim != 0 && lim ≤ n && !(b.queue h).starved) (fun t =>
    (t.onQueue h (fun q => { q with starved := true })).report Src.LQ_STARVED h detail)

/-- A pop of queue h for the fire line with tag g and detail d (pseudocode of R68). A blank is no boundary of R64, and one for
a line ahead of the fire line neither counts in an underrun run nor ends it (log entry 100). -/
def State.popQueue (s : State) (h : Nat) (g : Nat × Nat) (detail : Nat) (deadline : Bool) : State × PopResult :=
  let old := (s.queue h).head
  let kept := discardBehind g old
  let late := old.length - kept.length
  let a := s.when (late != 0) (fun t =>
    ((t.setQueue h (fun q => { q with head := kept })).bump (LQ.LATE_CNT.COUNT h) late).queueBoundary h)
  match kept with
  | l :: r =>
    if l.tag == g then
      let b := ((a.setQueue h (fun q => { q with head := r, run := 0, starved := false })).setResync h false).queueBoundary h
      (b.when l.bad (·.bump (LQ.BLANK_CNT.COUNT h)), .line l.codes)
    else
      let b := a.bump (LQ.BLANK_CNT.COUNT h)
      (b.when (!b.resync h) (fun t => (t.raise (LQ.QSTATUS.SEQ h)).report Src.LQ_SEQ h detail), .blank)
  | [] =>
    if deadline then
      let b := a.bump (LQ.BLANK_CNT.COUNT h)
      (b.when (!b.resync h) (·.underrun h detail), .blank)
    else (a, .retry)

/-! Flush -/

/-- A flush of queue h takes effect (R71); beats were written of a line that EMIT has begun. EMIT goes on with a line that
it still writes, and not with one that a stop has abandoned (R51). A line that an earlier flush has cut goes on being
dropped, and its beats count once. A spill of the queue that a forced flush ends leaves the DRAM port (log entry 81). -/
def State.flushQueue (s : State) (h beats : Nat) : State :=
  let q := s.queue h
  let writes := s.cmp.emit.any (·.1 == h)
  let n := if writes then (if q.drop == 0 then beats else 0) else if q.part then beats - q.cut else 0
  let z := s.when (q.spilling && s.lqPort == some none) (·.freePort)
  let a := z.setQueue h (fun _ => { refused := q.refused, drop := if !writes then 0 else if q.drop != 0 then q.drop else if beats == 0 then 0 else 64 - beats })
  let b := (a.when (n != 0) (·.bump (LQ.DROP_BEATS.COUNT h) n)).setResync h true
  let c := (b.put LQ.FLUSH.REQ (setBitTo (b.get LQ.FLUSH.REQ) h false)).onHport h (fun p => { p with skewN := 0, lastTag := none })
  c.queueBoundary h

/-- LQ_FLUSH (R71): the operand is the mask written. -/
def execLqFlush (mask : Nat) (s : State) : Host.Outcome State Fault Refusal :=
  .next (s.put LQ.FLUSH.REQ (s.get LQ.FLUSH.REQ ||| (mask % 2 ^ s.nHeads)))

/-- FLUSH_EFFECT (R71): no transfer of the queue is in flight. -/
def execFlushEffect (h beats : Nat) (s : State) : Host.Outcome State Fault Refusal :=
  .next (s.when (s.headOn h && s.domainRuns 4 && bit (s.get LQ.FLUSH.REQ) h && !(s.queue h).busy) (·.flushQueue h (min 63 beats)))

/-- FLUSH_TIMEOUT (R72). -/
def execFlushTimeout (h beats : Nat) (s : State) : Host.Outcome State Fault Refusal :=
  .next (s.when (s.headOn h && s.domainRuns 4 && bit (s.get LQ.FLUSH.REQ) h) (fun t =>
    ((t.flushQueue h (min 63 beats)).raise (LQ.QSTATUS.FLUSH_FORCED h)).report Src.LQ_FLUSH_FORCED h 0))

/-- QPTR_MISMATCH (R74): ptr is the first differing pointer, a and b its copies. -/
def execQptrMismatch (h ptr a b beats : Nat) (s : State) : Host.Outcome State Fault Refusal :=
  .next (s.when (s.headOn h && s.domainRuns 4) (fun t =>
    ((t.flushQueue h (min 63 beats)).raise (LQ.QSTATUS.QPTR_MISMATCH h)).report Src.QPTR_MISMATCH h
      (ptr % 8 * 2 ^ 29 + a % 2 ^ 14 * 2 ^ 14 + b % 2 ^ 14)))

/-! Enable -/

/-- Extent of the spillway of queue h. -/
def State.spillSize (s : State) (h : Nat) : Nat := 2048 * s.get (LQ.SPILL_LINES.LINES h)

/-- Refusal code of queue h (R65, R461). -/
def State.queueBad (s : State) (h : Nat) : Option Nat :=
  let cap := s.get (LQ.CAP.CAP h)
  if cap == 0 || 65536 < cap then some 1
  else if 16 < cap && (s.get (LQ.SPILL_LINES.LINES h) + 8 < cap || s.spillBase h < 0x8000000000
      || 0x8000000000 + s.dramEnd < s.spillBase h + s.spillSize h) then some 2
  else if (List.range s.nHeads).any (fun g => g != h && overlaps (s.spillBase h) (s.spillSize h) (s.spillBase g) (s.spillSize g)) then some 3
  else none

/-- Setting LQ.CTL.EN (R65). -/
def State.lqEnable (s : State) : State :=
  if s.flag LQ.CTL.EN then s
  else
    match (List.range s.nHeads).findSome? (fun h => (s.queueBad h).map (fun c => (h, c))) with
    | some (h, c) => (s.raise LQ.STATUS.CFG_ERR).report Src.LQ_CFG h c
    | none => s.enableBlock LQ.CTL.EN 0 2

/-- LQ_ENABLE (R65). -/
def execLqEnable (s : State) : Host.Outcome State Fault Refusal := .next s.lqEnable

/-- Clearing LQ.CTL.EN (R73, R35): every queue is flushed at once; beats names the partial lines. -/
def State.lqDisable (s : State) (beats : List (Nat × Nat)) : State :=
  if !s.flag LQ.CTL.EN then s
  else
    let a := (s.disableBlock LQ.CTL.EN 2).abortRunning 8
    let b := a.each (List.range a.nHeads) (fun h t =>
      t.flushQueue h (match beats.find? (·.1 == h) with | some p => min 63 p.2 | none => 0))
    { b with act := b.act.filter (fun e => !(0x40120000 ≤ e.1 && e.1 < 0x40140000)) }.settleSwaps

/-- LQ_DISABLE (R35, R73). -/
def execLqDisable (beats : List (Nat × Nat)) (s : State) : Host.Outcome State Fault Refusal := .next (s.lqDisable beats)

end Sys2Proof.Machine
end

