-- ==== Sys2Proof/Machine/Naming.lean ====
section
/-! DEFINITION. Which nozzle of a head is sensed (R201-R206). -/

namespace Sys2Proof.Machine

/-- Number of the fire line that port h prepares a transfer for, as NhHead.lineNo counts their boundaries: one whose
triggers are placed has had its boundary, another one's comes next. -/
def State.ownLine (s : State) (h : Nat) : Nat :=
  let n := (s.nhh h).lineNo
  match s.fire.trigs.find? (fun t => t.head == h && t.group == 0 && !t.committed) with
  | some t => n - (s.get FIRE.LINE_CNT.COUNT + 2 ^ 32 - t.line) % 2 ^ 32
  | none => n + 1

/-- Close the senses that are still outstanding when the transfer of the third line after theirs is named (R205): lines
without a transfer of the head count too. -/
def State.closeOld (s : State) (h : Nat) : State :=
  let no := s.ownLine h
  s.each ((s.nhh h).out.filter (fun o => o.no + 3 ≤ no)) (fun o t => t.skipSense h o.pos)

/-- Active class-B words of nozzle sensing. -/
def State.senseCfg (s : State) : SenseCfg :=
  { cls := s.activeWord NH.CLASS_CFG, cls2 := s.activeWord NH.CLASS_CFG2, ds := s.activeWord NH.DS_REF
    base := s.activeWord NH.BASE_BASE }

/-- A fire-line boundary: senses made in its line take the class-B values of this boundary (R223). -/
def State.senseLine (s : State) (h : Nat) : State :=
  s.onNhh h (fun n => { n with
    lineNo := n.lineNo + 1
    out := n.out.map (fun o => if o.no == n.lineNo + 1 then { o with cfg := s.senseCfg } else o) })

/-- One scan step (R204): POS moves on, and a pass ends after NNOZ steps. -/
def State.scanStep (s : State) (h : Nat) : State :=
  let n := oneIfZero (s.get (NH.HCTL.NNOZ h))
  let t := s.put (NH.SCAN.POS h) ((s.get (NH.SCAN.POS h) + s.get (NH.HCTL.SCAN_STEP h)) % n)
  if n ≤ (t.nhh h).steps + 1 then (t.onNhh h (fun k => { k with steps := 0 })).bump (NH.SCAN.PASSES h)
  else t.onNhh h (fun k => { k with steps := k.steps + 1 })

/-- Is a sense of the position outstanding? -/
def State.outSense (s : State) (h pos : Nat) : Bool := (s.nhh h).out.any (·.pos == pos)

/-- Name the scan position, passing over positions with an outstanding sense (R203); the fuel bounds those. -/
def State.nameScan (s : State) (h : Nat) : Nat → State × Option Nat
  | 0 => (s, none)
  | k + 1 =>
    let p := s.get (NH.SCAN.POS h)
    let t := s.scanStep h
    if s.outSense h p then t.nameScan h k else (t, some p)

/-- The next member that ok accepts after the first i, in list order, wrapping. -/
def nextAfter (l : List Nat) (i : Nat) (ok : Nat → Bool) : Option Nat := (l.drop i ++ l.take i).find? ok

/-- A nozzle leaves the suspect list: the next suspect after the one named last stays the same (R203). -/
def NhHead.dropSuspect (n : NhHead) (j : Nat) : NhHead :=
  { n with suspects := n.suspects.filter (· != j)
           passed := n.passed - ((n.suspects.take n.passed).filter (· == j)).length }

/-- The codes of a position in the head's last transfers were all 0x0 (R244). -/
def NhHead.rested (n : NhHead) (pos : Nat) : Bool := n.past.all (fun c => c.getD pos 0#4 == 0#4)

/-- Make the sense of a position outstanding. One that is named after its own boundary takes the values now active
(R223). -/
def State.openSense (s : State) (h pos : Nat) (scan : Bool) : State :=
  s.onNhh h (fun n => { n with out := n.out ++ [⟨pos, scan, s.ownLine h, s.senseCfg, n.rested pos⟩] })

/-- The pseudocode of R203. -/
def State.chooseSense (s : State) (h : Nat) : State × Option Nat :=
  let n := s.nhh h
  let free := fun p => !s.outSense h p
  let again := match n.retry with | some r => if free r then some r else none | none => none
  match again with
  | some r => ((s.onNhh h (fun k => { k with retry := none, wasSuspect := false })).openSense h r true, some r)
  | none =>
    if n.wasSuspect || !n.suspects.any free then
      match s.nameScan h (n.out.length + 1) with
      | (t, some p) => ((t.onNhh h (fun k => { k with wasSuspect := false })).openSense h p true, some p)
      | (t, none) => (t, none)
    else
      match nextAfter n.suspects n.passed free with
      | some p => ((s.onNhh h (fun k => { k with wasSuspect := true, passed := k.suspects.findIdx (· == p) + 1 })).openSense h p false, some p)
      | none => (s, none)

/-- Nozzle sensing names a position, or none, for the transfer being prepared (R201, R205). -/
def State.nameSense (s : State) (h : Nat) : State × Option Nat :=
  let t := s.closeOld h
  if t.sensing h then t.chooseSense h else (t, none)

end Sys2Proof.Machine
end

