-- ==== Sys2Proof/Machine/Skew.lean ====
section
/-! DEFINITION. The content of a transfer: the skew store (R81-R83), the rail override and the drop counts (R84). -/

namespace Sys2Proof.Machine

/-! The skew store -/

/-- Address of slot i of row r of port h's store. -/
def State.skewSlot (s : State) (h : Nat) (c : List Word) (rows : List Nat) (r i : Nat) : Nat :=
  s.get (HPT.SKEW_BASE.ADDR h) * 32 + skewOffset c rows r + i * slotBytes rows r

/-- The codes of a line at the positions of row r, in order. -/
def rowCodes (rows : List Nat) (r : Nat) (line : List Code) : List Code :=
  (((List.range 4096).zip rows).filter (fun p => p.2 == r)).map (fun p => line.getD p.1 0#4)

/-- Codes packed two to a byte, the lower position in the low half (R37). -/
def packCodes : List Code → List Byte
  | [] => []
  | [a] => [BitVec.ofNat 8 a.toNat]
  | a :: b :: t => BitVec.ofNat 8 (a.toNat + 16 * b.toNat) :: packCodes t

/-- Row r of the line that enters leaves the code list of the row's delayed line: slot n mod d is read, then written;
a slot that no line has entered since the store was last empty reads as 0x0 (R83). x names the words with an error; port 0
carries the store, so that its writes stand (R361, R363). -/
def State.skewRow (s : State) (h : Nat) (c : List Word) (rows : List Nat) (n : Nat) (line : List Code) (x : Access) (r : Nat) :
    State × List Code :=
  let d := rowDly c r
  let own := rowCodes rows r line
  if d == 0 then (s, own)
  else
    let a := s.skewSlot h c rows r (n % d)
    let old := s.ramRead 9 a (slotBytes rows r) x
    let out := if n < d then own.map (fun _ => 0#4) else (unpackLine old.2.2).take own.length
    (((if n < d then s else old.1).ramWrite 9 a (packCodes own) { x with coll := [] }).1, out)

/-- All rows, in ascending order. -/
def State.skewRows (s : State) (h : Nat) (c : List Word) (rows : List Nat) (n : Nat) (line : List Code) (x : Access) :
    State × List (List Code) :=
  (List.range 8).foldl (fun a r =>
    let b := a.1.skewRow h c rows n line x r
    (b.1, a.2 ++ [b.2])) (s, [])

/-- Take the next code of row r from the lists of the rows. -/
def takeCode (l : List (List Code)) (r : Nat) : Code × List (List Code) :=
  ((l.getD r []).headD 0#4, modAt l r (·.drop 1))

/-- Put the rows' codes back into position order. -/
def weaveRows : List Nat → List (List Code) → List Code
  | [], _ => []
  | r :: t, l => (takeCode l r).1 :: weaveRows t (takeCode l r).2

/-- A line enters the skew store, and the transfer's codes leave it (R81). -/
def State.enterLine (s : State) (h : Nat) (c : List Word) (line : List Code) (x : Access := {}) : State × List Code :=
  let n := (s.hport h).skewN
  let rows := rowList c
  let r := if maxDly c == 0 then (s, line) else (let b := s.skewRows h c rows n line x; (b.1, weaveRows rows b.2))
  (r.1.onHport h (fun p => { p with skewN := n + 1 }), r.2)

/-- Treat every stored slot as 0x0. -/
def State.clearSkew (s : State) (h : Nat) : State := s.onHport h (fun p => { p with skewN := 0, lastTag := none })

/-- Lines of the job that fired nothing enter as blank lines, so that every row stays aligned by tag (R81, R154). -/
def State.enterBlanks (s : State) (h : Nat) (c : List Word) (x : Access) : Nat → State
  | 0 => s
  | k + 1 => (s.enterLine h c [] x).1.enterBlanks h c x k

/-- Bring the store up to line (seq, y). -/
def State.alignSkew (s : State) (h : Nat) (c : List Word) (seq y : Nat) (x : Access := {}) : State :=
  let gap := match (s.hport h).lastTag with
    | some g => if g.1 == seq then ((y : Int) - g.2 - 1).toNat else y
    | none => 0
  let t := if maxDly c ≤ gap then s.onHport h (fun p => { p with skewN := 0 }) else s.enterBlanks h c x gap
  t.onHport h (fun p => { p with lastTag := some (seq, (y : Int)) })

/-- The loaded compare is C(0) of job seq and lies one line after the last fire line: the job and job line of that one. -/
def State.followsNow (s : State) (seq : Nat) : Option (Nat × Nat) :=
  match s.fire.prev with
  | some (c, p) =>
    if s.fire.loaded && s.fire.cmpJob == seq && s.fire.cmpY == 0 && s.compare == (c + p) % 2 ^ 48 then
      some (s.fire.prevSeq, s.fire.prevY)
    else none
  | none => none

/-- The fire line that job seq follows without an empty fire line (R83): noted at its start, or found before it. -/
def State.follows (s : State) (seq : Nat) : Option (Nat × Nat) :=
  match s.fire.contig with
  | some g => if g.1 == seq then some g.2 else s.followsNow seq
  | none => s.followsNow seq

/-- The start of job seq on port h: the store is kept, its lines counted on from the new job's line 0, or treated as empty
(R81, R83). -/
def State.skewStart (s : State) (h seq : Nat) (c : List Word) : State :=
  match s.follows seq, (s.hport h).lastTag with
  | some q, some g =>
    if g.1 == q.1 && sameRows c (s.portActive h) then
      s.onHport h (fun p => { p with lastTag := some (seq, g.2 - (q.2 : Int) - 1) })
    else s.clearSkew h
  | _, _ => s.clearSkew h

/-! Rail override and counts -/

/-- The rail override of a code in a rail state: 1 A_TO_S, 2 B_TO_S (R84). -/
def overrideCode (st : Nat) (c : Code) : Code :=
  if c.extractLsb' 0 2 != 0#2 && ((st == 1 && c.extractLsb' 2 2 == 0#2) || (st == 2 && c.extractLsb' 2 2 == 1#2)) then
    2#2 ++ c.extractLsb' 0 2
  else c

/-- Rail 0b10 for the sensed position. -/
def senseCode (c : Code) : Code := 2#2 ++ c.extractLsb' 0 2

/-- Drops of sizes 1 to 3 of row r. -/
def rowDrops (rows : List Nat) (l : List Code) (r : Nat) : Nat × (Nat × Nat) :=
  let own := rowCodes rows r l
  (own.countP (·.extractLsb' 0 2 == 1#2), (own.countP (·.extractLsb' 0 2 == 2#2), own.countP (·.extractLsb' 0 2 == 3#2)))

/-- Fill in a transfer's codes for a rail state and a sensed position, and start its frame anew (R84, R88). -/
def Xfer.dress (x : Xfer) (st : Nat) (pos : Option Nat) : Xfer :=
  let a := x.raw.map (overrideCode st)
  let l := match pos with | some p => if st == 0 then modAt a p senseCode else a | none => a
  let rows := rowList x.cfg
  { x with
    codes := l
    drops := (List.range 8).map (rowDrops rows l)
    sense := match pos with
      | some p => if st == 0 then some (p, ((x.raw.getD p 0#4).extractLsb' 0 2).toNat) else none
      | none => none
    lanes := List.replicate 4 {}
    complete := false }

/-- Codes of the transfer just prepared join the head's last four (R244). -/
def State.notePast (s : State) (h : Nat) (l : List Code) : State :=
  s.onNhh h (fun n => { n with past := (l :: n.past).take 4 })

end Sys2Proof.Machine
end

