-- ==== Sys2Proof/Machine/HeadPort.lean ====
section
/-! DEFINITION. Head ports (04_head_ports.md): pops and transfers, latches, framing program loads, the enable checks,
the down state, and the ID bus. -/

namespace Sys2Proof.Machine

/-! The down state (R90, R91, R100, R101) -/

/-- Causes in the order in which DOWN_CAUSE shows them. -/
def downOrder : List Nat := [6, 1, 4, 3, 5, 7, 2]

/-- DOWN and DOWN_CAUSE follow the causes. -/
def State.syncDown (s : State) (h : Nat) : State :=
  let c := (s.hport h).causes
  (s.put (HPT.PSTATUS.DOWN h) (nat01 (c != 0))).put (HPT.PSTATUS.DOWN_CAUSE h) ((downOrder.find? (bit c)).getD 0)

/-- A cause takes the port down. -/
def State.addCause (s : State) (h c : Nat) : State :=
  (s.onHport h (fun p => { p with causes := setBitTo p.causes c true, ended := setBitTo p.ended c false })).syncDown h

/-- A cause that firmware has cured; the down state ends at a fire-line boundary. -/
def State.endCause (s : State) (h c : Nat) : State := s.onHport h (fun p => { p with ended := setBitTo p.ended c true })

/-! Transfers -/

/-- Lane bit time in ticks (R75). -/
def State.bitTicks (s : State) (h : Nat) : Nat := clampNat 2 32 (s.get (HPT.CLK.RATE_DIV h))

/-- The block's enable has taken effect. -/
def State.hptOn (s : State) : Bool := s.blockOn HPT.CTL.EN 3

/-- The port makes transfers. -/
def State.portLive (s : State) (h : Nat) : Bool :=
  s.headOn h && s.hptOn && s.flag (HPT.PCTL.EN h) && s.flag (HPT.PSTATUS.READY h) && !(s.hport h).acting && !s.stopped

/-- Settings and framing program of the transfers of job seq (R149). -/
def State.xferCfg (s : State) (h seq : Nat) : List Word :=
  if (s.hport h).jobSeq == some seq then s.portActive h else s.portNext h seq

/-- The checked program that waits for a job start: the last one loaded, else one that a transfer has taken already. -/
def Port.waitProg (p : Port) : List Word := if !p.pend.isEmpty then p.pend else if p.snapPend then p.snapProg else []

def Port.nextProg (p : Port) : List Word := if p.waitProg.isEmpty then p.prog else p.waitProg

def State.xferProg (s : State) (h seq : Nat) : List Word :=
  let p := s.hport h
  if p.jobSeq == some seq then p.prog
  else match p.snap with
    | some g => if g.1 == seq then p.snapProg else p.nextProg
    | none => p.nextProg

/-- Start of the line latch that a trigger instant places (R78). -/
def latStartOf (c : List Word) (trig : Nat) : Nat := before trig (latLead c + latW c)

/-- Ticks a frame of the program needs on port h. -/
def State.frameTicks (s : State) (h : Nat) (prog : List Word) : Nat := frameBits prog * s.bitTicks h

/-- T_PREP (R77): 200 ns. -/
def prepTicks : Nat := 320

/-- The line that port h works toward, when it may make a transfer for it. -/
def State.xferLine (s : State) (h : Nat) : Option PortLine :=
  if s.portLive h then
    match s.portLine h with
    | some g => if !(s.xferProg h g.seq).isEmpty && rowsOk (s.xferCfg h g.seq) then some g else none
    | none => none
  else none

/-- The values and the program of the job's first transfer are taken (R149), and the store is kept or emptied (R83). -/
def State.takeSnap (s : State) (h seq : Nat) : State :=
  let p := s.hport h
  if p.jobSeq == some seq || (match p.snap with | some g => g.1 == seq | none => false) then s
  else
    let c := s.portShadow h
    (s.skewStart h seq c).onHport h (fun p => { p with
      snap := some (seq, c), snapProg := p.nextProg, snapPend := !p.waitProg.isEmpty, pend := [] })

/-- Prepare the transfer of a line from the codes that the pop gave (steps 2 and 3 of a transfer; R81, R84, R201). -/
def State.prepare (s : State) (h : Nat) (g : PortLine) (line : List Code) (x : Access := {}) : State :=
  let a := (s.takeSnap h g.seq).onHport h (fun p => { p with window := false })
  let c := a.xferCfg h g.seq
  let b := (a.alignSkew h c g.seq g.y x).enterLine h c ((List.range 4096).map (fun j => line.getD j 0#4)) x
  let st := b.1.get (WFE.HEAD_STAT.RAIL_STATE h)
  let n := b.1.nameSense h
  let f := Xfer.dress { seq := g.seq, y := g.y, cfg := c, raw := b.2, prog := b.1.xferProg h g.seq } st n.2
  let t := n.1.when (st != 0) (fun u => match n.2 with | some p => u.skipSense h p | none => u)
  ((t.notePast h f.codes).onHport h (fun p => { p with xfer := some f })).when (st == 3) (·.addCause h 5)

/-- Is the line beyond the last job line: a tail line, for which nothing is popped (R83, R152)? -/
def State.tailLine (s : State) (g : PortLine) : Bool :=
  match s.job? g.seq with | some j => j.lines ≤ g.y | none => false

/-- JOB_ID of a job by its sequence number. -/
def State.jobId (s : State) (seq : Nat) : Nat := match s.job? seq with | some j => j.id | none => 0

/-- One try at popping the line of port h (R68, R77). A transfer of a line that is not the next one any more (its job
has ended) gives way. -/
def State.popPort (s : State) (h : Nat) (deadline : Bool) (x : Access := {}) : State :=
  match s.xferLine h with
  | none => s
  | some g =>
    let p := s.hport h
    let same := match p.xfer with | some x => x.seq == g.seq && x.y == g.y | none => false
    if same || (!p.window && p.xfer.isNone) then s
    else
      let t := s.onHport h (fun p => { p with xfer := none })
      if t.tailLine g then t.prepare h g [] x
      else match t.popQueue h (g.seq, g.y) (tagDetail (t.jobId g.seq) g.y) deadline with
        | (u, .line l) => u.prepare h g l x
        | (u, .blank) => u.prepare h g [] x
        | (u, .retry) => u

/-- POP (R68). -/
def execPopLine (h : HeadRead) (s : State) : Host.Outcome State Fault Refusal := .next (s.popPort h.head false h.x)

/-- The pop deadline of a line has passed (R77); without a predicted start it has not. -/
def State.deadlinePassed (s : State) (h : Nat) (g : PortLine) : Bool :=
  match g.trig with
  | some t =>
    let c := s.xferCfg h g.seq
    reached s.time (before (latStartOf c t) (latSetup c + s.frameTicks h (s.xferProg h g.seq) + prepTicks))
  | none => false

/-- POP_DEADLINE (R77). -/
def execPopDeadline (h : HeadRead) (s : State) : Host.Outcome State Fault Refusal :=
  .next (match s.xferLine h.head with
    | some g => s.when (s.deadlinePassed h.head g) (·.popPort h.head true h.x)
    | none => s)

/-- FRAME_COMPLETE (R75, R78): the last bit has left the lanes. -/
def execFrameComplete (h : Nat) (s : State) : Host.Outcome State Fault Refusal :=
  match (s.hport h).xfer with
  | some x =>
    if x.lanes.all (·.done) && !x.complete then
      .next (s.onHport h (fun p => { p with xfer := some { x with complete := true, doneAt := s.time } }))
    else .next s
  | none => .next s

/-- The trigger of group 0 of head h that waits for its line latch. -/
def State.latchTrig (s : State) (h : Nat) : Option Trig :=
  s.fire.trigs.find? (fun t => t.head == h && t.group == 0 && !t.committed)

/-- The frame of a trigger's line is ready for a latch that starts at an instant (R78). -/
def Xfer.readyFor (x : Xfer) (t : Trig) (start : Nat) : Bool :=
  x.seq == t.seq && x.y == t.y && x.complete && reached (before start (latSetup x.cfg)) x.doneAt

/-- LAT_START (R78, R146): the line latch of head h starts, and its group 0 and both edges are committed. -/
def execLatStart (h : Nat) (s : State) : Host.Outcome State Fault Refusal :=
  match s.latchTrig h, (s.hport h).xfer with
  | some t, some x =>
    let start := latStartOf x.cfg t.at_
    if s.portLive h && s.flag FIRE.STATUS.PRED_VALID && reached s.time start && x.readyFor t start then
      .next (((s.onHport h (fun p => { p with
          xfer := none, latched := some x, latUp := true, latAt := some (start, (start + latW x.cfg) % 2 ^ 48), lateRun := false })).bump
        (HPT.FRAME_CNT.COUNT h)).onFire (fun f => { f with trigs := f.trigs.map (fun u =>
          if u == t then { u with committed := true } else u) }))
    else .next s
  | _, _ => .next s

/-- LAT_END (R76-R78): the pop window of the next line opens, and the port pops it. -/
def execLatEnd (h : HeadRead) (s : State) : Host.Outcome State Fault Refusal :=
  match (s.hport h.head).latAt with
  | some e =>
    if (s.hport h.head).latUp && reached s.time e.2 then
      .next ((s.onHport h.head (fun p => { p with latUp := false, window := true })).popPort h.head false h.x)
    else .next s
  | none => .next s

/-- Nothing fires on the head for a trigger's line (R147). -/
def State.dropLine (s : State) (h : Nat) (t : Trig) : State :=
  (s.onFire (fun f => { f with
    trigs := f.trigs.filter (fun u => !(u.head == h && u.seq == t.seq && u.y == t.y))
    taps := f.taps.filter (fun u => !(u.head == h && u.line == t.line)) })).raise (FIRE.HSTAT.NO_TRIG h)

/-- The frame of a trigger's line missed its latch: it is counted, and the first of a run reported (R79). -/
def State.lateLine (s : State) (h : Nat) (t : Trig) : State :=
  let first := !(s.hport h).lateRun
  let a := ((s.bump (HPT.XFER_LATE_CNT.COUNT h)).raise (HPT.PSTATUS.XFER_LATE h)).onHport h (fun p => { p with
    lateRun := true, window := true, xfer := none })
  (a.dropLine h t).when first (·.report Src.HPT_XFER_LATE h (tagDetail (s.jobId t.seq) t.y))

/-- XFER_LATE (R79): a port that makes no frame because it is down, not READY or without a program is not late, but
nothing fires either. -/
def execXferLate (h : Nat) (s : State) : Host.Outcome State Fault Refusal :=
  match s.latchTrig h with
  | some t =>
    let c := s.xferCfg h t.seq
    let start := latStartOf c t.at_
    let ok := match (s.hport h).xfer with | some x => x.readyFor t start | none => false
    if s.flag FIRE.STATUS.PRED_VALID && reached s.time (before start (latSetup c)) && !ok then
      .next (if (s.xferLine h).isSome then s.lateLine h t else s.dropLine h t)
    else .next s
  | none => .next s

/-- The rail state of a head has changed: when time is left the frame in preparation starts again with the new state, as
the head of R84 gives it, and DOWN takes the port down (R85). -/
def State.restartFrame (s : State) (h : Nat) : State :=
  match (s.hport h).xfer, s.xferLine h with
  | some x, some g =>
    let need := prepTicks + s.frameTicks h x.prog + latSetup x.cfg
    let room := match g.trig with
      | some t => reached (before (latStartOf x.cfg t) need) s.time
      | none => true
    if x.seq == g.seq && x.y == g.y && room then
      let st := s.get (WFE.HEAD_STAT.RAIL_STATE h)
      let t := s.when (st != 0) (fun u => match x.sense with | some p => u.skipSense h p.1 | none => u)
      let n := x.dress st (x.sense.map (·.1))
      ((t.onHport h (fun p => { p with xfer := some n })).onNhh h (fun k => { k with past := n.codes :: k.past.drop 1 })).when
        (st == 3) (·.addCause h 5)
    else s
  | _, _ => s

/-! Fire-line boundaries (called by the fire engine) -/

/-- Make words the active values of port h's class-B registers. -/
def State.setPortActive (s : State) (h : Nat) (c : List Word) : State :=
  ((portRegs h).zip c).foldl (fun (t : State) (p : Nat × Word) => { t with
    act := if t.rd p.1 = p.2 then mapErase t.act p.1 else mapInsert t.act p.1 p.2 }) s

/-- The start of a job on port h, a head of its HEAD_MASK: class-B values and pending program become active (R149), and
ROWS is checked (R465). -/
def State.portJobStart (s : State) (h seq : Nat) : State :=
  let a := s.takeSnap h seq
  let p := a.hport h
  let c := match p.snap with | some g => if g.1 == seq then g.2 else a.portShadow h | none => a.portShadow h
  let b := (a.setPortActive h c).onHport h (fun p => { p with
    jobSeq := some seq, snap := none, snapProg := [], snapPend := false, prog := p.snapProg,
    causes := setBitTo p.causes 7 (!rowsOk c) })
  let d := b.when p.snapPend (fun t => (t.put (HPT.PSTATUS.FP_PEND h) (nat01 (!p.pend.isEmpty))).raise (HPT.PSTATUS.FP_VALID h))
  (d.syncDown h).when (!rowsOk c) (fun t => t.report Src.HPT_CFG h (7 * 2 ^ 24 + (t.rd (HPT.PRS h)).toNat % 256 * 2 ^ 16))

/-- The active values of port h take the shadows. -/
def State.portJobOther (s : State) (h : Nat) : State := s.setPortActive h (s.portShadow h)

/-- A job-start boundary of a job that leaves head h out: the values become active, and valid ones end the down state of
R465. -/
def State.portJobPass (s : State) (h : Nat) : State :=
  ((s.portJobOther h).onHport h (fun p => { p with causes := if rowsOk (s.portShadow h) then setBitTo p.causes 7 false else p.causes })).syncDown h

/-- Causes that have ended by this fire-line boundary (R101). -/
def State.causeEnded (s : State) (h c : Nat) : Bool :=
  let p := s.hport h
  if c == 1 || c == 3 || c == 4 then bit p.ended c
  else if c == 2 then s.flag (HPT.PSTATUS.FP_VALID h)
  else if c == 5 then p.clrReq && s.get (WFE.HEAD_STAT.RAIL_STATE h) != 3
  else if c == 6 then s.hptOn && s.flag (HPT.PCTL.EN h) && s.flag (HPT.PSTATUS.READY h)
  else false

/-- Causes that the head of a job gains at the boundary (R84, R90, R91). -/
def State.causeFound (s : State) (h c : Nat) : Bool :=
  let p := s.hport h
  if c == 2 then p.prog.isEmpty
  else if c == 5 then s.get (WFE.HEAD_STAT.RAIL_STATE h) == 3
  else if c == 6 then !s.hptOn || !s.flag (HPT.PCTL.EN h)
    || (!s.flag (HPT.PSTATUS.READY h) && !s.flag (HPT.PSTATUS.NO_HEAD h))
  else false

/-- A down port discards the lines of the head section at or behind the fire line (R100). -/
def State.downDiscard (s : State) (h : Nat) (g : Nat × Nat) : State :=
  let l := (s.queue h).head
  let gone := l.countP (fun q => !tagBefore g q.tag)
  if gone == 0 then s
  else ((s.setQueue h (fun q => { q with head := q.head.filter (fun q => tagBefore g q.tag) })).bump
    (HPT.DOWN_DISCARD_CNT.COUNT h) gone).queueBoundary h

/-- Port h at a fire-line boundary of tag g; inJob: its head is in the job's HEAD_MASK (R100, R101). -/
def State.portBoundary (s : State) (h : Nat) (g : Nat × Nat) (inJob : Bool) : State :=
  let was := (s.hport h).acting
  let s := s.senseLine h
  let left := (downOrder.filter (fun c => bit (s.hport h).causes c && !s.causeEnded h c)).foldl (fun m c => m + 2 ^ c) 0
  let freed := bit (s.hport h).causes 5 && !bit left 5
  let a := s.onHport h (fun p => { p with causes := left, ended := p.ended &&& left, clrReq := p.clrReq && !freed })
  let b := a.when inJob (fun t => (downOrder.filter (t.causeFound h)).foldl (fun u c => u.addCause h c) t)
  let down := (b.hport h).causes != 0
  let c := (b.onHport h (fun p => { p with acting := down, xfer := if down then none else p.xfer })).syncDown h
  let d := c.when down (fun t => (t.downDiscard h g).trySettle h)
  d.when (was && !down) (fun t =>
    ((t.setResync h true).onQueue h (fun q => { q with run := 0 })).onHport h (fun p => { p with window := true }))

/-! Framing program loads (R89) -/

/-- FPROG_h. -/
def State.fprog (s : State) (h : Nat) : Nat := s.rd64 (HPT.FPROG_LO h) (HPT.FPROG_HI h)

/-- Read the header, and the lists when the header passes; the flag says that an address or a read failed. -/
def State.readProg (s : State) (a : Nat) (x : Access) : State × (List Word × Bool) :=
  if a / 2 ^ 60 != 0 || a % 64 != 0 then (s, ([], true))
  else
    let r := s.devWords 9 a 6 x
    if r.2.1 != 0 then (r.1, ([], true))
    else if (fpCheckHeader r.2.2).isSome then (r.1, (r.2.2, false))
    else
      let q := r.1.devWords 9 (a + 24) (fpLen r.2.2 - 6) x
      (q.1, (r.2.2 ++ q.2.2, q.2.1 != 0))

/-- A write of 1 to FP_LOAD (R89); while a check still runs it does nothing (log entry 103). -/
def State.fpLoad (s : State) (h : Nat) (x : Access) : State :=
  if s.flag (HPT.PCTL.FP_LOAD h) then s
  else
    let r := s.readProg (s.fprog h) x
    (r.1.raise (HPT.PCTL.FP_LOAD h)).onHport h (fun p => { p with loading := some r.2 })

/-- FP_LOAD (R89). -/
def execFpLoad (h : Nat) (x : Access) (s : State) : Host.Outcome State Fault Refusal :=
  .next (s.when (s.headOn h) (·.fpLoad h x))

/-- First failure of a program that has been read: code, lane and instruction. -/
def progFailure (p : List Word) (bad : Bool) : Option (Nat × (Nat × Nat)) :=
  if bad then some (0x0A, (0, 0)) else (fpCheckHeader p).or (fpCheckBody p)

/-- FP_CHECK_COMPLETE (R89). -/
def execFpCheckComplete (h : Nat) (s : State) : Host.Outcome State Fault Refusal :=
  match (s.hport h).loading with
  | none => .next s
  | some (w, bad) =>
    let t := (s.onHport h (fun p => { p with loading := none })).drop (HPT.PCTL.FP_LOAD h)
    match progFailure w bad with
    | some (code, (lane, ins)) =>
      let u := (((t.put (HPT.FP_STATUS.CODE h) code).put (HPT.FP_STATUS.LANE h) lane).put (HPT.FP_STATUS.INSTR h) ins).raise
        (HPT.PSTATUS.FP_ERR h)
      .next (u.report Src.HPT_FP h (u.rd (HPT.FP_STATUS h)).toNat)
    | none =>
      .next (((t.onHport h (fun p => { p with pend := w })).raise (HPT.PSTATUS.FP_PEND h)).put (HPT.FP_STATUS.FRAME_BITS h)
        (frameBits w))

/-! Enabling a port (R92, R93, R99) -/

/-- A write that sets PCTL_h.EN: the checks begin, and NO_HEAD and PRESENCE have ended (R101). -/
def State.portEnable (s : State) (h : Nat) : State :=
  if s.flag (HPT.PCTL.EN h) then s
  else ((((s.raise (HPT.PCTL.EN h)).wr (HPT.FRAME_CNT h) 0#32).onHport h (fun p => { p with
    enabling := true, prsDiff := false })).endCause h 1).endCause h 4

/-- PORT_ENABLE (R92). -/
def execPortEnable (h : Nat) (s : State) : Host.Outcome State Fault Refusal := .next (s.when (s.headOn h) (·.portEnable h))

/-- Is the code one of a reversed cable? -/
def revCode (code : Nat) : Bool := 8 ≤ code && code ≤ 14

/-- Head class of a code. -/
def codeClass (code : Nat) : Nat := if code == 15 then 0 else if 8 ≤ code then code - 7 else code

/-- Data lanes that a program uses; no program uses none. -/
def progLanes (p : List Word) : Nat := if p.isEmpty then 0 else fpLanes p

/-- Data lanes in use (R99). At enable: those of the active program, else of the pending one, else all four. While the
port is enabled: those of the active program, and those of a program from its first frame. -/
def Port.dataLanes (p : Port) : Nat :=
  if p.enabling then (if p.nextProg.isEmpty then 4 else if p.prog.isEmpty then progLanes p.nextProg else progLanes p.prog)
  else max (progLanes p.prog) (match p.xfer with | some x => progLanes x.prog | none => 0)

/-- A turned cable is corrected: reversed code and AUTO_ORIENT (R93). -/
def State.turnedOver (s : State) (h : Nat) : Bool := s.flag (HPT.PRS.REV h) && s.flag (HPT.PCTL.AUTO_ORIENT h)

/-- Physical data pin of logical lane k (R93). -/
def State.lanePin (s : State) (h k : Nat) : Nat :=
  let m := s.get (HPT.LANES.LANE_MAP h) / 4 ^ k % 4
  if s.turnedOver h then 3 - m else m

/-- Physical data pins of the used lanes (R93). -/
def State.dataPins (s : State) (h : Nat) : List Nat :=
  (List.range (s.hport h).dataLanes).map (s.lanePin h)

/-- Used lanes in the bit order of LANE_STAT: data pins, CK and LAT. -/
def State.usedLanes (s : State) (h : Nat) : Nat := (s.dataPins h).foldl (fun m k => setBitTo m k true) 0x30

/-- Two used lanes share a pin. -/
def State.lanesClash (s : State) (h : Nat) : Bool := !(s.dataPins h).Nodup

/-- Byte ranges that no skew store may overlap (R92). -/
def State.skewRivals (s : State) (h : Nat) : List (Nat × Nat) :=
  ((List.range s.nHeads).filter (fun g => g != h && s.flag (HPT.PCTL.EN g))).map (fun g =>
    (s.get (HPT.SKEW_BASE.ADDR g) * 32, skewSize (s.portShadow g)))
  ++ [CMP.RAIL_BASE_0, CMP.RAIL_BASE_1].map (fun a => ((s.rd a).toNat / 4096 * 4096, 0x2000))
  ++ [CMP.COMP_BASE_0, CMP.COMP_BASE_1].map (fun a => ((s.rd a).toNat / 4096 * 4096, 0x20000))
  ++ [CMP.HEALTH_BASE_0, CMP.HEALTH_BASE_1].map (fun a => ((s.rd a).toNat / 4096 * 4096, 0x8000))
  ++ [CAL.LIVE_BASE_0, CAL.LIVE_BASE_1].map (fun a => ((s.rd a).toNat / 4096 * 4096, 69 * 48))
  ++ [((s.rd CAL.POINT_BASE).toNat / 4096 * 4096, 26496)]
  ++ [NH.MAP_BASE, NH.BASE_BASE].map (fun a => ((s.rd a).toNat / 4096 * 4096, 0x40000))

/-- The skew store breaks the placement conditions of R82 and R92; an empty store breaks none. -/
def State.skewBad (s : State) (h : Nat) : Bool :=
  let n := skewSize (s.portShadow h)
  let b := s.get (HPT.SKEW_BASE.ADDR h) * 32
  n != 0 && (!inSram b n || (s.skewRivals h).any (fun p => overlaps b n p.1 p.2))

/-- Cause of refusing EN, with the failing lanes (order of R92). -/
def State.enableFault (s : State) (h code : Nat) (stable : Bool) (shorts opens : Nat) : Option Nat :=
  let used := s.usedLanes h
  let want := s.get (HPT.PCTL.CLASS_EXPECT h)
  if !stable then some 2
  else if code == 0 then some 1
  else if want != 0 && want != codeClass code then some 3
  else if (shorts ||| opens) &&& used != 0 then some 4
  else if s.lanesClash h then some 5
  else if s.skewBad h then some 6
  else none

/-- Lanes that failed a load check. -/
def State.laneBits (s : State) (h shorts opens : Nat) : State :=
  let used := s.usedLanes h
  (s.put (HPT.LANE_STAT.SHORT h) (s.get (HPT.LANE_STAT.SHORT h) ||| (shorts &&& used))).put (HPT.LANE_STAT.OPEN h)
    (s.get (HPT.LANE_STAT.OPEN h) ||| (opens &&& used))

/-- The presence reading that the checks accepted; REVERSED shows whether the cable is turned over (R93). -/
def State.acceptPrs (s : State) (h raw : Nat) (stable : Bool) : State :=
  let code := raw / 16 % 16
  let a := s.put (HPT.PRS.RAW h) raw
  a.when stable (fun t => ((((t.raise (HPT.PRS.VALID h)).put (HPT.PRS.REV h) (nat01 (revCode code))).put (HPT.PRS.CLASS h)
    (codeClass code)).put (HPT.PRS.CODE h) code).put (HPT.PSTATUS.REVERSED h) (nat01 (revCode code)))

/-- EN is refused (R92). -/
def State.refusePort (s : State) (h cause shorts opens : Nat) : State :=
  let used := s.usedLanes h
  let a := s.when (cause == 4) (fun t => (t.laneBits h shorts opens).raise (HPT.PSTATUS.LANE_FAULT h))
  let b := (a.drop (HPT.PCTL.EN h)).onHport h (fun p => { p with enabling := false })
  b.report Src.HPT_CFG h (cause % 256 * 2 ^ 24 + (b.rd (HPT.PRS h)).toNat % 256 * 2 ^ 16
    + (if cause == 4 then (opens &&& used) * 2 ^ 8 + (shorts &&& used) else 0))

/-- The checks have ended: READY, NO_HEAD or a refusal (R92). -/
def State.portReady (s : State) (h raw : Nat) (stable : Bool) (shorts opens : Nat) : State :=
  let a := s.acceptPrs h raw stable
  let code := raw / 16 % 16
  if stable && code == 15 then
    ((a.onHport h (fun p => { p with enabling := false })).raise (HPT.PSTATUS.NO_HEAD h)).addCause h 1
  else
    match a.enableFault h code stable shorts opens with
    | some c => a.refusePort h c shorts opens
    | none =>
      let b := (a.raise (HPT.PSTATUS.READY h)).drop (HPT.PSTATUS.NO_HEAD h)
      b.onHport h (fun p => { p with enabling := false, window := true })

/-- PORT_READY (R92): the last reading, whether two readings agreed, and the lanes that the load check found shorted or
open, in the bit order of LANE_STAT. -/
def execPortReady (h raw : Nat) (stable : Bool) (shorts opens : Nat) (s : State) : Host.Outcome State Fault Refusal :=
  .next (s.when (s.headOn h && (s.hport h).enabling) (·.portReady h (min raw 255) stable (shorts % 64) (opens % 64)))

/-- The heater of head h is off: duty and integrator 0 (R193, R196). -/
def State.heatOff (s : State) (h : Nat) : State :=
  ((s.wr (NH.HEAT_DUTY h) 0#32).drop (NH.HSTAT.HEATING h)).onNhh h (fun n => { n with integ := 0, runT := none })

/-- READY falls: no measurement and no heater (R193), no transfer. -/
def State.portOff (s : State) (h : Nat) : State :=
  let a := (((s.drop (HPT.PSTATUS.READY h)).drop (HPT.PSTATUS.NO_HEAD h)).drop (NH.HSTAT.TEMP_VALID h)).heatOff h
  (a.onHport h (fun p => { p with enabling := false, xfer := none, prsDiff := false })).onNhh h (fun n => { n with
    opens := 0, shorts := 0, good := 0 })

/-- Clearing PCTL_h.EN (R91): the port goes down at the next fire-line boundary of a job that holds its head. -/
def State.portDisable (s : State) (h : Nat) : State :=
  if s.flag (HPT.PCTL.EN h) then ((s.drop (HPT.PCTL.EN h)).portOff h).portJobOther h else s

/-- PORT_DISABLE (R91). -/
def execPortDisable (h : Nat) (s : State) : Host.Outcome State Fault Refusal := .next (s.when (s.headOn h) (·.portDisable h))

/-- Clearing HPT.CTL.EN (R35, R91). -/
def State.hptDisable (s : State) : State :=
  if !s.flag HPT.CTL.EN then s
  else
    let a := (s.disableBlock HPT.CTL.EN 3).abortRunning 9
    (State.each { a with hpt := a.hpt.map (fun p => { p with xfer := none }) } (List.range a.nHeads)
      (fun h t => t.portJobOther h)).settleSwaps

/-- HPT_DISABLE (R35). -/
def execHptDisable (s : State) : Host.Outcome State Fault Refusal := .next s.hptDisable

/-! Presence and lanes while enabled -/

/-- PRS_SAMPLE (R94). The two readings need only differ from the accepted code, and while PRESENCE already holds the port
down they are not noted again (log entry 102). -/
def State.prsSample (s : State) (h raw : Nat) : State :=
  let a := s.put (HPT.PRS.RAW h) raw
  let diff := raw / 16 % 16 != a.get (HPT.PRS.CODE h)
  let fire := diff && (s.hport h).prsDiff && (!bit (s.hport h).causes 4 || bit (s.hport h).ended 4)
  let b := a.onHport h (fun p => { p with prsDiff := diff })
  b.when fire (fun t => ((t.raise (HPT.PSTATUS.PRS_CHANGE h)).report Src.HPT_PRESENCE h (t.rd (HPT.PRS h)).toNat).addCause h 4)

def execPrsSample (h raw : Nat) (s : State) : Host.Outcome State Fault Refusal :=
  .next (s.when (s.headOn h && s.flag (HPT.PCTL.EN h) && !(s.hport h).enabling && s.flag (HPT.PRS.VALID h))
    (·.prsSample h (min raw 255)))

/-- The reaction to lanes out of range (R98). -/
def State.laneFault (s : State) (h shorts opens : Nat) : State :=
  let a := (s.laneBits h shorts opens).raise (HPT.PSTATUS.LANE_FAULT h)
  (a.report Src.HPT_LANE h (a.rd (HPT.LANE_STAT h)).toNat).addCause h 3

/-- LANE_FAULT (R98): lane in the bit order of LANE_STAT. -/
def execLaneFault (h lane : Nat) (short : Bool) (s : State) : Host.Outcome State Fault Refusal :=
  .next (s.when (s.headOn h && s.flag (HPT.PSTATUS.READY h) && lane < 6 && bit (s.usedLanes h) lane)
    (fun t => if short then t.laneFault h (2 ^ lane) 0 else t.laneFault h 0 (2 ^ lane)))

/-- A write of 1 to DOWN_CLR (R101): a port with cause LANE runs the load check again, whose findings are given. For cause
WFE the write is kept until the waveform engine no longer signals DOWN (log entry 105). -/
def State.downClr (s : State) (h shorts opens : Nat) : State :=
  let p := s.hport h
  let a := s.onHport h (fun p => { p with clrReq := bit p.causes 5 })
  a.when (bit p.causes 3) (fun t =>
    if (shorts ||| opens) &&& t.usedLanes h == 0 then t.endCause h 3 else t.laneFault h shorts opens)

/-- DOWN_CLR (R101). -/
def execDownClr (h shorts opens : Nat) (s : State) : Host.Outcome State Fault Refusal :=
  .next (s.when (s.headOn h) (·.downClr h (shorts % 64) (opens % 64)))

/-! What the pins of a port show (R76, R78, R93, R100) -/

/-- The port drives its lanes, CK and LAT: they are at high impedance while internal reset is held (R429). -/
def State.portDrives (s : State) (h : Nat) : Bool := s.headOn h && !s.held

/-- A pin of POL_INV (0 to 3 D_0 to D_3, 4 CK, 5 LAT) carries the inverted signal: POL_INV, every bit inverted for a
cable that is turned over. -/
def State.pinInverted (s : State) (h pin : Nat) : Bool := bit (s.get (HPT.LANES.POL_INV h)) pin != s.turnedOver h

/-- The logical lane that pin D_k carries, none when the framing program does not use it: the pair drives low (R76). -/
def State.laneOfPin (s : State) (h k : Nat) : Option Nat :=
  match (s.hport h).xfer with
  | some x => (List.range (progLanes x.prog)).find? (fun l => s.lanePin h l == k)
  | none => none

/-- The bits that the frame in progress has sent on pin D_k, oldest first. -/
def State.pinBits (s : State) (h k : Nat) : List Bool :=
  match s.laneOfPin h k, (s.hport h).xfer with
  | some l, some x => (x.lanes.getD l {}).bits.map (fun b => b != s.pinInverted h k)
  | _, _ => []

/-- Period of CK in ticks: with DDR half the lane rate, an edge at the centre of each bit; with SDR the lane rate. -/
def State.ckTicks (s : State) (h : Nat) : Nat := if s.flag (HPT.CLK.CK_MODE h) then s.bitTicks h else 2 * s.bitTicks h

/-- CK runs for a frame: from its first bit to 8 periods after its last. -/
def State.ckFrame (s : State) (h : Nat) (x : Xfer) : Bool :=
  if x.complete then !reached s.time ((x.doneAt + 8 * s.ckTicks h) % 2 ^ 48) else x.lanes.any (fun l => !l.bits.isEmpty)

/-- CK runs: while the port is enabled, or around frames only with CK_GATE; a port that is down holds it low. -/
def State.ckRuns (s : State) (h : Nat) : Bool :=
  let p := s.hport h
  s.headOn h && s.hptOn && s.flag (HPT.PCTL.EN h) && !p.acting
    && (!s.flag (HPT.CLK.CK_GATE h) || p.xfer.any (s.ckFrame h) || p.latched.any (s.ckFrame h))

/-- A window strobe of head h is high now: start and width in ticks (R117). -/
def State.strobeUp (s : State) (h : Nat) : Bool :=
  (s.wave h).strobes.any (fun p => reached s.time p.1 && !reached s.time ((p.1 + p.2) % 2 ^ 48))

/-- Level of the LAT pair: the line latch and the window strobes, with the port's polarity and inversion (R78, R93,
R117). -/
def State.latPin (s : State) (h : Nat) : Bool :=
  (((s.hport h).latUp || s.strobeUp h) != s.flag (HPT.LAT.LAT_POL h)) != s.pinInverted h 5

/-- HP_h_SCL carries SDA and HP_h_SDA carries SCL. -/
def State.idBusExchanged (s : State) (h : Nat) : Bool := s.turnedOver h

/-- The head ID bus, TH and HTR: the pin with the heater role, true for TH; neither until READY (R93, R193). -/
def State.heaterPin (s : State) (h : Nat) : Option Bool :=
  if s.flag (HPT.PSTATUS.READY h) then some (s.turnedOver h) else none

/-- The pin with the heater role drives; it is at high impedance without a role and after a readback mismatch (R200). -/
def State.heaterDrives (s : State) (h : Nat) : Bool := (s.heaterPin h).isSome && !(s.nhh h).hiZ

/-! The head ID bus (R95, R96) -/

/-- Byte k of the buffer. -/
def State.i2cByte (s : State) (h k : Nat) : Byte := (s.rd (HPT.I2C_DATA h (k / 4))).extractLsb' (8 * (k % 4)) 8

/-- Store bytes into the buffer from byte 0. -/
def State.i2cStore (s : State) (h : Nat) (l : List Byte) : State :=
  s.each ((List.range l.length).zip l) (fun p t => t.put ⟨HPT.I2C_DATA h (p.1 / 4), 8 * (p.1 % 4), 8⟩ p.2.toNat)

/-- A START, ignored while BUSY: SDA held low after the 9 clocks sets STUCK, else the transaction runs. -/
def State.i2cStart (s : State) (h : Nat) (stuck : Bool) : State :=
  if s.flag (HPT.I2C_STATUS.BUSY h) then s.raise HPT.STATUS.WRITE_IGNORED
  else if stuck then s.raise (HPT.I2C_STATUS.STUCK h)
  else
    let n := min 32 (s.get (HPT.I2C_CTL.WLEN h))
    (s.raise (HPT.I2C_STATUS.BUSY h)).onHport h (fun p => { p with
      i2cNow := some (s.get (HPT.I2C_CTL.DEV h), ((List.range n).map (s.i2cByte h), min 32 (s.get (HPT.I2C_CTL.RLEN h)))) })

/-- I2C_TRANSACTION (R95, R96): the word written to I2C_CTL, and whether SDA stays low. -/
def execI2cTransaction (h : Nat) (ctl : Word) (stuck : Bool) (s : State) : Host.Outcome State Fault Refusal :=
  let t := s.wr (HPT.I2C_CTL h) (ctl &&& 0x013F3F7F#32)
  .next (s.when (s.headOn h) (fun _ => t.when (fieldOf ctl 31 1 == 1) (·.i2cStart h stuck)))

/-- The end of a transaction: bytes acknowledged or received, whether a NACK ended it, the bytes read. The bytes of one that
a timeout or a NACK ends are not stored (log entry 104). -/
def State.i2cEnd (s : State) (h : Nat) (tmo nack : Bool) (nbytes : Nat) (read : List Byte) : State :=
  match (s.hport h).i2cNow with
  | none => s
  | some (dev, (out, rlen)) =>
    let ok := !tmo && !nack
    let n := if !ok then nbytes else if rlen != 0 then rlen else out.length
    let a := (s.onHport h (fun p => { p with
      i2cNow := none
      i2cSent := p.i2cSent ++ [(dev, if ok then out else out.take nbytes)] })).drop (HPT.I2C_STATUS.BUSY h)
    let b := ((a.raise (HPT.I2C_STATUS.DONE h)).put (HPT.I2C_STATUS.NBYTES h) n).when nack (·.raise (HPT.I2C_STATUS.NACK h))
    (b.when tmo (·.raise (HPT.I2C_STATUS.TMO h))).when ok (·.i2cStore h (read.take rlen))

/-- I2C_DONE (R95, R96). -/
def execI2cDone (h : Nat) (nack : Bool) (nbytes : Nat) (read : List Nat) (s : State) : Host.Outcome State Fault Refusal :=
  .next (s.i2cEnd h false nack (min 255 nbytes) (read.map (BitVec.ofNat 8)))

/-- I2C_STRETCH_TIMEOUT (R95). -/
def execI2cStretchTimeout (h nbytes : Nat) (s : State) : Host.Outcome State Fault Refusal :=
  .next (s.i2cEnd h true false (min 255 nbytes) [])

end Sys2Proof.Machine
end

