-- ==== Sys2Proof/Machine/RailState.lean ====
section
/-! DEFINITION. The rail state of a head (R126-R132): its changes, what the channels of a head do at faults and how
simultaneous faults are resolved, and the two clears of firmware. -/

namespace Sys2Proof.Machine

/-- The channels of head h: rails A, B and S (R102). -/
def chansOf (h : Nat) : List Nat := [2 * h, 2 * h + 1, 32 + h]

/-- Rail of a channel: 0 A, 1 B, 2 S. -/
def railIndex (c : Nat) : Nat := if c < 32 then c % 2 else 2

def State.chReady (s : State) (c : Nat) : Bool := s.flag (WFE.CH_STATUS.READY c)
def State.chFaulted (s : State) (c : Nat) : Bool := s.flag (WFE.CH_STATUS.FAULTED c)

/-- rest_s + OFFSET, before sat24 (R108, R113). -/
def restSum (rest : Nat) (offset : Int) : Int := signedOf 16 (rest ^^^ 0x8000) * 256 + offset

/-- sat24 of rest_s + OFFSET. -/
def restLevel (rest : Nat) (offset : Int) : Int := clampInt (-0x800000) 0x7FFFFF (restSum rest offset)

/-- The DAC code of rest_s through the path of R113, for a channel's offset in use. -/
def restDac (rest : Nat) (offset : Int) : Nat :=
  (unsignedOf 16 (min 0x7FFF ((restLevel rest offset + 128) / 256)) ^^^ 0x8000) % 2 ^ 16

/-- Channel c takes up its rest level through the path of R113, whose saturation shows and counts once (log entry 82). -/
def State.holdRest (s : State) (c : Nat) (offset : Int) : State :=
  let r := s.get (WFE.REST.CODE c)
  (s.onChan c (fun k => { k with dac := restDac r offset })).when (restLevel r offset != restSum r offset)
    (fun t => (t.raise (WFE.CH_STATUS.SAT c)).bump (WFE.SAT_CNT.COUNT c))

/-- The channel's waveform-slot boundary: its class-B fields become active (R106). -/
def State.chanBoundary (s : State) (c : Nat) : State := s.loadB (WFE.CH_CTL c) (WFE.CH_CTL c + 0x80)

/-- A slot of head h and a line has ended or will not play; the tap word follows the last one that played (R161). -/
def State.tapDone (s : State) (h line : Nat) : State :=
  match s.fire.taps.find? (fun t => t.head == h && t.line == line) with
  | none => s
  | some t =>
    if t.slots ≤ 1 then
      (s.onFire (fun f => { f with taps := f.taps.erase t })).when t.played (·.sendTap t)
    else s.onFire (fun f => { f with taps := f.taps.map (fun u => if u == t then { u with slots := u.slots - 1 } else u) })

/-- A channel's slot is over: its length, its boundary, and the tap word when it was the head's last (R106, R161). -/
def State.overSlot (s : State) (c : Nat) : State :=
  match (s.chan c).slot with
  | none => s
  | some z =>
    let a := ((s.wr (WFE.SLOT_LEN c) (w32 (z.idx % 2 ^ 20))).drop (WFE.CH_STATUS.BUSY c)).onChan c (fun k => { k with
      slot := none, played := z.codes, floated := z.floats })
    let b := a.chanBoundary c
    b.when (!(chansOf (headOf c)).any (fun d => (b.chan d).slot.isSome)) (·.tapDone (headOf c) z.line)

/-- A channel's slot ends and the channel loads the rest level, with the offset that the slot used (R106, R110). -/
def State.closeSlot (s : State) (c : Nat) : State :=
  match (s.chan c).slot with
  | none => s
  | some z => (s.overSlot c).holdRest c z.offset

/-- A slot that ends in a SENSE ends the suspension of its checks 200 ns (320 ticks) later (R120). -/
def State.endQuiet (s : State) (c : Nat) : State :=
  let t := (s.time + 320) % 2 ^ 48
  s.onChan c (fun k => { k with quiet := k.quiet.map (fun q => if reached t q then q else t) })

/-- A disable that waited for the slot: the channel ramps down (R123). -/
def State.afterSlot (s : State) (c : Nat) : State :=
  if (s.chan c).phase == .ending then (s.drop (WFE.CH_STATUS.READY c)).onChan c (fun k => { k with phase := .rampDown }) else s

/-- A channel's slot is ended at once; an S slot's sense is void (R121). -/
def State.abortSlot (s : State) (c : Nat) : State := (((s.voidSlot c).endQuiet c).closeSlot c).afterSlot c

/-! Changes of the rail state -/

/-- The rail state of head h changes to st (R126, R127). -/
def State.setRail (s : State) (h st : Nat) : State :=
  let old := s.get (WFE.HEAD_STAT.RAIL_STATE h)
  if old == st then s
  else ((s.moveRail h st).when (old == 0) (·.abortSlot (32 + h))).restartFrame h

/-- A calibration channel run of head h is aborted by a fault (R130, R240). -/
def State.abortCalOf (s : State) (h : Nat) : State :=
  match s.cal.meas with
  | some r => if r.elem < 48 && headOf r.elem == h then s.calAbortRun 0x20 else s
  | none => s

/-- The head goes DOWN: 1 HEAD_SIDE, 2 SECOND_DRIVE, 3 SPARE_FAULT (R128, R130). -/
def State.headDown (s : State) (h why : Nat) : State :=
  let a := ((s.drop (WFE.HEAD_STAT.CAL_TAKE h)).drop (WFE.HEAD_STAT.FAULT_TAKE h)).put (WFE.HEAD_STAT.DOWN_WHY h) why
  ((((a.setRail h 3).raise (WFE.HEAD_STAT.HEAD_DOWN h)).report Src.HEAD_DOWN h why).addCause h 5).abortCalOf h

/-- The head enters a fault takeover of rail x. -/
def State.faultTake (s : State) (h x : Nat) : State :=
  (((s.drop (WFE.HEAD_STAT.CAL_TAKE h)).raise (WFE.HEAD_STAT.FAULT_TAKE h)).setRail h (x + 1)).abortCalOf h

/-- A fault of a channel as the rail state sees it: the rail, the cause, and whether it fell in S's first takeover
slot. -/
structure RailFault where
  rail : Nat
  cause : Nat
  first : Bool
  deriving DecidableEq, Repr

/-- AMP_EN_n of channel c is low: its amplifier is enabled, or the variant fuse disables the channel, whose outputs the
device drives low (R2, R102). It is high while internal reset is held, and not driven without VDDIO_33 or VDD_GATE
(R429, R430). -/
def State.ampLow (s : State) (c : Nat) : Bool := s.padsOn && !s.held && (!s.chanOn c || (s.chan c).ampOn)

/-- The rail-state table of R130 for the faults of one head in one cycle; each of them was of a READY channel, or
DISABLED. In DOWN a fault of S still aborts a calibration run of S (R240). -/
def State.resolveFaults (s : State) (h : Nat) (l : List RailFault) : State :=
  let st := s.get (WFE.HEAD_STAT.RAIL_STATE h)
  let has := fun r => l.any (·.rail == r)
  let cause := fun r => match l.find? (·.rail == r) with | some f => f.cause | none => 0
  let sOk := s.chReady (32 + h) && !s.chFaulted (32 + h)
  let cal := s.flag (WFE.HEAD_STAT.CAL_TAKE h)
  if l.isEmpty then s
  else if st == 3 then s.when (has 2) (·.abortCalOf h)
  else if has 0 && has 1 then s.headDown h 2
  else if st == 0 then
    if has 0 || has 1 then
      let x := if has 0 then 0 else 1
      if has 2 || !sOk then s.headDown h 3
      else
        let t := (s.faultTake h x).bump (WFE.TAKEOVER_CNT.COUNT h)
        t.report Src.WFE_TAKEOVER h (cause x * 2 ^ 8 + (2 * h + x))
    else if (s.wave h).serving.isSome then s.headDown h 3
    else
      let t := s.raise (WFE.HEAD_STAT.SENSE_LOST h)
      (t.when (cause 2 != 5) (·.report Src.WFE_SENSE_LOST h (cause 2))).abortCalOf h
  else
    let x := st - 1
    let y := 1 - x
    if cal then
      if has 2 then s.headDown h 3
      else if has y then s.faultTake h y
      else s.faultTake h x
    else if has y then s.headDown h 2
    else if has 2 then
      s.headDown h (if l.any (fun f => f.rail == 2 && f.first && (f.cause == 1 || f.cause == 2)) then 1 else 3)
    else s

/-! Channel faults (R124) -/

/-- The source of a cause: 1 SHORT, 2 OPEN, 3 AMP_FLT, 4 TRACK; 5 DISABLED has none. -/
def causeSource (cause : Nat) : Option Nat :=
  match cause with
  | 1 => some Src.WFE_SHORT
  | 2 => some Src.WFE_OPEN
  | 3 => some Src.WFE_AMP_FLT
  | 4 => some Src.WFE_TRACK
  | _ => none

/-- What a fault does to its channel, and its report. -/
def State.chanFault (s : State) (c cause : Nat) : State :=
  let a := ((((s.voidSlot c).endQuiet c).overSlot c).onChan c (fun k => { k with
    phase := .off, ampOn := false, dac := 0, fails := 0 })).drop (WFE.CH_STATUS.READY c)
  let b := ((a.raise (WFE.CH_STATUS.FAULTED c)).put (WFE.CH_STATUS.FAULT_CAUSE c) cause).bump (WFE.FAULT_CNT.COUNT c)
  match causeSource cause with
  | some q => b.report q c (b.rd (WFE.FB_LAST c)).toNat
  | none => b

/-- Was S of channel c in its first takeover slot? -/
def State.inFirst (s : State) (c : Nat) : Bool :=
  c ≥ 32 && (match (s.chan c).slot with | some z => z.first | none => false)

/-- Faults of channels in one cycle: each channel's own reaction and report, then the rail state of each head (R124,
R130). A channel in its enable sequence changes no rail state. -/
def State.faultChans (s : State) (l : List (Nat × Nat)) : State :=
  let facts := l.map (fun f => (f.1, (f.2, (s.chReady f.1 || f.2 == 5, s.inFirst f.1))))
  let t := s.each l (fun f u => u.chanFault f.1 f.2)
  t.each (List.range 16) (fun h u => u.resolveFaults h
    ((facts.filter (fun f => headOf f.1 == h && f.2.2.1)).map (fun f => ⟨railIndex f.1, f.2.1, f.2.2.2⟩)))

/-! Firmware clears -/

/-- A write of TAKEOVER_CLR (R131). -/
def State.takeoverClr (s : State) (h : Nat) : State :=
  let st := s.get (WFE.HEAD_STAT.RAIL_STATE h)
  if s.flag (WFE.HEAD_STAT.FAULT_TAKE h) && (st == 1 || st == 2) && s.chReady (2 * h + (st - 1)) then
    (s.drop (WFE.HEAD_STAT.FAULT_TAKE h)).setRail h 0
  else s.raise WFE.STATUS.WRITE_IGNORED

/-- TAKEOVER_CLR (R131). -/
def execTakeoverClr (h : Nat) (s : State) : Host.Outcome State Fault Refusal := .next (s.when (s.headOn h) (·.takeoverClr h))

/-- A write of DOWN_CLR in HEAD_CTL (R132). -/
def State.headDownClr (s : State) (h : Nat) : State :=
  if s.get (WFE.HEAD_STAT.RAIL_STATE h) == 3 && (chansOf h).all s.chReady then
    ((s.drop (WFE.HEAD_STAT.DOWN_WHY h)).drop (WFE.HEAD_STAT.SENSE_LOST h)).setRail h 0
  else s.raise WFE.STATUS.WRITE_IGNORED

/-- HEAD_DOWN_CLR (R132). -/
def execHeadDownClr (h : Nat) (s : State) : Host.Outcome State Fault Refusal := .next (s.when (s.headOn h) (·.headDownClr h))

end Sys2Proof.Machine
end

