-- ==== Sys2Proof/Machine/Waveform.lean ====
section
/-! DEFINITION. The waveform engine (05_waveform_engine.md): slot starts, the sequencer's instructions, the path from
sample to DAC code, pre-distortion, window strobes, sensing, channel enables and channel faults. -/

namespace Sys2Proof.Machine

/-! Samples (R108, R113) -/

/-- sat24. -/
def sat24 (x : Int) : Int := clampInt (-0x800000) 0x7FFFFF x

/-- The rest sample of a rest code (R108). -/
def restSample (code : Nat) : Int := signedOf 16 (code ^^^ 0x8000) * 256

/-- c of R113 for sample i. -/
def corrAt (corr : List Int) (i : Nat) : Int :=
  let k := i / 8
  if 511 ≤ k then 0
  else corr.getD k 0 + Int.tdiv ((corr.getD (k + 1) 0 - corr.getD k 0) * (i % 8 : Nat)) 8

/-- One sample: the DAC code, the p of R113, and whether a step saturated. -/
def sampleOut (z : Slot) (corr : List Int) (i : Nat) (acc : Int) : Nat × (Int × Bool) :=
  let a := z.rest + roundDiv ((acc - z.rest) * z.gain) 32768
  let p := sat24 (sat24 a + z.offset)
  let q := p + 16 * corrAt corr i
  let d := min 0x7FFF ((sat24 q + 128) / 256)
  ((unsignedOf 16 d ^^^ 0x8000) % 2 ^ 16,
    (p, a != sat24 a || sat24 a + z.offset != p || q != sat24 q))

/-- Play n samples, adding slope to acc before each; answers the slot and the saturated samples. -/
def playSamples (corr : List Int) (slope : Int) : Nat → Slot × Nat → Slot × Nat
  | 0, a => a
  | n + 1, (z, k) =>
    let acc := sat24 (z.acc + slope)
    let o := sampleOut z corr z.idx acc
    let sat := z.acc + slope != acc || o.2.2
    playSamples corr slope n
      ({ z with
          acc := acc, idx := z.idx + 1, zeros := 0, codes := z.codes ++ [o.1]
          ideal := if z.idx % 8 == 0 then z.ideal ++ [o.2.1] else z.ideal }, k + nat01 sat)

/-- The slot limit of channel c in samples: SLOT_LIMIT, or MIN_PERIOD for a slot that a stop cuts (R106, R133). -/
def State.slotCap (s : State) (c : Nat) (z : Slot) : Nat :=
  let l := oneIfZero (s.getA (WFE.SLOT_LIMIT.LIMIT c))
  if z.cut then min l ((s.get FIRE.CFG.MIN_PERIOD + 7) / 8) else l

/-- Play up to n samples on channel c, not past the slot's limit; the flag says that all n were played. -/
def State.playOn (s : State) (c : Nat) (z : Slot) (slope : Int) (n : Nat) : State × (Slot × Bool) :=
  let m := min n (s.slotCap c z - z.idx)
  let r := playSamples (s.chan c).corr slope m (z, 0)
  let t := s.when (r.2 != 0) (fun u => (u.raise (WFE.CH_STATUS.SAT c)).bump (WFE.SAT_CNT.COUNT c) r.2)
  (t, (r.1, m == n))

/-- Keep a slot. -/
def State.setSlot (s : State) (c : Nat) (z : Slot) : State :=
  s.onChan c (fun k => { k with slot := some z, dac := match z.codes.getLast? with | some d => d | none => k.dac })

/-! Instructions (R107, R109) -/

/-- Instruction i of WMEM; beyond its end nothing is stored and it reads as opcode 0. -/
def State.wmem (s : State) (i : Nat) : Word × Word :=
  if i < 16384 then (s.rd (WFE.WMEM (2 * i)), s.rd (WFE.WMEM (2 * i + 1))) else (0#32, 0#32)

/-- Is the instruction reserved (R112)? -/
def reservedIns (i : Word × Word) : Bool :=
  let o := insOpc i
  o == 0 || (6 ≤ o && o ≤ 14) || (o == 5 && 6 ≤ fieldOf i.1 24 4)

/-- Does the instruction end the slot (R112)? -/
def endsSlot (i : Word × Word) : Bool := insOpc i == 15 || reservedIns i

/-- Run the next instruction of channel c when it has the opcode. -/
def State.runWave (s : State) (c opc : Nat) (f : State → Slot → Word × Word → State) : State :=
  match (s.chan c).slot with
  | none => s
  | some z =>
    let i := s.wmem z.pc
    if insOpc i == opc && !endsSlot i then f s z i else s

/-- A zero-time instruction: the fifth in a row waits one sample (R109). The flag says that the limit has not
intervened. -/
def State.zeroTime (s : State) (c : Nat) (z : Slot) : State × (Slot × Bool) :=
  if 4 ≤ z.zeros then
    let r := s.playOn c z 0 1
    (r.1, ({ r.2.1 with zeros := if r.2.2 then 1 else z.zeros }, r.2.2))
  else (s, ({ z with zeros := z.zeros + 1 }, true))

/-! The open check (R125) -/

/-- Coefficients of the rail that a channel plays: the channel whose program it is. -/
def playsFor (c : Nat) (z : Slot) : Nat := if c < 32 then c else if z.rail == 2 then c else 2 * (c - 32) + z.rail

/-- Is a ramp of n samples qualified for the open check? -/
def State.qualifies (s : State) (c : Nat) (z : Slot) (dv : Nat) : Bool :=
  let l := s.rd (WFE.LOAD_C (playsFor c z))
  s.get (WFE.OPEN_CFG.OPEN_MIN_DV c) ≤ dv && s.flag (WFE.CH_CTL.OPEN_EN c) && l != 0#32 && (c < 32 || z.rail != 2)

/-- A current sample of a slot in mA × 8,192 / ISENSE_FS (R236), with the coefficients taken at the slot start (R114). -/
def Slot.current (z : Slot) (x : Nat) : Int := Int.tdiv (((x : Int) - (z.izero : Int)) * z.igain) 32768

/-- Q_meas < Q_exp × OPEN_FRAC / 256, both sides multiplied out: samples lie 40 ns apart, and one DAC LSB is 48 V / 65,536
on the rail. -/
def State.rampFails (s : State) (c : Nat) (z : Slot) (dv : Nat) (ifb : List Nat) : Bool :=
  let p := playsFor c z
  let q := ((ifb.map z.current).foldl (· + ·) 0).natAbs * 40 * s.get CAL.AMP_ISENSE.ISENSE_FS
  let load := s.get (WFE.LOAD_C.C_FIX p) * 100 + s.get (WFE.LOAD_C.C_NOZ p) * z.load
  decide (q * 65536 * 256 * 10 < load * dv * 48 * s.get (WFE.OPEN_CFG.OPEN_FRAC c) * 8192)

/-- A SENSE suspends the short, open and tracking checks of the channel at a time (R120). -/
def State.checksOffAt (s : State) (c t : Nat) : Bool := (s.chan c).quiet.any (fun q => !reached t q)

/-- Time of sample i of a slot at the pin, T_WF after its start (R104). -/
def Slot.timeOf (z : Slot) (i : Nat) : Nat := (z.start + 64 + 8 * i) % 2 ^ 48

/-- Voltage and current count, from the counts of the channel's two converters: ADC_SWAP exchanges their roles (R236). -/
def State.byRole (s : State) (c : Nat) (x : Nat × Nat) : Nat × Nat := if (s.chan c).swapped then (x.2, x.1) else x

/-- Record the last feedback samples, given by converter. -/
def State.noteFeedback (s : State) (c x0 x1 : Nat) : State :=
  (s.put (WFE.FB_LAST.VFB c) (s.byRole c (x0, x1)).1).put (WFE.FB_LAST.IFB c) (s.byRole c (x0, x1)).2

/-- Record the last of the feedback samples of a slot. -/
def State.noteLast (s : State) (c : Nat) (fb : List (Nat × Nat)) : State :=
  match fb.getLast? with | some x => s.noteFeedback c x.1 x.2 | none => s

/-- The open check judges the ramp of n samples that begins where slot z stands: it qualifies, and no SENSE suspends the
check. -/
def State.judges (s : State) (c : Nat) (z : Slot) (dv : Nat) : Bool :=
  s.qualifies c z dv && !s.checksOffAt c (z.timeOf z.idx)

/-- A judged ramp fails: its charge follows from the current samples. -/
def State.failedRamp (s : State) (c : Nat) (z : Slot) (dv : Nat) (fb : List (Nat × Nat)) : Bool :=
  s.judges c z dv && s.rampFails c z dv (fb.map (fun x => (s.byRole c x).2))

/-- The end of a ramp: its last samples show in FB_LAST; a judged ramp counts as a failure, or resets the count. dV is cut
to whole DAC LSB (log entry 107). -/
def State.openNote (s : State) (c : Nat) (z : Slot) (dv : Nat) (fb : List (Nat × Nat)) : State :=
  (s.noteLast c fb).onChan c (fun k => { k with
    fails := if s.failedRamp c z dv fb then k.fails + 1 else if s.judges c z dv then 0 else k.fails })

/-- OPEN_N failures in a row are a fault. -/
def State.openFault (s : State) (c : Nat) (z : Slot) (dv : Nat) (fb : List (Nat × Nat)) : List (Nat × Nat) :=
  if s.failedRamp c z dv fb && oneIfZero (s.get (WFE.OPEN_CFG.OPEN_N c)) ≤ (s.chan c).fails + 1 then [(c, 2)] else []

/-- The RAMP at the front of channel c's program plays, with the feedback samples taken during it (R108, R125); answers the
OPEN fault that its end finds. -/
def State.playRamp (s : State) (c : Nat) (fb : List (Nat × Nat)) : State × List (Nat × Nat) :=
  match (s.chan c).slot with
  | none => (s, [])
  | some z =>
    let i := s.wmem z.pc
    if insOpc i != 1 then (s, [])
    else
      let n := fieldOf i.1 0 12 + 1
      let slope := signedOf 24 (fieldOf i.2 0 24)
      let dv := n * slope.natAbs / 256
      let r := s.playOn c z slope n
      if r.2.2 then
        let t := r.1.setSlot c { r.2.1 with pc := z.pc + 1 }
        (t.openNote c z dv fb, t.openFault c z dv fb)
      else (r.1.setSlot c r.2.1, [])

/-- The channels whose ramps end in one cycle. -/
def State.playRamps (s : State) (l : List (Nat × List (Nat × Nat))) : State × List (Nat × Nat) :=
  l.foldl (fun a p => let b := a.1.playRamp p.1 p.2; (b.1, a.2 ++ b.2)) (s, [])

/-- HOLD (R108). -/
def execHold (c : Nat) (s : State) : Host.Outcome State Fault Refusal :=
  .next (s.runWave c 2 (fun s z i =>
    let a := if fieldOf i.1 27 1 == 1 then { z with acc := signedOf 24 (fieldOf i.2 0 24) } else z
    let r := s.playOn c a 0 (fieldOf i.1 0 16 + 1)
    r.1.setSlot c (if r.2.2 then { r.2.1 with pc := z.pc + 1 } else r.2.1)))

/-! Window strobes (R117, R118) -/

/-- Does the strobe from a of w ticks come too near a latch from l to e: 20 ns are 32 ticks? -/
def strobeHits (a w l e : Nat) : Bool := tickDist a e < 32 && tickDist l ((a + w) % 2 ^ 48) < 32

/-- Line latches that a strobe of head h must keep clear of: the last one, and the one placed next. -/
def State.latchesOf (s : State) (h : Nat) : List (Nat × Nat) :=
  (s.hport h).latAt.toList ++
  (match s.latchTrig h with
   | some t => let c := s.xferCfg h t.seq
               let l := latStartOf c t.at_
               [(l, (l + latW c) % 2 ^ 48)]
   | none => [])

/-- Request a strobe of head h for a WIN at sample idx of the slot. -/
def State.strobe (s : State) (h window : Nat) (z : Slot) : State :=
  if !s.flag (WFE.HEAD_CTL.STB_EN h) || s.get (WFE.HEAD_STAT.RAIL_STATE h) == 3 then s
  else
    let w := 8 * oneIfZero (s.get (WFE.HEAD_CTL.WSTB_W h))
    let a := unsignedOf 48 ((z.start + 64 + 8 * z.idx : Nat) + signedOf 8 (s.get (WFE.HEAD_CTL.STB_ADJ h)))
    if latW (s.portActive h) ≤ w || (s.latchesOf h).any (fun l => strobeHits a w l.1 l.2) then
      ((s.bump (WFE.STB_COLLIDE_CNT.COUNT h)).raise (WFE.HEAD_STAT.STB_COLLIDE h)).report Src.WFE_STB h window
    else s.onWave h (fun k => { k with strobes := k.strobes ++ [(a, w)] })

/-- Does channel c play the master program of its head (R117)? -/
def State.isMaster (s : State) (c : Nat) (z : Slot) : Bool :=
  if s.get (WFE.HEAD_STAT.RAIL_STATE (headOf c)) == 1 then 32 ≤ c && z.rail == 0 else c < 32 && c % 2 == 0

/-- WIN (R108, R117, R118). -/
def execWin (c : Nat) (s : State) : Host.Outcome State Fault Refusal :=
  .next (s.runWave c 3 (fun s z i =>
    let r := s.zeroTime c z
    let y := r.2.1
    if r.2.2 then
      let t := (r.1.put (WFE.CH_STATUS.WIN c) (fieldOf i.1 0 3)).setSlot c { y with pc := z.pc + 1 }
      t.when (fieldOf i.1 8 1 == 1 && t.isMaster c y) (·.strobe (headOf c) (fieldOf i.1 0 3) y)
    else r.1.setSlot c y))

/-! Sensing (R120) -/

/-- Hand samples of the outstanding sense of a position to nozzle sensing. -/
def State.handSamples (s : State) (h : Nat) (z : Slot) (pos ds : Nat) (vfb : List Nat) : State :=
  match (s.nhh h).out.find? (·.pos == pos) with
  | some o => s.onNhh h (fun n => { n with
      out := n.out.erase o
      results := n.results ++ [⟨pos, ds, z.line, z.start, vfb, o.scan, o.atRest, o.cfg⟩] })
  | none => s

/-- The slot lets the rail float in a SENSE: S plays its own program for a named nozzle (R120). -/
def floatsIn (c : Nat) (z : Slot) : Bool := 32 ≤ c && z.rail == 2 && z.sense.isSome

/-- The samples of a SENSE have been played: without feedback for the tables, with AMP_EN_n high for a named nozzle. -/
def Slot.sensed (z : Slot) (c upto : Nat) : Slot :=
  { z with mute := z.mute ++ [(z.idx, upto)], floats := if floatsIn c z then z.floats ++ [(z.idx, upto)] else z.floats }

/-- After a SENSE with the rail floating the checks are suspended for 200 ns (320 ticks) more (R120); a slot's sample 0
leaves the pin T_WF after its start. -/
def State.suspendChecks (s : State) (c : Nat) (z : Slot) (upto : Nat) : State :=
  s.when (floatsIn c z) (·.onChan c (fun k => { k with quiet := some ((z.start + 64 + 8 * upto + 320) % 2 ^ 48) }))

/-- SENSE (R108, R120): the feedback samples taken come with the command, by converter. -/
def execSense (c : Nat) (vfb : List (Nat × Nat)) (s : State) : Host.Outcome State Fault Refusal :=
  .next (s.runWave c 4 (fun s z i =>
    let n := fieldOf i.1 0 12 + 1
    let r := (s.suspendChecks c z (min (z.idx + 8 * n) (s.slotCap c z))).playOn c z 0 (8 * n)
    let y := { r.2.1 with mute := (z.sensed c r.2.1.idx).mute, floats := (z.sensed c r.2.1.idx).floats }
    if r.2.2 then
      let t := (r.1.setSlot c { y with pc := z.pc + 1 }).noteLast c vfb
      match z.sense with
      | some p => t.when (32 ≤ c && z.rail == 2 && !z.void)
          (fun u => u.handSamples (c - 32) z p.1 p.2 (((vfb.take n).drop (fieldOf i.1 16 4)).map (fun x => (s.byRole c x).1)))
      | none => t
    else r.1.setSlot c y))

/-- A JUMP's condition (table of JUMP conditions). -/
def jumpHolds (c : Nat) (z : Slot) (cond arg : Nat) : Bool :=
  match cond with
  | 0 => true
  | 1 => match z.sense with | some p => p.2 < arg % 4 | none => false
  | 2 => z.sense.isNone || c < 32 || z.rail != 2
  | 3 => 32 ≤ c && z.rail != 2
  | 4 => if c < 32 then c % 2 == 1 else z.rail == 1
  | 5 => (bitsOf 8 z.rows).head? == some (arg % 8)
  | _ => false

/-- JUMP (R108). -/
def execJump (c : Nat) (s : State) : Host.Outcome State Fault Refusal :=
  .next (s.runWave c 5 (fun s z i =>
    let r := s.zeroTime c z
    r.1.setSlot c (if r.2.2 then
      { r.2.1 with pc := if jumpHolds c z (fieldOf i.1 24 4) (fieldOf i.1 16 8) then fieldOf i.2 0 14 else z.pc + 1 }
      else r.2.1)))

/-! Pre-distortion (R115, R236) -/

/-- A feedback count in sample units (R236); DIV = 0 has no result in the spec. -/
def State.feedback (s : State) (z : Slot) (x : Nat) : Int :=
  let xv := Int.tdiv (((x : Int) - z.vzero) * z.vgain) 32768
  let div := s.get CAL.AMP_DIV.DIV
  if div == 0 then Config.feedbackNoDiv xv else Int.tdiv (xv * 2 ^ 34) (48 * div) - 2 ^ 23

/-- The entries that the inactive table holds. -/
def Chan.inactive (k : Chan) : List Int := k.next.getD k.spare

/-- Entry k of the updated table, and whether it reached the limit: a sample in a SENSE interval leaves the inactive table's
own entry. vfb lists the voltage samples. -/
def State.pdEntry (s : State) (c : Nat) (z : Slot) (vfb : List Nat) (k : Nat) : Int × Bool :=
  let old := (s.chan c).corr.getD k 0
  let muted := z.mute.any (fun m => m.1 ≤ 8 * k && 8 * k < m.2)
  if muted then ((s.chan c).inactive.getD k 0, false)
  else match z.ideal[k]?, vfb[k + s.get (WFE.LOOP_DLY_EFF.DLY c)]? with
  | some p, some x =>
    let v := old + roundDiv (p - s.feedback z x) ((2 ^ (s.getA (WFE.PD_CFG.MU_SH c) + 4) : Nat))
    let lim : Int := (min 32767 (s.getA (WFE.PD_CFG.CORR_LIM c)) : Nat)
    (clampInt (-lim) lim v, v < -lim || lim < v)
  | _, _ => (old, false)

/-- The update of the inactive table after a slot. -/
def State.pdUpdate (s : State) (c : Nat) (z : Slot) (vfb : List Nat) : State :=
  let use := s.flag (WFE.CH_CTL.PD_EN c)
    && s.get (WFE.SLOT_CNT.COUNT c) % 2 ^ s.getA (WFE.PD_CFG.PD_EVERY c) == 0
  if !use then s
  else
    let l := (List.range 512).map (s.pdEntry c z vfb)
    (s.when (l.any (·.2)) (·.raise (WFE.CH_STATUS.PD_SAT c))).onChan c (fun k => { k with next := some (l.map (·.1)) })

/-! Ends of slots -/

/-- END (R110, R112, R115): the feedback samples of the slot come with the command, by converter, sample 0 first. -/
def execEndSlot (c : Nat) (vfb : List (Nat × Nat)) (s : State) : Host.Outcome State Fault Refusal :=
  match (s.chan c).slot with
  | none => .next s
  | some z0 =>
    let i := s.wmem z0.pc
    if !endsSlot i then .next s
    else
      let r := s.zeroTime c z0
      let z := r.2.1
      if !r.2.2 then .next (r.1.setSlot c z)
      else
        let a := r.1.setSlot c z
        let b := a.when (256 < (z.acc - z.rest).natAbs) (·.raise (WFE.CH_STATUS.REST_MISMATCH c))
        let d := b.when (reservedIns i) (fun t =>
          ((t.raise (WFE.CH_STATUS.PROG_ERR c)).raise WFE.STATUS.PROG_ERR).report Src.WFE_PROG c (z.pc % 2 ^ 14))
        .next (((((d.noteLast c vfb).pdUpdate c z (vfb.map (fun x => (s.byRole c x).1))).closeSlot c)).afterSlot c)

/-- SLOT_LIMIT (R106, R133): the slot has run its time without reaching END. -/
def execSlotLimit (c : Nat) (s : State) : Host.Outcome State Fault Refusal :=
  match (s.chan c).slot with
  | none => .next s
  | some z =>
    if s.slotCap c z ≤ z.idx && (!endsSlot (s.wmem z.pc) || 4 ≤ z.zeros) then
      let byLimit := oneIfZero (s.getA (WFE.SLOT_LIMIT.LIMIT c)) ≤ z.idx
      let a := (s.raise (WFE.CH_STATUS.SLOT_LIMIT c)).abortSlot c
      .next (a.when byLimit (·.report Src.WFE_SLOT_LIMIT c (z.pc % 2 ^ 14)))
    else .next s

/-! Slot starts (R104, R105, called by the fire engine) -/

/-- Rail that channel c plays for at a slot start, or nothing (R119, R126, R127): a drive channel whose rail is settled in a
calibration takeover belongs to the run. -/
def State.slotRail (s : State) (c : Nat) : Option Nat :=
  let h := headOf c
  let st := s.get (WFE.HEAD_STAT.RAIL_STATE h)
  if !s.chReady c || (s.chan c).cal then none
  else if c < 32 then
    (if st == c % 2 + 1 && s.flag (WFE.HEAD_STAT.CAL_TAKE h) && s.flag (WFE.HEAD_STAT.SETTLED h) then none else some (c % 2))
  else if st == 1 || st == 2 then some (st - 1)
  else match (s.wave h).serving with
    | some r => some r
    | none => some 2

/-- Why a slot start of head h is refused: the channel concerned and the cause (R105, R461); of several conditions the one
that log entry 108 names. -/
def State.slotRefusal (s : State) (h : Nat) : Option (Nat × Nat) :=
  let st := s.get (WFE.HEAD_STAT.RAIL_STATE h)
  match (chansOf h).find? (fun c => (s.chan c).slot.isSome) with
  | some c => some (c, 1)
  | none =>
    match [2 * h, 2 * h + 1].find? (fun c => !s.chReady c && st != c % 2 + 1) with
    | some c => some (c, 2)
    | none => none

/-- The updated table becomes active; with PD_EN = 0 the active table stays as it is (R116). -/
def State.takeNext (s : State) (c : Nat) : State :=
  match (s.chan c).next with
  | some l =>
    s.when (s.flag (WFE.CH_CTL.PD_EN c)) (fun t =>
      (t.onChan c (fun k => { k with corr := l, next := none, spare := k.corr })).bump (WFE.PD_UPD_CNT.COUNT c))
  | none => s

/-- A PD_RESET written since the last slot start zeroes both tables (R116). -/
def State.clearTables (s : State) (c : Nat) : State :=
  s.when (s.chan c).pdClear (·.onChan c (fun k => { k with corr := [], next := none, spare := [], pdClear := false }))

/-- Which correction tables a slot start takes: a copied table, a cleared one for a new program, or the updated one (R111,
R116, R126). A copied table stays when the copied rail's PROG_PTR changes (log entry 83). -/
def State.pickTables (s : State) (c rail : Nat) : State :=
  let k := s.chan c
  if 32 ≤ c && rail != 2 then
    if k.copy == some rail then s.takeNext c
    else
      let l := (s.chan (2 * (c - 32) + rail)).corr
      s.onChan c (fun k => { k with copy := some rail, corr := l, next := none, spare := l })
  else
    let ptr := s.getA (WFE.PROG_PTR.INDEX c)
    if k.ptr == some ptr then (s.takeNext c).onChan c (fun k => { k with copy := none })
    else s.onChan c (fun k => { k with ptr := some ptr, copy := none, corr := [], next := none, spare := [] })

/-- Correction tables at a slot start; a PD_RESET of before it also wipes a table that the start copies (log entry 106). -/
def State.slotTables (s : State) (c rail : Nat) : State := (s.pickTables c rail).clearTables c

/-- Nozzles that the latched transfer places on a rail with a nonzero drop size (R125). -/
def railLoad (x : Xfer) (rail : Nat) : Nat :=
  x.codes.countP (fun c => (c.extractLsb' 0 2 != 0#2) && c.extractLsb' 2 2 == BitVec.ofNat 2 rail)

/-- The slot of channel c begins. -/
def State.startChan (s : State) (c : Nat) (t : Trig) (x : Xfer) : State :=
  match s.slotRail c with
  | none => s
  | some rail =>
    let h := headOf c
    let own := if c < 32 then c else if rail == 2 then c else 2 * h + rail
    let sense := match x.sense with
      | some p => if bit t.rows (rowOfPos x.cfg p.1) then some p else none
      | none => none
    let first := 32 ≤ c && rail != 2 && (s.wave h).takeLine == some t.line
    let a := s.slotTables c rail
    let b := (((a.put (WFE.GAIN_EFF.GAIN c) (a.calGain own)).put (WFE.OFFSET_EFF.OFFSET c) (unsignedOf 24 (a.calOffset own))).put
      (WFE.LOOP_DLY_EFF.DLY c) (a.calLoopDly c)).bump (WFE.SLOT_CNT.COUNT c)
    let rest := restSample (b.get (WFE.REST.CODE c))
    let z : Slot := {
      start := t.at_, line := t.line, seq := t.seq, y := t.y, rows := t.rows, rail := rail, first := first, sense := sense
      pc := b.getA (WFE.PROG_PTR.INDEX own), acc := rest, rest := rest, gain := b.calGain own, offset := b.calOffset own
      vgain := b.calVfbGain c, vzero := b.calVfbZero c, igain := b.calIfbGain c, izero := b.calIfbZero c, load := railLoad x (if c < 32 then c % 2 else 2) }
    let d := ((b.onChan c (fun k => { k with swapped := b.calSwap c })).raise (WFE.CH_STATUS.BUSY c)).setSlot c z
    let e := d.when first (fun u => u.onWave h (fun w => { w with takeLine := none }))
    e.when (32 ≤ c && rail != 2) (·.voidSlot c)

/-- The delay path of head h applies the live DL_SEL and DLY_FRAC (R230). -/
def State.applyDelay (s : State) (h : Nat) : State :=
  s.onWave h (fun w => { w with dlSel := s.liveField (48 + h) 1 0 2 0, dlyFrac := s.liveField (48 + h) 2 0 16 0x8000 })

/-- The slots of a trigger begin on the three channels of the head (R104); SENSE_LOST ends once S is READY again
(R132). -/
def State.startSlots (s : State) (t : Trig) (x : Xfer) : State :=
  let a := (s.when (s.chReady (32 + t.head)) (·.drop (WFE.HEAD_STAT.SENSE_LOST t.head))).applyDelay t.head
  (chansOf t.head).foldl (fun u c => u.startChan c t x) a

/-! Enabling and disabling a channel (R122, R123) -/

/-- The high-voltage supply of head h is up (R421). -/
def State.hvGood (s : State) (h : Nat) : Bool := s.flag (PMU.HV_STAT.PGOOD (h / 4))

/-- The steps of R122 begin; AMP_FLT_n low, or no supply, fails step 1. -/
def State.startChannel (s : State) (c : Nat) (flt : Bool) : State :=
  let a := ((s.drop (WFE.CH_STATUS.FAULTED c)).drop (WFE.CH_STATUS.FAULT_CAUSE c)).onChan c (fun k => { k with
    dac := 0, ampOn := false, fails := 0, phase := .enabling })
  if flt || !s.hvGood (headOf c) then a.chanFault c 3
  else a.onChan c (fun k => { k with ampOn := true })

/-- A write that sets CH_CTL_c.EN (R122). -/
def State.channelEnable (s : State) (c : Nat) (flt : Bool) : State :=
  if s.flag (WFE.CH_CTL.EN c) then s
  else if !s.blockOn WFE.CTL.EN 4 then s.raise WFE.STATUS.WRITE_IGNORED
  else ((s.raise (WFE.CH_CTL.EN c)).wr (WFE.SLOT_CNT c) 0#32).startChannel c flt

/-- CHANNEL_ENABLE (R122): flt says that AMP_FLT_n is low. -/
def execChannelEnable (c : Nat) (flt : Bool) (s : State) : Host.Outcome State Fault Refusal :=
  .next (s.when (s.chanOn c) (·.channelEnable c flt))

/-- TRACK_N consecutive errors beyond TRACK_LIM (R124). -/
def trackExcess (lim n : Nat) (es : List Int) : Bool :=
  (List.range es.length).any (fun i => i + n ≤ es.length && ((es.drop i).take n).all (fun e => decide (lim * 256 < e.natAbs)))

/-- The tracking check of channel c on a list of errors e of R115. -/
def State.trackBad (s : State) (c : Nat) (es : List Int) : Bool :=
  trackExcess (s.get (WFE.TRACK_CFG.TRACK_LIM c)) (oneIfZero (s.get (WFE.TRACK_CFG.TRACK_N c))) es

/-- A tracking excess that is no channel fault (R124). -/
def State.trackNote (s : State) (c : Nat) : State :=
  (s.raise (WFE.CH_STATUS.TRACK c)).report Src.WFE_TRACK c (s.rd (WFE.FB_LAST c)).toNat

/-- CHANNEL_READY (R122): the errors of the last 8 feedback samples of the ramp come with the command. -/
def execChannelReady (c : Nat) (es : List Int) (s : State) : Host.Outcome State Fault Refusal :=
  if (s.chan c).phase == .enabling then
    let bad := s.trackBad c (es.drop (es.length - 8))
    if bad && s.flag (WFE.CH_CTL.TRACK_ACT c) then
      .next ((s.raise (WFE.CH_STATUS.TRACK c)).faultChans [(c, 4)])
    else
      .next ((((s.when bad (·.trackNote c)).raise (WFE.CH_STATUS.READY c)).onChan c (fun k => { k with phase := .on })).holdRest c
        (signedOf 24 (s.get (WFE.OFFSET_EFF.OFFSET c))))
  else .next s

/-- Head h lies in the HEAD_MASK of the running or the armed job (R123). -/
def State.headBusy (s : State) (h : Nat) : Bool :=
  s.jobs.any (fun j => (j.st == .running || j.st == .ending || j.st == .armed) && bit j.headMask h)

/-- A write that clears CH_CTL_c.EN (R123). -/
def State.channelDisable (s : State) (c : Nat) : State :=
  if !s.flag (WFE.CH_CTL.EN c) then s
  else
    let a := s.drop (WFE.CH_CTL.EN c)
    if !s.chReady c then a.onChan c (fun k => { k with phase := .off, dac := 0, ampOn := false })
    else if s.headBusy (headOf c) then a.faultChans [(c, 5)]
    else if (a.chan c).slot.isSome then a.onChan c (fun k => { k with phase := .ending })
    else (a.drop (WFE.CH_STATUS.READY c)).onChan c (fun k => { k with phase := .rampDown })

/-- CHANNEL_DISABLE (R123). -/
def execChannelDisable (c : Nat) (s : State) : Host.Outcome State Fault Refusal := .next (s.when (s.chanOn c) (·.channelDisable c))

/-- RAMP_DOWN_COMPLETE (R123): the DAC is at 0x0000 and AMP_EN_n goes high. -/
def execRampDownComplete (c : Nat) (s : State) : Host.Outcome State Fault Refusal :=
  .next (s.when ((s.chan c).phase == .rampDown) (·.onChan c (fun k => { k with phase := .off, dac := 0, ampOn := false })))

/-- Clearing WFE.CTL.EN (R123, R35): every channel that is not off takes the ramp down (log entry 28). -/
def State.wfeDisable (s : State) : State :=
  if !s.flag WFE.CTL.EN then s
  else
    let a := (s.disableBlock WFE.CTL.EN 4).abortRunning 10
    let b := a.each (List.range 48) (fun c t =>
      let u := ((t.drop (WFE.CH_CTL.EN c)).drop (WFE.CH_STATUS.READY c)).abortSlot c
      u.onChan c (fun k => if (t.chan c).phase == .off then { k with dac := 0, ampOn := false } else { k with phase := .rampDown }))
    { b with act := b.act.filter (fun e => !(0x40180000 ≤ e.1 && e.1 < 0x401C0000)) }.settleSwaps

/-- WFE_DISABLE (R123, R35). -/
def execWfeDisable (s : State) : Host.Outcome State Fault Refusal := .next s.wfeDisable

/-- A write of FAULT_CLR (R131, R132): the steps of R122 run from the first, whatever CH_CTL_c.EN holds (log entry 87);
without the block's enable only the fault clears. -/
def State.faultClr (s : State) (c : Nat) (flt : Bool) : State :=
  if !s.chFaulted c then s
  else if s.blockOn WFE.CTL.EN 4 then s.startChannel c flt
  else (s.drop (WFE.CH_STATUS.FAULTED c)).drop (WFE.CH_STATUS.FAULT_CAUSE c)

/-- FAULT_CLR (R131): flt says that AMP_FLT_n is low. -/
def execFaultClr (c : Nat) (flt : Bool) (s : State) : Host.Outcome State Fault Refusal :=
  .next (s.when (s.chanOn c) (·.faultClr c flt))

/-- A write of PD_RESET: both tables are 0 before the next slot plays (R116). -/
def State.pdReset (s : State) (c : Nat) : State :=
  s.onChan c (fun k => if k.slot.isSome then { k with pdClear := true } else { k with pdClear := true, corr := [], next := none, spare := [] })

/-- PD_RESET (R116). -/
def execPdReset (c : Nat) (s : State) : Host.Outcome State Fault Refusal := .next (s.when (s.chanOn c) (·.pdReset c))

/-! Channel faults found in one cycle (R124, R130) -/

/-- The channel watches for faults. -/
def State.watched (s : State) (c : Nat) : Bool := s.chanOn c && (s.chReady c || (s.chan c).phase == .enabling)

/-- A SENSE suspends the short, open and tracking checks of the channel now (R120). -/
def State.checksOff (s : State) (c : Nat) : Bool := s.checksOffAt c s.time

/-- The channels of which a cycle shows a third current sample beyond I_SHORT. -/
def State.shortsOf (s : State) (l : CycleFaults) : List (Nat × Nat) :=
  (l.shorts.filter (fun f => s.watched f.1 && !s.checksOff f.1
    && decide (s.get (WFE.I_SHORT.LIMIT f.1) < ((((s.byRole f.1 f.2).2 : Nat) : Int) - 8192).natAbs))).map (fun f => (f.1, 1))

/-- The channels whose fault input has been low for 100 ns. -/
def State.ampsOf (s : State) (l : CycleFaults) : List (Nat × Nat) := (l.amps.filter (fun f => s.watched f.1)).map (fun f => (f.1, 3))

/-- The channels beyond TRACK_LIM for TRACK_N samples. -/
def State.tracksOf (s : State) (l : CycleFaults) : List Nat :=
  (l.tracks.filter (fun f => s.watched f.1 && !(s.chan f.1).cal && !s.checksOff f.1 && s.trackBad f.1 f.2.2)).map (·.1)

/-- The samples of the cycle, in FB_LAST of the channels that watch. -/
def State.noteSamples (s : State) (l : List (Nat × (Nat × Nat))) : State :=
  s.each (l.filter (fun f => s.watched f.1)) (fun f u => u.noteFeedback f.1 f.2.1 f.2.2)

/-- The writes of the cycle that clear CH_CTL.EN: those that are DISABLED faults. -/
def State.offsOf (s : State) (l : CycleFaults) : List (Nat × Nat) :=
  (l.offs.filter (fun c => s.chanOn c && s.flag (WFE.CH_CTL.EN c) && s.chReady c && s.headBusy (headOf c))).map (fun c => (c, 5))

/-- One fault of each channel, its first in the list. -/
def firstFaults : List (Nat × Nat) → List (Nat × Nat)
  | [] => []
  | f :: t => f :: (firstFaults t).filter (fun g => g.1 != f.1)

/-- What the channels find in one cycle, resolved together (R124, R130): the ramps that end in it, shorts, fault inputs,
tracking excesses and writes that clear EN. A channel with several causes takes the first in the order of R124's table
(log entry 84). With TRACK_ACT = 0 a tracking excess is only noted. -/
def State.cycleFaults (s : State) (l : CycleFaults) : State :=
  let r := s.playRamps l.ramps
  let a := (((r.1.noteSamples l.shorts).noteSamples l.amps).noteSamples (l.tracks.map (fun f => (f.1, f.2.1))))
  let bad := s.tracksOf l
  let b := a.each (bad.filter (fun c => !a.flag (WFE.CH_CTL.TRACK_ACT c))) (fun c t => t.trackNote c)
  let act := bad.filter (fun c => a.flag (WFE.CH_CTL.TRACK_ACT c))
  let d := b.each act (fun c t => t.raise (WFE.CH_STATUS.TRACK c))
  let off := s.offsOf l
  let e := d.each off (fun f t => t.drop (WFE.CH_CTL.EN f.1))
  let f := e.faultChans (firstFaults (s.shortsOf l ++ s.ampsOf l ++ r.2 ++ act.map (fun c => (c, 4)) ++ off))
  f.each (l.offs.filter f.chanOn) (fun c t => t.channelDisable c)

/-- RAMP (R108, R125): the ramp of channel c plays, with what else the cycle of its end shows. -/
def execRamp (c : Nat) (l : CycleFaults) (s : State) : Host.Outcome State Fault Refusal :=
  .next (s.cycleFaults { l with ramps := if l.ramps.any (·.1 == c) then l.ramps else (c, []) :: l.ramps })

/-- SHORT (R124): channels with the counts of their two converters, the third in a row, and what else the cycle shows. -/
def execShortFault (l : CycleFaults) (s : State) : Host.Outcome State Fault Refusal :=
  .next (s.when (!l.shorts.isEmpty) (·.cycleFaults l))

/-- AMP_FLT (R124): the fault inputs that have been low for 100 ns, and what else the cycle shows. -/
def execAmpFlt (l : CycleFaults) (s : State) : Host.Outcome State Fault Refusal :=
  .next (s.when (!l.amps.isEmpty) (·.cycleFaults l))

/-- TRACK (R124): channels with their samples and the errors of the last TRACK_N feedback samples outside SENSE, and what
else the cycle shows. -/
def execTrackFault (l : CycleFaults) (s : State) : Host.Outcome State Fault Refusal :=
  .next (s.when (!l.tracks.isEmpty) (·.cycleFaults l))

end Sys2Proof.Machine
end

