-- ==== Sys2Proof/Machine/Fire.lean ====
section
/-! DEFINITION. The fire engine (06_fire_timing.md): samples and prediction, arming, fire-line boundaries, row triggers
and the completion of jobs. Stops and enables are in Arch.lean, line latches in HeadPort.lean. -/

namespace Sys2Proof.Machine

/-! Prediction (R136-R138, R155-R157) -/

/-- Direction of the mark and of the prediction: that of the running job while it has something left to place, else of
the job whose compare is loaded, else of the job armed last (R137, R155). -/
def State.fireDir (s : State) : Nat :=
  let busy := fun (j : Job) => (s.fire.loaded && s.fire.cmpJob == j.seq) || s.fire.trigs.any (·.seq == j.seq)
  match s.running with
  | some j => if busy j then j.dir else match s.armed with | some k => k.dir | none => j.dir
  | none => match s.armed with | some k => k.dir | none => s.fire.lastDir.getD 0

/-- The latest sample is no older than STALE_TMO (R137): a microsecond is 1,600 ticks. -/
def State.sampleFresh (s : State) : Bool :=
  match s.fire.sample with
  | some k => tickDist s.time k.t ≤ (1600 * oneIfZero (s.get FIRE.PRED_CFG.STALE_TMO) : Nat)
  | none => false

/-- The conditions of R137. -/
def State.predOk (s : State) : Bool :=
  match s.fire.sample with
  | none => false
  | some k =>
    let dir := s.fireDir
    s.sampleFresh && (if dir == 1 then k.v < 0 else 0 < k.v)
      && (match s.fire.hwm with | some m => !posBehind k.p m dir | none => true)

/-- A trigger that R146 has committed: by its line latch, or COMMIT before its instant. -/
def State.committedNow (s : State) (t : Trig) : Bool :=
  t.committed || (t.group != 0 && reached s.time (before t.at_ s.commitLead))

/-- Fix the instants that are committed by now. -/
def State.holdCommitted (s : State) : State :=
  s.onFire (fun f => { f with trigs := f.trigs.map (fun t => { t with committed := s.committedNow t }) })

/-- The instant of a trigger from a sample (R144): fraction, added time and DLY. A line found behind keeps its t_ref, and
only the fraction follows the sample (R154). -/
def Trig.place (t : Trig) (k : Sample) : Nat :=
  match t.ref with
  | none => unsignedOf 48 ((k.timeOf t.pos : Int) + t.shift + t.dly)
  | some r => unsignedOf 48 ((r.1 : Int) + tickDist (k.timeOf t.pos) (k.timeOf r.2) + t.dly)

/-- Recompute every uncommitted instant (R138). -/
def State.replace (s : State) (k : Sample) : State :=
  s.onFire (fun f => { f with trigs := f.trigs.map (fun t => if t.committed then t else { t with at_ := t.place k }) })

/-- The prediction is lost; with an uncommitted trigger pending this is counted, and reported once (R137). -/
def State.losePred (s : State) : State :=
  let t := (s.holdCommitted).drop FIRE.STATUS.PRED_VALID
  match t.fire.trigs.find? (fun u => !u.committed) with
  | some u =>
    let v := (t.bump FIRE.PRED_LOST_CNT.COUNT).raise FIRE.STATUS.PRED_LOST
    if v.fire.predLost then v
    else (v.onFire (fun f => { f with predLost := true })).report Src.FIRE_PRED_LOST 0 (tagDetail (v.jobId u.seq) u.y)
  | none => t

/-- Bring PRED_VALID up to date; a prediction that is valid again makes the check of R154 due. -/
def State.syncPred (s : State) : State :=
  let was := s.flag FIRE.STATUS.PRED_VALID
  let now := s.fireOn && s.predOk
  if was && !now then s.losePred
  else if !was && now then (s.raise FIRE.STATUS.PRED_VALID).onFire (fun f => { f with predLost := false, check := f.loaded })
  else s

/-- Set the mark (R155). -/
def State.setMark (s : State) (p : Option Nat) : State :=
  let t := s.onFire (fun f => { f with hwm := p })
  match p with
  | some q => t.wr FIRE.HWM (w32 (q / 2 ^ 24))
  | none => t

/-- A sample against the mark: it moves the mark, or may be reverse motion (R155, R157). -/
def State.markSample (s : State) (k : Sample) : State :=
  match s.fire.hwm with
  | none => s.when (s.armed.isSome || s.running.isSome) (·.setMark (some k.p))
  | some m =>
    let dir := s.fireDir
    if posBehind k.p m dir then
      let back := posDist m k.p dir / 2 ^ 24
      if s.get FIRE.REV_CFG.REV_LIMIT * 2 ^ 24 ≤ posDist m k.p dir && !s.fire.revReported then
        (((s.onFire (fun f => { f with revReported := true })).bump FIRE.REVERSE_CNT.COUNT).raise FIRE.STATUS.REVERSE).report
          Src.POS_REVERSE (min 4 (s.get FIRE.CFG.AXIS)) back
      else s
    else (s.setMark (some k.p)).onFire (fun f => { f with revReported := false })

/-- The axis correction of a sample (R230, R243). -/
def State.correctSample (s : State) (k : Sample) : Sample :=
  let axis := s.get FIRE.CFG.AXIS
  let q := k.p / 2 ^ 24 % 4
  if bit (s.get CAL.ENC_OK.AXIS) axis then
    { k with p := unsignedOf 48 ((k.p : Int) + signedOf 16 (s.liveField (64 + axis) (1 + q / 2) (16 * (q % 2)) 16 0) * 256) }
  else k

/-! Fire-line boundaries (R141-R152, R154) -/

/-- Row groups of head h with the values active: fraction and rows of each, in ascending order of the fraction (R145). -/
def State.rowGroups (s : State) (h : Nat) : List (Nat × Nat) :=
  let fr := (List.range (min 8 (nRows (s.portActive h)))).map (fun r => (r, s.getA (FIRE.ROW_FRAC.FRAC h r)))
  let keys := fr.foldl (fun l p => insertAsc l p.2) []
  keys.map (fun k => (k, (fr.filter (·.2 == k)).foldl (fun m p => m + 2 ^ p.1) 0))

/-- Heads of a job. -/
def Job.heads (j : Job) : List Nat := bitsOf 16 j.headMask

/-- TAIL of a job with the values active (R152). -/
def State.tailLines (s : State) (j : Job) : Nat := (j.heads.map (fun h => maxDly (s.portActive h))).foldl max 0

/-- The armed job prints the tail out (R152): its C(0) is C(LINES) of the running job, whose line y lies at c, and the row
settings agree. -/
def State.tailOmitted (s : State) (j : Job) (y c : Nat) : Bool :=
  match s.armed with
  | some k => y < j.lines && s.firstCompare k == (c + (j.lines - y) * j.step) % 2 ^ 48
      && j.heads.all (fun h => sameRows (s.portActive h) (s.portNext h k.seq))
  | none => false

/-- Is line y, at compare c, the last fire line of the job? -/
def State.lastLine (s : State) (j : Job) (y c : Nat) : Bool :=
  if y + 1 < j.lines then false
  else if y + 1 == j.lines then s.tailLines j == 0 || s.tailOmitted j y c
  else j.lines + s.tailLines j ≤ y + 1

/-- A job starts: the job before it is past its last line (R151, R337, R32). -/
def State.startJob (s : State) (j : Job) : State :=
  let a : State := { s with jobs := s.jobs.map (fun k =>
    if k.seq == j.seq then { k with st := .running, tStart := s.time }
    else if k.st == .running then { k with st := .ending } else k) }
  let b := (a.syncFire).put FIRE.JOB_ID.ID j.id
  let c := (b.wr FIRE.PITCH_FRAC (w32 (j.pitch % 2 ^ 24))).wr FIRE.PITCH_INT (w32 (j.pitch / 2 ^ 24 % 2 ^ 24))
  c.onFire (fun f => { f with tRefPrev := none, overRun := false, contig := (s.follows j.seq).map (fun q => (j.seq, q)) })

/-- The HPT block's boundary at a job start (R149, R465). -/
def State.startPorts (s : State) (j : Job) : State :=
  s.each (List.range s.nHeads) (fun h t => if bit j.headMask h then t.portJobStart h j.seq else t.portJobPass h)

/-- Boundary of a line at head h: SETTLED sets at the second one it takes part in (R127), whose slot is then S's first
takeover slot (R128). -/
def State.partBoundary (s : State) (h : Nat) : State :=
  if (s.hport h).acting then s
  else
    let a := s.onWave h (fun w => { w with seen := min 2 (w.seen + 1) })
    let line := a.get FIRE.LINE_CNT.COUNT
    let b := a.when (2 ≤ (a.wave h).seen && !a.flag (WFE.HEAD_STAT.SETTLED h)) (fun t =>
      (t.raise (WFE.HEAD_STAT.SETTLED h)).onWave h (fun w => { w with serving := none, takeNext := false, takeLine := some line }))
    b.when (b.wave h).takeNext (·.onWave h (fun w => { w with takeNext := false, takeLine := some line }))

/-- The ports and rail states at a fire-line boundary. -/
def State.lineHeads (s : State) (j : Job) (g : Nat × Nat) : State :=
  let t := s.each (List.range s.nHeads) (fun h u => u.portBoundary h g (bit j.headMask h))
  t.each (j.heads.filter s.headOn) (fun h u => u.partBoundary h)

/-- Triggers of a line at compare c on head h (R144-R147): the added time of a clamped line, or the t_ref of a line found
behind. -/
def State.placeHead (s : State) (j : Job) (y c : Nat) (shift : Int) (ref : Option Nat) (k : Sample) (h : Nat) : State :=
  let groups := s.rowGroups h
  let a := s.put (FIRE.HSTAT.GROUPS h) (max 1 groups.length)
  if s.stopped || !bit j.headMask h || (s.hport h).acting || s.get (WFE.HEAD_STAT.RAIL_STATE h) == 3 || groups.isEmpty then
    a.raise (FIRE.HSTAT.NO_TRIG h)
  else
    let line := s.get FIRE.LINE_CNT.COUNT
    let ts := ((List.range groups.length).zip groups).map (fun p =>
      let t : Trig := { head := h, group := p.1, rows := p.2.2, line := line, seq := j.seq, y := y,
                        pos := (c + j.offset p.2.1) % 2 ^ 48, shift := shift, ref := ref.map (fun r => (r, c)), dly := s.getA (FIRE.HEAD_CFG.DLY h) }
      { t with at_ := t.place k })
    a.onFire (fun f => { f with
      trigs := f.trigs ++ ts
      taps := f.taps ++ [{ head := h, line := line, seq := j.seq, slots := groups.length }] })

/-- t_ref of a line, the time added to the triggers of a clamped one, and whether it is clamped (R142, R143, R154). -/
def State.lineRef (s : State) (late : Bool) (c : Nat) (k : Sample) : Nat × (Int × Bool) :=
  let own := k.timeOf c
  if late then ((s.time + s.lookahead) % 2 ^ 48, (0, false))
  else match s.fire.tRefPrev with
    | some p =>
      let lo := (p + s.get FIRE.CFG.MIN_PERIOD) % 2 ^ 48
      if tickDist own lo < 0 then (lo, (tickDist lo own, true)) else (own, (0, false))
    | none => (own, (0, false))

/-- Least n from 1 up with compare c + n lines ahead of position p (R154): d is the way from c on to p. A compare that lies
ahead of p already keeps n = 1 while its next one is ahead too. -/
def skipTo (pitch dir p c : Nat) : Nat :=
  let d := posDist p c dir
  if 2 ^ 47 ≤ d && pitch + (2 ^ 48 - d) < 2 ^ 47 then 1 else d / pitch + 1

/-- Fire lines of the job beyond line y at c, its tail included unless R152 omits it. -/
def State.linesLeft (s : State) (j : Job) (y c : Nat) : Nat :=
  j.lines + (if s.tailOmitted j y c then 0 else s.tailLines j) - (y + 1)

/-- The compare moves on after line y at c: past skipped lines (R154), or beyond the last fire line to the armed job
(R151). -/
def State.nextCompare (s : State) (j : Job) (y c n : Nat) : State :=
  let a := (s.bump FIRE.MISSED.COUNT (n - 1)).onJob j.seq (fun q => { q with missed := q.missed + (n - 1) })
  if s.lastLine j y c || s.linesLeft j y c < n then
    (((a.setCompare 0).onFire (fun f => { f with loaded := false, check := false })).onJob j.seq
      (fun q => { q with last := true })).loadArmed
  else (a.setCompare ((c + n * j.step) % 2 ^ 48)).onFire (fun f => { f with cmpY := y + n, check := false })

/-- What follows in a cycle, dropped once a stop has taken effect in it (row 1 of R162). -/
def State.unlessStopped (s : State) (f : State → State) : State := if s.stopped then s else f s

/-- The overspeed of a clamped line: counted, and the first of a run reported (R143). -/
def State.noteOverspeed (s : State) (j : Job) (y : Nat) (clamped : Bool) : State :=
  s.when clamped (fun t =>
    let u := t.bump FIRE.OVERSPEED_CNT.COUNT
    if u.fire.overRun then u
    else (u.raise FIRE.STATUS.OVERSPEED).report Src.FIRE_OVERSPEED 0 (tagDetail j.id y))

/-- The line compare and t_ref of a boundary are those of the last fire line. -/
def State.noteLine (s : State) (j : Job) (y c tRef : Nat) (clamped : Bool) : State :=
  s.onFire (fun w => { w with
    tRefPrev := some tRef, overRun := clamped, prev := some (c, j.step), prevSeq := j.seq, prevY := y })

/-- A compare found behind (R154 step 2). -/
def State.noteLate (s : State) (j : Job) (y : Nat) (late : Bool) : State :=
  s.when late (fun t => ((t.raise FIRE.STATUS.LATE).bump FIRE.LATE_CNT.COUNT).report Src.FIRE_LATE 0 (tagDetail j.id y))

/-- What a boundary places once the state of the line is up to date: t_ref and the triggers of every head. -/
def State.placeTrigs (s : State) (j : Job) (y c : Nat) (k : Sample) (late : Bool) : State :=
  let r := s.lineRef late c k
  let g := (s.wrTime FIRE.TREF_LO FIRE.TREF_HI r.1).onJob j.seq (fun q => { q with
    fired := q.fired + nat01 (y < j.lines), late := q.late || late })
  let o := g.noteOverspeed j y r.2.2
  let p := (List.range o.nHeads).foldl (fun t h => t.placeHead j y c r.2.1 (if late then some r.1 else none) k h) o
  let v := p.unlessStopped (fun t => (t.noteLine j y c r.1 r.2.2).noteLate j y late)
  v.unlessStopped (fun t => t.nextCompare j y c
    (if late then skipTo j.pitch j.dir (k.posAt ((r.1 + s.get FIRE.CFG.MIN_PERIOD) % 2 ^ 48)) c else 1))

/-- The fire-line boundary of the loaded line, found late or in its place (R142, R154; order of R162). -/
def State.fireLine (s : State) (late : Bool) : State :=
  match s.job? s.fire.cmpJob, s.fire.sample with
  | some j, some k =>
    let c := s.compare
    let y := s.fire.cmpY
    let first := j.st == .armed
    let a := s.when first (·.startJob j)
    let b := (a.bump FIRE.LINE_CNT.COUNT).wr FIRE.JOB_LINE (w32 y)
    let d := b.when first (fun t => (t.postEvent 0x0002 [w32 j.id, t.rd FIRE.LINE_CNT]).startPorts j)
    let e := ((d.loadB 0x401C0000 0x401E0000).loadB 0x40200000 0x40300000).swapCalAt (j.seq, y)
    let f := e.lineHeads j (j.seq, y)
    (f.placeTrigs j y c k late).unreachRun
  | _, _ => s

/-- The engine can take a boundary now. -/
def State.fireReady (s : State) : Bool :=
  s.fireOn && s.fire.loaded && s.flag FIRE.STATUS.PRED_VALID && s.predOk && !s.stopped

/-- The check of R154, when it is due and the prediction is valid. -/
def State.lateCheck (s : State) : State :=
  match s.fire.sample, s.job? s.fire.cmpJob with
  | some k, some j =>
    if s.fire.check && s.fireReady then
      if posBehind s.compare (k.posAt s.time) j.dir then s.fireLine true else s.onFire (fun f => { f with check := false })
    else s
  | _, _ => s

/-- FIRE_LINE_BOUNDARY (R142, R154). -/
def execFireLineBoundary (s : State) : Host.Outcome State Fault Refusal :=
  match s.fire.sample, s.job? s.fire.cmpJob with
  | some k, some j =>
    if !s.fireReady then .next s
    else
      let late := s.fire.check && posBehind s.compare (k.posAt s.time) j.dir
      let due := !posAhead s.compare (k.posAt ((s.time + s.lookahead) % 2 ^ 48)) j.dir
      if late then .next (s.fireLine true)
      else if due then .next ((s.onFire (fun f => { f with check := false })).fireLine false)
      else .next (s.onFire (fun f => { f with check := false }))
  | _, _ => .next s

/-- VALID_SAMPLE (R136-R138, R155-R157): the engine takes the oldest sample of its source. While the prediction is invalid no
instant comes nearer its commit: an uncommitted one waits and is computed anew. -/
def execValidSample (s : State) : Host.Outcome State Fault Refusal :=
  match s.fire.inbox with
  | [] => .next s
  | k :: rest =>
    let c := s.correctSample k
    let a := ((s.when (s.flag FIRE.STATUS.PRED_VALID) (·.holdCommitted)).onFire (fun f => { f with inbox := rest, sample := some c })).wr FIRE.SPEED (w32 (unsignedOf 32 c.v))
    let b := (a.markSample c).syncPred
    .next ((b.when (b.flag FIRE.STATUS.PRED_VALID) (·.replace c)).lateCheck)

/-- PREDICTION_STALE (R137). -/
def execPredictionStale (s : State) : Host.Outcome State Fault Refusal :=
  .next (s.when (s.flag FIRE.STATUS.PRED_VALID && !s.sampleFresh) (·.losePred))

/-! Arming (R150, R151, R155) -/

/-- The arm check (table of arm check codes). -/
def State.armFault (s : State) (j : Job) : Option Nat :=
  if j.pitch == 0 || 2 ^ 47 ≤ j.pitch then some 1
  else if j.lines == 0 then some 2
  else if j.heads.any (fun h => let c := s.portNext h j.seq; s.lookahead < latW c + latLead c) then some 3
  else if j.startMode == 1 && s.fire.prev.isNone then some 4
  else none

/-- Arm a job. -/
def State.armJob (s : State) (j : Job) : State :=
  let idle := s.running.isNone
  let a := (s.onJob j.seq (fun k => { k with st := .armed })).syncFire
  let b := a.when (idle || a.fire.lastDir != some j.dir) (·.setMark (a.fire.sample.map (·.p)))
  let c := (b.onFire (fun f => { f with lastDir := some j.dir, revReported := f.revReported && !idle })).loadArmed
  let d := match c.cal.meas with
    | some r => c.when (32 ≤ r.elem && r.elem < 48 && bit j.headMask (r.elem - 32)) (·.calAbortRun 0x22)
    | none => c
  (d.syncPred).lateCheck

/-- A job that fails the arm check. -/
def State.refuseArm (s : State) (j : Job) (code : Nat) : State :=
  let w := w32 (code * 2 ^ 24 + j.id % 2 ^ 16)
  (((((s.wr FIRE.ARM_ERR w).raise FIRE.STATUS.CFG_ERR).complete j.seq 3 3 code).syncFire).syncCmp).report Src.FIRE_CFG 0 w.toNat

/-- JOB_ARM (R150). -/
def execJobArm (s : State) : Host.Outcome State Fault Refusal :=
  match s.jobs.find? (·.st == .queued) with
  | some j =>
    if j.checked && s.flag SYS.MGMT_CTL.ARM_EN && !s.stopped && s.armed.isNone && s.fireOn then
      match s.armFault j with
      | some code => .next (s.refuseArm j code)
      | none => .next (s.armJob j)
    else .next s
  | none => .next s

/-! Row triggers (R144-R148) -/

/-- The slot of a trigger is refused (R105, R148). -/
def State.refuseSlot (s : State) (t : Trig) (c cause : Nat) : State :=
  let h := t.head
  let a := ((s.bump (WFE.REFUSED_CNT.COUNT h)).raise (WFE.HEAD_STAT.REFUSED h)).report Src.WFE_REFUSED h (c * 2 ^ 8 + cause)
  let b := a.bump (FIRE.ROW_MISS_CNT.COUNT h) (popcount 8 t.rows)
  let d := b.when (!bit b.fire.refusedRun h) (fun u =>
    ((u.onFire (fun f => { f with refusedRun := setBitTo f.refusedRun h true })).raise (FIRE.HSTAT.ROW_REFUSED h)).report
      Src.FIRE_ROW_REFUSED h (tagDetail (u.jobId t.seq) t.y))
  d.tapDone h t.line

/-- Drops of the rows of a mask. -/
def Xfer.dropsOf (x : Xfer) (rows : Nat) : Nat × (Nat × Nat) :=
  ((bitsOf 8 rows).map (fun r => x.drops.getD r (0, (0, 0)))).foldl
    (fun a b => (a.1 + b.1, (a.2.1 + b.2.1, a.2.2 + b.2.2))) (0, (0, 0))

/-- The slot of a trigger plays: its drops join the tap word (R161). -/
def State.playTrig (s : State) (t : Trig) (x : Xfer) : State :=
  let d := x.dropsOf t.rows
  let a := s.onFire (fun f => { f with
    refusedRun := setBitTo f.refusedRun t.head false
    taps := f.taps.map (fun u => if u.head == t.head && u.line == t.line then
      { u with played := true, n1 := u.n1 + d.1, n2 := u.n2 + d.2.1, n3 := u.n3 + d.2.2 } else u) })
  let b := a.startSlots t x
  b.when (!(chansOf t.head).any (fun c => (b.chan c).slot.isSome)) (·.tapDone t.head t.line)

/-- A trigger is issued. -/
def State.issueTrig (s : State) (t : Trig) : State :=
  let h := t.head
  let a := s.onFire (fun f => { f with trigs := f.trigs.erase t })
  match (s.hport h).latched with
  | some x =>
    if s.get (WFE.HEAD_STAT.RAIL_STATE h) == 3 || (s.hport h).acting || !(x.seq == t.seq && x.y == t.y) then
      (a.raise (FIRE.HSTAT.NO_TRIG h)).tapDone h t.line
    else
      let b := (a.when (t.group == 0) (·.bump (FIRE.TRIG_CNT.COUNT h))).wrTime (FIRE.LAST_TRIG_LO h) (FIRE.LAST_TRIG_HI h) t.at_
      match b.slotRefusal h with
      | some (c, cause) => b.refuseSlot t c cause
      | none => b.playTrig t x
  | none => (a.raise (FIRE.HSTAT.NO_TRIG h)).tapDone h t.line

/-- ROW_TRIGGER (R144): the next trigger of head h, once its instant has come and it is committed. -/
def execRowTrigger (h : Nat) (s : State) : Host.Outcome State Fault Refusal :=
  match s.fire.trigs.find? (·.head == h) with
  | some t => .next (s.when (reached s.time t.at_ && s.committedNow t
      && (t.committed || s.flag FIRE.STATUS.PRED_VALID) && !s.stopped) (·.issueTrig t))
  | none => .next s

/-! Completion (R153) -/

/-- Everything of the job has been placed, played and tapped. -/
def State.jobDone (s : State) (j : Job) : Bool :=
  j.last && !s.fire.trigs.any (·.seq == j.seq) && !s.fire.taps.any (·.seq == j.seq)
    && !s.wfe.any (fun k => match k.slot with | some z => z.seq == j.seq | none => false)

/-- JOB_COMPLETE (R153). -/
def execJobComplete (s : State) : Host.Outcome State Fault Refusal :=
  match s.jobs.find? s.jobDone with
  | some j => .next ((((s.complete j.seq 0 0 0).syncFire).syncCmp).unreachRun)
  | none => .next s

end Sys2Proof.Machine
end

