-- ==== Sys2Proof/Machine/Position.lean ====
section
/-! DEFINITION. Position and speed feedback (07_position.md): decoding, index, speed, serial frames, wire loss and the
snapshot. The hand-off to the fabric is in Fabric.lean. -/

namespace Sys2Proof.Machine

/-! Settings -/

def State.axMode (s : State) (n : Nat) : Nat := s.get (POS.AX_CTL.MODE n)

/-- The axis decodes: the block and the axis are enabled (R192). -/
def State.axOn (s : State) (n : Nat) : Bool := n < 4 && s.blockOn POS.CTL.EN 6 && s.flag (POS.AX_CTL.EN n)

/-- The index is in use: QUAD mode with LATCH or RESET (R172). -/
def State.idxOn (s : State) (n : Nat) : Bool :=
  s.axMode n == 0 && (s.get (POS.AX_CTL.IDX_MODE n) == 1 || s.get (POS.AX_CTL.IDX_MODE n) == 2)

/-- Inputs that the mode uses: bit 0 A, 1 B, 2 Z (R164). -/
def State.axUsed (s : State) (n : Nat) : Nat :=
  match s.axMode n with
  | 0 => if s.idxOn n then 7 else 3
  | 1 => 7
  | _ => 1

/-- A, B and Z (U, V and W) after inversion and exchange (R168, R169). -/
def State.axLevels (s : State) (n l : Nat) : Bool × (Bool × Bool) :=
  let a := bit l 0 != s.flag (POS.AX_CTL.INV_A n)
  let b := bit l 1 != s.flag (POS.AX_CTL.INV_B n)
  let z := bit l 2 != s.flag (POS.AX_CTL.INV_Z n)
  if s.flag (POS.AX_CTL.SWAP_AB n) then (b, (a, z)) else (a, (b, z))

/-- Quadrature phase (table of R166). -/
def quadPhase : Bool → Bool → Nat
  | false, false => 0
  | true, false => 1
  | true, true => 2
  | false, true => 3

/-- Place of a Hall state in the forward order (table of R169); 0b000 and 0b111 have none. -/
def hallPlace (u v w : Bool) : Option Nat :=
  match u, v, w with
  | false, false, true => some 0
  | false, true, true => some 1
  | false, true, false => some 2
  | true, true, false => some 3
  | true, false, false => some 4
  | true, false, true => some 5
  | _, _, _ => none

/-- The qualified index (R172). -/
def State.qualIndex (s : State) (n : Nat) (v : Bool × (Bool × Bool)) : Bool :=
  v.2.2 && (!s.flag (POS.AX_CTL.ZQ_EN n) ||
    (v.1 == s.flag (POS.AX_CTL.ZQ_A n) && v.2.1 == s.flag (POS.AX_CTL.ZQ_B n)))

/-! Samples and speed (R175, R176, R184) -/

def satSpeed (z : Int) : Int := clampInt (-(2 ^ 31 - 1)) (2 ^ 31 - 1) z

/-- Speed of a signed count difference over a span of ticks. -/
def speedOf (counts span : Int) : Int :=
  if span ≤ 0 then satSpeed (Config.speedNoSpan counts span) else satSpeed (roundDiv (counts * 65536 * 1600) span)

/-- Steps or frames of the speed window: SPD_M, 0 treated as 1. -/
def State.spdM (s : State) (n : Nat) : Nat := min 64 (oneIfZero (s.get (POS.AX_CTL.SPD_M n)))

/-- Empty the speed window. -/
def State.emptyWindow (s : State) (n : Nat) : State := s.onAx n (fun a => { a with window := [] })

/-- A discarded sample. -/
def State.discard (s : State) (n : Nat) : State := s.bump (POS.DISC_CNT.COUNT n)

/-- A valid sample of axis n reaches SAMP and the fire engine, if that takes this axis (R136, R175). -/
def State.validSample (s : State) (n p t : Nat) (v : Int) : State :=
  let a := ((s.wr (POS.SAMP_P n) (w32 p)).wrTime (POS.SAMP_T_LO n) (POS.SAMP_T_HI n) t).wr (POS.SAMP_V n) (w32 (unsignedOf 32 v))
  let b := (a.raise (POS.AX_STATUS.VALID n)).wr (POS.SPEED n)
    (if a.flag (POS.AX_STATUS.STOPPED n) then 0#32 else w32 (unsignedOf 32 v))
  b.when (b.get FIRE.CFG.AXIS == n) (·.onFire (fun f => { f with inbox := f.inbox ++ [⟨p * 2 ^ 24, t, v⟩] }))

/-- Set a flag of the axis, reporting its source when the flag was 0 (R187). -/
def State.axReport (s : State) (n : Nat) (f : Nat → Fld) (q detail : Nat) : State := s.reportOnce (f n) q n detail

/-! The encoder run's window (R242) -/

/-- Steps of a window. -/
def State.encNeed (s : State) : Nat := 4 * 2 ^ s.getA CAL.ENC_CFG.ENC_WIN

/-- Times of every fourth edge. -/
def everyFourth : Nat → List (Nat × Int) → List Nat
  | 0, _ => []
  | _, [] => []
  | f + 1, e :: l => e.1 :: everyFourth f (l.drop 3)

/-- Speeds of the electrical cycles between them, counts per tick. -/
def cycleSpeeds (l : List Nat) : List Rat := (l.zip (l.drop 1)).map (fun p => 4 / (tickDist p.2 p.1 : Rat))

/-- Every cycle's speed lies within 5 % of the mean. -/
def steadySpeed (edges : List (Nat × Int)) : Bool :=
  let v := cycleSpeeds (everyFourth edges.length edges)
  let m := v.foldl (· + ·) 0 / (v.length : Rat)
  v.all (fun x => decide (20 * (x - m) ≤ m ∧ 20 * (m - x) ≤ m))

/-- The window's edge rate is at least ENC_MINRATE kHz. -/
def State.encFast (s : State) (edges : List (Nat × Int)) : Bool :=
  match edges.head?, edges.getLast? with
  | some a, some b => decide ((s.getA CAL.ENC_CFG.ENC_MINRATE : Int) * tickDist b.1 a.1 ≤ ((edges.length : Int) - 1) * 1600000)
  | _, _ => false

/-- The encoder run on axis n, if one collects. -/
def State.encRun (s : State) (n : Nat) : Option MeasRun :=
  match s.cal.meas with
  | some r => if r.elem == 64 + n && r.edges.length < s.encNeed then some r else none
  | none => none

/-- A step of axis n at time t with direction d: a complete window that is too slow starts again, one whose speed
varies too much aborts the run (code 0x23), and so does a step back (0x24). -/
def State.encStep (s : State) (n t count : Nat) (d : Int) : State :=
  match s.encRun n with
  | none => s
  | some r =>
    match r.edges.getLast? with
    | none => s.onCal (fun c => { c with meas := some { r with edges := [(t, (count : Int))], dir := d } })
    | some e =>
      if d != r.dir then s.calAbortRun 0x24
      else
        let l := r.edges ++ [(t, e.2 + d)]
        if l.length < s.encNeed then s.onCal (fun c => { c with meas := some { r with edges := l } })
        else if !s.encFast l then s.onCal (fun c => { c with meas := some { r with edges := [] } })
        else if !steadySpeed l then s.calAbortRun 0x23
        else s.onCal (fun c => { c with meas := some { r with edges := l } })

/-- A skip or a wire loss on axis n: within the window it aborts the run (R242), and it clears the axis's bit in ENC_OK
(R243). -/
def State.encBreak (s : State) (n : Nat) : State :=
  let a := match s.encRun n with
    | some r => s.when (!r.edges.isEmpty) (·.calAbortRun 0x24)
    | none => s
  a.put CAL.ENC_OK.AXIS (setBitTo (a.get CAL.ENC_OK.AXIS) n false)

/-! Steps -/

/-- Does the interval between the last two valid steps exceed XRATE × 1 kHz, and is it below 3/4 of it (R178)? -/
def State.xFast (s : State) (n : Nat) (iv : Int) : Bool :=
  decide (iv * (min 10000 (s.get (POS.RATE_CFG.XRATE n)) : Nat) < 1600000)
def State.xSlow (s : State) (n : Nat) (iv : Int) : Bool :=
  decide (4 * 1600000 < 3 * iv * (min 10000 (s.get (POS.RATE_CFG.XRATE n)) : Nat))

/-- Extrapolating-mode decision for a step at time t (R178): the state after it and whether the sample passes. -/
def State.xDecide (s : State) (n t : Nat) : State × Bool :=
  let a := s.onAx n (fun x => { x with lastStep := some t })
  let on := s.flag (POS.AX_STATUS.XMODE n)
  let div := 2 ^ max 2 (s.get (POS.RATE_CFG.XDIV n))
  let k := (s.ax n).xCnt
  match (s.ax n).lastStep with
  | none => (a, true)
  | some l =>
    let iv := tickDist t l
    if !on then
      if s.xFast n iv then ((a.raise (POS.AX_STATUS.XMODE n)).onAx n (fun x => { x with xCnt := 1 }), true) else (a, true)
    else if s.xSlow n iv then ((a.drop (POS.AX_STATUS.XMODE n)).onAx n (fun x => { x with xCnt := 0 }), k % div == 0)
    else (a.onAx n (fun x => { x with xCnt := (k + 1) % div }), k % div == 0)

/-- The sample of a step (R175, R176, R178). -/
def State.stepSample (s : State) (n t : Nat) (d : Int) : State :=
  let p := s.get (POS.COUNT.COUNT n)
  let a := s.onAx n (fun x => { x with window := ((t, p) :: x.window).take (s.spdM n + 1) })
  let w := (a.ax n).window
  let m := w.length - 1
  let x := a.xDecide n t
  match w.getLast? with
  | some old => if m == 0 || !x.2 then x.1.discard n
      else x.1.validSample n p t (d * speedOf m (tickDist t old.1))
  | none => x.1.discard n

/-- Signed 24-bit distance from count b to count a. -/
def countDist (a b : Nat) : Int := signedOf 24 (a + 2 ^ 24 - b % 2 ^ 24)

/-- A crossing of the index edge at time t in a direction, 1 = down (R172-R174). -/
def State.crossIndex (s : State) (n t dir : Nat) : State :=
  let p := s.get (POS.COUNT.COUNT n)
  let x := s.ax n
  let gap := s.get (POS.IDX_SPACING.COUNTS n)
  let d : Int := ((countDist p (s.get (POS.IDX_P.P n))).natAbs : Int) - gap
  let a := (((s.wr (POS.IDX_P n) (w32 p)).wrTime (POS.IDX_T_LO n) (POS.IDX_T_HI n) t).put (POS.IDX_T_HI.DIR n) dir).bump
    (POS.IDX_CNT.COUNT n)
  let b := if gap != 0 && x.idxDir == some dir && !x.turned then
      (a.put (POS.IDX_DRIFT.D n) (unsignedOf 24 d)).when (decide (s.get (POS.IDX_TOL.COUNTS n) < d.natAbs))
        (·.axReport n POS.AX_STATUS.IDX_DRIFT Src.POS_IDX_DRIFT (unsignedOf 32 d))
    else a
  let c := b.onAx n (fun y => { y with idxDir := some dir, turned := false })
  if c.get (POS.AX_CTL.IDX_MODE n) != 2 then c
  else if c.flag FAB.CTL.EN then c.raise (POS.AX_STATUS.IDX_RST_BLOCKED n)
  else c.put (POS.COUNT.COUNT n) (s.get (POS.RST_VAL.VALUE n) + (if dir == 1 then 2 ^ 24 - 1 else 0))

/-- The index after the decode of a tick (R172): a crossing needs the direction of this tick's step, or of the last. -/
def State.indexTick (s : State) (n t : Nat) (qi : Bool) : State :=
  let was := (s.ax n).qi
  let dir := s.get (POS.AX_STATUS.DIR n)
  let a := s.onAx n (fun x => { x with qi := qi })
  a.when (s.idxOn n && was != qi && qi == (dir == 0)) (·.crossIndex n t dir)

/-- A step up (d = 1) or down (d = -1): the count, then the index, then the sample (R166, R171, R190). -/
def State.axStep (s : State) (n t : Nat) (d : Int) (qi : Bool) : State :=
  if (s.ax n).lost != 0 then ((s.onAx n (fun x => { x with qi := qi })).emptyWindow n).discard n
  else
    let dir := if d < 0 then 1 else 0
    let a := (((s.put (POS.COUNT.COUNT n) (s.get (POS.COUNT.COUNT n) + (if d < 0 then 2 ^ 24 - 1 else 1))).bump
      (POS.EDGE_CNT.COUNT n)).put (POS.AX_STATUS.DIR n) dir).onAx n
      (fun x => { x with turned := x.turned || (x.idxDir.isSome && x.idxDir != some dir) })
    let b := a.when (a.flag (POS.AX_STATUS.STOPPED n)) (fun u =>
      (u.drop (POS.AX_STATUS.STOPPED n)).wr (POS.SPEED n) (u.rd (POS.SAMP_V n)))
    let c := b.encStep n t (b.get (POS.COUNT.COUNT n)) d
    (c.indexTick n t qi).stepSample n t d

/-- A skip or a Hall fault: the count stays, the sample is discarded, the window empties (R167, R170). -/
def State.axFault (s : State) (n t : Nat) (cnt f : Nat → Fld) (q : Nat) (qi : Bool) : State :=
  let a := (s.bump (cnt n)).axReport n f q (s.get (POS.COUNT.COUNT n))
  let b := a.when ((a.ax n).lost == 0) (·.indexTick n t qi)
  ((b.onAx n (fun x => { x with qi := qi })).emptyWindow n).discard n

/-- One sample tick of a QUAD axis with new levels (R166, R167). -/
def State.quadTick (s : State) (n t : Nat) (v : Bool × (Bool × Bool)) : State :=
  let q := quadPhase v.1 v.2.1
  let qi := s.qualIndex n v
  let a := s.onAx n (fun x => { x with ref := some q })
  match ((s.ax n).ref.map (fun r => (q + 4 - r) % 4)).getD 0 with
  | 1 => a.axStep n t 1 qi
  | 3 => a.axStep n t (-1) qi
  | 2 => (a.axFault n t POS.SKIP_CNT.COUNT POS.AX_STATUS.SKIP Src.POS_SKIP qi).encBreak n
  | _ => if (a.ax n).lost == 0 then a.indexTick n t qi else a.onAx n (fun x => { x with qi := qi })

/-- One sample tick of a HALL axis with new levels (R169, R170). -/
def State.hallTick (s : State) (n t : Nat) (was v : Bool × (Bool × Bool)) : State :=
  match hallPlace v.1 v.2.1 v.2.2 with
  | none => if was == v then s
      else s.axFault n t POS.SEQ_CNT.COUNT POS.AX_STATUS.HALL_INVALID Src.POS_HALL_INVALID false
  | some k =>
    let a := s.onAx n (fun x => { x with ref := some k })
    match ((s.ax n).ref.map (fun r => (k + 6 - r) % 6)).getD 0 with
    | 0 => a
    | 1 => a.axStep n t 1 false
    | 5 => a.axStep n t (-1) false
    | _ => a.axFault n t POS.SEQ_CNT.COUNT POS.AX_STATUS.HALL_SEQ Src.POS_HALL_SEQ false

/-- INPUT_ACCEPTED (R165): in this tick the accepted levels at the pins of axis n become l (bit 0 A, 1 B, 2 Z). -/
def execInputAccepted (n l : Nat) (s : State) : Host.Outcome State Fault Refusal :=
  if 4 ≤ n then .next s
  else
    let old := s.axLevels n (s.ax n).levels
    let a := s.onAx n (fun x => { x with levels := l % 8 })
    let t := before s.time (s.get (POS.AX_CTL.FILT n))
    if !a.axOn n then .next a
    else match a.axMode n with
      | 0 => .next (a.quadTick n t (a.axLevels n l))
      | 1 => .next (a.hallTick n t old (a.axLevels n l))
      | _ => .next a

/-- AXIS_STOPPED (R179): axis n has had no step for STOP_TMO × 100 µs. -/
def execAxisStopped (n : Nat) (s : State) : Host.Outcome State Fault Refusal :=
  .next (s.when (s.axOn n && s.axMode n < 2 && s.get (POS.RATE_CFG.STOP_TMO n) != 0) (fun t =>
    (t.raise (POS.AX_STATUS.STOPPED n)).wr (POS.SPEED n) 0#32))

/-! Serial absolute sensors (R180-R185) -/

/-- A serial mode is in use on axis n. -/
def State.serialOn (s : State) (n : Nat) : Bool := s.axOn n && (s.axMode n == 2 || s.axMode n == 3)

/-- A frame fails with a cause (R184). -/
def State.frameFail (s : State) (n cause : Nat) : State :=
  let a := ((s.bump (POS.SER_ERR_CNT.COUNT n)).put (POS.SER_STAT.LAST_ERR n) cause).onAx n
    (fun x => { x with frame := none, window := [], fails := x.fails + 1 })
  let b := a.axReport n POS.AX_STATUS.SER_ERR Src.POS_SER cause
  b.when (oneIfZero (b.get (POS.SER_CLK.FAIL_LIM n)) ≤ (b.ax n).fails)
    (·.axReport n POS.AX_STATUS.AXIS_LOST Src.POS_AXIS_LOST 1)

/-- Bit i of a frame's bits. -/
def frameBit (w i : Nat) : Bool := w.testBit i

/-- Bits lo to lo + w − 1 of a frame as a number, the first most significant. -/
def frameField (w lo n : Nat) : Nat := (List.range n).foldl (fun a i => 2 * a + nat01 (frameBit w (lo + i))) 0

/-- Gray code to binary. -/
def grayToBin (w v : Nat) : Nat := (List.range w).foldl (fun a i => a ^^^ (v / 2 ^ i)) 0

/-- The CRC check of R182. -/
def State.serCrcOk (s : State) (n bits : Nat) : Bool :=
  let w := s.get (POS.SER_CRC.CRC_W n)
  let from_ := s.get (POS.SER_CRC.CRC_FROM n)
  let idx := s.get (POS.SER_CRC.CRC_IDX n)
  let c := ((List.range (idx - from_)).map (fun i => frameBit bits (from_ + i))).foldl
    (crcStep w (s.get (POS.SER_POLY.POLY n))) (s.get (POS.SER_POLY.INIT n) % 2 ^ w)
  let got := frameField bits idx w
  w == 0 || c == (if s.flag (POS.SER_CRC.CRC_INV n) then 2 ^ w - 1 - got else got)

/-- The error bit signals an error (R182). -/
def State.serErrBit (s : State) (n bits : Nat) : Bool :=
  s.flag (POS.SER_FRAME.ERR_EN n) && frameBit bits (s.get (POS.SER_FRAME.ERR_IDX n)) == s.flag (POS.SER_FRAME.ERR_POL n)

/-- u of a frame (R182). -/
def State.serU (s : State) (n bits : Nat) : Nat :=
  let w := s.get (POS.SER_FRAME.POS_W n)
  let v := frameField bits (s.get (POS.SER_FRAME.POS_FIRST n)) w
  (if s.flag (POS.SER_FRAME.GRAY n) then grayToBin w v else v) / 2 ^ s.get (POS.SER_MAP.SHIFT n)

/-- The sample of a good frame (R184). -/
def State.frameSample (s : State) (n t0 : Nat) : State :=
  let p := s.get (POS.COUNT.COUNT n)
  let t := (t0 + s.get (POS.SER_LAT.LAT_COMP n)) % 2 ^ 48
  let a := s.onAx n (fun x => { x with window := ((t, p) :: x.window).take (s.spdM n + 1) })
  let w := (a.ax n).window
  match w.getLast? with
  | some old => if w.length ≤ 1 then a.discard n else a.validSample n p t (speedOf (countDist p old.2) (tickDist t old.1))
  | none => a

/-- A frame that has passed the checks of R182 (R183). -/
def State.frameGood (s : State) (n t0 u : Nat) : State :=
  let w := s.get (POS.SER_FRAME.POS_W n) - s.get (POS.SER_MAP.SHIFT n)
  let ok := fun (x : State) => x.onAx n (fun y => { y with uPrev := some u, fails := 0, frame := none })
  if (s.ax n).lost != 0 then ((s.onAx n (fun y => { y with fails := 0, frame := none })).emptyWindow n).discard n
  else match (s.ax n).uPrev with
    | none => ((ok s).put (POS.COUNT.COUNT n) u).frameSample n t0
    | some p =>
      let d := signedOf w (u + 2 ^ w - p % 2 ^ w)
      if s.get (POS.SER_MAP.MAX_STEP n) < d.natAbs then (s.onAx n (fun y => { y with uPrev := some u })).frameFail n 6
      else ((ok s).put (POS.COUNT.COUNT n) (unsignedOf 24 (s.get (POS.COUNT.COUNT n) + d))).frameSample n t0

/-- The bits of a frame as the axis sees them, from the levels that it sampled, the first in bit 0: an SSI frame drops its
LEAD first ones (R180), and INV_A inverts SLO. -/
def State.serBits (s : State) (n bits : Nat) : Nat :=
  let len := s.get (POS.SER_FRAME.LEN_M1 n) + 1
  let b := if s.axMode n == 2 then bits / 2 ^ s.get (POS.SER_CLK.LEAD n) else bits
  if s.flag (POS.AX_CTL.INV_A n) then 2 ^ len - 1 - b % 2 ^ len else b % 2 ^ len

/-- Keep the frame's bits in SER_RAW, and the measured delay of a BISS frame (R181, R182). -/
def State.keepRaw (s : State) (n bits delay : Nat) : State :=
  let b := s.serBits n bits
  let a := (s.wr (POS.SER_RAW_LO n) (w32 b)).wr (POS.SER_RAW_HI n) (w32 (b / 2 ^ 32))
  a.when (s.axMode n == 3) (·.put (POS.SER_STAT.DELAY n) delay)

/-- SERIAL_FRAME_START (R180, R181, R185): a period tick of axis n finds SLO at a level. -/
def execSerialFrameStart (n : Nat) (slo : Bool) (s : State) : Host.Outcome State Fault Refusal :=
  .next (s.when (s.serialOn n && (s.ax n).frame.isNone) (fun t =>
    if slo == t.flag (POS.AX_CTL.INV_A n) then t.frameFail n 1 else t.onAx n (fun x => { x with frame := some t.time })))

/-- NOACK (R181): the start bit has not come within ACK_MAX clock periods. -/
def execNoack (n : Nat) (s : State) : Host.Outcome State Fault Refusal :=
  .next (s.when (s.axOn n && s.axMode n == 3 && (s.ax n).frame.isSome) (·.frameFail n 2))

/-- SERIAL_TIMEOUT (R180, R181): the frame's bits have come, and SLO has not returned high within TIMEOUT. -/
def execSerialTimeout (n bits delay : Nat) (s : State) : Host.Outcome State Fault Refusal :=
  .next (s.when (s.serialOn n && (s.ax n).frame.isSome) (fun t => (t.keepRaw n bits delay).frameFail n 3))

/-- SERIAL_FRAME_COMPLETE (R182-R184): the levels sampled on axis n, the first in bit 0 (those of an SSI frame's LEAD clock
periods with them), and the BISS line delay. -/
def execSerialFrameComplete (n bits delay : Nat) (s : State) : Host.Outcome State Fault Refusal :=
  match s.serialOn n, (s.ax n).frame with
  | true, some t0 =>
    let a := s.keepRaw n bits delay
    let b := s.serBits n bits
    if !s.serCrcOk n b then .next (a.frameFail n 4)
    else if s.serErrBit n b then .next (a.frameFail n 5)
    else .next (a.frameGood n t0 (s.serU n b))
  | _, _ => .next s

/-! Wire loss (R186) -/

/-- WIRE_LOSS (R186): inputs of axis n (bit 0 A, 1 B, 2 Z) have been below the threshold for 1 µs. -/
def execWireLoss (n mask : Nat) (s : State) : Host.Outcome State Fault Refusal :=
  let lost := mask &&& s.axUsed n
  .next (s.when (s.axOn n && s.flag (POS.AX_CTL.WIRE_EN n) && lost != 0) (fun t =>
    let a := (t.onAx n (fun x => { x with lost := x.lost ||| lost })).emptyWindow n
    let b := a.axReport n POS.AX_STATUS.WIRE Src.POS_WIRE (a.ax n).lost
    (b.axReport n POS.AX_STATUS.AXIS_LOST Src.POS_AXIS_LOST 2).encBreak n))

/-- WIRE_RESTORE (R186): every used input of axis n has been valid for 10 µs. -/
def execWireRestore (n : Nat) (s : State) : Host.Outcome State Fault Refusal :=
  .next (s.when (n < 4 && (s.ax n).lost != 0) (fun t => (t.onAx n (fun x => { x with lost := 0 })).emptyWindow n))

/-! Snapshot (R188) -/

/-- Capture one axis. -/
def State.snapAxis (s : State) (n : Nat) : State :=
  let ok := s.flag (POS.AX_STATUS.VALID n)
  let pick := fun (a : Nat) => if ok then s.rd a else 0#32
  (((s.wr (POS.SNAP_P n) (pick (POS.SAMP_P n))).wr (POS.SNAP_T_LO n) (pick (POS.SAMP_T_LO n))).wr (POS.SNAP_T_HI n)
    (w32 (nat01 ok * 2 ^ 16 + (pick (POS.SAMP_T_HI n)).toNat % 2 ^ 16))).wr (POS.SNAP_V n) (pick (POS.SAMP_V n))

/-- A write of 1 to SNAP.REQ: all four axes. -/
def State.snapAll (s : State) : State := s.each (List.range 4) (fun n t => t.snapAxis n)

/-- SNAP (R188). -/
def execSnapAll (s : State) : Host.Outcome State Fault Refusal := .next s.snapAll

/-! Enable and disable (R191, R192) -/

/-- The first condition of R191 that the settings break: 1 reserved MODE, 2 serial setting (R461). -/
def State.axRefusal (s : State) (n : Nat) : Option Nat :=
  let w := s.get (POS.SER_FRAME.POS_W n)
  let len := s.get (POS.SER_FRAME.LEN_M1 n) + 1
  let cw := s.get (POS.SER_CRC.CRC_W n)
  let idx := s.get (POS.SER_CRC.CRC_IDX n)
  if 4 ≤ s.axMode n then some 1
  else if s.axMode n < 2 then none
  else if 1 ≤ w && w ≤ 40 && s.get (POS.SER_MAP.SHIFT n) < w && s.get (POS.SER_FRAME.POS_FIRST n) + w ≤ len
    && (!s.flag (POS.SER_FRAME.ERR_EN n) || s.get (POS.SER_FRAME.ERR_IDX n) < len)
    && (cw == 0 || (idx + cw ≤ len && s.get (POS.SER_CRC.CRC_FROM n) < idx)) && cw ≤ 16 then none
  else some 2

/-- The axis starts: empty window, no valid sample, COUNT = 0 in QUAD and HALL modes (R192). -/
def State.axStart (s : State) (n : Nat) : State :=
  let v := s.axLevels n (s.ax n).levels
  let a := (((s.drop (POS.AX_STATUS.VALID n)).drop (POS.AX_STATUS.XMODE n)).wr (POS.EDGE_CNT n) 0#32).wr (POS.IDX_CNT n) 0#32
  let b := a.when (s.axMode n < 2) (·.put (POS.COUNT.COUNT n) 0)
  b.onAx n (fun x => { levels := x.levels,
                       ref := if s.axMode n == 0 then some (quadPhase v.1 v.2.1) else hallPlace v.1 v.2.1 v.2.2,
                       qi := s.qualIndex n v })

/-- The axis stops decoding; a serial frame is aborted (R192). -/
def State.axStop (s : State) (n : Nat) : State :=
  s.onAx n (fun x => { x with frame := none, window := [], lost := 0, idxDir := none })

/-- Setting AX_CTL_n.EN (R191, R192). -/
def State.axEnable (s : State) (n : Nat) : State :=
  if s.flag (POS.AX_CTL.EN n) then s
  else match s.axRefusal n with
    | some code => (s.raise POS.STATUS.CFG_ERR).report Src.POS_CFG n code
    | none => let t := s.raise (POS.AX_CTL.EN n)
              t.when (t.axOn n) (·.axStart n)

/-- AXIS_ENABLE (R191). -/
def execAxisEnable (n : Nat) (s : State) : Host.Outcome State Fault Refusal := .next (s.when (n < 4) (·.axEnable n))

/-- Clearing AX_CTL_n.EN (R192, R35). -/
def State.axDisable (s : State) (n : Nat) : State :=
  if !s.flag (POS.AX_CTL.EN n) then s
  else
    let a := (s.drop (POS.AX_CTL.EN n)).axStop n
    a.when (a.get FIRE.CFG.AXIS == n) (·.abortRunning 12)

/-- AXIS_DISABLE (R192). -/
def execAxisDisable (n : Nat) (s : State) : Host.Outcome State Fault Refusal := .next (s.when (n < 4) (·.axDisable n))

/-- Setting and clearing POS.CTL.EN (R192, R35): the axes whose EN is 1 start and stop with it. -/
def State.posEnable (s : State) : State :=
  if s.flag POS.CTL.EN then s
  else
    let t := s.enableBlock POS.CTL.EN 2 6
    t.each ((List.range 4).filter t.axOn) (fun n u => u.axStart n)

def State.posDisable (s : State) : State :=
  if !s.flag POS.CTL.EN then s
  else
    let t := (s.disableBlock POS.CTL.EN 6).abortRunning 12
    t.each ((List.range 4).filter (fun n => t.flag (POS.AX_CTL.EN n))) (fun n u => u.axStop n)

/-- Setting POS.TIDE_CFG.EN: AXIS 4 to 7 is refused (R189, R191). -/
def State.tideEnable (s : State) : State :=
  if s.flag POS.TIDE_CFG.EN then s
  else if 4 ≤ s.get POS.TIDE_CFG.AXIS then (s.raise POS.STATUS.CFG_ERR).report Src.POS_CFG 255 3
  else (s.raise POS.TIDE_CFG.EN).wr POS.TIDE_CNT 0#32

end Sys2Proof.Machine
end

