-- ==== Sys2Proof/Machine/Weir.lean ====
section
/-! DEFINITION. The Weir (10_weir.md) but for its mailbox commands: status, parameters, length, drops and volume, the
event log, latches and its start. -/

namespace Sys2Proof.Machine

/-- Result codes (table of result codes). -/
abbrev wrOk : Nat := 0
abbrev wrUnknown : Nat := 1
abbrev wrBadLen : Nat := 2
abbrev wrBadState : Nat := 3
abbrev wrAuthFail : Nat := 4
abbrev wrNoChallenge : Nat := 5
abbrev wrBlockBad : Nat := 6
abbrev wrBlockStale : Nat := 7
abbrev wrParamRange : Nat := 10
abbrev wrFwBad : Nat := 11
abbrev wrSlotFull : Nat := 12
abbrev wrKeyAbsent : Nat := 13
abbrev wrAuthLock : Nat := 14

/-! Status (R276) -/

def State.weirValid (s : State) : Bool :=
  s.weir.st == 2 && s.weir.fw && s.weir.block.isSome && !s.weir.regress

/-- WSTAT as the Weir's state gives it. -/
def State.syncWeir (s : State) : State :=
  let w := s.weir
  let c := w.cistern
  s.wr WEIRMB.WSTAT (w32 (nat01 w.up * 2 ^ 31 + nat01 w.fw * 2 ^ 30 + nat01 s.weirValid * 2 ^ 29 + w.st % 8 * 2 ^ 26
    + nat01 c.breach * 2 ^ 25 + nat01 c.gapFlag * 2 ^ 24 + nat01 c.contFlag * 2 ^ 23 + nat01 (w.wxLost != 0) * 2 ^ 22
    + nat01 w.wxDrift * 2 ^ 21 + nat01 w.oscFallback * 2 ^ 20 + s.logCnt))

/-- Operating time in ticks since the cistern was cleared, and in µs (OPTIME). -/
def State.opTicks (s : State) : Nat := s.weir.cistern.opTicks + (if s.weir.up then s.ticks - s.weir.upFrom else 0)
def State.opTime (s : State) : Nat := s.opTicks / 1600

/-! Fuses and parameters -/

/-- Bits of a Weir region as the Weir read them at its start: word and length. -/
def State.weirBytes (s : State) (w n : Nat) : List Byte := rangeBytes (mapGet (fun _ => 0#32) s.weir.fuses) w n

def State.weirBit (s : State) (i : Nat) : Bool := (mapGet (fun _ => 0#32) s.weir.fuses (i / 32)).getLsbD (i % 32)

/-- The Weir's own IDENT (R274, R280): no reset of the chip reaches it (R257). -/
def State.weirIdent (s : State) : List Word := [mapGet (fun _ => 0#32) s.weir.fuses 0, mapGet (fun _ => 0#32) s.weir.fuses 1]

/-- HOST_MB_EN and TAMPER_LINK (WEIR_CFG contents). -/
def State.hostMbEn (s : State) : Bool := s.weirBit (3264 + 1025)
def State.tamperLink (s : State) : Bool := s.weirBit (3264 + 1024)

/-- K_REC and K_AUTH, when their written-indicators are 1 (R266). -/
def State.keyRec (s : State) : Option (List Byte) := if s.weirBit (4384 + 512) then some (s.weirBytes 137 256) else none
def State.keyAuth (s : State) : Option (List Byte) := if s.weirBit (4384 + 513) then some (s.weirBytes 145 256) else none

/-- Word i of the parameter set; a free value while none is loaded. -/
def State.param (s : State) (i : Nat) : Word :=
  match s.weir.block with
  | some b => wordAt b i
  | none => Config.noParams i

/-- DVOL of entry i of the parameter set. -/
def State.dvol (s : State) (i : Nat) : Nat := fieldOf (s.param (8 + i / 2)) (16 * (i % 2)) 16

/-- PARAM_VER of the loaded set, 0 if none. -/
def State.paramVer (s : State) : Word := match s.weir.block with | some b => wordAt b 32 | none => 0#32

/-! Volume (R263) -/

/-- Element-wise sum of two lists of n numbers. -/
def addLists (n : Nat) (a b : List Nat) : List Nat := (List.range n).map (fun i => a.getD i 0 + b.getD i 0)

/-- Bring VOL up to date with the drops since the last update. -/
def State.volUpdate (s : State) : State :=
  let c := s.weir.cistern
  let new := fun i => c.drops.getD i 0 - c.done.getD i 0
  let add := (List.range 16).map (fun h => new (3 * h) * s.dvol (3 * h) + new (3 * h + 1) * s.dvol (3 * h + 1)
    + new (3 * h + 2) * s.dvol (3 * h + 2))
  s.onCistern (fun c => { c with done := c.drops, vol := addLists 16 c.vol add })

/-- VOL_UPDATE (R263): every 1 ms; HEARTBEAT rises with it while firmware runs. -/
def execVolUpdate (s : State) : Host.Outcome State Fault Refusal :=
  .next (s.when (s.weir.vdd && s.weir.up) (fun t =>
    (t.when t.weir.block.isSome (·.volUpdate)).when t.weir.fw (·.bump WEIRMB.HEARTBEAT.COUNT)))

/-! Drops (R262, R264) -/

/-- The tap word arrives: with flip, the bits that the link has turned. -/
def State.takeTap (s : State) (a b : Nat) : State :=
  let h := fieldOf (w32 a) 28 4
  let d := [fieldOf (w32 a) 0 13, fieldOf (w32 a) 13 13, fieldOf (w32 b) 0 13]
  if parity64 (a + 2 ^ 32 * b) == 1 || !s.headOn h then
    s.onCistern (fun c => { c with tapErr := c.tapErr + 1, seenTapErr := true })
  else
    let t := (s.onCistern (fun c => { c with tapWords := c.tapWords + 1 })).onWeir (fun w => { w with lastTap := some s.ticks })
    if s.weirValid then
      t.onCistern (fun c => { c with drops := (List.range 48).map (fun i =>
        c.drops.getD i 0 + (if i / 3 == h then d.getD (i % 3) 0 else 0)) })
    else t.onCistern (fun c => { c with uncertDrops := c.uncertDrops + d.sum })

/-- TAP_WORD_RECEIVED (R262): the oldest tap word on its way reaches the Weir; flip names the bits of the 64 that the
link has turned. Without VDD_WEIR the word is lost (R258). -/
def execTapWordReceived (flip : Nat) (s : State) : Host.Outcome State Fault Refusal :=
  match s.tap with
  | [] => .next s
  | x :: rest =>
    let t := { s with tap := rest }
    if !s.weir.vdd then .next t
    else if !s.weir.up then .next s
    else .next ((t.takeTap (x.1.toNat ^^^ flip % 2 ^ 32) (x.2.toNat ^^^ (flip / 2 ^ 32 % 2 ^ 32))))

/-- TAP_GAP (R258): the core supply is present while VDD_WEIR is absent. -/
def execTapGap (s : State) : Host.Outcome State Fault Refusal :=
  .next (s.when (!s.weir.vdd) (·.onCistern (fun c => { c with tapGap := true, gapFlag := true })))

/-! Length (R260, R261) -/

/-- A and B of WX after WX_SWAP. -/
def State.wxPhase (s : State) (l : Nat) : Nat :=
  if fieldOf (s.param 4) 30 1 == 1 then quadPhase (bit l 1) (bit l 0) else quadPhase (bit l 0) (bit l 1)

/-- A forward step (R261, R264). -/
def State.wxForward (s : State) : State :=
  let p := s.weir.wxPos + 1
  let a := s.onWeir (fun w => { w with wxPos := p, wxFwd := true })
  if p ≤ a.weir.whw then a
  else
    let scale := (a.param 5).toNat
    let near := match a.weir.lastTap with
      | some t => decide (a.ticks - t ≤ 1600 * fieldOf (a.param 7) 16 16)
      | none => false
    let b := a.onWeir (fun w => { w with whw := p })
    if b.weirValid then b.onCistern (fun c => { c with
      lenTotal := c.lenTotal + scale
      lenPrint := c.lenPrint + (if near then scale else 0) })
    else b.onCistern (fun c => { c with uncertLen := c.uncertLen + scale })

/-- A reverse step. -/
def State.wxBack (s : State) : State :=
  (s.onWeir (fun w => { w with wxPos := w.wxPos - 1, wxIdx := none, wxFwd := false })).onCistern
    (fun c => { c with lenRev := c.lenRev + (s.param 5).toNat })

/-- A rising edge of WX_Z in the forward direction (R260). -/
def State.wxIndex (s : State) : State :=
  let gap := fieldOf (s.param 6) 0 24
  let p := s.weir.wxPos
  let drift := match s.weir.wxIdx with
    | some q => gap != 0 && decide (fieldOf (s.param 7) 0 16 < (((p - q).natAbs : Int) - gap).natAbs)
    | none => false
  let a := s.when (gap != 0 && s.weir.wxIdx.isSome) (fun t =>
    (t.onWeir (fun w => { w with wxDrift := drift })).onCistern (fun c => { c with seenDrift := c.seenDrift || drift }))
  a.onWeir (fun w => { w with wxIdx := some p })

/-- WX_STEP (R260, R261): the levels of WX become l (bit 0 A, 1 B, 2 Z). A rise of Z without a step of its own, or with a
skip, goes the way of the last step. -/
def execWxStep (l : Nat) (s : State) : Host.Outcome State Fault Refusal :=
  if !s.weir.vdd || !s.weir.up then .next s
  else
    let old := s.weir.wx
    let a := s.onWeir (fun w => { w with wx := l % 8 })
    if a.weir.wxLost != 0 then .next a
    else
      let d := (a.wxPhase l + 4 - a.wxPhase old) % 4
      let up := (d == 1) == (fieldOf (a.param 4) 31 1 == 0)
      let z := bit l 2 && !bit old 2
      let b := if d == 2 then
          a.onCistern (fun c => { c with wxSkip := c.wxSkip + 1, seenSkip := true })
        else if d == 0 then a
        else if up then a.wxForward else a.wxBack
      .next ((b.when (z && b.weir.wxFwd) (·.wxIndex)).syncWeir)

/-- WX_LOST (R260): WX inputs of a mask have been below the threshold for 1 µs. -/
def execWxLost (mask : Nat) (s : State) : Host.Outcome State Fault Refusal :=
  .next (s.when (s.weir.vdd && s.weir.up && mask % 8 != 0) (fun t =>
    ((t.onWeir (fun w => { w with wxLost := w.wxLost ||| mask % 8, wxIdx := none })).onCistern
      (fun c => { c with seenLost := true })).syncWeir))

/-- WX_RESTORE (R260): every WX input has been valid for 10 µs. -/
def execWxRestore (s : State) : Host.Outcome State Fault Refusal :=
  .next (s.when (s.weir.vdd && s.weir.up) (fun t => (t.onWeir (fun w => { w with wxLost := 0 })).syncWeir))

/-! Records and the event log (R274, R277, R279, R280) -/

/-- MAC words over a list of words, under K_REC. -/
def macWords (key : List Byte) (ws : List Word) : List Word := bytesWords 8 (hmac key (wordsBytes ws))

/-- SW_CHK: bits [255:224] of the computed digest; 0 in the ROM. -/
def State.swChk (s : State) : Word := wordAt (bytesWords 8 s.weir.digest) 7

/-- The next RSEQ is used. -/
def State.bumpRseq (s : State) : State := s.onCistern (fun c => { c with rseq := (c.rseq + 1) % 2 ^ 32 })

/-- Issue the block in force with the present SEAL, LOG_CNT and IDENT (R274): words 4-39 are given. -/
def State.issueBlock (s : State) (body : List Word) : State :=
  let sealed := if s.weir.st == 2 then 1 else if s.weir.st == 3 then 2 else 0
  let ws := [w32 (0x5750 * 2 ^ 16 + 2 ^ 8 + sealed), w32 s.logCnt] ++ s.weirIdent ++ body
  s.onWeir (fun w => { w with block := some (ws ++ macWords (s.keyRec.getD []) ws) })

/-- Words 4-39 of the block in force. -/
def State.blockBody (s : State) : List Word := match s.weir.block with | some b => (b.drop 4).take 36 | none => []

/-- Words 12-19 of an event record. -/
def State.blockHash (s : State) : List Word :=
  match s.weir.block with
  | some b => bytesWords 8 (sha256 (wordsBytes ((b.drop 4).take 36)))
  | none => (List.range 8).map Config.noBlock

/-- The event record of an event just logged (R280); the cistern keeps the last 16, and the audit count, but a larger one
while a regress stands (R268). -/
def State.recordEvent (s : State) (ev : Nat) : State :=
  let t := s.opTime
  let ws := [w32 (0x5752 * 2 ^ 16 + 2 ^ 8 + 2), w32 112, w32 s.weir.cistern.rseq, w32 ev, w32 s.logCnt] ++ s.weirIdent
    ++ [w32 t, w32 (t / 2 ^ 32), s.weir.swVer, s.swChk, s.paramVer] ++ s.blockHash
  let e : WeirEvent := ⟨s.logCnt, ws ++ macWords (s.keyRec.getD []) ws⟩
  (s.bumpRseq).onCistern (fun c => { c with
    events := (c.events ++ [e]).drop (c.events.length + 1 - 16), logCnt := if s.weir.regress then c.logCnt else s.logCnt })

/-- Log an event and let act bring its change about; the record and the new block follow (R267, R274, R277, R280). A
failed log answers its code and changes nothing but the fuses. -/
def State.logEvent (s : State) (ev : Nat) (burn : List Burn) (act : State → State) : State × Nat :=
  let b := s.logFuse burn
  if b.2 != 0 then b
  else
    let c := act b.1
    let d := c.when c.weir.block.isSome (fun t => t.issueBlock t.blockBody)
    (d.recordEvent ev, 0)

/-- The Weir's state changes; it stays INVALID while a regress or a restricted start holds it there (R268, R269). -/
def State.setWeirState (s : State) (st : Nat) : State :=
  s.onWeir (fun w => { w with st := if w.regress || w.restricted then 4 else st })

/-- An automatic event: when its logging fails the state becomes INVALID (R277). -/
def State.autoEvent (s : State) (ev : Nat) (burn : List Burn) (act : State → State) : State :=
  let r := s.logEvent ev burn act
  if r.2 == 0 then r.1 else r.1.setWeirState 4

/-- A latch can be handled: firmware runs and the state is UNSEALED, SEALED or BROKEN (R269 step 5, R277). -/
def State.latchDue (s : State) : Bool :=
  let c := s.weir.cistern
  s.weir.up && s.weir.fw && 1 ≤ s.weir.st && s.weir.st ≤ 3 && (c.contLost || c.tapGap || c.breach)

/-- LATCH_HANDLING (R277): the first pending latch, in the order of R269; burn tells what the fuse pulses leave. -/
def execLatchHandling (burn : List Burn) (s : State) : Host.Outcome State Fault Refusal :=
  let c := s.weir.cistern
  if !s.latchDue then .next s
  else if c.contLost then .next ((s.autoEvent 4 burn (·.onCistern (fun x => { x with contLost := false }))).syncWeir)
  else if c.tapGap then .next ((s.autoEvent 5 burn (·.onCistern (fun x => { x with tapGap := false }))).syncWeir)
  else if s.weir.st == 2 then
    .next ((s.autoEvent 3 burn (fun t => (t.setWeirState 3).onCistern (fun x => { x with breach := false }))).syncWeir)
  else .next ((s.onCistern (fun x => { x with breach := false })).syncWeir)

/-- The breach latch sets (R278). -/
def State.setBreach (s : State) : State := (s.onCistern (fun c => { c with breach := true })).when s.weir.vdd (·.syncWeir)

/-- SEAL_BREACH (R278): SEAL_BRK has been high for 10 µs. -/
def execSealBreach (s : State) : Host.Outcome State Fault Refusal := .next s.setBreach

/-- AUTH_LOCK_EXPIRY (R273): 60 s of operating time have passed. -/
def execAuthLockExpiry (s : State) : Host.Outcome State Fault Refusal :=
  .next (s.onCistern (fun c => if c.locked then { c with locked := false, authFails := 0 } else c))

/-! Start and loss of supply (R257-R259, R268, R269) -/

/-- WEIR_POR (R269 steps 1 and 2): VDD_WEIR is within its limits and the ROM has started; kept says that the cistern's
retention flag is set and its CRC right. A cover-tamper latch that stands acts with TAMPER_LINK as at its rise (R278). -/
def execWeirPor (kept : Bool) (s : State) : Host.Outcome State Fault Refusal :=
  if s.weir.up then .next s
  else
    let c : Cistern := if kept then s.weir.cistern else { contLost := true, contFlag := true }
    let live := [(0, s.fuseWord 0), (1, s.fuseWord 1)] ++ (List.range 55).map (fun i =>
      let w := 102 + i
      (w, if 110 ≤ w && w < 134 then s.fuseWord w else mapGet (fun _ => 0#32) s.otp.sealed w))
    let regress := kept && s.logCnt < c.logCnt
    let w : WeirState := { vdd := true, up := true, restricted := s.otp.weirBad, regress := regress,
                           st := if regress || s.otp.weirBad then 4 else 0,
                           fuses := live.filter (fun e => e.2 != 0#32), cistern := { c with logCnt := if regress then c.logCnt else s.logCnt, seenOsc := c.seenOsc || s.weir.noXtal },
                           upFrom := s.ticks, wx := s.weir.wx, noXtal := s.weir.noXtal, oscFallback := s.weir.noXtal }
    let t : State := { s with weir := w }
    .next ((t.when (t.tamperLink && t.flag PMU.TAMPER.LATCH) (·.setBreach)).syncWeir)

/-- An authorised request: the nonce is consumed, and the answer is 0 when AUTH is right (R273). -/
def State.authCheck (s : State) (q : List Word) : State × Nat :=
  let a := s.onWeir (fun w => { w with nonce := none })
  match s.keyAuth, s.keyRec with
  | some k, some _ =>
    match s.weir.nonce with
    | none => (a, wrNoChallenge)
    | some n =>
      if 16000000000 < s.opTicks - n.2 then (a, wrNoChallenge)
      else if macWords k (n.1 ++ q.take (q.length - 8)) == q.drop (q.length - 8) then
        (a.onCistern (fun c => { c with authFails := 0 }), 0)
      else (a.onCistern (fun c => { c with
        authFails := c.authFails + 1, locked := c.locked || 4 ≤ c.authFails + 1 }), wrAuthFail)
  | _, _ => (a, wrKeyAbsent)

/-- PARAM_RANGE of words 4-39 (R274). -/
def paramBad (p : List Word) : Bool :=
  wordAt p 1 == 0#32 || wf p 3 16 16 == 0 || wf p 0 0 30 != 0 || wf p 2 24 8 != 0 || (p.drop 29).any (· != 0#32)

/-- The slot after the highest written FW_DIGEST slot of the fuses. -/
def State.nextSlot (s : State) : Nat :=
  match ((List.range 4).reverse.find? (fun k => (List.range 8).any (fun i => s.fuseWord (102 + 8 * k + i) != 0#32))) with
  | some k => k + 1
  | none => 0

/-- Bits of slot k that the digest of an ADD_FW request q programs. -/
def State.slotBits (s : State) (k : Nat) (q : List Word) : List Nat :=
  (List.range 8).flatMap (fun i => s.bitsToBurn (102 + 8 * k + i) (wordAt q (1 + i)).toNat)

/-- The handling of the latch that is due logs an event: a breach does so in SEALED alone (R277). -/
def State.latchLogs (s : State) : Bool :=
  s.latchDue && (s.weir.cistern.contLost || s.weir.cistern.tapGap || s.weir.st == 2)

/-- A request that logs an event when it is served: an authorised SET_PARAMS, SEAL or ADD_FW that no check refuses. -/
def State.reqLogs (s : State) (q : List Word) : Bool :=
  (match wf q 0 24 8 with
   | 0x22 => !paramBad ((q.drop 1).take 36)
   | 0x23 => s.weir.st == 1 || s.weir.st == 3
   | 0x24 => s.nextSlot < 4
   | _ => false) && (s.authCheck q).2 == 0

/-- The request whose event can be in its fuse pulses now; a latch goes first (R282). -/
def State.eventReq (s : State) : Option WeirReq :=
  if s.latchLogs || !s.weir.up || !s.weir.fw then none else s.weir.reqs.find? (fun q => s.reqLogs q.words)

/-- The fuse pulses of an event that a loss of VDD_WEIR cuts short: those of the log, then those of an ADD_FW's slot. What
they have left is a free value (row 5 of R282; log entry 1). -/
def State.cutEvent (s : State) : State :=
  let cut := Config.cutPulses s.fresh
  let b := s.draw.burnLog (min 4 cut.length) cut s.freeLog
  let t := b.1
  match s.eventReq with
  | some q =>
    let pulses := Config.cutPulses t.fresh
    if b.2 && wf q.words 0 24 8 == 0x24 then
      (t.draw.burnBits ((t.slotBits s.nextSlot q.words).take pulses.length) pulses 0).1
    else t
  | none => t

/-- VDD_WEIR_LOSS (R258): the Weir stops and the cistern stays on VBAT; a request in progress is lost with it. A bit that
the loss cut short counts as it reads, and no record or block follows (row 5 of R282). -/
def execVddWeirLoss (s : State) : Host.Outcome State Fault Refusal :=
  let z := s.when (s.latchLogs || s.eventReq.isSome) (·.cutEvent)
  let a := z.onCistern (fun c => { c with opTicks := s.opTicks })
  let b := a.onWeir (fun w => { w with
    vdd := false, up := false, fw := false, reqs := [], load := none, nonce := none, block := none, st := 0 })
  .next b.syncWeir

end Sys2Proof.Machine
end

