-- ==== Sys2Proof/Machine/Boot.lean ====
section
/-! DEFINITION. The device reset: what it keeps, fuse sensing and the restrictive defaults (R393-R396), the life cycle
(R404), the wipes' end (R370), and the boot ROM with its image check (R388, R405, R406, R321, R322). -/

namespace Sys2Proof.Machine

/-! Sensing (R393, R394) -/

/-- Outcome of a region's check: 0 its normal read holds, 1 its tight read holds, 2 it fails (R394). -/
def State.regionCheck (s : State) (q : Nat) : Nat :=
  let d := storedDigest s.fuseWord q
  if q == 1 || q == 8 || 10 ≤ q || d == 0 then 0
  else if digest64 (coveredBytes s.fuseWord q) == d then 0
  else if storedDigest s.tightWord q == digest64 (coveredBytes s.tightWord q) then 1
  else 2

/-- A word of the sensed array under its region's check. -/
def State.sensedWord (s : State) (chk : Nat → Nat) (w : Nat) : Word :=
  match chk (otpRegion w) with
  | 1 => s.tightWord w
  | _ => s.fuseWord w

/-- The chip-side shadow of a word: sealed words and regions that failed hold 0 (R392, R396). -/
def State.shadowWord (s : State) (chk : Nat → Nat) (w : Nat) : Word :=
  let q := otpRegion w
  if 6 ≤ q && q ≤ 8 then 0#32
  else if (q == 4 || q == 5 || q == 9) && chk q == 2 then 0#32
  else s.sensedWord chk w

/-- Words whose two reads differ. -/
def State.weakWords (s : State) : List Nat := (List.range 256).filter (fun w => s.fuseWord w != s.tightWord w)

/-- Sense the array: margin map, shadows and the Weir's sealed shadow. -/
def State.senseOtp (s : State) (chk : Nat → Nat) : State :=
  let weak := s.weakWords
  let a := s.each weak (fun w t => t.flagMargin w)
  let b := a.each (List.range 256) (fun w t => t.wr (OTP.SHADOW w) (t.shadowWord chk w))
  let c := b.onOtp (fun o => { o with
    sealed := ((List.range 87).map (fun i => (102 + i, s.sensedWord chk (102 + i)))).filter (fun e => e.2 != 0#32)
    weirBad := chk 6 == 2 || chk 7 == 2 })
  c.when (!weak.isEmpty) (fun t => (t.raise OTP.STATUS.MARGIN).report Src.OTP_MARGIN 0 weak.length)

/-! The life cycle (R395, R404) -/

/-- Codes of W_MFG, W_OEM, W_FIELD, W_RMA, W_SCRAP. -/
def lifeCode (k : Nat) : Nat := [0x5A3C, 0x3CA5, 0xA55A, 0xC3C3, 0x6996].getD k 0

/-- First bit of transition word k. -/
def lifeBit (k : Nat) : Nat := 192 + 16 * k

def State.lifeWord (s : State) (k : Nat) : Nat := fieldOf (s.fuseWord (6 + k / 2)) (16 * (k % 2)) 16

/-- How a transition word reads: 0 clear, 1 burnt, 2 incomplete, 3 corrupt. -/
def lifeRead (v code : Nat) : Nat := if v == 0 then 0 else if v == code then 1 else if v &&& code == v then 2 else 3

def State.lifeReads (s : State) : List Nat := (List.range 5).map (fun k => lifeRead (s.lifeWord k) (lifeCode k))

/-- The state that five readings give; none when LIFE fails. -/
def lifeOf (r : List Nat) : Option Nat :=
  if r.getD 4 0 == 1 || r.getD 4 0 == 2 then some 5
  else if r.contains 3 then none
  else some (((List.range 4).map (fun k => if r.getD k 0 == 0 then 0 else k + 1)).foldl max 0)

/-- Is the transition to a target allowed from a state (transition table)? -/
def State.lcAllowed (s : State) (target : Nat) (old : Option Nat) : Bool :=
  match target with
  | 1 => old == some 0
  | 2 => old == some 1 && s.final 0 && s.final 2 && s.final 3 && s.written 2 % 2 == 1
  | 3 => old == some 2
  | 4 => (old == some 2 || old == some 3) && (s.rd (OTP.SHADOW 50)).getLsbD 6
  | 5 => old != some 5
  | _ => false

/-- Bits of a transition word that are still to be burned. -/
def State.lifeBits (s : State) (k : Nat) : List Nat :=
  (bitsOf 16 (lifeCode k)).filterMap (fun i => if s.fuseBit (lifeBit k + i) then none else some (lifeBit k + i))

/-- The words that the boot sequencer looks at: with W_SCRAP burnt or incomplete the state is SCRAP, whatever the others
read. -/
def lifeWords (r : List Nat) : List Nat := if r.getD 4 0 == 1 || r.getD 4 0 == 2 then [4] else List.range 4

/-- Finish the incomplete words among ks (boot step 3); the answer says whether LIFE fails. -/
def State.finishLife (s : State) : List Nat → List Burn → State × Bool
  | [], _ => (s, false)
  | k :: t, burn =>
    let r := s.lifeReads
    if r.getD k 0 == 2 then
      if s.lcAllowed (k + 1) (lifeOf (r.set k 0)) then
        let bits := s.lifeBits k
        let b := s.burnCounted bits burn
        let a := match b.2 with
          | some i => b.1.otpFailed i
          | none => b.1
        a.finishLife t (burn.drop bits.length)
      else (s, true)
    else s.finishLife t burn

/-- DEBUG_OPEN of a state (table of states). -/
def State.debugOpen (s : State) (st : Nat) : Bool :=
  match st with
  | 0 => true
  | 1 => true
  | 2 => (s.rd (OTP.SHADOW 50)).getLsbD 5
  | 4 => true
  | _ => false

/-- Decode LIFE, with the failures of the lowest regions, and apply the restrictive defaults (R395, R396). -/
def State.applyLife (s : State) (chk : Nat → Nat) (burn : List Burn) : State :=
  let old := lifeOf s.lifeReads
  let r := if old.isNone then (s, true) else s.finishLife (lifeWords s.lifeReads) burn
  let st := old.getD 3
  let low := fun q => chk q == 2 || (2 ≤ st && storedDigest s.fuseWord q == 0)
  let f := (if low 0 then [0] else []) ++ (if r.2 then [1] else []) ++ (if low 2 then [2] else [])
    ++ ([3, 4, 5, 6, 7, 9].filter (fun q => chk q == 2))
  let keys := chk 3 == 2 || low 0 || low 2
  let bad := keys || r.2
  let a := (r.1.onOtp (fun o => { o with keysOff := keys })).each f (fun q t => t.raise (OTP.REGION_STAT.FAILED q))
  let use := if bad then 3 else st
  let b := (((a.wr OTP.LC_STATE 0#32).put OTP.LC_STATE.STATE use).put OTP.LC_STATE.RESTRICTED (nat01 bad)).put OTP.LC_STATE.DEBUG_OPEN
    (nat01 (a.debugOpen use))
  let c := b.when (use == 4) (·.drop OTP.KEY_OPEN.OPEN)
  let d := { c with small := keys || fieldOf (c.rd (OTP.SHADOW 2)) 0 8 != 0 }
  let e := d.syncRegions
  e.when (!f.isEmpty) (fun t => ((t.raise OTP.STATUS.RESTRICT).raise SYS.BOOT_STAT.RESTRICT).report Src.OTP_DIGEST 0 ((f.map (2 ^ ·)).foldl (· + ·) 0))

/-! What a device reset keeps (R11, R17, R257, R386) -/

/-- The pulses of a command that a reset cuts short have left what they have left (R407); D_SELF comes last. -/
def State.cutCmd (s : State) (cut : List Burn) : State :=
  match s.otp.cmd with
  | some (.program w d) => (s.burnBits ((s.pgmBits w d).take cut.length) cut 0).1
  | some (.finalise q f) =>
    let bits := s.finBits q f
    let a := (s.burnBits (bits.take cut.length) cut 0).1
    (a.burnBits ((a.selfBits q).take (cut.length - bits.length)) (cut.drop bits.length) 0).1
  | some (.transition t _) => (s.burnBits ((s.lifeBits (t - 1)).take cut.length) cut 0).1
  | none => s

/-- A reset cuts the command in progress short, and the lock that runs beside it. -/
def State.cutOtp (s : State) (c : PulseCut) : State :=
  let a := s.cutCmd c.cmd
  match s.otp.lock with
  | some l => (a.burnBits ((a.lockBits (l.v % 16) l.v).take c.lock.length) c.lock 0).1
  | none => a

/-- Every register and all working state at its reset value. The Weir, the fuse cells, the pins, what the block has put
out, and the queue of commands stay. -/
def State.clearAll (s : State) : State :=
  { ticks := s.ticks, root := s.root, fresh := s.fresh, pending := s.pending, tap := s.tap,
    sys := { flash := s.sys.flash, sumpSeq := s.sys.sumpSeq }
    pmu := { rtcFrom := s.ticks, off := s.pmu.off, why := s.pmu.why, pwrEn := s.pmu.pwrEn, test := s.pmu.test,
             low := s.pmu.low, tamperDue := s.pmu.tamperDue, pmbOut := s.pmu.pmbOut }
    host := { posted := s.host.posted }
    otp := { cells := s.otp.cells, sealed := s.otp.sealed, weirBad := s.otp.weirBad }
    weir := { s.weir with reqs := s.weir.reqs.map (fun r => { r with live := false }) }
    fire := { pinLow := s.fire.pinLow }
    axis := s.axis.map (fun a => { levels := a.levels }) }

/-- The registers that do not come from a table's reset number: the pins and latches, the straps and SEQ. -/
def State.seedRegs (t s : State) : State :=
  let a := t.wr PMU.TAMPER (s.rd PMU.TAMPER)
  let b := (a.put PMU.CLK_STAT.X32_OK (s.get PMU.CLK_STAT.X32_OK)).put PMU.CLK_STAT.XTAL_OK (s.get PMU.CLK_STAT.XTAL_OK)
  let c := b.put SYS.SUMP_STAT.SEQ b.sys.sumpSeq
  let d := (c.put FAB.STATUS.ROOT (nat01 t.root)).put HOSTIF.STATUS.ROOT (nat01 t.root)
  ((d.put OTP.STATUS.VPP_OK (s.get OTP.STATUS.VPP_OK)).syncPin).syncWeir

/-- Everything at its reset value, with internal reset asserted. -/
def State.assertReset (s : State) (cut : PulseCut) : State :=
  let a := s.cutOtp cut
  a.clearAll.seedRegs a

/-! The boot sequencer, steps 1-4 -/

/-- Take what the shadows configure: IDENT, the variant and the DRAM profile (R294, R2, R368). -/
def State.configure (s : State) : State :=
  let a := (s.wr FAB.IDENT_LO (s.rd (OTP.SHADOW 0))).wr FAB.IDENT_HI (s.rd (OTP.SHADOW 1))
  let b := a.when a.small (·.wr SYS.CHIP_ID 0x6408B100#32)
  let w := b.rd (OTP.SHADOW 50)
  b.when (w.getLsbD 0) (fun t => ((t.put DRAMC.CFG.DENSITY (fieldOf w 1 2)).put DRAMC.CFG.RATE (fieldOf w 3 2)).dramEnable)

/-- Internal reset is released with a cause, bit of RST_CAUSE: 0 POR, 1 PIN, 2 SW_DEVICE, 3 LIFECYCLE, 4 DRY_WAKE. The
first and the last clear SEQ (R386). Nothing that was commanded while reset was held remains. -/
def State.release (s : State) (cause : Nat) (e : ResetEnv) : State :=
  let z := s.clearAll.seedRegs s
  let a := { z with root := e.hostEn, pmu := { z.pmu with off := 0, why := 0, pwrEn := true } }
  let seq := if cause == 0 || cause == 4 then 0 else a.sys.sumpSeq
  let b := (((a.onSys (fun y => { y with flash := e.flash, sumpSeq := seq })).wr SYS.RST_CAUSE (w32 (2 ^ cause))).seedRegs a).put
    OTP.STATUS.VPP_OK (nat01 e.vpp)
  let table := (List.range 10).map b.regionCheck
  let chk := fun q => table.getD q 0
  let c := ((b.senseOtp chk).applyLife chk e.burn).configure
  let d := c.put SYS.BOOT_STAT.STAGE 4
  let f := d.when d.pmu.tamperDue (fun t =>
    State.report { t with pmu := { t.pmu with tamperDue := false } } Src.PMU_TAMPER 0 0)
  f.when f.fire.pinLow (·.halt 1)

/-- A device reset (R11, R370): everything at its reset value, memory wiped, fuses sensed and the boot sequence begun. It
does not release an internal reset that the supplies, TEST_EN or DRY hold. -/
def State.deviceReset (s : State) (cause : Nat) (e : ResetEnv) : State :=
  if s.held then s else (s.assertReset e.cut).release cause e

/-! Boot images (R405, R406) -/

/-- A header word. -/
def hdr (img : List Byte) (i : Nat) : Word := w32 (bytesNat ((img.drop (4 * i)).take 4))

/-- n bytes of an image from an offset, missing ones reading 0. -/
def imgBytes (img : List Byte) (a n : Nat) : List Byte := (List.range n).map (fun i => (img.drop a).getD i 0#8)

def imgItcmLen (img : List Byte) : Nat := (hdr img 2).toNat
def imgDtcmLen (img : List Byte) : Nat := (hdr img 3).toNat
def imgEntry (img : List Byte) : Nat := (hdr img 4).toNat

/-- The first word holds MAGIC: the source holds an image. -/
def hasImage (img : List Byte) : Bool := fieldOf (hdr img 0) 16 16 == 0x4749

/-- Test 1 of R406. -/
def imgHeaderOk (img : List Byte) : Bool :=
  hasImage img && fieldOf (hdr img 0) 8 8 == 1
    && (List.range 11).all (fun i => hdr img (21 + i) == 0#32)
    && imgItcmLen img % 4 == 0 && 4 ≤ imgItcmLen img && imgItcmLen img ≤ 131072
    && imgDtcmLen img % 4 == 0 && imgDtcmLen img ≤ 126976 && decide (imgEntry img < imgItcmLen img)

/-- Test 2: the key slot is written, not revoked and holds the hash of PUBKEY. -/
def State.imgKeyOk (s : State) (img : List Byte) : Bool :=
  let k := fieldOf (hdr img 0) 0 2
  let w := (s.rd (OTP.SHADOW 42)).toNat
  bit w k && !bit w (4 + k) && !s.otp.keysOff
    && rangeBytes (fun i => s.rd (OTP.SHADOW i)) (10 + 8 * k) 256 == sha256 (imgBytes img 128 64)

/-- A 32-byte big-endian number of the image. -/
def imgBig (img : List Byte) (a : Nat) : Nat := bytesNat (imgBytes img a 32).reverse

/-- Test 3: the signature over header words 0-47. -/
def imgSigOk (img : List Byte) : Bool :=
  ecdsaVerify (imgBig img 128, imgBig img 160) (imgBig img 192) (imgBig img 224) (imgBytes img 0 192)

/-- The ROM loads the segments into the TCMs. -/
def State.loadImage (s : State) (img : List Byte) : State :=
  (s.setBytes 0x08000000 (imgBytes img 256 (imgItcmLen img))).setBytes 0x09000000 (imgBytes img (256 + imgItcmLen img) (imgDtcmLen img))

/-- Test 4: the segments as loaded. -/
def State.imgDigestOk (s : State) (img : List Byte) : Bool :=
  sha256 (s.bytes 0x08000000 (imgItcmLen img)) == imgBytes img 20 32
    && sha256 (s.bytes 0x09000000 (imgDtcmLen img)) == imgBytes img 52 32

/-- Both TCMs read 0. -/
def State.clearTcm (s : State) : State := (s.eraseRange 0x08000000 0x08020000).eraseRange 0x09000000 0x09020000

/-- The core leaves the ROM for the image in I-TCM. -/
def State.enterImage (s : State) : State := (s.put SYS.BOOT_STAT.STAGE 9).onSys (fun y => { y with core := .running })

/-- The ROM checks an image; on success it records the image and enters it, otherwise both TCMs are cleared (R406). -/
def State.tryImage (s : State) (img : List Byte) : State × Bool :=
  let a := s.put SYS.BOOT_STAT.STAGE 7
  if imgHeaderOk img && a.imgKeyOk img && imgSigOk img then
    let b := a.loadImage img
    if b.imgDigestOk img then
      let d := imgBytes img 20 32
      let c := b.each (List.range 8) (fun k t => t.wr (SYS.IMG_DIGEST k) (beWord (d.drop (4 * k))))
      (((c.wr SYS.IMG_LEN (hdr img 2)).wr SYS.IMG_ENTRY (hdr img 4)).enterImage, true)
    else (b.clearTcm, false)
  else (a.clearTcm, false)

/-! The boot ROM (R388, R405) -/

/-- BOOT_SRC as applied. -/
def State.bootSrc (s : State) : Nat := let v := fieldOf (s.rd (OTP.SHADOW 50)) 8 2; if v == 3 then 0 else v

/-- QSPI images in the ROM's order, those that are not there left out. -/
def State.qspiImages (s : State) : List (List Byte) :=
  if s.bootSrc == 2 then []
  else ((s.sys.flash.take 1) ++ (if fieldOf (s.rd (OTP.SHADOW 50)) 16 8 == 0 then [] else (s.sys.flash.drop 1).take 1)).filter hasImage

/-- No source is left: the ROM waits in WFI. A node that is not the root sets FAB.CTL.EN, so that it answers (R388, R295). -/
def State.noImage (s : State) : State :=
  ((s.put SYS.BOOT_STAT.FAIL 2).onSys (fun y => { y with core := .noImage })).when (!s.root) (·.fabEnable)

/-- The last source: PCIe on the root, the fabric elsewhere. -/
def State.lastSource (s : State) : State :=
  let a := s.put SYS.BOOT_STAT.STAGE 6
  if s.bootSrc == 1 then a.noImage
  else if s.root then a
  else (a.fabEnable).raise FAB.STATUS.BOOT_MODE

/-- The ROM tries the images in order; a failed check sets SIG_FAIL. -/
def State.trySources (s : State) : List (List Byte) → State
  | [] => s.lastSource
  | i :: t =>
    let r := s.tryImage i
    if r.2 then r.1 else (r.1.put SYS.BOOT_STAT.FAIL 1).trySources t

/-- Boot steps 5 to 8; in SCRAP the ROM stops at step 5 with NO_IMAGE. -/
def State.runRom (s : State) : State :=
  let a := (s.onSys (fun y => { y with core := .rom, romFor := none, romCheck := none })).put SYS.BOOT_STAT.STAGE 5
  if s.lcState == 5 then a.noImage
  else (a.put SYS.BOOT_STAT.STAGE 6).trySources s.qspiImages

/-- The core is released when ALL_DONE sets (boot step 5). -/
def State.releaseCore (t s : State) : State :=
  t.when (t.flag MEMC.WIPE_STAT.ALL_DONE && !s.flag MEMC.WIPE_STAT.ALL_DONE) (·.runRom)

/-- The ROM waits for its last source. -/
def State.romWaits (s : State) : Bool :=
  s.sys.core == .rom && s.get SYS.BOOT_STAT.STAGE ≥ 6 && s.bootSrc != 1 && s.lcState != 5 && s.sys.romFor.isNone
    && s.sys.romCheck.isNone

/-- The boot window reads 0. -/
def State.clearWindow (s : State) : State := s.eraseRange 0x10000000 0x10200000

/-- The ROM begins the check of an image of n bytes in the boot window: the result shows CHECKING (R322, R405). -/
def State.checkBegin (s : State) (host : Bool) (n : Nat) : State :=
  let a := (s.put SYS.BOOT_STAT.STAGE 7).onSys (fun y => { y with romCheck := some (host, n) })
  a.wr (if host then OTP.HBOOT_STAT else FAB.BOOT_STAT) 1#32

/-- An image that fails leaves the ROM waiting for a new GO, with SIG_FAIL in the result register. -/
def State.checkFail (s : State) (stat : Nat) : State := ((s.put SYS.BOOT_STAT.FAIL 1).put SYS.BOOT_STAT.STAGE 6).wr stat 3#32

/-- The check ends (R322, R405): the node enters a good image and leaves boot mode; after a bad one that came over the fabric
the window is cleared. -/
def State.checkEnd (s : State) : State :=
  match s.sys.romCheck with
  | none => s
  | some (host, n) =>
    let r := (s.onSys (fun y => { y with romCheck := none })).tryImage (s.bytes 0x10000000 n)
    if host then (if r.2 then r.1.wr OTP.HBOOT_STAT 2#32 else r.1.checkFail OTP.HBOOT_STAT)
    else if r.2 then ((r.1.wr FAB.BOOT_STAT 2#32).drop FAB.STATUS.BOOT_MODE).wr FAB.ACCESS (resetWord FAB.ACCESS)
    else (r.1.clearWindow).checkFail FAB.BOOT_STAT

/-- A check that the core's reset ends has no result; the registers outside SYS stay as they are (R11). -/
def State.checkDrop (s : State) : State := s.onSys (fun y => { y with romCheck := none })

/-- HBOOT_CTL.GO (R405): x brings the image as the host's memory returns it. -/
def State.hbootGo (s : State) (x : Access) : State :=
  let n := s.get OTP.HBOOT_LEN.LEN
  if !(s.root && s.romWaits) then s
  else if n == 0 || 2097152 < n then s.wr OTP.HBOOT_STAT 4#32
  else if x.status != 0 then s.wr OTP.HBOOT_STAT 3#32
  else (s.setBytes 0x10000000 (imgBytes (wordsBytes x.words) 0 n)).checkBegin true n

/-- HBOOT_GO (R405). -/
def execHbootGo (x : Access) (s : State) : Host.Outcome State Fault Refusal := .next (s.hbootGo x)

/-- BOOT_CTL.GO (R322). -/
def State.bootGo (s : State) : State :=
  let n := s.get FAB.BOOT_CTL.LEN
  if !(s.flag FAB.STATUS.BOOT_MODE && s.romWaits) then s
  else if n == 0 || 2097152 < n then (s.clearWindow).wr FAB.BOOT_STAT 4#32
  else s.checkBegin false n

/-- BOOT_GO (R322): a write of BOOT_CTL with GO. -/
def execBootGo (v : Nat) (s : State) : Host.Outcome State Fault Refusal :=
  .next (((s.put FAB.BOOT_CTL.LEN v).when (bit v 31) (·.bootGo)))

/-! Wipe commands -/

/-- WIPE_COMPLETE (R370): the wipe of a part finishes, once after a device reset. -/
def execWipeComplete (part : Nat) (s : State) : Host.Outcome State Fault Refusal :=
  .next (State.releaseCore (s.when (part < 5 && !s.held && !s.flag (wipeFld part) && (part != 4 || s.memc.training))
    (fun t => ((t.wipePart part).raise (wipeFld part)).wipeSum)) s)

/-- DRAM_READY (R368): training and wipe are complete, or training failed on the channels of a mask. -/
def execDramReady (bad : Nat) (s : State) : Host.Outcome State Fault Refusal :=
  if !s.memc.training || s.pmu.waiting.contains 8 then .next s
  else
    let a := s.onMem (fun m => { m with training := false })
    if bad % 4 == 0 then
      let b := ((a.wipePart 4).raise MEMC.WIPE_STAT.DRAM).drop MEMC.WIPE_STAT.DRAM_SKIP
      .next (State.releaseCore (((b.raise DRAMC.STATUS.READY).put DRAMC.CAP.SIZE b.fitted).wipeSum) s)
    else .next (a.reportOnce DRAMC.STATUS.TRAIN_FAIL Src.DRAM_TRAIN (if bad % 2 == 1 then 0 else 1) 0)

/-! Reset commands -/

/-- DEVICE_RESET (R370): a device reset with a cause, bit of RST_CAUSE. -/
def execDeviceReset (cause : Nat) (e : ResetEnv) (s : State) : Host.Outcome State Fault Refusal :=
  .next (s.when (cause < 5) (·.deviceReset cause e))

/-- A write of RST_CTL with DEVICE acts only with the key. -/
def State.rstDevice (s : State) (v : Nat) (e : ResetEnv) : State :=
  s.when (bit v 31 && v % 65536 == 0xD5EC) (·.deviceReset 2 e)

/-- RST_DEVICE (R386): the operand is the value written. -/
def execRstDevice (v : Nat) (e : ResetEnv) (s : State) : Host.Outcome State Fault Refusal := .next (s.rstDevice v e)

/-- RST_TMO (R386 step 5): the device resets itself after the dump has ended. -/
def execRstTmo (e : ResetEnv) (s : State) : Host.Outcome State Fault Refusal :=
  .next (s.when (s.flag SYS.SUMP_STAT.ACTIVE && s.sys.sumpEnded && s.get SYS.SUMP_CTL.RST_TMO != 0) (·.deviceReset 2 e))

/-! Life-cycle transitions (R404) -/

/-- Refusal code of a transition: the cases of R398, then 0x30. -/
def State.lcCode (s : State) (target : Nat) : Nat :=
  if s.lcState == 5 then 7
  else if s.failed 1 then 3
  else match s.pgmHold with
    | 0 => if s.lcAllowed target (some s.lcState) then 0 else 0x30
    | c => c

/-- A write to LC_REQ: the transition is in progress until its pulses end (transitionEnd). -/
def State.lcReq (s : State) (v : Nat) (e : ResetEnv) : State :=
  let target := v % 8
  if v / 2 ^ 16 % 2 ^ 16 != 0x1C5E then s.raise OTP.STATUS.WRITE_IGNORED
  else match s.lcCode target with
    | 0 => ((s.put OTP.LC_STAT.CODE 0).onOtp (fun o => { o with cmd := some (.transition target e) })).syncBusy
    | code => (s.put OTP.LC_STAT.CODE code).report Src.OTP_LC 0 (target * 256 + code)

/-- The pulses of the transition word end: the device resets itself, or the word is left as it is (R404). -/
def State.transitionEnd (s : State) : State :=
  match s.otp.cmd with
  | some (.transition target e) =>
    let b := s.burnCounted (s.lifeBits (target - 1)) e.burn
    match b.2 with
    | some i => (b.1.endOtp).otpFailed i
    | none => (b.1.endOtp).deviceReset 3 { e with burn := [] }
  | _ => s

/-- LC_REQ (R404): the value written, with what the transition meets. -/
def execLcReq (v : Nat) (e : ResetEnv) (s : State) : Host.Outcome State Fault Refusal :=
  .next (s.when (!s.held) (fun t => (t.senseVpp e.vpp).lcReq v e))

/-! The management-core-only reset (R381) -/

/-- A descriptor names a TCM address. -/
def State.namesTcm (s : State) (d : DmaDesc) : Bool :=
  d.names.any (fun a => match s.target a with
    | .localMem b => s.region b == .itcm || s.region b == .dtcm
    | _ => false)

/-- DMA channels with a descriptor that names a TCM address. -/
def State.tcmChans (s : State) : List Nat :=
  (List.range 16).filter (fun n => let c := s.dmaCh n; c.active.any s.namesTcm || c.shadow.any s.namesTcm)

/-- The watchdog's count starts again (R380). -/
def State.wdtRestart (s : State) : State :=
  let n := oneIfZero (s.get SYS.WDT_CTL.TMO) * 1600000
  s.onSys (fun y => { y with wdtHalf := false, wdtEnd := s.ticks + n, wdtLeft := n })

/-- ACTIVE clears; a watchdog that still runs goes on from where it paused. -/
def State.sumpOff (s : State) : State :=
  s.when (s.flag SYS.SUMP_STAT.ACTIVE) (fun t =>
    (t.drop SYS.SUMP_STAT.ACTIVE).onSys (fun y => { y with wdtEnd := t.ticks + y.wdtLeft, sumpEnded := false }))

/-- The ROM after a management-core-only reset: the image in I-TCM when it is still the accepted one, else a boot. -/
def State.romAgain (s : State) : State :=
  let n := s.get SYS.IMG_LEN.ITCM_LEN
  let d := (List.range 8).map (fun k => s.rd (SYS.IMG_DIGEST k))
  let now := sha256 (s.bytes 0x08000000 n)
  if n != 0 && (List.range 8).map (fun k => beWord (now.drop (4 * k))) == d then s.enterImage else s.runRom

/-- The ROM goes on once none of the channels that the reset stopped is STOPPING any more (R381). -/
def State.romResume (s : State) : State :=
  match s.sys.romFor with
  | some l =>
    if l.any (fun n => s.get (DMA.CH_STAT.STATE n) == dmaStopping) then s
    else (s.onSys (fun y => { y with romFor := none })).romAgain
  | none => s

/-- A management-core-only reset; a core that is held stays held until device reset (R386 step 4). -/
def State.coreReset (s : State) : State :=
  let a := (((s.setArm false).wr SYS.IRQ_EN 0#32).wr SYS.DRAM_WIN 0#32).wr SYS.LOAD_CFG (resetWord SYS.LOAD_CFG)
  let b := (a.wr SYS.MTIMECMP_LO 0xFFFFFFFF#32).wr SYS.MTIMECMP_HI 0xFFFFFFFF#32
  let c := (b.each b.tcmChans (fun n t => t.dmaStop n)).sumpOff
  let d := c.when (!c.flag SYS.WDT_CTL.LOCK) (·.drop SYS.WDT_CTL.EN)
  let keep := Config.cacheKept d.fresh
  let e := (d.draw).onSys (fun y => { y with mtip := false, cache := if keep then y.cache else [] })
  e.when (e.sys.core != .held) (fun t =>
    ((t.checkDrop).onSys (fun y => { y with core := .rom, romFor := some b.tcmChans })).romResume)

/-- RST_CORE (R381): a write of 1 to RST_CTL.CORE. -/
def execRstCore (s : State) : Host.Outcome State Fault Refusal := .next ((s.raise SYS.RST_CAUSE.SW_CORE).coreReset)

/-! The watchdog's expiry (R380) -/

/-- WDT_EXPIRED: the count reaches zero. -/
def State.wdtExpired (s : State) : State :=
  let a := s.bump SYS.WDT_STAT.RESETS
  let n := a.get SYS.WDT_STAT.RESETS
  let esc := a.get SYS.WDT_CTL.ESC_N
  if esc != 0 && esc ≤ n then a.reportSev Src.WDT_EXPIRED 3 0 n
  else (((a.report Src.WDT_EXPIRED 0 n).wdtRestart).raise SYS.RST_CAUSE.WDT).coreReset

/-- WDT_EXPIRED (R380). -/
def execWdtExpired (s : State) : Host.Outcome State Fault Refusal :=
  .next (s.when (s.flag SYS.WDT_CTL.EN && !s.flag SYS.SUMP_STAT.ACTIVE) (·.wdtExpired))

end Sys2Proof.Machine
end

