-- ==== Sys2Proof/Machine/NozzleHealth.lean ====
section
/-! DEFINITION. Head thermal control and nozzle sensing (08_nozzle_health.md): temperature and heater, the analyser and
classes, the live map, publishing, the result ring and the enables; and what a baseline run (R244, R245) takes from
each result. -/

namespace Sys2Proof.Machine

/-! Temperature and heater (R193-R200) -/

/-- Knot i of the thermistor table, signed. -/
def State.knot (s : State) (i : Nat) : Int := signedOf 16 (s.get ⟨NH.TH_LUT (i / 2), 16 * (i % 2), 16⟩)

/-- T of a code (R194). -/
def State.tempOf (s : State) (x : Nat) : Int :=
  let k := x / 128
  s.knot k + Int.tdiv ((s.knot (k + 1) - s.knot k) * (x % 128 : Nat)) 128

/-- T of head h. -/
def State.headTemp (s : State) (h : Nat) : Int := signedOf 16 (s.get (NH.TEMP.T h))

/-- The open fault, once for each episode: no valid temperature, no heat; reported when its flag rises (R195, R222). -/
def State.thermOpen (s : State) (h x : Nat) : State :=
  if (s.nhh h).isOpen then s
  else (((s.drop (NH.HSTAT.TEMP_VALID h)).heatOff h).onNhh h (fun n => { n with isOpen := true })).reportOnce
    (NH.HSTAT.TH_OPEN h) Src.NH_TH_OPEN h x

/-- The short fault, likewise. -/
def State.thermShort (s : State) (h x : Nat) : State :=
  if (s.nhh h).isShort then s
  else (((s.drop (NH.HSTAT.TEMP_VALID h)).heatOff h).onNhh h (fun n => { n with isShort := true })).reportOnce
    (NH.HSTAT.TH_SHORT h) Src.NH_TH_SHORT h x

/-- An episode of either kind is in progress. -/
def NhHead.episode (n : NhHead) : Bool := n.isOpen || n.isShort

/-- The code against the limits (R195). -/
def State.thermCheck (s : State) (h x : Nat) : State :=
  let o := s.get (NH.TH_LIM.OPEN_CODE h) ≤ x
  let c := x ≤ s.get (NH.TH_LIM.SHORT_CODE h)
  let a := s.onNhh h (fun n => { n with
    opens := if o then n.opens + 1 else 0
    shorts := if c then n.shorts + 1 else 0
    good := if o || c then 0 else n.good + 1 })
  let b := a.when (3 ≤ (a.nhh h).opens) (·.thermOpen h x)
  let d := b.when (3 ≤ (b.nhh h).shorts) (·.thermShort h x)
  let e := d.when ((d.nhh h).episode && 3 ≤ (d.nhh h).good) (·.onNhh h (fun n => { n with isOpen := false, isShort := false, integ := 0 }))
  e.put (NH.HSTAT.TEMP_VALID h) (nat01 (!(e.nhh h).episode))

/-- The loop may run (R196). -/
def State.loopRuns (s : State) (h : Nat) : Bool :=
  s.flag (NH.HCTL.HEAT_EN h) && s.flag (NH.HSTAT.TEMP_VALID h) && !s.flag (NH.HSTAT.HEAT_LATCH h)

/-- One update of the loop (R197); a run at DUTY_MAX is noted for R199. -/
def State.loopStep (s : State) (h : Nat) : State :=
  let e := signedOf 16 (s.get (NH.HEAT_SET.SETPOINT h)) - s.headTemp h
  let top := s.get (NH.HEAT_LIM.DUTY_MAX h)
  let i := (clampInt 0 (top * 65536 : Nat) (((s.nhh h).integ : Int) + e * s.get (NH.HEAT_PI.KI h))).toNat
  let d := (clampInt 0 (top : Nat) (Int.tdiv (e * s.get (NH.HEAT_PI.KP h)) 256 + (i / 65536 : Nat))).toNat
  let a := (s.put (NH.HEAT_DUTY.D h) d).put (NH.HEAT_DUTY.I h) (i / 65536)
  (a.put (NH.HSTAT.HEATING h) (nat01 (d != 0))).onNhh h (fun n => { n with
    integ := i
    runT := if d == top then some (n.runT.getD (s.headTemp h)) else none })

/-- A temperature below T_MAX − 32 ends the time off that OVERTEMP began, also while the loop does not run (R198). -/
def State.cooled (s : State) (h : Nat) : State :=
  s.when (decide (s.headTemp h < signedOf 16 (s.get (NH.HEAT_LIM.T_MAX h)) - 32)) (·.onNhh h (fun n => { n with hot := false }))

/-- The loop at a temperature update (R196, R197), and its limit (R198). -/
def State.heatStep (s : State) (h : Nat) : State :=
  if !s.loopRuns h then s.heatOff h
  else
    let t := s.headTemp h
    let lim := signedOf 16 (s.get (NH.HEAT_LIM.T_MAX h))
    if lim ≤ t then
      ((s.heatOff h).onNhh h (fun n => { n with hot := true })).reportOnce (NH.HSTAT.OVERTEMP h) Src.NH_OVERTEMP h
        (s.get (NH.TEMP.T h))
    else if (s.nhh h).hot then s.heatOff h
    else s.loopStep h

/-- The loop at a temperature update (R196-R198). -/
def State.heatLoop (s : State) (h : Nat) : State := (s.cooled h).heatStep h

/-- The heater is latched off (R199, R200). -/
def State.latchHeat (s : State) (h : Nat) : State := (s.raise (NH.HSTAT.HEAT_LATCH h)).heatOff h

/-- NO_RISE (R199): the duty has been DUTY_MAX for RISE_TMO. -/
def execNoRise (h : Nat) (s : State) : Host.Outcome State Fault Refusal :=
  match (s.nhh h).runT with
  | some t0 =>
    .next (s.when (s.headOn h && s.loopRuns h && decide (s.headTemp h - t0 < s.get (NH.RISE_CFG.RISE_MIN h)))
      (fun t => (t.latchHeat h).reportOnce (NH.HSTAT.NO_RISE h) Src.NH_NO_RISE h (t.get (NH.TEMP.T h))))
  | none => .next s

/-- HTR_FAULT (R200): the readback has differed from the driven level for 1 µs. -/
def execHtrFault (h : Nat) (s : State) : Host.Outcome State Fault Refusal :=
  .next (s.when (s.headOn h && s.flag (HPT.PSTATUS.READY h) && !(s.nhh h).hiZ) (fun t =>
    ((t.latchHeat h).onNhh h (fun n => { n with hiZ := true })).reportOnce (NH.HSTAT.HTR_FAULT h) Src.NH_HTR_FAULT h 0))

/-- A write of HEAT_EN: setting it again clears the latch (R200). -/
def State.setHeat (s : State) (h : Nat) (on : Bool) : State :=
  if on == s.flag (NH.HCTL.HEAT_EN h) then s
  else if on then ((s.raise (NH.HCTL.HEAT_EN h)).drop (NH.HSTAT.HEAT_LATCH h)).onNhh h (fun n => { n with hiZ := false })
  else (s.drop (NH.HCTL.HEAT_EN h)).heatOff h

/-! The analyser (R208) -/

/-- max − min of a list; 0 for an empty one. -/
def peakToPeak (l : List Nat) : Nat := l.foldl max 0 - l.foldl min (l.headD 0)

/-- Crossing instants in 1/16 sample. -/
def crossings (l : List Nat) (mean : Int) : List Int :=
  (List.range (l.length - 1)).filterMap (fun k =>
    let a : Int := ((l.getD k 0 : Nat) : Int) - mean
    let b : Int := ((l.getD (k + 1) 0 : Nat) : Int) - mean
    if decide (0 ≤ a) != decide (0 ≤ b) then some ((16 * k : Nat) + Int.tdiv (16 * -a) (b - a)) else none)

/-- F_AMP, F_PER, F_DECAY and M of the samples. -/
structure Residual where
  amp : Nat
  per : Nat
  decay : Nat
  m : Nat
  deriving DecidableEq, Repr

def analyse (vfb : List Nat) : Residual :=
  let l := vfb.take 256
  let m := l.length
  let c := crossings l (roundDiv (l.foldl (· + ·) 0 : Nat) (m : Nat))
  let a1 := peakToPeak (l.take (m / 2))
  { amp := peakToPeak l
    per := if 3 ≤ c.length then (2 * (c.getLast?.getD 0 - c.headD 0) / ((c.length - 1 : Nat) : Int)).toNat else 0
    decay := if a1 == 0 then 0 else min 255 (256 * peakToPeak (l.drop (m / 2)) / a1)
    m := m }

/-! Classes (R209): 0 UNKNOWN, 1 OK, 2 WEAK, 3 CLOG, 4 AIR, 5 DEAD -/

/-- K_d. -/
def SenseCfg.dropScale (s : SenseCfg) (d : Nat) : Nat :=
  match d with
  | 0 => 16
  | 1 => oneIfZero (fieldOf s.ds 0 8)
  | 2 => oneIfZero (fieldOf s.ds 8 8)
  | _ => oneIfZero (fieldOf s.ds 16 8)

/-- ra: the amplitude against the baseline, 128 = equal. -/
def SenseCfg.ampRatio (s : SenseCfg) (f : Residual) (d ampB : Nat) : Nat := 128 * f.amp / max 1 (ampB * s.dropScale d / 16)

/-- rp: the period against the baseline, 128 = equal. -/
def perRatio (f : Residual) (perB : Nat) : Nat := if perB == 0 then Config.ratioNoPeriod f.per else 128 * f.per / perB

/-- AMP_ABS_DEAD. -/
def SenseCfg.absDead (s : SenseCfg) : Nat := fieldOf s.cls2 16 16

/-- The raw class r, by AMP_DEAD, PER_AIR, PER_CLOG, DECAY_CLOG and AMP_WEAK. -/
def SenseCfg.rawClass (s : SenseCfg) (f : Residual) (d ampB perB : Nat) : Nat :=
  if f.amp < s.absDead then 5
  else if ampB == 0 || perB == 0 then 0
  else
    let ra := s.ampRatio f d ampB
    if ra < fieldOf s.cls 16 8 then 5
    else if f.per == 0 then 3
    else
      let rp := perRatio f perB
      if 128 + fieldOf s.cls 8 8 ≤ rp then 4
      else if rp + fieldOf s.cls 0 8 ≤ 128 || fieldOf s.cls2 8 8 ≤ f.decay then 3
      else if ra < fieldOf s.cls 24 8 then 2
      else 1

/-! The live record (R210, R212, R214) -/

def recClass (r : Word) : Nat := fieldOf r 0 3
def recSeen (r : Word) : Bool := fieldOf r 4 1 == 1
def recPend (r : Word) : Nat := fieldOf r 5 3
def recCnt (r : Word) : Nat := fieldOf r 8 4
def recFclass (r : Word) : Nat := fieldOf r 12 3
def recForce (r : Word) : Bool := fieldOf r 15 1 == 1

/-- The class as counted and published: 6 and 7 read as UNKNOWN. -/
def countedClass (c : Nat) : Nat := if c ≤ 5 then c else 0

/-- PEND and CNT after a result of class r. -/
def pendStep (w : Word) (r : Nat) : Nat × Nat :=
  if r == recClass w then (0, 0)
  else if r == recPend w then (r, min 15 (recCnt w + 1))
  else (r, 1)

/-- Results needed for a declaration (R210, R211). -/
def SenseCfg.needed (s : SenseCfg) (w : Word) (r : Nat) : Nat :=
  if r == 1 && recClass w != 0 then oneIfZero (fieldOf s.cls2 4 4)
  else if r == 1 then 1
  else oneIfZero (fieldOf s.cls2 0 4)

/-- One average (R212). -/
def averageStep (seen : Bool) (old ratio : Nat) : Nat :=
  if !seen then min 255 ratio else (clampInt 0 255 ((old : Int) + Int.tdiv ((ratio : Int) - old) 8)).toNat

/-- The record after a result (R210), and whether it declares. -/
def SenseCfg.recordStep (s : SenseCfg) (w : Word) (f : Residual) (d ampB perB r : Nat) : Word × Bool :=
  if r == 0 then (withField w 4 1 1, false)
  else
    let p := pendStep w r
    let decl := p.1 != 0 && s.needed w r ≤ p.2
    let a := if decl then withField (withField (withField w 0 3 p.1) 5 3 0) 8 4 0
             else withField (withField w 5 3 p.1) 8 4 p.2
    let b := if ampB == 0 then a
      else
        let c := withField a 24 8 (averageStep (recSeen w) (fieldOf w 24 8) (s.ampRatio f d ampB))
        if f.per == 0 then c else withField c 16 8 (averageStep (recSeen w) (fieldOf w 16 8) (perRatio f perB))
    (withField b 4 1 1, decl)

/-- Address of the live record and of the baseline entry of nozzle n. -/
def State.mapAddr (s : State) (n : Nat) : Nat := (s.rd NH.MAP_BASE).toNat / 4096 * 4096 + 4 * n
def SenseCfg.baseAddr (c : SenseCfg) (n : Nat) : Nat := c.base.toNat / 4096 * 4096 + 4 * n

/-- Read a word of a table of nozzle sensing. -/
def State.nhRead (s : State) (a : Nat) (x : Access) : State × Word :=
  let r := s.ramRead 13 a 4 x
  (r.1, w32 (bytesNat r.2.2))

/-- Write a word of a table of nozzle sensing. -/
def State.nhWrite (s : State) (a : Nat) (w : Word) (x : Access) : State := (s.ramWrite 13 a (wordBytes w) x).1

/-- Class counter of head h. -/
def classFld (h c : Nat) : Fld :=
  match c with
  | 1 => NH.CLASS_CNT_A.OK h
  | 2 => NH.CLASS_CNT_A.WEAK h
  | 3 => NH.CLASS_CNT_B.CLOG h
  | 4 => NH.CLASS_CNT_B.AIR h
  | 5 => NH.CLASS_CNT_C.DEAD h
  | _ => NH.CLASS_CNT_C.UNKNOWN h

/-- A nozzle of head h moves from one class count to another (R211). -/
def State.countClass (s : State) (h old new : Nat) : State :=
  let t := s.put (classFld h (countedClass old)) (s.get (classFld h (countedClass old)) - 1)
  t.bump (classFld h (countedClass new))

/-- A DEAD nozzle whose entry a publish has written already is held for the swap (R217). -/
def State.holdDead (s : State) (n : Nat) : State :=
  if !s.nh.pubSwap then s
  else if s.nh.held.length < 128 then s.onNh (fun k => { k with held := k.held ++ [n] })
  else (s.onNh (fun k => { k with late := k.late ++ [n] })).reportOnce NH.STATUS.PUB_OVF Src.NH_PUB_OVF 0 n

/-- With AUTO_PUB, the count of changes has reached PUB_CHG (R216). -/
def State.chgReached (s : State) : Bool :=
  s.flag NH.CTL.AUTO_PUB && oneIfZero (s.get NH.PUB_CFG.PUB_CHG) ≤ s.get NH.CHG_CNT.COUNT

/-- A publish is due (R216). -/
def State.autoPublish (s : State) : State := s.when s.chgReached (·.onNh (fun n => { n with pubWait := true }))

/-- A declaration of class c for position j of head h (R211). -/
def State.declare (s : State) (h j old c : Nat) (force : Bool) : State :=
  let detail := c * 2 ^ 16 + j
  let a := ((s.countClass h old c).bump (NH.DECL_CNT.COUNT h)).bump NH.CHG_CNT.COUNT
  let b := if force then a
    else if c == 5 then (((a.kill (4096 * h + j)).holdDead (4096 * h + j)).report Src.NH_DEAD h detail)
    else a.when (2 ≤ c && c ≤ 4 && a.flag NH.CTL.CLASS_EVT) (·.report Src.NH_CLASS h detail)
  b.autoPublish

/-- SUSP_CNT follows the list. -/
def State.syncSuspects (s : State) (h : Nat) : State := s.put (NH.HSTAT.SUSP_CNT h) (s.nhh h).suspects.length

/-- The suspect list after a result that leaves this pending count (R206). -/
def State.suspect (s : State) (h j cnt : Nat) : State :=
  let l := (s.nhh h).suspects
  let t := if cnt == 0 then s.onNhh h (·.dropSuspect j)
    else if l.contains j then s
    else if l.length < 8 then s.onNhh h (fun n => { n with suspects := n.suspects ++ [j] })
    else s.raise (NH.HSTAT.SUSP_OVF h)
  t.syncSuspects h

/-! The result ring (R220) -/

/-- Write a result entry, or drop it when the ring is full. -/
def State.ringResult (s : State) (h : Nat) (k : Samples) (f : Residual) (r cls : Nat) (decl : Bool) : State :=
  let mode := s.get NH.RES_CFG.MODE
  if !(mode == 1 || (mode == 2 && (r != 1 || decl))) then s
  else
    let size := 2 ^ s.get NH.RES_CFG.SIZE_LOG2
    let i := s.get NH.RES_WR.INDEX
    if (i + 1) % size == s.get NH.RES_RD.INDEX % size then s.bump NH.RES_DROP_CNT.COUNT
    else
      let w0 := w32 (h * 2 ^ 28 + k.ds % 4 * 2 ^ 26 + r * 2 ^ 23 + cls * 2 ^ 20 + nat01 decl * 2 ^ 19 + k.pos % 4096)
      let w1 := w32 (f.amp % 2 ^ 16 * 2 ^ 16 + f.per % 2 ^ 16)
      let w2 := w32 (f.decay * 2 ^ 24 + f.m)
      (s.ramWriteWords 13 ((s.rd NH.RES_BASE).toNat / 4096 * 4096 + 16 * i) [w0, w1, w2, w32 k.line]).1.put NH.RES_WR.INDEX
        ((i + 1) % size)

/-! Baseline samples (R244, R245) -/

/-- Does an old value differ from a new one by more than BASE_STEP / 256 of the old? -/
def State.baseJump (s : State) (old new : Nat) : Bool :=
  decide (s.getA CAL.LIM_BASE.BASE_STEP * old < 256 * ((new : Int) - old).natAbs)

/-- Does the old entry stay (R245)? -/
def State.baseKeeps (s : State) (cls : Nat) (old : Word) (amp per : Nat) : Bool :=
  (2 ≤ cls && cls ≤ 5)
    || amp < s.getA CAL.LIM_BASE_AMP.AMP_MIN || s.getA CAL.LIM_BASE_AMP.AMP_MAX < amp
    || per < s.getA CAL.LIM_BASE_PER.PER_MIN || s.getA CAL.LIM_BASE_PER.PER_MAX < per
    || (old != 0#32 && (s.baseJump (fieldOf old 16 16) amp || s.baseJump (fieldOf old 0 16) per))

/-- Change the baseline run of head h. -/
def State.onBase (s : State) (h : Nat) (f : BaseRun → BaseRun) : State :=
  s.onCal (fun c => { c with base := c.base.map (fun b => if b.head == h then f b else b) })

/-- A nozzle has its BASE_N samples: its entry is written or kept; a write waits while an export runs (R252). -/
def State.baseWrite (s : State) (h : Nat) (g : SenseCfg) (a : BaseAcc) (cls : Nat) (old : Word) : State :=
  let amp := a.amp / a.n
  let per := a.per / a.n
  let keep := s.baseKeeps cls old amp per
  let t := s.onBase h (fun b => { b with done := insertAsc b.done a.pos, kept := b.kept || keep,
                                         acc := b.acc.filter (·.pos != a.pos) })
  let at_ := g.baseAddr (4096 * h + a.pos)
  let w := w32 (amp * 2 ^ 16 + per % 2 ^ 16)
  if keep then t
  else if t.flag CAL.REC_STAT.BUSY then t.onCal (fun c => { c with waiting := c.waiting ++ [(at_, w)] })
  else (t.ramWrite 14 at_ (wordBytes w)).1

/-- A baseline run of head h takes a result. -/
def State.baseSample (s : State) (h : Nat) (k : Samples) (f : Residual) (cls : Nat) (old : Word) : State :=
  match s.cal.base.find? (·.head == h) with
  | none => s
  | some b =>
    if k.ds != 0 || !k.atRest || f.per == 0 || f.amp < k.cfg.absDead || b.done.contains k.pos then s
    else
      let a0 := (b.acc.find? (·.pos == k.pos)).getD { pos := k.pos }
      let a : BaseAcc := { a0 with n := a0.n + 1, amp := a0.amp + f.amp, per := a0.per + f.per }
      if clampNat 1 15 (s.getA CAL.LIM_BASE.BASE_N) ≤ a.n then s.baseWrite h k.cfg a cls old
      else s.onBase h (fun b => { b with acc := b.acc.filter (·.pos != k.pos) ++ [a] })

/-! Results -/

/-- The result of a sense of head h (R207-R212), by the class-B values of its line (R223). -/
def State.senseResult (s : State) (h : Nat) (k : Samples) (x : Access) : State :=
  let f := analyse k.vfb
  if f.m < 8 then s.countSkip h k.pos k.scan
  else
    let n := 4096 * h + k.pos
    let b := s.nhRead (k.cfg.baseAddr n) x
    let w := b.1.nhRead (b.1.mapAddr n) x
    let t := w.1.bump (NH.SENSE_CNT.COUNT h)
    let ampB := fieldOf b.2 16 16
    let perB := fieldOf b.2 0 16
    let r := k.cfg.rawClass f k.ds ampB perB
    let v := k.cfg.recordStep w.2 f k.ds ampB perB r
    let a := t.nhWrite (t.mapAddr n) v.1 x
    let c := a.when v.2 (·.declare h k.pos (recClass w.2) (recClass v.1) (recForce w.2))
    let d := c.when (r != 0) (·.suspect h k.pos (recCnt v.1))
    (d.ringResult h k f r (recClass v.1) v.2).baseSample h k f (recClass v.1) b.2

/-- SENSE_RESULT (R208-R212): the analyser's oldest samples of head h are ready. -/
def execSenseResult (h : Nat) (x : Access) (s : State) : Host.Outcome State Fault Refusal :=
  match (s.nhh h).results with
  | [] => .next s
  | k :: rest =>
    let t := s.onNhh h (fun n => { n with results := rest })
    .next (t.when (t.flag NH.CTL.EN) (·.senseResult h k x))

/-! Firmware overrides (R213) -/

/-- A write of NH.FORCE. -/
def State.forceRecord (s : State) (v : Word) (x : Access) : State :=
  let n := fieldOf v 0 16
  let a := s.mapAddr n
  if !inSram a 4 then s
  else
    let r := s.nhRead a x
    if fieldOf v 30 1 == 1 then
      let t := (r.1.nhWrite a 0#32 x).countClass (n / 4096) (recClass r.2) 0
      t.suspect (n / 4096) (n % 4096) 0
    else if fieldOf v 31 1 == 0 then r.1.nhWrite a (withField (withField r.2 15 1 1) 12 3 (fieldOf v 24 3)) x
    else r.1.nhWrite a (withField r.2 15 1 0) x

/-- FORCE (R213): the word written. -/
def execForceClass (v : Word) (x : Access) (s : State) : Host.Outcome State Fault Refusal := .next (s.forceRecord v x)

/-- A write of STATE_CLR: every record of the head is 0. -/
def State.stateClr (s : State) (h : Nat) : State :=
  let a := s.mapAddr (4096 * h)
  let t := s.when (inSram a 16384) (fun u => (u.ramWrite 13 a (List.replicate 16384 0#8)).1)
  let u := ((t.wr (NH.CLASS_CNT_A h) 0#32).wr (NH.CLASS_CNT_B h) 0#32).wr (NH.CLASS_CNT_C h) 0x10000000#32
  (u.onNhh h (fun n => { n with suspects := [], passed := 0 })).syncSuspects h

/-- STATE_CLR (R213). -/
def execStateClr (h : Nat) (s : State) : Host.Outcome State Fault Refusal := .next (s.when (s.headOn h) (·.stateClr h))

/-! Publishing (R215-R217) -/

/-- PUBLISH_REQ (R216). -/
def execPublishReq (s : State) : Host.Outcome State Fault Refusal := .next (s.onNh (fun n => { n with pubWait := true }))

/-- PUB_TMO (R216): the time since the first uncounted change has passed. -/
def execPubTmo (s : State) : Host.Outcome State Fault Refusal :=
  .next (s.when (s.flag NH.CTL.AUTO_PUB && s.get NH.PUB_CFG.PUB_TMO != 0 && s.get NH.CHG_CNT.COUNT != 0)
    (·.onNh (fun n => { n with pubWait := true })))

/-- The HEALTH entry of nozzle n (R215). -/
def State.healthEntry (s : State) (n : Nat) : Nat :=
  let h := n / 4096
  if !s.headOn h || s.get (NH.HCTL.NNOZ h) ≤ n % 4096 then 0
  else
    let r := s.word (s.mapAddr n)
    if recForce r then 8 + recFclass r else countedClass (recClass r)

/-- The 32 KB of a HEALTH copy. -/
def State.healthBytes (s : State) : List Byte :=
  (List.range 32768).map (fun i => BitVec.ofNat 8 (s.healthEntry (2 * i) + 16 * s.healthEntry (2 * i + 1)))

/-- The inactive HEALTH copy. -/
def State.healthIdle (s : State) : Nat :=
  (s.rd (if s.get CMP.TBL_ACTIVE.HEALTH == 0 then CMP.HEALTH_BASE_1 else CMP.HEALTH_BASE_0)).toNat / 4096 * 4096

/-- A publish begins, once no HEALTH swap is requested, and writes the inactive copy (steps 2 and 3 of R216). From here to
the swap, DEAD declarations are held (R217). -/
def State.publishBegin (s : State) (x : Access) : State :=
  let a := ((s.wr NH.CHG_CNT 0#32).raise NH.STATUS.PUB_BUSY).onNh (fun n => { n with pubWait := false, pubSwap := true })
  let b := (a.ramRead 13 (a.mapAddr 0) 0x40000 x).1
  (b.ramWrite 13 b.healthIdle b.healthBytes).1

/-- A publish requests the HEALTH swap and ends (steps 4 and 5 of R216). -/
def State.publishEnd (s : State) : State := ((s.requestSwap 1).drop NH.STATUS.PUB_BUSY).bump NH.PUB_CNT.COUNT

/-- PUBLISH (R216): a publish in progress ends; else one begins that is requested, or that the count of changes asks for,
whichever way it came to. -/
def execPublish (x : Access) (s : State) : Host.Outcome State Fault Refusal :=
  if s.flag NH.STATUS.PUB_BUSY then .next s.publishEnd
  else .next (s.when ((s.nh.pubWait || s.chgReached) && s.flag NH.CTL.EN && s.get ⟨SYS.TBL_SWAP, 0, 1⟩ == 0) (·.publishBegin x))

/-! Enables (R223) -/

/-- Why CTL.EN is refused. -/
def State.nhFault (s : State) : Option Nat :=
  let mode := s.get NH.RES_CFG.MODE
  let lg := s.get NH.RES_CFG.SIZE_LOG2
  let rb := (s.rd NH.RES_BASE).toNat / 4096 * 4096
  let size := 16 * 2 ^ lg
  if !inSram (s.mapAddr 0) 0x40000 || !inSram (s.senseCfg.baseAddr 0) 0x40000 then some 1
  else if (mode == 1 || mode == 2) && (lg < 6 || 14 < lg || !inSram rb size || rb % size != 0) then some 2
  else none

/-- A write that sets NH.CTL.EN. -/
def State.nhEnable (s : State) : State :=
  if s.flag NH.CTL.EN then s
  else match s.nhFault with
    | some c => s.reportOnce NH.STATUS.CFG_ERR Src.NH_CFG 255 c
    | none => s.raise NH.CTL.EN

/-- NH_ENABLE (R223). -/
def execNhEnable (s : State) : Host.Outcome State Fault Refusal := .next s.nhEnable

/-- A write that clears NH.CTL.EN: both copies of its class-B fields are the same again. -/
def State.nhDisable (s : State) : State := (s.drop NH.CTL.EN).loadB 0x40200000 0x40220000

/-- Why HCTL_h.SENSE_EN is refused. -/
def State.senseFault (s : State) (h : Nat) : Option Nat :=
  let n := s.get (NH.HCTL.NNOZ h)
  let st := s.get (NH.HCTL.SCAN_STEP h)
  if !s.headOn h then some 5
  else if n == 0 || 4096 < n then some 3
  else if st == 0 || n ≤ st || Nat.gcd st n != 1 then some 4
  else none

/-- A write that sets HCTL_h.SENSE_EN (R204, R223). -/
def State.senseEnable (s : State) (h : Nat) : State :=
  if s.flag (NH.HCTL.SENSE_EN h) then s
  else match s.senseFault h with
    | some c => s.reportOnce NH.STATUS.CFG_ERR Src.NH_CFG h c
    | none => ((s.raise (NH.HCTL.SENSE_EN h)).put (NH.SCAN.POS h) 0).onNhh h (fun n => { n with steps := 0 })

/-- SENSE_EN (R204, R223). -/
def execSenseEn (h : Nat) (s : State) : Host.Outcome State Fault Refusal := .next (s.when (h < 16) (·.senseEnable h))

end Sys2Proof.Machine
end

