-- ==== Sys2Proof/Machine/Points.lean ====
section
/-! DEFINITION. The calibration point store, the derived values and the live set (09_calibration.md, Points and the live
set). -/

namespace Sys2Proof.Machine

/-- Issuer of the calibration block's accesses: its source group. -/
def calIssuer : Nat := 14

/-- Address of the entry of element e at point k (R225), and of entry e of live copy i (R228). -/
def State.pointAddr (s : State) (e k : Nat) : Nat := (s.rd CAL.POINT_BASE).toNat / 4096 * 4096 + 48 * (8 * e + k)
def State.liveAddr (s : State) (i e : Nat) : Nat :=
  (s.rd (if i == 0 then CAL.LIVE_BASE_0 else CAL.LIVE_BASE_1)).toNat / 4096 * 4096 + 48 * e

/-- The 12 words of a point. -/
def State.point (s : State) (e k : Nat) : List Word := bytesWords 12 (s.bytes (s.pointAddr e k) 48)

def pValid (p : List Word) : Bool := wf p 0 31 1 == 1
def pTemp (p : List Word) : Int := signedOf 16 (wf p 0 0 16)

/-- Insert a point in ascending T_MEAS; a point with a T_MEAS that is there already is left out (R227: the lower k). -/
def insertPoint (p : List Word) : List (List Word) → List (List Word)
  | [] => [p]
  | q :: t => if pTemp p < pTemp q then p :: q :: t else if pTemp p == pTemp q then q :: t else q :: insertPoint p t

/-- The valid points of element e, ascending; axis and Tide elements use point 0 only. -/
def State.validPoints (s : State) (e : Nat) : List (List Word) :=
  (((List.range (if 64 ≤ e then 1 else 8)).map (s.point e)).filter pValid).foldl (fun l p => insertPoint p l) []

/-- The last point at or below T and the first above it. -/
def bracket (t : Int) (l : List (List Word)) : Option (List Word) × Option (List Word) :=
  ((l.filter (fun p => pTemp p ≤ t)).getLast?, l.find? (fun p => t < pTemp p))

/-- The valid point nearest T; a tie goes to the lower T_MEAS (R227). -/
def nearestPoint (t : Int) (l : List (List Word)) : Option (List Word) :=
  match bracket t l with
  | (some a, some b) => some (if pTemp b - t < t - pTemp a then b else a)
  | (some a, none) => some a
  | (none, b) => b

/-- Interpolation between two points of different T_MEAS (R227). -/
def interpolate (t : Int) (a b : List Word) (val : List Word → Int) : Int :=
  let w := (t - pTemp a) * 65536 / (pTemp b - pTemp a)
  val a + (val b - val a) * w / 65536

/-- A continuous field at temperature T (R227). -/
def continuous (t : Int) (l : List (List Word)) (neutral : Int) (val : List Word → Int) : Int :=
  match bracket t l with
  | (some a, some b) => interpolate t a b val
  | (some a, none) => val a
  | (none, some b) => val b
  | (none, none) => neutral

/-- A field as unsigned or signed. -/
def fieldU (i lo w : Nat) (p : List Word) : Int := (wf p i lo w : Int)
def fieldS (i lo w : Nat) (p : List Word) : Int := signedOf w (wf p i lo w)

/-- A word from fields given as integers: position, width and value. -/
def packFields (l : List (Nat × (Nat × Int))) : Word :=
  l.foldl (fun x f => withField x f.1 f.2.1 (unsignedOf f.2.1 f.2.2)) 0#32

/-- CELL_MASK with cells 0 to 62 in use, as words 6 to 8. -/
def neutralCells : List Word := [0xFFFFFFFF#32, 0x7FFFFFFF#32, 0#32]

/-- The derived entry of a channel at T (R227). -/
def deriveChannel (t : Int) (l : List (List Word)) : List Word :=
  let near := nearestPoint t l
  let word5 := match near with | some p => packFields [(8, (1, fieldU 5 8 1 p)), (0, (6, fieldU 5 0 6 p))] | none => 0#32
  let cells := match near with | some p => [wordAt p 6, wordAt p 7, w32 (wf p 8 0 8)] | none => neutralCells
  [packFields [(31, (1, if l.isEmpty then 0 else 1)), (0, (16, t))],
   packFields [(16, (16, continuous t l 0x8000 (fieldU 1 16 16))), (0, (16, continuous t l 0x8000 (fieldU 1 0 16)))],
   packFields [(0, (24, continuous t l 0 (fieldS 2 0 24)))],
   packFields [(16, (16, continuous t l 0x8000 (fieldU 3 16 16))), (0, (14, continuous t l 8192 (fieldU 3 0 14)))],
   packFields [(16, (16, continuous t l 0 (fieldS 4 16 16)))],
   word5] ++ cells ++ [0#32, 0#32, 0#32]

/-- DLY_FRAC at T: interpolated only between points of the nearest point's DL_SEL (R227). -/
def deriveFrac (t : Int) (l : List (List Word)) : Int :=
  match nearestPoint t l, bracket t l with
  | some n, (some a, some b) =>
    if wf a 1 0 2 == wf n 1 0 2 && wf b 1 0 2 == wf n 1 0 2 then interpolate t a b (fieldU 2 0 16) else fieldU 2 0 16 n
  | some n, _ => fieldU 2 0 16 n
  | none, _ => 0x8000

/-- The derived entry of a delay path at T; the diagnostic delays are the nearest point's. -/
def deriveDelay (t : Int) (l : List (List Word)) : List Word :=
  let near := (nearestPoint t l).getD []
  [packFields [(31, (1, if l.isEmpty then 0 else 1)), (0, (16, t))], w32 (wf near 1 0 2), packFields [(0, (16, deriveFrac t l))]]
    ++ (List.range 4).map (fun k => w32 (wf near (3 + k) 0 16)) ++ List.replicate 5 0#32

/-- The derived entry of an axis or of Tide: point 0, without a temperature. -/
def deriveAxis (l : List (List Word)) : List Word :=
  let p := l.headD []
  [packFields [(31, (1, if l.isEmpty then 0 else 1))], wordAt p 1, wordAt p 2] ++ List.replicate 9 0#32

/-- The derived entry of element e at T. -/
def State.derive (s : State) (e : Nat) (t : Int) : List Word :=
  let l := s.validPoints e
  if e < 48 then deriveChannel t l else if e < 64 then deriveDelay t l else deriveAxis l

/-! Temperatures (R224, R231) -/

/-- TS_i, 1/16 °C. -/
def State.dieTemp (s : State) (i : Nat) : Nat :=
  s.get ⟨if i < 2 then CAL.DIE_TEMP_01 else CAL.DIE_TEMP_23, 16 * (i % 2), 16⟩

/-- Head of an element. -/
def elemHead (e : Nat) : Nat := if e < 48 then headOf e else e % 16

/-- The code of the element's temperature; an axis has no source. -/
def State.elemTemp (s : State) (e : Nat) : Nat :=
  if e < 64 then s.dieTemp (elemHead e / 4) else if 80 ≤ e && e < 112 then s.get (NH.TEMP.T (elemHead e)) else 0

/-- The element's temperature source is valid. -/
def State.tempOk (s : State) (e : Nat) : Bool := e < 64 || (80 ≤ e && s.flag (NH.HSTAT.TEMP_VALID (elemHead e)))

/-! Rebuilds (R229) -/

/-- A rebuild is due. -/
def State.askRebuild (s : State) : State := (s.onCal (fun c => { c with rebuild := true })).raise CAL.STATUS.REBUILD

/-- The temperature trigger of R229 for the active live entries. -/
def State.rebuildTemps (s : State) : State :=
  s.when (s.flag CAL.CTL.EN && (List.range 64).any (fun e =>
    oneIfZero (s.getA CAL.DT_CFG.RECALC_DT)
      ≤ (signedOf 16 (s.elemTemp e) - signedOf 16 (fieldOf (s.liveWord e 0) 0 16)).natAbs)) (·.askRebuild)

/-- Write the inactive copy and request the swap. -/
def State.rebuild (s : State) (x : Access) : State :=
  let i := 1 - s.get CAL.LIVE_ACTIVE.COPY
  let a := s.each (List.range 69) (fun e t =>
    (t.ramWriteWords calIssuer (s.liveAddr i e) (s.derive e (signedOf 16 (s.elemTemp e))) x).1)
  ((a.onCal (fun c => { c with rebuild := false })).drop CAL.STATUS.REBUILD).requestSwap 8

/-- REBUILD (R229): it waits while a CAL swap is pending. -/
def execRebuild (x : Access) (s : State) : Host.Outcome State Fault Refusal :=
  .next (s.when (s.cal.rebuild && s.get ⟨SYS.TBL_SWAP, 3, 1⟩ == 0) (·.rebuild x))

/-- A write of RECALC. -/
def State.recalc (s : State) : State := s.askRebuild

/-- RECALC (R229). -/
def execRecalc (s : State) : Host.Outcome State Fault Refusal := .next s.recalc

/-! Limits (R248) -/

/-- NPOINTS and TP_k. -/
def State.tempPoint (s : State) (k : Nat) : Int := signedOf 16 (s.get ⟨CAL.TP_01 + 4 * (k / 2), 16 * (k % 2), 16⟩)

/-- The point whose TP lies nearest T; a tie goes to the lower k (R226). -/
def State.nearestTp (s : State) (t : Int) : Nat :=
  ((List.range (min 8 (s.get CAL.TP_CNT.NPOINTS))).foldl (fun (b : Nat × Nat) k =>
    let d := (s.tempPoint k - t).natAbs
    if k == 0 || d < b.2 then (k, d) else b) (0, 0)).1

/-- The continuous fields of a channel, as integers of any size: a result is checked before it is packed. -/
structure ChanVals where
  gain : Int
  vgain : Int
  ofs : Int
  igain : Int
  izero : Int
  vzero : Int
  deriving DecidableEq, Repr

/-- Those of a point entry. -/
def chanVals (p : List Word) : ChanVals :=
  { gain := fieldU 1 16 16 p, vgain := fieldU 1 0 16 p, ofs := fieldS 2 0 24 p, igain := fieldU 3 16 16 p
    izero := fieldU 3 0 14 p, vzero := fieldS 4 16 16 p }

/-- The first absolute limit that channel values break, as its QTY. -/
def State.channelLimit (s : State) (v : ChanVals) : Option Nat :=
  let dev := s.getA CAL.LIM_FB.FB_DEV
  let z := s.getA CAL.LIM_FB.FB_ZERO_MAX
  if v.gain < s.getA CAL.LIM_GAIN.GAIN_MIN || (s.getA CAL.LIM_GAIN.GAIN_MAX : Int) < v.gain then some 1
  else if s.getA CAL.LIM_OFS.OFS_MAX < v.ofs.natAbs then some 2
  else if dev < (v.vgain - 32768).natAbs || z < v.vzero.natAbs then some 3
  else if dev < (v.igain - 32768).natAbs || z < (v.izero - 8192).natAbs then some 4
  else none

/-- OFS_q of an axis entry. -/
def ofs (q : Nat) (p : List Word) : Int := fieldS (1 + q / 2) (16 * (q % 2)) 16 p

/-- An axis entry breaks its absolute limit. -/
def State.axisLimit (s : State) (p : List Word) : Bool :=
  (List.range 4).any (fun q => s.getA CAL.LIM_ENC.ENC_OFS_MAX < (ofs q p).natAbs)

/-- The first limit, absolute (0x30) or step (0x31), that a channel result breaks, with the QTY; old are the values that
R227 gives from the points before the run. -/
def State.channelCheck (s : State) (p old : ChanVals) (hasOld : Bool) : Option (Nat × Nat) :=
  let far := fun (f : ChanVals → Int) (lim : Nat) => hasOld && lim < (f p - f old).natAbs
  let l := s.channelLimit p
  let abs := fun q => l == some q
  if abs 1 then some (0x30, 1)
  else if far (·.gain) (s.getA CAL.LIM_GAIN2.GAIN_STEP) then some (0x31, 1)
  else if abs 2 then some (0x30, 2)
  else if far (·.ofs) (256 * s.getA CAL.LIM_OFS.OFS_STEP) then some (0x31, 2)
  else if abs 3 then some (0x30, 3)
  else if far (·.vgain) (s.getA CAL.LIM_FB.FB_STEP) then some (0x31, 3)
  else if abs 4 then some (0x30, 4)
  else if far (·.igain) (s.getA CAL.LIM_FB.FB_STEP) then some (0x31, 4)
  else none

end Sys2Proof.Machine
end

