-- ==== Sys2Proof/Machine/Calibration.lean ====
section
/-! DEFINITION. Calibration runs (09_calibration.md): what makes an element pending, the two lanes, the runs and their
results. -/

namespace Sys2Proof.Machine

/-! Pending elements (R224, R231) -/

/-- The element exists on the part and has a run; a request for any other is ignored. -/
def State.elemOk (s : State) (e : Nat) : Bool :=
  if e < 48 then s.chanOn e
  else if e < 64 then s.headOn (e - 48)
  else if e < 68 then true
  else (80 ≤ e && e < 112) && s.headOn (e % 16)

/-- The PEND bit of an element. -/
def pendFld (e : Nat) : Fld := ⟨CAL.PEND (e / 32), e % 32, 1⟩

/-- A run of the element is in progress. -/
def State.runsNow (s : State) (e : Nat) : Bool :=
  (match s.cal.meas with | some r => r.elem == e | none => false) || s.cal.base.any (fun b => 80 + b.head == e)

/-- An automatic trigger of R231 holds for the element. -/
def State.autoDue (s : State) (e : Nat) : Bool :=
  s.flag CAL.CTL.EN && s.flag CAL.CTL.AUTO && s.flag ⟨CAL.AUTO_MASK (e / 32), e % 32, 1⟩ && s.elemOk e && !s.runsNow e
    && (!s.cal.done.contains e || (s.tempOk e
      && clampNat 8 160 (s.getA CAL.DT_CFG.CAL_DT) < (signedOf 16 (s.elemTemp e) - signedOf 16 (s.get (CAL.T_LAST.T e))).natAbs))

/-- Elements become pending by their automatic triggers. -/
def State.calTriggers (s : State) : State :=
  s.each ((List.range 112).filter s.autoDue) (fun e t => t.raise (pendFld e))

/-- DIE_TEMP_SAMPLE (R224, R229, R231): the four die sensors read these codes. -/
def execDieTempSample (t0 t1 t2 t3 : Nat) (s : State) : Host.Outcome State Fault Refusal :=
  let a := (s.wr CAL.DIE_TEMP_01 (w32 (t1 % 2 ^ 16 * 2 ^ 16 + t0 % 2 ^ 16))).wr CAL.DIE_TEMP_23
    (w32 (t3 % 2 ^ 16 * 2 ^ 16 + t2 % 2 ^ 16))
  .next (a.calTriggers.rebuildTemps)

/-- TEMP_MEASURE (R193-R198): the code x of the measurement; a new temperature may make elements pending (R231). -/
def execTempMeasure (h x : Nat) (s : State) : Host.Outcome State Fault Refusal :=
  if s.headOn h && s.flag (HPT.PSTATUS.READY h) then
    let y := min 4095 x
    let a := (s.put (NH.TEMP.RAW h) y).put (NH.TEMP.T h) (unsignedOf 16 (s.tempOf y))
    .next ((a.thermCheck h y).heatLoop h).calTriggers
  else .next s

/-- A write of an element to CAL.REQ; one for an element that has no run is ignored (R224), which WRITE_IGNORED shows
(R34). -/
def State.calRequest (s : State) (e : Nat) : State :=
  if s.elemOk e then s.raise (pendFld e) else s.raise CAL.STATUS.WRITE_IGNORED

/-- CAL_REQ (R231). -/
def execCalReq (e : Nat) (s : State) : Host.Outcome State Fault Refusal := .next (s.calRequest e)

/-! Ends of runs (R233, R249) -/

/-- The pending bit clears, and the episode of deferrals with it. -/
def State.notPending (s : State) (e : Nat) : State :=
  (s.drop (pendFld e)).onCal (fun c => { c with deferred := c.deferred.filter (· != e) })

/-- A run completes with a code: PASS, PARTIAL or a limit failure. -/
def State.calDone (s : State) (e code qty pt t : Nat) : State :=
  let a := ((s.calResult e code qty pt t).put (CAL.T_LAST.T e) t).notPending e
  let b := a.onCal (fun c => { c with done := insertAsc c.done e })
  if 0x30 ≤ code then
    (b.bump CAL.FAIL_CNT.COUNT).report (if code == 0x32 then Src.CAL_REF else Src.CAL_LIMIT) e (b.rd (CAL.RES e)).toNat
  else b

/-- The element cannot be run at all. -/
def State.calNotReady (s : State) (e t : Nat) : State := (s.calResult e 0x13 0 0 t).notPending e

/-- A run is deferred: CAL_DEFER is reported for the first deferral of the pending episode. -/
def State.calDefer (s : State) (e code t : Nat) : State :=
  let a := ((s.calResult e code 0 0 t).bump CAL.DEFER_CNT.COUNT).calRetry e
  if a.cal.deferred.contains e then a
  else (a.onCal (fun c => { c with deferred := insertAsc c.deferred e })).report Src.CAL_DEFER e (a.rd (CAL.RES e)).toNat

/-- A run on the measurement lane is over: a drive rail returns to NONE (R129, R238 step 7). -/
def State.releaseLane (s : State) : State :=
  match s.cal.meas with
  | some r =>
    let a := s.freeLane
    a.when (r.elem < 32 && a.flag (WFE.HEAD_STAT.CAL_TAKE (headOf r.elem))) (fun t =>
      (t.releaseRail (headOf r.elem)).restartFrame (headOf r.elem))
  | none => s

/-- Abort the measurement-lane run by firmware (R240): the port's frame restarts with the rail state. -/
def State.calAbortBy (s : State) (code : Nat) : State :=
  match s.cal.meas with
  | some r =>
    let took := r.elem < 32 && s.flag (WFE.HEAD_STAT.CAL_TAKE (headOf r.elem))
    (s.calAbortRun code).when took (·.restartFrame (headOf r.elem))
  | none => s

/-- CTL_ABORT (R240): a write of 1 to CTL.ABORT. -/
def execCtlAbort (s : State) : Host.Outcome State Fault Refusal := .next (s.calAbortBy 0x26)

/-- RETRY_TMO (R233): the element may start again. -/
def execRetryTmo (e : Nat) (s : State) : Host.Outcome State Fault Refusal :=
  .next (s.onCal (fun c => { c with retry := c.retry.filter (· != e) }))

/-! The measurement lane (R232) -/

/-- The element that the lane starts next. -/
def State.nextElem (s : State) : Option Nat :=
  if !s.flag CAL.CTL.EN || s.cal.meas.isSome then none
  else
    let first := match s.cal.last with | some l => l + 1 | none => 0
    ((List.range 68).map (fun i => (first + i) % 68)).find? (fun e => s.flag (pendFld e) && !s.cal.retry.contains e)

/-- The lane starts element e: it is the one it last started. -/
def State.beginElem (s : State) (e : Nat) : State := s.onCal (fun c => { c with last := some e })

/-- The lane runs element e. -/
def State.takeLane (s : State) (e t : Nat) (holds : Bool) : State :=
  let a := s.onCal (fun c => { c with meas := some { elem := e, tRun := t, holds := holds }, stopDue := false })
  (a.wr CAL.CUR (w32 (2 ^ 31 + e * 2 ^ 16 + t))).raise CAL.STATUS.MEAS_BUSY

/-- The channel of the run is held (R238). -/
def State.holdChannel (s : State) : State :=
  match s.cal.meas with
  | some r => (s.onCal (fun c => { c with meas := some { r with holds := true } })).onChan r.elem (fun k => { k with cal := true })
  | none => s

/-- Start a channel run (R237): a drive channel asks for the takeover of its rail (R129), an S channel needs its head out
of the running and the armed job. -/
def State.startChannelRun (s : State) (c : Nat) : State :=
  let t := s.elemTemp c
  let h := headOf c
  let a := s.beginElem c
  if !a.chReady c then a.calNotReady c t
  else if 32 ≤ c then
    if a.headInJob h then a.calDefer c 0x11 t else ((a.takeLane c t false)).holdChannel
  else if a.get (WFE.HEAD_STAT.RAIL_STATE h) == 0 && a.flag (WFE.HEAD_STAT.SETTLED h) && a.chReady (32 + h)
      && !a.chFaulted (32 + h) && !a.flag (WFE.HEAD_STAT.SENSE_LOST h) then
    ((a.takeLane c t false).raise (WFE.HEAD_STAT.CAL_TAKE h)).setRail h (c % 2 + 1)
  else a.calDefer c 0x10 t

/-- CHANNEL_RUN (R237, R238): the lane starts its next element when that is a channel; a run whose takeover has settled
obtains its channel. -/
def execChannelRun (s : State) : Host.Outcome State Fault Refusal :=
  match s.cal.meas with
  | some r => .next (s.when (r.elem < 32 && !r.holds && s.flag (WFE.HEAD_STAT.SETTLED (headOf r.elem))) (·.holdChannel))
  | none =>
    match s.nextElem with
    | some e => .next (s.when (e < 48) (·.startChannelRun e))
    | none => .next s

/-- DELAY_PATH_RUN (R241). -/
def execDelayPathRun (s : State) : Host.Outcome State Fault Refusal :=
  match s.nextElem with
  | some e => .next (s.when (48 ≤ e && e < 64) (fun t => (t.beginElem e).takeLane e (t.elemTemp e) true))
  | none => .next s

/-- ENCODER_RUN (R242): the axis must be enabled in QUAD mode. -/
def execEncoderRun (s : State) : Host.Outcome State Fault Refusal :=
  match s.nextElem with
  | some e => .next (s.when (64 ≤ e) (fun t =>
      if t.axOn (e - 64) && t.axMode (e - 64) == 0 then (t.beginElem e).takeLane e 0 true else (t.beginElem e).calNotReady e 0))
  | none => .next s

/-- ENC_TMO (R242): no complete window has been collected in time. -/
def execEncTmo (s : State) : Host.Outcome State Fault Refusal :=
  match s.cal.meas with
  | some r => .next (s.when (64 ≤ r.elem && r.edges.length < s.encNeed) (·.calAbortRun 0x25))
  | none => .next s

/-! Results of the measurement lane (R238-R243, R248) -/

/-- Write a result into its point and make a rebuild due (R226, R229). -/
def State.writePoint (s : State) (e k : Nat) (p : List Word) : State :=
  ((s.ramWriteWords calIssuer (s.pointAddr e k) p).1).askRebuild

/-- Insert into a list ascending by a key; a later equal key goes after. -/
def insertBy {α : Type} (key : α → Nat) (x : α) : List α → List α
  | [] => [x]
  | y :: t => if key x < key y then x :: y :: t else y :: insertBy key x t

/-- Cells whose weight differs too much from the median (R239); twice the median keeps it whole. -/
def State.badCells (s : State) (ws : List Nat) (med2 : Nat) : List Nat :=
  (List.range 72).filter (fun i => s.getA CAL.CELL_CFG.CELL_TOL * med2 < 65536 * ((2 * ws.getD i 0 : Int) - med2).natAbs)

/-- The 9 unused cells (R239): the bad ones, then the good ones furthest from the median, of equal distance the higher
index first. -/
def unusedCells (ws : List Nat) (med2 : Nat) (bad : List Nat) : List Nat :=
  let dist := fun i => ((2 * ws.getD i 0 : Int) - med2).natAbs
  let good := (List.range 72).filter (fun i => !bad.contains i)
  let far := (good.foldl (fun l i => insertBy dist i l) []).reverse
  bad ++ far.take (9 - bad.length)

/-- Twice the median of the 72 weights. -/
def median2 (ws : List Nat) : Nat :=
  let l := (List.range 72).foldl (fun l i => insertBy id (ws.getD i 0) l) []
  l.getD 35 0 + l.getD 36 0

/-- CELL_MASK as three words. -/
def cellWords (unused : List Nat) : List Word :=
  let m := ((List.range 72).filter (fun i => !unused.contains i)).foldl (fun a i => a + 2 ^ i) 0
  [w32 m, w32 (m / 2 ^ 32), w32 (m / 2 ^ 64)]

/-- TGT of a channel's rail. -/
def State.target3 (s : State) (c : Nat) : Nat :=
  match railIndex c with
  | 0 => s.getA CAL.RAIL_TGT.TGT_A
  | 1 => s.getA CAL.RAIL_TGT.TGT_B
  | _ => s.getA CAL.RAIL_CFG.TGT_S

/-- Mean of n VFB counts in sample units, through the corrected converter v (R236, R238; log entry 90). -/
def State.meanUnits (s : State) (v : ConvMeas) (sum n : Nat) : Int :=
  let x := ((sum : Int) - n * v.zero) * v.gain
  let div := s.get CAL.AMP_DIV.DIV
  if div == 0 then Config.feedbackNoDiv (roundDiv x (n * 32768)) else roundDiv (x * 2 ^ 34) (n * 32768 * 48 * div) - 2 ^ 23

/-- GAIN = TGT × 32,768 / g with g = 32,768 × measured / ideal excursion (R238); without an excursion the spec gives no
result. -/
def gainOf (tgt : Nat) (ideal measured : Int) : Int :=
  if measured == 0 then (Config.gainNoSwing tgt : Nat) else roundDiv (tgt * ideal) measured

/-- What a channel run computes (R238). -/
structure ChanResult where
  vals : ChanVals
  swap : Nat
  loop : Option Nat
  deriving DecidableEq, Repr

/-- The results of a channel run from its measurements (R238); VFB takes the converter of the smaller nonlinearity, a tie
keeps the present assignment. -/
def State.channelResult (s : State) (c : Nat) (d : CalMeas) : ChanResult :=
  let now := s.liveField c 5 8 1 0
  let swap := if d.conv0.inl < d.conv1.inl then 0 else if d.conv1.inl < d.conv0.inl then 1 else now
  let v := if swap == 0 then d.conv0 else d.conv1
  let i := if swap == 0 then d.conv1 else d.conv0
  let code := s.get (WFE.REST.CODE c)
  let rest : Int := signedOf 16 (code ^^^ 0x8000) * 256
  let ideal : Int := 256 * ((min 0xFFFF (code + 0x2000) - (code - 0x2000) : Nat) : Int)
  let atRest := s.meanUnits v d.restSum 256
  { vals :=
      { gain := gainOf (s.target3 c) ideal (s.meanUnits v d.highSum 256 - s.meanUnits v d.lowSum 256)
        vgain := v.gain
        ofs := rest - atRest
        igain := i.gain
        izero := roundDiv d.ifbSum 256
        vzero := v.zero }
    swap := swap
    loop := (d.stepVfb.take 64).findIdx? (fun x => decide (atRest + 0x800 * 256 ≤ s.meanUnits v x 1)) }

/-- The point entry of a channel result. -/
def ChanResult.entry (r : ChanResult) (t : Nat) (unused : List Nat) (loop : Nat) : List Word :=
  [packFields [(31, (1, 1)), (0, (16, t))],
   packFields [(16, (16, r.vals.gain)), (0, (16, r.vals.vgain))],
   packFields [(0, (24, r.vals.ofs))],
   packFields [(16, (16, r.vals.igain)), (0, (14, r.vals.izero))],
   packFields [(16, (16, r.vals.vzero))],
   packFields [(8, (1, r.swap)), (0, (6, loop))]] ++ cellWords unused ++ [0#32, 0#32, 0#32]

/-- VREF_EXT fails its cross-check (R235). -/
def State.refFails (s : State) (v : Nat) : Bool :=
  s.flag CAL.REF_CFG.EXT_EN && decide (s.get CAL.REF_CFG.REF_TOL * s.get CAL.REF_CFG.EXT_NOM
    < 10000 * ((v : Int) - s.get CAL.REF_CFG.EXT_NOM).natAbs)

/-- A run of the measurement lane passes: its point is written. -/
def State.lanePass (s : State) (e k t : Nat) (p : List Word) : State := ((s.writePoint e k p).calDone e 1 0 k t).releaseLane

/-- A run of the measurement lane fails a limit: nothing is written. -/
def State.laneFail (s : State) (e code qty t : Nat) : State := (s.calDone e code qty 0 t).releaseLane

/-- The end of a channel run (R238, R239, R248). -/
def State.endChannelRun (s : State) (c t : Nat) (d : CalMeas) : State :=
  let a := s.when (s.flag CAL.REF_CFG.EXT_EN) (·.put CAL.REF_MEAS.VREF_EXT d.vref)
  let med2 := median2 d.weights
  let bad := a.badCells d.weights med2
  let r := a.channelResult c d
  if a.refFails d.vref then (a.raise CAL.STATUS.REF_MISMATCH).laneFail c 0x32 12 t
  else if 9 < bad.length then a.laneFail c 0x33 5 t
  else match r.loop with
    | none => a.laneFail c 0x30 6 t
    | some loop =>
      match a.channelCheck r.vals (chanVals (a.derive c (signedOf 16 t))) (!(a.validPoints c).isEmpty) with
      | some f => a.laneFail c f.1 f.2 t
      | none => a.lanePass c (a.nearestTp (signedOf 16 t)) t (r.entry t (unusedCells d.weights med2 bad) loop)

/-- Least-squares line P = a + b × t through the points (R241, R243): a and b. -/
def fitLine (l : List (Rat × Rat)) : Rat × Rat :=
  let n : Rat := l.length
  let st := (l.map (·.1)).foldl (· + ·) 0
  let sp := (l.map (·.2)).foldl (· + ·) 0
  let stt := (l.map (fun x => x.1 * x.1)).foldl (· + ·) 0
  let stp := (l.map (fun x => x.1 * x.2)).foldl (· + ·) 0
  let b := (n * stp - st * sp) / (n * stt - st * st)
  ((sp - b * st) / n, b)

/-- Shortest and longest delay of a candidate. -/
def delayLo (d : DelayMeas) : Int := (d.pts.map (·.2)).foldl min ((d.pts.headD (0, 0)).2)
def delayHi (d : DelayMeas) : Int := (d.pts.map (·.2)).foldl max ((d.pts.headD (0, 0)).2)

/-- The largest deviation of a candidate from the straight line through its settings (log entry 91). -/
def delayDev (d : DelayMeas) : Rat :=
  let f := fitLine (d.pts.map (fun p => ((p.1 : Rat), (p.2 : Rat))))
  d.pts.foldl (fun m p =>
    let v : Rat := (p.2 : Rat) - (f.1 + f.2 * p.1)
    let w := if v < 0 then -v else v
    if m < w then w else m) 0

/-- The setting of a delay by linear interpolation between the first two settings that bracket it. -/
def settingFor (need : Int) : List (Nat × Int) → Nat
  | p :: q :: t =>
    if (p.2 ≤ need && need ≤ q.2) || (q.2 ≤ need && need ≤ p.2) then
      ((p.1 : Int) + ((q.1 : Int) - p.1) * (need - p.2) / (q.2 - p.2)).toNat
    else settingFor need (q :: t)
  | [p] => p.1
  | [] => 0

/-- Does a delay-line candidate qualify (R241)? -/
def State.delayQualifies (s : State) (d : DelayMeas) : Bool :=
  !d.pts.isEmpty && decide (delayLo d ≤ d.need ∧ d.need ≤ delayHi d) && decide (delayDev d ≤ (s.getA CAL.LIM_DL.LIN_MAX : Rat))

/-- The qualifying candidate of the smallest deviation; a tie goes to the lower index. -/
def State.bestDelay (s : State) (l : List DelayMeas) : Option Nat :=
  (List.range 4).foldl (fun b k =>
    let d := l.getD k {}
    if k < l.length && s.delayQualifies d then
      match b with
      | some j => if delayDev d < delayDev (l.getD j {}) then some k else b
      | none => some k
    else b) none

/-- The point entry of a delay-path run that selects candidate k. -/
def delayEntry (t k : Nat) (l : List DelayMeas) : List Word :=
  let d := l.getD k {}
  [packFields [(31, (1, 1)), (0, (16, t))], w32 k, w32 (settingFor d.need d.pts % 2 ^ 16)]
    ++ (List.range 4).map (fun j => packFields [(0, (16, (delayLo (l.getD j {}) + delayHi (l.getD j {})) / 2))]) ++ List.replicate 5 0#32

/-- The end of a delay-path run (R241, R248). -/
def State.endDelayRun (s : State) (e t : Nat) (d : CalMeas) : State :=
  match s.bestDelay d.delay with
  | none => s.laneFail e 0x30 7 t
  | some k =>
    let c := d.delay.getD k {}
    let old := s.derive e (signedOf 16 t)
    if !(s.validPoints e).isEmpty && wf old 1 0 2 == k
        && s.getA CAL.LIM_DL.FRAC_STEP < ((settingFor c.need c.pts : Int) - fieldU 2 0 16 old).natAbs then s.laneFail e 0x31 7 t
    else s.lanePass e (s.nearestTp (signedOf 16 t)) t (delayEntry t k d.delay)

/-- OFS_0 to OFS_3 of a window, 1/65,536 count (R243); the direction of a rounding is free (log entry 1). -/
def phaseOffsets (edges : List (Nat × Int)) : List Int :=
  let t0 := match edges.head? with | some e => e.1 | none => 0
  let pts := edges.map (fun e => ((tickDist e.1 t0 : Rat), (e.2 : Rat)))
  let f := fitLine pts
  let mean := fun (l : List Rat) => l.foldl (· + ·) 0 / (l.length : Rat)
  let ofPhase := fun (q : Nat) => mean ((edges.zip pts).filterMap (fun x =>
    if x.1.2 % 4 == (q : Int) then some (f.1 + f.2 * x.2.1 - x.2.2) else none))
  let r := (List.range 4).map ofPhase
  let m := mean r
  r.map (fun x =>
    let v := (x - m) * 65536
    v.floor + (if v == (v.floor : Rat) then 0 else if Config.phaseUp v then 1 else 0))

/-- The end of an encoder run with a complete window (R242, R243, R248): a passing run sets its bit in ENC_OK. -/
def State.endEncoderRun (s : State) (e : Nat) (edges : List (Nat × Int)) : State :=
  let o := phaseOffsets edges
  let w := fun i => packFields [(16, (16, o.getD (i + 1) 0)), (0, (16, o.getD i 0))]
  let p := [packFields [(31, (1, 1))], w 0, w 2] ++ List.replicate 9 0#32
  let old := s.derive e 0
  if o.any (fun v => s.getA CAL.LIM_ENC.ENC_OFS_MAX < v.natAbs) then s.laneFail e 0x30 8 0
  else if !(s.validPoints e).isEmpty
      && (List.range 4).any (fun q => s.getA CAL.LIM_ENC.ENC_OFS_STEP < (o.getD q 0 - ofs q old).natAbs) then s.laneFail e 0x31 8 0
  else
    let a := s.put CAL.ENC_OK.AXIS (setBitTo (s.get CAL.ENC_OK.AXIS) (e - 64) true)
    a.lanePass e 0 0 p

/-! The head lane (R232, R244-R247) -/

/-- HEAD_BUSY follows the runs of the head lane. -/
def State.syncHeadLane (s : State) : State := s.put CAL.STATUS.HEAD_BUSY (nat01 (!s.cal.base.isEmpty))

/-- BASELINE_RUN (R244): the pending baseline run of head h starts. -/
def execBaselineRun (h : Nat) (s : State) : Host.Outcome State Fault Refusal :=
  let e := 80 + h
  let t := s.elemTemp e
  if s.headOn h && s.flag CAL.CTL.EN && s.flag (pendFld e) && !s.cal.retry.contains e && !s.runsNow e then
    if s.flag NH.CTL.EN && s.flag NH.CTL.SENSE_EN && s.flag (NH.HCTL.SENSE_EN h) then
      .next ((s.onCal (fun c => { c with base := c.base ++ [{ head := h, tRun := t, passes := s.get (NH.SCAN.PASSES h) }] })).syncHeadLane)
    else .next (s.calNotReady e t)
  else .next s

/-- The baseline run has resolved every position, or has run out of scan passes (R246). -/
def State.baseOver (s : State) (b : BaseRun) : Bool :=
  let w := (NH.SCAN.PASSES b.head).width
  (List.range (s.get (NH.HCTL.NNOZ b.head))).all b.done.contains
    || s.getA CAL.LIM_BASE.BASE_TMO ≤ (s.get (NH.SCAN.PASSES b.head) + 2 ^ w - b.passes) % 2 ^ w

/-- The end of a baseline run (R246). -/
def State.endBaseRun (s : State) (b : BaseRun) : State :=
  let all := (List.range (s.get (NH.HCTL.NNOZ b.head))).all b.done.contains && !b.kept
  ((s.onCal (fun c => { c with base := c.base.filter (·.head != b.head) })).calDone (80 + b.head) (if all then 1 else 2) 0 0
    b.tRun).syncHeadLane

/-- Base of the inactive RAIL copy. -/
def State.railSpare (s : State) : Nat :=
  (s.rd (if s.get CMP.TBL_ACTIVE.RAIL == 0 then CMP.RAIL_BASE_1 else CMP.RAIL_BASE_0)).toNat / 4096 * 4096

/-- The rail that R247 assigns to nozzle j of head h: 0 A, 1 B. -/
def State.assignRail (s : State) (x : Access) (h j cur : Nat) : Nat :=
  let a := s.getA CAL.RAIL_TGT.TGT_A
  let b := s.getA CAL.RAIL_TGT.TGT_B
  let thr := if a + b == 0 then Config.railThreshold () else 8388608 / (a + b)
  let hi := if a < b then 1 else if b < a then 0 else nat01 (Config.railTie a)
  let r := (s.nhRead (s.mapAddr (4096 * h + j)) x).2
  let avg := fieldOf r 24 8
  let hyst := s.getA CAL.RAIL_CFG.HYST
  if recClass r != 1 || avg < s.getA CAL.RAIL_LIM.A_MIN || s.getA CAL.RAIL_LIM.A_MAX < avg then cur
  else if cur != hi && avg + hyst < thr then hi
  else if cur == hi && thr + hyst < avg then 1 - hi
  else cur

/-- The 512 bytes of head h's rail bits: those that are, and those that R247 gives. -/
def State.railRow (s : State) (x : Access) (h : Nat) : List Bool × List Bool :=
  let cur := (List.range 4096).map (fun j => s.railBit x (4096 * h + j))
  let n := s.get (NH.HCTL.NNOZ h)
  let new := ((List.range 4096).zip cur).map (fun p => if p.1 < n then s.assignRail x h p.1 p.2 else p.2)
  (cur.map (· == 1), new.map (· == 1))

/-- Bytes of a list of bits, the first bit lowest. -/
def packBits : Nat → List Bool → List Byte
  | 0, _ => []
  | n + 1, l => BitVec.ofNat 8 (((List.range 8).zip l).foldl (fun a p => a + nat01 p.2 * 2 ^ p.1) 0) :: packBits n (l.drop 8)

/-- A rail run of one head (R247): more than MAX_CHG changed bits fail the step limit. -/
def State.railHead (s : State) (x : Access) (spare h : Nat) : State :=
  let r := s.railRow x h
  let changed := (r.1.zip r.2).countP (fun p => p.1 != p.2)
  let t := s.elemTemp (96 + h)
  if s.getA CAL.RAIL_LIM.MAX_CHG < changed then s.calDone (96 + h) 0x31 11 0 t
  else (s.ramWrite calIssuer (spare + 512 * h) (packBits 512 r.2) x).1.calDone (96 + h) 1 0 0 t

/-- RAIL_RUN (R247): all pending rail runs, as one pass; it waits while a RAIL swap is pending and while an
export runs (R252). -/
def execRailRun (x : Access) (s : State) : Host.Outcome State Fault Refusal :=
  let hs := (List.range 16).filter (fun h => s.headOn h && s.flag (pendFld (96 + h)) && !s.cal.retry.contains (96 + h))
  if !s.flag CAL.CTL.EN || hs.isEmpty then .next s
  else if !s.flag CAL.CTL.RAIL_OWN then .next (s.each hs (fun h t => t.calNotReady (96 + h) (t.elemTemp (96 + h))))
  else if s.get ⟨SYS.TBL_SWAP, 2, 1⟩ == 1 || s.flag CAL.REC_STAT.BUSY then .next s
  else
    let spare := s.railSpare
    let c := s.ramRead calIssuer s.railBase 8192 x
    let a := (c.1.ramWrite calIssuer spare c.2.2 x).1
    .next ((a.each hs (fun h t => t.railHead x spare h)).requestSwap 4)

/-- RUN_COMPLETE (R233, R246, R248): the run of element e has measured what it needs, and ends; its results wait while an
export runs (R252). -/
def execRunComplete (e : Nat) (d : CalMeas) (s : State) : Host.Outcome State Fault Refusal :=
  if s.flag CAL.REC_STAT.BUSY then .next s
  else if 80 ≤ e then
    match s.cal.base.find? (fun b => 80 + b.head == e) with
    | some b => .next (s.when (s.baseOver b) (·.endBaseRun b))
    | none => .next s
  else match s.cal.meas with
    | some r =>
      if r.elem != e then .next s
      else if e < 48 then .next (s.when r.holds (·.endChannelRun e r.tRun d))
      else if e < 64 then .next (s.endDelayRun e r.tRun d)
      else .next (s.when (s.encNeed ≤ r.edges.length) (·.endEncoderRun e r.edges))
    | none => .next s

/-! Block enable (R229, R231, R250) -/

/-- Setting CAL.CTL.EN: no element has completed a run, and a rebuild is due. -/
def State.calEnable (s : State) : State :=
  if s.flag CAL.CTL.EN then s
  else (((s.raise CAL.CTL.EN).onCal (fun c => { c with done := [] })).askRebuild).calTriggers

/-- Clearing CAL.CTL.EN aborts the runs in progress (R249, R250). -/
def State.calDisable (s : State) : State :=
  if !s.flag CAL.CTL.EN then s
  else
    let a := (s.drop CAL.CTL.EN).calAbortBy 0x26
    let b := a.each a.cal.base (fun r t =>
      let u := ((t.calResult (80 + r.head) 0x26 0 0 r.tRun).bump CAL.ABORT_CNT.COUNT).calRetry (80 + r.head)
      u.report Src.CAL_ABORT (80 + r.head) (u.rd (CAL.RES (80 + r.head))).toNat)
    let c := (b.onCal (fun k => { k with base := [] })).syncHeadLane
    { c with act := c.act.filter (fun p => !(0x40220000 ≤ p.1 && p.1 < 0x40300000)) }

end Sys2Proof.Machine
end

