-- ==== Sys2Proof/Machine/CalRecord.lean ====
section
/-! DEFINITION. Export and import of a CAL_RECORD (R251-R253). -/

namespace Sys2Proof.Machine

/-- Bytes of a record with these sections (R251). -/
def recordLen (base rail : Bool) : Nat := 4 * (16 + 6624 + (if base then 65536 else 0) + (if rail then 2048 else 0) + 1)

/-- Address of the record. -/
def State.recBase (s : State) : Nat := (s.rd CAL.REC_BASE).toNat / 4096 * 4096

/-- Address of the point store and of the baseline table. -/
def State.pointBase (s : State) : Nat := (s.rd CAL.POINT_BASE).toNat / 4096 * 4096
def State.baseTable (s : State) : Nat := (s.activeWord NH.BASE_BASE).toNat / 4096 * 4096

/-- Word 10: PART in [31:16] and STEP in [7:0], as SYS.CHIP_ID shows them in its [31:16] and [15:8]. -/
def State.partWord (s : State) : Word :=
  w32 (fieldOf (s.rd SYS.CHIP_ID) 16 16 * 2 ^ 16 + fieldOf (s.rd SYS.CHIP_ID) 8 8)

/-- EXPORT's record without its CRC (R251, R252). -/
def State.recordBody (s : State) (x : Access) : State × List Byte :=
  let base := s.flag CAL.REC_CTL.BASE_INC
  let rail := s.flag CAL.REC_CTL.RAIL_INC
  let head := [w32 (0x4352 * 2 ^ 16 + 2 ^ 8 + nat01 rail * 2 + nat01 base), s.rd CAL.REC_SEQ, w32 (recordLen base rail),
    s.rd FAB.IDENT_LO, s.rd FAB.IDENT_HI, w32 (s.get CAL.TP_CNT.NPOINTS), s.rd CAL.TP_01, s.rd CAL.TP_23, s.rd CAL.TP_45,
    s.rd CAL.TP_67, s.partWord] ++ List.replicate 5 0#32
  let p := s.ramRead calIssuer s.pointBase 26496 x
  let b := if base then p.1.ramRead calIssuer s.baseTable 262144 x else (p.1, (0, []))
  let r := if rail then b.1.ramRead calIssuer s.railBase 8192 x else (b.1, (0, []))
  (r.1, wordsBytes head ++ p.2.2 ++ b.2.2 ++ r.2.2)

/-- The record goes to memory, and its length to REC_LEN. -/
def State.recordOut (s : State) (x : Access) : State :=
  let r := s.recordBody x
  let a := (r.1.ramWrite calIssuer s.recBase (r.2 ++ natBytes 4 (crc32 r.2)) x).1
  a.put CAL.REC_LEN.BYTES (r.2.length + 4)

/-- A write of 1 to REC_CTL.EXPORT (R252): the export runs until the next tick with no command waiting; while one runs,
another write starts none (log entry 92). -/
def State.calExport (s : State) (x : Access) : State :=
  if s.flag CAL.REC_STAT.BUSY then s else (s.recordOut x).raise CAL.REC_STAT.BUSY

/-- The export ends: baseline entries that waited are written (R252). -/
def State.exportEnd (s : State) : State :=
  s.when (s.flag CAL.REC_STAT.BUSY) (fun t =>
    ((t.each t.cal.waiting (fun e u => (u.ramWrite calIssuer e.1 (wordBytes e.2)).1)).onCal (fun c => { c with waiting := [] })).drop
      CAL.REC_STAT.BUSY)

/-- EXPORT (R252). -/
def execCalExport (x : Access) (s : State) : Host.Outcome State Fault Refusal := .next (s.calExport x)

/-- The import checks, in order (table of import check codes); l is the record's bytes up to its LENGTH. -/
def State.importFault (s : State) (w : List Word) (l : List Byte) : Option Nat :=
  let base := wf w 0 0 1 == 1
  let rail := wf w 0 1 1 == 1
  let n := (wordAt w 2).toNat
  if wf w 0 16 16 != 0x4352 || wf w 0 8 8 != 1 then some 1
  else if n != recordLen base rail then some 2
  else if crc32 (l.take (n - 4)) != bytesNat ((l.drop (n - 4)).take 4) then some 3
  else if wordAt w 3 != s.rd FAB.IDENT_LO || wordAt w 4 != s.rd FAB.IDENT_HI
      || wordAt w 10 &&& 0xFFFF00FF#32 != s.partWord then some 4
  else if wordAt w 1 == 0#32 || wordAt w 1 == 0xFFFFFFFF#32 then some 5
  else if s.flag CAL.CTL.EN || (s.flag CMP.CTL.EN && rail) || (s.flag NH.CTL.EN && base) || !inSram s.recBase n then some 6
  else none

/-- A loaded point: VALID = 0 when it breaks an absolute limit (R253). -/
def State.loadPoint (s : State) (e : Nat) (p : List Word) : List Word × Bool :=
  let cells := popcount 72 ((wordAt p 6).toNat + 2 ^ 32 * (wordAt p 7).toNat + 2 ^ 64 * wf p 8 0 8)
  let bad := pValid p && (if e < 48 then (s.channelLimit (chanVals p)).isSome || cells != 63 else if 64 ≤ e then s.axisLimit p else false)
  (if bad then withField (wordAt p 0) 31 1 0 :: p.drop 1 else p, bad)

/-- Points of the store as lists of 12 words with their element. -/
def storePoints : Nat → Nat → List Byte → List (Nat × List Word)
  | 0, _, _ => []
  | n + 1, i, l => (i / 8, bytesWords 12 (l.take 48)) :: storePoints n (i + 1) (l.drop 48)

/-- What IMPORT reads: the header's words and the record's bytes (R253). -/
def State.importRead (s : State) (x : Access) : State × (List Word × List Byte) :=
  let h := s.ramRead calIssuer s.recBase 64 x
  let w := bytesWords 16 h.2.2
  let r := h.1.ramRead calIssuer s.recBase (min (wordAt w 2).toNat 296900) x
  (r.1, (w, r.2.2))

/-- An import that fails a check loads nothing (R253). -/
def State.importRefuse (s : State) (code : Nat) : State :=
  let b := (s.wr CAL.REC_STAT (withField (w32 (code * 2 ^ 16)) 31 1 (s.get CAL.REC_STAT.BUSY))).raise CAL.STATUS.IMPORT_ERR
  b.report Src.CAL_IMPORT 0 (b.rd CAL.REC_STAT).toNat

/-- An import that passes loads its sections, and a rebuild is due (R253). -/
def State.importTake (s : State) (w : List Word) (l : List Byte) (x : Access) : State :=
  let pts := (storePoints 552 0 (l.drop 64)).map (fun p => s.loadPoint p.1 p.2)
  let bad := pts.countP (·.2)
  let b := (s.ramWriteWords calIssuer s.pointBase (pts.flatMap (·.1)) x).1
  let c := ((((b.put CAL.TP_CNT.NPOINTS (wf w 5 0 4)).wr CAL.TP_01 (wordAt w 6)).wr CAL.TP_23 (wordAt w 7)).wr CAL.TP_45
    (wordAt w 8)).wr CAL.TP_67 (wordAt w 9)
  let base := wf w 0 0 1 == 1
  let rest := l.drop (64 + 26496)
  let d := c.when base (fun t => (t.ramWrite calIssuer t.baseTable (rest.take 262144) x).1)
  let rails := (if base then rest.drop 262144 else rest).take 8192
  let e := d.when (wf w 0 1 1 == 1) (fun t =>
    (((t.ramWrite calIssuer t.railBase rails x).1).ramWrite calIssuer t.railSpare rails x).1)
  (e.wr CAL.REC_STAT (withField (w32 (2 ^ 30 + bad)) 31 1 (s.get CAL.REC_STAT.BUSY))).askRebuild

/-- A write of 1 to REC_CTL.IMPORT (R253). -/
def State.calImport (s : State) (x : Access) : State :=
  let r := s.importRead x
  match r.1.importFault r.2.1 r.2.2 with
  | some code => r.1.importRefuse code
  | none => r.1.importTake r.2.1 r.2.2 x

/-- IMPORT (R253). -/
def execCalImport (x : Access) (s : State) : Host.Outcome State Fault Refusal := .next (s.calImport x)

end Sys2Proof.Machine
end

