-- ==== Sys2Proof/Machine/Mailbox.lean ====
section
/-! DEFINITION. The Weir's mailbox (10_weir.md, The mailbox): doorbells, responses and one definition per command. -/

namespace Sys2Proof.Machine

/-- Post a response on channel c (R271): RSP, then TAG and WORDS, then DONE, and BUSY clears. -/
def State.weirRespond (s : State) (c tag result : Nat) (body : List Word) : State :=
  let n := 1 + body.length
  let ws := w32 (result * 2 ^ 24 + tag % 2 ^ 8 * 2 ^ 16 + n) :: body
  let a := ((List.range n).zip ws).foldl (fun t p => t.wr (WEIRMB.RSP c p.1) p.2) s
  let b := ((((a.put (WEIRMB.CH_STAT.TAG c) tag).put (WEIRMB.CH_STAT.WORDS c) n).raise (WEIRMB.CH_STAT.DONE c)).drop
    (WEIRMB.CH_STAT.BUSY c))
  b.when (c == 1 && b.flag (WEIRMB.IRQ_EN.DONE 1)) (·.msix 2)

/-- Request lengths in words, with their least and greatest value (table of commands); none for a code without a
command. -/
def weirLen (cmd : Nat) : Option (Nat × Nat) :=
  match cmd with
  | 0x01 => some (1, 1)
  | 0x02 => some (1, 1)
  | 0x03 => some (5, 5)
  | 0x04 => some (2, 2)
  | 0x05 => some (1, 1)
  | 0x10 => some (2, 2)
  | 0x11 => some (3, 250)
  | 0x12 => some (1, 1)
  | 0x20 => some (1, 1)
  | 0x21 => some (49, 49)
  | 0x22 => some (45, 45)
  | 0x23 => some (9, 9)
  | 0x24 => some (17, 17)
  | _ => none

/-- A write of TAG to DB_c that the mailbox has not dropped (R271). -/
def State.weirDoorbell (s : State) (c tag : Nat) : State :=
  let h := s.rd (WEIRMB.REQ c 0)
  let t := fieldOf h 16 8
  let n := fieldOf h 0 9
  if s.held then s
  else if s.flag (WEIRMB.CH_STAT.BUSY c) then s.raise (WEIRMB.CH_STAT.OVERRUN c)
  else if !s.weir.up then s.raise (WEIRMB.CH_STAT.NO_WEIR c)
  else if t != tag then s.weirRespond c t wrBadLen []
  else match weirLen (fieldOf h 24 8) with
    | none => s.weirRespond c t wrUnknown []
    | some r =>
      if n < r.1 || r.2 < n then s.weirRespond c t wrBadLen []
      else (s.raise (WEIRMB.CH_STAT.BUSY c)).onWeir (fun w => { w with
        reqs := w.reqs ++ [{ chan := c, words := (List.range n).map (fun k => s.rd (WEIRMB.REQ c k)) }] })

/-- The Weir serves the request of channel c when it is this command; a latch that can be handled goes first (R282).
ROM and firmware: where the command runs. -/
def State.weirServe (s : State) (c cmd : Nat) (rom firmware : Bool)
    (f : State → List Word → State × (Nat × List Word)) : State :=
  match s.weir.reqs.find? (fun q => q.chan == c && wf q.words 0 24 8 == cmd) with
  | none => s
  | some q =>
    if !s.weir.up || s.latchDue then s
    else
      let a := s.onWeir (fun w => { w with reqs := w.reqs.erase q })
      let r := if (if a.weir.fw then firmware else rom) then f a q.words else (a, (wrBadState, []))
      let b := r.1.syncWeir
      b.when q.live (·.weirRespond c (wf q.words 0 16 8) r.2.1 r.2.2)

/-! Identification and status -/

/-- GET_ID (R281). -/
def execGetId (c : Nat) (s : State) : Host.Outcome State Fault Refusal :=
  .next (s.weirServe c 0x01 true true (fun t _ =>
    let id := if t.weir.fw then [t.weir.swVer, t.swChk] ++ bytesWords 8 t.weir.digest else List.replicate 10 0#32
    (t, (wrOk, [Config.weirRom ()] ++ id ++ t.weirIdent ++ [w32 t.logCnt, t.paramVer]))))

/-- GET_STATUS (R272). -/
def execGetStatus (c : Nat) (s : State) : Host.Outcome State Fault Refusal :=
  .next (s.weirServe c 0x02 true true (fun t _ =>
    (t, (wrOk, [t.syncWeir.rd WEIRMB.WSTAT, w32 t.opTime, w32 (t.opTime / 2 ^ 32)]))))

/-! Records -/

/-- FLAGS of a totals record (table of FLAGS). -/
def State.weirFlags (s : State) : Word :=
  let w := s.weir
  w32 (nat01 s.weirValid * 2 ^ 31 + w.st % 8 * 2 ^ 28 + nat01 w.fw * 2 ^ 27 + nat01 w.block.isSome * 2 ^ 26
    + nat01 w.cistern.contFlag * 2 ^ 25 + nat01 w.cistern.gapFlag * 2 ^ 24 + nat01 w.cistern.seenLost * 2 ^ 23
    + nat01 w.cistern.seenDrift * 2 ^ 22 + nat01 w.cistern.seenSkip * 2 ^ 21 + nat01 w.cistern.seenTapErr * 2 ^ 20 + nat01 w.cistern.seenOsc * 2 ^ 19
    + nat01 w.regress * 2 ^ 18)

/-- A 64-bit number, low word first. -/
def words64 (n : Nat) : List Word := [w32 n, w32 (n / 2 ^ 32)]

/-- Words 0-159 of the totals record (table of the totals record). -/
def State.totalsBody (s : State) (nonce : List Word) : List Word :=
  let c := s.weir.cistern
  let um := fun n => words64 (n / 65536)
  let vols := (List.range 16).map (fun h => c.vol.getD h 0)
  [w32 (0x5752 * 2 ^ 16 + 2 ^ 8 + 1), w32 672, w32 c.rseq, s.weirFlags, w32 s.logCnt] ++ s.weirIdent
    ++ [s.weir.swVer, s.swChk] ++ (List.range 4).map (wordAt nonce) ++ words64 s.opTime
    ++ um c.lenPrint ++ um c.lenTotal ++ um c.lenRev ++ um c.uncertLen ++ words64 c.uncertDrops
    ++ words64 (vols.sum / 256) ++ words64 c.tapWords ++ [w32 c.tapErr, w32 c.wxSkip, s.paramVer]
    ++ (List.range 48).flatMap (fun i => words64 (c.drops.getD i 0)) ++ vols.flatMap (fun v => words64 (v / 256))

/-- READ_TOTALS (R279). -/
def execReadTotals (c : Nat) (s : State) : Host.Outcome State Fault Refusal :=
  .next (s.weirServe c 0x03 true true (fun t q =>
    match t.keyRec with
    | none => (t, (wrKeyAbsent, []))
    | some key =>
      let a := t.when t.weir.block.isSome (·.volUpdate)
      let b := a.totalsBody (q.drop 1)
      ((a.bumpRseq).onCistern (fun w => { w with
          seenLost := false, seenDrift := false, seenSkip := false, seenTapErr := false, seenOsc := false }),
        (wrOk, b ++ macWords key b))))

/-- READ_EVENT (R280). -/
def execReadEvent (c : Nat) (s : State) : Host.Outcome State Fault Refusal :=
  .next (s.weirServe c 0x04 false true (fun t q =>
    match t.weir.cistern.events.find? (fun e => e.cnt == wf q 1 0 11) with
    | some e => (t, (wrOk, e.words))
    | none => (t, (wrBadLen, []))))

/-- READ_PARAMS (R274). -/
def execReadParams (c : Nat) (s : State) : Host.Outcome State Fault Refusal :=
  .next (s.weirServe c 0x05 false true (fun t _ =>
    match t.weir.block with
    | some b => (t, (wrOk, b))
    | none => (t, (wrBadState, []))))

/-! Image load (R265, R269) -/

/-- LOAD_BEGIN. -/
def execLoadBegin (c : Nat) (s : State) : Host.Outcome State Fault Refusal :=
  .next (s.weirServe c 0x10 true false (fun t q =>
    let n := (wordAt q 1).toNat
    if n == 0 || 61440 < n then (t.onWeir (fun w => { w with load := none }), (wrBadLen, []))
    else (t.onWeir (fun w => { w with load := some { len := n } }), (wrOk, []))))

/-- LOAD_CHUNK: chunks come in ascending offset without gaps. -/
def execLoadChunk (c : Nat) (s : State) : Host.Outcome State Fault Refusal :=
  .next (s.weirServe c 0x11 true false (fun t q =>
    match t.weir.load with
    | none => (t, (wrBadState, []))
    | some l =>
      let b := l.bytes ++ wordsBytes (q.drop 2)
      if (wordAt q 1).toNat != l.bytes.length || (l.len + 3) / 4 * 4 < b.length then
        (t.onWeir (fun w => { w with load := none }), (wrBadLen, []))
      else (t.onWeir (fun w => { w with load := some { l with bytes := b } }), (wrOk, []))))

/-- The highest-numbered written FW_DIGEST slot, as 32 bytes (R265). -/
def State.fwDigest (s : State) : Option (List Byte) :=
  ((List.range 4).map (fun k => s.weirBytes (102 + 8 * k) 256)).reverse.find? (fun d => d.any (· != 0#8))

/-- LOAD_END: the digest decides; on success the image runs and the state is BLANK. A restricted start refuses every one. -/
def execLoadEnd (c : Nat) (s : State) : Host.Outcome State Fault Refusal :=
  .next (s.weirServe c 0x12 true false (fun t _ =>
    let a := t.onWeir (fun w => { w with load := none })
    if t.weir.restricted then (a, (wrFwBad, []))
    else match t.weir.load with
    | none => (t, (wrBadState, []))
    | some l =>
      let img := l.bytes.take l.len
      let d := sha256 img
      if l.bytes.length < l.len || a.fwDigest != some d then (a, (wrFwBad, []))
      else ((a.setWeirState 0).onWeir (fun w => { w with
          fw := true, swVer := wordAt (bytesWords 2 img) 1, digest := d }), (wrOk, []))))

/-! Authorisation (R273) -/

/-- CHALLENGE: a fresh nonce, which is a free value (log entry 1). -/
def execChallenge (c : Nat) (s : State) : Host.Outcome State Fault Refusal :=
  .next (s.weirServe c 0x20 false true (fun t _ =>
    if t.weir.cistern.locked then (t, (wrAuthLock, []))
    else
      let n := (List.range 4).map (Config.nonce t.fresh)
      ((t.draw).onWeir (fun w => { w with nonce := some (n, t.opTicks) }), (wrOk, n))))

/-! Parameters (R274, R275, R277) -/

/-- PARAM_LOAD (R275). -/
def execParamLoad (c : Nat) (s : State) : Host.Outcome State Fault Refusal :=
  .next (s.weirServe c 0x21 false true (fun t q =>
    let b := q.drop 1
    match t.keyRec with
    | none => (t, (wrKeyAbsent, []))
    | some key =>
      if wf b 0 16 16 != 0x5750 || wf b 0 8 8 != 1 || macWords key (b.take 40) != b.drop 40
          || [wordAt b 2, wordAt b 3] != t.weirIdent then
        (t.setWeirState 4, (wrBlockBad, []))
      else if wf b 1 0 11 != t.logCnt then (t.setWeirState 4, (wrBlockStale, []))
      else
        let a := t.when t.weir.block.isSome (·.volUpdate)
        let n := a.onWeir (fun w => { w with block := some b })
        (n.setWeirState (wf b 0 0 2 + 1), (wrOk, []))))

/-- The set p comes into force: UNSEALED unless SEALED or BROKEN, and the continuity flags clear (R263, R277). -/
def setParamsAct (p : List Word) (u : State) : State :=
  let v := (u.onWeir (fun w => { w with
    regress := false, block := some (List.replicate 4 0#32 ++ p ++ List.replicate 8 0#32) })).onCistern
    (fun x => { x with contFlag := false, gapFlag := false })
  if v.weir.st == 2 || v.weir.st == 3 then v else v.setWeirState 1

/-- SET_PARAMS (R263, R273, R274, R277). -/
def execSetParams (c : Nat) (burn : List (Nat × Nat)) (s : State) : Host.Outcome State Fault Refusal :=
  .next (s.weirServe c 0x22 false true (fun t q =>
    let r := t.authCheck q
    let p := (q.drop 1).take 36
    if r.2 != 0 then (r.1, (r.2, []))
    else if paramBad p then (r.1, (wrParamRange, []))
    else
      let a := r.1.when r.1.weir.block.isSome (·.volUpdate)
      let e := a.logEvent 1 burn (setParamsAct p)
      (e.1, (e.2, if e.2 == 0 then e.1.weir.block.getD [] else []))))

/-- SEAL (R277, R278): held says that SEAL_BRK is asserted. -/
def execSealWeir (c : Nat) (held : Bool) (burn : List (Nat × Nat)) (s : State) : Host.Outcome State Fault Refusal :=
  .next (s.weirServe c 0x23 false true (fun t q =>
    let r := t.authCheck q
    if r.2 != 0 then (r.1, (r.2, []))
    else if held || !(r.1.weir.st == 1 || r.1.weir.st == 3) then (r.1, (wrBadState, []))
    else
      let e := r.1.logEvent 2 burn (fun u => (u.setWeirState 2).onCistern
        (fun x => { x with contFlag := false, gapFlag := false }))
      (e.1, (e.2, if e.2 == 0 then e.1.weir.block.getD [] else []))))

/-- ADD_FW (R265, R277): burn tells of the log bits and slot of the digest's bits. -/
def execAddFw (c : Nat) (burn slot : List (Nat × Nat)) (s : State) : Host.Outcome State Fault Refusal :=
  .next (s.weirServe c 0x24 false true (fun t q =>
    let r := t.authCheck q
    let k := r.1.nextSlot
    if r.2 != 0 then (r.1, (r.2, []))
    else if 4 ≤ k then (r.1, (wrSlotFull, []))
    else
      let e := r.1.logEvent 6 burn id
      if e.2 != 0 then (e.1, (e.2, []))
      else
        let f := e.1.burnBits (e.1.slotBits k q) slot 0
        (f.1, (if f.2.1.isNone then wrOk else 9, []))))

end Sys2Proof.Machine
end

