-- ==== Sys2Proof/Machine/Management.lean ====
section
/-! DEFINITION. The management block (14_management_errors.md): the core's data cache, timer, watchdog, job log, event
queue, records, load and the sump dump. -/

namespace Sys2Proof.Machine

/-! The data cache (R374, R30) -/

/-- Local address of a core address (R30). -/
def State.corePhys (s : State) (a : Nat) : Nat :=
  if 0x80000000 ≤ a && a < 0x100000000 then 0x8000000000 + 0x10000000 * s.get SYS.DRAM_WIN.PAGE + (a - 0x80000000) else a

/-- The cache holds SRAM and the DRAM window. -/
def cacheable (a : Nat) : Bool := (0x10000000 ≤ a && a < 0x10800000) || (0x80000000 ≤ a && a < 0x100000000)

/-- The line that holds a core address. -/
def lineBase (a : Nat) : Nat := a / 32 * 32

def State.cacheLine (s : State) (a : Nat) : Option CacheLine := s.sys.cache.find? (·.addr == lineBase a)

/-- A dirty line goes to memory. -/
def State.writeBack (s : State) (l : CacheLine) : State := if l.dirty then (s.ramWrite 0 (s.corePhys l.addr) l.bytes).1 else s

/-- Write back the line of an address if it is dirty and keep it valid. -/
def State.cleanLine (s : State) (a : Nat) : State :=
  match s.cacheLine a with
  | some l => (s.writeBack l).onSys (fun y => { y with cache := y.cache.map (fun k => if k.addr == l.addr then { k with dirty := false } else k) })
  | none => s

/-- Drop the line of an address with its data. -/
def State.dropCached (s : State) (a : Nat) : State := s.onSys (fun y => { y with cache := y.cache.filter (·.addr != lineBase a) })

/-- MCCLEAN (R374). -/
def execMcclean (a : Nat) (s : State) : Host.Outcome State Fault Refusal := .next (s.cleanLine a)

/-- MCINVAL (R374): a dirty line's data are discarded. -/
def execMcinval (a : Nat) (s : State) : Host.Outcome State Fault Refusal := .next (s.dropCached a)

/-- MCFLUSH (R374). -/
def execMcflush (a : Nat) (s : State) : Host.Outcome State Fault Refusal := .next ((s.cleanLine a).dropCached a)

/-- MCALL (R374): 1 cleans the whole cache, 2 invalidates it, 3 does both. -/
def execMcall (v : Nat) (s : State) : Host.Outcome State Fault Refusal :=
  let a := s.when (v == 1 || v == 3) (fun t => t.each (t.sys.cache.map (·.addr)) (fun l u => u.cleanLine l))
  .next (a.when (v == 2 || v == 3) (·.onSys (fun y => { y with cache := [] })))

/-! The machine timer (R376) -/

/-- MACHINE_TIMER (R376). -/
def execMachineTimer (s : State) : Host.Outcome State Fault Refusal := .next s.syncTimer

/-! The watchdog (R380) -/

/-- A write to WDT_KICK. -/
def State.wdtKick (s : State) (v : Nat) : State :=
  if v == 0xC0DE then s.wdtRestart else s.raise SYS.STATUS.WRITE_IGNORED

/-- WDT_KICK (R380): the operand is the value written. -/
def execWdtKick (v : Nat) (s : State) : Host.Outcome State Fault Refusal := .next (s.wdtKick v)

/-- WDT_WARN (R380): half the timeout has passed since the last kick. -/
def execWdtWarn (s : State) : Host.Outcome State Fault Refusal :=
  .next (s.when (s.flag SYS.WDT_CTL.EN && !s.flag SYS.SUMP_STAT.ACTIVE && !s.sys.wdtHalf)
    (fun t => (t.onSys (fun y => { y with wdtHalf := true })).report Src.WDT_WARN 0 (t.get SYS.WDT_STAT.RESETS)))

/-! The job log, the load and the event queue -/

/-- JLOG_READ (R378): a read of JLOG_1 returns its word and removes the oldest entry. -/
def execJlogRead (s : State) : Host.Outcome State Fault Refusal :=
  let r := s.regRead 0 SYS.JLOG_1
  .next { r.1 with rdata := r.2 }

/-- LOAD_WINDOW (R379): a load window ends; the operand is the busy fraction in 1/65,536. -/
def execLoadWindow (busy : Nat) (s : State) : Host.Outcome State Fault Refusal :=
  let b := min 65535 busy
  let a := (s.put SYS.LOAD.BUSY b).put SYS.LOAD_PEAK.BUSY (max b (s.get SYS.LOAD_PEAK.BUSY))
  .next (a.when (s.get SYS.LOAD_CFG.LIM < b) (·.report Src.MGMT_LOAD 0 b))

/-- A write to EVQ_POP (R384). -/
def State.evqPop (s : State) : State := (s.onSys (fun y => { y with evq := y.evq.drop 1 })).syncEvq

/-- EVQ_POP (R384). -/
def execEvqPop (s : State) : Host.Outcome State Fault Refusal := .next s.evqPop

/-- The record of a source is cleared, and with it the stop it asserts (R383, R385). -/
def State.recClear (s : State) (q : Nat) : State :=
  let a := s.each (List.range 8) (fun k t => t.wr (ERR.REC q k) 0#32)
  ((a.onSys (fun y => { y with recs := y.recs.filter (· != q), stops := y.stops.filter (· != q) })).syncSev).syncStops

/-- REC_CLEAR (R383). -/
def execRecClear (q : Nat) (s : State) : Host.Outcome State Fault Refusal := .next (s.when (q < 256) (·.recClear q))

/-- A write to FW_REPORT (R382). -/
def State.fwReport (s : State) (v : Nat) : State :=
  s.reportSev Src.FW_EVENT (v / 2 ^ 28 % 4) (v / 2 ^ 16 % 256) (s.rd SYS.FW_DETAIL).toNat

/-- FW_REPORT (R382): the operand is the value written. -/
def execFwReport (v : Nat) (s : State) : Host.Outcome State Fault Refusal := .next (s.when (!s.held) (·.fwReport v))

/-! The sump dump (R386) -/

def State.sumpBase (s : State) : Nat := s.rd64 SYS.SUMP_BASE_LO SYS.SUMP_BASE_HI

/-- SUMP_BASE is valid: 4 KB aligned, with the whole region in SRAM or in DRAM data. -/
def State.sumpValid (s : State) : Bool :=
  let n := clampNat 16 1024 (s.get SYS.SUMP_SIZE.KB) * 1024
  let a := s.sumpBase
  a % 4096 == 0 && (inSram a n || (s.region a == .dram && s.region (a + n - 1) == .dram))

/-- The hardware part of the dump. -/
def State.sumpWords (s : State) : List Word :=
  let recs := s.sys.sumpRecs
  let len := 64 + 4 * recs.length
  let head := [0x53550100#32, w32 len]
  let node := if s.fab.wasOn then s.rd FAB.NODE else 0#32
  let tail := [w32 s.sys.sumpSeq, s.rd SYS.CHIP_ID, s.rd FAB.IDENT_LO, s.rd FAB.IDENT_HI, node,
    s.rd ERR.FATAL_SRC, w32 (recs.length / 8)]
  let crc := crc32 (wordsBytes (head ++ tail ++ recs))
  head ++ [w32 ((s.sys.sumpCause).toNat % 65536)] ++ tail ++ [w32 crc, 0#32, 0#32, 0#32, 0#32, 0#32] ++ recs

/-- Step 4: the dump ends. -/
def State.endSump (s : State) (fw tmo : Bool) : State :=
  let a := s.when tmo (·.raise SYS.SUMP_STAT.TMO)
  let dumped := s.flag SYS.SUMP_STAT.HW_DONE && s.sumpValid
  let len := if dumped then (s.word (s.sumpBase + 4)).toNat % 2 ^ 31 else 0
  let w2 := nat01 fw * 2 ^ 31 + nat01 tmo * 2 ^ 30 + s.get SYS.SUMP_STAT.SECOND_FATAL * 2 ^ 29 + (s.sys.sumpCause).toNat % 65536
  let b := a.when dumped (fun t => (t.ramWriteWords 0 (s.sumpBase + 8) [w32 w2]).1)
  let c := (b.onSys (fun y => { y with sumpEnded := true })).report Src.SUMP_DONE 0 (len + nat01 tmo * 2 ^ 31)
  c.when tmo (·.onSys (fun y => { y with core := .held }))

/-- SUMP_HW_DONE (R386): the sump writer has finished; with no firmware at step 1 the dump ends at once. -/
def execSumpHwDone (s : State) : Host.Outcome State Fault Refusal :=
  if !s.flag SYS.SUMP_STAT.ACTIVE || s.flag SYS.SUMP_STAT.HW_DONE || s.sys.sumpEnded then .next s
  else
    let a := s.when s.sumpValid (fun t => ((t.ramWriteWords 0 t.sumpBase t.sumpWords).1).raise SYS.SUMP_STAT.HW_DONE)
    .next (a.when (!s.sys.sumpFw) (·.endSump false false))

/-- SUMP_CTL.DONE. -/
def State.sumpDone (s : State) : State :=
  s.when (s.flag SYS.SUMP_STAT.ACTIVE && !s.sys.sumpEnded) (·.endSump true false)

/-- SUMP_DONE (R386). -/
def execSumpDone (s : State) : Host.Outcome State Fault Refusal := .next s.sumpDone

/-- SUMP_TMO (R386): the dump was not ended in time. -/
def execSumpTmo (s : State) : Host.Outcome State Fault Refusal :=
  .next (s.when (s.flag SYS.SUMP_STAT.ACTIVE && !s.sys.sumpEnded) (·.endSump false true))

/-- SUMP_CTL.NMI_REARM (R377). -/
def State.nmiRearm (s : State) : State := s.onSys (fun y => { y with nmiOn := true })

/-- NMI_REARM (R377). -/
def execNmiRearm (s : State) : Host.Outcome State Fault Refusal := .next s.nmiRearm

end Sys2Proof.Machine
end

