-- ==== Sys2Proof/Machine/Streams.lean ====
section
/-! DEFINITION. Stream contexts (12_host_interface.md, R335-R337, R346), and what a response to a request of the host
interface does. -/

namespace Sys2Proof.Machine

/-- Context r. -/
def State.sctx (s : State) (r : Nat) : StreamCtx := mapGet (fun _ => {}) s.host.ctx r

def State.onSctx (s : State) (r : Nat) (f : StreamCtx → StreamCtx) : State :=
  s.onHost (fun h => { h with ctx := mapPut (fun _ => {}) h.ctx r (f (s.sctx r)) })

/-- Fields of a stream entry and of the destination that its FIRST entry gave (stream entry table). -/
def entFirst (e : List Word) : Bool := wf e 0 31 1 == 1
def entJob (e : List Word) : Nat := wf e 0 0 16
def entLines (e : List Word) : Nat := wf e 1 0 16
def entBytes (e : List Word) : Nat := wf e 5 0 24
def dstBase (d : List Word) : Nat := (wordAt d 0).toNat + 2 ^ 32 * (wordAt d 1).toNat
def dstStride (d : List Word) : Nat := wf d 2 0 24
def dstSlots (d : List Word) : Nat := (wordAt d 3).toNat

/-- The destination words that apply to an entry. -/
def entDst (c : StreamCtx) (e : List Word) : List Word := if entFirst e then (e.drop 6).take 4 else c.dst

/-- DST lies in neither space 0 nor space 2, or breaks a must-be-0 bit of its space (R27). -/
def dstSpaceBad (d : List Word) : Bool :=
  if wf d 1 28 4 == 0 then wf d 1 8 20 != 0 else wf d 1 28 4 != 2 || wf d 1 24 4 != 0 || wf d 1 8 10 != 0

/-- An entry with an unaligned field or one that breaks R335, or a first entry without FIRST. -/
def entBad (c : StreamCtx) (e : List Word) : Bool :=
  let d := entDst c e
  (!entFirst e && c.job != some (entJob e)) || entLines e == 0 || wf e 3 28 4 != 1 || wf e 2 0 5 != 0 || wf e 4 0 24 % 32 != 0
    || entBytes e % 32 != 0 || dstStride d < entBytes e
    || (entFirst e && (dstSpaceBad d || wf d 0 0 5 != 0 || dstStride d % 32 != 0 || dstSlots d == 0))

def State.ctxNode (s : State) (r : Nat) : Nat := s.get (HOSTIF.SCTX_CFG.NODE r)
def State.ctxRing (s : State) (r : Nat) : Nat := s.get (HOSTIF.SCTX_CFG.RING r)

/-- The context's view of the target's SCONS_k and SJOB_k: the root's own are seen directly. -/
def State.ctxCons (s : State) (r : Nat) : Nat :=
  if s.ctxNode r == s.nodeId then s.get (CMP.STREAM_CONS.COUNT (s.ctxRing r)) else (s.sctx r).viewCons
def State.ctxJob (s : State) (r : Nat) : Word := if s.ctxNode r == s.nodeId then s.sjob else (s.sctx r).viewJob

/-- A completion of the entry's job has passed the root (R336). -/
def State.jobPassed (s : State) (r : Nat) (e : List Word) : Bool := s.host.passed.contains (s.ctxNode r, entJob e)

/-- The entry in hand is consumed: the count, the shadow, the context's vector (R330, R339). -/
def State.consumeEntry (s : State) (r : Nat) : State :=
  let e := (s.sctx r).entry
  let c := w32 ((s.rd (HOSTIF.SCTX_CONS r)).toNat + 1)
  let a := (s.drop (HOSTIF.SSTAT.WAIT r)).onSctx r (fun k => { k with entry := [], begun := false, moved := 0, phase := 0, old := false })
  let b := a.when (!(s.sctx r).old) (fun t => (t.wr (HOSTIF.SCTX_CONS r) c).post
    (s.rd64 (HOSTIF.SCTX_SHADOW_LO r) (HOSTIF.SCTX_SHADOW_HI r)) [c])
  b.when (wf e 0 29 1 == 1 && 8 ≤ b.get (HOSTIF.SCTX_CFG.VEC r)) (·.msix (b.get (HOSTIF.SCTX_CFG.VEC r)))

/-- The context halts with SSTAT.ERR (R337). -/
def State.haltStream (s : State) (r : Nat) : State :=
  let a := ((s.raise (HOSTIF.SSTAT.ERR r)).drop (HOSTIF.SSTAT.WAIT r)).onSctx r (fun k => { k with halted := true, phase := 0 })
  a.reportHost Src.HOST_STREAM (r % 256) (a.rd (HOSTIF.SSTAT r)).toNat

/-- Where line c goes: an address as the target node resolves it. -/
def State.lineTarget (s : State) (r : Nat) : Nat × Nat :=
  let k := s.sctx r
  let a := dstBase k.dst + dstStride k.dst * (k.line % dstSlots k.dst)
  if a / 2 ^ 60 == 2 then (a / 2 ^ 50 % 64, a % 2 ^ 40) else (s.ctxNode r, a % 2 ^ 40)

/-- A line has been delivered: SDELIV_k = c + 1 at a target that is this node. -/
def State.deliverHere (s : State) (r : Nat) : State :=
  let c := (s.sctx r).line + 1
  (s.wr (HOSTIF.SDELIV (s.ctxRing r)) (w32 c)).onSctx r (fun k => { k with line := c, moved := k.moved + 1, phase := 0 })

/-- After the writes of a line: SDELIV_k at the target, here or over the fabric (R335). -/
def State.lineWritten (s : State) (r : Nat) : State :=
  if s.ctxNode r == s.nodeId then s.deliverHere r
  else (s.onSctx r (fun k => { k with phase := 2 })).sendWr (s.ctxNode r) (HOSTIF.SDELIV (s.ctxRing r))
    [w32 ((s.sctx r).line + 1)] (.stream r)

/-- Write the bytes of the next line. -/
def State.writeLine (s : State) (r : Nat) (l : List Byte) : State :=
  let t := s.lineTarget r
  if t.1 == s.nodeId then
    (let w := s.ramWrite 5 t.2 l
     if w.2 == 0 then w.1.lineWritten r else w.1.haltStream r)
  else if l.isEmpty then s.lineWritten r
  else (s.onSctx r (fun k => { k with phase := 1 })).sendBytes t.1 t.2 l (.stream r)

/-- The context has begun the entry in hand; a FIRST entry waits for its job to be composed (R336). -/
def State.beginEntry (s : State) (r : Nat) : State :=
  let k := s.sctx r
  if k.begun then s
  else if !entFirst k.entry then s.onSctx r (fun c => { c with begun := true })
  else if s.ctxJob r == w32 (2 ^ 16 + entJob k.entry) then
    s.onSctx r (fun c => { c with begun := true, line := 0, job := some (entJob k.entry), dst := entDst c k.entry })
  else s.raise (HOSTIF.SSTAT.WAIT r)

/-- Move lines of the entry in hand, at most n, while the ring has room and the payload lasts; pay holds the bytes read,
and bad says that the read after them failed (R335-R337). -/
def State.moveLines (s : State) (r : Nat) (pay : List Byte) (bad : Bool) : Nat → State
  | 0 => s
  | n + 1 =>
    let k := s.sctx r
    let size := entBytes k.entry
    if k.entry.isEmpty || k.halted || k.phase != 0 || !k.begun then s
    else if entLines k.entry ≤ k.moved then s.consumeEntry r
    else if dstSlots k.dst ≤ filled k.line (s.ctxCons r) then s.raise (HOSTIF.SSTAT.WAIT r)
    else if pay.length < size then (if bad then s.haltStream r else s)
    else ((s.drop (HOSTIF.SSTAT.WAIT r)).writeLine r (pay.take size)).moveLines r (pay.drop size) bad n

/-- Go on with the entry in hand. -/
def State.runEntry (s : State) (r : Nat) (pay : Access) : State :=
  let k := s.sctx r
  if k.entry.isEmpty || k.phase != 0 then s
  else if s.jobPassed r k.entry then (s.bump (HOSTIF.SSTAT.SKIP r)).consumeEntry r
  else (s.beginEntry r).moveLines r (wordsBytes pay.words) (pay.status != 0) (entLines k.entry + 1)

/-- Take a fetched entry in hand; one that breaks the rules is consumed at once and reported (R336). -/
def State.takeEntry (s : State) (r : Nat) (e : List Word) : State :=
  let a := s.onSctx r (fun k => { k with entry := e, begun := false, moved := 0 })
  if s.jobPassed r e then a
  else if entBad (s.sctx r) e then
    let b := a.bumpSat (HOSTIF.SSTAT.BAD r)
    (b.reportHost Src.HOST_STREAM (r % 256) (b.rd (HOSTIF.SSTAT r)).toNat).consumeEntry r
  else a

/-- Context r may act on the entry in hand: the rings stop at an entry boundary only (R346, R414), and LOW holds all. -/
def State.entryRuns (s : State) (r : Nat) : Bool :=
  s.root && s.get PMU.STATE_STAT.STATE != 2 && r < 248 && s.flag (HOSTIF.SCTX_CFG.EN r) && !(s.sctx r).halted && (s.sctx r).phase == 0

/-- STREAM_ENTRY (R335-R337): context r takes the next entry, when it has none in hand, and moves the lines whose payload
the second operand brings. -/
def execStreamEntry (r : Nat) (x pay : Access) (s : State) : Host.Outcome State Fault Refusal :=
  if !s.entryRuns r then .next s
  else if !(s.sctx r).entry.isEmpty then .next ((s.runEntry r pay).unreachRun)
  else if !s.fetching || s.rd (HOSTIF.SCTX_PROD r) == s.rd (HOSTIF.SCTX_CONS r) then .next s
  else if x.status != 0 then .next (s.haltStream r)
  else .next (((s.hostBoundary.takeEntry r ((List.range 16).map (wordAt x.words))).runEntry r pay).unreachRun)

/-- STREAM_POLL (R336): a blocked context reads SDELIV_k, SCONS_k and SJOB_k of its target. -/
def execStreamPoll (r : Nat) (s : State) : Host.Outcome State Fault Refusal :=
  if s.entryRuns r && s.flag (HOSTIF.SSTAT.WAIT r) && s.ctxNode r != s.nodeId then
    .next (((s.onSctx r (fun k => { k with phase := 3 })).sendRd (s.ctxNode r) (HOSTIF.SDELIV (s.ctxRing r)) 3 (.stream r)).unreachRun)
  else .next s

/-- A response to a request of context r; the last one of a line's writes is followed by the write of SDELIV_k. -/
def State.streamTxn (s : State) (r status : Nat) (data : List Word) : State :=
  let k := s.sctx r
  if k.phase == 3 then
    s.onSctx r (fun c => if status == 0 then { c with phase := 0, viewCons := (wordAt data 1).toNat, viewJob := wordAt data 2 }
                         else { c with phase := 0 })
  else if k.phase == 0 then s
  else if status != 0 then s.haltStream r
  else if s.outstanding (.stream r) then s
  else if k.phase == 1 then s.lineWritten r
  else
    let a := s.onSctx r (fun c => { c with line := c.line + 1, moved := c.moved + 1, phase := 0 })
    if entLines k.entry ≤ (a.sctx r).moved then a.consumeEntry r else a

/-- Setting SCTX_CFG_r.EN (R346): refused for a bad ring, or when another enabled context names the same NODE and RING. -/
def State.sctxEnable (s : State) (r : Nat) : State :=
  if s.flag (HOSTIF.SCTX_CFG.EN r) then s
  else
    let same := (List.range 248).any (fun q => q != r && s.flag (HOSTIF.SCTX_CFG.EN q) && s.ctxNode q == s.ctxNode r && s.ctxRing q == s.ctxRing r)
    let why := match ringFault [(s.rd64 (HOSTIF.SCTX_BASE_LO r) (HOSTIF.SCTX_BASE_HI r), s.get (HOSTIF.SCTX_CFG.SIZE_LOG2 r))]
        (s.rd64 (HOSTIF.SCTX_SHADOW_LO r) (HOSTIF.SCTX_SHADOW_HI r)) with
      | some c => some c
      | none => if same then some 5 else none
    match why with
    | some c => (s.raise HOSTIF.STATUS.CFG_ERR).report Src.HOST_CFG (r % 256) c
    | none => (((s.raise (HOSTIF.SCTX_CFG.EN r)).wr (HOSTIF.SCTX_PROD r) 0#32).wr (HOSTIF.SCTX_CONS r) 0#32).onSctx r (fun _ => {})

/-- Clearing SCTX_CFG_r.EN: the context ends what it does. -/
def State.sctxDisable (s : State) (r : Nat) : State :=
  ((s.drop (HOSTIF.SCTX_CFG.EN r)).drop (HOSTIF.SSTAT.WAIT r)).onSctx r (fun _ => {})

/-- A record sent to the root was taken: the next one follows. -/
def State.recordTaken (s : State) (t : Txn) : State :=
  match t.why with
  | .completion => (s.onHost (fun h => { h with cplBuf := h.cplBuf.drop 1 })).sendCpl
  | .event => (s.onHost (fun h => { h with evtBuf := h.evtBuf.drop 1 })).sendEvt
  | _ => s

/-- What a response or a timeout does for a request of the host interface (R333-R336, R344). -/
def State.hostTxn (s : State) (t : Txn) (status : Nat) (data : List Word) : State :=
  match t.why with
  | .completion => s.when (status == 0) (·.recordTaken t)
  | .event => s.when (status == 0) (·.recordTaken t)
  | .jobForward _ => s.forwardDone t status data
  | .culvertWrite _ => s.culvWrote t.tag status
  | .culvertRead i => s.culvGot { t with why := .culvertRead i } status data
  | .stream r => s.streamTxn r status data
  | .dma _ => s
  | .other => s

end Sys2Proof.Machine
end

