-- ==== Sys2Proof/Machine/Power.lean ====
section
/-! DEFINITION. Power states, clocks, the head high-voltage supplies and the PMBus host (16_power_clocks.md). -/

namespace Sys2Proof.Machine

def State.onPmu (s : State) (f : PmuState → PmuState) : State := { s with pmu := f s.pmu }

def State.pwrState (s : State) : Nat := s.get PMU.STATE_STAT.STATE

/-! PLLs and crystals (R408, R409) -/

/-- Enables that wait for a PLL: 0 SYS, 2 TIME, 3 DDR, 4 SER. -/
def pllCodes (p : Nat) : List Nat :=
  match p with
  | 0 => [0, 2, 5, 7] | 2 => [1, 3, 4, 6] | 3 => [8] | 4 => [9] | _ => []

/-- An enable that waited takes effect. -/
def State.startWaiting (s : State) (code : Nat) : State :=
  let a := s.startBlock code
  a.when (code == 6) (fun t => t.each ((List.range 4).filter t.axOn) (fun n u => u.axStart n))

/-- A PLL locks. -/
def State.pllLock (s : State) (p : Nat) : State :=
  let codes := s.pmu.waiting.filter (fun c => (pllCodes p).contains c)
  ((s.raise (pllFld p)).onPmu (fun m => { m with waiting := m.waiting.filter (fun c => !(pllCodes p).contains c) })).each codes
    (fun c t => t.startWaiting c)

/-- PLL_LOCK (R408): 0 SYS, 1 CORE, 2 TIME, 3 DDR, 4 SER; one that has not been started does not lock. -/
def execPllLock (p : Nat) (s : State) : Host.Outcome State Fault Refusal :=
  .next (s.when (p < 5 && s.pmu.pllRun.contains p && !s.flag (pllFld p)) (·.pllLock p))

/-- PLL_FAIL (R409): a locked PLL loses lock. -/
def execPllFail (p : Nat) (s : State) : Host.Outcome State Fault Refusal :=
  .next (s.when (p < 5 && s.flag (pllFld p))
    (fun t => (((t.drop (pllFld p)).raise PMU.STATUS.PLL_FAIL).halt 4).report Src.PMU_PLL p 0))

/-- The DMA domains and ring fetching return, and the device is in FLOW. -/
def State.toFlow (s : State) : State :=
  let a := (s.onPmu (fun m => { m with goal := 0 })).drop PMU.STATE_STAT.BUSY
  ((a.put PMU.STATE_STAT.STATE 0).wr PMU.DOM_STAT 0x3FF#32).dmaResume

/-- A transition in progress is abandoned (R424). -/
def State.abandon (s : State) : State :=
  s.when (s.pmu.goal != 0) (fun t => ((t.toFlow).raise PMU.STATE_STAT.ABORTED).onSys (fun y => if y.core == .wfi then { y with core := .running } else y))

/-- The crystal stops, or runs again: a Weir that is up falls back to its own oscillator, or returns (R258, R279). -/
def State.weirXtal (s : State) (stopped : Bool) : State :=
  let a := s.onWeir (fun w => { w with noXtal := stopped, oscFallback := if w.up then stopped else w.oscFallback })
  let b := a.when (a.weir.up && stopped) (·.onCistern (fun c => { c with seenOsc := true }))
  b.when b.weir.up (·.syncWeir)

/-- XTAL_FAIL (R409): 1 no edge, 2 more than 10 % off, 3 more than 1 % against the 32.768 kHz crystal, which must run. The
Weir falls back to its own oscillator when the crystal stops. -/
def execXtalFail (why : Nat) (s : State) : Host.Outcome State Fault Refusal :=
  let t := s.when (why == 1) (·.weirXtal true)
  if t.flag PMU.STATUS.ON_BACKUP || !(why == 1 || why == 2 || (why == 3 && t.flag PMU.CLK_STAT.X32_OK)) then .next t
  else
    let a := ((t.raise PMU.STATUS.XTAL_FAIL).raise PMU.STATUS.ON_BACKUP).drop PMU.CLK_STAT.XTAL_OK
    .next (((a.abandon).halt 4).report Src.PMU_XTAL 0 why)

/-- XTAL_RESTORE (R409): the crystal has been stable for 1 ms. -/
def execXtalRestore (s : State) : Host.Outcome State Fault Refusal :=
  .next (((s.drop PMU.STATUS.ON_BACKUP).raise PMU.CLK_STAT.XTAL_OK).weirXtal false)

/-- X32_LOSS (R409): the RTC stops counting. -/
def execX32Loss (s : State) : Host.Outcome State Fault Refusal :=
  .next ((s.onPmu (fun m => { m with rtcBase := s.rtc, rtcFrom := s.ticks })).drop PMU.CLK_STAT.X32_OK)

/-! State requests (R412-R414) -/

/-- Channels of the heads of controller g. -/
def groupChans (g : Nat) : List Nat := (List.range 4).flatMap (fun i => [2 * (4 * g + i), 2 * (4 * g + i) + 1, 32 + 4 * g + i])

/-- A POS axis, a WFE channel or an HV controller is enabled. -/
def State.analogOn (s : State) : Bool :=
  (List.range 4).any (fun n => s.flag (POS.AX_CTL.EN n)) || (List.range 48).any (fun c => s.flag (WFE.CH_CTL.EN c))
    || (List.range 4).any (fun g => s.flag (PMU.HV_CTL.EN g))

/-- Refusal code of a GO with a target, 0 when it is accepted (table of R413). -/
def State.reqCode (s : State) (target : Nat) : Nat :=
  let wake := s.get ⟨PMU.WAKE_EN, 0, 6⟩
  if s.flag FIRE.STATUS.RUNNING || s.flag FIRE.STATUS.ARMED then 1
  else if target == 0 || s.pmu.goal != 0 || s.pwrState != 0 then 2
  else if 2 ≤ target && s.analogOn then 3
  else if (target == 1 && wake == 0) || (target == 2 && wake / 2 == 0) then 4
  else if target == 2 && !s.flag PMU.CLK_STAT.X32_OK then 5
  else if target == 2 && s.root && s.flag HOSTIF.LINK.UP && !s.pmu.l1 then 6
  else if s.cal.meas.isSome || !s.cal.base.isEmpty || s.flag OTP.STATUS.PGM_BUSY || s.memc.training then 7
  else 0

/-- Domains that a target gates, retains or removes (table of domains). -/
def goalDomains (target : Nat) : Nat := if target == 1 then 0x216 else 0x3FE

/-- A write of GO by the management core. -/
def State.stateReq (s : State) (target : Nat) : State :=
  if s.held then s
  else if s.flag PMU.STATE_STAT.BUSY then s.raise PMU.STATUS.WRITE_IGNORED
  else match s.reqCode target with
    | 0 =>
      let a := ((s.put PMU.STATE_REQ.TARGET target).loadB 0x40010000 0x40020000).put PMU.STATE_STAT.REFUSE 0
      let b := ((a.drop PMU.STATE_STAT.ABORTED).raise PMU.STATE_STAT.BUSY).onPmu (fun m => { m with goal := target })
      b.quiesce (goalDomains target)
    | code => (((s.put PMU.STATE_REQ.TARGET target).put PMU.STATE_STAT.REFUSE code).raise PMU.STATUS.REFUSED).report Src.PMU_STATE 0
        (code * 2 ^ 24 + target)

/-- STATE_REQ_STILL (R414). -/
def execStateReqStill (s : State) : Host.Outcome State Fault Refusal := .next (s.stateReq 1)

/-- STATE_REQ_LOW (R414): the operand says whether the PCIe link is in L1. -/
def execStateReqLow (l1 : Bool) (s : State) : Host.Outcome State Fault Refusal := .next ((s.onPmu (fun m => { m with l1 := l1 })).stateReq 2)

/-- STATE_REQ_DRY (R414). -/
def execStateReqDry (s : State) : Host.Outcome State Fault Refusal := .next (s.stateReq 3)

/-! Entry (R414 steps 3 to 5) -/

/-- LOW: DRAM in self-refresh, the fabric ports in electrical idle, the PLLs off, and the TIME domain off, so that POS
comes back as after a reset. -/
def State.enterLow (s : State) : State :=
  let a := s.when (s.flag DRAMC.STATUS.READY) (·.raise DRAMC.STATUS.SELF_REFRESH)
  let b := a.each ((List.range 4).filter (fun p => a.get (FAB.PORT_STAT.STATE p) != 0)) (fun p t => (t.loseTime p).portDown p)
  let c := (b.put ⟨PMU.CLK_STAT, 0, 5⟩ 0).onPmu (fun m => { m with pllRun := [] })
  let d : State := { c.posDisable with axis := c.axis.map (fun (x : Axis) => { levels := x.levels }) }
  ((d.clearRegs 0x401E0000 0x40200000).wr PMU.DOM_STAT 0x189#32).put PMU.STATE_STAT.STATE 2

/-- DRY: every domain off and PWR_EN low; the latches on VBAT, the fuses and the Weir stay. -/
def State.enterDry (s : State) : State := (s.assertReset {}).onPmu (fun m => { m with off := 2, pwrEn := false, why := 0 })

/-- STATE_ENTRY (R414): the core is in WFI and the DMA engine is ready. -/
def execStateEntry (s : State) : Host.Outcome State Fault Refusal :=
  if s.pmu.goal == 0 || !s.dmaReady then .next s
  else
    let a := (s.onSys (fun y => if y.core == .running then { y with core := .wfi } else y)).drop PMU.STATE_STAT.BUSY
    let b := a.onPmu (fun m => { m with goal := 0 })
    .next (match s.pmu.goal with
      | 1 => (b.wr PMU.DOM_STAT 0x021603FF#32).put PMU.STATE_STAT.STATE 1
      | 2 => b.enterLow
      | _ => b.enterDry)

/-! Wake (R415-R417) -/

/-- Is a wake source asserted? What the state shows decides IRQ, RTC and TAMPER; the command itself brings the pins: PCIE on
the root, and signal detect on an enabled port. -/
def State.wakeHolds (s : State) (src : Nat) : Bool :=
  match src with
  | 0 => s.timerPending || (s.irqPend &&& s.get SYS.IRQ_EN.LINE) != 0
  | 1 => decide (s.rd64 PMU.RTC_ALM_LO PMU.RTC_ALM_HI % 2 ^ 48 ≤ s.rtc)
  | 3 => s.root
  | 4 => (List.range 4).any (fun p => s.flag (FAB.PORT_CTL.EN p))
  | 5 => s.flag PMU.TAMPER.LATCH
  | _ => true

/-- The source counts: its WAKE_EN bit is 1, and IRQ only for STILL. -/
def State.wakeValid (s : State) (src : Nat) : Bool :=
  src < 6 && bit (fieldOf (s.activeWord PMU.WAKE_EN) 0 6) src && s.wakeHolds src
    && (src != 0 || s.pwrState == 1 || s.pmu.goal == 1)

/-- WAKE_STAT takes the source and LAST_WAKE a copy. -/
def State.noteWake (s : State) (src : Nat) : State :=
  let a := s.put ⟨PMU.WAKE_STAT, src, 1⟩ 1
  a.put PMU.STATE_STAT.LAST_WAKE (a.get ⟨PMU.WAKE_STAT, 0, 6⟩)

/-- Return from LOW: fabric time advanced by the counted crystal cycles, the PLLs that are needed locked, with what waited
for them, and links training again. -/
def State.leaveLow (s : State) (cycles : Nat) : State :=
  let plls := [0, 1, 2] ++ (if s.flag DRAMC.CTL.EN then [3] else []) ++ (if s.flag FAB.CTL.EN && (List.range 4).any (fun p => s.flag (FAB.PORT_CTL.EN p)) then [4] else [])
  let a := ((s.drop DRAMC.STATUS.SELF_REFRESH).setStamp (s.stamp + 4096 * cycles)).onPmu (fun m => { m with pllRun := plls })
  let b := a.each plls (fun p t => t.pllLock p)
  b.each ((List.range 4).filter (fun p => s.flag FAB.CTL.EN && s.flag (FAB.PORT_CTL.EN p))) (fun p t => t.put (FAB.PORT_STAT.STATE p) 1)

/-- WAKE (R415, R416): an enabled source, with the XTAL25 cycles counted in LOW. Before entry is complete the transition is
abandoned (R424). -/
def execWake (src cycles : Nat) (s : State) : Host.Outcome State Fault Refusal :=
  if !s.wakeValid src then .next s
  else if s.pmu.goal != 0 then .next ((s.noteWake src).abandon)
  else if s.pwrState == 0 then .next s
  else
    let a := (s.noteWake src).when (s.pwrState == 2) (·.leaveLow cycles)
    .next ((a.toFlow).onSys (fun y => if y.core == .wfi then { y with core := .running } else y))

/-- DRY_WAKE (R417): WAKE_N has been low for 10 µs; PWR_EN goes high for a cold start. -/
def execDryWake (s : State) : Host.Outcome State Fault Refusal :=
  .next (s.when (s.pmu.off == 2) (·.onPmu (fun m => { m with pwrEn := true, why := 4 })))

/-! The tamper latch (R418) -/

/-- TAMPER (R418): TAMPER_N has been low for 10 µs. The Weir takes the latch when TAMPER_LINK is 1. -/
def execTamper (s : State) : Host.Outcome State Fault Refusal :=
  let a := s.raise PMU.TAMPER.PIN
  if s.flag PMU.TAMPER.LATCH then .next a
  else
    let b := (a.raise PMU.TAMPER.LATCH).when a.tamperLink (·.setBreach)
    .next (if b.pmu.off != 0 then b.onPmu (fun m => { m with tamperDue := true }) else b.report Src.PMU_TAMPER 0 0)

/-- A write of 1 to TAMPER.LATCH, ignored while the pin is low. -/
def State.tamperClr (s : State) : State :=
  if s.flag PMU.TAMPER.PIN then s.raise PMU.STATUS.WRITE_IGNORED else s.drop PMU.TAMPER.LATCH

/-- TAMPER_CLR (R418): the operand is the level of the pin, low or not. -/
def execTamperClr (low : Bool) (s : State) : Host.Outcome State Fault Refusal := .next ((s.put PMU.TAMPER.PIN (nat01 low)).tamperClr)

/-! Boost controllers (R419-R421) -/

/-- Controllers of the part; none acts while internal reset is held. -/
def State.hvOn (s : State) (g : Nat) : Bool := g < 4 && (!s.small || g < 2) && !s.held

/-- The controller switches: it ramps or holds its output. -/
def State.hvRuns (s : State) (g : Nat) : Bool := s.flag (PMU.HV_CTL.EN g) && (s.flag (PMU.HV_STAT.RAMPING g) || s.flag (PMU.HV_STAT.PGOOD g))

/-- HV_g_GATE switches: the controller runs, internal reset is not held, and the pin is driven (R429, R430). -/
def State.hvGate (s : State) (g : Nat) : Bool := s.hvOn g && s.hvRuns g && s.padsOn

/-- HV_CTL_g.EN goes from 0 to 1. -/
def State.hvEnable (s : State) (g : Nat) : State :=
  if !s.hvOn g || s.flag (PMU.HV_CTL.EN g) then s
  else ((s.raise (PMU.HV_CTL.EN g)).raise (PMU.HV_STAT.RAMPING g)).drop (PMU.HV_STAT.PGOOD g)

/-- HV_ENABLE (R419). -/
def execHvEnable (g : Nat) (s : State) : Host.Outcome State Fault Refusal := .next (s.hvEnable g)

/-- Output voltage in mV for a reading of HV_g_VS in µV: DIV / 2^24 of the output stands at the pin. -/
def State.hvMilli (s : State) (g vs : Nat) : Nat :=
  let d := s.get (PMU.HV_SENSE.DIV g)
  if d == 0 then Config.hvNoDiv vs else vs * 2 ^ 24 / (1000 * d)

/-- Current in mA for a reading of HV_g_IS in µV: ISENSE_FS at 1.0 V. -/
def State.hvAmps (s : State) (g cs : Nat) : Nat := s.get (PMU.HV_ISENSE.ISENSE_FS g) * cs / 1000000

/-- The current exceeds OC_LIM. -/
def State.hvLimits (s : State) (g cs : Nat) : Bool := decide (s.get (PMU.HV_LIM.OC_LIM g) < s.hvAmps g cs)

/-- HV_MEAS shows the converted readings, in 10 mV and mA (R419), and ILIM whether the current is limited (R420). -/
def State.hvMeas (s : State) (g vs cs : Nat) : State :=
  ((s.put (PMU.HV_MEAS.V g) (s.hvMilli g vs / 10)).put (PMU.HV_MEAS.I g) (s.hvAmps g cs)).put (PMU.HV_STAT.ILIM g)
    (nat01 (s.hvLimits g cs))

/-- The target in mV: a value outside 12,000 to 48,000 is the nearest bound. -/
def hvTarget (mv : Nat) : Nat := clampNat 12000 48000 mv

/-- A change of HV_SET while the controller runs: PGOOD stays when the new target is within 2 % of the old one. -/
def State.hvRetarget (s : State) (g old : Nat) : State :=
  let a := hvTarget old
  let b := hvTarget (s.get (PMU.HV_SET.MV g))
  let near := 50 * (b - a) ≤ a && 50 * (a - b) ≤ a
  s.when (s.hvRuns g && a != b) (fun t => (t.raise (PMU.HV_STAT.RAMPING g)).when (!near) (·.drop (PMU.HV_STAT.PGOOD g)))

/-- The output lies within 2 % of HV_SET. -/
def State.hvNear (s : State) (g vs : Nat) : Bool :=
  let t := hvTarget (s.get (PMU.HV_SET.MV g))
  let v := s.hvMilli g vs
  50 * (v - t) ≤ t && 50 * (t - v) ≤ t

/-- PGOOD (R419): the output has stayed within 2 % for 100 µs. The operands are the readings of HV_g_VS and HV_g_IS in µV. -/
def execPgood (g vs cs : Nat) (s : State) : Host.Outcome State Fault Refusal :=
  .next (s.when (g < 4 && s.flag (PMU.HV_CTL.EN g) && s.flag (PMU.HV_STAT.RAMPING g) && s.hvNear g vs)
    (fun t => ((t.hvMeas g vs cs).raise (PMU.HV_STAT.PGOOD g)).drop (PMU.HV_STAT.RAMPING g)))

/-- A fault of controller g: its gate goes low, and every enabled channel of its heads is faulted with AMP_FLT (R420). -/
def State.hvFault (s : State) (g cause vs cs q : Nat) : State :=
  let a := ((s.hvMeas g vs cs).drop (PMU.HV_STAT.PGOOD g)).drop (PMU.HV_STAT.RAMPING g)
  let b := ((a.raise (PMU.HV_STAT.FAULT g)).put (PMU.HV_STAT.CAUSE g) cause).report q g ((a.rd (PMU.HV_MEAS g)).toNat)
  b.faultChans (((groupChans g).filter (fun c => b.flag (WFE.CH_CTL.EN c))).map (fun c => (c, 3)))

/-- The output lies above HV_SET + OV_MARGIN. -/
def State.hvOver (s : State) (g vs : Nat) : Bool :=
  decide (hvTarget (s.get (PMU.HV_SET.MV g)) + 100 * s.get (PMU.HV_LIM.OV_MARGIN g) < s.hvMilli g vs)

/-- The output lies below HV_SET − UV_MARGIN. -/
def State.hvUnder (s : State) (g vs : Nat) : Bool :=
  decide (s.hvMilli g vs + 100 * s.get (PMU.HV_LIM.UV_MARGIN g) < hvTarget (s.get (PMU.HV_SET.MV g)))

/-- HV_OV (R420): the operands are the readings of HV_g_VS and HV_g_IS in µV. -/
def execHvOv (g vs cs : Nat) (s : State) : Host.Outcome State Fault Refusal :=
  .next (s.when (g < 4 && s.hvRuns g && s.hvOver g vs) (·.hvFault g 1 vs cs Src.PMU_HV_OV))

/-- HV_UV (R420): after PGOOD has set. -/
def execHvUv (g vs cs : Nat) (s : State) : Host.Outcome State Fault Refusal :=
  .next (s.when (g < 4 && s.hvRuns g && s.flag (PMU.HV_STAT.PGOOD g) && s.hvUnder g vs) (·.hvFault g 2 vs cs Src.PMU_HV_UV))

/-- HV_OC (R420): the current has been limited in 64 consecutive cycles. -/
def execHvOc (g vs cs : Nat) (s : State) : Host.Outcome State Fault Refusal :=
  .next (s.when (g < 4 && s.hvRuns g && s.hvLimits g cs) (·.hvFault g 3 vs cs Src.PMU_HV_OC))

/-- A write that clears HV_CTL_g.EN: ignored while a channel of the group is enabled (R421). -/
def State.hvDisable (s : State) (g : Nat) : State :=
  if !s.hvOn g || !s.flag (PMU.HV_CTL.EN g) then s
  else if (groupChans g).any (fun c => s.flag (WFE.CH_CTL.EN c)) then s.raise PMU.STATUS.WRITE_IGNORED
  else (((s.drop (PMU.HV_CTL.EN g)).drop (PMU.HV_STAT.PGOOD g)).drop (PMU.HV_STAT.RAMPING g)).drop (PMU.HV_STAT.ILIM g)

/-- HV_DISABLE (R421). -/
def execHvDisable (g : Nat) (s : State) : Host.Outcome State Fault Refusal := .next (s.hvDisable g)

/-! The PMBus host (R422, R423) -/

/-- One bit of the CRC-8 with polynomial 0x07. -/
def crc8Bit (c : Nat) : Nat := if c / 128 % 2 == 1 then (2 * c % 256) ^^^ 7 else 2 * c % 256

/-- The packet error code of a byte sequence. -/
def pec (l : List Nat) : Nat :=
  l.foldl (fun c b => crc8Bit (crc8Bit (crc8Bit (crc8Bit (crc8Bit (crc8Bit (crc8Bit (crc8Bit (c ^^^ b % 256))))))))) 0

/-- A bus error of device k: 1 NACK, 2 PEC error, 3 timeout. -/
def State.pmbErr (s : State) (k why : Nat) : State := s.reportOnce ⟨PMU.PMB_FLT, 4 + k, 1⟩ Src.PMU_PMBUS k why

/-- The bytes that a transfer of a kind sends after the command: the data of a write, low byte first, and the PEC. -/
def State.pmbBytes (s : State) (k kind cmd : Nat) : List Byte :=
  let d := s.get PMU.PMB_DATA.DATA
  let data := if kind == 1 then [d % 256] else if kind == 2 then [d % 256, d / 256] else []
  let code := if s.flag PMU.PMB_CTL.PEC && kind < 3 then [pec ([2 * s.get (PMU.PMB_DEV.ADDR k), cmd] ++ data)] else []
  (data ++ code).map (BitVec.ofNat 8)

/-- A PEC error counts only while packet error checking is on. -/
def State.pmbResult (s : State) (err : Nat) : Nat := if err == 2 && !s.flag PMU.PMB_CTL.PEC then 0 else err

/-- A transfer ends: 0 in order, 1 NACK, 2 PEC error, 3 timeout. -/
def State.pmbEnd (s : State) (k err : Nat) : State :=
  let a := (s.drop PMU.PMB_XSTAT.BUSY).raise PMU.PMB_XSTAT.DONE
  match err with
  | 1 => (a.raise PMU.PMB_XSTAT.NACK).pmbErr k 1
  | 2 => (a.raise PMU.PMB_XSTAT.PEC_ERR).pmbErr k 2
  | 3 => (a.raise PMU.PMB_XSTAT.TMO).pmbErr k 3
  | _ => a

/-- The transfer takes the bus, with the result that the bus gives: 0 to 2 end it, another value leaves it running; data is
what a read returns. -/
def State.pmbRun (s : State) (j : PmbJob) : State :=
  let err := s.pmbResult j.err
  let a := s.onPmu (fun m => { m with
    pmbDev := j.dev, pmbOut := m.pmbOut ++ [(s.get (PMU.PMB_DEV.ADDR j.dev), (j.cmd, s.pmbBytes j.dev j.kind j.cmd))] })
  if 3 ≤ err then a
  else (a.when (err == 0 && 3 ≤ j.kind) (·.put PMU.PMB_DATA.DATA (if j.kind == 3 then j.data % 256 else j.data))).pmbEnd j.dev err

/-- The poll in progress ends; a transfer that waits for it runs (R423). -/
def State.pollEnd (s : State) : State :=
  let a := s.onPmu (fun m => { m with pmb := none, pmbWait := none })
  match s.pmu.pmbWait with
  | some j => a.pmbRun j
  | none => a

/-- The host may poll device k now: it is enabled, no transfer holds the bus, and no other poll runs (R422). -/
def State.polls (s : State) (k : Nat) : Bool :=
  k < 4 && s.flag PMU.PMB_CTL.EN && s.flag (PMU.PMB_DEV.EN k) && s.get PMU.PMB_CTL.POLL != 0 && s.pwrState < 2
    && (!s.flag PMU.PMB_XSTAT.BUSY || s.pmu.pmbWait.isSome) && (s.pmu.pmb == none || s.pmu.pmb == some k)

/-- PMBUS_POLL (R422): the poll of device k brings STATUS_WORD and READ_VOUT, or ends with an error, 1 NACK or 2 PEC; with
another result it goes on. -/
def execPmbusPoll (k st vout err : Nat) (s : State) : Host.Outcome State Fault Refusal :=
  if !s.polls k then .next s
  else match s.pmbResult err with
    | 0 =>
      let a := (s.put (PMU.PMB_STAT.STATUS_WORD k) st).put (PMU.PMB_STAT.VOUT k) vout
      .next ((a.when (st / 2 % 128 != 0) (·.reportOnce ⟨PMU.PMB_FLT, k, 1⟩ Src.PMU_REG k (st % 65536))).pollEnd)
    | 1 => .next ((s.pmbErr k 1).pollEnd)
    | 2 => .next ((s.pmbErr k 2).pollEnd)
    | _ => .next (s.onPmu (fun m => { m with pmb := some k }))

/-- A write of START (R423) with the result that the bus gives: it waits for the poll in progress. -/
def State.pmbStart (s : State) (err data : Nat) : State :=
  let j : PmbJob := ⟨s.get PMU.PMB_XFER.DEV, s.get PMU.PMB_XFER.KIND, s.get PMU.PMB_XFER.CMD, err, data⟩
  if s.flag PMU.PMB_XSTAT.BUSY then s.raise PMU.STATUS.WRITE_IGNORED
  else if !s.flag PMU.PMB_CTL.EN || 5 ≤ j.kind then s
  else
    let a := s.raise PMU.PMB_XSTAT.BUSY
    if s.pmu.pmb.isSome then a.onPmu (fun m => { m with pmbWait := some j }) else a.pmbRun j

/-- The write of PMB_XFER for a kind, device and command. -/
def State.pmbXfer (s : State) (kind k cmd : Nat) : State :=
  ((s.put PMU.PMB_XFER.DEV k).put PMU.PMB_XFER.KIND kind).put PMU.PMB_XFER.CMD cmd

/-- SEND_BYTE (R423). -/
def execSendByte (k cmd err : Nat) (s : State) : Host.Outcome State Fault Refusal := .next ((s.pmbXfer 0 k cmd).pmbStart err 0)

/-- WRITE_BYTE (R423): the data stand in PMB_DATA. -/
def execWriteByte (k cmd err : Nat) (s : State) : Host.Outcome State Fault Refusal := .next ((s.pmbXfer 1 k cmd).pmbStart err 0)

/-- WRITE_WORD (R423). -/
def execWriteWord (k cmd err : Nat) (s : State) : Host.Outcome State Fault Refusal := .next ((s.pmbXfer 2 k cmd).pmbStart err 0)

/-- READ_BYTE (R423): data is the byte that the device returns. -/
def execReadByte (k cmd err data : Nat) (s : State) : Host.Outcome State Fault Refusal := .next ((s.pmbXfer 3 k cmd).pmbStart err data)

/-- READ_WORD (R423). -/
def execReadWord (k cmd err data : Nat) (s : State) : Host.Outcome State Fault Refusal := .next ((s.pmbXfer 4 k cmd).pmbStart err data)

/-- PMBUS_TIMEOUT (R422): the poll in progress, or else the transfer, has lasted 35 ms. -/
def execPmbusTimeout (s : State) : Host.Outcome State Fault Refusal :=
  match s.pmu.pmb with
  | some k => .next ((s.pmbErr k 3).pollEnd)
  | none => .next (s.when (s.flag PMU.PMB_XSTAT.BUSY) (fun t => t.pmbEnd t.pmu.pmbDev 3))

/-- VBAT_CHECK (R425): the reading in mV, taken in FLOW. -/
def execVbatCheck (mv : Nat) (s : State) : Host.Outcome State Fault Refusal :=
  .next (s.when (s.pwrState == 0 && !s.held) (fun t =>
    (t.put PMU.STATUS.VBAT_LOW (nat01 (mv < 2200))).when (mv < 2200) (·.report Src.PMU_VBAT_LOW 0 (mv % 65536))))

/-! Supplies and TEST_EN (R428-R430, R453, R454) -/

/-- POWER_ON (R428): the supplies have been within limits for 1 ms and RESET_N is high; pin says that RESET_N was the last
condition to be met. -/
def execPowerOn (pin : Bool) (e : ResetEnv) (s : State) : Host.Outcome State Fault Refusal :=
  let a := s.onPmu (fun m => { m with low := 0 })
  .next (a.when (a.held && !a.pmu.test)
    (fun t => t.release (if t.pmu.why == 4 then 4 else if pin && t.pmu.off != 2 then 1 else 0) e))

/-- SUPPLY_TRIP (R429, R430): for one of the six monitored supplies every output goes to its safe level and internal reset
is asserted, which POWER_ON releases with POR; VDD_GATE alone leaves its pins undriven. -/
def execSupplyTrip (e : TripEnv) (s : State) : Host.Outcome State Fault Refusal :=
  .next (if s.pmu.off == 2 then s
    else
      let a := s.when (e.low % 64 != 0) (fun t => (t.assertReset e.cut).onPmu (fun m => { m with off := 1, why := 0 }))
      a.onPmu (fun m => { m with low := m.low ||| e.low }))

/-- TEST_EN (R454): while it reads high internal reset is asserted and every output is at its safe level. -/
def execTestEn (high : Bool) (cut : PulseCut) (s : State) : Host.Outcome State Fault Refusal :=
  .next (if high then (s.assertReset cut).onPmu (fun m => { m with off := max 1 m.off, test := true })
    else s.onPmu (fun m => { m with test := false }))

end Sys2Proof.Machine
end

