-- ==== Sys2Proof/Machine/RegWrite.lean ====
section
/-! DEFINITION. Register writes and reads of every issuer (R4-R10, R29-R34): which writes are dropped, the actions that
fields start, and accesses of the buses and of the management core to registers and memory. The actions are the
operations that the rows of the opcode table call. Issuers are numbered as in R461. -/

namespace Sys2Proof.Machine

/-! Actions -/

/-- A write as its actions see it: the row's first index, the address, the value written, the word before, the issuer. -/
structure RegCall where
  i : Nat
  a : Nat
  v : Word
  old : Word
  issuer : Nat
  env : BusEnv

/-- The write carries a 1 in bit k. -/
def RegCall.one (c : RegCall) (k : Nat) : Bool := c.v.getLsbD k
/-- The write sets bit k. -/
def RegCall.rises (c : RegCall) (k : Nat) : Bool := c.v.getLsbD k && !c.old.getLsbD k
/-- The write clears bit k. -/
def RegCall.falls (c : RegCall) (k : Nat) : Bool := !c.v.getLsbD k && c.old.getLsbD k

/-- The action of an enable bit. -/
def RegCall.edge (c : RegCall) (k : Nat) (on off : State → State) (s : State) : State :=
  if c.rises k then on s else if c.falls k then off s else s

/-- The action of a register: its address, that of the first one where there are several, the stored bits that the
action sets itself, and the action, which comes after the store. -/
structure RegAction where
  base : Nat
  mask : Nat
  run : RegCall → State → State

/-- A write of WDT_CTL.EN: the count starts, or stops with what it has left (R380). -/
def State.wdtEnable (s : State) : State := (s.raise SYS.WDT_CTL.EN).wdtRestart
def State.wdtDisable (s : State) : State := (s.wdtPause).drop SYS.WDT_CTL.EN

/-- RST_CTL: a device reset with its key, else a management-core-only reset. -/
def State.rstWrite (s : State) (c : RegCall) : State :=
  if c.one 31 && c.v.toNat % 65536 == 0xD5EC then s.rstDevice c.v.toNat c.env.reset
  else s.when (c.one 30) (fun t => (t.raise SYS.RST_CAUSE.SW_CORE).coreReset)

/-- STATE_REQ: ignored while BUSY (R424); a request with GO. -/
def State.stateWrite (s : State) (c : RegCall) : State :=
  if s.flag PMU.STATE_STAT.BUSY then s.raise PMU.STATUS.WRITE_IGNORED
  else if c.one 31 then (s.onPmu (fun m => { m with l1 := c.env.pin })).stateReq (c.v.toNat % 4)
  else s.put PMU.STATE_REQ.TARGET c.v.toNat

/-- A vector whose mask clears sends its pending message (R339). -/
def State.unmask (s : State) (v : Nat) : State :=
  s.when (s.flag ⟨HOSTIF.MSIX_PBA (v / 32), v % 32, 1⟩) (fun t => (t.put ⟨HOSTIF.MSIX_PBA (v / 32), v % 32, 1⟩ 0).msix v)

/-- PCTL_h: FP_LOAD, EN and DOWN_CLR. -/
def State.pctlWrite (s : State) (c : RegCall) : State :=
  let a := s.when (c.one 8) (·.fpLoad c.i c.env.x)
  let b := c.edge 0 (fun t => t.portEnable c.i) (fun t => t.portDisable c.i) a
  b.when (c.one 9) (·.downClr c.i (c.env.a % 64) (c.env.b % 64))

/-- CH_CTL_c of WFE: EN, FAULT_CLR and PD_RESET. -/
def State.chanWrite (s : State) (c : RegCall) : State :=
  let a := c.edge 0 (fun t => t.channelEnable c.i c.env.pin) (fun t => t.channelDisable c.i) s
  (a.when (c.one 31) (·.faultClr c.i c.env.pin)).when (c.one 30) (·.pdReset c.i)

/-- CAL.CTL: EN, AUTO, ABORT and RECALC. -/
def State.calWrite (s : State) (c : RegCall) : State :=
  let a := c.edge 0 (·.calEnable) (·.calDisable) s
  ((a.when (c.rises 1) (·.calTriggers)).when (c.one 2) (·.calAbortBy 0x26)).when (c.one 3) (·.recalc)

/-- The actions of SYS, PMU, OTP and ERR. -/
def actionsManagement : List RegAction := [
  ⟨SYS.MGMT_CTL, 1, fun c s => s.setArm (c.one 0)⟩,
  ⟨SYS.TBL_SWAP, 0, fun c s => s.requestSwap c.v.toNat⟩,
  ⟨SYS.RST_CTL, 0, fun c s => s.rstWrite c⟩,
  ⟨SYS.WDT_CTL, 0x80000000, fun c s => if c.old.getLsbD 30 then s.raise SYS.STATUS.WRITE_IGNORED
    else c.edge 31 (·.wdtEnable) (·.wdtDisable) s⟩,
  ⟨SYS.WDT_KICK, 0, fun c s => s.wdtKick c.v.toNat⟩,
  ⟨SYS.MTIMECMP_LO, 0, fun _ s => s.syncTimer⟩,
  ⟨SYS.MTIMECMP_HI, 0, fun _ s => s.syncTimer⟩,
  ⟨SYS.FW_REPORT, 0, fun c s => s.fwReport c.v.toNat⟩,
  ⟨SYS.SUMP_BASE_LO, 0, fun _ s => s.when (s.flag SYS.SUMP_STAT.ACTIVE) (·.raise SYS.STATUS.WRITE_IGNORED)⟩,
  ⟨SYS.SUMP_BASE_HI, 0, fun _ s => s.when (s.flag SYS.SUMP_STAT.ACTIVE) (·.raise SYS.STATUS.WRITE_IGNORED)⟩,
  ⟨SYS.SUMP_CTL, 0, fun c s => (s.when (c.one 31) (·.sumpDone)).when (c.one 30) (·.nmiRearm)⟩,
  ⟨PMU.STATE_REQ, 3, fun c s => s.stateWrite c⟩,
  ⟨PMU.TAMPER, 1, fun c s => s.when (c.one 0) (fun t => (t.put PMU.TAMPER.PIN (nat01 c.env.pin)).tamperClr)⟩,
  ⟨PMU.HV_CTL 0, 1, fun c s => c.edge 0 (fun t => t.hvEnable c.i) (fun t => t.hvDisable c.i) s⟩,
  ⟨PMU.HV_SET 0, 0, fun c s => s.hvRetarget c.i (c.old.toNat % 65536)⟩,
  ⟨PMU.PMB_XFER, 0, fun c s => s.when (c.one 31) (·.pmbStart c.env.a c.env.b)⟩,
  ⟨OTP.LC_REQ, 0, fun c s => (s.senseVpp c.env.pin).lcReq c.v.toNat c.env.reset⟩,
  ⟨OTP.PGM_CTL, 0, fun c s => s.when (c.one 0) (fun t => (t.senseVpp c.env.pin).pgmGo)⟩,
  ⟨OTP.FIN_CTL, 0, fun c s => s.when (c.one 31) (fun t => (t.senseVpp c.env.pin).finGo)⟩,
  ⟨OTP.LOCK_CTL, 0, fun c s => (s.senseVpp c.env.pin).lockCtl c.v.toNat c.env.reset.burn c.env.reset.cut.cmd⟩,
  ⟨OTP.KEY_OPEN, 1, fun c s => s.when (!c.one 0) (·.drop OTP.KEY_OPEN.OPEN)⟩,
  ⟨OTP.HBOOT_CTL, 0, fun c s => s.when (c.one 0) (·.hbootGo c.env.x)⟩,
  ⟨ERR.EVQ_POP, 0, fun c s => s.when (c.one 0) (·.evqPop)⟩,
  ⟨ERR.REC 0 0, 0, fun c s => s.when (c.a == ERR.REC c.i 0 && c.one 31) (·.recClear c.i)⟩]

/-- The actions of DMA, MEMC, DRAMC, HOSTIF, FAB and WEIRMB. -/
def actionsControl : List RegAction := [
  ⟨DMA.CTL, 1, fun c s => c.edge 0 (·.dmaEnable) (·.dmaDisable) s⟩,
  ⟨DMA.CH_CTL 0, 0, fun c s => (s.when (c.one 31) (·.dmaGo c.i c.env.x)).when (c.one 30) (·.dmaStop c.i)⟩,
  ⟨DMA.CH_STAT 0, 0, fun _ s => s.syncDma⟩,
  ⟨MEMC.MARCH_CTL, 0x80000000, fun c s => c.edge 31 (·.marchEnable) (·.marchDisable) s⟩,
  ⟨DRAMC.CTL, 1, fun c s => c.edge 0 (·.dramEnable) (·.raise DRAMC.STATUS.WRITE_IGNORED) s⟩,
  ⟨HOSTIF.CTL, 1, fun c s => c.edge 0 (·.hostEnable) (·.hostDisable) s⟩,
  ⟨HOSTIF.SCTX_CFG 0, 0x80000000, fun c s => c.edge 31 (fun t => t.sctxEnable c.i) (fun t => t.sctxDisable c.i) s⟩,
  ⟨HOSTIF.CPL_MOD, 0, fun _ s => s.coverDue⟩,
  ⟨HOSTIF.EVT_MOD, 0, fun _ s => s.coverDue⟩,
  ⟨HOSTIF.MSIX_TABLE 3, 0, fun c s => s.when (c.falls 0) (·.unmask c.i)⟩,
  ⟨HOSTIF.CPL_IN 0, 0, fun c s => s.takeCpl [c.v]⟩,
  ⟨HOSTIF.EVT_IN 0, 0, fun c s => s.takeEvt [c.v]⟩,
  ⟨HOSTIF.JQ_IN 0, 0, fun c s => s.jqIn 64 [c.v]⟩,
  ⟨FAB.CTL, 1, fun c s => c.edge 0 (·.fabEnable) (·.fabDisable) s⟩,
  ⟨FAB.STATUS, 0, fun _ s => s.when (!s.flag FAB.STATUS.UNREACH) (·.onFab (fun b => { b with unreach := [] }))⟩,
  ⟨FAB.SLUICE_CTL, 0, fun c s => s.when (c.one 0) (·.bcastClr)⟩,
  ⟨FAB.CREQ_CTL, 0, fun c s => s.when (c.one 31) (·.creqStart)⟩,
  ⟨FAB.BOOT_CTL, 0, fun c s => s.when (c.one 31) (·.bootGo)⟩,
  ⟨FAB.PORT_CTL 0, 1, fun c s => s.setPortEn c.i (c.one 0)⟩,
  ⟨FAB.ROUTE 0, 0, fun c s => s.drop (FAB.ROUTE.ON_ALT c.i)⟩,
  ⟨WEIRMB.DB 0, 0, fun c s => s.weirDoorbell c.i (c.v.toNat % 256)⟩]

/-- The actions of CMP, LQ, HPT, WFE, FIRE, POS, NH and CAL. -/
def actionsData : List RegAction := [
  ⟨CMP.CTL, 1, fun c s => c.edge 0 (·.cmpEnable) (fun t => t.cmpDisable c.env.beats) s⟩,
  ⟨CMP.KILL_SET, 0, fun c s => s.kill (c.v.toNat % 65536)⟩,
  ⟨CMP.KILL_CLR, 0, fun c s => s.when (c.one 0) (·.setKill [])⟩,
  ⟨LQ.CTL, 1, fun c s => c.edge 0 (·.lqEnable) (fun t => t.lqDisable c.env.beats) s⟩,
  ⟨LQ.CAP 0, 0, fun c s => s.onQueue c.i (fun q => { q with refused := false })⟩,
  ⟨LQ.FLUSH, 0, fun c s => s.put LQ.FLUSH.REQ (s.get LQ.FLUSH.REQ ||| (c.v.toNat % 2 ^ s.nHeads))⟩,
  ⟨HPT.CTL, 1, fun c s => c.edge 0 (fun t => t.enableBlock HPT.CTL.EN 2 3) (·.hptDisable) s⟩,
  ⟨HPT.PCTL 0, 1, fun c s => s.pctlWrite c⟩,
  ⟨HPT.I2C_CTL 0, 0, fun c s => s.when (c.one 31) (·.i2cStart c.i c.env.pin)⟩,
  ⟨WFE.CTL, 1, fun c s => c.edge 0 (fun t => t.enableBlock WFE.CTL.EN 2 4) (·.wfeDisable) s⟩,
  ⟨WFE.CH_CTL 0, 1, fun c s => s.chanWrite c⟩,
  ⟨WFE.HEAD_CTL 0, 0, fun c s => (s.when (c.one 31) (·.headDownClr c.i)).when (c.one 30) (·.takeoverClr c.i)⟩,
  ⟨FIRE.CTL, 1, fun c s => c.edge 0 (·.fireEnable) (·.fireDisable) s⟩,
  ⟨FIRE.SLUICE_CTL, 0, fun c s => (s.when (c.one 0) (·.sluiceClear)).when (c.one 1) (·.halt 4)⟩,
  ⟨POS.CTL, 1, fun c s => c.edge 0 (·.posEnable) (·.posDisable) s⟩,
  ⟨POS.SNAP, 0, fun c s => s.when (c.one 0) (·.snapAll)⟩,
  ⟨POS.TIDE_CFG, 0x10, fun c s => c.edge 4 (·.tideEnable) (·.drop POS.TIDE_CFG.EN) s⟩,
  ⟨POS.AX_CTL 0, 1, fun c s => c.edge 0 (fun t => t.axEnable c.i) (fun t => t.axDisable c.i) s⟩,
  ⟨NH.CTL, 1, fun c s => c.edge 0 (·.nhEnable) (·.nhDisable) s⟩,
  ⟨NH.PUB_CTL, 0, fun c s => s.when (c.one 0) (·.onNh (fun n => { n with pubWait := true }))⟩,
  ⟨NH.FORCE, 0, fun c s => s.forceRecord c.v c.env.x⟩,
  ⟨NH.HCTL 0, 0xC000, fun c s =>
    let a := s.when (c.one 31) (·.stateClr c.i)
    let b := c.edge 15 (fun t => t.senseEnable c.i) (fun t => t.drop (NH.HCTL.SENSE_EN c.i)) a
    b.setHeat c.i (c.one 14)⟩,
  ⟨CAL.CTL, 1, fun c s => s.calWrite c⟩,
  ⟨CAL.REQ, 0, fun c s => s.calRequest (c.v.toNat % 128)⟩,
  ⟨CAL.AUTO_MASK 0, 0, fun _ s => s.calTriggers⟩,
  ⟨CAL.REC_CTL, 0, fun c s => (s.when (c.one 31) (·.calExport c.env.x)).when (c.one 30) (·.calImport c.env.x)⟩]

/-- The action of a register, by its row. -/
def actionOf (r : RegRow) : Option RegAction :=
  (actionsManagement ++ actionsControl ++ actionsData).find? (·.base == r.base)

/-! Writes that a rule drops whole -/

/-- The mailbox drops a write to a register of channel c (R270). -/
def State.mailboxDrops (s : State) (issuer : Nat) (r : RegRow) (c : Nat) : Bool :=
  (r.base == WEIRMB.REQ 0 0 || r.base == WEIRMB.DB 0 || r.base == WEIRMB.IRQ_EN 0 || r.base == WEIRMB.CH_STAT 0)
    && (issuer != (if c == 0 then 0 else 5) || (c == 1 && !s.hostMbEn) || (r.base == WEIRMB.REQ 0 0 && s.flag (WEIRMB.CH_STAT.BUSY c)))

/-- Writes that only the management core, or it and the debug port, may make (R398, R412). -/
def coreOnly (issuer : Nat) (r : RegRow) : Bool :=
  if r.base == PMU.STATE_REQ then issuer != 0
  else if r.base == OTP.PGM_CTL || r.base == OTP.FIN_CTL || r.base == OTP.LOCK_CTL || r.base == OTP.LC_REQ || r.base == OTP.KEY_OPEN then
    issuer != 0 && issuer != 15
  else false

def State.dropsWrite (s : State) (issuer : Nat) (r : RegRow) (i : Nat) : Bool := coreOnly issuer r || s.mailboxDrops issuer r i

/-- Write a whole register word that a row describes. A register of the host port on a node that is not the root ignores the
write (R326), which shows in WRITE_IGNORED (R34); one that would set SENSE_EN of a disabled head is refused (R223). -/
def State.rowWrite (s : State) (issuer : Nat) (b : Block) (r : RegRow) (i a : Nat) (v : Word) (env : BusEnv) : State :=
  if s.hidden a then
    if r.base == NH.HCTL 0 && bit v.toNat 15 then s.senseEnable i
    else s.when (0x40080000 ≤ a && a < 0x400A0000) (·.raise b.ignored)
  else if s.dropsWrite issuer r i then s.raise b.ignored
  else match actionOf r with
    | some t => t.run ⟨i, a, v, s.rd a, issuer, env⟩ (s.storeReg b r i a v (w32 t.mask))
    | none => s.storeReg b r i a v 0#32

/-! Doorbell pages (R31, R327) -/

/-- The address lies in the doorbell pages of BAR 0. -/
def inBells (issuer a : Nat) : Bool := issuer == 5 && 0x40F00000 ≤ a && a < 0x41000000

/-- A doorbell write. -/
def State.bellWrite (s : State) (a v : Nat) : State :=
  let idx := (a - 0x40F00000) / 4096
  if (a - 0x40F00000) % 4096 != 0 || (3 ≤ idx && idx < 8) then s.hostIgnored
  else if !s.hostOn then s
  else if idx == 0 then s.producerBell 0 HOSTIF.HR_PROD HOSTIF.HR_CONS (ringSize (s.get HOSTIF.HR_SIZE.SIZE_LOG2)) v
  else if idx == 1 then
    s.consumerBell 1 HOSTIF.CPL_PROD HOSTIF.CPL_CONS (ringSize (s.get HOSTIF.CPL_SIZE.SIZE_LOG2)) v (fun t => t.drainCpl t.host.cplBuf.length)
  else if idx == 2 then
    s.consumerBell 2 HOSTIF.TR_PROD HOSTIF.TR_CONS (ringSize (s.get HOSTIF.TR_SIZE.SIZE_LOG2)) v (fun t => t.drainEvt t.host.evtBuf.length)
  else
    let r := idx - 8
    s.when (8 ≤ idx && idx < 256 && s.flag (HOSTIF.SCTX_CFG.EN r))
      (·.producerBell idx (HOSTIF.SCTX_PROD r) (HOSTIF.SCTX_CONS r) (ringSize (s.get (HOSTIF.SCTX_CFG.SIZE_LOG2 r))) v)

/-! Register accesses (R5, R29) -/

/-- An access that R5 does not allow is reported with its address. -/
def State.regAccess (s : State) (issuer a : Nat) : State := s.report Src.REG_ACCESS issuer (a % 2 ^ 32)

/-- Write a whole aligned register word; the status is 0 or DECODE. -/
def State.regWrite (s : State) (issuer a : Nat) (v : Word) (env : BusEnv) : State × Nat :=
  if inBells issuer a then (s.bellWrite a v.toNat, 0)
  else match blockOf a with
    | none => (s.decodeError issuer a, 1)
    | some b =>
      match rowOf b a with
      | none => (s, 0)
      | some (r, i) => (s.rowWrite issuer b r i a v env, 0)

/-- One write access of n bytes to the register range. One wider than a register is treated as R5 treats a narrower one (log
entry 99). -/
def State.regStore (s : State) (issuer a : Nat) (l : List Byte) (env : BusEnv) : State × Nat :=
  if l.length == 4 && a % 4 == 0 then s.regWrite issuer a (w32 (bytesNat l)) env
  else if (blockOf a).isNone && !inBells issuer a then (s.decodeError issuer a, 1)
  else (s.regAccess issuer a, 0)

/-- A read that clears and removes nothing: part of a register word (R5). Time registers latch their high half. -/
def State.regPeek (s : State) (issuer a : Nat) : State × Word :=
  if s.hidden a || (((blockOf a).bind (fun b => rowOf b a)).isNone) then (s, 0#32)
  else if a == SYS.MTIME_LO || a == FAB.FT_LO || a == PMU.RTC_LO then (s.afterRead a 0#32, s.view a)
  else (s, (s.fuseView issuer a).getD (s.view a))

/-- One read access of n bytes to the register range: the state, the status, the bytes. -/
def State.regLoad (s : State) (issuer a n : Nat) : State × (Nat × List Byte) :=
  if inBells issuer a then
    (if a / 4 != (a + n - 1) / 4 then (s.regAccess issuer a, (0, List.replicate n 0#8))
     else
      let w := if a % 4096 < 4 then s.bellView ((a - 0x40F00000) / 4096) else 0#32
      (s, (0, ((wordBytes w).drop (a % 4)).take n)))
  else if (blockOf a).isNone then (s.decodeError issuer a, (1, List.replicate n 0#8))
  else if n == 4 && a % 4 == 0 then
    let r := s.regRead issuer a
    (r.1, (0, wordBytes r.2))
  else if n != 0 && a / 4 == (a + n - 1) / 4 then
    let r := s.regPeek issuer (a / 4 * 4)
    (r.1, (0, ((wordBytes r.2).drop (a % 4)).take n))
  else (s.regAccess issuer a, (0, List.replicate n 0#8))

/-- The address lies in the register range. -/
def inRegRange (a : Nat) : Bool := 0x40000000 ≤ a && a < 0x41000000

/-! Transfers of the engines: registers word by word, ascending (R352) -/

/-- Write the words of a list to registers from a up; the first status other than OK ends it. -/
def State.regWords (s : State) (issuer a : Nat) (env : BusEnv) : List Word → State × Nat
  | [] => (s, 0)
  | w :: t =>
    let r := s.regWrite issuer a w env
    if r.2 == 0 then r.1.regWords issuer (a + 4) env t else r

/-- Write bytes at a local address. -/
def State.busWrite (s : State) (issuer a : Nat) (l : List Byte) (env : BusEnv) : State × Nat :=
  if inRegRange a then
    (if a % 4 == 0 && l.length % 4 == 0 then s.regWords issuer a env (bytesWords (l.length / 4) l) else s.regStore issuer a l env)
  else s.ramWrite issuer a l env.x

/-- Read n register words from a up. -/
def State.regReads (s : State) (issuer a : Nat) : Nat → State × (Nat × List Byte)
  | 0 => (s, (0, []))
  | n + 1 =>
    let r := s.regLoad issuer a 4
    if r.2.1 != 0 then (r.1, (r.2.1, List.replicate (4 * (n + 1)) 0#8))
    else
      let u := r.1.regReads issuer (a + 4) n
      (u.1, (u.2.1, r.2.2 ++ u.2.2))

/-- Read n bytes at a local address. -/
def State.busRead (s : State) (issuer a n : Nat) (x : Access) : State × (Nat × List Byte) :=
  if inRegRange a then (if a % 4 == 0 && n % 4 == 0 then s.regReads issuer a (n / 4) else s.regLoad issuer a n)
  else s.ramRead issuer a n x

/-! Accesses of the management core through its cache (R359, R374) -/

/-- Put a line into the cache; which line gives way, and whether one does, is not in the spec. -/
def State.placeLine (s : State) (l : CacheLine) : State :=
  let a := s.draw
  let n := s.sys.cache.length
  let v := Config.cacheVictim s.fresh
  let out := if v < n then some v else if 512 ≤ n then some (v % n) else none
  let b := match out with
    | some i => match s.sys.cache[i]? with
      | some k => (a.writeBack k).dropCached k.addr
      | none => a
    | none => a
  b.onSys (fun y => { y with cache := y.cache ++ [l] })

/-- The line of a core address is in the cache, filled from memory if need be; the answer is the status of the fill. An
address that no memory holds is a decode error of the access (R29). -/
def State.fillLine (s : State) (a : Nat) (x : Access) : State × Nat :=
  if (s.cacheLine a).isSome then (s, 0)
  else if s.region (s.corePhys a) == .hole then (s.decodeError 0 (s.corePhys a), 1)
  else
    let r := s.ramRead 0 (s.corePhys (lineBase a)) 32 x
    if r.2.1 != 0 then (r.1, r.2.1) else (r.1.placeLine { addr := lineBase a, bytes := r.2.2 }, 0)

/-- Store a byte in the line of a core address. -/
def State.cacheStore (s : State) (a : Nat) (b : Byte) : State :=
  s.onSys (fun y => { y with cache := y.cache.map (fun k =>
    if k.addr == lineBase a then { k with dirty := true, bytes := setFill 0#8 k.bytes (a % 32) b } else k) })

/-- Bytes of the cached line of a core address, from it on. -/
def State.cachedBytes (s : State) (a n : Nat) : List Byte :=
  match s.cacheLine a with
  | some k => (List.range n).map (fun i => k.bytes.getD (a % 32 + i) 0#8)
  | none => List.replicate n 0#8

/-- A byte range cut at cache lines: core address and length of each part. -/
def linePieces : Nat → Nat → Nat → List (Nat × Nat)
  | 0, _, _ => []
  | fuel + 1, a, n =>
    if n == 0 then []
    else let m := min n (32 - a % 32)
         (a, m) :: linePieces fuel (a + m) (n - m)

/-- A store of the core to cacheable memory, line by line; the first status other than OK ends it. -/
def State.coreStore (s : State) (x : Access) : List (Nat × Nat) → List Byte → State × Nat
  | [], _ => (s, 0)
  | (a, n) :: t, l =>
    let r := s.fillLine a x
    if r.2 == 0 then (r.1.each ((List.range n).zip l) (fun p u => u.cacheStore (a + p.1) p.2)).coreStore x t (l.drop n) else r

/-- A load of the core from cacheable memory, line by line; the first status other than OK ends it. -/
def State.coreLoad (s : State) (x : Access) : List (Nat × Nat) → State × (Nat × List Byte)
  | [] => (s, (0, []))
  | (a, n) :: t =>
    let r := s.fillLine a x
    if r.2 == 0 then
      let u := r.1.coreLoad x t
      (u.1, (u.2.1, r.1.cachedBytes a n ++ u.2.2))
    else (r.1, (r.2, []))

/-! The commands -/

/-- The issuer has a path now: none while internal reset is held, and the debug port only while it is open. -/
def State.mayIssue (s : State) (issuer : Nat) : Bool := !s.held && (issuer != 15 || s.flag OTP.LC_STATE.DEBUG_OPEN)

/-- The response to a single access: the core takes one other than OK as an access fault (R373). -/
def State.respond (s : State) (issuer status : Nat) : State :=
  State.when { s with resp := status } (issuer == 0) (·.onSys (fun y => { y with coreFault := status != 0 }))

/-- A single write of an issuer at a local address; the management core gives core addresses (R30). -/
def State.access (s : State) (issuer a : Nat) (l : List Byte) (env : BusEnv) : State :=
  let r := if inRegRange a then s.regStore issuer a l env
    else if issuer == 0 && cacheable a then s.coreStore env.x (linePieces (l.length / 32 + 2) a l.length) l
    else s.ramWrite issuer a l env.x
  r.1.respond issuer r.2

/-- REGISTER_WRITE (R9): a write of width bytes by an issuer at a register or memory address. -/
def execRegisterWrite (issuer addr width v : Nat) (env : BusEnv) (s : State) : Host.Outcome State Fault Refusal :=
  .next (s.when (s.mayIssue issuer) (·.access issuer addr ((List.range width).map (fun i => BitVec.ofNat 8 (v / 256 ^ i))) env))

/-- A single read of an issuer. -/
def State.accessRead (s : State) (issuer a n : Nat) (x : Access) : State × List Byte :=
  let r := if inRegRange a then s.regLoad issuer a n
    else if issuer == 0 && cacheable a then s.coreLoad x (linePieces (n / 32 + 2) a n)
    else s.ramRead issuer a n x
  (r.1.respond issuer r.2.1, r.2.2)

/-- RC_READ (R8): a read of width bytes by an issuer; a full read of a register clears its RC bits. -/
def execRcRead (issuer addr width : Nat) (x : Access) (s : State) : Host.Outcome State Fault Refusal :=
  if s.mayIssue issuer then
    (let r := s.accessRead issuer addr width x
     .next { r.1 with rdata := w32 (bytesNat r.2) })
  else .next s

/-- CROSSING_READ (R5): a read in the register range that crosses a word boundary. -/
def execCrossingRead (issuer addr width : Nat) (s : State) : Host.Outcome State Fault Refusal :=
  if s.mayIssue issuer && inRegRange addr && addr / 4 != (addr + width - 1) / 4 && width != 0 then
    (let r := s.regLoad issuer addr width
     .next { r.1 with rdata := 0#32 })
  else .next s

end Sys2Proof.Machine
end

