-- ==== Sys2Proof/Machine/DmaMove.lean ====
section
/-! DEFINITION. The movement of data by a DMA channel (13_dma_memory.md, R352-R357): bursts, COPY, FILL, CMP and CMP_PAT,
the write of word 5, and the halts after an error or a mismatch. Reads of host memory and of other nodes come with the
command; writes to other nodes are BULK WRs whose responses the channel awaits. -/

namespace Sys2Proof.Machine

/-- The channel executes a descriptor of this OP that has not begun to move data; the DMA domain runs. -/
def State.dmaTask (s : State) (n op : Nat) : Option DmaDesc :=
  let c := s.dmaCh n
  match c.active with
  | some d => if n < 16 && s.dmaBusy n && s.domainRuns 9 && c.slot && c.phase == 0 && d.op == op then some d else none
  | none => none

/-! Reads -/

/-- What a range of reads has brought: the state, the bytes, and the first failure: address and status. -/
structure DmaRead where
  s : State
  data : List Byte := []
  fail : Option (Nat × Nat) := none

/-- The bytes that an access outside the node brought, and its status where it brought too few. -/
def farBytes (x : Access) (off n : Nat) : Nat × List Byte :=
  let l := ((wordsBytes x.words).drop off).take n
  if l.length == n then (0, l) else if x.status != 0 then (x.status, []) else (0, l ++ List.replicate (n - l.length) 0#8)

/-- One burst of n bytes at device address a, which lies off bytes into the range: memory is read outward to 32-byte
boundaries, registers are not (R352). The answer is the state, the address of the access, its status and the bytes. -/
def State.readBurst (s : State) (a off n : Nat) (x : Access) : State × (Nat × (Nat × List Byte)) :=
  match s.target a with
  | .localMem b =>
    if inRegRange b then let r := s.busRead 3 b n x; (r.1, (a, r.2))
    else
      let lo := b / 32 * 32
      let hi := (b + n + 31) / 32 * 32
      let r := s.ramRead 3 lo (hi - lo) x
      (r.1, (a - (b - lo), (r.2.1, (r.2.2.drop (b - lo)).take n)))
  | .node m b =>
    let f := farBytes x off n
    let lo := if inRegRange b then b else b / 32 * 32
    let r := s.farRd m lo (if inRegRange b then n else (b + n + 31) / 32 * 32 - lo) { status := f.1 }
    (r.1, (a - (b - lo), (r.2, f.2)))
  | .error => (s, (a, (1, [])))
  | .host _ => (s, (a / 32 * 32, farBytes x off n))

/-- Bursts of a range, in ascending order (R352). -/
def bursts (a n : Nat) : List (Nat × Nat) := bulkPieces (n / 256 + 2) a n

/-- The accesses of a range at a device address: bursts, or single words of a register range (R352). -/
def State.accesses (s : State) (a n : Nat) : List (Nat × Nat) :=
  if s.inRegs a then (List.range ((n + 3) / 4)).map (fun i => (a + 4 * i, min 4 (n - 4 * i))) else bursts a n

/-- Read n bytes from a up, in a range that starts at base, burst by burst until one fails. -/
def State.dmaRead (s : State) (base a n : Nat) (x : Access) : DmaRead :=
  (s.accesses a n).foldl (fun (r : DmaRead) p =>
    match r.fail with
    | some _ => r
    | none =>
      let b := r.s.readBurst p.1 (p.1 - base) p.2 x
      if b.2.2.1 == 0 then { r with s := b.1, data := r.data ++ b.2.2.2 }
      else { r with s := b.1, fail := some (b.2.1, b.2.2.1) }) { s := s }

/-! Writes -/

/-- What a range of writes has done: the state, the bytes without an error, the first failure: address and status, and
the writes that await a response: TAG, offset, address. -/
structure DmaWrite where
  s : State
  okTo : Nat := 0
  fail : Option (Nat × Nat) := none
  out : List (Nat × (Nat × Nat)) := []

/-- Write bytes at a device address, burst by burst until one fails. A posted write of the host counts as taken. -/
def State.dmaWrite (s : State) (n a : Nat) (l : List Byte) (env : BusEnv) : DmaWrite :=
  match s.target a with
  | .localMem _ =>
    (bursts a l.length).foldl (fun (r : DmaWrite) p =>
      match r.fail with
      | some _ => r
      | none =>
        let b := r.s.busWrite 3 (p.1 % 2 ^ 40) ((l.drop (p.1 - a)).take p.2) env
        if b.2 == 0 then { r with s := b.1, okTo := r.okTo + p.2 } else { r with s := b.1, fail := some (p.1, b.2) }) { s := s }
  | .host h => { s := (bursts h l.length).foldl (fun t p => t.postBytes p.1 ((l.drop (p.1 - h)).take p.2)) s, okTo := l.length }
  | .node m b =>
    let tag := s.fab.nextTag
    let ps := (s.accesses a l.length).map (fun p => (p.1 - a + b, p.2))
    { s := s.each ps (fun p t => t.sendBytes m p.1 ((l.drop (p.1 - b)).take p.2) (.dma n)), okTo := l.length,
      out := ((List.range ps.length).zip ps).map (fun e => ((tag + e.1) % 2 ^ 16, (e.2.1 - b, a + (e.2.1 - b)))) }
  | .error => { s := s, fail := some (a, 1) }

/-! Execution -/

/-- The channel has moved its data: the next addresses and the bytes that remain, and what it waits for. -/
def State.moved (s : State) (n : Nat) (d : DmaDesc) (m : Nat) (src : Bool) (f : DmaChan → DmaChan) : State :=
  let a := s.when src (fun t => t.wr64 (DMA.CH_SRC_LO n) (DMA.CH_SRC_HI n) (d.src + m))
  let b := (a.wr64 (DMA.CH_DST_LO n) (DMA.CH_DST_HI n) (d.dst + m)).wr (DMA.CH_LEN n) (w32 (d.len - m))
  (b.onDmaCh n (fun c => let k := f c
                         { k with phase := if k.out.isEmpty then 2 else 1 })).unreachRun

/-- Write the data of a COPY or a FILL; rd is the failed read that ended a COPY, if any. -/
def State.putData (s : State) (n : Nat) (d : DmaDesc) (l : List Byte) (rd : Option (Nat × Nat)) (env : BusEnv) : State :=
  let w := s.dmaWrite n d.dst l env
  let bad := match w.fail, rd with
    | some f, _ => some (f.1, (f.2, true))
    | none, some f => some (f.1, (f.2, false))
    | none, none => none
  w.s.moved n d w.okTo d.hasSrc (fun c => { c with out := w.out, okTo := w.okTo, fail := bad })

/-- COPY (R352): x brings what lies outside the node, env what the writes meet, nx the next descriptor; sent is the
number of bytes that had been written when a read failed. -/
def execDmaCopy (n : Nat) (x : Access) (env : BusEnv) (nx : Access) (sent : Nat) (s : State) : Host.Outcome State Fault Refusal :=
  match s.dmaTask n 1 with
  | none => .next s
  | some d =>
    let r := (s.fetchShadow n d nx).dmaRead d.src d.src d.len x
    .next (r.s.putData n d (if r.fail.isSome then r.data.take sent else r.data) r.fail env)

/-- The byte of the FILL pattern at an address (R355). -/
def patByte (p : Word) (a : Nat) : Byte := p.extractLsb' (8 * (a % 4)) 8

/-- The pattern over LEN bytes from DST. -/
def DmaDesc.fill (d : DmaDesc) (n : Nat) : List Byte := (List.range n).map (fun i => patByte d.pattern (d.dst + i))

/-- FILL (R355). -/
def execDmaFill (n : Nat) (env : BusEnv) (nx : Access) (s : State) : Host.Outcome State Fault Refusal :=
  match s.dmaTask n 2 with
  | none => .next s
  | some d => .next ((s.fetchShadow n d nx).putData n d (d.fill d.len) none env)

/-- The first place where two lists differ, or the shorter length. -/
def agree : List Byte → List Byte → Nat
  | a :: s, b :: t => if a == b then agree s t + 1 else 0
  | _, _ => 0

/-- One side of a compare: where its range starts, the accesses to make, the bytes read and not compared yet, and what lies
outside the node. -/
structure DmaFeed where
  base : Nat := 0
  todo : List (Nat × Nat) := []
  buf : List Byte := []
  x : Access := {}

/-- What a compare has found: the bytes that agree, whether the next one differs, a failed read: address and status. -/
structure DmaMatch where
  s : State
  same : Nat := 0
  differs : Bool := false
  fail : Option (Nat × Nat) := none

/-- A side whose bytes are used up makes its next access. -/
def State.fillFeed (s : State) (f : DmaFeed) : State × (DmaFeed × Option (Nat × Nat)) :=
  match f.buf, f.todo with
  | [], p :: t =>
    let b := s.readBurst p.1 (p.1 - f.base) p.2 f.x
    if b.2.2.1 == 0 then (b.1, ({ f with todo := t, buf := b.2.2.2 }, none)) else (b.1, (f, some (b.2.1, b.2.2.1)))
  | _, _ => (s, (f, none))

/-- Compare two sides from m bytes on, each by its own accesses in ascending order (R352, R355); the fuel bounds their
number. A failed read or a byte that differs ends it. -/
def State.compareRun : Nat → State → DmaFeed → DmaFeed → Nat → DmaMatch
  | 0, s, _, _, m => { s := s, same := m }
  | k + 1, s, a, b, m =>
    let f := s.fillFeed a
    let g := f.1.fillFeed b
    match f.2.2, g.2.2 with
    | some e, _ => { s := f.1, same := m, fail := some e }
    | none, some e => { s := g.1, same := m, fail := some e }
    | none, none =>
      let n := min f.2.1.buf.length g.2.1.buf.length
      let e := agree (f.2.1.buf.take n) (g.2.1.buf.take n)
      if e < n then { s := g.1, same := m + e, differs := true }
      else State.compareRun k g.1 { f.2.1 with buf := f.2.1.buf.drop n } { g.2.1 with buf := g.2.1.buf.drop n } (m + n)

/-- Compare the range at DST, of which y brings what lies outside the node, with what it must hold. -/
def State.compareDst (s : State) (d : DmaDesc) (y : Access) (a : DmaFeed) : DmaMatch :=
  let b : DmaFeed := { base := d.dst, todo := s.accesses d.dst d.len, x := y }
  State.compareRun (a.todo.length + b.todo.length + 1) s a b 0

/-- The end of a compare. -/
def State.compared (n : Nat) (d : DmaDesc) (r : DmaMatch) : State :=
  r.s.moved n d r.same d.hasSrc (fun c => { c with
    okTo := r.same, mismatch := r.differs, fail := r.fail.map (fun f => (f.1, (f.2, false))) })

/-- CMP (R355): x brings what lies outside the node at SRC, y what lies there at DST. -/
def execDmaCmp (n : Nat) (x y nx : Access) (s : State) : Host.Outcome State Fault Refusal :=
  match s.dmaTask n 3 with
  | none => .next s
  | some d =>
    let t := s.fetchShadow n d nx
    .next (State.compared n d (t.compareDst d y { base := d.src, todo := t.accesses d.src d.len, x := x }))

/-- CMP_PAT (R355). -/
def execDmaCmpPat (n : Nat) (y nx : Access) (s : State) : Host.Outcome State Fault Refusal :=
  match s.dmaTask n 4 with
  | none => .next s
  | some d => .next (State.compared n d ((s.fetchShadow n d nx).compareDst d y { buf := d.fill d.len }))

/-! Word 5 and the end of a descriptor (R354, R355, R357) -/

/-- RESULT: 0 OK, 1 MISMATCH, 2 ERROR. -/
def DmaChan.result (c : DmaChan) : Nat := if c.fail.isSome then 2 else if c.mismatch then 1 else 0

/-- Word 5 of the descriptor. -/
def DmaChan.word5 (c : DmaChan) : Word := w32 (2 ^ 31 + c.result * 2 ^ 28 + c.okTo % 2 ^ 24)

/-- Halt with a cause and the latched access, and report. -/
def State.dmaHalt (s : State) (n : Nat) (cause : Nat) (src : Nat) : State :=
  let a := (s.put (DMA.CH_STAT.CAUSE n) cause).leaveDma n dmaHalted
  a.report src n (a.rd (DMA.CH_STAT n)).toNat

/-- The response to the write of word 5. -/
def State.dmaWord5Done (s : State) (n : Nat) (d : DmaDesc) (status : Nat) : State :=
  let c := s.dmaCh n
  let a := s.bump (wordFld (DMA.CH_BYTE_CNT n)) c.okTo
  match c.fail with
  | some f =>
    let b := ((a.latchErr n f.1 f.2.2).put (DMA.CH_STAT.XSTAT n) f.2.1).wr64 (DMA.CH_DESC_LO n) (DMA.CH_DESC_HI n) d.addr
    let e := b.when (status != 0) (·.latchErr n (d.addr + 20) true)
    e.dmaHalt n (if f.2.2 then 2 else 1) Src.DMA_BUS
  | none =>
    if status != 0 then
      (((s.latchErr n (d.addr + 20) true).put (DMA.CH_STAT.XSTAT n) status).wr64 (DMA.CH_DESC_LO n) (DMA.CH_DESC_HI n) d.addr).dmaHalt
        n 2 Src.DMA_BUS
    else if c.mismatch then (a.wr64 (DMA.CH_ERR_LO n) (DMA.CH_ERR_HI n) (d.dst + c.okTo)).dmaHalt n 4 Src.DMA_MISMATCH
    else
      let b := a.bump (wordFld (DMA.CH_DONE_CNT n))
      let e := b.when (d.evt && b.flag (DMA.CH_CTL.EVT_EN n)) (·.raise (DMA.CH_STAT.DONE n))
      ((e.dmaBoundary n d).settleDma).romResume

/-- Write word 5; the channel waits for the response of another node. -/
def State.putWord5 (s : State) (n : Nat) (d : DmaDesc) (env : BusEnv) : State :=
  let w := s.dmaWrite n (d.addr + 20) (wordBytes (s.dmaCh n).word5) env
  if w.out.isEmpty then w.s.dmaWord5Done n d (match w.fail with | some f => f.2 | none => 0)
  else (w.s.onDmaCh n (fun c => { c with phase := 3, out := w.out })).unreachRun

/-- DESCRIPTOR_COMPLETE (R354, R355, R357): all responses of channel n's descriptor are in. -/
def execDescriptorComplete (n : Nat) (env : BusEnv) (s : State) : Host.Outcome State Fault Refusal :=
  match (s.dmaCh n).active with
  | some d => .next (s.when (n < 16 && s.domainRuns 9 && (s.dmaCh n).phase == 2) (·.putWord5 n d env))
  | none => .next s

/-- The writes of channel n that still wait to be issued: TAGs. -/
def State.heldTags (s : State) (n : Nat) : List Nat := (s.fab.held.filter (·.1.why == .dma n)).map (·.1.tag)

/-- After an error the writes of channel n that still wait are not issued, and only those sent are awaited (R357). -/
def State.giveUp (s : State) (n : Nat) : State :=
  let tags := s.heldTags n
  (s.onDmaCh n (fun k => { k with
    out := k.out.filter (fun e => !tags.contains e.1)
    okTo := ((k.out.filter (fun e => tags.contains e.1)).map (·.2.1)).foldl min k.okTo })).dropHeld n

/-- The response to a write of channel n to another node, or its timeout. One that arrives after the channel has given it
up is discarded (R358). -/
def State.dmaTxn (s : State) (n tag status : Nat) : State :=
  let c := s.dmaCh n
  match c.out.find? (·.1 == tag), c.active with
  | some o, some d =>
    if c.phase == 3 then (s.onDmaCh n (fun k => { k with out := [] })).dmaWord5Done n d status
    else s.onDmaCh n (fun k =>
      let left := k.out.erase o
      { k with
        out := left
        phase := if left.isEmpty then 2 else 1
        okTo := if status == 0 then k.okTo else min k.okTo o.2.1
        fail := if status == 0 || k.fail.isSome then k.fail else some (o.2.2, (status, true)) })
  | _, _ => s

end Sys2Proof.Machine
end

