-- ==== Sys2Proof/Machine/FabAccess.lean ====
section
/-! DEFINITION. Requests from other nodes that reach memory and registers, and the responses to this node's BULK requests
(11_fabric.md, R307-R310, R321; 12_host_interface.md, R333, R334, R338). The issuer of a request is FAB. -/

namespace Sys2Proof.Machine

/-- Send the answer to a request; a node whose fabric is off sends nothing. -/
def State.reply (s : State) (k : Packet) (status : Nat) (data : List Word) : State :=
  s.when (s.flag FAB.CTL.EN || k.src == s.nodeId) (fun t => (t.sendAnswer (t.answer k status data)).unreachRun)

/-- A refused request is answered DENIED (R310, R321). -/
def State.refuseReq (s : State) (k : Packet) : State :=
  (s.raise FAB.STATUS.DENIED).reply k 4 (List.replicate (readLen k) 0#32)

/-! CTRL -/

/-- Local address of a CTRL request. -/
def ctrlAddr (k : Packet) : Nat := 0x40000000 + wf k.payload 0 0 24

/-- Remember the response of the last CTRL request of a source (R309). -/
def State.keepCtrl (s : State) (k : Packet) (status : Nat) (w : Word) : State :=
  s.onFab (fun b => { b with lastCtrl := b.lastCtrl.filter (·.1 != k.src) ++ [(k.src, (k.tag, (status, w)))] })

/-- Answer a CTRL request: a repeated one with the stored response, a refused one DENIED, another after f has executed
it. -/
def State.takeCtrl (s : State) (k : Packet) (f : State → State × (Nat × Word)) : State :=
  match s.fab.lastCtrl.find? (fun e => e.1 == k.src && e.2.1 == k.tag) with
  | some e => s.reply k e.2.2.1 [e.2.2.2]
  | none =>
    if s.denied k || s.bootDenied k then s.refuseReq k
    else
      let r := f s
      (r.1.keepCtrl k r.2.1 r.2.2).reply k r.2.1 [r.2.2]

/-- CTRL_RD at its target. -/
def State.takeCtrlRd (s : State) (k : Packet) : State :=
  s.takeCtrl k (fun t => let r := t.regLoad 6 (ctrlAddr k) 4
                         (r.1, (r.2.1, w32 (bytesNat r.2.2))))

/-- CTRL_RD (R309). -/
def execCtrlRd (p : Nat) (crc : Word) (k : Packet) (s : State) : Host.Outcome State Fault Refusal :=
  .next (s.routed p (k.crcGood crc) k 0 3 (fun t => t.takeCtrlRd k))

/-- CTRL_WR at its target. -/
def State.takeCtrlWr (s : State) (k : Packet) (env : BusEnv) : State :=
  s.takeCtrl k (fun t => let r := t.regStore 6 (ctrlAddr k) (wordBytes (wordAt k.payload 1)) env
                         (r.1, (r.2, 0#32)))

/-- CTRL_WR (R309). -/
def execCtrlWr (p : Nat) (crc : Word) (k : Packet) (env : BusEnv) (s : State) : Host.Outcome State Fault Refusal :=
  .next (s.routed p (k.crcGood crc) k 0 4 (fun t => t.takeCtrlWr k env))

/-! BULK requests -/

/-- Byte enables of word i of n. -/
def wordBe (k : Packet) (i n : Nat) : Nat :=
  let f := if i == 0 then wf k.ext 1 8 4 else 15
  let l := if i + 1 == n then wf k.ext 1 12 4 else 15
  f &&& l

/-- Runs of consecutive enabled bytes of a word: first byte and length. -/
def beRuns (be : Nat) : List (Nat × Nat) :=
  (List.range 4).foldl (fun r i =>
    if !bit be i then r
    else match r.getLast? with
      | some p => if p.1 + p.2 == i then r.dropLast ++ [(p.1, p.2 + 1)] else r ++ [(i, 1)]
      | none => [(i, 1)]) []

/-- Write the enabled bytes of a word. -/
def State.writeBe (s : State) (a be : Nat) (w : Word) (env : BusEnv) : State × Nat :=
  (beRuns be).foldl (fun r p =>
    if r.2 != 0 then r else r.1.busWrite 6 (a + p.1) (((wordBytes w).drop p.1).take p.2) env) (s, 0)

/-- Write the words of a BULK WR in ascending order; the first error ends it. -/
def State.writeBulk (s : State) (k : Packet) (env : BusEnv) : State × Nat :=
  let n := k.payload.length
  (List.range n).foldl (fun r i =>
    if r.2 != 0 then r else r.1.writeBe (k.addr + 4 * i) (wordBe k i n) (wordAt k.payload i) env) (s, 0)

/-- The intake windows take any write to them as theirs. -/
def inWindow (lo a : Nat) : Bool := lo ≤ a && a < lo + 64

/-- A BULK WR at its target: the root's intake windows need no ACCESS (R310), JQ_IN takes only node 0 (R333). The windows
take records on every node (R326). -/
def State.takeWr (s : State) (k : Packet) (env : BusEnv) : State :=
  let whole := k.payload.length == 16
  if s.root && k.addr == HOSTIF.CPL_IN 0 && whole then (s.takeCpl k.payload).reply k 0 []
  else if s.root && k.addr == HOSTIF.EVT_IN 0 && whole then (s.takeEvt k.payload).reply k 0 []
  else if s.denied k || s.bootDenied k then s.refuseReq k
  else if k.addr == HOSTIF.CPL_IN 0 && whole then (s.takeCpl k.payload).reply k 0 []
  else if k.addr == HOSTIF.EVT_IN 0 && whole then (s.takeEvt k.payload).reply k 0 []
  else if k.addr == HOSTIF.JQ_IN 0 && whole then (s.jqIn k.src k.payload).reply k 0 []
  else if inWindow (HOSTIF.CPL_IN 0) k.addr || inWindow (HOSTIF.EVT_IN 0) k.addr || inWindow (HOSTIF.JQ_IN 0) k.addr then
    (s.raise HOSTIF.STATUS.WRITE_IGNORED).reply k 0 []
  else
    let r := s.writeBulk k env
    r.1.reply k r.2 []

/-- The write waits in its buffer while the root's completion buffer is full (R334). -/
def State.holdsWr (s : State) (k : Packet) : Bool := k.addr == HOSTIF.CPL_IN 0 && s.cplFull

/-- WR (R307). A held write is taken when the command comes again. -/
def execBulkWr (p : Nat) (crc : Word) (k : Packet) (env : BusEnv) (s : State) : Host.Outcome State Fault Refusal :=
  .next (s.when (!(k.isType 2 1 && k.dst == s.nodeId && s.holdsWr k)) (·.routed p (k.crcGood crc) k 2 1 (fun t => t.takeWr k env)))

/-- Read the words of a BULK RD: state, status, words. -/
def State.readBulk (s : State) (k : Packet) (x : Access) : State × (Nat × List Word) :=
  let n := readLen k
  if inRegRange k.addr then
    let r := (List.range n).foldl (fun (r : State × (Nat × List Word)) i =>
      if r.2.1 != 0 then r
      else if wordBe k i n == 0 then (r.1, (0, r.2.2 ++ [0#32]))
      else if wordBe k i n != 15 then
        let w := r.1.regPeek 6 (k.addr + 4 * i)
        (w.1, (0, r.2.2 ++ [w.2]))
      else
        let w := r.1.regLoad 6 (k.addr + 4 * i) 4
        (w.1, (w.2.1, r.2.2 ++ [w32 (bytesNat w.2.2)]))) (s, (0, []))
    r
  else
    let r := s.ramRead 6 k.addr (4 * n) x
    (r.1, (r.2.1, bytesWords n r.2.2))

/-- A BULK RD at its target. -/
def State.takeRd (s : State) (k : Packet) (x : Access) : State :=
  if s.denied k || s.bootDenied k then s.refuseReq k
  else
    let r := s.readBulk k x
    let n := readLen k
    r.1.reply k r.2.1 (if r.2.1 == 0 then (List.range n).map (wordAt r.2.2) else List.replicate n 0#32)

/-- RD (R307). -/
def execBulkRd (p : Nat) (crc : Word) (k : Packet) (x : Access) (s : State) : Host.Outcome State Fault Refusal :=
  .next (s.routed p (k.crcGood crc) k 2 2 (fun t => t.takeRd k x))

/-! BULK responses (R308) -/

/-- A failed request of a channel keeps the channel's waiting ones from being issued. -/
def State.failTxn (s : State) (t : Txn) (status : Nat) : State :=
  match t.why with
  | .dma n => s.when (status != 0) (·.giveUp n)
  | _ => s

/-- The issuer of a request gets its answer. -/
def State.bulkDone (s : State) (t : Txn) (status : Nat) (data : List Word) : State :=
  match t.why with
  | .dma n => s.dmaTxn n t.tag status
  | _ => (s.hostTxn t status data).unreachRun

/-- A response completes the outstanding request of its kind, or is dropped. -/
def State.takeRsp (s : State) (k : Packet) (write : Bool) : State :=
  match s.txn? false k.tag with
  | some t => if t.write == write then ((s.failTxn t k.status).endTxn t).bulkDone t k.status k.payload else s.lateRsp
  | none => s.lateRsp

/-- WR_RSP (R308). -/
def execWrRsp (p : Nat) (crc : Word) (k : Packet) (s : State) : Host.Outcome State Fault Refusal :=
  .next (s.routed p (k.crcGood crc) k 2 3 (fun t => t.takeRsp k true))

/-- RD_CPL (R308). -/
def execRdCpl (p : Nat) (crc : Word) (k : Packet) (s : State) : Host.Outcome State Fault Refusal :=
  .next (s.routed p (k.crcGood crc) k 2 4 (fun t => t.takeRsp k false))

/-- BULK_TIMEOUT (R308): the request with a TAG has had no response in time. -/
def execBulkTimeout (tag : Nat) (s : State) : Host.Outcome State Fault Refusal :=
  match s.txn? false tag with
  | some t => .next ((((s.failTxn t 5).endTxn t).countTmo t).bulkDone t 5 [])
  | none => .next s

end Sys2Proof.Machine
end

