-- ==== Sys2Proof/Machine/Dispatch.lean ====
section
/-! DEFINITION. The dispatch: one arm per command, each one direct call of its meaning. -/

namespace Sys2Proof.Machine

/-- The effect of one command on everything but the queue. -/
def exec (i : Instr) (s : State) : Host.Outcome State Fault Refusal :=
  match i with
  | .registerWrite issuer addr width v env => Sys2Proof.Machine.execRegisterWrite issuer addr width v env s
  | .rcRead issuer addr width x => Sys2Proof.Machine.execRcRead issuer addr width x s
  | .crossingRead issuer addr width => Sys2Proof.Machine.execCrossingRead issuer addr width s
  | .armEn on => Sys2Proof.Machine.execArmEn on s
  | .tblSwapCal mask => Sys2Proof.Machine.execTblSwapCal mask s
  | .tblSwapRail mask => Sys2Proof.Machine.execTblSwapRail mask s
  | .tblSwapComp mask => Sys2Proof.Machine.execTblSwapComp mask s
  | .tblSwapHealth mask => Sys2Proof.Machine.execTblSwapHealth mask s
  | .swapIdleComplete => Sys2Proof.Machine.execSwapIdleComplete s
  | .errorReport q inst detail => Sys2Proof.Machine.execErrorReport q inst detail s
  | .sluicePin => Sys2Proof.Machine.execSluicePin s
  | .sluiceSet => Sys2Proof.Machine.execSluiceSet s
  | .sluiceClr => Sys2Proof.Machine.execSluiceClr s
  | .sluiceClrCheck low => Sys2Proof.Machine.execSluiceClrCheck low s
  | .fireEnable => Sys2Proof.Machine.execFireEnable s
  | .fireDisable => Sys2Proof.Machine.execFireDisable s
  | .cmpEnable => Sys2Proof.Machine.execCmpEnable s
  | .cmpDisable beats => Sys2Proof.Machine.execCmpDisable beats s
  | .composeLineBoundary x => Sys2Proof.Machine.execComposeLineBoundary x s
  | .opClear => Sys2Proof.Machine.execOpClear s
  | .fetchOp x => Sys2Proof.Machine.execFetchOp x s
  | .mergeOp => Sys2Proof.Machine.execMergeOp s
  | .lookupOp => Sys2Proof.Machine.execLookupOp s
  | .passmaskOp => Sys2Proof.Machine.execPassmaskOp s
  | .stitchOp => Sys2Proof.Machine.execStitchOp s
  | .railOp x => Sys2Proof.Machine.execRailOp x s
  | .compOp x => Sys2Proof.Machine.execCompOp x s
  | .emitOp stall x => Sys2Proof.Machine.execEmitOp stall x s
  | .programLoad xp xt => Sys2Proof.Machine.execProgramLoad xp xt s
  | .killSet n => Sys2Proof.Machine.execKillSet n s
  | .killClr => Sys2Proof.Machine.execKillClr s
  | .linePush h => Sys2Proof.Machine.execLinePush h s
  | .tailToHeadMove h => Sys2Proof.Machine.execTailToHeadMove h s
  | .spillComplete h x => Sys2Proof.Machine.execSpillComplete h x s
  | .refillComplete h x => Sys2Proof.Machine.execRefillComplete h x s
  | .popLine h => Sys2Proof.Machine.execPopLine h s
  | .popDeadline h => Sys2Proof.Machine.execPopDeadline h s
  | .lqFlush mask => Sys2Proof.Machine.execLqFlush mask s
  | .flushEffect h beats => Sys2Proof.Machine.execFlushEffect h beats s
  | .flushTimeout h beats => Sys2Proof.Machine.execFlushTimeout h beats s
  | .lqEnable => Sys2Proof.Machine.execLqEnable s
  | .lqDisable beats => Sys2Proof.Machine.execLqDisable beats s
  | .qptrMismatch h ptr a b beats => Sys2Proof.Machine.execQptrMismatch h ptr a b beats s
  | .latStart h => Sys2Proof.Machine.execLatStart h s
  | .latEnd h => Sys2Proof.Machine.execLatEnd h s
  | .frameComplete h => Sys2Proof.Machine.execFrameComplete h s
  | .xferLate h => Sys2Proof.Machine.execXferLate h s
  | .constBits h lane => Sys2Proof.Machine.execConstBits h lane s
  | .noz h lane => Sys2Proof.Machine.execNoz h lane s
  | .crcMark h lane => Sys2Proof.Machine.execCrcMark h lane s
  | .crcInsert h lane => Sys2Proof.Machine.execCrcInsert h lane s
  | .loopLane h lane => Sys2Proof.Machine.execLoopLane h lane s
  | .frameEnd h lane => Sys2Proof.Machine.execFrameEnd h lane s
  | .fpLoad h x => Sys2Proof.Machine.execFpLoad h x s
  | .fpCheckComplete h => Sys2Proof.Machine.execFpCheckComplete h s
  | .portEnable h => Sys2Proof.Machine.execPortEnable h s
  | .portReady h raw stable shorts opens => Sys2Proof.Machine.execPortReady h raw stable shorts opens s
  | .portDisable h => Sys2Proof.Machine.execPortDisable h s
  | .hptDisable => Sys2Proof.Machine.execHptDisable s
  | .prsSample h raw => Sys2Proof.Machine.execPrsSample h raw s
  | .laneFault h lane short => Sys2Proof.Machine.execLaneFault h lane short s
  | .downClr h shorts opens => Sys2Proof.Machine.execDownClr h shorts opens s
  | .i2cTransaction h ctl stuck => Sys2Proof.Machine.execI2cTransaction h ctl stuck s
  | .i2cDone h nack nbytes read => Sys2Proof.Machine.execI2cDone h nack nbytes read s
  | .i2cStretchTimeout h nbytes => Sys2Proof.Machine.execI2cStretchTimeout h nbytes s
  | .ramp c l => Sys2Proof.Machine.execRamp c l s
  | .hold c => Sys2Proof.Machine.execHold c s
  | .win c => Sys2Proof.Machine.execWin c s
  | .sense c vfb => Sys2Proof.Machine.execSense c vfb s
  | .jump c => Sys2Proof.Machine.execJump c s
  | .endSlot c vfb => Sys2Proof.Machine.execEndSlot c vfb s
  | .slotLimit c => Sys2Proof.Machine.execSlotLimit c s
  | .channelEnable c flt => Sys2Proof.Machine.execChannelEnable c flt s
  | .channelReady c es => Sys2Proof.Machine.execChannelReady c es s
  | .channelDisable c => Sys2Proof.Machine.execChannelDisable c s
  | .rampDownComplete c => Sys2Proof.Machine.execRampDownComplete c s
  | .wfeDisable => Sys2Proof.Machine.execWfeDisable s
  | .faultClr c flt => Sys2Proof.Machine.execFaultClr c flt s
  | .pdReset c => Sys2Proof.Machine.execPdReset c s
  | .shortFault l => Sys2Proof.Machine.execShortFault l s
  | .ampFlt l => Sys2Proof.Machine.execAmpFlt l s
  | .trackFault l => Sys2Proof.Machine.execTrackFault l s
  | .takeoverClr h => Sys2Proof.Machine.execTakeoverClr h s
  | .headDownClr h => Sys2Proof.Machine.execHeadDownClr h s
  | .validSample => Sys2Proof.Machine.execValidSample s
  | .predictionStale => Sys2Proof.Machine.execPredictionStale s
  | .jobArm => Sys2Proof.Machine.execJobArm s
  | .fireLineBoundary => Sys2Proof.Machine.execFireLineBoundary s
  | .rowTrigger h => Sys2Proof.Machine.execRowTrigger h s
  | .jobComplete => Sys2Proof.Machine.execJobComplete s
  | .inputAccepted n l => Sys2Proof.Machine.execInputAccepted n l s
  | .axisStopped n => Sys2Proof.Machine.execAxisStopped n s
  | .serialFrameStart n slo => Sys2Proof.Machine.execSerialFrameStart n slo s
  | .noack n => Sys2Proof.Machine.execNoack n s
  | .serialTimeout n bits delay => Sys2Proof.Machine.execSerialTimeout n bits delay s
  | .serialFrameComplete n bits delay => Sys2Proof.Machine.execSerialFrameComplete n bits delay s
  | .wireLoss n mask => Sys2Proof.Machine.execWireLoss n mask s
  | .wireRestore n => Sys2Proof.Machine.execWireRestore n s
  | .snapAll => Sys2Proof.Machine.execSnapAll s
  | .tideHandoff => Sys2Proof.Machine.execTideHandoff s
  | .axisEnable n => Sys2Proof.Machine.execAxisEnable n s
  | .axisDisable n => Sys2Proof.Machine.execAxisDisable n s
  | .tempMeasure h x => Sys2Proof.Machine.execTempMeasure h x s
  | .noRise h => Sys2Proof.Machine.execNoRise h s
  | .htrFault h => Sys2Proof.Machine.execHtrFault h s
  | .senseResult h x => Sys2Proof.Machine.execSenseResult h x s
  | .forceClass v x => Sys2Proof.Machine.execForceClass v x s
  | .stateClr h => Sys2Proof.Machine.execStateClr h s
  | .publishReq => Sys2Proof.Machine.execPublishReq s
  | .pubTmo => Sys2Proof.Machine.execPubTmo s
  | .publish x => Sys2Proof.Machine.execPublish x s
  | .nhEnable => Sys2Proof.Machine.execNhEnable s
  | .senseEn h => Sys2Proof.Machine.execSenseEn h s
  | .dieTempSample t0 t1 t2 t3 => Sys2Proof.Machine.execDieTempSample t0 t1 t2 t3 s
  | .calReq e => Sys2Proof.Machine.execCalReq e s
  | .channelRun => Sys2Proof.Machine.execChannelRun s
  | .delayPathRun => Sys2Proof.Machine.execDelayPathRun s
  | .encoderRun => Sys2Proof.Machine.execEncoderRun s
  | .encTmo => Sys2Proof.Machine.execEncTmo s
  | .baselineRun h => Sys2Proof.Machine.execBaselineRun h s
  | .railRun x => Sys2Proof.Machine.execRailRun x s
  | .runComplete e d => Sys2Proof.Machine.execRunComplete e d s
  | .ctlAbort => Sys2Proof.Machine.execCtlAbort s
  | .retryTmo e => Sys2Proof.Machine.execRetryTmo e s
  | .recalc => Sys2Proof.Machine.execRecalc s
  | .rebuild x => Sys2Proof.Machine.execRebuild x s
  | .calExport x => Sys2Proof.Machine.execCalExport x s
  | .calImport x => Sys2Proof.Machine.execCalImport x s
  | .weirPor kept => Sys2Proof.Machine.execWeirPor kept s
  | .tapGap => Sys2Proof.Machine.execTapGap s
  | .getId c => Sys2Proof.Machine.execGetId c s
  | .getStatus c => Sys2Proof.Machine.execGetStatus c s
  | .readTotals c => Sys2Proof.Machine.execReadTotals c s
  | .readEvent c => Sys2Proof.Machine.execReadEvent c s
  | .readParams c => Sys2Proof.Machine.execReadParams c s
  | .loadBegin c => Sys2Proof.Machine.execLoadBegin c s
  | .loadChunk c => Sys2Proof.Machine.execLoadChunk c s
  | .loadEnd c => Sys2Proof.Machine.execLoadEnd c s
  | .challenge c => Sys2Proof.Machine.execChallenge c s
  | .paramLoad c => Sys2Proof.Machine.execParamLoad c s
  | .setParams c burn => Sys2Proof.Machine.execSetParams c burn s
  | .sealWeir c held burn => Sys2Proof.Machine.execSealWeir c held burn s
  | .addFw c burn slot => Sys2Proof.Machine.execAddFw c burn slot s
  | .authLockExpiry => Sys2Proof.Machine.execAuthLockExpiry s
  | .wxStep l => Sys2Proof.Machine.execWxStep l s
  | .wxLost mask => Sys2Proof.Machine.execWxLost mask s
  | .tapWordReceived flip => Sys2Proof.Machine.execTapWordReceived flip s
  | .volUpdate => Sys2Proof.Machine.execVolUpdate s
  | .sealBreach => Sys2Proof.Machine.execSealBreach s
  | .latchHandling burn => Sys2Proof.Machine.execLatchHandling burn s
  | .linkUp p identLo identHi rate16 width2 swap inv => Sys2Proof.Machine.execLinkUp p identLo identHi rate16 width2 swap inv s
  | .trainRetry p => Sys2Proof.Machine.execTrainRetry p s
  | .linkLost p why => Sys2Proof.Machine.execLinkLost p why s
  | .replayTimeout p => Sys2Proof.Machine.execReplayTimeout p s
  | .stopPacket p crc k => Sys2Proof.Machine.execStopPacket p crc k s
  | .clearPacket p crc k => Sys2Proof.Machine.execClearPacket p crc k s
  | .clearExec low => Sys2Proof.Machine.execClearExec low s
  | .bcastClr => Sys2Proof.Machine.execBcastClr s
  | .ctrlRd p crc k => Sys2Proof.Machine.execCtrlRd p crc k s
  | .ctrlWr p crc k env => Sys2Proof.Machine.execCtrlWr p crc k env s
  | .ctrlRsp p crc k => Sys2Proof.Machine.execCtrlRsp p crc k s
  | .probe p crc k => Sys2Proof.Machine.execProbe p crc k s
  | .probeRsp p crc k => Sys2Proof.Machine.execProbeRsp p crc k s
  | .assign p crc k => Sys2Proof.Machine.execAssign p crc k s
  | .assignRsp p crc k => Sys2Proof.Machine.execAssignRsp p crc k s
  | .timePacket p crc k => Sys2Proof.Machine.execTimePacket p crc k s
  | .timeSend => Sys2Proof.Machine.execTimeSend s
  | .posPacket p crc k => Sys2Proof.Machine.execPosPacket p crc k s
  | .bulkWr p crc k env => Sys2Proof.Machine.execBulkWr p crc k env s
  | .bulkRd p crc k x => Sys2Proof.Machine.execBulkRd p crc k x s
  | .wrRsp p crc k => Sys2Proof.Machine.execWrRsp p crc k s
  | .rdCpl p crc k => Sys2Proof.Machine.execRdCpl p crc k s
  | .creditPacket p crc k => Sys2Proof.Machine.execCreditPacket p crc k s
  | .ackPacket p crc k => Sys2Proof.Machine.execAckPacket p crc k s
  | .nakPacket p crc k => Sys2Proof.Machine.execNakPacket p crc k s
  | .keepalive p crc k => Sys2Proof.Machine.execKeepalive p crc k s
  | .dlyReq p crc k => Sys2Proof.Machine.execDlyReq p crc k s
  | .dlyRsp p crc k => Sys2Proof.Machine.execDlyRsp p crc k s
  | .delayMeasurement => Sys2Proof.Machine.execDelayMeasurement s
  | .bulkTimeout tag => Sys2Proof.Machine.execBulkTimeout tag s
  | .ctrlTimeout tag => Sys2Proof.Machine.execCtrlTimeout tag s
  | .holdoverTimeout => Sys2Proof.Machine.execHoldoverTimeout s
  | .routeRestore d => Sys2Proof.Machine.execRouteRestore d s
  | .parentRestore => Sys2Proof.Machine.execParentRestore s
  | .creqCtrlRd => Sys2Proof.Machine.execCreqCtrlRd s
  | .creqCtrlWr => Sys2Proof.Machine.execCreqCtrlWr s
  | .creqProbe => Sys2Proof.Machine.execCreqProbe s
  | .creqAssign => Sys2Proof.Machine.execCreqAssign s
  | .fabEnable => Sys2Proof.Machine.execFabEnable s
  | .bootGo v => Sys2Proof.Machine.execBootGo v s
  | .headraceDoorbell v => Sys2Proof.Machine.execHeadraceDoorbell v s
  | .completionDoorbell v => Sys2Proof.Machine.execCompletionDoorbell v s
  | .tailraceDoorbell v => Sys2Proof.Machine.execTailraceDoorbell v s
  | .streamDoorbell r v => Sys2Proof.Machine.execStreamDoorbell r v s
  | .jobDescriptor x => Sys2Proof.Machine.execJobDescriptor x s
  | .jqIn ws => Sys2Proof.Machine.execJqIn ws s
  | .cplIn ws => Sys2Proof.Machine.execCplIn ws s
  | .cplRetry => Sys2Proof.Machine.execCplRetry s
  | .evtIn ws => Sys2Proof.Machine.execEvtIn ws s
  | .streamEntry r x pay => Sys2Proof.Machine.execStreamEntry r x pay s
  | .streamPoll r => Sys2Proof.Machine.execStreamPoll r s
  | .idleTmo v => Sys2Proof.Machine.execIdleTmo v s
  | .culvertAccess off write n data x => Sys2Proof.Machine.execCulvertAccess off write n data x s
  | .hostFlr => Sys2Proof.Machine.execHostFlr s
  | .hostLinkDown => Sys2Proof.Machine.execHostLinkDown s
  | .hostifEnable => Sys2Proof.Machine.execHostifEnable s
  | .chGo n x => Sys2Proof.Machine.execChGo n x s
  | .dmaCopy n x env nx sent => Sys2Proof.Machine.execDmaCopy n x env nx sent s
  | .dmaFill n env nx => Sys2Proof.Machine.execDmaFill n env nx s
  | .dmaCmp n x y nx => Sys2Proof.Machine.execDmaCmp n x y nx s
  | .dmaCmpPat n y nx => Sys2Proof.Machine.execDmaCmpPat n y nx s
  | .descriptorComplete n env => Sys2Proof.Machine.execDescriptorComplete n env s
  | .chStop n => Sys2Proof.Machine.execChStop n s
  | .quiesceRequest mask => Sys2Proof.Machine.execQuiesceRequest mask s
  | .pdQuiesceTmo => Sys2Proof.Machine.execPdQuiesceTmo s
  | .marchEnable => Sys2Proof.Machine.execMarchEnable s
  | .marchWindow fails => Sys2Proof.Machine.execMarchWindow fails s
  | .marchYield => Sys2Proof.Machine.execMarchYield s
  | .dramEnable => Sys2Proof.Machine.execDramEnable s
  | .dramReady bad => Sys2Proof.Machine.execDramReady bad s
  | .scrub x => Sys2Proof.Machine.execScrub x s
  | .wipeComplete part => Sys2Proof.Machine.execWipeComplete part s
  | .deviceReset cause e => Sys2Proof.Machine.execDeviceReset cause e s
  | .hbootGo x => Sys2Proof.Machine.execHbootGo x s
  | .rstDevice v e => Sys2Proof.Machine.execRstDevice v e s
  | .rstCore => Sys2Proof.Machine.execRstCore s
  | .wdtKick v => Sys2Proof.Machine.execWdtKick v s
  | .wdtWarn => Sys2Proof.Machine.execWdtWarn s
  | .wdtExpired => Sys2Proof.Machine.execWdtExpired s
  | .mcclean a => Sys2Proof.Machine.execMcclean a s
  | .mcinval a => Sys2Proof.Machine.execMcinval a s
  | .mcflush a => Sys2Proof.Machine.execMcflush a s
  | .mcall v => Sys2Proof.Machine.execMcall v s
  | .jlogRead => Sys2Proof.Machine.execJlogRead s
  | .evqPop => Sys2Proof.Machine.execEvqPop s
  | .recClear q => Sys2Proof.Machine.execRecClear q s
  | .fwReport v => Sys2Proof.Machine.execFwReport v s
  | .loadWindow busy => Sys2Proof.Machine.execLoadWindow busy s
  | .sumpHwDone => Sys2Proof.Machine.execSumpHwDone s
  | .sumpDone => Sys2Proof.Machine.execSumpDone s
  | .sumpTmo => Sys2Proof.Machine.execSumpTmo s
  | .rstTmo e => Sys2Proof.Machine.execRstTmo e s
  | .nmiRearm => Sys2Proof.Machine.execNmiRearm s
  | .pgmGo vpp => Sys2Proof.Machine.execPgmGo vpp s
  | .pgmDone burn => Sys2Proof.Machine.execPgmDone burn s
  | .finGo vpp => Sys2Proof.Machine.execFinGo vpp s
  | .lockCtl v burn e => Sys2Proof.Machine.execLockCtl v burn e s
  | .keyOpen => Sys2Proof.Machine.execKeyOpen s
  | .lcReq v e => Sys2Proof.Machine.execLcReq v e s
  | .stateReqStill => Sys2Proof.Machine.execStateReqStill s
  | .stateReqLow l1 => Sys2Proof.Machine.execStateReqLow l1 s
  | .stateReqDry => Sys2Proof.Machine.execStateReqDry s
  | .stateEntry => Sys2Proof.Machine.execStateEntry s
  | .wake src cycles => Sys2Proof.Machine.execWake src cycles s
  | .dryWake => Sys2Proof.Machine.execDryWake s
  | .tamper => Sys2Proof.Machine.execTamper s
  | .tamperClr low => Sys2Proof.Machine.execTamperClr low s
  | .xtalFail why => Sys2Proof.Machine.execXtalFail why s
  | .xtalRestore => Sys2Proof.Machine.execXtalRestore s
  | .pllLock p => Sys2Proof.Machine.execPllLock p s
  | .pllFail p => Sys2Proof.Machine.execPllFail p s
  | .hvEnable g => Sys2Proof.Machine.execHvEnable g s
  | .pgood g vs cs => Sys2Proof.Machine.execPgood g vs cs s
  | .hvOv g vs cs => Sys2Proof.Machine.execHvOv g vs cs s
  | .hvUv g vs cs => Sys2Proof.Machine.execHvUv g vs cs s
  | .hvOc g vs cs => Sys2Proof.Machine.execHvOc g vs cs s
  | .hvDisable g => Sys2Proof.Machine.execHvDisable g s
  | .pmbusPoll k st vout err => Sys2Proof.Machine.execPmbusPoll k st vout err s
  | .sendByte k cmd err => Sys2Proof.Machine.execSendByte k cmd err s
  | .writeByte k cmd err => Sys2Proof.Machine.execWriteByte k cmd err s
  | .writeWord k cmd err => Sys2Proof.Machine.execWriteWord k cmd err s
  | .readByte k cmd err data => Sys2Proof.Machine.execReadByte k cmd err data s
  | .readWord k cmd err data => Sys2Proof.Machine.execReadWord k cmd err data s
  | .pmbusTimeout => Sys2Proof.Machine.execPmbusTimeout s
  | .vbatCheck mv => Sys2Proof.Machine.execVbatCheck mv s
  | .powerOn pin e => Sys2Proof.Machine.execPowerOn pin e s
  | .supplyTrip e => Sys2Proof.Machine.execSupplyTrip e s
  | .testEn high cut => Sys2Proof.Machine.execTestEn high cut s
  | .vddWeirLoss => Sys2Proof.Machine.execVddWeirLoss s
  | .wxRestore => Sys2Proof.Machine.execWxRestore s
  | .pcieLinkUp width speed => Sys2Proof.Machine.execPcieLinkUp width speed s
  | .machineTimer => Sys2Proof.Machine.execMachineTimer s
  | .x32Loss => Sys2Proof.Machine.execX32Loss s
  | .finDone burn => Sys2Proof.Machine.execFinDone burn s
  | .ackSend p => Sys2Proof.Machine.execAckSend p s
  | .creditSend p => Sys2Proof.Machine.execCreditSend p s

end Sys2Proof.Machine
end

