-- ==== Sys2Proof/Machine/Tick.lean ====
section
/-! DEFINITION. What one tick of the node's clock does by itself while no command waits: fabric time advances and the
machine timer compares (R135, R376; log entry 2), ports in training move on (R284), and what runs for a bounded time comes
to its end: an export (R252), the ROM's image check (R322, R405), a lock and a life-cycle transition (R402, R404; log entry
92). Every other event in time has a row of the table. -/

namespace Sys2Proof.Machine

/-- A tick of 0.625 ns with no command waiting. -/
def State.idleTick (s : State) : State :=
  ((((s.tickTime.syncTimer).trainTick).exportEnd.checkEnd).lockEnd.romResume.unreachRun).transitionEnd

/-- Put a command at the front of the queue. -/
def State.queueFront (s : State) (c : Instr) : State := { s with pending := c :: s.pending }

end Sys2Proof.Machine
end

