-- ==== Sys2Proof/Safety.lean ====
section
/-! DEFINITION. What counts as a safe state and a safe run, and the words that statements use: the invariant of every
state, which commands may store, and when an op, a waveform instruction or a framing instruction is the next one. -/

namespace Sys2Proof.Machine

/-- Memory and the register map are in canonical form, so equal contents are equal data, and fabric time lies below 2^48
(R135). -/
abbrev State.Inv (s : State) : Prop := Memory.wf s.mem = true ∧ mapWf resetWord s.regs = true ∧ s.time < 2 ^ 48

/-- A run of n steps that meets no fault and no refusal. -/
def Completes (n : Nat) (s : State) : Prop := ∃ t, Sys2Proof.core.run n s = .next t

/-- The two states agree on memory, byte by byte. -/
def SameMemory (s t : State) : Prop := ∀ a, t.byte a = s.byte a

/-- The two states agree on every register but those of a list. -/
def SameRegsBut (l : List Nat) (s t : State) : Prop := ∀ a, a ∉ l → t.rd a = s.rd a

/-- No report is owed: no channel run ended by a stop waits to be recorded, no unroutable packet to be reported. Between
commands both hold. -/
def State.quiet (s : State) : Bool := !s.cal.stopDue && s.fab.unreachDue.isEmpty

/-- Op number op of job j, with this opcode, is the compositor's next, and the DATA clock runs (R43, R414). -/
abbrev State.opReady (s : State) (j : Job) (opc : Nat) : Prop :=
  s.cmpJob? = some j ∧ s.flag CMP.STATUS.BUSY = true ∧ s.cmp.op < j.nops ∧ j.opc s.cmp.op = opc ∧ s.cmp.emit = [] ∧
    s.domainRuns 4 = true

/-- An op gives each position of the heads in its mask the code f, leaves every other head and buffer, and the next op
follows; registers, memory and jobs stay (R43). -/
def OpWrites (j : Job) (s t : State) (f : Nat → Nat → Code) : Prop :=
  (∀ h k, h ∈ headsOf (j.opMask s.cmp.op) → k < j.nnz h → t.lbCode (j.opDst s.cmp.op) h k = f h k)
    ∧ (∀ b h k, b ≠ j.opDst s.cmp.op ∨ h ∉ headsOf (j.opMask s.cmp.op) → t.lbCode b h k = s.lbCode b h k)
    ∧ t.cmp.op = s.cmp.op + 1 ∧ t.regs = s.regs ∧ t.jobs = s.jobs ∧ SameMemory s t

/-- Lane l of port h's transfer x has an instruction of opcode opc next (R87). -/
abbrev State.laneReady (s : State) (h lane opc : Nat) (x : Xfer) (l : Lane) : Prop :=
  (s.hport h).xfer = some x ∧ x.lanes[lane]? = some l ∧ l.done = false ∧ x.complete = false ∧
    insOpc (fpIns x.prog lane l.pc) = opc

/-- Slot z plays on channel c, and its next instruction has opcode opc (R108). -/
abbrev State.waveReady (s : State) (c opc : Nat) (z : Slot) : Prop :=
  (s.chan c).slot = some z ∧ insOpc (s.wmem z.pc) = opc ∧ endsSlot (s.wmem z.pc) = false

/-- Request q of command cmd waits on channel c and is served now, by the firmware when fw, else by the ROM (R271, R282). -/
abbrev State.weirReady (s : State) (c cmd : Nat) (fw : Bool) (q : WeirReq) : Prop :=
  s.weir.reqs.find? (fun q => q.chan == c && wf q.words 0 24 8 == cmd) = some q ∧ s.weir.up = true ∧ s.weir.fw = fw ∧
    s.latchDue = false ∧ q.live = true

/-- The state once request q has been taken. -/
def State.taken (s : State) (q : WeirReq) : State := s.onWeir (fun w => { w with reqs := w.reqs.erase q })

/-- The state with the answer to request q: a code and a body (R271). -/
def State.answered (s : State) (c : Nat) (q : WeirReq) (code : Nat) (body : List Word) : State :=
  s.syncWeir.weirRespond c (wf q.words 0 16 8) code body

/-- Commands that may store to memory: register and memory accesses, the movers of data, resets with their wipes, the
skew store's transfers, table and record writers, the dump, and what may let the ROM load the image that waits for the movers
to stop (R381). -/
def mayStore : Instr → Bool
  | .registerWrite .. | .rcRead .. | .ctrlWr .. | .bulkWr .. | .dmaCopy .. | .dmaFill .. | .dmaCmp .. | .dmaCmpPat ..
  | .descriptorComplete .. | .spillComplete .. | .popLine .. | .popDeadline .. | .latEnd .. | .senseResult .. | .forceClass ..
  | .stateClr .. | .publish .. | .railRun .. | .runComplete .. | .rebuild .. | .calExport .. | .calImport .. | .bootGo ..
  | .streamEntry .. | .culvertAccess .. | .marchWindow .. | .dramReady .. | .wipeComplete .. | .hbootGo .. | .rstCore
  | .wdtExpired | .mcclean .. | .mcflush .. | .mcall .. | .sumpHwDone | .sumpDone | .sumpTmo | .deviceReset .. | .rstDevice ..
  | .rstTmo .. | .lcReq .. | .stateEntry | .supplyTrip .. | .testEn .. | .powerOn .. | .wrRsp .. | .rdCpl .. | .bulkTimeout .. => true
  | _ => false

/-- Commands that may program fuses: those of OTP, the boot sequence, the Weir's logged commands and the loss of its supply
while it burns, and register writes that start one of them. -/
def mayBurn : Instr → Bool
  | .registerWrite .. | .ctrlWr .. | .bulkWr .. | .dmaCopy .. | .dmaFill .. | .dmaCmp .. | .dmaCmpPat .. | .descriptorComplete ..
  | .pgmDone .. | .finDone .. | .lockCtl .. | .lcReq .. | .powerOn .. | .deviceReset .. | .rstDevice .. | .rstTmo .. | .stateEntry
  | .supplyTrip .. | .testEn .. | .setParams .. | .sealWeir .. | .addFw .. | .latchHandling .. | .vddWeirLoss .. => true
  | _ => false

/-- Commands that may change what the Weir's cistern keeps. -/
def mayMoveCistern : Instr → Bool
  | .registerWrite .. | .ctrlWr .. | .bulkWr .. | .dmaCopy .. | .dmaFill .. | .dmaCmp .. | .dmaCmpPat .. | .descriptorComplete ..
  | .weirPor .. | .tapGap | .readTotals .. | .paramLoad .. | .authLockExpiry | .wxStep .. | .wxLost .. | .xtalFail .. | .tapWordReceived .. | .volUpdate
  | .sealBreach | .tamper | .vddWeirLoss .. | .setParams .. | .sealWeir .. | .addFw .. | .latchHandling .. => true
  | _ => false

end Sys2Proof.Machine
end

