-- ==== Sys2Proof/WellFormed.lean ====
section
/-! DEFINITION. Which commands are well formed: every operand lies in the range that its row's rule gives it. The meanings
are total and take any operands; statements that need a range take it from here. -/

namespace Sys2Proof

/-- An access brings a 4-bit transaction status, and errors at word addresses. -/
def Access.wf (x : Access) : Bool :=
  decide (x.status < 16) && x.ce.all (· % 4 == 0) && x.ue.all (· % 4 == 0) && x.coll.all (· % 4 == 0)

def HeadRead.wf (h : HeadRead) : Bool := decide (h.head < 16) && h.x.wf

/-- What fuse pulses leave of a bit: for each copy 0 blank, 1 readable at normal margin, 2 at the tight margin. -/
def burnsWf (l : List (Nat × Nat)) : Bool := l.all (fun r => decide (r.1 ≤ 2) && decide (r.2 ≤ 2))

/-- Beats written of a partial line, at most 63 of the 64 of a line, for heads 0 to 15. -/
def beatsWf (l : List (Nat × Nat)) : Bool := l.all (fun r => decide (r.1 < 16) && decide (r.2 < 64))

def bytesWf (l : List Nat) : Bool := l.all (fun b => decide (b < 256))

/-- Converter samples have 14 bits (R103). -/
def samplesWf (l : List Nat) : Bool := l.all (fun b => decide (b < 16384))

/-- Samples of a channel's two converters. -/
def pairsWf (l : List (Nat × Nat)) : Bool := samplesWf (l.map (·.1)) && samplesWf (l.map (·.2))

/-- The channels of a cycle's findings exist, and its samples have 14 bits. -/
def CycleFaults.wf (f : CycleFaults) : Bool :=
  f.ramps.all (fun e => decide (e.1 < 48) && pairsWf e.2)
    && (f.shorts ++ f.amps ++ f.tracks.map (fun e => (e.1, e.2.1))).all (fun e => decide (e.1 < 48) && pairsWf [e.2])
    && f.offs.all (fun c => decide (c < 48))

def PulseCut.wf (c : PulseCut) : Bool := burnsWf c.cmd && burnsWf c.lock

def ResetEnv.wf (e : ResetEnv) : Bool := e.cut.wf && burnsWf e.burn

/-- R429 and R430 name seven supplies, and one of them trips. -/
def TripEnv.wf (e : TripEnv) : Bool := e.cut.wf && decide (0 < e.low) && decide (e.low < 128)

def LockEnv.wf (e : LockEnv) : Bool := burnsWf e.sofar

def BusEnv.wf (e : BusEnv) : Bool := e.x.wf && e.reset.wf && beatsWf e.beats

/-- A packet has no more than 64 payload words, and two BULK header words or none (R286). -/
def Packet.wf (k : Packet) : Bool := decide (k.payload.length ≤ 64) && (k.ext.length == 0 || k.ext.length == 2)

/-- A run measures at most 72 cells, 64 samples of a step, and 16 settings of 4 candidates. -/
def CalMeas.wf (d : CalMeas) : Bool :=
  decide (d.weights.length ≤ 72) && decide (d.delay.length ≤ 4) && decide (d.stepVfb.length ≤ 64) && samplesWf d.stepVfb
    && d.delay.all (fun k => decide (k.pts.length ≤ 16))

/-- The issuers that R461 numbers. -/
def issuerWf (i : Nat) : Bool := [0, 3, 5, 6, 7, 8, 9, 10, 11, 13, 14, 15].contains i

/-- Widths of a bus access in bytes. -/
def widthWf (w : Nat) : Bool := w == 1 || w == 2 || w == 4 || w == 8

/-- PCIe link widths (R325). -/
def lanesWf (w : Nat) : Bool := w == 1 || w == 2 || w == 4

/-- A TBL_SWAP mask of four bits that names table k. -/
def bit4 (mask k : Nat) : Bool := decide (mask < 16) && mask.testBit k

/-- The operands of a command lie in their ranges. -/
def Instr.wf : Instr → Bool
  | .registerWrite issuer addr width v env => issuerWf issuer && decide (addr < 2 ^ 40) && widthWf width && decide (v < 256 ^ width) && env.wf
  | .rcRead issuer addr width x => issuerWf issuer && decide (addr < 2 ^ 40) && widthWf width && x.wf
  | .crossingRead issuer addr width => issuerWf issuer && decide (addr < 2 ^ 40) && widthWf width
  | .armEn _ => true
  | .tblSwapCal mask => bit4 mask 3
  | .tblSwapRail mask => bit4 mask 2
  | .tblSwapComp mask => bit4 mask 1
  | .tblSwapHealth mask => bit4 mask 0
  | .swapIdleComplete => true
  | .errorReport q inst detail => decide (q < 256) && decide (inst < 256) && decide (detail < 2 ^ 32)
  | .sluicePin => true
  | .sluiceSet => true
  | .sluiceClr => true
  | .sluiceClrCheck _ => true
  | .fireEnable => true
  | .fireDisable => true
  | .cmpEnable => true
  | .cmpDisable beats => beatsWf beats
  | .composeLineBoundary x => x.wf
  | .opClear => true
  | .fetchOp x => x.wf
  | .mergeOp => true
  | .lookupOp => true
  | .passmaskOp => true
  | .stitchOp => true
  | .railOp x => x.wf
  | .compOp x => x.wf
  | .emitOp stall x => decide (stall < 2 ^ 32) && x.wf
  | .programLoad xp xt => xp.wf && xt.wf
  | .killSet n => decide (n < 65536)
  | .killClr => true
  | .linePush h => decide (h < 16)
  | .tailToHeadMove h => decide (h < 16)
  | .spillComplete h x => decide (h < 16) && x.wf
  | .refillComplete h x => decide (h < 16) && x.wf
  | .popLine h => h.wf
  | .popDeadline h => h.wf
  | .lqFlush mask => decide (mask < 2 ^ 16)
  | .flushEffect h beats => decide (h < 16) && decide (beats < 64)
  | .flushTimeout h beats => decide (h < 16) && decide (beats < 64)
  | .lqEnable => true
  | .lqDisable beats => beatsWf beats
  | .qptrMismatch h ptr a b beats => decide (h < 16) && decide (ptr < 8) && decide (a < 2 ^ 14) && decide (b < 2 ^ 14) && decide (beats < 64)
  | .latStart h => decide (h < 16)
  | .latEnd h => h.wf
  | .frameComplete h => decide (h < 16)
  | .xferLate h => decide (h < 16)
  | .constBits h lane => decide (h < 16) && decide (lane < 8)
  | .noz h lane => decide (h < 16) && decide (lane < 8)
  | .crcMark h lane => decide (h < 16) && decide (lane < 8)
  | .crcInsert h lane => decide (h < 16) && decide (lane < 8)
  | .loopLane h lane => decide (h < 16) && decide (lane < 8)
  | .frameEnd h lane => decide (h < 16) && decide (lane < 8)
  | .fpLoad h x => decide (h < 16) && x.wf
  | .fpCheckComplete h => decide (h < 16)
  | .portEnable h => decide (h < 16)
  | .portReady h raw _ shorts opens => decide (h < 16) && decide (raw < 256) && decide (shorts < 64) && decide (opens < 64)
  | .portDisable h => decide (h < 16)
  | .hptDisable => true
  | .prsSample h raw => decide (h < 16) && decide (raw < 256)
  | .laneFault h lane _ => decide (h < 16) && decide (lane < 6)
  | .downClr h shorts opens => decide (h < 16) && decide (shorts < 64) && decide (opens < 64)
  | .i2cTransaction h _ _ => decide (h < 16)
  | .i2cDone h _ nbytes read => decide (h < 16) && decide (nbytes ≤ 32) && bytesWf read
  | .i2cStretchTimeout h nbytes => decide (h < 16) && decide (nbytes ≤ 32)
  | .ramp c l => decide (c < 48) && l.wf
  | .hold c => decide (c < 48)
  | .win c => decide (c < 48)
  | .sense c vfb => decide (c < 48) && pairsWf vfb
  | .jump c => decide (c < 48)
  | .endSlot c vfb => decide (c < 48) && pairsWf vfb
  | .slotLimit c => decide (c < 48)
  | .channelEnable c _ => decide (c < 48)
  | .channelReady c es => decide (c < 48) && decide (es.length ≤ 8)
  | .channelDisable c => decide (c < 48)
  | .rampDownComplete c => decide (c < 48)
  | .wfeDisable => true
  | .faultClr c _ => decide (c < 48)
  | .pdReset c => decide (c < 48)
  | .shortFault l => l.wf
  | .ampFlt l => l.wf
  | .trackFault l => l.wf
  | .takeoverClr h => decide (h < 16)
  | .headDownClr h => decide (h < 16)
  | .validSample => true
  | .predictionStale => true
  | .jobArm => true
  | .fireLineBoundary => true
  | .rowTrigger h => decide (h < 16)
  | .jobComplete => true
  | .inputAccepted n l => decide (n < 4) && decide (l < 8)
  | .axisStopped n => decide (n < 4)
  | .serialFrameStart n _ => decide (n < 4)
  | .noack n => decide (n < 4)
  | .serialTimeout n _ _ => decide (n < 4)
  | .serialFrameComplete n _ _ => decide (n < 4)
  | .wireLoss n mask => decide (n < 4) && decide (mask < 8)
  | .wireRestore n => decide (n < 4)
  | .snapAll => true
  | .tideHandoff => true
  | .axisEnable n => decide (n < 4)
  | .axisDisable n => decide (n < 4)
  | .tempMeasure h x => decide (h < 16) && decide (x < 4096)
  | .noRise h => decide (h < 16)
  | .htrFault h => decide (h < 16)
  | .senseResult h x => decide (h < 16) && x.wf
  | .forceClass _ x => x.wf
  | .stateClr h => decide (h < 16)
  | .publishReq => true
  | .pubTmo => true
  | .publish x => x.wf
  | .nhEnable => true
  | .senseEn h => decide (h < 16)
  | .dieTempSample t0 t1 t2 t3 => decide (t0 < 65536) && decide (t1 < 65536) && decide (t2 < 65536) && decide (t3 < 65536)
  | .calReq e => decide (e < 128)
  | .channelRun => true
  | .delayPathRun => true
  | .encoderRun => true
  | .encTmo => true
  | .baselineRun h => decide (h < 16)
  | .railRun x => x.wf
  | .runComplete e d => decide (e < 128) && d.wf
  | .ctlAbort => true
  | .retryTmo e => decide (e < 128)
  | .recalc => true
  | .rebuild x => x.wf
  | .calExport x => x.wf
  | .calImport x => x.wf
  | .weirPor _ => true
  | .tapGap => true
  | .getId c => decide (c < 2)
  | .getStatus c => decide (c < 2)
  | .readTotals c => decide (c < 2)
  | .readEvent c => decide (c < 2)
  | .readParams c => decide (c < 2)
  | .loadBegin c => decide (c < 2)
  | .loadChunk c => decide (c < 2)
  | .loadEnd c => decide (c < 2)
  | .challenge c => decide (c < 2)
  | .paramLoad c => decide (c < 2)
  | .setParams c burn => decide (c < 2) && burnsWf burn
  | .sealWeir c _ burn => decide (c < 2) && burnsWf burn
  | .addFw c burn slot => decide (c < 2) && burnsWf burn && burnsWf slot
  | .authLockExpiry => true
  | .wxStep l => decide (l < 8)
  | .wxLost mask => decide (mask < 8)
  | .tapWordReceived flip => decide (flip < 2 ^ 64)
  | .volUpdate => true
  | .sealBreach => true
  | .latchHandling burn => burnsWf burn
  | .linkUp p _ _ _ _ _ inv => decide (p < 4) && decide (inv < 4)
  | .trainRetry p => decide (p < 4)
  | .linkLost p why => decide (p < 4) && decide (1 ≤ why ∧ why ≤ 3)
  | .replayTimeout p => decide (p < 4)
  | .stopPacket p _ k => decide (p < 5) && k.wf
  | .clearPacket p _ k => decide (p < 5) && k.wf
  | .clearExec _ => true
  | .bcastClr => true
  | .ctrlRd p _ k => decide (p < 5) && k.wf
  | .ctrlWr p _ k env => decide (p < 5) && k.wf && env.wf
  | .ctrlRsp p _ k => decide (p < 5) && k.wf
  | .probe p _ k => decide (p < 5) && k.wf
  | .probeRsp p _ k => decide (p < 5) && k.wf
  | .assign p _ k => decide (p < 5) && k.wf
  | .assignRsp p _ k => decide (p < 5) && k.wf
  | .timePacket p _ k => decide (p < 5) && k.wf
  | .timeSend => true
  | .posPacket p _ k => decide (p < 5) && k.wf
  | .bulkWr p _ k env => decide (p < 5) && k.wf && env.wf
  | .bulkRd p _ k x => decide (p < 5) && k.wf && x.wf
  | .wrRsp p _ k => decide (p < 5) && k.wf
  | .rdCpl p _ k => decide (p < 5) && k.wf
  | .creditPacket p _ k => decide (p < 5) && k.wf
  | .ackPacket p _ k => decide (p < 5) && k.wf
  | .nakPacket p _ k => decide (p < 5) && k.wf
  | .keepalive p _ k => decide (p < 5) && k.wf
  | .dlyReq p _ k => decide (p < 5) && k.wf
  | .dlyRsp p _ k => decide (p < 5) && k.wf
  | .delayMeasurement => true
  | .bulkTimeout tag => decide (tag < 65536)
  | .ctrlTimeout tag => decide (tag < 65536)
  | .holdoverTimeout => true
  | .routeRestore d => decide (d < 64)
  | .parentRestore => true
  | .creqCtrlRd => true
  | .creqCtrlWr => true
  | .creqProbe => true
  | .creqAssign => true
  | .fabEnable => true
  | .bootGo v => decide (v < 2 ^ 32)
  | .headraceDoorbell v => decide (v < 2 ^ 32)
  | .completionDoorbell v => decide (v < 2 ^ 32)
  | .tailraceDoorbell v => decide (v < 2 ^ 32)
  | .streamDoorbell r v => decide (r < 248) && decide (v < 2 ^ 32)
  | .jobDescriptor x => x.wf
  | .jqIn ws => decide (ws.length ≤ 64)
  | .cplIn ws => decide (ws.length ≤ 64)
  | .cplRetry => true
  | .evtIn ws => decide (ws.length ≤ 64)
  | .streamEntry r x pay => decide (r < 248) && x.wf && pay.wf
  | .streamPoll r => decide (r < 248)
  | .idleTmo v => decide (v < 2)
  | .culvertAccess off _ n data x => decide (off < 2 ^ 30) && decide (1 ≤ n ∧ n ≤ 4096) && bytesWf data && x.wf
  | .hostFlr => true
  | .hostLinkDown => true
  | .hostifEnable => true
  | .chGo n x => decide (n < 16) && x.wf
  | .dmaCopy n x env nx _ => decide (n < 16) && x.wf && env.wf && nx.wf
  | .dmaFill n env nx => decide (n < 16) && env.wf && nx.wf
  | .dmaCmp n x y nx => decide (n < 16) && x.wf && y.wf && nx.wf
  | .dmaCmpPat n y nx => decide (n < 16) && y.wf && nx.wf
  | .descriptorComplete n env => decide (n < 16) && env.wf
  | .chStop n => decide (n < 16)
  | .quiesceRequest mask => decide (mask < 1024)
  | .pdQuiesceTmo => true
  | .marchEnable => true
  | .marchWindow fails => fails.all (fun f => decide (f.1 < 2 ^ 40) && f.1 % 4 == 0)
  | .marchYield => true
  | .dramEnable => true
  | .dramReady bad => decide (bad < 4)
  | .scrub x => x.wf
  | .wipeComplete part => decide (part < 5)
  | .deviceReset cause e => decide (cause < 5) && e.wf
  | .hbootGo x => x.wf
  | .rstDevice v e => decide (v < 2 ^ 32) && e.wf
  | .rstCore => true
  | .wdtKick v => decide (v < 2 ^ 32)
  | .wdtWarn => true
  | .wdtExpired => true
  | .mcclean a => decide (a < 2 ^ 32)
  | .mcinval a => decide (a < 2 ^ 32)
  | .mcflush a => decide (a < 2 ^ 32)
  | .mcall v => decide (v < 2 ^ 32)
  | .jlogRead => true
  | .evqPop => true
  | .recClear q => decide (q < 256)
  | .fwReport v => decide (v < 2 ^ 32)
  | .loadWindow busy => decide (busy ≤ 65536)
  | .sumpHwDone => true
  | .sumpDone => true
  | .sumpTmo => true
  | .rstTmo e => e.wf
  | .nmiRearm => true
  | .pgmGo _ => true
  | .pgmDone burn => burnsWf burn
  | .finGo _ => true
  | .lockCtl v burn e => decide (v < 2 ^ 32) && burnsWf burn && e.wf
  | .keyOpen => true
  | .lcReq v e => decide (v < 2 ^ 32) && e.wf
  | .stateReqStill => true
  | .stateReqLow _ => true
  | .stateReqDry => true
  | .stateEntry => true
  | .wake src cycles => decide (src < 32) && decide (cycles < 2 ^ 48)
  | .dryWake => true
  | .tamper => true
  | .tamperClr _ => true
  | .xtalFail why => decide (1 ≤ why ∧ why ≤ 3)
  | .xtalRestore => true
  | .pllLock p => decide (p < 5)
  | .pllFail p => decide (p < 5)
  | .hvEnable g => decide (g < 4)
  | .pgood g vs cs => decide (g < 4) && decide (vs ≤ 1000000) && decide (cs ≤ 1000000)
  | .hvOv g vs cs => decide (g < 4) && decide (vs ≤ 1000000) && decide (cs ≤ 1000000)
  | .hvUv g vs cs => decide (g < 4) && decide (vs ≤ 1000000) && decide (cs ≤ 1000000)
  | .hvOc g vs cs => decide (g < 4) && decide (vs ≤ 1000000) && decide (cs ≤ 1000000)
  | .hvDisable g => decide (g < 4)
  | .pmbusPoll k st vout err => decide (k < 16) && decide (st < 65536) && decide (vout < 65536) && decide (err < 8)
  | .sendByte k cmd err => decide (k < 16) && decide (cmd < 256) && decide (err < 8)
  | .writeByte k cmd err => decide (k < 16) && decide (cmd < 256) && decide (err < 8)
  | .writeWord k cmd err => decide (k < 16) && decide (cmd < 256) && decide (err < 8)
  | .readByte k cmd err data => decide (k < 16) && decide (cmd < 256) && decide (err < 8) && decide (data < 65536)
  | .readWord k cmd err data => decide (k < 16) && decide (cmd < 256) && decide (err < 8) && decide (data < 65536)
  | .pmbusTimeout => true
  | .vbatCheck mv => decide (mv < 65536)
  | .powerOn _ e => e.wf
  | .supplyTrip e => e.wf
  | .testEn _ cut => cut.wf
  | .vddWeirLoss => true
  | .wxRestore => true
  | .pcieLinkUp width speed => lanesWf width && decide (1 ≤ speed ∧ speed ≤ 4)
  | .machineTimer => true
  | .x32Loss => true
  | .finDone burn => burnsWf burn
  | .ackSend p => decide (p < 4)
  | .creditSend p => decide (p < 4)

end Sys2Proof
end

