-- ==== Sys2Proof/Certificates/Slice0/Obligations.lean ====
section
/-! DEFINITION. The statements for the provers. Those whose docstring names a log entry rest on a choice of the model. -/

open Sys2Proof Sys2Proof.Machine

/-- For every command c and state s, a step of s with c put at the front of its queue is exec of c on s with the queue's
rest. -/
def Obligations.StepRunsFront : Prop :=
  ∀ (c : Instr) (s : State),
    Sys2Proof.Machine.step { s with pending := c :: s.pending } = Sys2Proof.Machine.exec c s

/-- On an empty queue a step answers a next state: one tick of 0.625 ns passes, the machine timer compares, and what runs
for a bounded time ends. What step does on an empty queue is the model's choice (log entries 2 and 92). -/
def Obligations.StepIdles : Prop :=
  ∀ s : State, s.pending = [] → Sys2Proof.Machine.step s = .next s.idleTick

/-- After reset memory and registers are in canonical form, every byte of memory reads 0 and every register its reset
value, and no command waits. The bytes and the reset values that the spec does not state are the model's (log entries
3 to 6 and 70). -/
def Obligations.ResetMeetsInv : Prop :=
  State.reset.Inv ∧ State.reset.pending = [] ∧ (∀ a, State.reset.byte a = 0#8) ∧ ∀ a, State.reset.rd a = resetWord a

/-- From every state, reachable or not, in which memory and the register map are in canonical form and fabric time is
below 2^48, every step leads to such a state. -/
def Obligations.StepKeepsInv : Prop :=
  ∀ s t : State, s.Inv → Sys2Proof.Machine.step s = .next t → t.Inv

/-- On every state with the invariant, every command with any operands answers a next state, never a fault or a refusal,
keeps the invariant, and leaves the queue of waiting commands as it was. -/
def Obligations.EveryCommandCompletes : Prop :=
  ∀ (c : Instr) (s : State), s.Inv → ∃ t, Sys2Proof.Machine.exec c s = .next t ∧ t.pending = s.pending ∧ t.Inv

/-- Whatever the step, no fuse cell ends weaker than it was; a logical bit reads 1 at a margin exactly when one of its two
copies does at that margin. -/
def Obligations.FusesNeverBlank : Prop :=
  ∀ s t : State, s.Inv → Sys2Proof.Machine.step s = .next t →
    (∀ k, s.cell k ≤ t.cell k) ∧
    ∀ i, (s.fuseBit i = true ↔ 1 ≤ s.cell (2 * i) ∨ 1 ≤ s.cell (2 * i + 1)) ∧
      (s.fuseTight i = true ↔ 2 ≤ s.cell (2 * i) ∨ 2 ≤ s.cell (2 * i + 1))

/-- Every command but those that mayStore names (register and memory accesses, data movers, wipes, the skew store, table,
record and dump writers, and what may let the ROM load a waiting image) leaves every byte of memory as it was. -/
def Obligations.OnlyStorersStore : Prop :=
  ∀ (c : Instr) (s t : State), s.Inv → mayStore c = false → Sys2Proof.Machine.exec c s = .next t → SameMemory s t

/-- Every command but those that mayBurn names (the OTP commands, the boot sequence, the Weir's logged commands and the
loss of its supply, and register writes that start one of them) leaves every fuse cell as it was. -/
def Obligations.OnlyBurnersBurn : Prop :=
  ∀ (c : Instr) (s t : State), s.Inv → mayBurn c = false → Sys2Proof.Machine.exec c s = .next t → t.otp.cells = s.otp.cells

/-- Every command but those that mayMoveCistern names (the Weir's own, its supply's, the crystal's failure, the tap and WX
inputs, and register writes that can ring a mailbox doorbell) leaves the totals, latches and log of the cistern as
they were. -/
def Obligations.OnlyWeirMovesCistern : Prop :=
  ∀ (c : Instr) (s t : State), s.Inv → mayMoveCistern c = false → Sys2Proof.Machine.exec c s = .next t → t.weir.cistern = s.weir.cistern

/-- Setting ARM_EN sets the bit and clears WDT_STAT.RESETS, and changes nothing else. Clearing it with no job ARMED clears
the bit, and changes nothing else. Clearing it with a job ARMED returns that job, with its checked program, to QUEUED. -/
def Obligations.ArmGate : Prop :=
  (∀ (s : State),
      Sys2Proof.Machine.exec (.armEn true) s = .next ((s.raise SYS.MGMT_CTL.ARM_EN).put SYS.WDT_STAT.RESETS 0)) ∧
  (∀ (s : State),
      s.armed = none →
      Sys2Proof.Machine.exec (.armEn false) s = .next (s.drop SYS.MGMT_CTL.ARM_EN)) ∧
  (∀ (s : State) (j : Job),
      s.armed = some j →
      ∃ t, Sys2Proof.Machine.exec (.armEn false) s = .next t ∧
        t.flag SYS.MGMT_CTL.ARM_EN = false ∧ t.jobs = s.jobs.map (fun k => if k.seq == j.seq then { k with st := .queued } else k) ∧ SameMemory s t)

/-- A write that names CAL and asks for some table not pending sets the bits of those tables and queues one swap of
exactly them; line L is the next compose line unless CAL is asked for alone. A write that names RAIL and asks for some
table not pending sets the bits of those tables and queues one swap of exactly them; line L is the next compose line
unless CAL is asked for alone. A write that names COMP and asks for some table not pending sets the bits of those
tables and queues one swap of exactly them; line L is the next compose line unless CAL is asked for alone. A write
that names HEALTH and asks for some table not pending sets the bits of those tables and queues one swap of exactly
them; line L is the next compose line unless CAL is asked for alone. A write that asks only for tables whose swap is
pending changes nothing (tblSwapCal). A write that asks only for tables whose swap is pending changes nothing
(tblSwapRail). A write that asks only for tables whose swap is pending changes nothing (tblSwapComp). A write that
asks only for tables whose swap is pending changes nothing (tblSwapHealth). -/
def Obligations.SwapRequests : Prop :=
  (∀ (s : State) (mask new : Nat),
      mask.testBit 3 = true →
      new = mask % 16 &&& (15 - s.get ⟨SYS.TBL_SWAP, 0, 4⟩) →
      new ≠ 0 →
      Sys2Proof.Machine.exec (.tblSwapCal mask) s = .next { s.put ⟨SYS.TBL_SWAP, 0, 4⟩ (s.get ⟨SYS.TBL_SWAP, 0, 4⟩ ||| new) with
          swaps := s.swaps ++ [{ mask := new, left := new, lineL := if new &&& 7 = 0 then 0 else (s.get CMP.LINE_CNT.COUNT + 1) % 2 ^ 32 }] }) ∧
  (∀ (s : State) (mask new : Nat),
      mask.testBit 2 = true →
      new = mask % 16 &&& (15 - s.get ⟨SYS.TBL_SWAP, 0, 4⟩) →
      new ≠ 0 →
      Sys2Proof.Machine.exec (.tblSwapRail mask) s = .next { s.put ⟨SYS.TBL_SWAP, 0, 4⟩ (s.get ⟨SYS.TBL_SWAP, 0, 4⟩ ||| new) with
          swaps := s.swaps ++ [{ mask := new, left := new, lineL := if new &&& 7 = 0 then 0 else (s.get CMP.LINE_CNT.COUNT + 1) % 2 ^ 32 }] }) ∧
  (∀ (s : State) (mask new : Nat),
      mask.testBit 1 = true →
      new = mask % 16 &&& (15 - s.get ⟨SYS.TBL_SWAP, 0, 4⟩) →
      new ≠ 0 →
      Sys2Proof.Machine.exec (.tblSwapComp mask) s = .next { s.put ⟨SYS.TBL_SWAP, 0, 4⟩ (s.get ⟨SYS.TBL_SWAP, 0, 4⟩ ||| new) with
          swaps := s.swaps ++ [{ mask := new, left := new, lineL := if new &&& 7 = 0 then 0 else (s.get CMP.LINE_CNT.COUNT + 1) % 2 ^ 32 }] }) ∧
  (∀ (s : State) (mask new : Nat),
      mask.testBit 0 = true →
      new = mask % 16 &&& (15 - s.get ⟨SYS.TBL_SWAP, 0, 4⟩) →
      new ≠ 0 →
      Sys2Proof.Machine.exec (.tblSwapHealth mask) s = .next { s.put ⟨SYS.TBL_SWAP, 0, 4⟩ (s.get ⟨SYS.TBL_SWAP, 0, 4⟩ ||| new) with
          swaps := s.swaps ++ [{ mask := new, left := new, lineL := if new &&& 7 = 0 then 0 else (s.get CMP.LINE_CNT.COUNT + 1) % 2 ^ 32 }] }) ∧
  (∀ (s : State) (mask : Nat),
      mask % 16 &&& (15 - s.get ⟨SYS.TBL_SWAP, 0, 4⟩) = 0 →
      Sys2Proof.Machine.exec (.tblSwapCal mask) s = .next s) ∧
  (∀ (s : State) (mask : Nat),
      mask % 16 &&& (15 - s.get ⟨SYS.TBL_SWAP, 0, 4⟩) = 0 →
      Sys2Proof.Machine.exec (.tblSwapRail mask) s = .next s) ∧
  (∀ (s : State) (mask : Nat),
      mask % 16 &&& (15 - s.get ⟨SYS.TBL_SWAP, 0, 4⟩) = 0 →
      Sys2Proof.Machine.exec (.tblSwapComp mask) s = .next s) ∧
  (∀ (s : State) (mask : Nat),
      mask % 16 &&& (15 - s.get ⟨SYS.TBL_SWAP, 0, 4⟩) = 0 →
      Sys2Proof.Machine.exec (.tblSwapHealth mask) s = .next s)

/-- With both engines idle in the sense of R22 the compose tables and then CAL swap at once; drops that the events met are
then reported. No swap then pends, and the jobs stay. -/
def Obligations.SwapIdleComplete : Prop :=
  (∀ (s : State),
      s.flag CMP.CTL.EN = false ∨ (s.cmp.job = none ∧ s.progNext = none) →
      s.running = none →
      s.armed = none →
      Sys2Proof.Machine.exec .swapIdleComplete s = .next (s.swapComposeIdle.swapCalIdle).unreachRun) ∧
  (∀ (s : State),
      (∀ w ∈ s.swaps, w.left < 16) →
      (s.swapComposeIdle.swapCalIdle).swaps = [] ∧ (s.swapComposeIdle.swapCalIdle).jobs = s.jobs)

/-- A report of a disabled source changes nothing. The first report of an enabled source that neither stops the node nor
is posted to the host, with a severity below FATAL and room in the event queue, writes FIRST with severity, instance,
detail and fabric time, and appends one entry with the same. Whatever its reactions, a first report writes the record
and the entry; then, with HOST, it posts event 0x8000 + q with the record; with STOP, or FATAL, it asserts a stop with
cause ERR; and FATAL starts the fatal path. A later report replaces LATEST, counts SUBSEQ and may raise SEV: by one at
a multiple of REPEAT_LIM, and to its own; FIRST stays; the reactions are the same, and a record that becomes FATAL
starts the fatal path. A first report with STOP ends every job, cancels every trigger and drops the line compare. A
first report of severity FATAL names its source in FATAL_SRC, sets ACTIVE, counts a fatal path and asserts a stop. -/
def Obligations.ErrorReportRecorded : Prop :=
  (∀ (s : State) (q inst detail : Nat),
      s.get (ERR.SRC_CFG.EN q) = 0 →
      s.quiet = true →
      Sys2Proof.Machine.exec (.errorReport q inst detail) s = .next s) ∧
  (∀ (s : State) (q inst detail : Nat),
      srcNamed q = true →
      q < 256 →
      inst < 256 →
      s.flag (ERR.SRC_CFG.EN q) = true →
      s.flag (recFirst q) = false →
      s.sys.evq.length < 64 →
      s.flag (ERR.SRC_CFG.HOST q) = false →
      s.flag (ERR.SRC_CFG.STOP q) = false →
      s.get (ERR.SRC_CFG.SEV q) < 3 →
      s.quiet = true →
      s.held = false →
      ∃ t, Sys2Proof.Machine.exec (.errorReport q inst detail) s = .next t ∧
        t.rd (ERR.REC q 0) = w32 (2 ^ 31 + s.get (ERR.SRC_CFG.SEV q) * 2 ^ 28 + inst * 2 ^ 16) ∧ t.rd (ERR.REC q 1) = w32 detail ∧
        t.rd (ERR.REC q 2) = w32 s.time ∧ t.rd (ERR.REC q 4) = 0#32 ∧ t.sys.recs = insertAsc s.sys.recs q ∧
        t.sys.evq = s.sys.evq ++ [{ w0 := w32 (2 ^ 31 + s.get (ERR.SRC_CFG.SEV q) * 2 ^ 28 + inst * 2 ^ 16)
                                    w1 := w32 detail
                                    w2 := w32 s.time
                                    w3 := w32 (q * 2 ^ 24 + s.get (ERR.SRC_CFG.SEV q) * 2 ^ 22 + s.time / 2 ^ 32 % 2 ^ 16) }] ∧
        t.sys.stops = s.sys.stops ∧ t.jobs = s.jobs ∧ SameMemory s t) ∧
  (∀ (s : State) (q inst detail : Nat),
      srcNamed q = true →
      q < 256 →
      inst < 256 →
      s.flag (ERR.SRC_CFG.EN q) = true →
      s.flag (recFirst q) = false →
      s.sys.evq.length < 64 →
      s.held = false →
      ∃ t, Sys2Proof.Machine.exec (.errorReport q inst detail) s = .next t ∧
        ∃ c : State, c.rd (ERR.REC q 0) = w32 (2 ^ 31 + s.get (ERR.SRC_CFG.SEV q) * 2 ^ 28 + inst * 2 ^ 16) ∧ c.rd (ERR.REC q 1) = w32 detail ∧
          c.rd (ERR.REC q 2) = w32 s.time ∧ c.rd (ERR.REC q 4) = 0#32 ∧ c.rd (ERR.SRC_CFG q) = s.rd (ERR.SRC_CFG q) ∧ c.sys.recs = insertAsc s.sys.recs q ∧
          c.sys.evq.length = s.sys.evq.length + 1 ∧ c.jobs = s.jobs ∧ SameMemory s c ∧
          ∃ d, d = c.when (c.flag (ERR.SRC_CFG.HOST q)) (fun u => u.postEvent (0x8000 + q) (u.recWords q)) ∧
          ∃ f, f = d.when (d.flag (ERR.SRC_CFG.STOP q) || s.get (ERR.SRC_CFG.SEV q) == 3) (fun u => ((u.onSys (fun y => { y with stops := insertAsc y.stops q })).syncStops).nodeStop 3) ∧
          t = (((f.when (s.get (ERR.SRC_CFG.SEV q) == 3) (·.fatal q)).stopRun).unreachRun)) ∧
  (∀ (s : State) (q inst detail e : Nat),
      srcNamed q = true →
      q < 256 →
      inst < 256 →
      s.flag (ERR.SRC_CFG.EN q) = true →
      s.flag (recFirst q) = true →
      s.sys.evq.length < 64 →
      s.held = false →
      e = escalated (s.get ERR.CFG.REPEAT_LIM) (min 65535 (s.get (recSubseq q) + 1)) (s.get (recSev q)) (s.get (ERR.SRC_CFG.SEV q)) →
      ∃ t, Sys2Proof.Machine.exec (.errorReport q inst detail) s = .next t ∧
        ∃ c : State, c.flag (recLatest q) = true ∧ c.get (recSubseq q) = min 65535 (s.get (recSubseq q) + 1) ∧ c.get (recSev q) = e ∧
          c.rd (ERR.REC q 1) = s.rd (ERR.REC q 1) ∧ c.rd (ERR.REC q 4) = w32 (s.get (ERR.SRC_CFG.SEV q) * 2 ^ 28 + inst * 2 ^ 16 + s.get (recLost q)) ∧
          c.rd (ERR.REC q 5) = w32 detail ∧ c.rd (ERR.REC q 6) = w32 s.time ∧ c.rd (ERR.REC q 7) = w32 (s.time / 2 ^ 32 % 2 ^ 16) ∧
          c.rd (ERR.SRC_CFG q) = s.rd (ERR.SRC_CFG q) ∧ c.sys.recs = s.sys.recs ∧ c.sys.evq.length = s.sys.evq.length + 1 ∧ c.jobs = s.jobs ∧ SameMemory s c ∧
          ∃ d, d = c.when (c.flag (ERR.SRC_CFG.HOST q)) (fun u => u.postEvent (0x8000 + q) (u.recWords q)) ∧
          ∃ f, f = d.when (d.flag (ERR.SRC_CFG.STOP q) || e == 3) (fun u => ((u.onSys (fun y => { y with stops := insertAsc y.stops q })).syncStops).nodeStop 3) ∧
          t = (((f.when (e == 3 && (s.get (recSev q) != 3 || (s.get (ERR.SRC_CFG.SEV q) == 3 && f.flag SYS.SUMP_STAT.ACTIVE))) (·.fatal q)).stopRun).unreachRun)) ∧
  (∀ (s : State) (q inst detail : Nat),
      srcNamed q = true →
      q < 256 →
      inst < 256 →
      s.flag (ERR.SRC_CFG.EN q) = true →
      s.flag (recFirst q) = false →
      s.sys.evq.length < 64 →
      s.flag (ERR.SRC_CFG.HOST q) = false →
      s.flag (ERR.SRC_CFG.STOP q) = true →
      s.flag FIRE.SLUICE_STAT.STOPPED = false →
      s.cal.meas = none →
      s.held = false →
      ∃ t, Sys2Proof.Machine.exec (.errorReport q inst detail) s = .next t ∧
        t.jobs = [] ∧ t.fire.trigs = [] ∧ t.fire.taps = [] ∧ t.fire.loaded = false) ∧
  (∀ (s : State) (q inst detail : Nat),
      srcNamed q = true →
      q < 256 →
      inst < 256 →
      s.flag (ERR.SRC_CFG.EN q) = true →
      s.flag (recFirst q) = false →
      s.sys.evq.length < 64 →
      s.flag (ERR.SRC_CFG.HOST q) = false →
      s.get (ERR.SRC_CFG.SEV q) = 3 →
      s.flag FIRE.SLUICE_STAT.STOPPED = true →
      s.flag SYS.SUMP_STAT.ACTIVE = false →
      s.quiet = true →
      s.held = false →
      ∃ t, Sys2Proof.Machine.exec (.errorReport q inst detail) s = .next t ∧
        t.rd ERR.FATAL_SRC = w32 (2 ^ 31 + inst * 2 ^ 8 + q) ∧ t.flag SYS.SUMP_STAT.ACTIVE = true ∧ t.flag SYS.SUMP_STAT.HW_DONE = false ∧ t.sys.sumpSeq = (s.sys.sumpSeq + 1) % 2 ^ 32 ∧ t.sys.stops = insertAsc s.sys.stops q)

/-- While STOPPED is set a further stop changes nothing. A stop completes every job, cancels every trigger and drops the
line compare. The pin held low stops the node in the same way. A stop ends the calibration run of a channel; a
delay-path run goes on. On a node without jobs, swaps, slots and taps, with SLUICE_OUT set and no flooding of local
stops, SLUICE_SET sets STOPPED with cause 4 and drives the pin low. With TX_LOCAL such a node floods a STOP packet
with the next TAG and reason 4 on every port that is UP, remembering the TAG. -/
def Obligations.SluiceStops : Prop :=
  (∀ (s : State),
      s.flag FIRE.SLUICE_STAT.STOPPED = true →
      s.quiet = true →
      Sys2Proof.Machine.exec .sluiceSet s = .next s) ∧
  (∀ (s : State),
      s.flag FIRE.SLUICE_STAT.STOPPED = false →
      ∃ t, Sys2Proof.Machine.exec .sluiceSet s = .next t ∧
        t.jobs = [] ∧ t.fire.trigs = [] ∧ t.fire.taps = [] ∧ t.fire.loaded = false ∧ t.fire.prev = none) ∧
  (∀ (s : State),
      s.flag FIRE.SLUICE_STAT.STOPPED = false →
      ∃ t, Sys2Proof.Machine.exec .sluicePin s = .next t ∧
        t.jobs = [] ∧ t.fire.trigs = [] ∧ t.fire.taps = [] ∧ t.fire.pinLow = true) ∧
  (∀ (s : State) (r : MeasRun),
      s.flag FIRE.SLUICE_STAT.STOPPED = false →
      s.cal.meas = some r →
      ∃ t, Sys2Proof.Machine.exec .sluiceSet s = .next t ∧
        t.cal.meas = if r.elem < 48 then none else some r) ∧
  (∀ (s : State),
      s.flag FIRE.SLUICE_STAT.STOPPED = false →
      s.cal.meas = none →
      s.jobs = [] →
      s.swaps = [] →
      s.wfe = [] →
      s.fire.taps = [] →
      s.nh.due = [] →
      s.flag FIRE.CTL.SLUICE_OUT = true →
      s.flag FAB.SLUICE_CFG.TX_LOCAL = false →
      s.fab.unreachDue = [] →
      ∃ t, Sys2Proof.Machine.exec .sluiceSet s = .next t ∧
        t.flag FIRE.SLUICE_STAT.STOPPED = true ∧ t.get FIRE.SLUICE_STAT.CAUSE = 4 ∧ t.flag FIRE.STATUS.STOPPED = true ∧ t.flag FIRE.SLUICE_STAT.DRIVE = true ∧ t.flag FIRE.SLUICE_STAT.PIN = true) ∧
  (∀ (s : State),
      s.flag FIRE.SLUICE_STAT.STOPPED = false →
      s.cal.meas = none →
      s.jobs = [] →
      s.swaps = [] →
      s.wfe = [] →
      s.fire.taps = [] →
      s.nh.due = [] →
      s.flag FAB.SLUICE_CFG.TX_LOCAL = true →
      s.fab.unreachDue = [] →
      ∃ t, Sys2Proof.Machine.exec .sluiceSet s = .next t ∧
        ∃ b : State, b.fab = s.fab ∧ b.nodeId = s.nodeId ∧ (∀ p, p < 4 → b.portUp p = s.portUp p) ∧
          t = ((b.onFab (fun f => { f with stopTag := (s.fab.stopTag + 1) % 2 ^ 16 })).floodOwn
            (mkPacket 0 1 (mkH1 0 s.nodeId ((s.fab.stopTag + 1) % 2 ^ 16) true) [w32 4])).unreachRun)

/-- SLUICE_CLR ends the node's own drive of the pin and makes the check due. With the pin high, no error source and no
STOP packet asserting a stop, the check clears STOPPED and its cause. With the pin still low the check clears nothing
and sets WRITE_IGNORED. With no check due it changes nothing. -/
def Obligations.SluiceReleased : Prop :=
  (∀ (s : State),
      ∃ t, Sys2Proof.Machine.exec .sluiceClr s = .next t ∧
        t.flag FIRE.SLUICE_STAT.DRIVE = false ∧ t.flag FIRE.SLUICE_STAT.PIN = s.fire.pinLow ∧ t.fire = { s.fire with clrDue := true } ∧ t.jobs = s.jobs ∧ SameMemory s t) ∧
  (∀ (s : State),
      s.fire.clrDue = true →
      s.flag FIRE.SLUICE_STAT.DRIVE = false →
      s.sys.stops = [] →
      s.fab.chanStop = false →
      ∃ t, Sys2Proof.Machine.exec (.sluiceClrCheck false) s = .next t ∧
        t.flag FIRE.SLUICE_STAT.STOPPED = false ∧ t.get FIRE.SLUICE_STAT.CAUSE = 0 ∧ t.flag FIRE.STATUS.STOPPED = false ∧ t.fire = { s.fire with clrDue := false, pinLow := false } ∧ t.jobs = s.jobs ∧ SameMemory s t) ∧
  (∀ (s : State),
      s.fire.clrDue = true →
      ∃ t, Sys2Proof.Machine.exec (.sluiceClrCheck true) s = .next t ∧
        t.flag FIRE.SLUICE_STAT.STOPPED = s.flag FIRE.SLUICE_STAT.STOPPED ∧ t.flag FIRE.STATUS.WRITE_IGNORED = true) ∧
  (∀ (s : State) (low : Bool),
      s.fire.clrDue = false →
      Sys2Proof.Machine.exec (.sluiceClrCheck low) s = .next s)

/-- With its PLL locked and AXIS not reserved, setting EN zeroes LINE_CNT and TAP_CNT and forgets the last fire line.
Without its lock EN reads 1 at once, the PLL starts, and the enable waits for the lock. Setting EN once more changes
nothing. While AXIS holds a reserved value the enable is refused and reported. Clearing EN of a disabled engine
changes nothing. Clearing EN drops the compare, the triggers and the last fire line. With no job and no swap in the
node none appears. -/
def Obligations.FireEnable : Prop :=
  (∀ (s : State),
      s.flag FIRE.CTL.EN = false →
      s.get FIRE.CFG.AXIS < 5 →
      s.flag PMU.CLK_STAT.TIME = true →
      s.held = false →
      Sys2Proof.Machine.exec .fireEnable s = .next ((({ s.raise FIRE.CTL.EN with
          pmu := { s.pmu with pllRun := insertAsc s.pmu.pllRun 2 } } : State).wr FIRE.LINE_CNT 0#32).wr FIRE.TAP_CNT 0#32 |>.onFire (fun f => { f with prev := none }))) ∧
  (∀ (s : State),
      s.flag FIRE.CTL.EN = false →
      s.get FIRE.CFG.AXIS < 5 →
      s.flag PMU.CLK_STAT.TIME = false →
      s.held = false →
      Sys2Proof.Machine.exec .fireEnable s = .next { s.raise FIRE.CTL.EN with
          pmu := { s.pmu with
            pllRun := insertAsc s.pmu.pllRun 2
            waiting := insertAsc s.pmu.waiting 1 } }) ∧
  (∀ (s : State),
      s.flag FIRE.CTL.EN = true →
      Sys2Proof.Machine.exec .fireEnable s = .next s) ∧
  (∀ (s : State),
      s.flag FIRE.CTL.EN = false →
      5 ≤ s.get FIRE.CFG.AXIS →
      Sys2Proof.Machine.exec .fireEnable s = .next ((s.raise FIRE.STATUS.CFG_ERR).report Src.FIRE_CFG 0 (s.get FIRE.CFG.AXIS))) ∧
  (∀ (s : State),
      s.flag FIRE.CTL.EN = false →
      Sys2Proof.Machine.exec .fireDisable s = .next s) ∧
  (∀ (s : State),
      s.flag FIRE.CTL.EN = true →
      ∃ t, Sys2Proof.Machine.exec .fireDisable s = .next t ∧
        t.fire.loaded = false ∧ t.fire.trigs = [] ∧ t.fire.prev = none) ∧
  (∀ (s : State),
      s.flag FIRE.CTL.EN = true →
      s.jobs = [] →
      s.swaps = [] →
      s.fire.taps = [] →
      s.fab.unreachDue = [] →
      ∃ t, Sys2Proof.Machine.exec .fireDisable s = .next t ∧
        t.jobs = [] ∧ t.swaps = [])

/-- An engine with a sample in its source takes the oldest one, corrected: what is committed while the prediction is valid
stays, speed, mark and validity follow the sample, every uncommitted instant is computed anew while the prediction is
valid, and the check for a line left behind is made. An enabled engine without a job, whose prediction is not valid,
takes the oldest sample: with forward speed and no older than STALE_TMO it shows the speed and makes the prediction
valid. Without a new sample nothing changes. A valid prediction whose latest sample has grown older than STALE_TMO is
lost. When the latest sample has grown older than STALE_TMO and no trigger waits, the prediction becomes invalid. With
an uncommitted trigger pending the loss is counted, flagged and reported once. -/
def Obligations.PredictionFollowsSamples : Prop :=
  (∀ (s : State) (k : Sample) (rest : List Sample),
      s.fire.inbox = k :: rest →
      Sys2Proof.Machine.exec .validSample s = .next (let a := ((s.when (s.flag FIRE.STATUS.PRED_VALID) (·.holdCommitted)).onFire (fun f => { f with
            inbox := rest
            sample := some (s.correctSample k) })).wr FIRE.SPEED (w32 (unsignedOf 32 (s.correctSample k).v))
        let b := (a.markSample (s.correctSample k)).syncPred
        (b.when (b.flag FIRE.STATUS.PRED_VALID) (·.replace (s.correctSample k))).lateCheck)) ∧
  (∀ (s : State) (k : Sample) (rest : List Sample),
      s.fire.inbox = k :: rest →
      bit (s.get CAL.ENC_OK.AXIS) (s.get FIRE.CFG.AXIS) = false →
      s.fireOn = true →
      s.jobs = [] →
      s.fire.trigs = [] →
      s.fire.loaded = false →
      s.fire.hwm = none →
      s.fire.lastDir = none →
      s.flag FIRE.STATUS.PRED_VALID = false →
      0 < k.v →
      tickDist s.time k.t ≤ (1600 * oneIfZero (s.get FIRE.PRED_CFG.STALE_TMO) : Nat) →
      Sys2Proof.Machine.exec .validSample s = .next ((((s.onFire (fun f => { f with inbox := rest, sample := some k })).wr FIRE.SPEED (w32 (unsignedOf 32 k.v))).raise FIRE.STATUS.PRED_VALID).onFire
        (fun f => { f with predLost := false, check := false }))) ∧
  (∀ (s : State),
      s.fire.inbox = [] →
      Sys2Proof.Machine.exec .validSample s = .next s) ∧
  (∀ (s : State),
      s.flag FIRE.STATUS.PRED_VALID = true →
      s.sampleFresh = false →
      Sys2Proof.Machine.exec .predictionStale s = .next s.losePred) ∧
  (∀ (s : State),
      s.flag FIRE.STATUS.PRED_VALID = true →
      s.sampleFresh = false →
      s.fire.trigs = [] →
      Sys2Proof.Machine.exec .predictionStale s = .next (s.drop FIRE.STATUS.PRED_VALID)) ∧
  (∀ (s : State) (u : Trig),
      s.flag FIRE.STATUS.PRED_VALID = true →
      s.sampleFresh = false →
      s.holdCommitted.fire.trigs.find? (fun t => !t.committed) = some u →
      s.fire.predLost = false →
      Sys2Proof.Machine.exec .predictionStale s = .next ((((((s.holdCommitted).drop FIRE.STATUS.PRED_VALID).bump FIRE.PRED_LOST_CNT.COUNT).raise FIRE.STATUS.PRED_LOST).onFire
        (fun f => { f with predLost := true })).report Src.FIRE_PRED_LOST 0 (tagDetail (s.jobId u.seq) u.y)))

/-- With its program checked, ARM_EN set, the node not stopped, no job ARMED and a sound descriptor, the first queued job
is armed, whether or not a job runs. With its program checked, ARM_EN set, the node not stopped, no job ARMED or
RUNNING and a sound descriptor, the first queued job becomes ARMED and its C(0) is loaded. No sample has arrived yet.
A job that fails the arm check is completed with status REJECTED, its code and identifier go to ARM_ERR, and FIRE_CFG
is reported. Without ARM_EN no job is armed. -/
def Obligations.JobsAreArmed : Prop :=
  (∀ (s : State) (j : Job),
      s.jobs.find? (·.st == .queued) = some j →
      j.checked = true →
      s.flag SYS.MGMT_CTL.ARM_EN = true →
      s.stopped = false →
      s.armed = none →
      s.fireOn = true →
      s.armFault j = none →
      Sys2Proof.Machine.exec .jobArm s = .next (s.armJob j)) ∧
  (∀ (s : State) (j : Job),
      s.jobs.find? (·.st == .queued) = some j →
      s.job? j.seq = some j →
      j.checked = true →
      s.flag SYS.MGMT_CTL.ARM_EN = true →
      s.stopped = false →
      s.armed = none →
      s.running = none →
      s.fireOn = true →
      s.armFault j = none →
      s.fire.sample = none →
      s.fire.loaded = false →
      s.flag FIRE.STATUS.PRED_VALID = false →
      s.cal.meas = none →
      ∃ t, Sys2Proof.Machine.exec .jobArm s = .next t ∧
        t.jobs = s.jobs.map (fun k => if k.seq == j.seq then { k with st := .armed } else k) ∧ t.fire.loaded = true ∧ t.fire.cmpJob = j.seq ∧ t.fire.cmpY = 0 ∧
        t.fire.lastDir = some j.dir ∧ t.get FIRE.CMP_INT.CMP = s.firstCompare j / 2 ^ 24 % 2 ^ 24 ∧ t.flag FIRE.STATUS.ARMED = true ∧ SameMemory s t) ∧
  (∀ (s : State) (j : Job) (code : Nat),
      s.jobs.find? (·.st == .queued) = some j →
      j.checked = true →
      s.flag SYS.MGMT_CTL.ARM_EN = true →
      s.stopped = false →
      s.armed = none →
      s.fireOn = true →
      s.armFault j = some code →
      Sys2Proof.Machine.exec .jobArm s = .next ((((((s.wr FIRE.ARM_ERR (w32 (code * 2 ^ 24 + j.id % 2 ^ 16))).raise FIRE.STATUS.CFG_ERR).complete j.seq 3 3 code).syncFire).syncCmp).report Src.FIRE_CFG 0
        (w32 (code * 2 ^ 24 + j.id % 2 ^ 16)).toNat)) ∧
  (∀ (s : State),
      s.flag SYS.MGMT_CTL.ARM_EN = false →
      Sys2Proof.Machine.exec .jobArm s = .next s)

/-- With a job's compare loaded, a valid prediction and no stop, and no check due, the line fires once LOOKAHEAD ticks
from now the web is no longer ahead of the compare. Found behind the present position by the check that is due, the
line fires late. An engine that is stopped takes no boundary. Within a job the next line compare lies one pitch
further, for the next job line. The model's own choices or readings, which no rule of the spec states, are: the sign
of the line step for DIR = 1 (log entry 85). -/
def Obligations.FireLineBoundaries : Prop :=
  (∀ (s : State) (k : Sample) (j : Job),
      s.fire.sample = some k →
      s.job? s.fire.cmpJob = some j →
      s.fireReady = true →
      s.fire.check = false →
      posAhead s.compare (k.posAt ((s.time + s.lookahead) % 2 ^ 48)) j.dir = false →
      Sys2Proof.Machine.exec .fireLineBoundary s = .next ((s.onFire (fun f => { f with check := false })).fireLine false)) ∧
  (∀ (s : State) (k : Sample) (j : Job),
      s.fire.sample = some k →
      s.job? s.fire.cmpJob = some j →
      s.fireReady = true →
      s.fire.check = true →
      posBehind s.compare (k.posAt s.time) j.dir = true →
      Sys2Proof.Machine.exec .fireLineBoundary s = .next (s.fireLine true)) ∧
  (∀ (s : State),
      s.stopped = true →
      Sys2Proof.Machine.exec .fireLineBoundary s = .next s) ∧
  (∀ (s : State) (j : Job) (y c : Nat),
      y + 1 < j.lines →
      s.lastLine j y c = false →
      (s.nextCompare j y c 1).compare = (c + j.step) % 2 ^ 48 ∧ (s.nextCompare j y c 1).fire.cmpY = y + 1)

/-- A committed trigger whose instant has come is issued unless the node is stopped. A trigger whose line the head does
not hold fires nothing: NO_TRIG is set and the line's tap word is accounted for. With the line latched at the head,
the rail not DOWN and no refusal, the trigger is counted for the first group, its instant is recorded, and its slots
start. A trigger whose instant has not come waits. The first job all of whose triggers, slots and tap words are done
completes with status DONE, and drops that its completion met are reported. A completed job leaves the node, and the
fire engine and memory keep their state. While no job is done, nothing completes. -/
def Obligations.TriggersAndCompletion : Prop :=
  (∀ (s : State) (h : Nat) (t : Trig),
      s.fire.trigs.find? (·.head == h) = some t →
      reached s.time t.at_ = true →
      t.committed = true →
      s.stopped = false →
      Sys2Proof.Machine.exec (.rowTrigger h) s = .next (s.issueTrig t)) ∧
  (∀ (s : State) (h : Nat) (t : Trig),
      s.fire.trigs.find? (·.head == h) = some t →
      reached s.time t.at_ = true →
      t.committed = true →
      s.stopped = false →
      (s.hport h).latched = none →
      Sys2Proof.Machine.exec (.rowTrigger h) s = .next ((((s.onFire (fun f => { f with trigs := f.trigs.erase t })).raise (FIRE.HSTAT.NO_TRIG h)).tapDone h t.line))) ∧
  (∀ (s : State) (h : Nat) (t : Trig) (x : Xfer),
      s.fire.trigs.find? (·.head == h) = some t →
      reached s.time t.at_ = true →
      t.committed = true →
      s.stopped = false →
      (s.hport h).latched = some x →
      x.seq = t.seq →
      x.y = t.y →
      s.get (WFE.HEAD_STAT.RAIL_STATE h) ≠ 3 →
      (s.hport h).acting = false →
      State.slotRefusal (((s.onFire (fun f => { f with trigs := f.trigs.erase t })).when (t.group == 0) (·.bump (FIRE.TRIG_CNT.COUNT h))).wrTime
        (FIRE.LAST_TRIG_LO h) (FIRE.LAST_TRIG_HI h) t.at_) h = none →
      Sys2Proof.Machine.exec (.rowTrigger h) s = .next (((((s.onFire (fun f => { f with trigs := f.trigs.erase t })).when (t.group == 0) (·.bump (FIRE.TRIG_CNT.COUNT h))).wrTime
        (FIRE.LAST_TRIG_LO h) (FIRE.LAST_TRIG_HI h) t.at_).playTrig t x))) ∧
  (∀ (s : State) (h : Nat) (t : Trig),
      s.fire.trigs.find? (·.head == h) = some t →
      reached s.time t.at_ = false →
      Sys2Proof.Machine.exec (.rowTrigger h) s = .next s) ∧
  (∀ (s : State) (j : Job),
      s.jobs.find? s.jobDone = some j →
      Sys2Proof.Machine.exec .jobComplete s = .next ((((s.complete j.seq 0 0 0).syncFire).syncCmp).unreachRun)) ∧
  (∀ (s : State) (q : Nat),
      (((s.complete q 0 0 0).syncFire).syncCmp).jobs = s.jobs.filter (·.seq != q) ∧ (((s.complete q 0 0 0).syncFire).syncCmp).fire = s.fire ∧ SameMemory s (((s.complete q 0 0 0).syncFire).syncCmp)) ∧
  (∀ (s : State),
      s.jobs.find? s.jobDone = none →
      Sys2Proof.Machine.exec .jobComplete s = .next s)

/-- RAMP plays N + 1 samples with SLOPE, the next instruction follows, the last feedback samples show, and the open check
judges the ramp: OPEN_N failures in a row are an OPEN fault. A RAMP that meets the slot limit plays up to it and stays
at the front; no check judges it. Ramps that end in one cycle, and whatever else the cycle shows, are resolved
together. HOLD loads the accumulator when its L bit is set and plays N + 1 samples of it. A HOLD that meets the slot
limit plays up to it and stays at the front. SENSE holds the output for 8 × (N + 1) samples and remembers the
interval; with a position named, S drops its amplifier for it, the checks pause, and the voltage samples after SKIP go
to nozzle sensing. A SENSE that meets the slot limit plays up to it, stays at the front and hands no samples. JUMP
goes to its target when its condition holds and to the next instruction otherwise, in no time up to four zero-time
instructions in a row. WIN sets the window number; with its strobe bit in the master program of the head it requests a
strobe. Playing n samples advances the sample count by n and sends n codes to the DAC. The model's own choices or
readings, which no rule of the spec states, are: dV in whole DAC LSB (log entry 107); what is not next in the program
does nothing (log entry 7). -/
def Obligations.WaveformInstructions : Prop :=
  (∀ (s : State) (c : Nat) (fb : List (Nat × Nat)) (z : Slot),
      s.waveReady c 1 z →
      z.idx + (fieldOf (s.wmem z.pc).1 0 12 + 1) ≤ s.slotCap c z →
      Sys2Proof.Machine.exec (.ramp c { ramps := [(c, fb)] }) s = .next (let r := s.playOn c z (signedOf 24 (fieldOf (s.wmem z.pc).2 0 24)) (fieldOf (s.wmem z.pc).1 0 12 + 1)
        let t := r.1.setSlot c { r.2.1 with pc := z.pc + 1 }
        let dv := (fieldOf (s.wmem z.pc).1 0 12 + 1) * (signedOf 24 (fieldOf (s.wmem z.pc).2 0 24)).natAbs / 256
        (t.openNote c z dv fb).faultChans (t.openFault c z dv fb))) ∧
  (∀ (s : State) (c : Nat) (fb : List (Nat × Nat)) (z : Slot),
      s.waveReady c 1 z →
      s.slotCap c z < z.idx + (fieldOf (s.wmem z.pc).1 0 12 + 1) →
      Sys2Proof.Machine.exec (.ramp c { ramps := [(c, fb)] }) s = .next (let r := s.playOn c z (signedOf 24 (fieldOf (s.wmem z.pc).2 0 24)) (fieldOf (s.wmem z.pc).1 0 12 + 1)
        r.1.setSlot c r.2.1)) ∧
  (∀ (s : State) (c : Nat) (l : CycleFaults),
      l.ramps.any (·.1 == c) = true →
      Sys2Proof.Machine.exec (.ramp c l) s = .next (s.cycleFaults l)) ∧
  (∀ (s : State) (c : Nat) (z : Slot),
      s.waveReady c 2 z →
      z.idx + (fieldOf (s.wmem z.pc).1 0 16 + 1) ≤ s.slotCap c z →
      Sys2Proof.Machine.exec (.hold c) s = .next ((s.playOn c (if fieldOf (s.wmem z.pc).1 27 1 == 1 then { z with acc := signedOf 24 (fieldOf (s.wmem z.pc).2 0 24) } else z) 0
          (fieldOf (s.wmem z.pc).1 0 16 + 1)).1.setSlot c
        { (s.playOn c (if fieldOf (s.wmem z.pc).1 27 1 == 1 then { z with acc := signedOf 24 (fieldOf (s.wmem z.pc).2 0 24) } else z) 0
            (fieldOf (s.wmem z.pc).1 0 16 + 1)).2.1 with pc := z.pc + 1 })) ∧
  (∀ (s : State) (c : Nat) (z : Slot),
      s.waveReady c 2 z →
      s.slotCap c z < z.idx + (fieldOf (s.wmem z.pc).1 0 16 + 1) →
      Sys2Proof.Machine.exec (.hold c) s = .next (let r := s.playOn c (if fieldOf (s.wmem z.pc).1 27 1 == 1 then { z with acc := signedOf 24 (fieldOf (s.wmem z.pc).2 0 24) } else z) 0 (fieldOf (s.wmem z.pc).1 0 16 + 1)
        r.1.setSlot c r.2.1)) ∧
  (∀ (s : State) (c : Nat) (vfb : List (Nat × Nat)) (z : Slot),
      s.waveReady c 4 z →
      z.idx + 8 * (fieldOf (s.wmem z.pc).1 0 12 + 1) ≤ s.slotCap c z →
      Sys2Proof.Machine.exec (.sense c vfb) s = .next (let n := fieldOf (s.wmem z.pc).1 0 12 + 1
        let r := (s.suspendChecks c z (z.idx + 8 * n)).playOn c z 0 (8 * n)
        let t := r.1.setSlot c { r.2.1 with
          mute := (z.sensed c r.2.1.idx).mute
          floats := (z.sensed c r.2.1.idx).floats
          pc := z.pc + 1 } |>.noteLast c vfb
        match z.sense with
        | some p => t.when (32 ≤ c && z.rail == 2 && !z.void)
            (fun u => u.handSamples (c - 32) z p.1 p.2 (((vfb.take n).drop (fieldOf (s.wmem z.pc).1 16 4)).map (fun x => (s.byRole c x).1)))
        | none => t)) ∧
  (∀ (s : State) (c : Nat) (vfb : List (Nat × Nat)) (z : Slot),
      s.waveReady c 4 z →
      s.slotCap c z < z.idx + 8 * (fieldOf (s.wmem z.pc).1 0 12 + 1) →
      Sys2Proof.Machine.exec (.sense c vfb) s = .next (let n := fieldOf (s.wmem z.pc).1 0 12 + 1
        let r := (s.suspendChecks c z (s.slotCap c z)).playOn c z 0 (8 * n)
        r.1.setSlot c { r.2.1 with
          mute := (z.sensed c r.2.1.idx).mute
          floats := (z.sensed c r.2.1.idx).floats })) ∧
  (∀ (s : State) (c : Nat) (z : Slot),
      s.waveReady c 5 z →
      z.zeros < 4 →
      Sys2Proof.Machine.exec (.jump c) s = .next (s.setSlot c { z with zeros := z.zeros + 1, pc := if jumpHolds c z (fieldOf (s.wmem z.pc).1 24 4) (fieldOf (s.wmem z.pc).1 16 8) then fieldOf (s.wmem z.pc).2 0 14 else z.pc + 1 })) ∧
  (∀ (s : State) (c : Nat) (z : Slot),
      s.waveReady c 3 z →
      z.zeros < 4 →
      Sys2Proof.Machine.exec (.win c) s = .next (let t := (s.put (WFE.CH_STATUS.WIN c) (fieldOf (s.wmem z.pc).1 0 3)).setSlot c { z with
          zeros := z.zeros + 1
          pc := z.pc + 1 }
        t.when (fieldOf (s.wmem z.pc).1 8 1 == 1 && t.isMaster c z) (fun u => u.strobe (headOf c) (fieldOf (s.wmem z.pc).1 0 3) { z with zeros := z.zeros + 1 }))) ∧
  (∀ (corr : List Int) (slope : Int) (n k : Nat) (z : Slot),
      (playSamples corr slope n (z, k)).1.idx = z.idx + n ∧ (playSamples corr slope n (z, k)).1.codes.length = z.codes.length + n ∧ (playSamples corr slope n (z, k)).1.pc = z.pc)

/-- END, or a reserved opcode reported as WFE_PROG, flags an accumulator more than 256 away from rest, updates the
correction table, and closes the slot; a disable that waited goes on. END closes the slot; with the accumulator at
rest and pre-distortion off nothing else happens but that the last feedback samples show, and for a disable that
waited. A reserved opcode is treated as END, with PROG_ERR set and reported. A slot that has played its SLOT_LIMIT
samples without END is aborted, flagged and reported. -/
def Obligations.WaveformSlotsEnd : Prop :=
  (∀ (s : State) (c : Nat) (vfb : List (Nat × Nat)) (z : Slot),
      (s.chan c).slot = some z →
      endsSlot (s.wmem z.pc) = true →
      z.zeros < 4 →
      Sys2Proof.Machine.exec (.endSlot c vfb) s = .next (let y := { z with
          zeros := z.zeros + 1 }
        let b := (s.setSlot c y).when (256 < (z.acc - z.rest).natAbs) (·.raise (WFE.CH_STATUS.REST_MISMATCH c))
        let d := b.when (reservedIns (s.wmem z.pc)) (fun t =>
          ((t.raise (WFE.CH_STATUS.PROG_ERR c)).raise WFE.STATUS.PROG_ERR).report Src.WFE_PROG c (z.pc % 2 ^ 14))
        ((((d.noteLast c vfb).pdUpdate c y (vfb.map (fun x => (s.byRole c x).1))).closeSlot c).afterSlot c))) ∧
  (∀ (s : State) (c : Nat) (vfb : List (Nat × Nat)) (z : Slot),
      (s.chan c).slot = some z →
      insOpc (s.wmem z.pc) = 15 →
      z.zeros < 4 →
      z.acc = z.rest →
      s.flag (WFE.CH_CTL.PD_EN c) = false →
      Sys2Proof.Machine.exec (.endSlot c vfb) s = .next ((((s.setSlot c { z with zeros := z.zeros + 1 }).noteLast c vfb).closeSlot c).afterSlot c)) ∧
  (∀ (s : State) (c : Nat) (vfb : List (Nat × Nat)) (z : Slot),
      (s.chan c).slot = some z →
      reservedIns (s.wmem z.pc) = true →
      z.zeros < 4 →
      z.acc = z.rest →
      Sys2Proof.Machine.exec (.endSlot c vfb) s = .next (((((((s.setSlot c { z with zeros := z.zeros + 1 }).raise (WFE.CH_STATUS.PROG_ERR c)).raise WFE.STATUS.PROG_ERR).report Src.WFE_PROG c (z.pc % 2 ^ 14)).noteLast c vfb).pdUpdate c
        { z with zeros := z.zeros + 1 } (vfb.map (fun x => (s.byRole c x).1))).closeSlot c |>.afterSlot c)) ∧
  (∀ (s : State) (c : Nat) (z : Slot),
      (s.chan c).slot = some z →
      s.slotCap c z ≤ z.idx →
      endsSlot (s.wmem z.pc) = false →
      oneIfZero (s.getA (WFE.SLOT_LIMIT.LIMIT c)) ≤ z.idx →
      Sys2Proof.Machine.exec (.slotLimit c) s = .next (((s.raise (WFE.CH_STATUS.SLOT_LIMIT c)).abortSlot c).report Src.WFE_SLOT_LIMIT c (z.pc % 2 ^ 14)))

/-- With the engine on, a channel whose EN is clear and whose high-voltage supply is up sets EN, clears SLOT_CNT, FAULTED
and FAULT_CAUSE, outputs code 0 and drives AMP_EN_n low. While the engine is not on, EN stays clear and WRITE_IGNORED
is set. At the end of the ramp the channel becomes READY at its rest level, when the tracking check passes. With
AMP_FLT_n low or the high-voltage supply down the first step fails: the channel takes the AMP_FLT fault with EN set. A
READY channel outside the running and the armed job and without a slot clears EN and READY and ramps down. While a
slot plays it finishes first. A channel that is not READY goes off at once. Clearing EN of a READY channel whose head
lies in the running or the armed job is a fault with cause DISABLED. At the end of the ramp down the DAC is at code 0
and the amplifier is off. Clearing WFE.CTL.EN when it is clear changes nothing. Clearing it when it is set ends the
job and clears EN and READY of every channel: every channel that is not off ends its slot and takes the ramp down, as
entry 28 says; the block keeps no active copies, so values that wait for a boundary become active with the disable, as
entry 11 says. On a faulted channel, with the engine on and the supply up, FAULT_CLR clears the fault and runs the
enable steps from the first. On a channel without a fault it changes nothing. With AMP_FLT_n low the first of those
steps fails again. Between slots PD_RESET clears both correction tables. During a slot the tables go on, and are
cleared before the next slot plays. A slot start after PD_RESET plays cleared tables. The model's own choices or
readings, which no rule of the spec states, are: waiting class-B values become active at a disable (log entry 11);
WFE_DISABLE ends slots at once (log entry 28); the rest level takes no correction, and its saturation counts once (log
entry 82); FAULT_CLR whatever EN holds (log entry 87). -/
def Obligations.ChannelSteps : Prop :=
  (∀ (s : State) (c : Nat),
      s.chanOn c = true →
      s.flag (WFE.CH_CTL.EN c) = false →
      s.blockOn WFE.CTL.EN 4 = true →
      s.hvGood (headOf c) = true →
      Sys2Proof.Machine.exec (.channelEnable c false) s = .next (((((s.raise (WFE.CH_CTL.EN c)).wr (WFE.SLOT_CNT c) 0#32).drop (WFE.CH_STATUS.FAULTED c)).drop (WFE.CH_STATUS.FAULT_CAUSE c)).onChan c
        (fun k => { k with dac := 0, ampOn := true, fails := 0, phase := .enabling }))) ∧
  (∀ (s : State) (c : Nat) (flt : Bool),
      s.chanOn c = true →
      s.flag (WFE.CH_CTL.EN c) = false →
      s.blockOn WFE.CTL.EN 4 = false →
      Sys2Proof.Machine.exec (.channelEnable c flt) s = .next (s.raise WFE.STATUS.WRITE_IGNORED)) ∧
  (∀ (s : State) (c : Nat) (es : List Int),
      (s.chan c).phase = .enabling →
      s.trackBad c (es.drop (es.length - 8)) = false →
      Sys2Proof.Machine.exec (.channelReady c es) s = .next (((s.raise (WFE.CH_STATUS.READY c)).onChan c (fun k => { k with phase := .on })).holdRest c (signedOf 24 (s.get (WFE.OFFSET_EFF.OFFSET c))))) ∧
  (∀ (s : State) (c : Nat) (flt : Bool),
      s.chanOn c = true →
      s.flag (WFE.CH_CTL.EN c) = false →
      s.blockOn WFE.CTL.EN 4 = true →
      flt = true ∨ s.hvGood (headOf c) = false →
      Sys2Proof.Machine.exec (.channelEnable c flt) s = .next ((((((s.raise (WFE.CH_CTL.EN c)).wr (WFE.SLOT_CNT c) 0#32).drop (WFE.CH_STATUS.FAULTED c)).drop (WFE.CH_STATUS.FAULT_CAUSE c)).onChan c
        (fun k => { k with dac := 0, ampOn := false, fails := 0, phase := .enabling })).chanFault c 3)) ∧
  (∀ (s : State) (c : Nat),
      s.chanOn c = true →
      s.flag (WFE.CH_CTL.EN c) = true →
      s.chReady c = true →
      s.headBusy (headOf c) = false →
      (s.chan c).slot = none →
      Sys2Proof.Machine.exec (.channelDisable c) s = .next (((s.drop (WFE.CH_CTL.EN c)).drop (WFE.CH_STATUS.READY c)).onChan c (fun k => { k with phase := .rampDown }))) ∧
  (∀ (s : State) (c : Nat) (z : Slot),
      s.chanOn c = true →
      s.flag (WFE.CH_CTL.EN c) = true →
      s.chReady c = true →
      s.headBusy (headOf c) = false →
      (s.chan c).slot = some z →
      Sys2Proof.Machine.exec (.channelDisable c) s = .next ((s.drop (WFE.CH_CTL.EN c)).onChan c (fun k => { k with phase := .ending }))) ∧
  (∀ (s : State) (c : Nat),
      s.chanOn c = true →
      s.flag (WFE.CH_CTL.EN c) = true →
      s.chReady c = false →
      Sys2Proof.Machine.exec (.channelDisable c) s = .next ((s.drop (WFE.CH_CTL.EN c)).onChan c (fun k => { k with phase := .off, dac := 0, ampOn := false }))) ∧
  (∀ (s : State) (c : Nat),
      s.chanOn c = true →
      s.flag (WFE.CH_CTL.EN c) = true →
      s.chReady c = true →
      s.headBusy (headOf c) = true →
      Sys2Proof.Machine.exec (.channelDisable c) s = .next ((s.drop (WFE.CH_CTL.EN c)).faultChans [(c, 5)])) ∧
  (∀ (s : State) (c : Nat),
      (s.chan c).phase = .rampDown →
      Sys2Proof.Machine.exec (.rampDownComplete c) s = .next (s.onChan c (fun k => { k with phase := .off, dac := 0, ampOn := false }))) ∧
  (∀ (s : State),
      s.flag WFE.CTL.EN = false →
      Sys2Proof.Machine.exec .wfeDisable s = .next s) ∧
  (∀ (s : State),
      s.flag WFE.CTL.EN = true →
      Sys2Proof.Machine.exec .wfeDisable s = .next ({ (((s.disableBlock WFE.CTL.EN 4).abortRunning 10).each (List.range 48) (fun c t =>
          (((t.drop (WFE.CH_CTL.EN c)).drop (WFE.CH_STATUS.READY c)).abortSlot c).onChan c (fun k =>
            if (t.chan c).phase == .off then { k with dac := 0, ampOn := false } else { k with phase := .rampDown }))) with
          act := (((s.disableBlock WFE.CTL.EN 4).abortRunning 10).each (List.range 48) (fun c t =>
            (((t.drop (WFE.CH_CTL.EN c)).drop (WFE.CH_STATUS.READY c)).abortSlot c).onChan c (fun k =>
              if (t.chan c).phase == .off then { k with dac := 0, ampOn := false } else { k with phase := .rampDown }))).act.filter
                (fun e => !(0x40180000 ≤ e.1 && e.1 < 0x401C0000)) } : State).settleSwaps) ∧
  (∀ (s : State) (c : Nat),
      s.chanOn c = true →
      s.chFaulted c = true →
      s.blockOn WFE.CTL.EN 4 = true →
      s.hvGood (headOf c) = true →
      Sys2Proof.Machine.exec (.faultClr c false) s = .next (((s.drop (WFE.CH_STATUS.FAULTED c)).drop (WFE.CH_STATUS.FAULT_CAUSE c)).onChan c (fun k => { k with dac := 0, ampOn := true, fails := 0, phase := .enabling }))) ∧
  (∀ (s : State) (c : Nat) (flt : Bool),
      s.chFaulted c = false →
      Sys2Proof.Machine.exec (.faultClr c flt) s = .next s) ∧
  (∀ (s : State) (c : Nat),
      s.chanOn c = true →
      s.chFaulted c = true →
      s.blockOn WFE.CTL.EN 4 = true →
      Sys2Proof.Machine.exec (.faultClr c true) s = .next (((((s.drop (WFE.CH_STATUS.FAULTED c)).drop (WFE.CH_STATUS.FAULT_CAUSE c)).onChan c (fun k => { k with dac := 0, ampOn := false, fails := 0, phase := .enabling })).chanFault c 3))) ∧
  (∀ (s : State) (c : Nat),
      s.chanOn c = true →
      (s.chan c).slot = none →
      Sys2Proof.Machine.exec (.pdReset c) s = .next (s.onChan c (fun k => { k with pdClear := true, corr := [], next := none, spare := [] }))) ∧
  (∀ (s : State) (c : Nat) (z : Slot),
      s.chanOn c = true →
      (s.chan c).slot = some z →
      Sys2Proof.Machine.exec (.pdReset c) s = .next (s.onChan c (fun k => { k with pdClear := true }))) ∧
  (∀ (s : State) (c : Nat),
      (s.chan c).pdClear = true →
      (s.clearTables c) = s.onChan c (fun k => { k with corr := [], next := none, spare := [], pdClear := false }))

/-- Faults of both drive rails at once take the head DOWN with cause SECOND_DRIVE, from every state but DOWN. In NONE a
fault of drive rail X, with S READY and sound, is a takeover X_TO_S, counted and reported with its cause and channel.
In NONE a drive fault with S not READY takes the head DOWN with cause SPARE_FAULT. In NONE a fault of S alone, not a
disable and not while it serves the copy on, loses sensing only. In a fault takeover of X a fault of the other drive
rail takes the head DOWN with cause SECOND_DRIVE. In a fault takeover a fault of S takes the head DOWN: HEAD_SIDE for
SHORT or OPEN in the first takeover slot, SPARE_FAULT otherwise. In a calibration takeover a fault of a drive rail
makes it a fault takeover of that rail. A head that is DOWN stays so; a fault of S still aborts a calibration channel
run of the head. The model's own choices or readings, which no rule of the spec states, are: a fault takeover that
follows a calibration takeover counts and reports nothing (log entry 28). -/
def Obligations.RailStateTable : Prop :=
  (∀ (s : State) (h k : Nat) (b : Bool),
      s.get (WFE.HEAD_STAT.RAIL_STATE h) ≠ 3 →
      s.resolveFaults h [⟨0, k, b⟩, ⟨1, k, b⟩] = s.headDown h 2) ∧
  (∀ (s : State) (h k x : Nat) (b : Bool),
      s.get (WFE.HEAD_STAT.RAIL_STATE h) = 0 →
      x < 2 →
      s.chReady (32 + h) = true →
      s.chFaulted (32 + h) = false →
      s.resolveFaults h [⟨x, k, b⟩] =
        ((s.faultTake h x).bump (WFE.TAKEOVER_CNT.COUNT h)).report Src.WFE_TAKEOVER h (k * 2 ^ 8 + (2 * h + x))) ∧
  (∀ (s : State) (h k x : Nat) (b : Bool),
      s.get (WFE.HEAD_STAT.RAIL_STATE h) = 0 →
      x < 2 →
      s.chReady (32 + h) = false →
      s.resolveFaults h [⟨x, k, b⟩] = s.headDown h 3) ∧
  (∀ (s : State) (h k : Nat) (b : Bool),
      s.get (WFE.HEAD_STAT.RAIL_STATE h) = 0 →
      (s.wave h).serving = none →
      k ≠ 5 →
      s.resolveFaults h [⟨2, k, b⟩] = ((s.raise (WFE.HEAD_STAT.SENSE_LOST h)).report Src.WFE_SENSE_LOST h k).abortCalOf h) ∧
  (∀ (s : State) (h k y : Nat) (b : Bool),
      s.get (WFE.HEAD_STAT.RAIL_STATE h) = 2 - y →
      y < 2 →
      s.flag (WFE.HEAD_STAT.CAL_TAKE h) = false →
      s.resolveFaults h [⟨y, k, b⟩] = s.headDown h 2) ∧
  (∀ (s : State) (h k x : Nat) (b : Bool),
      s.get (WFE.HEAD_STAT.RAIL_STATE h) = x + 1 →
      x < 2 →
      s.flag (WFE.HEAD_STAT.CAL_TAKE h) = false →
      s.resolveFaults h [⟨2, k, b⟩] = s.headDown h (if b = true ∧ (k = 1 ∨ k = 2) then 1 else 3)) ∧
  (∀ (s : State) (h k y : Nat) (b : Bool),
      s.get (WFE.HEAD_STAT.RAIL_STATE h) = 1 ∨ s.get (WFE.HEAD_STAT.RAIL_STATE h) = 2 →
      y < 2 →
      s.flag (WFE.HEAD_STAT.CAL_TAKE h) = true →
      s.resolveFaults h [⟨y, k, b⟩] = s.faultTake h y) ∧
  (∀ (s : State) (h : Nat) (l : List RailFault),
      s.get (WFE.HEAD_STAT.RAIL_STATE h) = 3 →
      s.resolveFaults h l = s.when (l.any (·.rail == 2)) (·.abortCalOf h))

/-- What one cycle shows is resolved together: the samples are recorded, each watched channel that no SENSE suspends and
whose current lies beyond its limit is a SHORT fault, each watched fault input an AMP_FLT fault, each ramp judged a
failure an OPEN fault, each excess with TRACK_ACT set a TRACK fault, and each clear of EN in a job a DISABLED fault; a
channel with several causes takes the first, as entry 84 says. A SHORT command without a short changes nothing. A
single current beyond the limit is one SHORT fault. Within the limit only the samples are recorded. AMP_FLT_n low for
100 ns on a watched channel is an AMP_FLT fault. Several inputs, and what else the cycle shows, are resolved together.
A tracking excess with TRACK_ACT set is a TRACK fault. With TRACK_ACT clear it sets TRACK and reports, and the channel
plays on. Several channels, and what else the cycle shows, are resolved together. A cycle without a fault changes
nothing more. The model's own choices or readings, which no rule of the spec states, are: the causes of one cycle come
in one command, and the first counts (log entry 84). -/
def Obligations.ChannelFaults : Prop :=
  (∀ (s : State) (l : CycleFaults),
      l.shorts ≠ [] →
      Sys2Proof.Machine.exec (.shortFault l) s = .next (let r := s.playRamps l.ramps
        let a := ((r.1.noteSamples l.shorts).noteSamples l.amps).noteSamples (l.tracks.map (fun f => (f.1, f.2.1)))
        let bad := s.tracksOf l
        let b := a.each (bad.filter (fun c => !a.flag (WFE.CH_CTL.TRACK_ACT c))) (fun c t => t.trackNote c)
        let act := bad.filter (fun c => a.flag (WFE.CH_CTL.TRACK_ACT c))
        let d := b.each act (fun c t => t.raise (WFE.CH_STATUS.TRACK c))
        let e := d.each (s.offsOf l) (fun f t => t.drop (WFE.CH_CTL.EN f.1))
        let f := e.faultChans (firstFaults (s.shortsOf l ++ s.ampsOf l ++ r.2 ++ act.map (fun c => (c, 4)) ++ s.offsOf l))
        f.each (l.offs.filter f.chanOn) (fun c t => t.channelDisable c))) ∧
  (∀ (s : State) (l : CycleFaults),
      l.shorts = [] →
      Sys2Proof.Machine.exec (.shortFault l) s = .next s) ∧
  (∀ (s : State) (c v i : Nat),
      s.watched c = true →
      s.checksOff c = false →
      s.get (WFE.I_SHORT.LIMIT c) < (((s.byRole c (v, i)).2 : Int) - 8192).natAbs →
      Sys2Proof.Machine.exec (.shortFault { shorts := [(c, (v, i))] }) s = .next ((s.noteFeedback c v i).faultChans [(c, 1)])) ∧
  (∀ (s : State) (c v i : Nat),
      s.watched c = true →
      s.checksOff c = false →
      (((s.byRole c (v, i)).2 : Int) - 8192).natAbs ≤ s.get (WFE.I_SHORT.LIMIT c) →
      Sys2Proof.Machine.exec (.shortFault { shorts := [(c, (v, i))] }) s = .next (s.noteFeedback c v i)) ∧
  (∀ (s : State) (c v i : Nat),
      s.watched c = true →
      Sys2Proof.Machine.exec (.ampFlt { amps := [(c, (v, i))] }) s = .next ((s.noteFeedback c v i).faultChans [(c, 3)])) ∧
  (∀ (s : State) (l : CycleFaults),
      l.amps ≠ [] →
      Sys2Proof.Machine.exec (.ampFlt l) s = .next (s.cycleFaults l)) ∧
  (∀ (s : State) (c v i : Nat) (es : List Int),
      s.watched c = true →
      (s.chan c).cal = false →
      s.checksOff c = false →
      s.trackBad c es = true →
      (s.noteFeedback c v i).flag (WFE.CH_CTL.TRACK_ACT c) = true →
      Sys2Proof.Machine.exec (.trackFault { tracks := [(c, ((v, i), es))] }) s = .next (((s.noteFeedback c v i).raise (WFE.CH_STATUS.TRACK c)).faultChans [(c, 4)])) ∧
  (∀ (s : State) (c v i : Nat) (es : List Int),
      s.watched c = true →
      (s.chan c).cal = false →
      s.checksOff c = false →
      s.trackBad c es = true →
      (s.noteFeedback c v i).flag (WFE.CH_CTL.TRACK_ACT c) = false →
      Sys2Proof.Machine.exec (.trackFault { tracks := [(c, ((v, i), es))] }) s = .next ((s.noteFeedback c v i).trackNote c)) ∧
  (∀ (s : State) (l : CycleFaults),
      l.tracks ≠ [] →
      Sys2Proof.Machine.exec (.trackFault l) s = .next (s.cycleFaults l)) ∧
  (∀ (s : State),
      s.faultChans [] = s)

/-- DOWN_CLR on a head that is DOWN with all three channels READY makes the state NONE and clears SENSE_LOST. At any other
time it sets WRITE_IGNORED only. TAKEOVER_CLR in a fault takeover of X with channel X READY again returns the state to
NONE. In a fault takeover whose channel is not READY it sets WRITE_IGNORED only. Outside a fault takeover it sets
WRITE_IGNORED only. After a DOWN_CLR that is obeyed the state reads NONE and SENSE_LOST is clear. -/
def Obligations.RailClears : Prop :=
  (∀ (s : State) (h : Nat),
      s.headOn h = true →
      s.get (WFE.HEAD_STAT.RAIL_STATE h) = 3 →
      (chansOf h).all s.chReady = true →
      Sys2Proof.Machine.exec (.headDownClr h) s = .next (((s.drop (WFE.HEAD_STAT.DOWN_WHY h)).drop (WFE.HEAD_STAT.SENSE_LOST h)).setRail h 0)) ∧
  (∀ (s : State) (h : Nat),
      s.headOn h = true →
      s.get (WFE.HEAD_STAT.RAIL_STATE h) ≠ 3 ∨ (chansOf h).all s.chReady = false →
      Sys2Proof.Machine.exec (.headDownClr h) s = .next (s.raise WFE.STATUS.WRITE_IGNORED)) ∧
  (∀ (s : State) (h x : Nat),
      s.headOn h = true →
      s.get (WFE.HEAD_STAT.RAIL_STATE h) = x + 1 →
      x < 2 →
      s.flag (WFE.HEAD_STAT.FAULT_TAKE h) = true →
      s.chReady (2 * h + x) = true →
      Sys2Proof.Machine.exec (.takeoverClr h) s = .next ((s.drop (WFE.HEAD_STAT.FAULT_TAKE h)).setRail h 0)) ∧
  (∀ (s : State) (h x : Nat),
      s.headOn h = true →
      s.get (WFE.HEAD_STAT.RAIL_STATE h) = x + 1 →
      x < 2 →
      s.flag (WFE.HEAD_STAT.FAULT_TAKE h) = true →
      s.chReady (2 * h + x) = false →
      Sys2Proof.Machine.exec (.takeoverClr h) s = .next (s.raise WFE.STATUS.WRITE_IGNORED)) ∧
  (∀ (s : State) (h : Nat),
      s.headOn h = true →
      s.flag (WFE.HEAD_STAT.FAULT_TAKE h) = false →
      Sys2Proof.Machine.exec (.takeoverClr h) s = .next (s.raise WFE.STATUS.WRITE_IGNORED)) ∧
  (∀ (s : State) (h : Nat),
      s.headOn h = true →
      s.get (WFE.HEAD_STAT.RAIL_STATE h) = 3 →
      (chansOf h).all s.chReady = true →
      ∃ t, Sys2Proof.Machine.exec (.headDownClr h) s = .next t ∧
        t.get (WFE.HEAD_STAT.RAIL_STATE h) = 0 ∧ t.flag (WFE.HEAD_STAT.SENSE_LOST h) = false)

/-- CLEAR writes the low four bits of its immediate. MERGE combines DST and SRC by its mode. LOOKUP writes the entry of
its table for the SRC code. PASSMASK keeps a code where its mask entry names the head's pass and clears it elsewhere.
STITCH clears the codes that its patterns give to the neighbour. Without a line in progress no op does anything. While
the DATA clock is gated no op does anything. -/
def Obligations.OpsWriteTheirHeads : Prop :=
  (∀ (s : State) (j : Job),
      s.opReady j 1 →
      ∃ t, Sys2Proof.Machine.exec .opClear s = .next t ∧
        OpWrites j s t (fun _ _ => BitVec.ofNat 4 (j.opImm s.cmp.op))) ∧
  (∀ (s : State) (j : Job),
      s.opReady j 3 →
      ∃ t, Sys2Proof.Machine.exec .mergeOp s = .next t ∧
        OpWrites j s t (fun h k => mergeCode (j.opA s.cmp.op) (s.lbCode (j.opDst s.cmp.op) h k) (s.lbCode (j.opSrc s.cmp.op) h k))) ∧
  (∀ (s : State) (j : Job),
      s.opReady j 4 →
      ∃ t, Sys2Proof.Machine.exec .lookupOp s = .next t ∧
        OpWrites j s t (fun h k => j.lut (j.opA s.cmp.op) (s.lbCode (j.opSrc s.cmp.op) h k).toNat)) ∧
  (∀ (s : State) (j : Job),
      s.opReady j 5 →
      ∃ t, Sys2Proof.Machine.exec .passmaskOp s = .next t ∧
        OpWrites j s t (fun h k =>
          if j.pmask (j.opA s.cmp.op) ((j.xo h + k) % 256) (s.get CMP.JOB_LINE.LINE % 16) == j.pass h then s.lbCode (j.opDst s.cmp.op) h k else 0#4)) ∧
  (∀ (s : State) (j : Job),
      s.opReady j 6 →
      ∃ t, Sys2Proof.Machine.exec .stitchOp s = .next t ∧
        OpWrites j s t (fun h k =>
          if j.stitchClears (j.opMask s.cmp.op) (s.get CMP.JOB_LINE.LINE) h k then 0#4 else s.lbCode (j.opDst s.cmp.op) h k)) ∧
  (∀ (s : State),
      s.cmp.job = none → Sys2Proof.Machine.exec .opClear s = .next s ∧ Sys2Proof.Machine.exec .mergeOp s = .next s ∧ Sys2Proof.Machine.exec .lookupOp s = .next s ∧ Sys2Proof.Machine.exec .passmaskOp s = .next s ∧ Sys2Proof.Machine.exec .stitchOp s = .next s) ∧
  (∀ (s : State),
      s.domainRuns 4 = false → Sys2Proof.Machine.exec .opClear s = .next s ∧ Sys2Proof.Machine.exec .mergeOp s = .next s ∧ Sys2Proof.Machine.exec .lookupOp s = .next s ∧ Sys2Proof.Machine.exec .passmaskOp s = .next s ∧ Sys2Proof.Machine.exec .stitchOp s = .next s)

/-- RAIL keeps the drop size of each touched code and writes the rail-table bit where the drop size is nonzero and 0 where
it is DS_0, from a copy in SRAM and on reads without errors. Errors met on the way are reported first, and the op goes
on unless a report has stopped the node. -/
def Obligations.RailOpWrites : Prop :=
  (∀ (s : State) (j : Job) (x : Access),
      s.opReady j 7 →
      x.ce = [] →
      x.ue = [] →
      s.railBase + 0x2000 ≤ 0x10800000 →
      (∀ h : Nat, h < 16 → s.offline (s.railBase + 512 * h) = false) →
      ∃ t, Sys2Proof.Machine.exec (.railOp x) s = .next t ∧
        OpWrites j s t (fun h k => mkCode (if ds (s.lbCode (j.opDst s.cmp.op) h k) == 0 then 0 else s.railBit x (4096 * h + k)) (ds (s.lbCode (j.opDst s.cmp.op) h k)))) ∧
  (∀ (s : State) (j : Job) (x : Access),
      s.opReady j 7 →
      Sys2Proof.Machine.exec (.railOp x) s = .next (s.goOn (s.each (headsOf (j.opMask s.cmp.op)) (fun h v => v.tableRead x (v.railBase + 512 * h) (v.railBase + 512 * h + 512)))
        (fun w => (w.mapLb j (j.opDst s.cmp.op) (j.opMask s.cmp.op) (fun h k =>
          mkCode (if ds (s.lbCode (j.opDst s.cmp.op) h k) == 0 then 0 else s.railBit x (4096 * h + k)) (ds (s.lbCode (j.opDst s.cmp.op) h k)))).nextOp)))

/-- FETCH of a layer that is transparent at this line writes 0. So does FETCH of a streamed layer above its first row.
FETCH of a streamed line that has not been delivered holds the line at the op, counting the stall. FETCH of a row
writes the code of the pixel that lies at each position, and 0 outside the layer, from the 32-byte spans it reads;
after the last op that reads a streamed line the line is consumed. A stop that a failed read brings leaves the
compositor idle. -/
def Obligations.FetchOpWrites : Prop :=
  (∀ (s : State) (j : Job) (x : Access),
      s.opReady j 2 →
      j.streamed (j.opA s.cmp.op) = false →
      j.row (j.opA s.cmp.op) (s.get CMP.JOB_LINE.LINE) = none →
      ∃ t, Sys2Proof.Machine.exec (.fetchOp x) s = .next t ∧
        OpWrites j s t (fun _ _ => 0#4)) ∧
  (∀ (s : State) (j : Job) (x : Access),
      s.opReady j 2 →
      s.delivered j (j.opA s.cmp.op) (s.get CMP.JOB_LINE.LINE) = true →
      j.row (j.opA s.cmp.op) (s.get CMP.JOB_LINE.LINE) = none →
      Sys2Proof.Machine.exec (.fetchOp x) s = .next (((s.mapLb j (j.opDst s.cmp.op) (j.opMask s.cmp.op) (fun _ _ => 0#4)).consume j s.cmp.op (s.get CMP.JOB_LINE.LINE)).nextOp)) ∧
  (∀ (s : State) (j : Job) (x : Access),
      s.opReady j 2 →
      s.delivered j (j.opA s.cmp.op) (s.get CMP.JOB_LINE.LINE) = false →
      Sys2Proof.Machine.exec (.fetchOp x) s = .next (s.stallLine j s.cmp.op (s.get CMP.JOB_LINE.LINE))) ∧
  (∀ (s : State) (j : Job) (x : Access) (r : Nat),
      s.opReady j 2 →
      s.delivered j (j.opA s.cmp.op) (s.get CMP.JOB_LINE.LINE) = true →
      j.row (j.opA s.cmp.op) (s.get CMP.JOB_LINE.LINE) = some r →
      Sys2Proof.Machine.exec (.fetchOp x) s = .next (let l := j.opA s.cmp.op
        let adj := signedOf 20 (j.opImm s.cmp.op)
        let rd := s.readSpans l (j.layerBase l + r * j.stride l) x (((headsOf (j.opMask s.cmp.op)).flatMap (fun h =>
          (List.range (j.nnz h)).filterMap (fun k => (j.col l h k adj).map (fun c => c * j.bpp l / 256)))).eraseDups)
        s.goOn rd.1 (fun t => ((t.mapLb j (j.opDst s.cmp.op) (j.opMask s.cmp.op) (fun h k =>
          match j.col l h k adj with
          | some c => j.pixelCode l (pixelOf rd.2 (j.bpp l) c)
          | none => 0#4)).consume j s.cmp.op (s.get CMP.JOB_LINE.LINE)).nextOp)))

/-- COMP runs through the dead list in ascending order, from a copy in SRAM and on reads without errors, writes the codes
it accumulates, and adds the drops that found no target to LOST_CNT. Errors met on the way are reported first, and the
op goes on unless a report has stopped the node. A dead nozzle outside the mask or the head, or without a drop,
changes nothing. A drop of a dead nozzle whose entry has mode 0 is lost, and its code becomes 0 unless KEEP_DEAD is
set. In mode 1 with the left neighbour named and a valid target, the drop moves there, the two sizes added up to 3,
and the rail of the receiving code stays. The model's own choices or readings, which no rule of the spec states, are:
dead nozzles outside MASK or NNZ change nothing (log entry 20); the words that COMP reads (log entry 101). -/
def Obligations.CompOpCovers : Prop :=
  (∀ (s : State) (j : Job) (x : Access),
      s.opReady j 8 →
      x.ce = [] →
      x.ue = [] →
      s.compBase + 0x20000 ≤ 0x10800000 →
      (∀ h : Nat, h < 16 → s.offline (s.compBase + 8192 * h) = false) →
      Sys2Proof.Machine.exec (.compOp x) s = .next (((s.each (compAll j (j.opMask s.cmp.op) (s.get CMP.JOB_LINE.LINE) s.cmp.dead (s.getA CMP.COMP_CFG.KEEP_DEAD == 1)
          ((headsOf (j.opMask s.cmp.op)).map (fun h => (h, s.lbCodes j (j.opDst s.cmp.op) h))) (s.compEntry x) s.cmp.dead
          ((headsOf (j.opMask s.cmp.op)).map (fun h => (h, s.lbCodes j (j.opDst s.cmp.op) h))) 0).1 (fun p v => v.setLb (j.opDst s.cmp.op) p.1 p.2)).bump (wordFld CMP.LOST_CNT)
        (compAll j (j.opMask s.cmp.op) (s.get CMP.JOB_LINE.LINE) s.cmp.dead (s.getA CMP.COMP_CFG.KEEP_DEAD == 1)
          ((headsOf (j.opMask s.cmp.op)).map (fun h => (h, s.lbCodes j (j.opDst s.cmp.op) h))) (s.compEntry x) s.cmp.dead
          ((headsOf (j.opMask s.cmp.op)).map (fun h => (h, s.lbCodes j (j.opDst s.cmp.op) h))) 0).2).nextOp)) ∧
  (∀ (s : State) (j : Job) (x : Access),
      s.opReady j 8 →
      Sys2Proof.Machine.exec (.compOp x) s = .next (let heads := headsOf (j.opMask s.cmp.op)
        let old := heads.map (fun h => (h, s.lbCodes j (j.opDst s.cmp.op) h))
        let r := compAll j (j.opMask s.cmp.op) (s.get CMP.JOB_LINE.LINE) s.cmp.dead (s.getA CMP.COMP_CFG.KEEP_DEAD == 1) old (s.compEntry x) s.cmp.dead old 0
        s.goOn (s.each heads (fun h v => v.tableRead x (v.compBase + 8192 * h) (v.compBase + 8192 * h + 8192)))
          (fun w => ((w.each r.1 (fun p v => v.setLb (j.opDst s.cmp.op) p.1 p.2)).bump (wordFld CMP.LOST_CNT) r.2).nextOp))) ∧
  (∀ (j : Job) (mask y : Nat) (dead : List Nat) (keep : Bool) (old : CompBuf) (entry : Nat → Nat) (n : Nat) (new : CompBuf),
      bit mask (n / 4096) = false ∨ j.nnz (n / 4096) ≤ n % 4096 ∨ ds (compGet old (n / 4096) (n % 4096)) = 0 →
      compStep j mask y dead keep old entry n new = (new, false)) ∧
  (∀ (j : Job) (mask y : Nat) (dead : List Nat) (keep : Bool) (old : CompBuf) (entry : Nat → Nat) (n : Nat) (new : CompBuf),
      bit mask (n / 4096) = true →
      n % 4096 < j.nnz (n / 4096) →
      ds (compGet old (n / 4096) (n % 4096)) ≠ 0 →
      entry n / 2 ^ 14 = 0 →
      compStep j mask y dead keep old entry n new = (if keep then new else compSet new (n / 4096) (n % 4096) (fun _ => 0#4), true)) ∧
  (∀ (j : Job) (mask y : Nat) (dead : List Nat) (keep : Bool) (old : CompBuf) (entry : Nat → Nat) (n : Nat) (new : CompBuf) (h k t : Nat),
      n = 4096 * h + k →
      k < 4096 →
      k = t + 1 →
      bit mask h = true →
      k < j.nnz h →
      ds (compGet old h k) ≠ 0 →
      entry n / 2 ^ 14 = 1 →
      entry n / 128 % 4 = 1 →
      compTarget j mask dead h t = true →
      (compStep j mask y dead keep old entry n new).2 = false ∧
        (compStep j mask y dead true old entry n new).1 = compSet new h t (fun c => mkCode (railOf c) (min 3 (ds c + min 3 (ds (compGet old h k) + entry n / 32 % 4)))))

/-- With room in every target queue and no code of rail 2 or 3 with a drop, EMIT notes the load of the line and makes one
line per head of its mask ready, each code corrected. Codes of rail 2 or 3 with a drop are corrected from the rail
table, counted and flagged; a program without heads ends its line at once (log entry 77). While a target queue is full
it waits. At the end of the line CMP.LOAD shows the load noted. A code without a drop becomes 0, and a drop of rail 2
or 3 takes the rail-table bit. -/
def Obligations.EmitPushes : Prop :=
  (∀ (s : State) (j : Job) (stall : Nat) (x : Access),
      s.opReady j 9 →
      headsOf (j.opMask s.cmp.op) ≠ [] →
      (headsOf (j.opMask s.cmp.op)).any (fun h => s.queueFull h (s.get CMP.JOB_LINE.LINE)) = false →
      ((headsOf (j.opMask s.cmp.op)).map (fun h => (s.lbCodes j (j.opSrc s.cmp.op) h).countP (fun c => ds c != 0 && 2 ≤ railOf c))).sum = 0 →
      Sys2Proof.Machine.exec (.emitOp stall x) s = .next ((s.onCmp (fun c => { c with
          load := min 65535 stall * 2 ^ 16 + j.cost % 2 ^ 16,
          emit := (headsOf (j.opMask s.cmp.op)).map (fun h => (h, (List.range (j.nnz h)).map (fun k =>
            emitCode (s.lbCode (j.opSrc s.cmp.op) h k) (s.railBit x (4096 * h + k))))) })))) ∧
  (∀ (s : State) (j : Job) (stall : Nat) (x : Access),
      s.opReady j 9 →
      (headsOf (j.opMask s.cmp.op)).any (fun h => s.queueFull h (s.get CMP.JOB_LINE.LINE)) = false →
      Sys2Proof.Machine.exec (.emitOp stall x) s = .next (let heads := headsOf (j.opMask s.cmp.op)
        let fixes := (heads.map (fun h => (s.lbCodes j (j.opSrc s.cmp.op) h).countP (fun c => ds c != 0 && 2 ≤ railOf c))).sum
        let t := s.when (fixes != 0) (fun u => ((u.each heads (fun h w => w.railFixRead j s.cmp.op x h)).bump (wordFld CMP.RAIL_FIX_CNT) fixes).raise CMP.STATUS.RAIL_FIX)
        s.goOn t (fun u =>
          let v := u.onCmp (fun c => { c with
            load := min 65535 stall * 2 ^ 16 + j.cost % 2 ^ 16
            emit := heads.map (fun h => (h, (List.range (j.nnz h)).map (fun k => emitCode (s.lbCode (j.opSrc s.cmp.op) h k) (s.railBit x (4096 * h + k))))) })
          if heads = [] then v.endLine else v))) ∧
  (∀ (s : State) (j : Job) (stall : Nat) (x : Access),
      s.opReady j 9 →
      (headsOf (j.opMask s.cmp.op)).any (fun h => s.queueFull h (s.get CMP.JOB_LINE.LINE)) = true →
      Sys2Proof.Machine.exec (.emitOp stall x) s = .next s) ∧
  (∀ (s : State),
      s.endLine.rd CMP.LOAD = w32 s.cmp.load) ∧
  (∀ (c : Code) (r : Nat),
      emitCode c r = (if ds c = 0 then 0#4 else if 2 ≤ railOf c then mkCode r (ds c) else c))

/-- KILL_SET sets the kill bit of its nozzle and no other. KILL_CLR clears them all. A kill bit that is set stays set. -/
def Obligations.KillMask : Prop :=
  (∀ (s : State) (n : Nat),
      Sys2Proof.Machine.exec (.killSet n) s = .next (s.setKill (insertAsc s.cmp.kill (n % 65536)))) ∧
  (∀ (s : State),
      Sys2Proof.Machine.exec .killClr s = .next (s.setKill [])) ∧
  (∀ (s : State) (n : Nat),
      ∃ t, Sys2Proof.Machine.exec (.killSet n) s = .next t ∧
        t.cmp.kill = insertAsc s.cmp.kill (n % 65536) ∧ (∀ m, m ∈ t.cmp.kill ↔ m ∈ s.cmp.kill ∨ m = n % 65536) ∧ t.jobs = s.jobs ∧ SameMemory s t)

/-- With a base outside SRAM or not aligned, or two copies that overlap, the enable is refused and reported. With valid
bases the block is enabled. An enable of the enabled block changes nothing. A disable of the disabled block changes
nothing. A disable clears EN and abandons the line in progress, whose beats the queues drop; the running job and the
jobs the compositor holds complete ABORTED in job order, before the report and whatever stop it asserts. A disable
with no job in the node clears EN, leaves the line, drops the active copies of the block, and completes the swaps that
an idle engine completes. With every CAP and spillway sound the block is enabled. Otherwise the enable is refused, and
the first queue at fault is reported with its code. Clearing the enable that is clear changes nothing. Clearing it
flushes every queue at once, ends the running job, and drops the active copies of the block, as entry 11 says. The
model's own choices or readings, which no rule of the spec states, are: waiting class-B values become active at a
disable (log entry 11); the beats that a flush cuts (log entry 22); a job wholly composed is neither aborted nor
composed again (log entry 101). -/
def Obligations.PrintEnables : Prop :=
  (∀ (s : State) (d : Nat),
      s.flag CMP.CTL.EN = false →
      s.cmpBases = some d →
      Sys2Proof.Machine.exec .cmpEnable s = .next (s.report Src.CMP_CFG 0 d)) ∧
  (∀ (s : State),
      s.flag CMP.CTL.EN = false →
      s.cmpBases = none →
      Sys2Proof.Machine.exec .cmpEnable s = .next (s.enableBlock CMP.CTL.EN 0 0)) ∧
  (∀ (s : State),
      s.flag CMP.CTL.EN = true →
      Sys2Proof.Machine.exec .cmpEnable s = .next s) ∧
  (∀ (s : State) (l : List (Nat × Nat)),
      s.flag CMP.CTL.EN = false →
      Sys2Proof.Machine.exec (.cmpDisable l) s = .next s) ∧
  (∀ (s : State) (l : List (Nat × Nat)),
      s.flag CMP.CTL.EN = true →
      Sys2Proof.Machine.exec (.cmpDisable l) s = .next (let a := (s.disableBlock CMP.CTL.EN 0).cmpAbandon false
        let b := a.each (l.filter (fun p => (s.cmp.emit.map (·.1)).contains p.1)) (fun p t => t.bump (LQ.DROP_BEATS.COUNT p.1) (p.2 - (s.queue p.1).counted))
        let d := b.abortJobs 7 s.heldJobs
        ({ d with act := d.act.filter (fun e => !(0x40100000 ≤ e.1 && e.1 < 0x40120000)) } : State).syncCmp.settleSwaps)) ∧
  (∀ (s : State) (l : List (Nat × Nat)),
      s.flag CMP.CTL.EN = true →
      s.jobs = [] →
      s.cmp.emit = [] →
      Sys2Proof.Machine.exec (.cmpDisable l) s = .next (({ ((s.disableBlock CMP.CTL.EN 0).cmpAbandon false) with act := s.act.filter (fun e => !(0x40100000 ≤ e.1 && e.1 < 0x40120000)) } : State).syncCmp).settleSwaps) ∧
  (∀ (s : State),
      s.flag LQ.CTL.EN = false →
      (List.range s.nHeads).findSome? (fun h => (s.queueBad h).map (fun c => (h, c))) = none →
      Sys2Proof.Machine.exec .lqEnable s = .next (s.enableBlock LQ.CTL.EN 0 2)) ∧
  (∀ (s : State) (h c : Nat),
      s.flag LQ.CTL.EN = false →
      (List.range s.nHeads).findSome? (fun h => (s.queueBad h).map (fun c => (h, c))) = some (h, c) →
      Sys2Proof.Machine.exec .lqEnable s = .next ((s.raise LQ.STATUS.CFG_ERR).report Src.LQ_CFG h c)) ∧
  (∀ (s : State) (l : List (Nat × Nat)),
      s.flag LQ.CTL.EN = false →
      Sys2Proof.Machine.exec (.lqDisable l) s = .next s) ∧
  (∀ (s : State) (l : List (Nat × Nat)),
      s.flag LQ.CTL.EN = true →
      Sys2Proof.Machine.exec (.lqDisable l) s = .next ({ ((s.disableBlock LQ.CTL.EN 2).abortRunning 8).each (List.range ((s.disableBlock LQ.CTL.EN 2).abortRunning 8).nHeads) (fun h t =>
          t.flushQueue h (match l.find? (·.1 == h) with | some p => min 63 p.2 | none => 0)) with
          act := (((s.disableBlock LQ.CTL.EN 2).abortRunning 8).each (List.range ((s.disableBlock LQ.CTL.EN 2).abortRunning 8).nHeads) (fun h t =>
            t.flushQueue h (match l.find? (·.1 == h) with | some p => min 63 p.2 | none => 0))).act.filter (fun e => !(0x40120000 ≤ e.1 && e.1 < 0x40140000)) } : State).settleSwaps)

/-- The first job whose program is not checked is read and checked. While no checked program waits, one that passes every
test is kept with its layer table, and the job counts as checked. A program that fails a test shows the code of the
first failure, the op and the job in PROG_CHECK, sets PROG_ERR, the job completes as REJECTED, and CMP_PROG is
reported. While a checked program waits, none is loaded. An enabled compositor without a line in progress starts the
next line: that of the job in composition, or line 0 of the next checked job. With a line in progress, or no program,
it waits. While a job in composition has lines left, its next line follows. -/
def Obligations.CompositorPrograms : Prop :=
  (∀ (s : State) (xp xt : Access),
      Sys2Proof.Machine.exec (.programLoad xp xt) s = .next (s.loadProgram xp xt)) ∧
  (∀ (s : State) (xp xt : Access) (j k : Job),
      s.cmpOn = true →
      s.progNext = none →
      s.toLoad = some j →
      (s.checkProgram j xp xt).2 = .inr k →
      Sys2Proof.Machine.exec (.programLoad xp xt) s = .next ((((s.checkProgram j xp xt).1.onJob j.seq (fun m => { m with checked := true, prog := k.prog, ltbl := k.ltbl })).syncCmp))) ∧
  (∀ (s : State) (xp xt : Access) (j : Job) (code op : Nat),
      s.cmpOn = true →
      s.progNext = none →
      s.toLoad = some j →
      (s.checkProgram j xp xt).2 = .inl (code, op) →
      Sys2Proof.Machine.exec (.programLoad xp xt) s = .next (((((s.checkProgram j xp xt).1.wr CMP.PROG_CHECK (w32 (code * 2 ^ 24 + op * 2 ^ 19 + j.id))).raise CMP.STATUS.PROG_ERR).complete j.seq 3 2 code).report
        Src.CMP_PROG 0 (w32 (code * 2 ^ 24 + op * 2 ^ 19 + j.id)).toNat).syncCmp) ∧
  (∀ (s : State) (xp xt : Access) (k : Job),
      s.progNext = some k →
      Sys2Proof.Machine.exec (.programLoad xp xt) s = .next s) ∧
  (∀ (s : State) (x : Access) (j : Job) (y : Nat),
      s.cmpOn = true →
      s.flag CMP.STATUS.BUSY = false →
      s.nextLine = some (j, y) →
      Sys2Proof.Machine.exec (.composeLineBoundary x) s = .next (s.composeLine x j y)) ∧
  (∀ (s : State) (x : Access),
      s.flag CMP.STATUS.BUSY = true ∨ s.nextLine = none →
      Sys2Proof.Machine.exec (.composeLineBoundary x) s = .next s) ∧
  (∀ (s : State) (j : Job),
      s.cmp.abandon = false →
      s.cmpJob? = some j →
      j.composed = false →
      s.nextLine = some (j, s.get CMP.JOB_LINE.LINE + 1))

/-- The last beat of a line pushes it into an enabled queue; a disabled one takes no line, but drops the further beats of
a line that its flush has cut. With room in the queue and no CAP that waits, the line of head h that EMIT made ready
becomes the newest line of queue h, and the other queues stay. The last beat of a line that a flush has cut counts the
beats dropped since, and the line ends with the last of its heads. A line for which its queue has no room waits. A
tail-to-head move that is in flight completes. The oldest tail line becomes the newest head line. With no move in
flight nothing moves. A move starts while the spillway holds none of the queue's lines, the head section has room, the
tail a line, and no transfer of the queue is in flight. A refill starts while the spillway holds lines of the queue
and the head section has room. A spill in flight that the DRAM port serves writes the oldest tail line, packed two
codes to a byte, to the next spillway slot; the slots are used in turn; a failed write marks the line and is reported.
A spill that is not in flight, or waits for the port, or meets a gated DATA clock, completes nothing. A refill in
flight that the port serves reads the oldest spillway line back, and it becomes the newest head line; a failed read
marks the line and is reported. While the DATA clock is gated no refill, move or flush completes. A free port takes a
refill before a spill. The model's own choices or readings, which no rule of the spec states, are: beats are dropped
and counted at LQ.CTL.EN = 0 too (log entry 22); a push with 8 lines in the tail, and the order of refills and spills
(log entry 81). -/
def Obligations.QueueMoves : Prop :=
  (∀ (s : State) (h : Nat),
      Sys2Proof.Machine.exec (.linePush h) s = .next (s.when ((s.blockOn LQ.CTL.EN 2 || (!s.flag LQ.CTL.EN && s.domainRuns 4 && (s.queue h).drop != 0)) && s.headOn h) (·.pushLine h))) ∧
  (∀ (s : State) (h : Nat) (l : List Code) (j : Job),
      s.blockOn LQ.CTL.EN 2 = true →
      s.headOn h = true →
      s.cmp.emit.find? (·.1 == h) = some (h, l) →
      s.cmpJob? = some j →
      (s.queue h).drop = 0 →
      s.queueFull h (s.get CMP.JOB_LINE.LINE) = false →
      s.act.any (·.1 == LQ.CAP h) = false →
      ∃ t, Sys2Proof.Machine.exec (.linePush h) s = .next t ∧
        (t.queue h).lines = (s.queue h).lines ++ [{ seq := j.seq, job := j.id, y := s.get CMP.JOB_LINE.LINE, codes := l }] ∧ (∀ g, g ≠ h → t.queue g = s.queue g) ∧ SameMemory s t) ∧
  (∀ (s : State) (h : Nat) (e : Nat × List Code) (j : Job),
      s.headOn h = true →
      s.blockOn LQ.CTL.EN 2 = true ∨ (s.flag LQ.CTL.EN = false ∧ s.domainRuns 4 = true) →
      s.cmp.emit.find? (·.1 == h) = some e →
      s.cmpJob? = some j →
      (s.queue h).drop ≠ 0 →
      Sys2Proof.Machine.exec (.linePush h) s = .next (let u := ((s.bump (LQ.DROP_BEATS.COUNT h) (s.queue h).drop).onQueue h (fun q => { q with drop := 0 })).onCmp (fun c => { c with emit := c.emit.erase e })
        if u.cmp.emit.isEmpty then u.endLine else u)) ∧
  (∀ (s : State) (h : Nat),
      s.headOn h = true →
      (s.queue h).drop = 0 →
      s.queueFull h (s.get CMP.JOB_LINE.LINE) = true →
      Sys2Proof.Machine.exec (.linePush h) s = .next s) ∧
  (∀ (s : State) (h : Nat),
      s.headOn h = true →
      s.domainRuns 4 = true →
      (s.queue h).moving = true →
      Sys2Proof.Machine.exec (.tailToHeadMove h) s = .next (s.setQueue h Queue.moved)) ∧
  (∀ (q : Queue) (l : QLine) (r : List QLine),
      q.tail = l :: r →
      Queue.moved q = { q with tail := r, head := q.head ++ [l], moving := false }) ∧
  (∀ (s : State) (h : Nat),
      (s.queue h).moving = false →
      Sys2Proof.Machine.exec (.tailToHeadMove h) s = .next s) ∧
  (∀ (q : Queue) (deep room : Bool),
      (q.start deep room).moving = (q.moving || (q.spill.isEmpty && !q.busy && decide (q.head.length < 8) && !q.tail.isEmpty))) ∧
  (∀ (q : Queue) (deep room : Bool),
      (q.start deep room).refilling = (q.refilling || (!q.spill.isEmpty && decide (q.head.length < 8)))) ∧
  (∀ (s : State) (h : Nat) (x : Access) (l : QLine) (r : List QLine),
      s.headOn h = true →
      (s.queue h).spilling = true →
      s.lqPort = some none →
      (s.queue h).tail = l :: r →
      s.domainRuns 4 = true →
      Sys2Proof.Machine.exec (.spillComplete h x) s = .next (((s.ramWrite 8 (s.spillBase h + 2048 * (s.queue h).slot) (packLine l.codes) x).1.when ((s.ramWrite 8 (s.spillBase h + 2048 * (s.queue h).slot) (packLine l.codes) x).2 != 0 || x.status != 0)
          (·.spillError h (s.queue h).slot)).freePort.setQueue h (fun q => { q with
          tail := r, spill := q.spill ++ [({ l with codes := [], bad := l.bad || ((s.ramWrite 8 (s.spillBase h + 2048 * (s.queue h).slot) (packLine l.codes) x).2 != 0 || x.status != 0) }, (s.queue h).slot)]
          slot := ((s.queue h).slot + 1) % oneIfZero (s.get (LQ.SPILL_LINES.LINES h)), spilling := false }))) ∧
  (∀ (s : State) (h : Nat) (x : Access),
      (s.queue h).spilling = false ∨ s.lqPort ≠ some none ∨ s.domainRuns 4 = false →
      Sys2Proof.Machine.exec (.spillComplete h x) s = .next s) ∧
  (∀ (s : State) (h slot : Nat) (x : Access) (l : QLine) (r : List (QLine × Nat)),
      s.headOn h = true →
      (s.queue h).spill = (l, slot) :: r →
      (s.queue h).refilling = true →
      s.lqPort = some (some h) →
      s.domainRuns 4 = true →
      Sys2Proof.Machine.exec (.refillComplete h x) s = .next (((s.ramRead 8 (s.spillBase h + 2048 * slot) 2048 x).1.when ((s.ramRead 8 (s.spillBase h + 2048 * slot) 2048 x).2.1 != 0 || x.status != 0) (·.spillError h slot)).freePort.setQueue h (fun q => { q with
          spill := r
          head := q.head ++ [{ l with
            codes := if ((s.ramRead 8 (s.spillBase h + 2048 * slot) 2048 x).2.1 != 0 || x.status != 0) || l.bad then [] else unpackLine (s.ramRead 8 (s.spillBase h + 2048 * slot) 2048 x).2.2
            bad := l.bad || ((s.ramRead 8 (s.spillBase h + 2048 * slot) 2048 x).2.1 != 0 || x.status != 0) }]
          refilling := false }))) ∧
  (∀ (s : State) (h n : Nat) (x : Access),
      s.domainRuns 4 = false → Sys2Proof.Machine.exec (.refillComplete h x) s = .next s ∧ Sys2Proof.Machine.exec (.tailToHeadMove h) s = .next s ∧ Sys2Proof.Machine.exec (.flushEffect h n) s = .next s) ∧
  (∀ (s : State),
      s.portServes = false →
      s.servePort.lqPort = (match s.nextRefill with
        | some g => some (some g)
        | none => if s.lq.any (·.spilling) then some none else none))

/-- A flush request adds its queues to the requests that pend. A requested flush takes effect once no transfer of its
queue is in flight. It waits while one is in flight. A flush that has waited too long is forced, flagged and reported.
Pointer copies that differ flush the queue, and the pointer and both copies are reported. After a flush of a queue
with no line in EMIT and no CAP that waits, the queue holds no line, is in resync, and its request is gone. The
model's own choices or readings, which no rule of the spec states, are: the beats that a flush cuts (log entry 22); a
forced flush frees the DRAM port (log entry 81). -/
def Obligations.QueueFlush : Prop :=
  (∀ (s : State) (mask : Nat),
      Sys2Proof.Machine.exec (.lqFlush mask) s = .next (s.put LQ.FLUSH.REQ (s.get LQ.FLUSH.REQ ||| (mask % 2 ^ s.nHeads)))) ∧
  (∀ (s : State) (h beats : Nat),
      s.headOn h = true →
      s.domainRuns 4 = true →
      bit (s.get LQ.FLUSH.REQ) h = true →
      (s.queue h).busy = false →
      Sys2Proof.Machine.exec (.flushEffect h beats) s = .next (s.flushQueue h (min 63 beats))) ∧
  (∀ (s : State) (h beats : Nat),
      (s.queue h).busy = true →
      Sys2Proof.Machine.exec (.flushEffect h beats) s = .next s) ∧
  (∀ (s : State) (h beats : Nat),
      s.headOn h = true →
      s.domainRuns 4 = true →
      bit (s.get LQ.FLUSH.REQ) h = true →
      Sys2Proof.Machine.exec (.flushTimeout h beats) s = .next (((s.flushQueue h (min 63 beats)).raise (LQ.QSTATUS.FLUSH_FORCED h)).report Src.LQ_FLUSH_FORCED h 0)) ∧
  (∀ (s : State) (h ptr a b beats : Nat),
      s.headOn h = true →
      s.domainRuns 4 = true →
      Sys2Proof.Machine.exec (.qptrMismatch h ptr a b beats) s = .next (((s.flushQueue h (min 63 beats)).raise (LQ.QSTATUS.QPTR_MISMATCH h)).report Src.QPTR_MISMATCH h
        (ptr % 8 * 2 ^ 29 + a % 2 ^ 14 * 2 ^ 14 + b % 2 ^ 14))) ∧
  (∀ (s : State) (h : Nat),
      s.headOn h = true →
      bit (s.get LQ.FLUSH.REQ) h = true →
      (s.queue h).busy = false →
      s.cmp.emit.any (·.1 == h) = false →
      (s.queue h).part = false →
      s.act.any (·.1 == LQ.CAP h) = false →
      s.domainRuns 4 = true →
      ∃ t, Sys2Proof.Machine.exec (.flushEffect h 0) s = .next t ∧
        (t.queue h).lines = [] ∧ t.resync h = true ∧ bit (t.get LQ.FLUSH.REQ) h = false)

/-- CONST sends the low NBITS bits of its word REP times, in the bit order of MSBF. NOZ sends the symbols of COUNT codes
from START on, STRIDE apart, moved on by the loop's advance. CRCMARK starts the covered bits anew and sends nothing.
CRC sends the CRC of the covered bits, most significant bit first. LOOP begins its body, to be run N times. END ends
the lane. The bits of CONST follow those already sent, NBITS for each repetition. Bits before CRCMARK are not covered,
and the CRC does not cover itself. -/
def Obligations.FramingInstructions : Prop :=
  (∀ (s : State) (h lane : Nat) (x : Xfer) (l0 : Lane),
      s.laneReady h lane 1 x l0 →
      Sys2Proof.Machine.exec (.constBits h lane) s = .next (s.onHport h (fun p => { p with xfer := some { x with lanes := modAt x.lanes lane (fun l => laneConst (fpIns x.prog lane l0.pc) l) } }))) ∧
  (∀ (s : State) (h lane : Nat) (x : Xfer) (l0 : Lane),
      s.laneReady h lane 2 x l0 →
      Sys2Proof.Machine.exec (.noz h lane) s = .next (s.onHport h (fun p => { p with xfer := some { x with lanes := modAt x.lanes lane (fun l => laneNoz x (fpIns x.prog lane l0.pc) l) } }))) ∧
  (∀ (s : State) (h lane : Nat) (x : Xfer) (l0 : Lane),
      s.laneReady h lane 3 x l0 →
      Sys2Proof.Machine.exec (.crcMark h lane) s = .next (s.onHport h (fun p => { p with xfer := some { x with lanes := modAt x.lanes lane (fun l => laneMark l) } }))) ∧
  (∀ (s : State) (h lane : Nat) (x : Xfer) (l0 : Lane),
      s.laneReady h lane 4 x l0 →
      Sys2Proof.Machine.exec (.crcInsert h lane) s = .next (s.onHport h (fun p => { p with xfer := some { x with lanes := modAt x.lanes lane (fun l => laneCrcOut x (fpIns x.prog lane l0.pc) l) } }))) ∧
  (∀ (s : State) (h lane : Nat) (x : Xfer) (l0 : Lane),
      s.laneReady h lane 5 x l0 →
      Sys2Proof.Machine.exec (.loopLane h lane) s = .next (s.onHport h (fun p => { p with xfer := some { x with lanes := modAt x.lanes lane (fun l => laneLoop (fpIns x.prog lane l0.pc) l) } }))) ∧
  (∀ (s : State) (h lane : Nat) (x : Xfer) (l0 : Lane),
      s.laneReady h lane 15 x l0 →
      Sys2Proof.Machine.exec (.frameEnd h lane) s = .next (s.onHport h (fun p => { p with xfer := some { x with lanes := modAt x.lanes lane (fun l => { l with done := true }) } }))) ∧
  (∀ (i : Word × Word) (l : Lane),
      (laneConst i l).bits = l.bits ++ ((List.range (insRep i)).flatMap (fun _ => bitsOut (insMsbf i) (insNbits i) i.2.toNat)) ∧ (laneConst i l).bits.length = l.bits.length + insRep i * insNbits i) ∧
  (∀ (x : Xfer) (i : Word × Word) (l : Lane),
      (laneMark l).covered = [] ∧ (laneMark l).bits = l.bits ∧ (laneCrcOut x i l).covered = l.covered)

/-- When the instant of the latch comes and the frame of its line left the lanes at least LAT_SETUP before, LAT rises, the
frame is counted, and group 0 of the line is committed. When LAT falls the pop window opens and the port tries to pop
the next line. When the last bit has left every lane the frame is complete, at this instant. A port that works toward
the line and whose frame is not complete LAT_SETUP before the latch is late: the line is counted, nothing fires for
it, and the first of a run is reported. A port that works toward no line is not late, but nothing fires for it either.
A pop request tries to pop the line that the port works toward. With the pop window open, the line that the port works
toward and that stands at the head of the queue is popped and its transfer prepared. When the pop deadline of the line
that the port works toward has passed, the port pops it with blanks allowed. At the pop deadline a line that the queue
does not hold is replaced by a blank line. A pop returns the oldest head line when it carries the tag of the fire
line. The model's own choices or readings, which no rule of the spec states, are: a blank line is no boundary, and one
ahead of the fire line counts in no run (log entry 100). -/
def Obligations.TransfersAndLatches : Prop :=
  (∀ (s : State) (h : Nat) (t : Trig) (x : Xfer),
      s.latchTrig h = some t →
      (s.hport h).xfer = some x →
      s.portLive h = true →
      s.flag FIRE.STATUS.PRED_VALID = true →
      reached s.time (latStartOf x.cfg t.at_) = true →
      x.readyFor t (latStartOf x.cfg t.at_) = true →
      Sys2Proof.Machine.exec (.latStart h) s = .next (((s.onHport h (fun p => { p with
            xfer := none, latched := some x, latUp := true, latAt := some (latStartOf x.cfg t.at_, (latStartOf x.cfg t.at_ + latW x.cfg) % 2 ^ 48), lateRun := false })).bump
          (HPT.FRAME_CNT.COUNT h)).onFire (fun f => { f with trigs := f.trigs.map (fun u =>
            if u == t then { u with committed := true } else u) }))) ∧
  (∀ (s : State) (h : Nat) (x : Access) (e : Nat × Nat),
      (s.hport h).latAt = some e →
      (s.hport h).latUp = true →
      reached s.time e.2 = true →
      Sys2Proof.Machine.exec (.latEnd ⟨h, x⟩) s = .next ((s.onHport h (fun p => { p with latUp := false, window := true })).popPort h false x)) ∧
  (∀ (s : State) (h : Nat) (x : Xfer),
      (s.hport h).xfer = some x →
      x.lanes.all (·.done) = true →
      x.complete = false →
      Sys2Proof.Machine.exec (.frameComplete h) s = .next (s.onHport h (fun p => { p with xfer := some { x with complete := true, doneAt := s.time } }))) ∧
  (∀ (s : State) (h : Nat) (t : Trig),
      s.latchTrig h = some t →
      s.flag FIRE.STATUS.PRED_VALID = true →
      reached s.time (before (latStartOf (s.xferCfg h t.seq) t.at_) (latSetup (s.xferCfg h t.seq))) = true →
      (s.hport h).xfer.any (fun x => x.readyFor t (latStartOf (s.xferCfg h t.seq) t.at_)) = false →
      (s.xferLine h).isSome = true →
      Sys2Proof.Machine.exec (.xferLate h) s = .next (s.lateLine h t)) ∧
  (∀ (s : State) (h : Nat) (t : Trig),
      s.latchTrig h = some t →
      s.flag FIRE.STATUS.PRED_VALID = true →
      reached s.time (before (latStartOf (s.xferCfg h t.seq) t.at_) (latSetup (s.xferCfg h t.seq))) = true →
      (s.hport h).xfer.any (fun x => x.readyFor t (latStartOf (s.xferCfg h t.seq) t.at_)) = false →
      s.xferLine h = none →
      Sys2Proof.Machine.exec (.xferLate h) s = .next (s.dropLine h t)) ∧
  (∀ (s : State) (h : Nat) (x : Access),
      Sys2Proof.Machine.exec (.popLine ⟨h, x⟩) s = .next (s.popPort h false x)) ∧
  (∀ (s : State) (h : Nat) (x : Access) (g : PortLine) (l : List Code),
      s.xferLine h = some g →
      (s.hport h).xfer = none →
      (s.hport h).window = true →
      (s.onHport h (fun p => { p with xfer := none })).tailLine g = false →
      ((s.onHport h (fun p => { p with xfer := none })).popQueue h (g.seq, g.y) (tagDetail ((s.onHport h (fun p => { p with xfer := none })).jobId g.seq) g.y) false).2 = .line l →
      Sys2Proof.Machine.exec (.popLine ⟨h, x⟩) s = .next ((((s.onHport h (fun p => { p with xfer := none })).popQueue h (g.seq, g.y) (tagDetail ((s.onHport h (fun p => { p with xfer := none })).jobId g.seq) g.y) false).1.prepare h g l x))) ∧
  (∀ (s : State) (h : Nat) (x : Access) (g : PortLine),
      s.xferLine h = some g →
      s.deadlinePassed h g = true →
      Sys2Proof.Machine.exec (.popDeadline ⟨h, x⟩) s = .next (s.popPort h true x)) ∧
  (∀ (s : State) (h : Nat) (x : Access) (g : PortLine),
      s.xferLine h = some g →
      s.deadlinePassed h g = true →
      (s.hport h).xfer = none →
      (s.hport h).window = true →
      (s.onHport h (fun p => { p with xfer := none })).tailLine g = false →
      ((s.onHport h (fun p => { p with xfer := none })).popQueue h (g.seq, g.y) (tagDetail ((s.onHport h (fun p => { p with xfer := none })).jobId g.seq) g.y) true).2 = .blank →
      Sys2Proof.Machine.exec (.popDeadline ⟨h, x⟩) s = .next ((((s.onHport h (fun p => { p with xfer := none })).popQueue h (g.seq, g.y) (tagDetail ((s.onHport h (fun p => { p with xfer := none })).jobId g.seq) g.y) true).1.prepare h g [] x))) ∧
  (∀ (s : State) (h d : Nat) (g : Nat × Nat) (b : Bool) (l : QLine) (r : List QLine),
      (s.queue h).head = l :: r →
      l.tag = g →
      tagBefore l.tag g = false →
      (s.popQueue h g d b).2 = .line l.codes)

/-- FP_LOAD reads the program at FPROG and begins the check. While a load is in progress a further one changes nothing.
With no load in progress the check ends nothing. A program that passes every test becomes pending, and its FRAME_BITS
are shown. A failed program shows the code, the lane and the instruction of the first failure, sets FP_ERR and is
reported. The model's own choices or readings, which no rule of the spec states, are: a second write while the check
runs (log entry 103). -/
def Obligations.FramingProgramLoad : Prop :=
  (∀ (s : State) (h : Nat) (x : Access),
      s.headOn h = true →
      s.flag (HPT.PCTL.FP_LOAD h) = false →
      Sys2Proof.Machine.exec (.fpLoad h x) s = .next (((s.readProg (s.fprog h) x).1.raise (HPT.PCTL.FP_LOAD h)).onHport h (fun p => { p with loading := some (s.readProg (s.fprog h) x).2 }))) ∧
  (∀ (s : State) (h : Nat) (x : Access),
      s.flag (HPT.PCTL.FP_LOAD h) = true →
      Sys2Proof.Machine.exec (.fpLoad h x) s = .next s) ∧
  (∀ (s : State) (h : Nat),
      (s.hport h).loading = none →
      Sys2Proof.Machine.exec (.fpCheckComplete h) s = .next s) ∧
  (∀ (s : State) (h : Nat) (w : List Word),
      (s.hport h).loading = some (w, false) →
      fpCheckHeader w = none →
      fpCheckBody w = none →
      Sys2Proof.Machine.exec (.fpCheckComplete h) s = .next (((((s.onHport h (fun p => { p with loading := none })).drop (HPT.PCTL.FP_LOAD h)).onHport h (fun p => { p with pend := w })).raise (HPT.PSTATUS.FP_PEND h)).put
        (HPT.FP_STATUS.FRAME_BITS h) (frameBits w))) ∧
  (∀ (s : State) (h code lane ins : Nat) (w : List Word) (bad : Bool),
      (s.hport h).loading = some (w, bad) →
      progFailure w bad = some (code, (lane, ins)) →
      Sys2Proof.Machine.exec (.fpCheckComplete h) s = .next ((((((((s.onHport h (fun p => { p with loading := none })).drop (HPT.PCTL.FP_LOAD h)).put (HPT.FP_STATUS.CODE h) code).put (HPT.FP_STATUS.LANE h) lane).put
        (HPT.FP_STATUS.INSTR h) ins).raise (HPT.PSTATUS.FP_ERR h))).report Src.HPT_FP h
          (((((((s.onHport h (fun p => { p with loading := none })).drop (HPT.PCTL.FP_LOAD h)).put (HPT.FP_STATUS.CODE h) code).put (HPT.FP_STATUS.LANE h) lane).put
            (HPT.FP_STATUS.INSTR h) ins).raise (HPT.PSTATUS.FP_ERR h)).rd (HPT.FP_STATUS h)).toNat))

/-- Setting EN clears FRAME_CNT, ends the causes NO_HEAD and PRESENCE, and begins the checks. Setting EN that is set
already begins no checks. While the checks run, their end is judged in the order of the steps. With a stable code of a
head, the class expected, no used lane at fault and a sound skew store the port is READY in the orientation of the
code. The code of an empty connector sets NO_HEAD and takes the port down. Otherwise EN is refused, and the cause is
reported. Clearing EN clears READY, ends the transfer, and switches the heater off. Clearing HPT.CTL.EN ends the
running job and every transfer, and the class-B values that wait become active, as entry 11 says. When it is clear
already, nothing changes. A presence reading of an enabled port past its checks is compared with the accepted code.
The second reading in a row whose code differs from the accepted one sets PRS_CHANGE, reports HPT_PRESENCE and takes
the port down with cause PRESENCE, unless that cause holds already. A reading with the accepted code changes nothing
but RAW. A short or an open of a used lane of a READY port sets its bit in LANE_STAT and LANE_FAULT, reports HPT_LANE,
and takes the port down with cause LANE. A lane that is not used is not sensed. DOWN_CLR brings the findings of a load
check. DOWN_CLR on a port with cause LANE whose lanes pass the load check ends that cause, and asks for the end of
cause RAIL. Without cause LANE no load check runs. The model's own choices or readings, which no rule of the spec
states, are: waiting class-B values become active at a disable (log entry 11); EN reads 1 during the checks, and
refusals come at PORT_READY (log entry 24); PCTL_h.EN owns the fields of a port (log entry 78); readings while
PRESENCE holds (log entry 102); a DOWN_CLR that waits (log entry 105). -/
def Obligations.PortChecks : Prop :=
  (∀ (s : State) (h : Nat),
      s.headOn h = true →
      s.flag (HPT.PCTL.EN h) = false →
      Sys2Proof.Machine.exec (.portEnable h) s = .next (((((s.raise (HPT.PCTL.EN h)).wr (HPT.FRAME_CNT h) 0#32).onHport h (fun p => { p with enabling := true, prsDiff := false })).endCause h 1).endCause h 4)) ∧
  (∀ (s : State) (h : Nat),
      s.flag (HPT.PCTL.EN h) = true →
      Sys2Proof.Machine.exec (.portEnable h) s = .next s) ∧
  (∀ (s : State) (h raw shorts opens : Nat) (stable : Bool),
      s.headOn h = true →
      (s.hport h).enabling = true →
      Sys2Proof.Machine.exec (.portReady h raw stable shorts opens) s = .next (s.portReady h (min raw 255) stable (shorts % 64) (opens % 64))) ∧
  (∀ (s : State) (h raw shorts opens : Nat),
      s.headOn h = true →
      (s.hport h).enabling = true →
      min raw 255 / 16 % 16 ≠ 15 →
      (s.acceptPrs h (min raw 255) true).enableFault h (min raw 255 / 16 % 16) true (shorts % 64) (opens % 64) = none →
      Sys2Proof.Machine.exec (.portReady h raw true shorts opens) s = .next (((((s.acceptPrs h (min raw 255) true).raise (HPT.PSTATUS.READY h)).drop (HPT.PSTATUS.NO_HEAD h)).onHport h
        (fun p => { p with enabling := false, window := true })))) ∧
  (∀ (s : State) (h raw shorts opens : Nat),
      s.headOn h = true →
      (s.hport h).enabling = true →
      min raw 255 / 16 % 16 = 15 →
      Sys2Proof.Machine.exec (.portReady h raw true shorts opens) s = .next ((((s.acceptPrs h (min raw 255) true).onHport h (fun p => { p with enabling := false })).raise (HPT.PSTATUS.NO_HEAD h)).addCause h 1)) ∧
  (∀ (s : State) (h raw shorts opens k : Nat) (stable : Bool),
      s.headOn h = true →
      (s.hport h).enabling = true →
      min raw 255 / 16 % 16 ≠ 15 →
      (s.acceptPrs h (min raw 255) stable).enableFault h (min raw 255 / 16 % 16) stable (shorts % 64) (opens % 64) = some k →
      Sys2Proof.Machine.exec (.portReady h raw stable shorts opens) s = .next ((s.acceptPrs h (min raw 255) stable).refusePort h k (shorts % 64) (opens % 64))) ∧
  (∀ (s : State) (h : Nat),
      s.headOn h = true →
      s.flag (HPT.PCTL.EN h) = true →
      Sys2Proof.Machine.exec (.portDisable h) s = .next (((s.drop (HPT.PCTL.EN h)).portOff h).portJobOther h)) ∧
  (∀ (s : State),
      s.flag HPT.CTL.EN = true →
      Sys2Proof.Machine.exec .hptDisable s = .next (State.each { (s.disableBlock HPT.CTL.EN 3).abortRunning 9 with hpt := ((s.disableBlock HPT.CTL.EN 3).abortRunning 9).hpt.map (fun p => { p with xfer := none }) }
        (List.range ((s.disableBlock HPT.CTL.EN 3).abortRunning 9).nHeads) (fun h t => t.portJobOther h)).settleSwaps) ∧
  (∀ (s : State),
      s.flag HPT.CTL.EN = false →
      Sys2Proof.Machine.exec .hptDisable s = .next s) ∧
  (∀ (s : State) (h raw : Nat),
      s.headOn h = true →
      s.flag (HPT.PCTL.EN h) = true →
      (s.hport h).enabling = false →
      s.flag (HPT.PRS.VALID h) = true →
      Sys2Proof.Machine.exec (.prsSample h raw) s = .next (s.prsSample h (min raw 255))) ∧
  (∀ (s : State) (h raw : Nat),
      s.headOn h = true →
      s.flag (HPT.PCTL.EN h) = true →
      (s.hport h).enabling = false →
      s.flag (HPT.PRS.VALID h) = true →
      (s.hport h).prsDiff = true →
      (!bit (s.hport h).causes 4 || bit (s.hport h).ended 4) = true →
      min raw 255 / 16 % 16 ≠ (s.put (HPT.PRS.RAW h) (min raw 255)).get (HPT.PRS.CODE h) →
      Sys2Proof.Machine.exec (.prsSample h raw) s = .next (((((s.put (HPT.PRS.RAW h) (min raw 255)).onHport h (fun p => { p with prsDiff := true })).raise (HPT.PSTATUS.PRS_CHANGE h)).report Src.HPT_PRESENCE h
        ((s.put (HPT.PRS.RAW h) (min raw 255)).rd (HPT.PRS h)).toNat).addCause h 4)) ∧
  (∀ (s : State) (h raw : Nat),
      s.headOn h = true →
      s.flag (HPT.PCTL.EN h) = true →
      (s.hport h).enabling = false →
      s.flag (HPT.PRS.VALID h) = true →
      min raw 255 / 16 % 16 = (s.put (HPT.PRS.RAW h) (min raw 255)).get (HPT.PRS.CODE h) →
      Sys2Proof.Machine.exec (.prsSample h raw) s = .next ((s.put (HPT.PRS.RAW h) (min raw 255)).onHport h (fun p => { p with prsDiff := false }))) ∧
  (∀ (s : State) (h lane : Nat) (short : Bool),
      s.headOn h = true →
      s.flag (HPT.PSTATUS.READY h) = true →
      lane < 6 →
      bit (s.usedLanes h) lane = true →
      Sys2Proof.Machine.exec (.laneFault h lane short) s = .next (s.laneFault h (if short then 2 ^ lane else 0) (if short then 0 else 2 ^ lane))) ∧
  (∀ (s : State) (h lane : Nat) (short : Bool),
      bit (s.usedLanes h) lane = false →
      Sys2Proof.Machine.exec (.laneFault h lane short) s = .next s) ∧
  (∀ (s : State) (h shorts opens : Nat),
      s.headOn h = true →
      Sys2Proof.Machine.exec (.downClr h shorts opens) s = .next (s.downClr h (shorts % 64) (opens % 64))) ∧
  (∀ (s : State) (h shorts opens : Nat),
      s.headOn h = true →
      bit (s.hport h).causes 3 = true →
      (shorts % 64 ||| opens % 64) &&& (s.onHport h (fun p => { p with clrReq := bit p.causes 5 })).usedLanes h = 0 →
      Sys2Proof.Machine.exec (.downClr h shorts opens) s = .next ((s.onHport h (fun p => { p with clrReq := bit p.causes 5 })).endCause h 3)) ∧
  (∀ (s : State) (h shorts opens : Nat),
      s.headOn h = true →
      bit (s.hport h).causes 3 = false →
      Sys2Proof.Machine.exec (.downClr h shorts opens) s = .next (s.onHport h (fun p => { p with clrReq := bit p.causes 5 })))

/-- A write with START while the bus is idle begins a transaction to DEV with WLEN bytes from the buffer. With SDA held
low after the nine clocks STUCK is set and no transaction runs. A START while BUSY is ignored, which sets
WRITE_IGNORED. A write without START begins nothing. The end of a transaction, with or without a NACK, is shown. A
transaction without a NACK stores the bytes read from byte 0 on, and sets DONE. A NACK ends the transaction, sets NACK
and DONE, and NBYTES counts the bytes acknowledged. A stretch beyond 25 ms ends the transaction, and sets TMO and
DONE. The model's own choices or readings, which no rule of the spec states, are: WRITE_IGNORED for a START while BUSY
(log entry 12); NBYTES is RLEN, else WLEN (log entry 25); the bytes of a transaction that fails (log entry 104). -/
def Obligations.HeadIdBus : Prop :=
  (∀ (s : State) (h : Nat) (ctl : Word),
      s.headOn h = true →
      fieldOf ctl 31 1 = 1 →
      (s.wr (HPT.I2C_CTL h) (ctl &&& 0x013F3F7F#32)).flag (HPT.I2C_STATUS.BUSY h) = false →
      Sys2Proof.Machine.exec (.i2cTransaction h ctl false) s = .next (((s.wr (HPT.I2C_CTL h) (ctl &&& 0x013F3F7F#32)).raise (HPT.I2C_STATUS.BUSY h)).onHport h (fun p => { p with
        i2cNow := some ((s.wr (HPT.I2C_CTL h) (ctl &&& 0x013F3F7F#32)).get (HPT.I2C_CTL.DEV h), ((List.range (min 32 ((s.wr (HPT.I2C_CTL h) (ctl &&& 0x013F3F7F#32)).get (HPT.I2C_CTL.WLEN h)))).map
          ((s.wr (HPT.I2C_CTL h) (ctl &&& 0x013F3F7F#32)).i2cByte h), min 32 ((s.wr (HPT.I2C_CTL h) (ctl &&& 0x013F3F7F#32)).get (HPT.I2C_CTL.RLEN h)))) }))) ∧
  (∀ (s : State) (h : Nat) (ctl : Word),
      s.headOn h = true →
      fieldOf ctl 31 1 = 1 →
      (s.wr (HPT.I2C_CTL h) (ctl &&& 0x013F3F7F#32)).flag (HPT.I2C_STATUS.BUSY h) = false →
      Sys2Proof.Machine.exec (.i2cTransaction h ctl true) s = .next ((s.wr (HPT.I2C_CTL h) (ctl &&& 0x013F3F7F#32)).raise (HPT.I2C_STATUS.STUCK h))) ∧
  (∀ (s : State) (h : Nat) (ctl : Word) (stuck : Bool),
      s.headOn h = true →
      fieldOf ctl 31 1 = 1 →
      (s.wr (HPT.I2C_CTL h) (ctl &&& 0x013F3F7F#32)).flag (HPT.I2C_STATUS.BUSY h) = true →
      Sys2Proof.Machine.exec (.i2cTransaction h ctl stuck) s = .next ((s.wr (HPT.I2C_CTL h) (ctl &&& 0x013F3F7F#32)).raise HPT.STATUS.WRITE_IGNORED)) ∧
  (∀ (s : State) (h : Nat) (ctl : Word) (stuck : Bool),
      s.headOn h = true →
      fieldOf ctl 31 1 = 0 →
      Sys2Proof.Machine.exec (.i2cTransaction h ctl stuck) s = .next (s.wr (HPT.I2C_CTL h) (ctl &&& 0x013F3F7F#32))) ∧
  (∀ (s : State) (h n : Nat) (nack : Bool) (read : List Nat),
      Sys2Proof.Machine.exec (.i2cDone h nack n read) s = .next (s.i2cEnd h false nack (min 255 n) (read.map (BitVec.ofNat 8)))) ∧
  (∀ (s : State) (h n dev rlen : Nat) (read : List Nat) (out : List Byte),
      (s.hport h).i2cNow = some (dev, (out, rlen)) →
      Sys2Proof.Machine.exec (.i2cDone h false n read) s = .next (((((s.onHport h (fun p => { p with i2cNow := none, i2cSent := p.i2cSent ++ [(dev, out)] })).drop (HPT.I2C_STATUS.BUSY h)).raise (HPT.I2C_STATUS.DONE h)).put (HPT.I2C_STATUS.NBYTES h)
        (if rlen ≠ 0 then rlen else out.length)).i2cStore h ((read.map (BitVec.ofNat 8)).take rlen))) ∧
  (∀ (s : State) (h n dev rlen : Nat) (read : List Nat) (out : List Byte),
      (s.hport h).i2cNow = some (dev, (out, rlen)) →
      Sys2Proof.Machine.exec (.i2cDone h true n read) s = .next (((((s.onHport h (fun p => { p with i2cNow := none, i2cSent := p.i2cSent ++ [(dev, out.take (min 255 n))] })).drop (HPT.I2C_STATUS.BUSY h)).raise (HPT.I2C_STATUS.DONE h)).put (HPT.I2C_STATUS.NBYTES h)
        (min 255 n)).raise (HPT.I2C_STATUS.NACK h))) ∧
  (∀ (s : State) (h n dev rlen : Nat) (out : List Byte),
      (s.hport h).i2cNow = some (dev, (out, rlen)) →
      Sys2Proof.Machine.exec (.i2cStretchTimeout h n) s = .next (((((s.onHport h (fun p => { p with i2cNow := none, i2cSent := p.i2cSent ++ [(dev, out.take (min 255 n))] })).drop (HPT.I2C_STATUS.BUSY h)).raise (HPT.I2C_STATUS.DONE h)).put (HPT.I2C_STATUS.NBYTES h)
        (min 255 n)).raise (HPT.I2C_STATUS.TMO h)))

/-- On an enabled QUAD axis accepted levels are decoded with the edge time, which lies FILT ticks before their acceptance.
On an enabled HALL axis likewise. An axis that does not decode only holds the levels. So does one in another mode,
whose sensor sends frames. A phase one ahead of the last is a step up. A phase one behind it is a step down. A phase
opposite to it is a skip. An enabled QUAD or HALL axis without a step for STOP_TMO shows STOPPED and speed 0. With
WIRE_EN set, used inputs below the threshold are lost, the speed window empties, and WIRE and AXIS_LOST are set and
reported. When every used input has been valid again the axis leaves wire loss with an empty window. SNAP.REQ captures
the latest valid sample of all four axes. EN of an axis with sound settings starts it, with an empty window, no valid
sample, and COUNT 0 in QUAD and HALL modes. With settings that break a condition EN is refused and reported. Clearing
EN of an axis that the fire engine does not use stops its decoder. Clearing EN of the axis that the fire engine uses
ends the running job as well. Every microsecond a tide source with a valid sample hands it to the fabric. Without
TIDE_CFG.EN nothing is handed over. At a period tick with SLO idle high a frame begins. With SLO low the frame fails
with cause 1. A BISS frame without a start bit within ACK_MAX fails with cause 2. A frame after which SLO does not
return high fails with cause 3. A frame that passes the CRC and signals no error gives a position. A wrong CRC fails
the frame with cause 4. An error bit fails the frame with cause 5. A step beyond MAX_STEP fails the frame with cause
6, and the new position is the reference. -/
def Obligations.AxisDecoding : Prop :=
  (∀ (s : State) (n l : Nat),
      n < 4 →
      (s.onAx n (fun x => { x with levels := l % 8 })).axOn n = true →
      (s.onAx n (fun x => { x with levels := l % 8 })).axMode n = 0 →
      Sys2Proof.Machine.exec (.inputAccepted n l) s = .next ((s.onAx n (fun x => { x with levels := l % 8 })).quadTick n (before s.time (s.get (POS.AX_CTL.FILT n))) ((s.onAx n (fun x => { x with levels := l % 8 })).axLevels n l))) ∧
  (∀ (s : State) (n l : Nat),
      n < 4 →
      (s.onAx n (fun x => { x with levels := l % 8 })).axOn n = true →
      (s.onAx n (fun x => { x with levels := l % 8 })).axMode n = 1 →
      Sys2Proof.Machine.exec (.inputAccepted n l) s = .next ((s.onAx n (fun x => { x with levels := l % 8 })).hallTick n (before s.time (s.get (POS.AX_CTL.FILT n))) (s.axLevels n (s.ax n).levels) ((s.onAx n (fun x => { x with levels := l % 8 })).axLevels n l))) ∧
  (∀ (s : State) (n l : Nat),
      n < 4 →
      (s.onAx n (fun x => { x with levels := l % 8 })).axOn n = false →
      Sys2Proof.Machine.exec (.inputAccepted n l) s = .next (s.onAx n (fun x => { x with levels := l % 8 }))) ∧
  (∀ (s : State) (n l : Nat),
      n < 4 →
      2 ≤ (s.onAx n (fun x => { x with levels := l % 8 })).axMode n →
      Sys2Proof.Machine.exec (.inputAccepted n l) s = .next (s.onAx n (fun x => { x with levels := l % 8 }))) ∧
  (∀ (s : State) (n t r : Nat) (v : Bool × (Bool × Bool)),
      (s.ax n).ref = some r →
      (quadPhase v.1 v.2.1 + 4 - r) % 4 = 1 →
      s.quadTick n t v = (s.onAx n (fun x => { x with ref := some (quadPhase v.1 v.2.1) })).axStep n t 1 (s.qualIndex n v)) ∧
  (∀ (s : State) (n t r : Nat) (v : Bool × (Bool × Bool)),
      (s.ax n).ref = some r →
      (quadPhase v.1 v.2.1 + 4 - r) % 4 = 3 →
      s.quadTick n t v = (s.onAx n (fun x => { x with ref := some (quadPhase v.1 v.2.1) })).axStep n t (-1) (s.qualIndex n v)) ∧
  (∀ (s : State) (n t r : Nat) (v : Bool × (Bool × Bool)),
      (s.ax n).ref = some r →
      (quadPhase v.1 v.2.1 + 4 - r) % 4 = 2 →
      s.quadTick n t v = ((s.onAx n (fun x => { x with ref := some (quadPhase v.1 v.2.1) })).axFault n t POS.SKIP_CNT.COUNT POS.AX_STATUS.SKIP Src.POS_SKIP (s.qualIndex n v)).encBreak n) ∧
  (∀ (s : State) (n : Nat),
      s.axOn n = true →
      s.axMode n < 2 →
      s.get (POS.RATE_CFG.STOP_TMO n) ≠ 0 →
      Sys2Proof.Machine.exec (.axisStopped n) s = .next ((s.raise (POS.AX_STATUS.STOPPED n)).wr (POS.SPEED n) 0#32)) ∧
  (∀ (s : State) (n mask : Nat),
      s.axOn n = true →
      s.flag (POS.AX_CTL.WIRE_EN n) = true →
      mask &&& s.axUsed n ≠ 0 →
      Sys2Proof.Machine.exec (.wireLoss n mask) s = .next (((((s.onAx n (fun x => { x with lost := x.lost ||| (mask &&& s.axUsed n) })).emptyWindow n).axReport n POS.AX_STATUS.WIRE Src.POS_WIRE
        (((s.onAx n (fun x => { x with lost := x.lost ||| (mask &&& s.axUsed n) })).emptyWindow n).ax n).lost).axReport n POS.AX_STATUS.AXIS_LOST Src.POS_AXIS_LOST 2).encBreak n)) ∧
  (∀ (s : State) (n : Nat),
      n < 4 →
      (s.ax n).lost ≠ 0 →
      Sys2Proof.Machine.exec (.wireRestore n) s = .next ((s.onAx n (fun x => { x with lost := 0 })).emptyWindow n)) ∧
  (∀ (s : State),
      Sys2Proof.Machine.exec .snapAll s = .next (s.each (List.range 4) (fun n t => t.snapAxis n))) ∧
  (∀ (s : State) (n : Nat),
      n < 4 →
      s.flag (POS.AX_CTL.EN n) = false →
      s.axRefusal n = none →
      (s.raise (POS.AX_CTL.EN n)).axOn n = true →
      Sys2Proof.Machine.exec (.axisEnable n) s = .next ((s.raise (POS.AX_CTL.EN n)).axStart n)) ∧
  (∀ (s : State) (n code : Nat),
      n < 4 →
      s.flag (POS.AX_CTL.EN n) = false →
      s.axRefusal n = some code →
      Sys2Proof.Machine.exec (.axisEnable n) s = .next ((s.raise POS.STATUS.CFG_ERR).report Src.POS_CFG n code)) ∧
  (∀ (s : State) (n : Nat),
      n < 4 →
      s.flag (POS.AX_CTL.EN n) = true →
      ((s.drop (POS.AX_CTL.EN n)).axStop n).get FIRE.CFG.AXIS ≠ n →
      Sys2Proof.Machine.exec (.axisDisable n) s = .next ((s.drop (POS.AX_CTL.EN n)).axStop n)) ∧
  (∀ (s : State) (n : Nat),
      n < 4 →
      s.flag (POS.AX_CTL.EN n) = true →
      ((s.drop (POS.AX_CTL.EN n)).axStop n).get FIRE.CFG.AXIS = n →
      Sys2Proof.Machine.exec (.axisDisable n) s = .next (((s.drop (POS.AX_CTL.EN n)).axStop n).abortRunning 12)) ∧
  (∀ (s : State),
      s.flag POS.TIDE_CFG.EN = true →
      s.get FAB.TIDE_CFG.SRC = s.nodeId →
      s.flag (POS.AX_STATUS.VALID (s.get POS.TIDE_CFG.AXIS)) = true →
      Sys2Proof.Machine.exec .tideHandoff s = .next s.handOff) ∧
  (∀ (s : State),
      s.flag POS.TIDE_CFG.EN = false →
      Sys2Proof.Machine.exec .tideHandoff s = .next s) ∧
  (∀ (s : State) (n : Nat) (slo : Bool),
      s.serialOn n = true →
      (s.ax n).frame = none →
      slo ≠ s.flag (POS.AX_CTL.INV_A n) →
      Sys2Proof.Machine.exec (.serialFrameStart n slo) s = .next (s.onAx n (fun x => { x with frame := some s.time }))) ∧
  (∀ (s : State) (n : Nat) (slo : Bool),
      s.serialOn n = true →
      (s.ax n).frame = none →
      slo = s.flag (POS.AX_CTL.INV_A n) →
      Sys2Proof.Machine.exec (.serialFrameStart n slo) s = .next (s.frameFail n 1)) ∧
  (∀ (s : State) (n : Nat),
      s.axOn n = true →
      s.axMode n = 3 →
      (s.ax n).frame.isSome = true →
      Sys2Proof.Machine.exec (.noack n) s = .next (s.frameFail n 2)) ∧
  (∀ (s : State) (n w d : Nat),
      s.serialOn n = true →
      (s.ax n).frame.isSome = true →
      Sys2Proof.Machine.exec (.serialTimeout n w d) s = .next ((s.keepRaw n w d).frameFail n 3)) ∧
  (∀ (s : State) (n w d t0 : Nat),
      s.serialOn n = true →
      (s.ax n).frame = some t0 →
      s.serCrcOk n (s.serBits n w) = true →
      s.serErrBit n (s.serBits n w) = false →
      Sys2Proof.Machine.exec (.serialFrameComplete n w d) s = .next ((s.keepRaw n w d).frameGood n t0 (s.serU n (s.serBits n w)))) ∧
  (∀ (s : State) (n w d t0 : Nat),
      s.serialOn n = true →
      (s.ax n).frame = some t0 →
      s.serCrcOk n (s.serBits n w) = false →
      Sys2Proof.Machine.exec (.serialFrameComplete n w d) s = .next ((s.keepRaw n w d).frameFail n 4)) ∧
  (∀ (s : State) (n w d t0 : Nat),
      s.serialOn n = true →
      (s.ax n).frame = some t0 →
      s.serCrcOk n (s.serBits n w) = true →
      s.serErrBit n (s.serBits n w) = true →
      Sys2Proof.Machine.exec (.serialFrameComplete n w d) s = .next ((s.keepRaw n w d).frameFail n 5)) ∧
  (∀ (s : State) (n t u p : Nat),
      (s.ax n).lost = 0 →
      (s.ax n).uPrev = some p →
      s.get (POS.SER_MAP.MAX_STEP n) < (signedOf (s.get (POS.SER_FRAME.POS_W n) - s.get (POS.SER_MAP.SHIFT n)) (u + 2 ^ (s.get (POS.SER_FRAME.POS_W n) - s.get (POS.SER_MAP.SHIFT n)) - p % 2 ^ (s.get (POS.SER_FRAME.POS_W n) - s.get (POS.SER_MAP.SHIFT n)))).natAbs →
      s.frameGood n t u = (((s.onAx n (fun y => { y with uPrev := some u })).frameFail n 6)))

/-- On a READY port a measurement shows its code and temperature, is checked against the limits, updates the heater loop,
and a channel whose trigger it is becomes pending. Without READY no measurement is made. While the loop may not run
the heater is off. A heater at DUTY_MAX for RISE_TMO without RISE_MIN is latched off and reported. A heater output
whose readback differs is latched off, driven high-impedance, and reported. A write of FORCE acts on the record of its
nozzle. With STATE_CLR the record becomes 0, the class counts follow, and the nozzle is a suspect no more. A FORCE
without CLR and STATE_CLR puts its class into the record of its nozzle. With CLR the override ends. STATE_CLR clears
the records of its head. A publish request pends. With AUTO_PUB, the time since the first uncounted change asks for a
publish. A publish that is requested, or that the count of changes asks for, begins once CTL.EN is set and no HEALTH
swap is pending. It clears CHG_CNT, sets PUB_BUSY, reads the live map and writes the inactive HEALTH copy. A publish
in progress requests the HEALTH swap, clears PUB_BUSY and is counted. With sound settings CTL.EN is set. Otherwise it
is refused and flagged, and reported unless the flag was set already. SENSE_EN with a sound NNOZ and SCAN_STEP starts
the scan at position 0. Otherwise it is refused and flagged, and reported unless the flag was set already. The four
die temperatures are shown, the elements whose trigger they are become pending, and a rebuild may be due. The model's
own choices or readings, which no rule of the spec states, are: every event of an engine is a command (log entry 9);
the rounding and order of sensing (log entry 35); a publish is two commands (log entry 96). -/
def Obligations.HeadCare : Prop :=
  (∀ (s : State) (h x : Nat),
      s.headOn h = true →
      s.flag (HPT.PSTATUS.READY h) = true →
      Sys2Proof.Machine.exec (.tempMeasure h x) s = .next ((((s.put (NH.TEMP.RAW h) (min 4095 x)).put (NH.TEMP.T h) (unsignedOf 16 (s.tempOf (min 4095 x)))).thermCheck h (min 4095 x)).heatLoop h).calTriggers) ∧
  (∀ (s : State) (h x : Nat),
      s.flag (HPT.PSTATUS.READY h) = false →
      Sys2Proof.Machine.exec (.tempMeasure h x) s = .next s) ∧
  (∀ (s : State) (h : Nat),
      s.loopRuns h = false →
      s.heatLoop h = (s.cooled h).heatOff h) ∧
  (∀ (s : State) (h : Nat) (t0 : Int),
      (s.nhh h).runT = some t0 →
      s.headOn h = true →
      s.loopRuns h = true →
      s.headTemp h - t0 < s.get (NH.RISE_CFG.RISE_MIN h) →
      Sys2Proof.Machine.exec (.noRise h) s = .next ((s.latchHeat h).reportOnce (NH.HSTAT.NO_RISE h) Src.NH_NO_RISE h ((s.latchHeat h).get (NH.TEMP.T h)))) ∧
  (∀ (s : State) (h : Nat),
      s.headOn h = true →
      s.flag (HPT.PSTATUS.READY h) = true →
      (s.nhh h).hiZ = false →
      Sys2Proof.Machine.exec (.htrFault h) s = .next (((s.latchHeat h).onNhh h (fun n => { n with hiZ := true })).reportOnce (NH.HSTAT.HTR_FAULT h) Src.NH_HTR_FAULT h 0)) ∧
  (∀ (s : State) (v : Word) (x : Access),
      Sys2Proof.Machine.exec (.forceClass v x) s = .next (s.forceRecord v x)) ∧
  (∀ (s : State) (v : Word) (x : Access),
      inSram (s.mapAddr (fieldOf v 0 16)) 4 = true →
      fieldOf v 30 1 = 1 →
      Sys2Proof.Machine.exec (.forceClass v x) s = .next ((((s.nhRead (s.mapAddr (fieldOf v 0 16)) x).1.nhWrite (s.mapAddr (fieldOf v 0 16)) 0#32 x).countClass (fieldOf v 0 16 / 4096)
        (recClass (s.nhRead (s.mapAddr (fieldOf v 0 16)) x).2) 0).suspect (fieldOf v 0 16 / 4096) (fieldOf v 0 16 % 4096) 0)) ∧
  (∀ (s : State) (v : Word) (x : Access),
      inSram (s.mapAddr (fieldOf v 0 16)) 4 = true →
      fieldOf v 30 1 = 0 →
      fieldOf v 31 1 = 0 →
      Sys2Proof.Machine.exec (.forceClass v x) s = .next (((((s.nhRead (s.mapAddr (fieldOf v 0 16)) x).1.nhWrite (s.mapAddr (fieldOf v 0 16)) (withField (withField (s.nhRead (s.mapAddr (fieldOf v 0 16)) x).2 15 1 1) 12 3 (fieldOf v 24 3)) x))))) ∧
  (∀ (s : State) (v : Word) (x : Access),
      inSram (s.mapAddr (fieldOf v 0 16)) 4 = true →
      fieldOf v 30 1 = 0 →
      fieldOf v 31 1 = 1 →
      Sys2Proof.Machine.exec (.forceClass v x) s = .next ((s.nhRead (s.mapAddr (fieldOf v 0 16)) x).1.nhWrite (s.mapAddr (fieldOf v 0 16)) (withField (s.nhRead (s.mapAddr (fieldOf v 0 16)) x).2 15 1 0) x)) ∧
  (∀ (s : State) (h : Nat),
      s.headOn h = true →
      Sys2Proof.Machine.exec (.stateClr h) s = .next (s.stateClr h)) ∧
  (∀ (s : State),
      Sys2Proof.Machine.exec .publishReq s = .next (s.onNh (fun n => { n with pubWait := true }))) ∧
  (∀ (s : State),
      s.flag NH.CTL.AUTO_PUB = true →
      s.get NH.PUB_CFG.PUB_TMO ≠ 0 →
      s.get NH.CHG_CNT.COUNT ≠ 0 →
      Sys2Proof.Machine.exec .pubTmo s = .next (s.onNh (fun n => { n with pubWait := true }))) ∧
  (∀ (s : State) (x : Access),
      s.flag NH.STATUS.PUB_BUSY = false →
      s.nh.pubWait = true ∨ s.chgReached = true →
      s.flag NH.CTL.EN = true →
      s.get ⟨SYS.TBL_SWAP, 0, 1⟩ = 0 →
      Sys2Proof.Machine.exec (.publish x) s = .next (s.publishBegin x)) ∧
  (∀ (s : State) (x : Access),
      s.publishBegin x = (let a := ((s.wr NH.CHG_CNT 0#32).raise NH.STATUS.PUB_BUSY).onNh (fun n => { n with pubWait := false, pubSwap := true })
        let b := (a.ramRead 13 (a.mapAddr 0) 0x40000 x).1
        (b.ramWrite 13 b.healthIdle b.healthBytes).1)) ∧
  (∀ (s : State) (x : Access),
      s.flag NH.STATUS.PUB_BUSY = true →
      Sys2Proof.Machine.exec (.publish x) s = .next (((s.requestSwap 1).drop NH.STATUS.PUB_BUSY).bump NH.PUB_CNT.COUNT)) ∧
  (∀ (s : State),
      s.flag NH.CTL.EN = false →
      s.nhFault = none →
      Sys2Proof.Machine.exec .nhEnable s = .next (s.raise NH.CTL.EN)) ∧
  (∀ (s : State) (c : Nat),
      s.flag NH.CTL.EN = false →
      s.nhFault = some c →
      Sys2Proof.Machine.exec .nhEnable s = .next (s.reportOnce NH.STATUS.CFG_ERR Src.NH_CFG 255 c)) ∧
  (∀ (s : State) (h : Nat),
      h < 16 →
      s.flag (NH.HCTL.SENSE_EN h) = false →
      s.senseFault h = none →
      Sys2Proof.Machine.exec (.senseEn h) s = .next (((s.raise (NH.HCTL.SENSE_EN h)).put (NH.SCAN.POS h) 0).onNhh h (fun n => { n with steps := 0 }))) ∧
  (∀ (s : State) (h c : Nat),
      h < 16 →
      s.flag (NH.HCTL.SENSE_EN h) = false →
      s.senseFault h = some c →
      Sys2Proof.Machine.exec (.senseEn h) s = .next (s.reportOnce NH.STATUS.CFG_ERR Src.NH_CFG h c)) ∧
  (∀ (s : State) (t0 t1 t2 t3 : Nat),
      Sys2Proof.Machine.exec (.dieTempSample t0 t1 t2 t3) s = .next ((((s.wr CAL.DIE_TEMP_01 (w32 (t1 % 2 ^ 16 * 2 ^ 16 + t0 % 2 ^ 16))).wr CAL.DIE_TEMP_23 (w32 (t3 % 2 ^ 16 * 2 ^ 16 + t2 % 2 ^ 16))).calTriggers).rebuildTemps))

/-- With CTL.EN set the oldest samples of the head are taken and analysed. Without samples nothing is analysed. With
CTL.EN clear they are dropped. Fewer than 8 samples give no result. An amplitude below AMP_ABS_DEAD is DEAD. Without a
captured baseline any other result is UNKNOWN. With a sound amplitude a residual without a period is CLOG. An UNKNOWN
result only marks the record as seen and declares nothing. A result equal to the class clears what pends. One equal to
the pending class counts on, to 15. Any other starts a count of its own. The model's own choices or readings, which no
rule of the spec states, are: results that come while NH.CTL.EN is 0 are dropped (log entry 35). -/
def Obligations.NozzleResults : Prop :=
  (∀ (s : State) (h : Nat) (x : Access) (k : Samples) (rest : List Samples),
      (s.nhh h).results = k :: rest →
      (s.onNhh h (fun n => { n with results := rest })).flag NH.CTL.EN = true →
      Sys2Proof.Machine.exec (.senseResult h x) s = .next ((s.onNhh h (fun n => { n with results := rest })).senseResult h k x)) ∧
  (∀ (s : State) (h : Nat) (x : Access),
      (s.nhh h).results = [] →
      Sys2Proof.Machine.exec (.senseResult h x) s = .next s) ∧
  (∀ (s : State) (h : Nat) (x : Access) (k : Samples) (rest : List Samples),
      (s.nhh h).results = k :: rest →
      (s.onNhh h (fun n => { n with results := rest })).flag NH.CTL.EN = false →
      Sys2Proof.Machine.exec (.senseResult h x) s = .next (s.onNhh h (fun n => { n with results := rest }))) ∧
  (∀ (s : State) (h : Nat) (x : Access) (k : Samples),
      (analyse k.vfb).m < 8 →
      s.senseResult h k x = s.countSkip h k.pos k.scan) ∧
  (∀ (c : SenseCfg) (f : Residual) (d ampB perB : Nat),
      f.amp < c.absDead →
      c.rawClass f d ampB perB = 5) ∧
  (∀ (c : SenseCfg) (f : Residual) (d ampB perB : Nat),
      c.absDead ≤ f.amp →
      ampB = 0 ∨ perB = 0 →
      c.rawClass f d ampB perB = 0) ∧
  (∀ (c : SenseCfg) (f : Residual) (d ampB perB : Nat),
      c.absDead ≤ f.amp →
      ampB ≠ 0 →
      perB ≠ 0 →
      fieldOf c.cls 16 8 ≤ c.ampRatio f d ampB →
      f.per = 0 →
      c.rawClass f d ampB perB = 3) ∧
  (∀ (c : SenseCfg) (w : Word) (f : Residual) (d ampB perB : Nat),
      c.recordStep w f d ampB perB 0 = (withField w 4 1 1, false)) ∧
  (∀ (w : Word) (r : Nat),
      r = recClass w →
      pendStep w r = (0, 0)) ∧
  (∀ (w : Word) (r : Nat),
      r ≠ recClass w →
      r = recPend w →
      pendStep w r = (r, min 15 (recCnt w + 1))) ∧
  (∀ (w : Word) (r : Nat),
      r ≠ recClass w →
      r ≠ recPend w →
      pendStep w r = (r, 1))

/-- A request of an element that exists makes it pending. A request of any other element is ignored, which WRITE_IGNORED
shows. With the lane free and a channel the next pending element, its run starts. With no element whose turn it is
nothing starts. A pending S channel whose turn it is, READY and outside the running and the armed job, takes the lane
and is held. A pending channel that is not READY is not run, and its result says so. A drive channel is held once its
takeover has settled. A pending delay path whose turn it is takes the lane. A pending encoder whose axis is enabled in
QUAD mode takes the lane. Any other axis is not ready. An encoder run without a complete window in time is aborted. A
pending baseline run with sensing on starts on the head lane. With sensing off it is not run, and its result says so.
All pending rail runs are one pass: the active RAIL copy is copied to the inactive one, the rails of each head are
assigned anew there, and the swap is requested. Without RAIL_OWN they are not ready. While no rail run pends, nothing
happens. A delay-path run ends with its candidates. A channel run that holds its channel ends with its measurements. A
baseline run that has resolved every position, or run out of passes, ends. An encoder run that has its windows ends
with its edges. While an export runs a run waits with its results. CTL.ABORT aborts the run of the measurement lane.
Without one nothing happens. After RETRY_TMO an element may start again. The model's own choices or readings, which no
rule of the spec states, are: the READY check comes first, and REQ of element 68 is ignored (log entry 36); the rail
pass with equal targets (log entry 40); results wait for the end of an export (log entry 92). -/
def Obligations.CalibrationRuns : Prop :=
  (∀ (s : State) (e : Nat),
      s.elemOk e = true →
      Sys2Proof.Machine.exec (.calReq e) s = .next (s.raise (pendFld e))) ∧
  (∀ (s : State) (e : Nat),
      s.elemOk e = false →
      Sys2Proof.Machine.exec (.calReq e) s = .next (s.raise CAL.STATUS.WRITE_IGNORED)) ∧
  (∀ (s : State) (e : Nat),
      s.cal.meas = none →
      s.nextElem = some e →
      e < 48 →
      Sys2Proof.Machine.exec .channelRun s = .next (s.startChannelRun e)) ∧
  (∀ (s : State),
      s.cal.meas = none →
      s.nextElem = none →
      Sys2Proof.Machine.exec .channelRun s = .next s) ∧
  (∀ (s : State) (e : Nat),
      s.cal.meas = none →
      s.nextElem = some e →
      32 ≤ e →
      e < 48 →
      (s.beginElem e).chReady e = true →
      (s.beginElem e).headInJob (headOf e) = false →
      Sys2Proof.Machine.exec .channelRun s = .next ((((s.beginElem e).takeLane e ((s.elemTemp e)) false)).holdChannel)) ∧
  (∀ (s : State) (e : Nat),
      s.cal.meas = none →
      s.nextElem = some e →
      e < 48 →
      (s.beginElem e).chReady e = false →
      Sys2Proof.Machine.exec .channelRun s = .next ((s.beginElem e).calNotReady e (s.elemTemp e))) ∧
  (∀ (s : State) (r : MeasRun),
      s.cal.meas = some r →
      r.elem < 32 →
      r.holds = false →
      s.flag (WFE.HEAD_STAT.SETTLED (headOf r.elem)) = true →
      Sys2Proof.Machine.exec .channelRun s = .next s.holdChannel) ∧
  (∀ (s : State) (e : Nat),
      s.nextElem = some e →
      48 ≤ e →
      e < 64 →
      Sys2Proof.Machine.exec .delayPathRun s = .next ((s.beginElem e).takeLane e (s.elemTemp e) true)) ∧
  (∀ (s : State) (e : Nat),
      s.nextElem = some e →
      64 ≤ e →
      s.axOn (e - 64) = true →
      s.axMode (e - 64) = 0 →
      Sys2Proof.Machine.exec .encoderRun s = .next ((s.beginElem e).takeLane e 0 true)) ∧
  (∀ (s : State) (e : Nat),
      s.nextElem = some e →
      64 ≤ e →
      s.axOn (e - 64) = false ∨ s.axMode (e - 64) ≠ 0 →
      Sys2Proof.Machine.exec .encoderRun s = .next ((s.beginElem e).calNotReady e 0)) ∧
  (∀ (s : State) (r : MeasRun),
      s.cal.meas = some r →
      64 ≤ r.elem →
      r.edges.length < s.encNeed →
      Sys2Proof.Machine.exec .encTmo s = .next (s.calAbortRun 0x25)) ∧
  (∀ (s : State) (h : Nat),
      s.headOn h = true →
      s.flag CAL.CTL.EN = true →
      s.flag (pendFld (80 + h)) = true →
      s.cal.retry.contains (80 + h) = false →
      s.runsNow (80 + h) = false →
      s.flag NH.CTL.EN = true →
      s.flag NH.CTL.SENSE_EN = true →
      s.flag (NH.HCTL.SENSE_EN h) = true →
      Sys2Proof.Machine.exec (.baselineRun h) s = .next ((s.onCal (fun c => { c with base := c.base ++ [{ head := h, tRun := s.elemTemp (80 + h), passes := s.get (NH.SCAN.PASSES h) }] })).syncHeadLane)) ∧
  (∀ (s : State) (h : Nat),
      s.headOn h = true →
      s.flag CAL.CTL.EN = true →
      s.flag (pendFld (80 + h)) = true →
      s.cal.retry.contains (80 + h) = false →
      s.runsNow (80 + h) = false →
      s.flag NH.CTL.EN = false ∨ s.flag NH.CTL.SENSE_EN = false ∨ s.flag (NH.HCTL.SENSE_EN h) = false →
      Sys2Proof.Machine.exec (.baselineRun h) s = .next (s.calNotReady (80 + h) (s.elemTemp (80 + h)))) ∧
  (∀ (s : State) (x : Access),
      s.flag CAL.CTL.EN = true →
      (List.range 16).filter (fun h => s.headOn h && s.flag (pendFld (96 + h)) && !s.cal.retry.contains (96 + h)) ≠ [] →
      s.flag CAL.CTL.RAIL_OWN = true →
      s.get ⟨SYS.TBL_SWAP, 2, 1⟩ = 0 →
      s.flag CAL.REC_STAT.BUSY = false →
      Sys2Proof.Machine.exec (.railRun x) s = .next ((((((s.ramRead calIssuer s.railBase 8192 x).1.ramWrite calIssuer s.railSpare (s.ramRead calIssuer s.railBase 8192 x).2.2 x).1).each
        ((List.range 16).filter (fun h => s.headOn h && s.flag (pendFld (96 + h)) && !s.cal.retry.contains (96 + h))) (fun h t => t.railHead x s.railSpare h)).requestSwap 4))) ∧
  (∀ (s : State) (x : Access),
      s.flag CAL.CTL.EN = true →
      s.flag CAL.CTL.RAIL_OWN = false →
      (List.range 16).filter (fun h => s.headOn h && s.flag (pendFld (96 + h)) && !s.cal.retry.contains (96 + h)) ≠ [] →
      Sys2Proof.Machine.exec (.railRun x) s = .next (s.each ((List.range 16).filter (fun h => s.headOn h && s.flag (pendFld (96 + h)) && !s.cal.retry.contains (96 + h)))
        (fun h t => t.calNotReady (96 + h) (t.elemTemp (96 + h))))) ∧
  (∀ (s : State) (x : Access),
      (List.range 16).filter (fun h => s.headOn h && s.flag (pendFld (96 + h)) && !s.cal.retry.contains (96 + h)) = [] →
      Sys2Proof.Machine.exec (.railRun x) s = .next s) ∧
  (∀ (s : State) (e : Nat) (d : CalMeas) (r : MeasRun),
      48 ≤ e →
      e < 64 →
      s.cal.meas = some r →
      r.elem = e →
      s.flag CAL.REC_STAT.BUSY = false →
      Sys2Proof.Machine.exec (.runComplete e d) s = .next (s.endDelayRun e r.tRun d)) ∧
  (∀ (s : State) (e : Nat) (d : CalMeas) (r : MeasRun),
      e < 48 →
      s.cal.meas = some r →
      r.elem = e →
      r.holds = true →
      s.flag CAL.REC_STAT.BUSY = false →
      Sys2Proof.Machine.exec (.runComplete e d) s = .next (s.endChannelRun e r.tRun d)) ∧
  (∀ (s : State) (e : Nat) (d : CalMeas) (b : BaseRun),
      80 ≤ e →
      s.cal.base.find? (fun b => 80 + b.head == e) = some b →
      s.baseOver b = true →
      s.flag CAL.REC_STAT.BUSY = false →
      Sys2Proof.Machine.exec (.runComplete e d) s = .next (s.endBaseRun b)) ∧
  (∀ (s : State) (e : Nat) (d : CalMeas) (r : MeasRun),
      64 ≤ e →
      e < 80 →
      s.cal.meas = some r →
      r.elem = e →
      s.encNeed ≤ r.edges.length →
      s.flag CAL.REC_STAT.BUSY = false →
      Sys2Proof.Machine.exec (.runComplete e d) s = .next (s.endEncoderRun e r.edges)) ∧
  (∀ (s : State) (e : Nat) (d : CalMeas),
      s.flag CAL.REC_STAT.BUSY = true →
      Sys2Proof.Machine.exec (.runComplete e d) s = .next s) ∧
  (∀ (s : State),
      Sys2Proof.Machine.exec .ctlAbort s = .next (s.calAbortBy 0x26)) ∧
  (∀ (s : State),
      s.cal.meas = none →
      Sys2Proof.Machine.exec .ctlAbort s = .next s) ∧
  (∀ (s : State) (e : Nat),
      Sys2Proof.Machine.exec (.retryTmo e) s = .next (s.onCal (fun c => { c with retry := c.retry.filter (· != e) })))

/-- RECALC makes a rebuild due. A rebuild that is due, with no CAL swap pending, derives every live entry at the present
temperatures into the inactive copy and requests the swap. When none is due nothing happens. EXPORT writes the record
with its CRC-32 at REC_BASE, shows its length, and is BUSY. While one is BUSY another starts none. IMPORT reads a
record and checks it: the first failed check refuses it with its code, a sound record is loaded. A record without its
mark or of another version is refused with code 1. A sound record of this device is refused with code 6 while CAL is
enabled. The model's own choices or readings, which no rule of the spec states, are: a rebuild is not gated by CTL.EN
(log entry 39); a second EXPORT starts none (log entry 92). -/
def Obligations.LiveTables : Prop :=
  (∀ (s : State),
      Sys2Proof.Machine.exec .recalc s = .next ((s.onCal (fun c => { c with rebuild := true })).raise CAL.STATUS.REBUILD)) ∧
  (∀ (s : State) (x : Access),
      s.cal.rebuild = true →
      s.get ⟨SYS.TBL_SWAP, 3, 1⟩ = 0 →
      Sys2Proof.Machine.exec (.rebuild x) s = .next ((((((s.each (List.range 69) (fun e t =>
        (t.ramWriteWords calIssuer (s.liveAddr (1 - s.get CAL.LIVE_ACTIVE.COPY) e) (s.derive e (signedOf 16 (s.elemTemp e))) x).1)).onCal (fun c => { c with rebuild := false })).drop CAL.STATUS.REBUILD).requestSwap 8)))) ∧
  (∀ (s : State) (x : Access),
      s.cal.rebuild = false →
      Sys2Proof.Machine.exec (.rebuild x) s = .next s) ∧
  (∀ (s : State) (x : Access),
      s.flag CAL.REC_STAT.BUSY = false →
      Sys2Proof.Machine.exec (.calExport x) s = .next ((((((s.recordBody x).1.ramWrite calIssuer s.recBase ((s.recordBody x).2 ++ natBytes 4 (crc32 (s.recordBody x).2)) x).1).put CAL.REC_LEN.BYTES ((s.recordBody x).2.length + 4)).raise CAL.REC_STAT.BUSY))) ∧
  (∀ (s : State) (x : Access),
      s.flag CAL.REC_STAT.BUSY = true →
      Sys2Proof.Machine.exec (.calExport x) s = .next s) ∧
  (∀ (s : State) (x : Access),
      Sys2Proof.Machine.exec (.calImport x) s = .next (match (s.importRead x).1.importFault (s.importRead x).2.1 (s.importRead x).2.2 with
        | some code => (s.importRead x).1.importRefuse code
        | none => (s.importRead x).1.importTake (s.importRead x).2.1 (s.importRead x).2.2 x)) ∧
  (∀ (s : State) (w : List Word) (l : List Byte),
      wf w 0 16 16 ≠ 0x4352 ∨ wf w 0 8 8 ≠ 1 →
      s.importFault w l = some 1) ∧
  (∀ (s : State) (w : List Word) (l : List Byte),
      wf w 0 16 16 = 0x4352 →
      wf w 0 8 8 = 1 →
      (wordAt w 2).toNat = recordLen (wf w 0 0 1 == 1) (wf w 0 1 1 == 1) →
      crc32 (l.take ((wordAt w 2).toNat - 4)) = bytesNat ((l.drop ((wordAt w 2).toNat - 4)).take 4) →
      wordAt w 3 = s.rd FAB.IDENT_LO →
      wordAt w 4 = s.rd FAB.IDENT_HI →
      wordAt w 10 &&& 0xFFFF00FF#32 = s.partWord →
      wordAt w 1 ≠ 0#32 →
      wordAt w 1 ≠ 0xFFFFFFFF#32 →
      s.flag CAL.CTL.EN = true →
      s.importFault w l = some 6)

/-- GET_ID answers the ROM and firmware identification, 0 in the ROM, the device identity, LOG_CNT and PARAM_VER.
GET_STATUS answers the status word and the operating time. READ_TOTALS brings the volumes up to date, answers the
record of the totals with its MAC, and uses the next RSEQ. Without K_REC it answers KEY_ABSENT. READ_EVENT answers the
record of an event that is held. READ_PARAMS answers the block in force. LOAD_BEGIN of 1 to 61,440 bytes starts a load
in the ROM. LOAD_CHUNK at the next offset adds its words. LOAD_END of a complete image whose SHA-256 is the highest
written FW_DIGEST runs it. After a restricted start it answers FW_BAD. CHALLENGE answers a fresh nonce, whose value is
free (log entry 1), while authorisation is not locked. While it is locked it answers AUTH_LOCK. PARAM_LOAD of a block
with the mark, the MAC, the identity and the LOG_CNT of this device takes it into force, in the state it was issued
in. An authorised SET_PARAMS within the ranges is logged, puts the set into force, clears the continuity flags, and
answers the new block. An authorised SEAL in UNSEALED or BROKEN, with SEAL_BRK not asserted, is logged and makes the
state SEALED. An authorised ADD_FW with a free slot is logged and its digest programmed into the next slot. Without
the right authorisation it changes no parameter. The model's own choices or readings, which no rule of the spec
states, are: PARAM_LOAD in every firmware state, and the order of checks (log entry 41); ADD_FW logs first and then
burns, and MAC words are little-endian (log entry 42). -/
def Obligations.WeirMailbox : Prop :=
  (∀ (s : State) (c : Nat) (q : WeirReq) (f : Bool),
      s.weirReady c 0x01 f q →
      Sys2Proof.Machine.exec (.getId c) s = .next ((s.taken q).answered c q 0 ([Config.weirRom ()] ++ (if f then [s.weir.swVer, s.swChk] ++ bytesWords 8 s.weir.digest else List.replicate 10 0#32) ++ s.weirIdent ++ [w32 s.logCnt, s.paramVer]))) ∧
  (∀ (s : State) (c : Nat) (q : WeirReq) (f : Bool),
      s.weirReady c 0x02 f q →
      Sys2Proof.Machine.exec (.getStatus c) s = .next ((s.taken q).answered c q 0 [(s.taken q).syncWeir.rd WEIRMB.WSTAT, w32 s.opTime, w32 (s.opTime / 2 ^ 32)])) ∧
  (∀ (s : State) (c : Nat) (q : WeirReq) (f : Bool) (key : List Byte),
      s.weirReady c 0x03 f q →
      s.keyRec = some key →
      Sys2Proof.Machine.exec (.readTotals c) s = .next ((((((s.taken q).when (s.taken q).weir.block.isSome (·.volUpdate)).bumpRseq).onCistern (fun w => { w with
          seenLost := false, seenDrift := false, seenSkip := false, seenTapErr := false, seenOsc := false }))).answered c q 0 (((s.taken q).when (s.taken q).weir.block.isSome (·.volUpdate)).totalsBody (q.words.drop 1) ++ macWords key (((s.taken q).when (s.taken q).weir.block.isSome (·.volUpdate)).totalsBody (q.words.drop 1))))) ∧
  (∀ (s : State) (c : Nat) (q : WeirReq) (f : Bool),
      s.weirReady c 0x03 f q →
      s.keyRec = none →
      Sys2Proof.Machine.exec (.readTotals c) s = .next ((s.taken q).answered c q 13 [])) ∧
  (∀ (s : State) (c : Nat) (q : WeirReq) (e : WeirEvent),
      s.weirReady c 0x04 true q →
      s.weir.cistern.events.find? (fun e => e.cnt == wf q.words 1 0 11) = some e →
      Sys2Proof.Machine.exec (.readEvent c) s = .next ((s.taken q).answered c q 0 e.words)) ∧
  (∀ (s : State) (c : Nat) (q : WeirReq) (b : List Word),
      s.weirReady c 0x05 true q →
      s.weir.block = some b →
      Sys2Proof.Machine.exec (.readParams c) s = .next ((s.taken q).answered c q 0 b)) ∧
  (∀ (s : State) (c : Nat) (q : WeirReq),
      s.weirReady c 0x10 false q →
      1 ≤ (wordAt q.words 1).toNat →
      (wordAt q.words 1).toNat ≤ 61440 →
      Sys2Proof.Machine.exec (.loadBegin c) s = .next (((s.taken q).onWeir (fun w => { w with load := some { len := (wordAt q.words 1).toNat } })).answered c q 0 [])) ∧
  (∀ (s : State) (c : Nat) (q : WeirReq) (l : WeirLoad),
      s.weirReady c 0x11 false q →
      s.weir.load = some l →
      (wordAt q.words 1).toNat = l.bytes.length →
      (l.bytes ++ wordsBytes (q.words.drop 2)).length ≤ (l.len + 3) / 4 * 4 →
      Sys2Proof.Machine.exec (.loadChunk c) s = .next (((s.taken q).onWeir (fun w => { w with load := some { l with bytes := l.bytes ++ wordsBytes (q.words.drop 2) } })).answered c q 0 [])) ∧
  (∀ (s : State) (c : Nat) (q : WeirReq) (l : WeirLoad),
      s.weirReady c 0x12 false q →
      s.weir.load = some l →
      l.len ≤ l.bytes.length →
      s.weir.restricted = false →
      s.fwDigest = some (sha256 (l.bytes.take l.len)) →
      Sys2Proof.Machine.exec (.loadEnd c) s = .next (((((s.taken q).onWeir (fun w => { w with load := none })).setWeirState 0).onWeir (fun w => { w with
          fw := true, swVer := wordAt (bytesWords 2 (l.bytes.take l.len)) 1, digest := sha256 (l.bytes.take l.len) })).answered c q 0 [])) ∧
  (∀ (s : State) (c : Nat) (q : WeirReq),
      s.weirReady c 0x12 false q →
      s.weir.restricted = true →
      Sys2Proof.Machine.exec (.loadEnd c) s = .next (((s.taken q).onWeir (fun w => { w with load := none })).answered c q 11 [])) ∧
  (∀ (s : State) (c : Nat) (q : WeirReq),
      s.weirReady c 0x20 true q →
      s.weir.cistern.locked = false →
      Sys2Proof.Machine.exec (.challenge c) s = .next ((((s.taken q).draw).onWeir (fun w => { w with nonce := some ((List.range 4).map (Config.nonce s.fresh), s.opTicks) })).answered c q 0 ((List.range 4).map (Config.nonce s.fresh)))) ∧
  (∀ (s : State) (c : Nat) (q : WeirReq),
      s.weirReady c 0x20 true q →
      s.weir.cistern.locked = true →
      Sys2Proof.Machine.exec (.challenge c) s = .next ((s.taken q).answered c q 14 [])) ∧
  (∀ (s : State) (c : Nat) (q : WeirReq) (key : List Byte),
      s.weirReady c 0x21 true q →
      s.keyRec = some key →
      wf (q.words.drop 1) 0 16 16 = 0x5750 →
      wf (q.words.drop 1) 0 8 8 = 1 →
      macWords key ((q.words.drop 1).take 40) = (q.words.drop 1).drop 40 →
      [wordAt (q.words.drop 1) 2, wordAt (q.words.drop 1) 3] = s.weirIdent →
      wf (q.words.drop 1) 1 0 11 = s.logCnt →
      Sys2Proof.Machine.exec (.paramLoad c) s = .next (((((s.taken q).when (s.taken q).weir.block.isSome (·.volUpdate)).onWeir (fun w => { w with block := some (q.words.drop 1) })).setWeirState (wf (q.words.drop 1) 0 0 2 + 1)).answered c q 0 [])) ∧
  (∀ (s : State) (c : Nat) (q : WeirReq) (burn : List (Nat × Nat)),
      s.weirReady c 0x22 true q →
      ((s.taken q).authCheck q.words).2 = 0 →
      paramBad ((q.words.drop 1).take 36) = false →
      ((((s.taken q).authCheck q.words).1.when ((s.taken q).authCheck q.words).1.weir.block.isSome (·.volUpdate)).logEvent 1 burn (setParamsAct ((q.words.drop 1).take 36))).2 = 0 →
      Sys2Proof.Machine.exec (.setParams c burn) s = .next ((((((s.taken q).authCheck q.words).1.when ((s.taken q).authCheck q.words).1.weir.block.isSome (·.volUpdate)).logEvent 1 burn (setParamsAct ((q.words.drop 1).take 36))).1).answered c q 0 ((((((s.taken q).authCheck q.words).1.when ((s.taken q).authCheck q.words).1.weir.block.isSome (·.volUpdate)).logEvent 1 burn (setParamsAct ((q.words.drop 1).take 36))).1.weir.block.getD [])))) ∧
  (∀ (s : State) (c : Nat) (q : WeirReq) (burn : List (Nat × Nat)),
      s.weirReady c 0x23 true q →
      ((s.taken q).authCheck q.words).2 = 0 →
      ((s.taken q).authCheck q.words).1.weir.st = 1 ∨ ((s.taken q).authCheck q.words).1.weir.st = 3 →
      (((s.taken q).authCheck q.words).1.logEvent 2 burn (fun u => (u.setWeirState 2).onCistern (fun x => { x with contFlag := false, gapFlag := false }))).2 = 0 →
      Sys2Proof.Machine.exec (.sealWeir c false burn) s = .next (((((s.taken q).authCheck q.words).1.logEvent 2 burn (fun u => (u.setWeirState 2).onCistern (fun x => { x with contFlag := false, gapFlag := false }))).1).answered c q 0 ((((s.taken q).authCheck q.words).1.logEvent 2 burn (fun u => (u.setWeirState 2).onCistern (fun x => { x with contFlag := false, gapFlag := false }))).1.weir.block.getD []))) ∧
  (∀ (s : State) (c : Nat) (q : WeirReq) (burn slot : List (Nat × Nat)),
      s.weirReady c 0x24 true q →
      ((s.taken q).authCheck q.words).2 = 0 →
      ((s.taken q).authCheck q.words).1.nextSlot < 4 →
      (((s.taken q).authCheck q.words).1.logEvent 6 burn id).2 = 0 →
      ((((s.taken q).authCheck q.words).1.logEvent 6 burn id).1.burnBits ((((s.taken q).authCheck q.words).1.logEvent 6 burn id).1.slotBits ((s.taken q).authCheck q.words).1.nextSlot q.words) slot 0).2.1 = none →
      Sys2Proof.Machine.exec (.addFw c burn slot) s = .next (((((((s.taken q).authCheck q.words).1.logEvent 6 burn id).1.burnBits ((((s.taken q).authCheck q.words).1.logEvent 6 burn id).1.slotBits ((s.taken q).authCheck q.words).1.nextSlot q.words) slot 0)).1).answered c q 0 [])) ∧
  (∀ (s : State) (c : Nat) (q : WeirReq) (burn : List (Nat × Nat)),
      s.weirReady c 0x22 true q →
      ((s.taken q).authCheck q.words).2 ≠ 0 →
      Sys2Proof.Machine.exec (.setParams c burn) s = .next ((((s.taken q).authCheck q.words).1).answered c q ((s.taken q).authCheck q.words).2 []))

/-- When VDD_WEIR comes, the Weir starts in the ROM: a cistern that was kept goes on, a lost one starts cleared with its
continuity latch and flag set; a log behind the cistern or a region that failed its check makes the state INVALID, and
the cistern keeps the larger count; a standing tamper latch sets the breach latch with TAMPER_LINK (entry 93); without
its crystal it starts on its own oscillator, and the flag of it is noted. A Weir that is up is not started again.
Without VDD_WEIR the Weir stops, its requests, load, nonce and parameters are gone, and the cistern stays with the
operating time so far; the fuse pulses of an event in progress that it cuts short leave a free value. The core supply
without VDD_WEIR sets the tap-gap latch and flag in the cistern. With VDD_WEIR present it sets nothing. After 60 s of
operating time the authorisation lock opens and its count of failures clears. Without VDD_WEIR, before the start, or
with no input named, nothing is lost. A tap word that arrives while VDD_WEIR is absent is lost. A tap word that
arrives with odd parity, the bits that the link has turned counted, or of a head that is not there, counts as an error
and adds no drops. A tap word of even parity for a certified Weir adds its three drop counts, as they arrive, to the
head it names. Each millisecond with firmware and parameters the volumes are brought up to date and HEARTBEAT counts.
Without firmware HEARTBEAT stands, and without parameters the volumes. A volume grows by the new drops of each of its
head's three entries times the volume of one of its drops. SEAL_BRK high for 10 µs sets the breach latch. WX inputs
below the threshold are lost, and the index distance is forgotten. They count again when all have been valid. A step
while WX is lost counts nothing. A step of A and B in the forward direction is a forward step, and a rise of Z with it
is an index. A step the other way is a reverse step, whose Z is no index. A change of both is a skip. A rise of Z
alone is an index when the last step was forward. While certified, a forward step past the furthest position adds its
length to the total. While no latch can be handled nothing happens. A lost continuity is logged first and its latch
clears. Then a tap gap. Then a breach of a SEALED Weir, which becomes BROKEN. A breach of a Weir that is not sealed
only clears. The model's own choices or readings, which no rule of the spec states, are: fuses of a pulse that is cut
(log entry 1); HEARTBEAT counts VOL_UPDATE (log entry 42); a rise of Z alone, and a tamper latch that stands at the
start (log entry 93). -/
def Obligations.WeirCounts : Prop :=
  (∀ (s : State) (kept : Bool),
      s.weir.up = false →
      ∃ t, Sys2Proof.Machine.exec (.weirPor kept) s = .next t ∧
        (t.weir.up = true ∧ t.weir.vdd = true ∧ t.weir.fw = false ∧
          t.weir.cistern = (let c : Cistern := if kept then s.weir.cistern else { contLost := true, contFlag := true }
            { c with
              logCnt := if kept && decide (s.logCnt < c.logCnt) then c.logCnt else s.logCnt
              breach := c.breach || (t.tamperLink && s.flag PMU.TAMPER.LATCH)
              seenOsc := c.seenOsc || s.weir.noXtal }) ∧
          t.weir.oscFallback = s.weir.noXtal ∧
          t.weir.st = (if (kept && decide (s.logCnt < s.weir.cistern.logCnt)) || s.otp.weirBad then 4 else 0))) ∧
  (∀ (s : State) (kept : Bool),
      s.weir.up = true →
      Sys2Proof.Machine.exec (.weirPor kept) s = .next s) ∧
  (∀ (s : State),
      Sys2Proof.Machine.exec .vddWeirLoss s = .next (let z := s.when (s.latchLogs || s.eventReq.isSome) (·.cutEvent)
        ((z.onCistern (fun c => { c with opTicks := s.opTicks })).onWeir (fun w => { w with
          vdd := false, up := false, fw := false, reqs := [], load := none, nonce := none, block := none, st := 0 })).syncWeir)) ∧
  (∀ (s : State),
      s.weir.vdd = false →
      Sys2Proof.Machine.exec .tapGap s = .next (s.onCistern (fun c => { c with tapGap := true, gapFlag := true }))) ∧
  (∀ (s : State),
      s.weir.vdd = true →
      Sys2Proof.Machine.exec .tapGap s = .next s) ∧
  (∀ (s : State),
      s.weir.cistern.locked = true →
      Sys2Proof.Machine.exec .authLockExpiry s = .next (s.onCistern (fun c => { c with locked := false, authFails := 0 }))) ∧
  (∀ (s : State) (mask : Nat),
      s.weir.vdd = false ∨ s.weir.up = false ∨ mask % 8 = 0 →
      Sys2Proof.Machine.exec (.wxLost mask) s = .next s) ∧
  (∀ (s : State) (flip : Nat),
      s.weir.vdd = false →
      Sys2Proof.Machine.exec (.tapWordReceived flip) s = .next { s with tap := s.tap.drop 1 }) ∧
  (∀ (s : State) (flip : Nat) (x : Prod Word Word) (r : List (Prod Word Word)) (a b : Nat),
      s.weir.vdd = true →
      s.weir.up = true →
      s.tap = x :: r →
      a = x.1.toNat ^^^ flip % 2 ^ 32 →
      b = x.2.toNat ^^^ (flip / 2 ^ 32 % 2 ^ 32) →
      parity64 (a + 2 ^ 32 * b) = 1 ∨ s.headOn (fieldOf (w32 a) 28 4) = false →
      Sys2Proof.Machine.exec (.tapWordReceived flip) s = .next (({ s with tap := r } : State).onCistern (fun c => { c with tapErr := c.tapErr + 1, seenTapErr := true }))) ∧
  (∀ (s : State) (flip : Nat) (x : Prod Word Word) (r : List (Prod Word Word)) (a b : Nat),
      s.weir.vdd = true →
      s.weir.up = true →
      s.tap = x :: r →
      a = x.1.toNat ^^^ flip % 2 ^ 32 →
      b = x.2.toNat ^^^ (flip / 2 ^ 32 % 2 ^ 32) →
      parity64 (a + 2 ^ 32 * b) = 0 →
      s.headOn (fieldOf (w32 a) 28 4) = true →
      s.weirValid = true →
      ∃ t, Sys2Proof.Machine.exec (.tapWordReceived flip) s = .next t ∧
        ((∀ i, i < 48 → t.weir.cistern.drops.getD i 0 = s.weir.cistern.drops.getD i 0 + (if i / 3 = fieldOf (w32 a) 28 4 then
            [fieldOf (w32 a) 0 13, fieldOf (w32 a) 13 13, fieldOf (w32 b) 0 13].getD (i % 3) 0 else 0)) ∧
          t.weir.cistern.tapWords = s.weir.cistern.tapWords + 1 ∧ t.weir.cistern.uncertDrops = s.weir.cistern.uncertDrops ∧
          t.regs = s.regs ∧ t.tap = r)) ∧
  (∀ (s : State),
      s.weir.vdd = true →
      s.weir.up = true →
      s.weir.fw = true →
      s.weir.block.isSome = true →
      Sys2Proof.Machine.exec .volUpdate s = .next (s.volUpdate.bump WEIRMB.HEARTBEAT.COUNT)) ∧
  (∀ (s : State),
      Sys2Proof.Machine.exec .volUpdate s = .next (s.when (s.weir.vdd && s.weir.up) (fun t => (t.when t.weir.block.isSome (·.volUpdate)).when t.weir.fw (·.bump WEIRMB.HEARTBEAT.COUNT)))) ∧
  (∀ (s : State),
      ∀ h, h < 16 → (s.volUpdate).weir.cistern.vol.getD h 0 = s.weir.cistern.vol.getD h 0 +
        ((s.weir.cistern.drops.getD (3 * h) 0 - s.weir.cistern.done.getD (3 * h) 0) * s.dvol (3 * h)
          + (s.weir.cistern.drops.getD (3 * h + 1) 0 - s.weir.cistern.done.getD (3 * h + 1) 0) * s.dvol (3 * h + 1)
          + (s.weir.cistern.drops.getD (3 * h + 2) 0 - s.weir.cistern.done.getD (3 * h + 2) 0) * s.dvol (3 * h + 2))) ∧
  (∀ (s : State),
      Sys2Proof.Machine.exec .sealBreach s = .next ((s.onCistern (fun c => { c with breach := true })).when s.weir.vdd (·.syncWeir))) ∧
  (∀ (s : State) (mask : Nat),
      s.weir.vdd = true →
      s.weir.up = true →
      mask % 8 ≠ 0 →
      Sys2Proof.Machine.exec (.wxLost mask) s = .next (((s.onWeir (fun w => { w with wxLost := w.wxLost ||| mask % 8, wxIdx := none })).onCistern (fun c => { c with seenLost := true })).syncWeir)) ∧
  (∀ (s : State),
      s.weir.vdd = true →
      s.weir.up = true →
      Sys2Proof.Machine.exec .wxRestore s = .next ((s.onWeir (fun w => { w with wxLost := 0 })).syncWeir)) ∧
  (∀ (s : State) (l : Nat),
      s.weir.vdd = true →
      s.weir.up = true →
      s.weir.wxLost ≠ 0 →
      Sys2Proof.Machine.exec (.wxStep l) s = .next (s.onWeir (fun w => { w with wx := l % 8 }))) ∧
  (∀ (s : State) (l : Nat),
      s.weir.vdd = true →
      s.weir.up = true →
      s.weir.wxLost = 0 →
      (s.wxPhase l + 4 - s.wxPhase s.weir.wx) % 4 = (if fieldOf (s.param 4) 31 1 = 0 then 1 else 3) →
      Sys2Proof.Machine.exec (.wxStep l) s = .next ((((s.onWeir (fun w => { w with wx := l % 8 })).wxForward).when (bit l 2 && !bit s.weir.wx 2) (·.wxIndex)).syncWeir)) ∧
  (∀ (s : State) (l : Nat),
      s.weir.vdd = true →
      s.weir.up = true →
      s.weir.wxLost = 0 →
      (s.wxPhase l + 4 - s.wxPhase s.weir.wx) % 4 = (if fieldOf (s.param 4) 31 1 = 0 then 3 else 1) →
      Sys2Proof.Machine.exec (.wxStep l) s = .next (((s.onWeir (fun w => { w with wx := l % 8 })).wxBack).syncWeir)) ∧
  (∀ (s : State) (l : Nat),
      s.weir.vdd = true →
      s.weir.up = true →
      s.weir.wxLost = 0 →
      (s.wxPhase l + 4 - s.wxPhase s.weir.wx) % 4 = 2 →
      Sys2Proof.Machine.exec (.wxStep l) s = .next ((((s.onWeir (fun w => { w with wx := l % 8 })).onCistern (fun c => { c with wxSkip := c.wxSkip + 1, seenSkip := true })).when (bit l 2 && !bit s.weir.wx 2 && s.weir.wxFwd) (·.wxIndex)).syncWeir)) ∧
  (∀ (s : State) (l : Nat),
      s.weir.vdd = true →
      s.weir.up = true →
      s.weir.wxLost = 0 →
      (s.wxPhase l + 4 - s.wxPhase s.weir.wx) % 4 = 0 →
      Sys2Proof.Machine.exec (.wxStep l) s = .next (((s.onWeir (fun w => { w with wx := l % 8 })).when (bit l 2 && !bit s.weir.wx 2 && s.weir.wxFwd) (·.wxIndex)).syncWeir)) ∧
  (∀ (s : State),
      s.weirValid = true →
      s.weir.whw ≤ s.weir.wxPos →
      (s.wxForward).weir.cistern.lenTotal = s.weir.cistern.lenTotal + (s.param 5).toNat ∧ (s.wxForward).weir.whw = s.weir.wxPos + 1) ∧
  (∀ (s : State) (burn : List Burn),
      s.latchDue = false →
      Sys2Proof.Machine.exec (.latchHandling burn) s = .next s) ∧
  (∀ (s : State) (burn : List Burn),
      s.latchDue = true →
      s.weir.cistern.contLost = true →
      Sys2Proof.Machine.exec (.latchHandling burn) s = .next ((s.autoEvent 4 burn (·.onCistern (fun x => { x with contLost := false }))).syncWeir)) ∧
  (∀ (s : State) (burn : List Burn),
      s.latchDue = true →
      s.weir.cistern.contLost = false →
      s.weir.cistern.tapGap = true →
      Sys2Proof.Machine.exec (.latchHandling burn) s = .next ((s.autoEvent 5 burn (·.onCistern (fun x => { x with tapGap := false }))).syncWeir)) ∧
  (∀ (s : State) (burn : List Burn),
      s.latchDue = true →
      s.weir.cistern.contLost = false →
      s.weir.cistern.tapGap = false →
      s.weir.st = 2 →
      Sys2Proof.Machine.exec (.latchHandling burn) s = .next ((s.autoEvent 3 burn (fun t => (t.setWeirState 3).onCistern (fun x => { x with breach := false }))).syncWeir)) ∧
  (∀ (s : State) (burn : List Burn),
      s.latchDue = true →
      s.weir.cistern.contLost = false →
      s.weir.cistern.tapGap = false →
      s.weir.st ≠ 2 →
      Sys2Proof.Machine.exec (.latchHandling burn) s = .next ((s.onCistern (fun x => { x with breach := false })).syncWeir))

/-- Nothing arrives at a port whose link is not UP. A packet whose CRC fails is counted, dropped and answered by NAK. A
good packet of the link channel is taken without a sequence number and without a buffer. A packet out of sequence is
dropped and answered by NAK. The next packet in sequence takes a receive buffer of its class. A malformed one is
dropped and reported, and its buffer counts as free. Each packet taken in sequence moves the expected sequence number
on by one, modulo 256. A routed packet for another node is forwarded. A routed packet of its type acts at its target
and is forwarded elsewhere. One that is not taken changes only what its arrival changes. Its CRC is right when it is
the one that the packet's words give. -/
def Obligations.FabricArrival : Prop :=
  (∀ (s : State) (p : Nat) (good : Bool) (k : Packet),
      p ≠ 4 →
      s.portUp p = false →
      s.receive p good k = (s, none)) ∧
  (∀ (s : State) (p : Nat) (k : Packet),
      p ≠ 4 →
      s.portUp p = true →
      s.receive p false k = (((s.bump (wordFld (FAB.RX_WORDS p)) k.size).bump (wordFld (FAB.CRC_ERR_CNT p))).sendNak p, none)) ∧
  (∀ (s : State) (p : Nat) (k : Packet),
      p ≠ 4 →
      s.portUp p = true →
      k.vc = 3 →
      badHeader k = false →
      s.receive p true k = (s.bump (wordFld (FAB.RX_WORDS p)) k.size, some 0)) ∧
  (∀ (s : State) (p : Nat) (k : Packet),
      p ≠ 4 →
      s.portUp p = true →
      k.vc ≠ 3 →
      k.lseq ≠ (s.port p).rxSeq →
      s.receive p true k = ((s.bump (wordFld (FAB.RX_WORDS p)) k.size).sendNak p, none)) ∧
  (∀ (s : State) (p : Nat) (k : Packet),
      p ≠ 4 →
      s.portUp p = true →
      k.vc ≠ 3 →
      k.lseq = (s.port p).rxSeq →
      (((s.bump (wordFld (FAB.RX_WORDS p)) k.size).takeSeq p).port p).roomFor k.cls = true →
      badHeader k = false →
      s.receive p true k = ((((s.bump (wordFld (FAB.RX_WORDS p)) k.size).takeSeq p).takeBuf p k), some ((s.bump (wordFld (FAB.RX_WORDS p)) k.size).takeSeq p).fab.nextBuf)) ∧
  (∀ (s : State) (p : Nat) (k : Packet),
      p ≠ 4 →
      s.portUp p = true →
      k.vc ≠ 3 →
      k.lseq = (s.port p).rxSeq →
      (((s.bump (wordFld (FAB.RX_WORDS p)) k.size).takeSeq p).port p).roomFor k.cls = true →
      badHeader k = true →
      s.receive p true k = ((((s.bump (wordFld (FAB.RX_WORDS p)) k.size).takeSeq p).malformed p k).countFreed p k.cls, none)) ∧
  (∀ (s : State) (p : Nat),
      ((s.takeSeq p).port p).rxSeq = ((s.port p).rxSeq + 1) % 256) ∧
  (∀ (s : State) (p : Nat) (crc : Word) (k : Packet) (v : BusEnv) (b : Nat),
      (s.receive p (k.crcGood crc) k).2 = some b →
      k.isType 2 1 = true →
      p ≠ 4 →
      k.dst ≠ (s.receive p (k.crcGood crc) k).1.nodeId →
      k.dst ≠ s.nodeId →
      Sys2Proof.Machine.exec (.bulkWr p crc k v) s = .next ((s.receive p (k.crcGood crc) k).1.forward p b k)) ∧
  (∀ (s : State) (p b vc typ : Nat) (good : Bool) (k : Packet) (f : State → State),
      (s.receive p good k).2 = some b →
      k.isType vc typ = true →
      s.routed p good k vc typ f = (if p == 4 || k.dst == (s.receive p good k).1.nodeId then (f (s.receive p good k).1).settleBuf b else (s.receive p good k).1.forward p b k)) ∧
  (∀ (s : State) (p vc typ : Nat) (good : Bool) (k : Packet) (f : State → State),
      (s.receive p good k).2 = none →
      s.routed p good k vc typ f = (s.receive p good k).1) ∧
  (∀ (k : Packet) (crc : Word),
      k.crcGood crc = (crc == k.crcWord))

/-- A port in training that finds its neighbour, at the rate it trains for and at full width or with ALLOW_X1, passes
through TRAIN and ALIGN, is UP and shows the neighbour's identity; its sequence numbers and credits start anew, and
what waits is sent. At another rate, or on a narrower link without ALLOW_X1, the link stays down. A port that trains
begins again from DETECT; attempts count anew after a loss. A lost link is counted and reported; routes switch to ALT,
the time source may change, and what waits moves over; drops for want of a path are then reported. A link that is not
UP cannot be lost. Without an acknowledgement every packet that lacks one is sent again. After four replays without
progress the link is lost. ACK releases the packets up to its LSEQ. NAK does too, and sends the rest again. CREDIT
gives each class what has been freed. KEEPALIVE carries the neighbour's NODE. DLY_REQ is answered with the stamps of
its arrival and of the answer's departure. DLY_RSP gives twice the delay: the round trip less the neighbour's own
time. A delay measurement sends DLY_REQ on every port that is UP. ACK is sent after 500 ns, with the last LSEQ
received in order. Credits are sent on a port that is UP. A route goes back to PRI once that link is UP. So does the
time source. A TIME packet goes to the servo. An offset beyond 1 µs steps fabric time, counts and reports. A smaller
one slews it and trims the rate (the unit of the rate is the model's, log entry 30). A LOCKED node sends TIME on every
port. A node that is not LOCKED sends none. A HOLDOVER that lasts too long is reported as LOST. A node whose parent
port is not enabled is not enabled. An enabled fabric stays as it is, and while internal reset is held nothing is
enabled. The root is node 0 and LOCKED from its enable on; with a port enabled the serial PLL starts. Without one only
EN is set. Any other node whose parent port is enabled, or which names none, is enabled without a number. Without a
port enabled only EN is set here too. The model's own choices or readings, which no rule of the spec states, are: four
replays, and waiting packets move (log entry 48); a turnaround of 0 of its own, and the layout of DLY_RSP (log entry
50); the root holds NODE.ID 0 (log entry 68); when a port in training moves on (log entry 98). -/
def Obligations.FabricLinks : Prop :=
  (∀ (s : State) (p : Nat) (lo hi : Word) (rate16 width2 swap : Bool) (inv : Nat),
      s.trains p = true →
      s.inTraining p = true →
      rate16 = s.trainsAt16 p →
      width2 = true ∨ s.flag (FAB.PORT_CTL.ALLOW_X1 p) = true →
      Sys2Proof.Machine.exec (.linkUp p lo hi rate16 width2 swap inv) s = .next ((((((((((((s.trainOn p).trainOn p).put (FAB.PORT_STAT.STATE p) 4).put (FAB.PORT_STAT.RATE16 p) (nat01 rate16)).put (FAB.PORT_STAT.WIDTH2 p) (nat01 width2)).put
        (FAB.PORT_STAT.LANE_SWAP p) (nat01 swap)).put (FAB.PORT_STAT.POL_INV p) inv).raise (FAB.PORT_STAT.NBR_VALID p)).wr (FAB.NBR_IDENT_LO p) lo).wr
        (FAB.NBR_IDENT_HI p) hi).onPort p (fun f => { waiting := f.waiting, trainOut := f.trainOut })).pumpAll p)) ∧
  (∀ (s : State) (p : Nat) (lo hi : Word) (rate16 width2 swap : Bool) (inv : Nat),
      rate16 ≠ s.trainsAt16 p ∨ (width2 = false ∧ s.flag (FAB.PORT_CTL.ALLOW_X1 p) = false) →
      Sys2Proof.Machine.exec (.linkUp p lo hi rate16 width2 swap inv) s = .next s) ∧
  (∀ (s : State) (p : Nat),
      s.trains p = true →
      Sys2Proof.Machine.exec (.trainRetry p) s = .next ((s.put (FAB.PORT_STAT.STATE p) 1).onPort p (fun f => { f with attempts := if s.get (FAB.PORT_STAT.STATE p) = 5 then 0 else f.attempts + 1 }))) ∧
  (∀ (s : State) (p why : Nat),
      s.portUp p = true →
      Sys2Proof.Machine.exec (.linkLost p why) s = .next (((((((((s.put (FAB.PORT_STAT.STATE p) 5).raise (FAB.PORT_STAT.LOST p)).bump (wordFld (FAB.LOSS_CNT p))).report Src.FAB_LINK_DOWN p why).switchRoutes p).loseTime p).onPort p
        (fun f => { f with replays := 0, timeLocked := false, dlyT1 := none }))).moveOver p).unreachRun) ∧
  (∀ (s : State) (p why : Nat),
      s.portUp p = false →
      Sys2Proof.Machine.exec (.linkLost p why) s = .next s) ∧
  (∀ (s : State) (p : Nat),
      s.portUp p = true →
      (s.port p).replay ≠ [] →
      (s.port p).replays < 4 →
      Sys2Proof.Machine.exec (.replayTimeout p) s = .next ((((s.onPort p (fun g => { g with replays := g.replays + 1, replay := g.replay.map s.stamped })).bump (wordFld (FAB.REPLAY_CNT p))).bump (wordFld (FAB.TX_WORDS p))
        (((s.port p).replay.map (·.size)).foldl (· + ·) 0)))) ∧
  (∀ (s : State) (p : Nat),
      s.portUp p = true →
      (s.port p).replay ≠ [] →
      4 ≤ (s.port p).replays →
      Sys2Proof.Machine.exec (.replayTimeout p) s = .next (s.linkLost p 3)) ∧
  (∀ (s : State) (p : Nat) (crc : Word) (k : Packet),
      (s.receive p (k.crcGood crc) k).2.isSome = true →
      k.isType 3 2 = true →
      Sys2Proof.Machine.exec (.ackPacket p crc k) s = .next ((s.receive p (k.crcGood crc) k).1.acked p (fieldOf k.h1 0 8))) ∧
  (∀ (s : State) (p : Nat) (crc : Word) (k : Packet),
      (s.receive p (k.crcGood crc) k).2.isSome = true →
      k.isType 3 3 = true →
      Sys2Proof.Machine.exec (.nakPacket p crc k) s = .next (((s.receive p (k.crcGood crc) k).1.acked p (fieldOf k.h1 0 8)).replayAll p)) ∧
  (∀ (s : State) (p : Nat) (crc : Word) (k : Packet),
      (s.receive p (k.crcGood crc) k).2.isSome = true →
      k.isType 3 1 = true →
      Sys2Proof.Machine.exec (.creditPacket p crc k) s = .next ((s.receive p (k.crcGood crc) k).1.takeCredits p k.h1)) ∧
  (∀ (s : State) (p : Nat) (crc : Word) (k : Packet),
      (s.receive p (k.crcGood crc) k).2.isSome = true →
      k.isType 3 4 = true →
      Sys2Proof.Machine.exec (.keepalive p crc k) s = .next ((s.receive p (k.crcGood crc) k).1.wr (FAB.NBR_NODE p) k.h1)) ∧
  (∀ (s : State) (p : Nat) (crc : Word) (k : Packet),
      (s.receive p (k.crcGood crc) k).2.isSome = true →
      k.isType 3 5 = true →
      Sys2Proof.Machine.exec (.dlyReq p crc k) s = .next ((s.receive p (k.crcGood crc) k).1.sendLink p (mkPacket 3 6 0#32 (stampWords (s.receive p (k.crcGood crc) k).1.stamp ++ stampWords (s.receive p (k.crcGood crc) k).1.stamp)))) ∧
  (∀ (s : State) (p : Nat) (crc : Word) (k : Packet) (t1 : Nat),
      (s.receive p (k.crcGood crc) k).2.isSome = true →
      k.isType 3 6 = true →
      ((s.receive p (k.crcGood crc) k).1.port p).dlyT1 = some t1 →
      Sys2Proof.Machine.exec (.dlyRsp p crc k) s = .next (((s.receive p (k.crcGood crc) k).1.onPort p (fun f => { f with dlyT1 := none })).takeDelay p
        (signedOf 54 (unsignedOf 54 (((s.receive p (k.crcGood crc) k).1.stamp : Int) - t1)) - signedOf 54 (unsignedOf 54 ((stampOf (wordAt k.payload 2) (wordAt k.payload 3) : Int) - stampOf (wordAt k.payload 0) (wordAt k.payload 1)))))) ∧
  (∀ (s : State),
      Sys2Proof.Machine.exec .delayMeasurement s = .next (s.each ((List.range 4).filter s.portUp) (fun p t => (t.onPort p (fun f => { f with dlyT1 := some t.stamp })).sendLink p (mkLink 5 0#32)))) ∧
  (∀ (s : State) (p : Nat),
      s.portUp p = true →
      (s.port p).unacked ≠ 0 →
      Sys2Proof.Machine.exec (.ackSend p) s = .next ((s.onPort p (fun f => { f with unacked := 0 })).sendLink p (mkLink 2 (w32 (((s.port p).rxSeq + 255) % 256))))) ∧
  (∀ (s : State) (p : Nat),
      s.portUp p = true →
      Sys2Proof.Machine.exec (.creditSend p) s = .next (s.sendCredit p)) ∧
  (∀ (s : State) (d : Nat),
      d < 64 →
      s.flag (FAB.ROUTE.ON_ALT d) = true →
      s.portUp (s.get (FAB.ROUTE.PRI d)) = true →
      Sys2Proof.Machine.exec (.routeRestore d) s = .next (s.drop (FAB.ROUTE.ON_ALT d))) ∧
  (∀ (s : State),
      s.flag FAB.TIME_STAT.ON_ALT = true →
      s.portUp (s.get FAB.TIME_CFG.PARENT) = true →
      Sys2Proof.Machine.exec .parentRestore s = .next (s.drop FAB.TIME_STAT.ON_ALT)) ∧
  (∀ (s : State) (p : Nat) (crc : Word) (k : Packet) (b : Nat),
      (s.receive p (k.crcGood crc) k).2 = some b →
      k.isType 1 1 = true →
      Sys2Proof.Machine.exec (.timePacket p crc k) s = .next (((s.receive p (k.crcGood crc) k).1.takeTime p k).settleBuf b)) ∧
  (∀ (s : State) (p : Nat) (o : Int),
      102400 < o.natAbs →
      s.servo p o = ((((s.wr FAB.TIME_OFS (w32 (unsignedOf 32 o))).setStamp ((s.wr FAB.TIME_OFS (w32 (unsignedOf 32 o))).stamp + o)).onFab (fun f => { f with slew := none })).bump FAB.TIME_STAT.STEP_CNT).report Src.FAB_TIME_STEP p (unsignedOf 32 o)) ∧
  (∀ (s : State) (p : Nat) (o : Int),
      o.natAbs ≤ 102400 →
      s.servo p o = (((s.wr FAB.TIME_OFS (w32 (unsignedOf 32 o))).onFab (fun f => { f with
          slew := some (o, s.ticks), rate := clampInt (-rateLimit) rateLimit (f.rate + o * ratePerUnit) })).syncRate)) ∧
  (∀ (s : State),
      s.blockOn FAB.CTL.EN 9 = true →
      s.flag FAB.TIME_STAT.LOCKED = true →
      Sys2Proof.Machine.exec .timeSend s = .next (s.floodOut none (mkPacket 1 1 (mkH1 0 s.nodeId 0 false) s.timePayload))) ∧
  (∀ (s : State),
      s.flag FAB.TIME_STAT.LOCKED = false →
      Sys2Proof.Machine.exec .timeSend s = .next s) ∧
  (∀ (s : State),
      s.flag FAB.TIME_STAT.HOLDOVER = true →
      Sys2Proof.Machine.exec .holdoverTimeout s = .next (s.reportOnce FAB.TIME_STAT.LOST Src.FAB_TIME_LOST 0 0)) ∧
  (∀ (s : State),
      s.flag FAB.CTL.EN = false →
      s.root = false →
      s.get FAB.TIME_CFG.PARENT < 4 →
      s.flag (FAB.PORT_CTL.EN (s.get FAB.TIME_CFG.PARENT)) = false →
      s.held = false →
      Sys2Proof.Machine.exec .fabEnable s = .next (s.reportOnce FAB.STATUS.CFG_ERR Src.FAB_CFG 0 (s.rd FAB.TIME_CFG).toNat)) ∧
  (∀ (s : State),
      s.flag FAB.CTL.EN = true ∨ s.held = true →
      Sys2Proof.Machine.exec .fabEnable s = .next s) ∧
  (∀ (s : State),
      s.flag FAB.CTL.EN = false →
      s.root = true →
      s.held = false →
      (List.range 4).any (fun p => s.flag (FAB.PORT_CTL.EN p)) = true →
      Sys2Proof.Machine.exec .fabEnable s = .next (((((s.wr FAB.TIME_STAT 0#32).onFab (fun b => { b with lockRun := 0, unlockRun := 0, slew := none, wasOn := true })).wr FAB.NODE (w32 (2 ^ 31))).raise FAB.TIME_STAT.LOCKED).enableBlock FAB.CTL.EN 4 9)) ∧
  (∀ (s : State),
      s.flag FAB.CTL.EN = false →
      s.root = true →
      s.held = false →
      (List.range 4).any (fun p => s.flag (FAB.PORT_CTL.EN p)) = false →
      Sys2Proof.Machine.exec .fabEnable s = .next (((((s.wr FAB.TIME_STAT 0#32).onFab (fun b => { b with lockRun := 0, unlockRun := 0, slew := none, wasOn := true })).wr FAB.NODE (w32 (2 ^ 31))).raise FAB.TIME_STAT.LOCKED).raise FAB.CTL.EN)) ∧
  (∀ (s : State),
      s.flag FAB.CTL.EN = false →
      s.root = false →
      s.held = false →
      4 ≤ s.get FAB.TIME_CFG.PARENT ∨ s.flag (FAB.PORT_CTL.EN (s.get FAB.TIME_CFG.PARENT)) = true →
      (List.range 4).any (fun p => s.flag (FAB.PORT_CTL.EN p)) = true →
      Sys2Proof.Machine.exec .fabEnable s = .next (((s.wr FAB.TIME_STAT 0#32).onFab (fun b => { b with lockRun := 0, unlockRun := 0, slew := none, wasOn := true })).enableBlock FAB.CTL.EN 4 9)) ∧
  (∀ (s : State),
      s.flag FAB.CTL.EN = false →
      s.root = false →
      s.held = false →
      4 ≤ s.get FAB.TIME_CFG.PARENT ∨ s.flag (FAB.PORT_CTL.EN (s.get FAB.TIME_CFG.PARENT)) = true →
      (List.range 4).any (fun p => s.flag (FAB.PORT_CTL.EN p)) = false →
      Sys2Proof.Machine.exec .fabEnable s = .next (((s.wr FAB.TIME_STAT 0#32).onFab (fun b => { b with lockRun := 0, unlockRun := 0, slew := none, wasOn := true })).raise FAB.CTL.EN))

/-- A new STOP stops the node and is passed on. A STOP is recorded with its source, code and tag, and stops the fire
engine with cause 2. A new CLEAR releases the node's drive, sets its check instant, and is passed on. A repeated one,
of a TAG that was accepted before, acts on nothing and is not passed on. The check is due at EXEC_T. An EXEC_T nearer
than 1.0 µs is counted as late, and the check follows 1.0 µs after receipt. At EXEC_T the check of the SLUICE pin
follows. Without a CLEAR that waits nothing happens. BCAST_CLR floods a CLEAR whose EXEC_T lies CLR_LEAD ahead, with
the next TAG, and the sender acts on it too. A new POS of the configured source is taken as a Tide sample and passed
on. A POS of another source is counted, reported and not passed on. A Tide sample with a new T reaches a fire engine
that follows the Tide. -/
def Obligations.FabricStops : Prop :=
  (∀ (s : State) (p : Nat) (crc : Word) (k : Packet) (b : Nat),
      (s.receive p (k.crcGood crc) k).2 = some b →
      k.isType 0 1 = true →
      (s.receive p (k.crcGood crc) k).1.isNew k = true →
      Sys2Proof.Machine.exec (.stopPacket p crc k) s = .next (((((s.receive p (k.crcGood crc) k).1.noteFlood k)).takeStop k).forwardFlood p b k)) ∧
  (∀ (s : State) (k : Packet),
      s.takeStop k = ((((s.wr FAB.SLUICE_STAT (w32 (2 ^ 31 + k.src * 2 ^ 24 + wf k.payload 0 0 8 * 2 ^ 16 + k.tag))).onFab (fun b => { b with chanStop := true }))).halt 2)) ∧
  (∀ (s : State) (p : Nat) (crc : Word) (k : Packet) (b : Nat),
      (s.receive p (k.crcGood crc) k).2 = some b →
      k.isType 0 2 = true →
      (s.receive p (k.crcGood crc) k).1.isNew k = true →
      Sys2Proof.Machine.exec (.clearPacket p crc k) s = .next (((((s.receive p (k.crcGood crc) k).1.noteFlood k)).takeClear ((wordAt k.payload 0).toNat + 2 ^ 32 * wf k.payload 1 0 16)).forwardFlood p b k)) ∧
  (∀ (s : State) (p : Nat) (crc : Word) (k : Packet) (b : Nat),
      (s.receive p (k.crcGood crc) k).2 = some b →
      (s.receive p (k.crcGood crc) k).1.isNew k = false →
      Sys2Proof.Machine.exec (.clearPacket p crc k) s = .next ((s.receive p (k.crcGood crc) k).1.settleBuf b)) ∧
  (∀ (s : State) (exec : Nat),
      1600 ≤ signedOf 48 (unsignedOf 48 ((exec : Int) - s.time)) →
      s.takeClear exec = ((((s.onFab (fun b => { b with chanStop := false })).sluiceClear).onFire (fun f => { f with clrDue := false })).onFab (fun b => { b with execT := some exec }))) ∧
  (∀ (s : State) (exec : Nat),
      signedOf 48 (unsignedOf 48 ((exec : Int) - s.time)) < 1600 →
      s.takeClear exec = ((((s.onFab (fun b => { b with chanStop := false })).sluiceClear).bump (wordFld FAB.LATE_CLR_CNT)).onFab (fun b => { b with execT := none }))) ∧
  (∀ (s : State) (low : Bool),
      s.fab.execT.isSome = true →
      Sys2Proof.Machine.exec (.clearExec low) s = .next ((s.onFab (fun b => { b with execT := none })).sluiceCheck low)) ∧
  (∀ (s : State) (low : Bool),
      s.fab.execT = none →
      Sys2Proof.Machine.exec (.clearExec low) s = .next s) ∧
  (∀ (s : State),
      Sys2Proof.Machine.exec .bcastClr s = .next (((s.onFab (fun b => { b with clearTag := (s.fab.clearTag + 1) % 2 ^ 16 })).floodOwn (mkPacket 0 2 (mkH1 0 s.nodeId ((s.fab.clearTag + 1) % 2 ^ 16) true)
        [w32 ((s.time + 16 * s.get FAB.SLUICE_CFG.CLR_LEAD) % 2 ^ 48), w32 ((s.time + 16 * s.get FAB.SLUICE_CFG.CLR_LEAD) % 2 ^ 48 / 2 ^ 32)])).takeClear
        ((s.time + 16 * s.get FAB.SLUICE_CFG.CLR_LEAD) % 2 ^ 48))) ∧
  (∀ (s : State) (p : Nat) (crc : Word) (k : Packet) (b : Nat),
      s.flag FAB.TIDE_CFG.RX_EN = true →
      k.isType 1 2 = true →
      k.src = s.get FAB.TIDE_CFG.SRC →
      (s.receive p (k.crcGood crc) k).2 = some b →
      (s.receive p (k.crcGood crc) k).1.isNew k = true →
      ((s.receive p (k.crcGood crc) k).1.noteFlood k).flag FAB.TIDE_CFG.RX_EN = true →
      Sys2Proof.Machine.exec (.posPacket p crc k) s = .next ((((s.receive p (k.crcGood crc) k).1.noteFlood k).takePos k).forwardFlood p b k)) ∧
  (∀ (s : State) (p : Nat) (crc : Word) (k : Packet) (b : Nat),
      s.flag FAB.TIDE_CFG.RX_EN = true →
      k.isType 1 2 = true →
      k.src ≠ s.get FAB.TIDE_CFG.SRC →
      (s.receive p (k.crcGood crc) k).2 = some b →
      Sys2Proof.Machine.exec (.posPacket p crc k) s = .next ((((s.receive p (k.crcGood crc) k).1.bump (wordFld FAB.TIDE_FOREIGN_CNT)).tideForeign k.src).settleBuf b)) ∧
  (∀ (s : State) (q t : Nat) (v : Int),
      s.fab.tideT ≠ some t →
      s.get FIRE.CFG.AXIS = 4 →
      (s.tideSample q t v).fire.inbox = s.fire.inbox ++ [⟨q * 2 ^ 24, t, v⟩])

/-- Wherever it arrives, CTRL_RD is checked and routed. So is CTRL_WR. So is RD. So is WR_RSP. So is RD_CPL. So is
CTRL_RSP. CTRL_RD at its target reads a register. CTRL_WR at its target writes one. A permitted CTRL request is
executed once, its response kept and sent. A repeated CTRL request is answered from the response kept, without
execution. A refused one is answered DENIED and executes nothing. A WR goes to its target, but while the root's
completion buffer is full one into it waits. While the buffer is full the WR waits on its link. RD at its target reads
memory or registers. WR_RSP completes a write. RD_CPL completes a read. CTRL_RSP completes a CTRL request. A response
that no request waits for is counted and dropped. One that matches its request ends it with its status; after a failed
one the waiting requests of its DMA channel are not sent. A BULK request without a response in time ends with status
5, counted and reported. A CTRL request ends likewise. A probe or an assignment of CREQ, which has no TAG, too. So
does the CTRL request of CREQ. CREQ with KIND 0 sends CTRL_RD of ARG to DST. KIND 1 sends CTRL_WR with CREQ_DATA. KIND
2 sends PROBE. KIND 3 sends ASSIGN with the identity and ARG. PROBE at its target is answered with its identity, its
node word, its chip identity and the state and neighbour of every port. Its answer completes CREQ. ASSIGN reaches its
target. With the target's own identity it gives the node its number, parents and route to the root. With another it
changes nothing. The answer to a request that came over a port goes back with ROUTE = RET and REM = NHOPS. A
source-routed packet goes out on port ROUTE [1:0], with ROUTE shifted right by 2 bits and REM one less. The answer to
ASSIGN completes CREQ. PROBE that comes over port p does so too, with the port shifted into RET. PROBE with hops to go
is sent on, with the port shifted into RET. PROBE_RSP that comes over port p does so too, with the port shifted into
RET. PROBE_RSP with hops to go is sent on, with the port shifted into RET. ASSIGN that comes over port p does so too,
with the port shifted into RET. ASSIGN with hops to go is sent on, with the port shifted into RET. ASSIGN_RSP that
comes over port p does so too, with the port shifted into RET. ASSIGN_RSP with hops to go is sent on, with the port
shifted into RET. The model's own choices or readings, which no rule of the spec states, are: how packets reach the
model, and the loop of the node itself (log entry 45); PROBE and ASSIGN time out under CTRL_TMO, and STATUS of their
answers (log entry 49). -/
def Obligations.FabricRequests : Prop :=
  (∀ (s : State) (p : Nat) (crc : Word) (k : Packet),
      Sys2Proof.Machine.exec (.ctrlRd p crc k) s = .next (s.routed p (k.crcGood crc) k 0 3 (fun t => t.takeCtrlRd k))) ∧
  (∀ (s : State) (p : Nat) (crc : Word) (k : Packet) (v : BusEnv),
      Sys2Proof.Machine.exec (.ctrlWr p crc k v) s = .next (s.routed p (k.crcGood crc) k 0 4 (fun t => t.takeCtrlWr k v))) ∧
  (∀ (s : State) (p : Nat) (crc : Word) (k : Packet) (v : Access),
      Sys2Proof.Machine.exec (.bulkRd p crc k v) s = .next (s.routed p (k.crcGood crc) k 2 2 (fun t => t.takeRd k v))) ∧
  (∀ (s : State) (p : Nat) (crc : Word) (k : Packet),
      Sys2Proof.Machine.exec (.wrRsp p crc k) s = .next (s.routed p (k.crcGood crc) k 2 3 (fun t => t.takeRsp k true))) ∧
  (∀ (s : State) (p : Nat) (crc : Word) (k : Packet),
      Sys2Proof.Machine.exec (.rdCpl p crc k) s = .next (s.routed p (k.crcGood crc) k 2 4 (fun t => t.takeRsp k false))) ∧
  (∀ (s : State) (p : Nat) (crc : Word) (k : Packet),
      Sys2Proof.Machine.exec (.ctrlRsp p crc k) s = .next (s.routed p (k.crcGood crc) k 0 5 (fun t => t.unreachRun.takeCtrlRsp k))) ∧
  (∀ (s : State) (p : Nat) (crc : Word) (k : Packet) (b : Nat),
      (s.receive p (k.crcGood crc) k).2 = some b →
      k.isType 0 3 = true →
      p = 4 ∨ k.dst = (s.receive p (k.crcGood crc) k).1.nodeId →
      Sys2Proof.Machine.exec (.ctrlRd p crc k) s = .next (((s.receive p (k.crcGood crc) k).1.takeCtrlRd k).settleBuf b)) ∧
  (∀ (s : State) (p : Nat) (crc : Word) (k : Packet) (v : BusEnv) (b : Nat),
      (s.receive p (k.crcGood crc) k).2 = some b →
      k.isType 0 4 = true →
      p = 4 ∨ k.dst = (s.receive p (k.crcGood crc) k).1.nodeId →
      Sys2Proof.Machine.exec (.ctrlWr p crc k v) s = .next (((s.receive p (k.crcGood crc) k).1.takeCtrlWr k v).settleBuf b)) ∧
  (∀ (s : State) (k : Packet) (f : State → State × (Nat × Word)),
      s.fab.lastCtrl.find? (fun e => e.1 == k.src && e.2.1 == k.tag) = none →
      s.denied k = false →
      s.bootDenied k = false →
      s.takeCtrl k f = (((f s).1.keepCtrl k (f s).2.1 (f s).2.2).reply k (f s).2.1 [(f s).2.2])) ∧
  (∀ (s : State) (k : Packet) (f : State → State × (Nat × Word)) (e : Nat × (Nat × (Nat × Word))),
      s.fab.lastCtrl.find? (fun e => e.1 == k.src && e.2.1 == k.tag) = some e →
      s.takeCtrl k f = (s.reply k e.2.2.1 [e.2.2.2])) ∧
  (∀ (s : State) (k : Packet) (f : State → State × (Nat × Word)),
      s.fab.lastCtrl.find? (fun e => e.1 == k.src && e.2.1 == k.tag) = none →
      s.denied k = true →
      s.takeCtrl k f = ((s.raise FAB.STATUS.DENIED).reply k 4 (List.replicate (readLen k) 0#32))) ∧
  (∀ (s : State) (p : Nat) (crc : Word) (k : Packet) (v : BusEnv),
      k.isType 2 1 = false ∨ k.dst ≠ s.nodeId ∨ s.holdsWr k = false →
      Sys2Proof.Machine.exec (.bulkWr p crc k v) s = .next (s.routed p (k.crcGood crc) k 2 1 (fun t => t.takeWr k v))) ∧
  (∀ (s : State) (p : Nat) (crc : Word) (k : Packet) (v : BusEnv),
      k.isType 2 1 = true →
      k.dst = s.nodeId →
      s.holdsWr k = true →
      Sys2Proof.Machine.exec (.bulkWr p crc k v) s = .next s) ∧
  (∀ (s : State) (p : Nat) (crc : Word) (k : Packet) (v : Access) (b : Nat),
      (s.receive p (k.crcGood crc) k).2 = some b →
      k.isType 2 2 = true →
      p = 4 ∨ k.dst = (s.receive p (k.crcGood crc) k).1.nodeId →
      Sys2Proof.Machine.exec (.bulkRd p crc k v) s = .next (((s.receive p (k.crcGood crc) k).1.takeRd k v).settleBuf b)) ∧
  (∀ (s : State) (p : Nat) (crc : Word) (k : Packet) (b : Nat),
      (s.receive p (k.crcGood crc) k).2 = some b →
      k.isType 2 3 = true →
      p = 4 ∨ k.dst = (s.receive p (k.crcGood crc) k).1.nodeId →
      Sys2Proof.Machine.exec (.wrRsp p crc k) s = .next (((s.receive p (k.crcGood crc) k).1.takeRsp k true).settleBuf b)) ∧
  (∀ (s : State) (p : Nat) (crc : Word) (k : Packet) (b : Nat),
      (s.receive p (k.crcGood crc) k).2 = some b →
      k.isType 2 4 = true →
      p = 4 ∨ k.dst = (s.receive p (k.crcGood crc) k).1.nodeId →
      Sys2Proof.Machine.exec (.rdCpl p crc k) s = .next (((s.receive p (k.crcGood crc) k).1.takeRsp k false).settleBuf b)) ∧
  (∀ (s : State) (p : Nat) (crc : Word) (k : Packet) (b : Nat),
      (s.receive p (k.crcGood crc) k).2 = some b →
      k.isType 0 5 = true →
      p = 4 ∨ k.dst = (s.receive p (k.crcGood crc) k).1.nodeId →
      Sys2Proof.Machine.exec (.ctrlRsp p crc k) s = .next (((s.receive p (k.crcGood crc) k).1.unreachRun.takeCtrlRsp k).settleBuf b)) ∧
  (∀ (s : State) (k : Packet) (write : Bool),
      s.txn? false k.tag = none →
      s.takeRsp k write = (s.bump (wordFld FAB.LATE_RSP_CNT))) ∧
  (∀ (s : State) (k : Packet) (write : Bool) (t : Txn),
      s.txn? false k.tag = some t →
      t.write = write →
      s.takeRsp k write = (((s.failTxn t k.status).endTxn t).bulkDone t k.status k.payload)) ∧
  (∀ (s : State) (tag : Nat) (t : Txn),
      s.txn? false tag = some t →
      Sys2Proof.Machine.exec (.bulkTimeout tag) s = .next ((((s.failTxn t 5).endTxn t).countTmo t).bulkDone t 5 [])) ∧
  (∀ (s : State) (tag : Nat) (t : Txn),
      s.txn? true tag = some t →
      Sys2Proof.Machine.exec (.ctrlTimeout tag) s = .next (((s.endTxn t).countTmo t).when (s.fab.creqTag == some tag) (·.creqDone 5 []))) ∧
  (∀ (s : State) (tag : Nat),
      s.txn? true tag = none →
      s.flag FAB.CREQ_CTL.GO = true →
      s.fab.creqTag = none →
      Sys2Proof.Machine.exec (.ctrlTimeout tag) s = .next ((s.countTmo { tag := 0, dst := s.get FAB.CREQ_CTL.DST, ctrl := true }).creqDone 5 [])) ∧
  (∀ (s : State) (tag : Nat) (t : Txn),
      s.txn? true tag = some t →
      s.fab.creqTag = some tag →
      Sys2Proof.Machine.exec (.ctrlTimeout tag) s = .next ((((s.endTxn t).countTmo t)).creqDone 5 [])) ∧
  (∀ (s : State),
      s.flag FAB.CREQ_CTL.GO = false →
      s.get FAB.CREQ_CTL.KIND = 0 →
      Sys2Proof.Machine.exec .creqCtrlRd s = .next (s.creqGo.creqCtrl 3 [w32 (s.get FAB.CREQ_ADDR.ARG % 2 ^ 24)])) ∧
  (∀ (s : State),
      s.flag FAB.CREQ_CTL.GO = false →
      s.get FAB.CREQ_CTL.KIND = 1 →
      Sys2Proof.Machine.exec .creqCtrlWr s = .next (s.creqGo.creqCtrl 4 [w32 (s.get FAB.CREQ_ADDR.ARG % 2 ^ 24), s.rd FAB.CREQ_DATA])) ∧
  (∀ (s : State),
      s.flag FAB.CREQ_CTL.GO = false →
      s.get FAB.CREQ_CTL.KIND = 2 →
      Sys2Proof.Machine.exec .creqProbe s = .next (s.creqGo.creqSr 8 [])) ∧
  (∀ (s : State),
      s.flag FAB.CREQ_CTL.GO = false →
      s.get FAB.CREQ_CTL.KIND = 3 →
      Sys2Proof.Machine.exec .creqAssign s = .next (s.creqGo.creqSr 10 [s.rd FAB.CREQ_IDENT_LO, s.rd FAB.CREQ_IDENT_HI, s.rd FAB.CREQ_ADDR])) ∧
  (∀ (s : State) (p : Nat) (crc : Word) (k : Packet) (b : Nat),
      p = 4 →
      k.hop = 0 →
      (s.receive p (k.crcGood crc) k).2 = some b →
      k.isType 0 8 = true →
      Sys2Proof.Machine.exec (.probe p crc k) s = .next (((s.receive p (k.crcGood crc) k).1.answerSr k 9 (s.receive p (k.crcGood crc) k).1.probeWords).settleBuf b)) ∧
  (∀ (s : State) (p : Nat) (crc : Word) (k : Packet) (b : Nat),
      p = 4 →
      k.hop = 0 →
      (s.receive p (k.crcGood crc) k).2 = some b →
      k.isType 0 9 = true →
      Sys2Proof.Machine.exec (.probeRsp p crc k) s = .next (((s.receive p (k.crcGood crc) k).1.takeSrRsp k).settleBuf b)) ∧
  (∀ (s : State) (p : Nat) (crc : Word) (k : Packet) (b : Nat),
      p = 4 →
      k.hop = 0 →
      (s.receive p (k.crcGood crc) k).2 = some b →
      k.isType 0 10 = true →
      Sys2Proof.Machine.exec (.assign p crc k) s = .next (((s.receive p (k.crcGood crc) k).1.takeAssign k).settleBuf b)) ∧
  (∀ (s : State) (k : Packet),
      wordAt k.payload 2 = s.rd FAB.IDENT_LO →
      wordAt k.payload 3 = s.rd FAB.IDENT_HI →
      s.takeAssign k = ((s.assignNode (wordAt k.payload 4)).answerSr k 11 [0#32])) ∧
  (∀ (s : State) (k : Packet),
      wordAt k.payload 2 ≠ s.rd FAB.IDENT_LO ∨ wordAt k.payload 3 ≠ s.rd FAB.IDENT_HI →
      s.takeAssign k = (s.answerSr k 11 [1#32])) ∧
  (∀ (s : State) (k : Packet) (typ : Nat) (rest : List Word),
      wf k.payload 1 0 5 ≠ 0 →
      s.answerSr k typ rest = s.sendSr (mkSr typ (wordAt k.payload 0).toNat (wf k.payload 1 0 5) ([wordAt k.payload 0, w32 (wf k.payload 1 0 5)] ++ rest))) ∧
  (∀ (s : State) (k : Packet) (b : Nat),
      s.portUp (k.h1.toNat % 4) = true →
      s.sendSr k b = s.enqueue (k.h1.toNat % 4) { k with h0 := withField k.h0 0 5 (k.hop - 1), h1 := w32 (k.h1.toNat / 4) } b) ∧
  (∀ (s : State) (p : Nat) (crc : Word) (k : Packet) (b : Nat),
      p = 4 →
      k.hop = 0 →
      (s.receive p (k.crcGood crc) k).2 = some b →
      k.isType 0 11 = true →
      Sys2Proof.Machine.exec (.assignRsp p crc k) s = .next (((s.receive p (k.crcGood crc) k).1.takeAssignRsp k).settleBuf b)) ∧
  (∀ (s : State) (p : Nat) (crc : Word) (k : Packet) (b : Nat),
      p < 4 →
      k.sr = true →
      k.hop = 0 →
      (s.receive p (k.crcGood crc) k).2 = some b →
      k.isType 0 8 = true →
      Sys2Proof.Machine.exec (.probe p crc k) s = .next (((s.receive p (k.crcGood crc) k).1.answerSr { k with payload := modAt k.payload 0 (fun w => w32 (w.toNat * 4 + p)) } 9 (s.receive p (k.crcGood crc) k).1.probeWords).settleBuf b)) ∧
  (∀ (s : State) (p : Nat) (crc : Word) (k : Packet) (b : Nat),
      p < 4 →
      k.sr = true →
      k.hop ≠ 0 →
      (s.receive p (k.crcGood crc) k).2 = some b →
      k.isType 0 8 = true →
      Sys2Proof.Machine.exec (.probe p crc k) s = .next ((s.receive p (k.crcGood crc) k).1.sendSr { k with payload := modAt k.payload 0 (fun w => w32 (w.toNat * 4 + p)) } b)) ∧
  (∀ (s : State) (p : Nat) (crc : Word) (k : Packet) (b : Nat),
      p < 4 →
      k.sr = true →
      k.hop = 0 →
      (s.receive p (k.crcGood crc) k).2 = some b →
      k.isType 0 9 = true →
      Sys2Proof.Machine.exec (.probeRsp p crc k) s = .next (((s.receive p (k.crcGood crc) k).1.takeSrRsp { k with payload := modAt k.payload 0 (fun w => w32 (w.toNat * 4 + p)) }).settleBuf b)) ∧
  (∀ (s : State) (p : Nat) (crc : Word) (k : Packet) (b : Nat),
      p < 4 →
      k.sr = true →
      k.hop ≠ 0 →
      (s.receive p (k.crcGood crc) k).2 = some b →
      k.isType 0 9 = true →
      Sys2Proof.Machine.exec (.probeRsp p crc k) s = .next ((s.receive p (k.crcGood crc) k).1.sendSr { k with payload := modAt k.payload 0 (fun w => w32 (w.toNat * 4 + p)) } b)) ∧
  (∀ (s : State) (p : Nat) (crc : Word) (k : Packet) (b : Nat),
      p < 4 →
      k.sr = true →
      k.hop = 0 →
      (s.receive p (k.crcGood crc) k).2 = some b →
      k.isType 0 10 = true →
      Sys2Proof.Machine.exec (.assign p crc k) s = .next (((s.receive p (k.crcGood crc) k).1.takeAssign { k with payload := modAt k.payload 0 (fun w => w32 (w.toNat * 4 + p)) }).settleBuf b)) ∧
  (∀ (s : State) (p : Nat) (crc : Word) (k : Packet) (b : Nat),
      p < 4 →
      k.sr = true →
      k.hop ≠ 0 →
      (s.receive p (k.crcGood crc) k).2 = some b →
      k.isType 0 10 = true →
      Sys2Proof.Machine.exec (.assign p crc k) s = .next ((s.receive p (k.crcGood crc) k).1.sendSr { k with payload := modAt k.payload 0 (fun w => w32 (w.toNat * 4 + p)) } b)) ∧
  (∀ (s : State) (p : Nat) (crc : Word) (k : Packet) (b : Nat),
      p < 4 →
      k.sr = true →
      k.hop = 0 →
      (s.receive p (k.crcGood crc) k).2 = some b →
      k.isType 0 11 = true →
      Sys2Proof.Machine.exec (.assignRsp p crc k) s = .next (((s.receive p (k.crcGood crc) k).1.takeAssignRsp { k with payload := modAt k.payload 0 (fun w => w32 (w.toNat * 4 + p)) }).settleBuf b)) ∧
  (∀ (s : State) (p : Nat) (crc : Word) (k : Packet) (b : Nat),
      p < 4 →
      k.sr = true →
      k.hop ≠ 0 →
      (s.receive p (k.crcGood crc) k).2 = some b →
      k.isType 0 11 = true →
      Sys2Proof.Machine.exec (.assignRsp p crc k) s = .next ((s.receive p (k.crcGood crc) k).1.sendSr { k with payload := modAt k.payload 0 (fun w => w32 (w.toNat * 4 + p)) } b))

/-- The headrace doorbell takes a producer count that moves forwards within the ring. A count that moves backwards is
ignored, flagged and reported. So is one that would leave more entries filled than the ring has. So does the doorbell
of a stream context. A count that moves backwards is ignored, flagged and reported. So is one that would leave more
entries filled than the ring has. The completion doorbell frees entries, and what waits is written at once. A count
that moves backwards is ignored, flagged and reported. So is one that would leave more entries filled than the ring
has. So does the tailrace doorbell. A count that moves backwards is ignored, flagged and reported. So is one that
would leave more entries filled than the ring has. The next headrace entry is fetched and parsed. A descriptor that
the parser holds is parsed again. A power transition that holds the rings lets none be fetched. A sound descriptor for
this node is consumed, counted open and queued. One for another node is written into its JQ_IN. While its node has 16
jobs open it waits. While a BAR 2 write to its node has no response yet it waits, and no full queue shows. A
descriptor without its magic number or of another version has check code 1. One for a node without a route has code 3.
A consumed entry adds 1 to the count, and the count is written to the shadow in host memory. One held from before the
ring started anew adds nothing to the new count. An entry that the device produces goes to the place of the producer
count in its ring, with the PHASE of that count, and adds 1 to it. A descriptor of 16 words written by node 0 to JQ_IN
joins the queue. Any other write is ignored and flagged. A completion of another node reaches the completion ring,
while its buffer has room; the window works on every node, as entry 54 says. While it is full the write is held back.
A record that was not taken is sent again. An event of another node joins the event queue. A write that is not one
record is ignored and flagged, as entry 12 says. So it is for an event. After IDLE_TMO the message of vector 0 covers
the completions not covered yet. So does vector 1 for the tailrace. A function level reset clears the root's rings and
contexts, counts what is lost, and is reported. So does the loss of the link, which LINK shows. LINK shows the width
and speed of a link that has come up. Other widths and speeds are none of the port: x1, x2 or x4 at 2.5 to 16 GT/s. A
node that is not the root is not enabled: CFG_ERR with code 1. A root whose rings fail a check is not enabled either,
with the code of the check. The root with sound rings is enabled, with every count at 0, and what waits is written. An
enabled context with nothing in hand takes the next entry of its ring and moves its lines. An entry in hand goes on,
also while the rings stop. A failed read of the entry halts the context. Without a context that may act nothing is
fetched. A context whose ring of line slots is full at the target waits. A blocked context of another node reads the
mirrors of its target. A read through an aperture that is not valid returns all ones. A valid aperture of this node
reads its memory at BASE and the offset. A write writes it. A valid aperture of another node reads there. A write goes
there too. A write through an invalid aperture is dropped. The model's own choices or readings, which no rule of the
spec states, are: WRITE_IGNORED for a record of another length (log entry 12); a failed read of an entry halts the
context (log entry 53); records of a node that is not the root (log entry 54); the culvert (log entry 55); a headrace
entry that is not read (log entry 76); an entry in hand after a restart (log entry 88). -/
def Obligations.HostRings : Prop :=
  (∀ (s : State) (v : Nat),
      s.hostOn = true →
      forwards (s.rd (HOSTIF.HR_PROD)).toNat (v % 2 ^ 32) = true →
      filled (v % 2 ^ 32) (s.rd (HOSTIF.HR_CONS)).toNat ≤ ringSize (s.get (HOSTIF.HR_SIZE.SIZE_LOG2)) →
      Sys2Proof.Machine.exec (.headraceDoorbell v) s = .next (s.wr (HOSTIF.HR_PROD) (w32 (v % 2 ^ 32)))) ∧
  (∀ (s : State) (v : Nat),
      s.hostOn = true →
      forwards (s.rd (HOSTIF.HR_PROD)).toNat (v % 2 ^ 32) = false →
      Sys2Proof.Machine.exec (.headraceDoorbell v) s = .next (s.ringError 0 (v % 2 ^ 32))) ∧
  (∀ (s : State) (v : Nat),
      s.hostOn = true →
      forwards (s.rd (HOSTIF.HR_PROD)).toNat (v % 2 ^ 32) = true →
      ringSize (s.get (HOSTIF.HR_SIZE.SIZE_LOG2)) < filled (v % 2 ^ 32) (s.rd (HOSTIF.HR_CONS)).toNat →
      Sys2Proof.Machine.exec (.headraceDoorbell v) s = .next (s.ringError 0 (v % 2 ^ 32))) ∧
  (∀ (s : State) (r v : Nat),
      s.hostOn = true →
      r < 248 →
      s.flag (HOSTIF.SCTX_CFG.EN r) = true →
      forwards (s.rd (HOSTIF.SCTX_PROD r)).toNat (v % 2 ^ 32) = true →
      filled (v % 2 ^ 32) (s.rd (HOSTIF.SCTX_CONS r)).toNat ≤ ringSize (s.get (HOSTIF.SCTX_CFG.SIZE_LOG2 r)) →
      Sys2Proof.Machine.exec (.streamDoorbell r v) s = .next (s.wr (HOSTIF.SCTX_PROD r) (w32 (v % 2 ^ 32)))) ∧
  (∀ (s : State) (r v : Nat),
      s.hostOn = true →
      r < 248 →
      s.flag (HOSTIF.SCTX_CFG.EN r) = true →
      forwards (s.rd (HOSTIF.SCTX_PROD r)).toNat (v % 2 ^ 32) = false →
      Sys2Proof.Machine.exec (.streamDoorbell r v) s = .next (s.ringError (r + 8) (v % 2 ^ 32))) ∧
  (∀ (s : State) (r v : Nat),
      s.hostOn = true →
      r < 248 →
      s.flag (HOSTIF.SCTX_CFG.EN r) = true →
      forwards (s.rd (HOSTIF.SCTX_PROD r)).toNat (v % 2 ^ 32) = true →
      ringSize (s.get (HOSTIF.SCTX_CFG.SIZE_LOG2 r)) < filled (v % 2 ^ 32) (s.rd (HOSTIF.SCTX_CONS r)).toNat →
      Sys2Proof.Machine.exec (.streamDoorbell r v) s = .next (s.ringError (r + 8) (v % 2 ^ 32))) ∧
  (∀ (s : State) (v : Nat),
      s.hostOn = true →
      forwards (s.rd (HOSTIF.CPL_CONS)).toNat (v % 2 ^ 32) = true →
      filled (s.rd (HOSTIF.CPL_PROD)).toNat (v % 2 ^ 32) ≤ ringSize (s.get (HOSTIF.CPL_SIZE.SIZE_LOG2)) →
      Sys2Proof.Machine.exec (.completionDoorbell v) s = .next ((s.wr (HOSTIF.CPL_CONS) (w32 (v % 2 ^ 32))).drainCpl (s.wr (HOSTIF.CPL_CONS) (w32 (v % 2 ^ 32))).host.cplBuf.length)) ∧
  (∀ (s : State) (v : Nat),
      s.hostOn = true →
      forwards (s.rd (HOSTIF.CPL_CONS)).toNat (v % 2 ^ 32) = false →
      Sys2Proof.Machine.exec (.completionDoorbell v) s = .next (s.ringError 1 (v % 2 ^ 32))) ∧
  (∀ (s : State) (v : Nat),
      s.hostOn = true →
      forwards (s.rd (HOSTIF.CPL_CONS)).toNat (v % 2 ^ 32) = true →
      ringSize (s.get (HOSTIF.CPL_SIZE.SIZE_LOG2)) < filled (s.rd (HOSTIF.CPL_PROD)).toNat (v % 2 ^ 32) →
      Sys2Proof.Machine.exec (.completionDoorbell v) s = .next (s.ringError 1 (v % 2 ^ 32))) ∧
  (∀ (s : State) (v : Nat),
      s.hostOn = true →
      forwards (s.rd (HOSTIF.TR_CONS)).toNat (v % 2 ^ 32) = true →
      filled (s.rd (HOSTIF.TR_PROD)).toNat (v % 2 ^ 32) ≤ ringSize (s.get (HOSTIF.TR_SIZE.SIZE_LOG2)) →
      Sys2Proof.Machine.exec (.tailraceDoorbell v) s = .next ((s.wr (HOSTIF.TR_CONS) (w32 (v % 2 ^ 32))).drainEvt (s.wr (HOSTIF.TR_CONS) (w32 (v % 2 ^ 32))).host.evtBuf.length)) ∧
  (∀ (s : State) (v : Nat),
      s.hostOn = true →
      forwards (s.rd (HOSTIF.TR_CONS)).toNat (v % 2 ^ 32) = false →
      Sys2Proof.Machine.exec (.tailraceDoorbell v) s = .next (s.ringError 2 (v % 2 ^ 32))) ∧
  (∀ (s : State) (v : Nat),
      s.hostOn = true →
      forwards (s.rd (HOSTIF.TR_CONS)).toNat (v % 2 ^ 32) = true →
      ringSize (s.get (HOSTIF.TR_SIZE.SIZE_LOG2)) < filled (s.rd (HOSTIF.TR_PROD)).toNat (v % 2 ^ 32) →
      Sys2Proof.Machine.exec (.tailraceDoorbell v) s = .next (s.ringError 2 (v % 2 ^ 32))) ∧
  (∀ (s : State) (x : Access),
      s.host.parser = none →
      s.fetching = true →
      s.rd HOSTIF.HR_PROD ≠ s.rd HOSTIF.HR_CONS →
      x.status = 0 →
      Sys2Proof.Machine.exec (.jobDescriptor x) s = .next (s.hostBoundary.parse ((List.range 16).map (wordAt x.words)))) ∧
  (∀ (s : State) (x : Access) (w : List Word),
      s.host.parser = some w →
      Sys2Proof.Machine.exec (.jobDescriptor x) s = .next (s.parse w)) ∧
  (∀ (s : State) (x : Access),
      s.host.parser = none →
      s.fetching = false →
      Sys2Proof.Machine.exec (.jobDescriptor x) s = .next s) ∧
  (∀ (s : State) (w : List Word),
      s.parseCode w = 0 →
      s.get (occFld (wf w 0 0 6)) < 16 →
      wf w 0 0 6 = 0 →
      s.parse w = ((((s.newJobId w).consumeHead).openUp w).placeJob w)) ∧
  (∀ (s : State) (w : List Word),
      s.parseCode w = 0 →
      s.get (occFld (wf w 0 0 6)) < 16 →
      wf w 0 0 6 ≠ 0 →
      s.culvertBusy (wf w 0 0 6) = false →
      s.parse w = ((((s.newJobId w).consumeHead).openUp w).forwardJob w).unreachRun) ∧
  (∀ (s : State) (w : List Word),
      s.parseCode w = 0 →
      16 ≤ s.get (occFld (wf w 0 0 6)) →
      s.parse w = ((s.onHost (fun h => { h with parser := some w })).raise HOSTIF.STATUS.HR_WAIT)) ∧
  (∀ (s : State) (w : List Word),
      s.parseCode w = 0 →
      s.get (occFld (wf w 0 0 6)) < 16 →
      wf w 0 0 6 ≠ 0 →
      s.culvertBusy (wf w 0 0 6) = true →
      s.parse w = ((s.onHost (fun h => { h with parser := some w })).drop HOSTIF.STATUS.HR_WAIT)) ∧
  (∀ (s : State) (w : List Word),
      wf w 0 16 16 ≠ 0x4A44 ∨ wf w 0 8 8 ≠ 1 →
      s.parseCode w = 1) ∧
  (∀ (s : State) (w : List Word),
      wf w 0 16 16 = 0x4A44 →
      wf w 0 8 8 = 1 →
      wf w 0 6 2 = 0 →
      wf w 1 16 13 = 0 →
      [6, 7, 8, 9].any (fun i => wf w i 24 8 != 0) = false →
      [11, 14, 15].any (fun i => wordAt w i != 0#32) = false →
      wf w 0 0 6 ≠ 0 →
      s.flag (FAB.ROUTE.VALID (wf w 0 0 6)) = false →
      s.parseCode w = 3) ∧
  (∀ (s : State),
      s.host.parserOld = false →
      s.consumeHead = ((((s.wr HOSTIF.HR_CONS (w32 ((s.rd HOSTIF.HR_CONS).toNat + 1))).drop HOSTIF.STATUS.HR_WAIT).onHost (fun h => { h with parser := none })).post
        (s.rd64 HOSTIF.HR_SHADOW_LO HOSTIF.HR_SHADOW_HI) [w32 ((s.rd HOSTIF.HR_CONS).toNat + 1)])) ∧
  (∀ (s : State),
      s.host.parserOld = true →
      s.consumeHead = ((s.drop HOSTIF.STATUS.HR_WAIT).onHost (fun h => { h with parser := none, parserOld := false }))) ∧
  (∀ (s : State) (lo hi : Nat) (log : Fld) (prod : Nat) (ws : List Word),
      s.ringWrite lo hi log prod ws = ((s.post (s.rd64 lo hi + 64 * ((s.rd prod).toNat % ringSize (s.get log))) (withPhase (ringSize (s.get log)) (s.rd prod).toNat ws)).wr prod (w32 ((s.rd prod).toNat + 1)))) ∧
  (∀ (s : State) (ws : List Word),
      ws.length = 16 →
      Sys2Proof.Machine.exec (.jqIn ws) s = .next (s.placeJob ws)) ∧
  (∀ (s : State) (ws : List Word),
      ws.length ≠ 16 →
      Sys2Proof.Machine.exec (.jqIn ws) s = .next (s.raise HOSTIF.STATUS.WRITE_IGNORED)) ∧
  (∀ (s : State) (ws : List Word),
      s.cplFull = false →
      ws.length = 16 →
      Sys2Proof.Machine.exec (.cplIn ws) s = .next (s.postCompletion ws).unreachRun) ∧
  (∀ (s : State) (ws : List Word),
      s.cplFull = true →
      Sys2Proof.Machine.exec (.cplIn ws) s = .next s) ∧
  (∀ (s : State),
      Sys2Proof.Machine.exec .cplRetry s = .next (((s.sendCpl).sendEvt).unreachRun)) ∧
  (∀ (s : State) (ws : List Word),
      ws.length = 16 →
      Sys2Proof.Machine.exec (.evtIn ws) s = .next (s.queueEvent ws).unreachRun) ∧
  (∀ (s : State) (ws : List Word),
      s.cplFull = false →
      ws.length ≠ 16 →
      Sys2Proof.Machine.exec (.cplIn ws) s = .next (s.raise HOSTIF.STATUS.WRITE_IGNORED)) ∧
  (∀ (s : State) (ws : List Word),
      ws.length ≠ 16 →
      Sys2Proof.Machine.exec (.evtIn ws) s = .next (s.raise HOSTIF.STATUS.WRITE_IGNORED)) ∧
  (∀ (s : State),
      s.host.cplCover.entries ≠ 0 →
      Sys2Proof.Machine.exec (.idleTmo 0) s = .next ((s.onHost (fun h => { h with cplCover := {} })).msix 0)) ∧
  (∀ (s : State),
      s.host.evtCover.entries ≠ 0 →
      Sys2Proof.Machine.exec (.idleTmo 1) s = .next ((s.onHost (fun h => { h with evtCover := {} })).msix 1)) ∧
  (∀ (s : State),
      s.root = true →
      Sys2Proof.Machine.exec .hostFlr s = .next (s.hostClear.report Src.HOST_FLR 0 0)) ∧
  (∀ (s : State),
      s.root = true →
      s.flag HOSTIF.LINK.UP = true →
      Sys2Proof.Machine.exec .hostLinkDown s = .next (((s.wr HOSTIF.LINK 0#32).hostClear).report Src.HOST_LINK_DOWN 0 0)) ∧
  (∀ (s : State) (width speed : Nat),
      s.root = true →
      width = 1 ∨ width = 2 ∨ width = 4 →
      1 ≤ speed ∧ speed ≤ 4 →
      Sys2Proof.Machine.exec (.pcieLinkUp width speed) s = .next (((s.raise HOSTIF.LINK.UP).put HOSTIF.LINK.WIDTH width).put HOSTIF.LINK.SPEED speed)) ∧
  (∀ (s : State) (width speed : Nat),
      linkOk width speed = false →
      Sys2Proof.Machine.exec (.pcieLinkUp width speed) s = .next s) ∧
  (∀ (s : State),
      s.flag HOSTIF.CTL.EN = false →
      s.root = false →
      Sys2Proof.Machine.exec .hostifEnable s = .next ((s.raise HOSTIF.STATUS.CFG_ERR).report Src.HOST_CFG 255 1)) ∧
  (∀ (s : State) (c : Nat),
      s.flag HOSTIF.CTL.EN = false →
      s.root = true →
      ringFault [(s.rd64 HOSTIF.HR_BASE_LO HOSTIF.HR_BASE_HI, s.get HOSTIF.HR_SIZE.SIZE_LOG2), (s.rd64 HOSTIF.CPL_BASE_LO HOSTIF.CPL_BASE_HI, s.get HOSTIF.CPL_SIZE.SIZE_LOG2), (s.rd64 HOSTIF.TR_BASE_LO HOSTIF.TR_BASE_HI, s.get HOSTIF.TR_SIZE.SIZE_LOG2)] (s.rd64 HOSTIF.HR_SHADOW_LO HOSTIF.HR_SHADOW_HI) = some c →
      Sys2Proof.Machine.exec .hostifEnable s = .next ((s.raise HOSTIF.STATUS.CFG_ERR).report Src.HOST_CFG 255 c)) ∧
  (∀ (s : State),
      s.flag HOSTIF.CTL.EN = false →
      s.root = true →
      ringFault [(s.rd64 HOSTIF.HR_BASE_LO HOSTIF.HR_BASE_HI, s.get HOSTIF.HR_SIZE.SIZE_LOG2), (s.rd64 HOSTIF.CPL_BASE_LO HOSTIF.CPL_BASE_HI, s.get HOSTIF.CPL_SIZE.SIZE_LOG2), (s.rd64 HOSTIF.TR_BASE_LO HOSTIF.TR_BASE_HI, s.get HOSTIF.TR_SIZE.SIZE_LOG2)] (s.rd64 HOSTIF.HR_SHADOW_LO HOSTIF.HR_SHADOW_HI) = none →
      ∃ c, c = (((s.each [HOSTIF.HR_PROD, HOSTIF.HR_CONS, HOSTIF.CPL_PROD, HOSTIF.CPL_CONS, HOSTIF.TR_PROD, HOSTIF.TR_CONS] (fun r t => t.wr r 0#32)).each
        (List.range 248) (fun r t => (t.wr (HOSTIF.SCTX_PROD r) 0#32).wr (HOSTIF.SCTX_CONS r) 0#32)).raise HOSTIF.CTL.EN).onHost
          (fun h => { h with lost := false, parserOld := h.parser.isSome, ctx := h.ctx.map (fun e => (e.1, e.2.restart)) }) ∧
        Sys2Proof.Machine.exec .hostifEnable s = .next ((c.drainCpl c.host.cplBuf.length).drainEvt c.host.evtBuf.length)) ∧
  (∀ (s : State) (r : Nat) (x pay : Access),
      s.entryRuns r = true →
      s.fetching = true →
      (s.sctx r).entry = [] →
      s.rd (HOSTIF.SCTX_PROD r) ≠ s.rd (HOSTIF.SCTX_CONS r) →
      x.status = 0 →
      Sys2Proof.Machine.exec (.streamEntry r x pay) s = .next (((s.hostBoundary.takeEntry r ((List.range 16).map (wordAt x.words))).runEntry r pay).unreachRun)) ∧
  (∀ (s : State) (r : Nat) (x pay : Access),
      s.entryRuns r = true →
      (s.sctx r).entry ≠ [] →
      Sys2Proof.Machine.exec (.streamEntry r x pay) s = .next ((s.runEntry r pay).unreachRun)) ∧
  (∀ (s : State) (r : Nat) (x pay : Access),
      s.entryRuns r = true →
      s.fetching = true →
      (s.sctx r).entry = [] →
      s.rd (HOSTIF.SCTX_PROD r) ≠ s.rd (HOSTIF.SCTX_CONS r) →
      x.status ≠ 0 →
      Sys2Proof.Machine.exec (.streamEntry r x pay) s = .next (s.haltStream r)) ∧
  (∀ (s : State) (r : Nat) (x pay : Access),
      s.entryRuns r = false →
      Sys2Proof.Machine.exec (.streamEntry r x pay) s = .next s) ∧
  (∀ (s : State) (r : Nat) (q : List Byte) (bad : Bool) (n : Nat),
      (s.sctx r).entry ≠ [] →
      (s.sctx r).halted = false →
      (s.sctx r).phase = 0 →
      (s.sctx r).begun = true →
      (s.sctx r).moved < entLines (s.sctx r).entry →
      dstSlots (s.sctx r).dst ≤ filled (s.sctx r).line (s.ctxCons r) →
      s.moveLines r q bad (n + 1) = (s.raise (HOSTIF.SSTAT.WAIT r))) ∧
  (∀ (s : State) (r : Nat),
      s.entryRuns r = true →
      s.flag (HOSTIF.SSTAT.WAIT r) = true →
      s.ctxNode r ≠ s.nodeId →
      Sys2Proof.Machine.exec (.streamPoll r) s = .next (((s.onSctx r (fun k => { k with phase := 3 })).sendRd (s.ctxNode r) (HOSTIF.SDELIV (s.ctxRing r)) 3 (.stream r)).unreachRun)) ∧
  (∀ (s : State) (off : Nat) (write : Bool) (n : Nat) (data : List Nat) (x : Access),
      s.root = true →
      off / 2 ^ 26 < 16 →
      s.flag (HOSTIF.CULV_MAP.VALID (off / 2 ^ 26)) = false →
      write = false →
      Sys2Proof.Machine.exec (.culvertAccess off write n data x) s = .next (s.culvReturn (List.replicate n 0xFF#8))) ∧
  (∀ (s : State) (off : Nat) (n : Nat) (data : List Nat) (x : Access),
      s.root = true →
      off / 2 ^ 26 < 16 →
      s.flag (HOSTIF.CULV_MAP.VALID (off / 2 ^ 26)) = true →
      s.get (HOSTIF.CULV_MAP.NODE (off / 2 ^ 26)) = s.nodeId →
      Sys2Proof.Machine.exec (.culvertAccess off false n data x) s = .next (s.culvReadHere (off / 2 ^ 26) (s.get (HOSTIF.CULV_MAP.BASE (off / 2 ^ 26)) * 2 ^ 26 + off % 2 ^ 26) n x)) ∧
  (∀ (s : State) (off : Nat) (n : Nat) (data : List Nat) (x : Access),
      s.root = true →
      off / 2 ^ 26 < 16 →
      s.flag (HOSTIF.CULV_MAP.VALID (off / 2 ^ 26)) = true →
      s.get (HOSTIF.CULV_MAP.NODE (off / 2 ^ 26)) = s.nodeId →
      Sys2Proof.Machine.exec (.culvertAccess off true n data x) s = .next (s.culvWriteHere (off / 2 ^ 26) (s.get (HOSTIF.CULV_MAP.BASE (off / 2 ^ 26)) * 2 ^ 26 + off % 2 ^ 26) (data.map (BitVec.ofNat 8)) x)) ∧
  (∀ (s : State) (off : Nat) (n : Nat) (data : List Nat) (x : Access),
      s.root = true →
      off / 2 ^ 26 < 16 →
      s.flag (HOSTIF.CULV_MAP.VALID (off / 2 ^ 26)) = true →
      s.get (HOSTIF.CULV_MAP.NODE (off / 2 ^ 26)) ≠ s.nodeId →
      Sys2Proof.Machine.exec (.culvertAccess off false n data x) s = .next (s.culvReadFar (off / 2 ^ 26) (s.get (HOSTIF.CULV_MAP.NODE (off / 2 ^ 26))) (s.get (HOSTIF.CULV_MAP.BASE (off / 2 ^ 26)) * 2 ^ 26 + off % 2 ^ 26) n).unreachRun) ∧
  (∀ (s : State) (off : Nat) (n : Nat) (data : List Nat) (x : Access),
      s.root = true →
      off / 2 ^ 26 < 16 →
      s.flag (HOSTIF.CULV_MAP.VALID (off / 2 ^ 26)) = true →
      s.get (HOSTIF.CULV_MAP.NODE (off / 2 ^ 26)) ≠ s.nodeId →
      Sys2Proof.Machine.exec (.culvertAccess off true n data x) s = .next (s.culvWriteFar (off / 2 ^ 26) (s.get (HOSTIF.CULV_MAP.NODE (off / 2 ^ 26))) (s.get (HOSTIF.CULV_MAP.BASE (off / 2 ^ 26)) * 2 ^ 26 + off % 2 ^ 26) (data.map (BitVec.ofNat 8))).unreachRun) ∧
  (∀ (s : State) (off : Nat) (n : Nat) (data : List Nat) (x : Access),
      off / 2 ^ 26 < 16 →
      s.flag (HOSTIF.CULV_MAP.VALID (off / 2 ^ 26)) = false →
      Sys2Proof.Machine.exec (.culvertAccess off true n data x) s = .next s)

/-- GO is ignored and flagged while the engine is not on (R350, R408). So it is while the channel runs, stops or is
quiesced. A list head off a multiple of 32 halts it with check code 4. One in space 3 to 15, or in space 1 off the
root, halts it with check code 3. There is no channel 16. GO on an idle, stopped or halted channel clears its cause
and fetches and starts the descriptor at CH_DESC. A descriptor that passes every check becomes the active set, and the
channel waits for a slot. One that fails a check halts the channel with its code, and is reported. Check code 1: an OP
that is not COPY, FILL, CMP or CMP_PAT. Check code 2: LEN is 0. COPY whose reads all succeed reads LEN bytes from SRC
and writes them to DST. One whose read fails has written only what was written before. So FILL; and CMP; and CMP_PAT.
FILL writes the pattern over LEN bytes. A byte of the pattern goes to the addresses of its place modulo 4. CMP
compares DST with SRC, each read by its own accesses. CMP_PAT compares DST with the pattern. A channel without a slot,
or with another OP, moves nothing. When every response is in, word 5 is written. Before that, and while the clock of
the engine is gated, it changes nothing. Word 5 holds DONE, the result and the bytes done. A mismatch halts the
channel with cause 4 and the address of the byte that differs. After the last descriptor the channel is idle. After
any other the next one starts. A channel affected by a power-down request starts none and is QUIESCED. A running
channel stops at its next descriptor boundary. A quiesced one stops at once, and CH_DESC names the descriptor it did
not start. One that holds no descriptor only stops. On any other it has no effect. A power-down request marks its
domains, and an affected channel that waits for a slot starts no descriptor. It is QUIESCED with that descriptor in
its shadow set. Channels that are not QUIESCED in time are aborted with cause 5. The model's own choices or readings,
which no rule of the spec states, are: a list head that is not aligned is code 4 without a read, STOP of a QUIESCED
channel acts at once, and END ends IDLE whatever STOP (log entry 56); when the data of a far read come (log entry 94). -/
def Obligations.DmaRuns : Prop :=
  (∀ (s : State) (n : Nat) (x : Access),
      n < 16 →
      s.blockOn DMA.CTL.EN 5 = false →
      Sys2Proof.Machine.exec (.chGo n x) s = .next (s.raise DMA.STATUS.WRITE_IGNORED)) ∧
  (∀ (s : State) (n : Nat) (x : Access),
      n < 16 →
      s.get (DMA.CH_STAT.STATE n) = dmaRunning ∨ s.get (DMA.CH_STAT.STATE n) = dmaStopping ∨ s.get (DMA.CH_STAT.STATE n) = dmaQuiesced →
      Sys2Proof.Machine.exec (.chGo n x) s = .next (s.raise DMA.STATUS.WRITE_IGNORED)) ∧
  (∀ (s : State) (n : Nat) (x : Access),
      n < 16 →
      s.blockOn DMA.CTL.EN 5 = true →
      s.get (DMA.CH_STAT.STATE n) = dmaIdle ∨ s.get (DMA.CH_STAT.STATE n) = dmaStopped ∨ s.get (DMA.CH_STAT.STATE n) = dmaHalted →
      s.rd64 (DMA.CH_DESC_LO n) (DMA.CH_DESC_HI n) % 32 ≠ 0 →
      s.badSpace (s.rd64 (DMA.CH_DESC_LO n) (DMA.CH_DESC_HI n)) = false →
      Sys2Proof.Machine.exec (.chGo n x) s = .next (((((s.put (DMA.CH_STAT.CAUSE n) 0).put (DMA.CH_STAT.XSTAT n) 0).put (DMA.CH_STAT.CODE n) 0).drop (DMA.CH_STAT.ERR_DIR n)).descErr n ⟨s.rd64 (DMA.CH_DESC_LO n) (DMA.CH_DESC_HI n), [], 0⟩ 4)) ∧
  (∀ (s : State) (n : Nat) (x : Access),
      n < 16 →
      s.blockOn DMA.CTL.EN 5 = true →
      s.get (DMA.CH_STAT.STATE n) = dmaIdle ∨ s.get (DMA.CH_STAT.STATE n) = dmaStopped ∨ s.get (DMA.CH_STAT.STATE n) = dmaHalted →
      s.badSpace (s.rd64 (DMA.CH_DESC_LO n) (DMA.CH_DESC_HI n)) = true →
      Sys2Proof.Machine.exec (.chGo n x) s = .next (((((s.put (DMA.CH_STAT.CAUSE n) 0).put (DMA.CH_STAT.XSTAT n) 0).put (DMA.CH_STAT.CODE n) 0).drop (DMA.CH_STAT.ERR_DIR n)).descErr n ⟨s.rd64 (DMA.CH_DESC_LO n) (DMA.CH_DESC_HI n), [], 0⟩ 3)) ∧
  (∀ (s : State) (n : Nat) (x : Access),
      16 ≤ n →
      Sys2Proof.Machine.exec (.chGo n x) s = .next s) ∧
  (∀ (s : State) (n : Nat) (x : Access),
      n < 16 →
      s.blockOn DMA.CTL.EN 5 = true →
      s.get (DMA.CH_STAT.STATE n) = dmaIdle ∨ s.get (DMA.CH_STAT.STATE n) = dmaStopped ∨ s.get (DMA.CH_STAT.STATE n) = dmaHalted →
      s.rd64 (DMA.CH_DESC_LO n) (DMA.CH_DESC_HI n) % 32 = 0 →
      s.badSpace (s.rd64 (DMA.CH_DESC_LO n) (DMA.CH_DESC_HI n)) = false →
      Sys2Proof.Machine.exec (.chGo n x) s = .next (((((((s.put (DMA.CH_STAT.CAUSE n) 0).put (DMA.CH_STAT.XSTAT n) 0).put (DMA.CH_STAT.CODE n) 0).drop (DMA.CH_STAT.ERR_DIR n)).readDesc (s.rd64 (DMA.CH_DESC_LO n) (DMA.CH_DESC_HI n)) x).1.startDesc n
        ((((((s.put (DMA.CH_STAT.CAUSE n) 0).put (DMA.CH_STAT.XSTAT n) 0).put (DMA.CH_STAT.CODE n) 0).drop (DMA.CH_STAT.ERR_DIR n)).readDesc (s.rd64 (DMA.CH_DESC_LO n) (DMA.CH_DESC_HI n)) x).2)))) ∧
  (∀ (s : State) (n : Nat) (d : DmaDesc),
      s.dmaCode d = 0 →
      s.namesDomain s.dma.down d = false →
      s.startDesc n d = (((((s.loadB (DMA.CH_CTL n) (DMA.CH_CTL n + 4)).showSet n d).setCh n dmaRunning).onDmaCh n (fun c => { active := some d, slot := c.slot })).settleDma)) ∧
  (∀ (s : State) (n : Nat) (d : DmaDesc),
      s.dmaCode d ≠ 0 →
      s.startDesc n d = (s.descErr n d (s.dmaCode d))) ∧
  (∀ (s : State) (d : DmaDesc),
      d.status = 0 →
      d.op = 0 ∨ 5 ≤ d.op →
      s.dmaCode d = 1) ∧
  (∀ (s : State) (d : DmaDesc),
      d.status = 0 →
      1 ≤ d.op →
      d.op ≤ 4 →
      d.len = 0 →
      s.dmaCode d = 2) ∧
  (∀ (s : State) (n : Nat) (x : Access) (env : BusEnv) (nx : Access) (sent : Nat) (d : DmaDesc),
      s.dmaTask n 1 = some d →
      ((s.fetchShadow n d nx).dmaRead d.src d.src d.len x).fail = none →
      Sys2Proof.Machine.exec (.dmaCopy n x env nx sent) s = .next ((((s.fetchShadow n d nx).dmaRead d.src d.src d.len x).s.putData n d ((s.fetchShadow n d nx).dmaRead d.src d.src d.len x).data none env))) ∧
  (∀ (s : State) (n : Nat) (x : Access) (env : BusEnv) (nx : Access) (sent : Nat) (d : DmaDesc),
      s.dmaTask n 1 = some d →
      ((s.fetchShadow n d nx).dmaRead d.src d.src d.len x).fail ≠ none →
      Sys2Proof.Machine.exec (.dmaCopy n x env nx sent) s = .next ((((s.fetchShadow n d nx).dmaRead d.src d.src d.len x).s.putData n d (((s.fetchShadow n d nx).dmaRead d.src d.src d.len x).data.take sent) ((s.fetchShadow n d nx).dmaRead d.src d.src d.len x).fail env))) ∧
  (∀ (s : State) (n : Nat) (env : BusEnv) (nx : Access),
      s.dmaTask n 2 = none →
      Sys2Proof.Machine.exec (.dmaFill n env nx) s = .next s) ∧
  (∀ (s : State) (n : Nat) (x y nx : Access),
      s.dmaTask n 3 = none →
      Sys2Proof.Machine.exec (.dmaCmp n x y nx) s = .next s) ∧
  (∀ (s : State) (n : Nat) (y nx : Access),
      s.dmaTask n 4 = none →
      Sys2Proof.Machine.exec (.dmaCmpPat n y nx) s = .next s) ∧
  (∀ (s : State) (n : Nat) (env : BusEnv) (nx : Access) (d : DmaDesc),
      s.dmaTask n 2 = some d →
      Sys2Proof.Machine.exec (.dmaFill n env nx) s = .next ((s.fetchShadow n d nx).putData n d (d.fill d.len) none env)) ∧
  (∀ (d : DmaDesc) (m : Nat),
      d.fill m = (List.range m).map (fun i => d.pattern.extractLsb' (8 * ((d.dst + i) % 4)) 8)) ∧
  (∀ (s : State) (n : Nat) (x y nx : Access) (d : DmaDesc),
      s.dmaTask n 3 = some d →
      Sys2Proof.Machine.exec (.dmaCmp n x y nx) s = .next (State.compared n d ((s.fetchShadow n d nx).compareDst d y { base := d.src, todo := (s.fetchShadow n d nx).accesses d.src d.len, x := x }))) ∧
  (∀ (s : State) (n : Nat) (y nx : Access) (d : DmaDesc),
      s.dmaTask n 4 = some d →
      Sys2Proof.Machine.exec (.dmaCmpPat n y nx) s = .next (State.compared n d ((s.fetchShadow n d nx).compareDst d y { buf := d.fill d.len }))) ∧
  (∀ (s : State) (n : Nat) (x : Access) (env : BusEnv) (nx : Access) (sent : Nat),
      s.dmaTask n 1 = none →
      Sys2Proof.Machine.exec (.dmaCopy n x env nx sent) s = .next s) ∧
  (∀ (s : State) (n : Nat) (env : BusEnv) (d : DmaDesc),
      n < 16 →
      (s.dmaCh n).active = some d →
      (s.dmaCh n).phase = 2 →
      s.domainRuns 9 = true →
      Sys2Proof.Machine.exec (.descriptorComplete n env) s = .next (s.putWord5 n d env)) ∧
  (∀ (s : State) (n : Nat) (env : BusEnv),
      (s.dmaCh n).phase ≠ 2 ∨ (s.dmaCh n).active = none ∨ 16 ≤ n ∨ s.domainRuns 9 = false →
      Sys2Proof.Machine.exec (.descriptorComplete n env) s = .next s) ∧
  (∀ (s : State) (n : Nat),
      (s.dmaCh n).word5 = w32 (2 ^ 31 + (if (s.dmaCh n).fail.isSome then 2 else if (s.dmaCh n).mismatch then 1 else 0) * 2 ^ 28 + (s.dmaCh n).okTo % 2 ^ 24)) ∧
  (∀ (s : State) (n : Nat) (d : DmaDesc),
      (s.dmaCh n).fail = none →
      (s.dmaCh n).mismatch = true →
      s.dmaWord5Done n d 0 = (((s.bump (wordFld (DMA.CH_BYTE_CNT n)) (s.dmaCh n).okTo).wr64 (DMA.CH_ERR_LO n) (DMA.CH_ERR_HI n) (d.dst + (s.dmaCh n).okTo)).dmaHalt n 4 Src.DMA_MISMATCH)) ∧
  (∀ (s : State) (n : Nat) (d : DmaDesc),
      d.endBit = true →
      s.dmaBoundary n d = s.leaveDma n dmaIdle) ∧
  (∀ (s : State) (n : Nat) (d e : DmaDesc),
      d.endBit = false →
      (s.dmaCh n).stop = false →
      (s.dmaCh n).shadow = some e →
      s.affected n = false →
      s.dmaBoundary n d = (s.yieldSlot n).startDesc n e) ∧
  (∀ (s : State) (n : Nat) (d e : DmaDesc),
      d.endBit = false →
      (s.dmaCh n).stop = false →
      (s.dmaCh n).shadow = some e →
      s.affected n = true →
      s.dmaBoundary n d = ((s.setCh n dmaQuiesced).onDmaCh n (fun _ => { shadow := some e })).settleDma) ∧
  (∀ (s : State) (n : Nat),
      n < 16 →
      s.get (DMA.CH_STAT.STATE n) = 1 →
      Sys2Proof.Machine.exec (.chStop n) s = .next ((s.setCh n dmaStopping).onDmaCh n (fun c => { c with stop := true }))) ∧
  (∀ (s : State) (n : Nat) (d : DmaDesc),
      n < 16 →
      s.get (DMA.CH_STAT.STATE n) = 5 →
      (s.dmaCh n).shadow = some d →
      Sys2Proof.Machine.exec (.chStop n) s = .next (((s.wr64 (DMA.CH_DESC_LO n) (DMA.CH_DESC_HI n) d.addr)).leaveDma n dmaStopped)) ∧
  (∀ (s : State) (n : Nat),
      n < 16 →
      s.get (DMA.CH_STAT.STATE n) = 5 →
      (s.dmaCh n).shadow = none →
      Sys2Proof.Machine.exec (.chStop n) s = .next (s.leaveDma n dmaStopped)) ∧
  (∀ (s : State) (n : Nat),
      s.get (DMA.CH_STAT.STATE n) ≠ 1 →
      s.get (DMA.CH_STAT.STATE n) ≠ 5 →
      Sys2Proof.Machine.exec (.chStop n) s = .next s) ∧
  (∀ (s : State) (mask : Nat),
      Sys2Proof.Machine.exec (.quiesceRequest mask) s = .next ((((s.onDma (fun d => { d with down := d.down ||| mask % 1024 })).raise DMA.STATUS.QUIESCING)).each
        ((((s.onDma (fun d => { d with down := d.down ||| mask % 1024 })).raise DMA.STATUS.QUIESCING).slotWaiters).filter
          ((s.onDma (fun d => { d with down := d.down ||| mask % 1024 })).raise DMA.STATUS.QUIESCING).affected) (fun n t => t.holdWaiting n))) ∧
  (∀ (s : State) (n : Nat) (d : DmaDesc),
      (s.dmaCh n).active = some d →
      (s.dmaCh n).stop = false →
      s.holdWaiting n = ((s.setCh n dmaQuiesced).onDmaCh n (fun _ => { shadow := some d })).settleDma) ∧
  (∀ (s : State),
      s.flag DMA.STATUS.QUIESCING = true →
      Sys2Proof.Machine.exec .pdQuiesceTmo s = .next (s.each ((List.range 16).filter (fun n => s.affected n && s.dmaBusy n)) (fun n u => u.powerAbort n)))

/-- A destructive test of banks that are urgent or not offline is refused, and named. A preserving test starts at the
first selected bank. So does a destructive test whose banks are all offline and none urgent. An engine that is on
stays as it is. Nothing is tested while the engine is not on. A port access meets no test then, or in destructive
mode. A preserving window reports the words that failed in it, keeps its contents, and the next follows. A destructive
test of a bank leaves it at 0 and every other byte as it was. A port access ends the test of the window, which is
tried again. The first one in a window, also where the march has moved on to another bank, counts as the first. The
sixteenth in a row skips it. Enabling the controller starts training and the wipe. A controller that is on is not
enabled again. Training ends only while it runs on a locked clock. Training that fails on a channel is reported.
Training that succeeds leaves the DRAM at 0, READY, with its fitted capacity. A scrub that meets no error moves on to
the next 4 KB block, and after the last to the first. A scrub counts, and for uncorrectable ones reports, each error
it meets in its block, and moves on. No scrub runs in self-refresh. The end of the wipe of a part leaves it at 0 and
shows it; when all are done the management core is released. So does that of the DRAM while its controller trains. A
part that is wiped already is left as it is, and so is the DRAM without training; while internal reset is held no wipe
ends. A wiped SRAM reads 0 everywhere, and nothing else changes. The model's own choices or readings, which no rule of
the spec states, are: the start at the first selected bank, one command for each window, and the wrap of the scrub
(log entry 58). -/
def Obligations.MemoryCare : Prop :=
  (∀ (s : State),
      s.flag MEMC.MARCH_CTL.EN = false →
      s.flag MEMC.MARCH_CTL.MODE = true →
      (bitsOf 32 (s.get MEMC.MARCH_BANKS.BANK)).filter (fun b => bit (s.get MEMC.URGENT.BANK) b || !bit (s.get MEMC.OFFLINE.BANK) b) ≠ [] →
      Sys2Proof.Machine.exec .marchEnable s = .next (s.reportOnce MEMC.STATUS.CFG_ERR Src.MEM_CFG 0 ((((bitsOf 32 (s.get MEMC.MARCH_BANKS.BANK)).filter (fun b => bit (s.get MEMC.URGENT.BANK) b || !bit (s.get MEMC.OFFLINE.BANK) b)).map (2 ^ ·)).foldl (· + ·) 0))) ∧
  (∀ (s : State),
      s.flag MEMC.MARCH_CTL.EN = false →
      s.flag MEMC.MARCH_CTL.MODE = false →
      Sys2Proof.Machine.exec .marchEnable s = .next (((s.enableBlock MEMC.MARCH_CTL.EN 0 7).raise MEMC.MARCH_STAT.BUSY).setMarchPos (s.marchBanks.headD 0) 0)) ∧
  (∀ (s : State),
      s.flag MEMC.MARCH_CTL.EN = false →
      (bitsOf 32 (s.get MEMC.MARCH_BANKS.BANK)).filter (fun b => bit (s.get MEMC.URGENT.BANK) b || !bit (s.get MEMC.OFFLINE.BANK) b) = [] →
      Sys2Proof.Machine.exec .marchEnable s = .next (((s.enableBlock MEMC.MARCH_CTL.EN 0 7).raise MEMC.MARCH_STAT.BUSY).setMarchPos (s.marchBanks.headD 0) 0)) ∧
  (∀ (s : State),
      s.flag MEMC.MARCH_CTL.EN = true →
      Sys2Proof.Machine.exec .marchEnable s = .next s) ∧
  (∀ (s : State) (fails : List (Nat × (Word × Nat))),
      s.blockOn MEMC.MARCH_CTL.EN 7 = false →
      Sys2Proof.Machine.exec (.marchWindow fails) s = .next s) ∧
  (∀ (s : State),
      s.blockOn MEMC.MARCH_CTL.EN 7 = false ∨ s.flag MEMC.MARCH_CTL.MODE = true →
      Sys2Proof.Machine.exec .marchYield s = .next s) ∧
  (∀ (s : State) (fails : List (Nat × (Word × Nat))) (b w : Nat),
      s.blockOn MEMC.MARCH_CTL.EN 7 = true →
      s.flag MEMC.MARCH_CTL.MODE = false →
      s.marchPlace = some (b, w) →
      Sys2Proof.Machine.exec (.marchWindow fails) s = .next ((s.each (fails.filter (fun f => bankBase b + 256 * w ≤ f.1 && f.1 < bankBase b + 256 * w + 256)) (fun f t => t.marchFail f)).marchStep b w)) ∧
  (∀ (s : State) (fails : List (Nat × (Word × Nat))) (b w : Nat),
      s.Inv →
      s.blockOn MEMC.MARCH_CTL.EN 7 = true →
      s.flag MEMC.MARCH_CTL.MODE = true →
      s.marchPlace = some (b, w) →
      ∃ t, Sys2Proof.Machine.exec (.marchWindow fails) s = .next t ∧
        (∀ a, t.byte a = if bankBase b ≤ a ∧ a < bankBase (b + 1) then 0#8 else s.byte a)) ∧
  (∀ (s : State) (b w : Nat),
      s.blockOn MEMC.MARCH_CTL.EN 7 = true →
      s.flag MEMC.MARCH_CTL.MODE = false →
      s.marchPlace = some (b, w) →
      s.memc.yields < 15 →
      s.get MEMC.MARCH_POS.BANK = b →
      s.get MEMC.MARCH_POS.WINDOW = w →
      Sys2Proof.Machine.exec .marchYield s = .next ((((s.put MEMC.MARCH_POS.BANK b).put MEMC.MARCH_POS.WINDOW w).bump (wordFld MEMC.YIELD_CNT)).onMem (fun m => { m with yields := s.memc.yields + 1 }))) ∧
  (∀ (s : State) (b w : Nat),
      s.blockOn MEMC.MARCH_CTL.EN 7 = true →
      s.flag MEMC.MARCH_CTL.MODE = false →
      s.marchPlace = some (b, w) →
      s.get MEMC.MARCH_POS.BANK ≠ b ∨ s.get MEMC.MARCH_POS.WINDOW ≠ w →
      Sys2Proof.Machine.exec .marchYield s = .next ((((s.put MEMC.MARCH_POS.BANK b).put MEMC.MARCH_POS.WINDOW w).bump (wordFld MEMC.YIELD_CNT)).onMem (fun m => { m with yields := 1 }))) ∧
  (∀ (s : State) (b w : Nat),
      s.blockOn MEMC.MARCH_CTL.EN 7 = true →
      s.flag MEMC.MARCH_CTL.MODE = false →
      s.marchPlace = some (b, w) →
      15 ≤ s.memc.yields →
      s.get MEMC.MARCH_POS.BANK = b →
      s.get MEMC.MARCH_POS.WINDOW = w →
      Sys2Proof.Machine.exec .marchYield s = .next (((((s.put MEMC.MARCH_POS.BANK b).put MEMC.MARCH_POS.WINDOW w).bump (wordFld MEMC.YIELD_CNT)).bump (wordFld MEMC.SKIP_CNT)).marchStep b w)) ∧
  (∀ (s : State),
      s.flag DRAMC.CTL.EN = false →
      Sys2Proof.Machine.exec .dramEnable s = .next ((s.enableBlock DRAMC.CTL.EN 3 8).onMem (fun m => { m with training := true }))) ∧
  (∀ (s : State),
      s.flag DRAMC.CTL.EN = true →
      Sys2Proof.Machine.exec .dramEnable s = .next s) ∧
  (∀ (s : State) (bad : Nat),
      s.memc.training = false ∨ s.pmu.waiting.contains 8 = true →
      Sys2Proof.Machine.exec (.dramReady bad) s = .next s) ∧
  (∀ (s : State) (bad : Nat),
      s.memc.training = true →
      s.pmu.waiting.contains 8 = false →
      bad % 4 ≠ 0 →
      Sys2Proof.Machine.exec (.dramReady bad) s = .next ((s.onMem (fun m => { m with training := false })).reportOnce DRAMC.STATUS.TRAIN_FAIL Src.DRAM_TRAIN (if bad % 2 = 1 then 0 else 1) 0)) ∧
  (∀ (s : State),
      s.memc.training = true →
      s.pmu.waiting.contains 8 = false →
      Sys2Proof.Machine.exec (.dramReady 0) s = .next (State.releaseCore ((((((s.onMem (fun m => { m with training := false })).wipePart 4).raise MEMC.WIPE_STAT.DRAM).drop MEMC.WIPE_STAT.DRAM_SKIP).raise DRAMC.STATUS.READY).put DRAMC.CAP.SIZE (32 * 2 ^ ((((s.onMem (fun m => { m with training := false })).wipePart 4).raise MEMC.WIPE_STAT.DRAM).drop MEMC.WIPE_STAT.DRAM_SKIP).get DRAMC.CFG.DENSITY)).wipeSum s)) ∧
  (∀ (s : State),
      s.flag DRAMC.SCRUB_CFG.EN = true →
      s.flag DRAMC.STATUS.READY = true →
      s.flag DRAMC.STATUS.SELF_REFRESH = false →
      Sys2Proof.Machine.exec (.scrub { }) s = .next (s.put DRAMC.SCRUB_POS.BLOCK (if s.get DRAMC.SCRUB_POS.BLOCK + 1 < s.get DRAMC.CAP.SIZE * 16384 then s.get DRAMC.SCRUB_POS.BLOCK + 1 else 0))) ∧
  (∀ (s : State) (x : Access),
      s.flag DRAMC.SCRUB_CFG.EN = true →
      s.flag DRAMC.STATUS.READY = true →
      s.flag DRAMC.STATUS.SELF_REFRESH = false →
      Sys2Proof.Machine.exec (.scrub x) s = .next (((s.each (x.ce.filter (fun w => 0x8000000000 + 4096 * s.get DRAMC.SCRUB_POS.BLOCK ≤ w && w < 0x8000000000 + 4096 * s.get DRAMC.SCRUB_POS.BLOCK + 4096 && s.region w == .dram)) (fun w t => t.corrected w)).each
        (x.ue.filter (fun w => 0x8000000000 + 4096 * s.get DRAMC.SCRUB_POS.BLOCK ≤ w && w < 0x8000000000 + 4096 * s.get DRAMC.SCRUB_POS.BLOCK + 4096 && s.region w == .dram)) (fun w t => t.uncorrectable w)).put DRAMC.SCRUB_POS.BLOCK
        (if s.get DRAMC.SCRUB_POS.BLOCK + 1 < s.get DRAMC.CAP.SIZE * 16384 then s.get DRAMC.SCRUB_POS.BLOCK + 1 else 0))) ∧
  (∀ (s : State) (x : Access),
      s.flag DRAMC.STATUS.SELF_REFRESH = true →
      Sys2Proof.Machine.exec (.scrub x) s = .next s) ∧
  (∀ (s : State) (part : Nat),
      part < 4 →
      s.flag (wipeFld part) = false →
      s.held = false →
      Sys2Proof.Machine.exec (.wipeComplete part) s = .next (State.releaseCore (((s.wipePart part).raise (wipeFld part)).wipeSum) s)) ∧
  (∀ (s : State) (part : Nat),
      part = 4 →
      s.flag (wipeFld part) = false →
      s.memc.training = true →
      s.held = false →
      Sys2Proof.Machine.exec (.wipeComplete part) s = .next (State.releaseCore (((s.wipePart part).raise (wipeFld part)).wipeSum) s)) ∧
  (∀ (s : State) (part : Nat),
      s.flag (wipeFld part) = true ∨ part = 4 ∧ s.memc.training = false ∨ 5 ≤ part ∨ s.held = true →
      Sys2Proof.Machine.exec (.wipeComplete part) s = .next s) ∧
  (∀ (s : State),
      ∀ a, (s.wipePart 0).byte a = if 0x10000000 ≤ a ∧ a < 0x10800000 then 0#8 else s.byte a)

/-- A device reset puts everything at its reset value and is then released with its cause. It releases no reset that the
supplies, TEST_EN or DRY hold. There are five causes. After it every byte of memory reads 0 (for the bytes of the DRAM
before its wipe this is the model's choice, log entry 70), and the queue of commands stays. RST_CTL with DEVICE and
the key is a device reset with cause SW_DEVICE. Without the key or the bit it does nothing. A device that waits after
its dump resets itself when RST_TMO says so. It does not while the dump goes on, or with RST_TMO 0. The ROM waits
while a channel that the reset stopped is still STOPPING. Then it looks for the image again. RST_CTL.CORE resets the
management core alone, with its cause. An expired watchdog whose escalation is off or not reached yet counts, reports
and resets the core, and starts its count again. After ESC_N expiries it escalates to a fatal error. It stands while
it is off or a dump runs. A host boot of no bytes ends with a length error. One whose read fails ends with an error.
The image goes to the boot window, and its check begins. A GO that the ROM does not wait for, or off the root, does
nothing. A check shows stage 7 and CHECKING until it ends. At its end a sound image from the host is entered; another
ends with SIG_FAIL. An image whose header, key or signature is wrong is refused, and the TCMs are cleared. BOOT_CTL
without GO takes the length. So does one with GO outside boot mode. A fabric boot of no bytes ends with a length
error, and the window is cleared. Otherwise the check of the image in the window begins. At its end a sound image is
entered, boot mode ends and ACCESS is at its reset value; another ends with SIG_FAIL and a cleared window. The model's
own choices or readings, which no rule of the spec states, are: what a device reset keeps (log entry 61); a failed
HBOOT read is code 3, and the ROM waits for stopping channels (log entry 62); the count starts again at expiry (log
entry 64); what acts while reset is held (log entry 67); bytes of local memory never written (log entry 70). -/
def Obligations.ResetsAndBoot : Prop :=
  (∀ (s : State) (cause : Nat) (e : ResetEnv),
      s.held = false →
      cause < 5 →
      Sys2Proof.Machine.exec (.deviceReset cause e) s = .next ((s.assertReset e.cut).release cause e)) ∧
  (∀ (s : State) (cause : Nat) (e : ResetEnv),
      s.held = true →
      Sys2Proof.Machine.exec (.deviceReset cause e) s = .next s) ∧
  (∀ (s : State) (cause : Nat) (e : ResetEnv),
      5 ≤ cause →
      Sys2Proof.Machine.exec (.deviceReset cause e) s = .next s) ∧
  (∀ (s : State) (cause : Nat) (e : ResetEnv),
      s.Inv →
      cause < 5 →
      s.held = false →
      ∃ t, Sys2Proof.Machine.exec (.deviceReset cause e) s = .next t ∧
        (t.pending = s.pending ∧ ∀ a, t.byte a = 0#8)) ∧
  (∀ (s : State) (v : Nat) (e : ResetEnv),
      bit v 31 = true →
      v % 65536 = 0xD5EC →
      Sys2Proof.Machine.exec (.rstDevice v e) s = .next (s.deviceReset 2 e)) ∧
  (∀ (s : State) (v : Nat) (e : ResetEnv),
      v % 65536 ≠ 0xD5EC ∨ bit v 31 = false →
      Sys2Proof.Machine.exec (.rstDevice v e) s = .next s) ∧
  (∀ (s : State) (e : ResetEnv),
      s.flag SYS.SUMP_STAT.ACTIVE = true →
      s.sys.sumpEnded = true →
      s.get SYS.SUMP_CTL.RST_TMO ≠ 0 →
      Sys2Proof.Machine.exec (.rstTmo e) s = .next (s.deviceReset 2 e)) ∧
  (∀ (s : State) (e : ResetEnv),
      s.flag SYS.SUMP_STAT.ACTIVE = false ∨ s.sys.sumpEnded = false ∨ s.get SYS.SUMP_CTL.RST_TMO = 0 →
      Sys2Proof.Machine.exec (.rstTmo e) s = .next s) ∧
  (∀ (s : State) (l : List Nat),
      s.sys.romFor = some l →
      l.any (fun n => s.get (DMA.CH_STAT.STATE n) == dmaStopping) = true →
      s.romResume = s) ∧
  (∀ (s : State) (l : List Nat),
      s.sys.romFor = some l →
      l.any (fun n => s.get (DMA.CH_STAT.STATE n) == dmaStopping) = false →
      s.romResume = (s.onSys (fun y => { y with romFor := none })).romAgain) ∧
  (∀ (s : State),
      Sys2Proof.Machine.exec .rstCore s = .next ((s.raise SYS.RST_CAUSE.SW_CORE).coreReset)) ∧
  (∀ (s : State),
      s.flag SYS.WDT_CTL.EN = true →
      s.flag SYS.SUMP_STAT.ACTIVE = false →
      (s.bump SYS.WDT_STAT.RESETS).get SYS.WDT_CTL.ESC_N = 0 ∨ (s.bump SYS.WDT_STAT.RESETS).get SYS.WDT_STAT.RESETS < (s.bump SYS.WDT_STAT.RESETS).get SYS.WDT_CTL.ESC_N →
      Sys2Proof.Machine.exec .wdtExpired s = .next ((((s.bump SYS.WDT_STAT.RESETS).report Src.WDT_EXPIRED 0 ((s.bump SYS.WDT_STAT.RESETS).get SYS.WDT_STAT.RESETS)).wdtRestart.raise SYS.RST_CAUSE.WDT).coreReset)) ∧
  (∀ (s : State),
      s.flag SYS.WDT_CTL.EN = true →
      s.flag SYS.SUMP_STAT.ACTIVE = false →
      (s.bump SYS.WDT_STAT.RESETS).get SYS.WDT_CTL.ESC_N ≠ 0 →
      (s.bump SYS.WDT_STAT.RESETS).get SYS.WDT_CTL.ESC_N ≤ (s.bump SYS.WDT_STAT.RESETS).get SYS.WDT_STAT.RESETS →
      Sys2Proof.Machine.exec .wdtExpired s = .next ((s.bump SYS.WDT_STAT.RESETS).reportSev Src.WDT_EXPIRED 3 0 ((s.bump SYS.WDT_STAT.RESETS).get SYS.WDT_STAT.RESETS))) ∧
  (∀ (s : State),
      s.flag SYS.WDT_CTL.EN = false ∨ s.flag SYS.SUMP_STAT.ACTIVE = true →
      Sys2Proof.Machine.exec .wdtExpired s = .next s) ∧
  (∀ (s : State) (x : Access),
      s.root = true →
      s.romWaits = true →
      s.get OTP.HBOOT_LEN.LEN = 0 →
      Sys2Proof.Machine.exec (.hbootGo x) s = .next (s.wr OTP.HBOOT_STAT 4#32)) ∧
  (∀ (s : State) (x : Access),
      s.root = true →
      s.romWaits = true →
      1 ≤ s.get OTP.HBOOT_LEN.LEN →
      x.status ≠ 0 →
      Sys2Proof.Machine.exec (.hbootGo x) s = .next (s.wr OTP.HBOOT_STAT 3#32)) ∧
  (∀ (s : State) (x : Access),
      s.root = true →
      s.romWaits = true →
      1 ≤ s.get OTP.HBOOT_LEN.LEN →
      x.status = 0 →
      Sys2Proof.Machine.exec (.hbootGo x) s = .next ((s.setBytes 0x10000000 (imgBytes (wordsBytes x.words) 0 (s.get OTP.HBOOT_LEN.LEN))).checkBegin true (s.get OTP.HBOOT_LEN.LEN))) ∧
  (∀ (s : State) (x : Access),
      s.root = false ∨ s.romWaits = false →
      Sys2Proof.Machine.exec (.hbootGo x) s = .next s) ∧
  (∀ (s : State) (b : Bool) (n : Nat),
      s.checkBegin b n = (((s.put SYS.BOOT_STAT.STAGE 7).onSys (fun y => { y with romCheck := some (b, n) })).wr (if b then OTP.HBOOT_STAT else FAB.BOOT_STAT) 1#32)) ∧
  (∀ (s : State) (n : Nat),
      s.sys.romCheck = some (true, n) →
      s.checkEnd = (if ((s.onSys (fun y => { y with romCheck := none })).tryImage (s.bytes 0x10000000 n)).2 = true then
          ((s.onSys (fun y => { y with romCheck := none })).tryImage (s.bytes 0x10000000 n)).1.wr OTP.HBOOT_STAT 2#32
        else ((((s.onSys (fun y => { y with romCheck := none })).tryImage (s.bytes 0x10000000 n)).1.put SYS.BOOT_STAT.FAIL 1).put SYS.BOOT_STAT.STAGE 6).wr OTP.HBOOT_STAT 3#32)) ∧
  (∀ (s : State) (img : List Byte),
      (imgHeaderOk img && (s.put SYS.BOOT_STAT.STAGE 7).imgKeyOk img && imgSigOk img) = false →
      s.tryImage img = ((s.put SYS.BOOT_STAT.STAGE 7).clearTcm, false)) ∧
  (∀ (s : State) (v : Nat),
      bit v 31 = false →
      Sys2Proof.Machine.exec (.bootGo v) s = .next (s.put FAB.BOOT_CTL.LEN v)) ∧
  (∀ (s : State) (v : Nat),
      (s.put FAB.BOOT_CTL.LEN v).flag FAB.STATUS.BOOT_MODE = false ∨ (s.put FAB.BOOT_CTL.LEN v).romWaits = false →
      Sys2Proof.Machine.exec (.bootGo v) s = .next (s.put FAB.BOOT_CTL.LEN v)) ∧
  (∀ (s : State) (v : Nat),
      bit v 31 = true →
      (s.put FAB.BOOT_CTL.LEN v).flag FAB.STATUS.BOOT_MODE = true →
      (s.put FAB.BOOT_CTL.LEN v).romWaits = true →
      (s.put FAB.BOOT_CTL.LEN v).get FAB.BOOT_CTL.LEN = 0 →
      Sys2Proof.Machine.exec (.bootGo v) s = .next ((((s.put FAB.BOOT_CTL.LEN v)).clearWindow).wr FAB.BOOT_STAT 4#32)) ∧
  (∀ (s : State) (v : Nat),
      bit v 31 = true →
      (s.put FAB.BOOT_CTL.LEN v).flag FAB.STATUS.BOOT_MODE = true →
      (s.put FAB.BOOT_CTL.LEN v).romWaits = true →
      1 ≤ (s.put FAB.BOOT_CTL.LEN v).get FAB.BOOT_CTL.LEN →
      Sys2Proof.Machine.exec (.bootGo v) s = .next ((s.put FAB.BOOT_CTL.LEN v).checkBegin false ((s.put FAB.BOOT_CTL.LEN v).get FAB.BOOT_CTL.LEN))) ∧
  (∀ (s : State) (n : Nat),
      s.sys.romCheck = some (false, n) →
      s.checkEnd = (if ((s.onSys (fun y => { y with romCheck := none })).tryImage (s.bytes 0x10000000 n)).2 = true then
          (((((s.onSys (fun y => { y with romCheck := none })).tryImage (s.bytes 0x10000000 n)).1.wr FAB.BOOT_STAT 2#32).drop FAB.STATUS.BOOT_MODE).wr FAB.ACCESS (resetWord FAB.ACCESS))
        else ((((((s.onSys (fun y => { y with romCheck := none })).tryImage (s.bytes 0x10000000 n)).1).clearWindow).put SYS.BOOT_STAT.FAIL 1).put SYS.BOOT_STAT.STAGE 6).wr FAB.BOOT_STAT 3#32))

/-- MCCLEAN writes a dirty line back and keeps it, clean. Without a line at the address nothing happens. MCINVAL drops the
line, with what it has not written back. MCFLUSH cleans and then drops it. MCALL with 1 cleans every line. With 2 it
drops every line. With 3 it does both. With any other value it does nothing. The timer interrupt is pending exactly
while MTIME is at or above MTIMECMP. A kick with the key starts the watchdog's count again. A write of any other value
is ignored and flagged. Half the timeout without a kick is reported once. It is not while the watchdog is off, while a
dump runs, or a second time. A read of JLOG_1 returns its word and removes the oldest entry of the job log. The two
words of the oldest entry are those that JLOG_0 and JLOG_1 show, 0 without one. EVQ_POP removes the oldest entry of
the event queue. Clearing a record clears its eight words and the stop its source asserts. There are 256 records.
While internal reset is held nothing is reported. FW_REPORT reports with the severity and the instance written. A load
window shows its busy fraction and the peak, and is reported above the limit. NMI_REARM allows the next NMI. The sump
writer stores the hardware part of the dump at SUMP_BASE; with firmware the dump goes on. Without a valid region and
without firmware it ends at once, and nothing is stored. Without firmware the dump ends after it. Without a valid
region firmware alone ends the dump. The hardware writes once for a dump. Without a dump in progress it does nothing;
nor does the timeout. SUMP_CTL.DONE ends the dump. So does its timeout. The model's own choices or readings, which no
rule of the spec states, are: the lines of the core's cache (log entry 14); clearing a record zeroes its eight words
(log entry 64); nothing is reported while reset is held (log entry 67). -/
def Obligations.ManagementCore : Prop :=
  (∀ (s : State) (a : Nat) (l : CacheLine),
      s.cacheLine a = some l →
      Sys2Proof.Machine.exec (.mcclean a) s = .next ((s.writeBack l).onSys (fun y => { y with cache := y.cache.map (fun k => if k.addr = l.addr then { k with dirty := false } else k) }))) ∧
  (∀ (s : State) (a : Nat),
      s.cacheLine a = none →
      Sys2Proof.Machine.exec (.mcclean a) s = .next s) ∧
  (∀ (s : State) (a : Nat),
      Sys2Proof.Machine.exec (.mcinval a) s = .next (s.onSys (fun y => { y with cache := y.cache.filter (fun l => l.addr != a / 32 * 32) }))) ∧
  (∀ (s : State) (a : Nat),
      Sys2Proof.Machine.exec (.mcflush a) s = .next ((s.cleanLine a).dropCached a)) ∧
  (∀ (s : State),
      Sys2Proof.Machine.exec (.mcall 1) s = .next (s.each (s.sys.cache.map (·.addr)) (fun l u => u.cleanLine l))) ∧
  (∀ (s : State),
      Sys2Proof.Machine.exec (.mcall 2) s = .next (s.onSys (fun y => { y with cache := [] }))) ∧
  (∀ (s : State),
      Sys2Proof.Machine.exec (.mcall 3) s = .next ((s.each (s.sys.cache.map (·.addr)) (fun l u => u.cleanLine l)).onSys (fun y => { y with cache := [] }))) ∧
  (∀ (s : State) (v : Nat),
      v ≠ 1 →
      v ≠ 2 →
      v ≠ 3 →
      Sys2Proof.Machine.exec (.mcall v) s = .next s) ∧
  (∀ (s : State),
      Sys2Proof.Machine.exec .machineTimer s = .next (s.onSys (fun y => { y with mtip := decide (s.mtimecmp ≤ s.mtime) }))) ∧
  (∀ (s : State),
      Sys2Proof.Machine.exec (.wdtKick 0xC0DE) s = .next (s.onSys (fun y => { y with wdtHalf := false, wdtEnd := s.ticks + oneIfZero (s.get SYS.WDT_CTL.TMO) * 1600000, wdtLeft := oneIfZero (s.get SYS.WDT_CTL.TMO) * 1600000 }))) ∧
  (∀ (s : State) (v : Nat),
      v ≠ 0xC0DE →
      Sys2Proof.Machine.exec (.wdtKick v) s = .next (s.raise SYS.STATUS.WRITE_IGNORED)) ∧
  (∀ (s : State),
      s.flag SYS.WDT_CTL.EN = true →
      s.flag SYS.SUMP_STAT.ACTIVE = false →
      s.sys.wdtHalf = false →
      Sys2Proof.Machine.exec .wdtWarn s = .next ((s.onSys (fun y => { y with wdtHalf := true })).report Src.WDT_WARN 0 (s.get SYS.WDT_STAT.RESETS))) ∧
  (∀ (s : State),
      s.flag SYS.WDT_CTL.EN = false ∨ s.flag SYS.SUMP_STAT.ACTIVE = true ∨ s.sys.wdtHalf = true →
      Sys2Proof.Machine.exec .wdtWarn s = .next s) ∧
  (∀ (s : State),
      Sys2Proof.Machine.exec .jlogRead s = .next { (s.onSys (fun y => { y with jlog := y.jlog.drop 1 })).syncJlog with rdata := s.rd SYS.JLOG_1 }) ∧
  (∀ (s : State),
      s.syncJlog.rd SYS.JLOG_0 = (s.sys.jlog.headD (0#32, 0#32)).1 ∧ s.syncJlog.rd SYS.JLOG_1 = (s.sys.jlog.headD (0#32, 0#32)).2) ∧
  (∀ (s : State),
      Sys2Proof.Machine.exec .evqPop s = .next ((s.onSys (fun y => { y with evq := y.evq.drop 1 })).syncEvq)) ∧
  (∀ (s : State) (q : Nat),
      q < 256 →
      Sys2Proof.Machine.exec (.recClear q) s = .next (((((s.each (List.range 8) (fun k t => t.wr (ERR.REC q k) 0#32)).onSys (fun y => { y with recs := y.recs.filter (· != q), stops := y.stops.filter (· != q) })).syncSev).syncStops))) ∧
  (∀ (s : State) (q : Nat),
      256 ≤ q →
      Sys2Proof.Machine.exec (.recClear q) s = .next s) ∧
  (∀ (s : State) (v : Nat),
      s.held = true →
      Sys2Proof.Machine.exec (.fwReport v) s = .next s) ∧
  (∀ (s : State) (v : Nat),
      s.held = false →
      Sys2Proof.Machine.exec (.fwReport v) s = .next (s.reportSev Src.FW_EVENT (v / 2 ^ 28 % 4) (v / 2 ^ 16 % 256) (s.rd SYS.FW_DETAIL).toNat)) ∧
  (∀ (s : State) (busy : Nat),
      Sys2Proof.Machine.exec (.loadWindow busy) s = .next (((s.put SYS.LOAD.BUSY (min 65535 busy)).put SYS.LOAD_PEAK.BUSY (max (min 65535 busy) (s.get SYS.LOAD_PEAK.BUSY))).when (s.get SYS.LOAD_CFG.LIM < min 65535 busy) (·.report Src.MGMT_LOAD 0 (min 65535 busy)))) ∧
  (∀ (s : State),
      Sys2Proof.Machine.exec .nmiRearm s = .next (s.onSys (fun y => { y with nmiOn := true }))) ∧
  (∀ (s : State),
      s.flag SYS.SUMP_STAT.ACTIVE = true →
      s.flag SYS.SUMP_STAT.HW_DONE = false →
      s.sys.sumpEnded = false →
      s.sumpValid = true →
      s.sys.sumpFw = true →
      Sys2Proof.Machine.exec .sumpHwDone s = .next (((s.ramWriteWords 0 s.sumpBase s.sumpWords).1.raise SYS.SUMP_STAT.HW_DONE))) ∧
  (∀ (s : State),
      s.flag SYS.SUMP_STAT.ACTIVE = true →
      s.flag SYS.SUMP_STAT.HW_DONE = false →
      s.sys.sumpEnded = false →
      s.sumpValid = false →
      s.sys.sumpFw = false →
      Sys2Proof.Machine.exec .sumpHwDone s = .next (s.endSump false false)) ∧
  (∀ (s : State),
      s.flag SYS.SUMP_STAT.ACTIVE = true →
      s.flag SYS.SUMP_STAT.HW_DONE = false →
      s.sys.sumpEnded = false →
      s.sumpValid = true →
      s.sys.sumpFw = false →
      Sys2Proof.Machine.exec .sumpHwDone s = .next ((((s.ramWriteWords 0 s.sumpBase s.sumpWords).1.raise SYS.SUMP_STAT.HW_DONE)).endSump false false)) ∧
  (∀ (s : State),
      s.sumpValid = false →
      s.sys.sumpFw = true →
      Sys2Proof.Machine.exec .sumpHwDone s = .next s) ∧
  (∀ (s : State),
      s.flag SYS.SUMP_STAT.ACTIVE = false ∨ s.flag SYS.SUMP_STAT.HW_DONE = true ∨ s.sys.sumpEnded = true →
      Sys2Proof.Machine.exec .sumpHwDone s = .next s) ∧
  (∀ (s : State),
      s.flag SYS.SUMP_STAT.ACTIVE = false ∨ s.sys.sumpEnded = true →
      Sys2Proof.Machine.exec .sumpDone s = .next s) ∧
  (∀ (s : State),
      s.flag SYS.SUMP_STAT.ACTIVE = false ∨ s.sys.sumpEnded = true →
      Sys2Proof.Machine.exec .sumpTmo s = .next s) ∧
  (∀ (s : State),
      s.flag SYS.SUMP_STAT.ACTIVE = true →
      s.sys.sumpEnded = false →
      Sys2Proof.Machine.exec .sumpDone s = .next (s.endSump true false)) ∧
  (∀ (s : State),
      s.flag SYS.SUMP_STAT.ACTIVE = true →
      s.sys.sumpEnded = false →
      Sys2Proof.Machine.exec .sumpTmo s = .next (s.endSump false true))

/-- While internal reset is held no fuse command starts; no finalise; no lock; and no transition. An accepted PGM begins,
with its word and data fixed. One with a refusal code is recorded and reported with it. In SCRAP every PGM is refused
with code 7. A word of a region that failed its check has code 3. The bits of a PGM are pulsed, its WRITTEN bit last,
and the command ends. Without a PGM in progress nothing happens; and none without a finalise. The bits of a PGM are
those of its data that are not 1 yet, and after the last word of a key slot its WRITTEN bit. An accepted finalise
begins. A refused one is recorded and reported with its code. A region with an unwritten mandatory slot is not
finalised without FORCE: code 0x20. A finalise whose bit does not verify stops there. Otherwise the digest, its locks,
and after the second root digest D_SELF are burned, and the command ends. Bits of which one copy verified are counted
in WEAK, which stops at 255. A write of LOCK_CTL that asks for no lock starts none. An accepted lock begins, and
PGM_BUSY is 1 until it ends. At its end the lock fuses of a region without a PGM or a finalise in progress have been
burned. A PGM or a finalise of the region burns the bits that came before the lock; what is left of it stops when the
lock verifies. A refused one is recorded and reported. KEY_OPEN clears, and only a reset sets it again. LC_REQ without
its key is ignored and flagged. A transition that is not allowed is refused with its code and reported. An allowed one
begins, and PGM_BUSY is 1 until its pulses end. When every bit of the transition word has verified the device resets
with cause LIFECYCLE. A bit that does not verify ends it without a reset. The model's own choices or readings, which
no rule of the spec states, are: the order of the refusal codes, and a lock during a PGM or a finalise (log entry 60);
none starts while reset is held (log entry 67); a lock and a transition end at the idle tick (log entry 92). -/
def Obligations.FuseCommands : Prop :=
  (∀ (s : State) (vpp : Bool),
      s.held = true →
      Sys2Proof.Machine.exec (.pgmGo vpp) s = .next s) ∧
  (∀ (s : State) (vpp : Bool),
      s.held = true →
      Sys2Proof.Machine.exec (.finGo vpp) s = .next s) ∧
  (∀ (s : State) (vpp : Bool) (v : Nat) (burn sofar : List Burn),
      s.held = true →
      Sys2Proof.Machine.exec (.lockCtl v burn ⟨vpp, sofar⟩) s = .next s) ∧
  (∀ (s : State) (v : Nat) (e : ResetEnv),
      s.held = true →
      Sys2Proof.Machine.exec (.lcReq v e) s = .next s) ∧
  (∀ (s : State) (vpp : Bool),
      (s.senseVpp vpp).pgmCode ((s.senseVpp vpp).get OTP.PGM_WORD.INDEX) ((s.senseVpp vpp).rd OTP.PGM_DATA).toNat = 0 →
      s.held = false →
      Sys2Proof.Machine.exec (.pgmGo vpp) s = .next ((((s.senseVpp vpp).wr OTP.PGM_STAT 0#32).raise OTP.STATUS.PGM_BUSY).onOtp (fun o => { o with cmd := some (.program ((s.senseVpp vpp).get OTP.PGM_WORD.INDEX) ((s.senseVpp vpp).rd OTP.PGM_DATA).toNat) }))) ∧
  (∀ (s : State) (vpp : Bool) (c : Nat),
      (s.senseVpp vpp).pgmCode ((s.senseVpp vpp).get OTP.PGM_WORD.INDEX) ((s.senseVpp vpp).rd OTP.PGM_DATA).toNat = c →
      c ≠ 0 →
      s.held = false →
      Sys2Proof.Machine.exec (.pgmGo vpp) s = .next (((s.senseVpp vpp).put OTP.PGM_STAT.CODE c).otpRefused c ((s.senseVpp vpp).get OTP.PGM_WORD.INDEX))) ∧
  (∀ (s : State) (w d : Nat),
      s.lcState = 5 →
      s.pgmCode w d = 7) ∧
  (∀ (s : State) (w d : Nat),
      s.lcState ≠ 5 →
      s.failed (otpRegion w) = true →
      s.pgmCode w d = 3) ∧
  (∀ (s : State) (burn : List Burn) (w d : Nat),
      s.otp.cmd = some (.program w d) →
      Sys2Proof.Machine.exec (.pgmDone burn) s = .next (if (s.pgmBurn (s.pgmBits w d) burn).2 then (s.pgmBurn (s.pgmBits w d) burn).1.endOtp else (s.pgmBurn (s.pgmBits w d) burn).1)) ∧
  (∀ (s : State) (burn : List Burn),
      (match s.otp.cmd with | some (.program _ _) => false | _ => true) = true →
      Sys2Proof.Machine.exec (.pgmDone burn) s = .next s) ∧
  (∀ (s : State) (burn : List Burn),
      (match s.otp.cmd with | some (.finalise _ _) => false | _ => true) = true →
      Sys2Proof.Machine.exec (.finDone burn) s = .next s) ∧
  (∀ (s : State) (w d : Nat),
      s.pgmBits w d = s.bitsToBurn w d ++ (match writtenBit w with | some i => if s.fuseBit i then [] else [i] | none => [])) ∧
  (∀ (s : State) (vpp : Bool),
      (s.senseVpp vpp).finCode ((s.senseVpp vpp).get OTP.FIN_CTL.REGION) ((s.senseVpp vpp).flag OTP.FIN_CTL.FORCE) = 0 →
      s.held = false →
      Sys2Proof.Machine.exec (.finGo vpp) s = .next ((((s.senseVpp vpp).wr OTP.FIN_STAT 0#32).raise OTP.STATUS.PGM_BUSY).onOtp (fun o => { o with cmd := some (.finalise ((s.senseVpp vpp).get OTP.FIN_CTL.REGION) ((s.senseVpp vpp).slotMissing ((s.senseVpp vpp).get OTP.FIN_CTL.REGION))) }))) ∧
  (∀ (s : State) (vpp : Bool) (c : Nat),
      (s.senseVpp vpp).finCode ((s.senseVpp vpp).get OTP.FIN_CTL.REGION) ((s.senseVpp vpp).flag OTP.FIN_CTL.FORCE) = c →
      c ≠ 0 →
      s.held = false →
      Sys2Proof.Machine.exec (.finGo vpp) s = .next (((s.senseVpp vpp).put OTP.FIN_STAT.CODE c).otpRefused c ((s.senseVpp vpp).get OTP.FIN_CTL.REGION))) ∧
  (∀ (s : State) (q : Nat),
      s.lcState ≠ 5 →
      q = 0 ∨ q = 2 ∨ hasLocks q = true →
      s.failed q = false →
      s.closed q = false →
      s.lcForbids q = false →
      s.pgmHold = 0 →
      s.slotMissing q = true →
      s.finCode q false = 0x20) ∧
  (∀ (s : State) (burn : List Burn) (q i : Nat) (forced : Bool),
      s.otp.cmd = some (.finalise q forced) →
      (s.burnCounted (s.finBits q forced) burn).2 = some i →
      Sys2Proof.Machine.exec (.finDone burn) s = .next (((s.burnCounted (s.finBits q forced) burn).1).finEnd q forced (some i))) ∧
  (∀ (s : State) (burn : List Burn) (q : Nat) (forced : Bool),
      s.otp.cmd = some (.finalise q forced) →
      (s.burnCounted (s.finBits q forced) burn).2 = none →
      Sys2Proof.Machine.exec (.finDone burn) s = .next ((((s.burnCounted (s.finBits q forced) burn).1.burnCounted ((s.burnCounted (s.finBits q forced) burn).1.selfBits q) (burn.drop (s.finBits q forced).length)).1).finEnd q forced
        ((s.burnCounted (s.finBits q forced) burn).1.burnCounted ((s.burnCounted (s.finBits q forced) burn).1.selfBits q) (burn.drop (s.finBits q forced).length)).2)) ∧
  (∀ (s : State) (l : List Nat) (burn : List Burn),
      s.burnCounted l burn = ((s.burnBits l burn 0).1.put OTP.PGM_STAT.WEAK (min 255 (s.get OTP.PGM_STAT.WEAK + (s.burnBits l burn 0).2.2)), (s.burnBits l burn 0).2.1)) ∧
  (∀ (s : State) (vpp : Bool) (v : Nat) (burn sofar : List Burn),
      v / 16 % 4 = 0 →
      s.held = false →
      Sys2Proof.Machine.exec (.lockCtl v burn ⟨vpp, sofar⟩) s = .next (s.senseVpp vpp)) ∧
  (∀ (s : State) (vpp : Bool) (v : Nat) (burn sofar : List Burn),
      v / 16 % 4 ≠ 0 →
      (s.senseVpp vpp).lockCode (v % 16) = 0 →
      s.held = false →
      Sys2Proof.Machine.exec (.lockCtl v burn ⟨vpp, sofar⟩) s = .next (((s.senseVpp vpp).onOtp (fun o => { o with lock := some ⟨v, burn, sofar⟩ })).syncBusy)) ∧
  (∀ (s : State) (v : Nat) (burn sofar : List Burn),
      s.otp.lock = some ⟨v, burn, sofar⟩ →
      ((s.onOtp (fun o => { o with lock := none })).syncBusy).opOn (v % 16) sofar = none →
      s.lockEnd = ((s.onOtp (fun o => { o with lock := none })).syncBusy).burnLocks (v % 16) v burn false) ∧
  (∀ (s : State) (v : Nat) (burn sofar : List Burn) (gone rest : List Nat),
      s.otp.lock = some ⟨v, burn, sofar⟩ →
      ((s.onOtp (fun o => { o with lock := none })).syncBusy).opOn (v % 16) sofar = some (gone, rest) →
      s.lockEnd = (((s.onOtp (fun o => { o with lock := none })).syncBusy).opBurn gone sofar).1.burnLocks (v % 16) v burn ((((s.onOtp (fun o => { o with lock := none })).syncBusy).opBurn gone sofar).2 && !rest.isEmpty)) ∧
  (∀ (s : State) (vpp : Bool) (v : Nat) (burn sofar : List Burn) (c : Nat),
      v / 16 % 4 ≠ 0 →
      (s.senseVpp vpp).lockCode (v % 16) = c →
      c ≠ 0 →
      s.held = false →
      Sys2Proof.Machine.exec (.lockCtl v burn ⟨vpp, sofar⟩) s = .next (((s.senseVpp vpp).put OTP.PGM_STAT.CODE c).otpRefused c (v % 16))) ∧
  (∀ (s : State),
      Sys2Proof.Machine.exec .keyOpen s = .next (s.drop OTP.KEY_OPEN.OPEN)) ∧
  (∀ (s : State) (v : Nat) (e : ResetEnv),
      v / 2 ^ 16 % 2 ^ 16 ≠ 0x1C5E →
      s.held = false →
      Sys2Proof.Machine.exec (.lcReq v e) s = .next ((s.senseVpp e.vpp).raise OTP.STATUS.WRITE_IGNORED)) ∧
  (∀ (s : State) (v : Nat) (e : ResetEnv) (c : Nat),
      v / 2 ^ 16 % 2 ^ 16 = 0x1C5E →
      (s.senseVpp e.vpp).lcCode (v % 8) = c →
      c ≠ 0 →
      s.held = false →
      Sys2Proof.Machine.exec (.lcReq v e) s = .next (((s.senseVpp e.vpp).put OTP.LC_STAT.CODE c).report Src.OTP_LC 0 (v % 8 * 256 + c))) ∧
  (∀ (s : State) (v : Nat) (e : ResetEnv),
      v / 2 ^ 16 % 2 ^ 16 = 0x1C5E →
      (s.senseVpp e.vpp).lcCode (v % 8) = 0 →
      s.held = false →
      Sys2Proof.Machine.exec (.lcReq v e) s = .next ((((s.senseVpp e.vpp).put OTP.LC_STAT.CODE 0).onOtp (fun o => { o with cmd := some (.transition (v % 8) e) })).syncBusy)) ∧
  (∀ (s : State) (k : Nat) (e : ResetEnv),
      s.otp.cmd = some (.transition k e) →
      (s.burnCounted (s.lifeBits (k - 1)) e.burn).2 = none →
      s.transitionEnd = (((s.burnCounted (s.lifeBits (k - 1)) e.burn).1).endOtp).deviceReset 3 { e with burn := [] }) ∧
  (∀ (s : State) (k : Nat) (e : ResetEnv) (i : Nat),
      s.otp.cmd = some (.transition k e) →
      (s.burnCounted (s.lifeBits (k - 1)) e.burn).2 = some i →
      s.transitionEnd = (((s.burnCounted (s.lifeBits (k - 1)) e.burn).1).endOtp).otpFailed i)

/-- A request for STILL. A request for LOW, with the state of the PCIe link. A request for DRY. While a transition is BUSY
a request is ignored and flagged. While internal reset is held there is no request. An accepted one loads the class-B
fields, makes the transition BUSY and asks the DMA engine to leave the domains. A refused one shows its code and is
reported. No state is entered while a job is armed or runs: code 1. STILL is entered, with its domains retained or
gated. When the core waits and the DMA engine is ready, STILL is entered. LOW is entered. DRY is entered. Without a
request nothing is entered. Until the engine is ready the device stays in FLOW. An enabled wake source ends STILL and
the core runs on. It ends LOW too, and fabric time advances by the crystal's cycles. One during entry abandons the
transition. A source that is not enabled or not asserted wakes nothing. Nor does one in FLOW without a transition.
Outside DRY it does nothing. WAKE_N in DRY drives PWR_EN high for a cold start. With reset released, or TEST_EN high,
good supplies start nothing; no supply is low any more. When the supplies are good internal reset is released with the
cause: DRY_WAKE, the pin, or power-on. In DRY there is nothing to trip. One of the six monitored supplies outside its
limits asserts internal reset; the supplies that are low are kept. VDD_GATE alone asserts no reset. While internal
reset is held, or VDD_GATE is low, no gate of a boost controller switches. TEST_EN high holds the device in reset.
TEST_EN low lets it go. TAMPER_N low with the latch set shows the pin alone. It sets the latch, breaches the Weir when
TAMPER_LINK says so, and is reported. While the device is off the report waits for the next start. The latch is
cleared by a write. While the pin is low the write is ignored and flagged. With the pin high it clears the latch. A
PLL that has been started and locks starts the enables that wait for it. One that was not started, or is locked, does
not. One that is not locked has no lock to lose. A PLL that loses lock stops the fire engine and is reported. A
crystal more than 10 % off, or more than 1 % against a running 32.768 kHz crystal, puts the device on its backup
clock, abandons a transition, stops the fire engine and is reported. One without an edge does the same, and the Weir
loses the crystal too. On the backup clock only the Weir loses the crystal. Nothing else is a failure, nor is there
another one on the backup clock. A Weir that is up then falls back to its own oscillator. One that is not up starts on
what then holds. A stable crystal is used again, by the Weir too. A Weir that is up leaves its own oscillator. Without
the 32.768 kHz crystal the RTC stands. A boost controller that is enabled ramps. One that is on, or that the part does
not have, is not enabled. When its output has settled within 2 % of HV_SET PGOOD sets. Otherwise it does not. An
output above HV_SET by more than its margin is a fault of cause 1. One below it by more than its margin, after PGOOD,
is one of cause 2. A current above OC_LIM is one of cause 3. A conversion shows in ILIM whether the current is
limited. An output within its margin, or a controller that does not switch, has no overvoltage; nor an undervoltage,
as before PGOOD; nor an overcurrent. DIV / 2^24 of the output stands at HV_g_VS. One that is off stays off. A
controller with an enabled channel cannot be disabled. Any other stops. SEND_BYTE starts a transfer of the command
alone. WRITE_BYTE one with a byte. WRITE_WORD one with a word. READ_BYTE one that returns a byte. READ_WORD one that
returns a word. A START while a transfer is BUSY is ignored and flagged. One with the host off, or of no kind, starts
nothing. A transfer waits for the poll in progress. Otherwise it takes the bus. A word read in order leaves its data
in PMB_DATA and is DONE. One without an acknowledge ends with NACK and is reported; PMB_DATA stays. A packet error
counts only while packet error checking is on. A transfer that lasts 35 ms ends with TMO and is reported for its own
device. So does a poll in progress. Without a transfer that waits a poll only ends; one that waits takes the bus then.
Without a transfer or a poll in progress nothing times out. A poll that meets a NACK, or a bad packet error code,
reports the bus error once and ends. One without an end yet goes on. A device is polled in FLOW and STILL when it and
the host are enabled and no other poll or transfer holds the bus. No poll runs while polling is off or a transfer
holds the bus, nor beside another poll. A poll in order shows STATUS_WORD and VOUT and ends; a fault in the status is
reported once. Outside FLOW it is not read. In FLOW a battery below 2.2 V sets VBAT_LOW and is reported. The model's
own choices or readings, which no rule of the spec states, are: REFUSE and ABORTED clear at acceptance, XTAL_OK, and
when the Weir falls back (log entry 65); VBAT_LOW clears on a good reading, a PMBus result of 3 or more runs on, and
the conversions truncate (log entry 66); commands while reset is held (log entry 67). -/
def Obligations.PowerAndClocks : Prop :=
  (∀ (s : State),
      Sys2Proof.Machine.exec .stateReqStill s = .next (s.stateReq 1)) ∧
  (∀ (s : State) (l1 : Bool),
      Sys2Proof.Machine.exec (.stateReqLow l1) s = .next ((s.onPmu (fun m => { m with l1 := l1 })).stateReq 2)) ∧
  (∀ (s : State),
      Sys2Proof.Machine.exec .stateReqDry s = .next (s.stateReq 3)) ∧
  (∀ (s : State) (target : Nat),
      s.flag PMU.STATE_STAT.BUSY = true →
      s.held = false →
      s.stateReq target = s.raise PMU.STATUS.WRITE_IGNORED) ∧
  (∀ (s : State) (target : Nat),
      s.held = true →
      s.stateReq target = s) ∧
  (∀ (s : State) (target : Nat),
      s.flag PMU.STATE_STAT.BUSY = false →
      s.reqCode target = 0 →
      s.held = false →
      s.stateReq target = (((((((s.put PMU.STATE_REQ.TARGET target).loadB 0x40010000 0x40020000).put PMU.STATE_STAT.REFUSE 0).drop PMU.STATE_STAT.ABORTED).raise PMU.STATE_STAT.BUSY).onPmu (fun m => { m with goal := target })).quiesce (goalDomains target))) ∧
  (∀ (s : State) (target : Nat),
      s.flag PMU.STATE_STAT.BUSY = false →
      s.reqCode target ≠ 0 →
      s.held = false →
      s.stateReq target = ((((s.put PMU.STATE_REQ.TARGET target).put PMU.STATE_STAT.REFUSE (s.reqCode target)).raise PMU.STATUS.REFUSED).report Src.PMU_STATE 0 (s.reqCode target * 2 ^ 24 + target))) ∧
  (∀ (s : State) (target : Nat),
      s.flag FIRE.STATUS.RUNNING = true ∨ s.flag FIRE.STATUS.ARMED = true →
      s.reqCode target = 1) ∧
  (∀ (s : State),
      s.pmu.goal = 1 →
      s.dmaReady = true →
      Sys2Proof.Machine.exec .stateEntry s = .next (((((s.onSys (fun y => if y.core = .running then { y with core := .wfi } else y)).drop PMU.STATE_STAT.BUSY).onPmu (fun m => { m with goal := 0 })).wr PMU.DOM_STAT 0x021603FF#32).put PMU.STATE_STAT.STATE 1)) ∧
  (∀ (s : State),
      s.pmu.goal = 1 →
      s.dmaReady = true →
      ∃ t, Sys2Proof.Machine.exec .stateEntry s = .next t ∧
        (t.get PMU.STATE_STAT.STATE = 1 ∧ t.pmu.goal = 0)) ∧
  (∀ (s : State),
      s.pmu.goal = 2 →
      s.dmaReady = true →
      Sys2Proof.Machine.exec .stateEntry s = .next ((((s.onSys (fun y => if y.core = .running then { y with core := .wfi } else y)).drop PMU.STATE_STAT.BUSY).onPmu (fun m => { m with goal := 0 })).enterLow)) ∧
  (∀ (s : State),
      s.pmu.goal = 3 →
      s.dmaReady = true →
      Sys2Proof.Machine.exec .stateEntry s = .next ((((s.onSys (fun y => if y.core = .running then { y with core := .wfi } else y)).drop PMU.STATE_STAT.BUSY).onPmu (fun m => { m with goal := 0 })).enterDry)) ∧
  (∀ (s : State),
      s.pmu.goal = 0 →
      Sys2Proof.Machine.exec .stateEntry s = .next s) ∧
  (∀ (s : State),
      s.dmaReady = false →
      Sys2Proof.Machine.exec .stateEntry s = .next s) ∧
  (∀ (s : State) (src cycles : Nat),
      s.wakeValid src = true →
      s.pmu.goal = 0 →
      s.pwrState = 1 →
      Sys2Proof.Machine.exec (.wake src cycles) s = .next (((s.noteWake src).toFlow).onSys (fun y => if y.core = .wfi then { y with core := .running } else y))) ∧
  (∀ (s : State) (src cycles : Nat),
      s.wakeValid src = true →
      s.pmu.goal = 0 →
      s.pwrState = 2 →
      Sys2Proof.Machine.exec (.wake src cycles) s = .next ((((s.noteWake src).leaveLow cycles).toFlow).onSys (fun y => if y.core = .wfi then { y with core := .running } else y))) ∧
  (∀ (s : State) (src cycles : Nat),
      s.wakeValid src = true →
      s.pmu.goal ≠ 0 →
      Sys2Proof.Machine.exec (.wake src cycles) s = .next ((s.noteWake src).abandon)) ∧
  (∀ (s : State) (src cycles : Nat),
      s.wakeValid src = false →
      Sys2Proof.Machine.exec (.wake src cycles) s = .next s) ∧
  (∀ (s : State) (src cycles : Nat),
      s.pmu.goal = 0 →
      s.pwrState = 0 →
      Sys2Proof.Machine.exec (.wake src cycles) s = .next s) ∧
  (∀ (s : State),
      s.pmu.off ≠ 2 →
      Sys2Proof.Machine.exec .dryWake s = .next s) ∧
  (∀ (s : State),
      s.pmu.off = 2 →
      Sys2Proof.Machine.exec .dryWake s = .next (s.onPmu (fun m => { m with pwrEn := true, why := 4 }))) ∧
  (∀ (s : State) (pin : Bool) (e : ResetEnv),
      s.pmu.off = 0 ∨ s.pmu.test = true →
      Sys2Proof.Machine.exec (.powerOn pin e) s = .next (s.onPmu (fun m => { m with low := 0 }))) ∧
  (∀ (s : State) (pin : Bool) (e : ResetEnv),
      s.pmu.off ≠ 0 →
      s.pmu.test = false →
      Sys2Proof.Machine.exec (.powerOn pin e) s = .next ((s.onPmu (fun m => { m with low := 0 })).release (if s.pmu.why = 4 then 4 else if pin = true ∧ s.pmu.off ≠ 2 then 1 else 0) e)) ∧
  (∀ (s : State) (e : TripEnv),
      s.pmu.off = 2 →
      Sys2Proof.Machine.exec (.supplyTrip e) s = .next s) ∧
  (∀ (s : State) (e : TripEnv),
      s.pmu.off ≠ 2 →
      e.low % 64 ≠ 0 →
      Sys2Proof.Machine.exec (.supplyTrip e) s = .next (((s.assertReset e.cut).onPmu (fun m => { m with off := 1, why := 0 })).onPmu (fun m => { m with low := m.low ||| e.low }))) ∧
  (∀ (s : State) (e : TripEnv),
      s.pmu.off ≠ 2 →
      e.low % 64 = 0 →
      Sys2Proof.Machine.exec (.supplyTrip e) s = .next (s.onPmu (fun m => { m with low := m.low ||| e.low }))) ∧
  (∀ (s : State) (g : Nat),
      s.held = true ∨ s.padsOn = false →
      s.hvGate g = false) ∧
  (∀ (s : State) (cut : PulseCut),
      Sys2Proof.Machine.exec (.testEn true cut) s = .next ((s.assertReset cut).onPmu (fun m => { m with off := max 1 m.off, test := true }))) ∧
  (∀ (s : State) (cut : PulseCut),
      Sys2Proof.Machine.exec (.testEn false cut) s = .next (s.onPmu (fun m => { m with test := false }))) ∧
  (∀ (s : State),
      s.flag PMU.TAMPER.LATCH = true →
      Sys2Proof.Machine.exec .tamper s = .next (s.raise PMU.TAMPER.PIN)) ∧
  (∀ (s : State),
      s.flag PMU.TAMPER.LATCH = false →
      (((s.raise PMU.TAMPER.PIN).raise PMU.TAMPER.LATCH).when (s.raise PMU.TAMPER.PIN).tamperLink (·.setBreach)).pmu.off = 0 →
      Sys2Proof.Machine.exec .tamper s = .next ((((s.raise PMU.TAMPER.PIN).raise PMU.TAMPER.LATCH).when (s.raise PMU.TAMPER.PIN).tamperLink (·.setBreach)).report Src.PMU_TAMPER 0 0)) ∧
  (∀ (s : State),
      s.flag PMU.TAMPER.LATCH = false →
      (((s.raise PMU.TAMPER.PIN).raise PMU.TAMPER.LATCH).when (s.raise PMU.TAMPER.PIN).tamperLink (·.setBreach)).pmu.off ≠ 0 →
      Sys2Proof.Machine.exec .tamper s = .next ((((s.raise PMU.TAMPER.PIN).raise PMU.TAMPER.LATCH).when (s.raise PMU.TAMPER.PIN).tamperLink (·.setBreach)).onPmu (fun m => { m with tamperDue := true }))) ∧
  (∀ (s : State) (low : Bool),
      Sys2Proof.Machine.exec (.tamperClr low) s = .next ((s.put PMU.TAMPER.PIN (nat01 low)).tamperClr)) ∧
  (∀ (s : State),
      s.flag PMU.TAMPER.PIN = true →
      s.tamperClr = s.raise PMU.STATUS.WRITE_IGNORED) ∧
  (∀ (s : State),
      s.flag PMU.TAMPER.PIN = false →
      s.tamperClr = s.drop PMU.TAMPER.LATCH) ∧
  (∀ (s : State) (p : Nat),
      p < 5 →
      s.pmu.pllRun.contains p = true →
      s.flag (pllFld p) = false →
      Sys2Proof.Machine.exec (.pllLock p) s = .next (s.pllLock p)) ∧
  (∀ (s : State) (p : Nat),
      s.pmu.pllRun.contains p = false ∨ s.flag (pllFld p) = true ∨ 5 ≤ p →
      Sys2Proof.Machine.exec (.pllLock p) s = .next s) ∧
  (∀ (s : State) (p : Nat),
      5 ≤ p ∨ s.flag (pllFld p) = false →
      Sys2Proof.Machine.exec (.pllFail p) s = .next s) ∧
  (∀ (s : State) (p : Nat),
      p < 5 →
      s.flag (pllFld p) = true →
      Sys2Proof.Machine.exec (.pllFail p) s = .next ((((s.drop (pllFld p)).raise PMU.STATUS.PLL_FAIL).halt 4).report Src.PMU_PLL p 0)) ∧
  (∀ (s : State) (why : Nat),
      s.flag PMU.STATUS.ON_BACKUP = false →
      why = 2 ∨ why = 3 ∧ s.flag PMU.CLK_STAT.X32_OK = true →
      Sys2Proof.Machine.exec (.xtalFail why) s = .next ((((((s.raise PMU.STATUS.XTAL_FAIL).raise PMU.STATUS.ON_BACKUP).drop PMU.CLK_STAT.XTAL_OK).abandon).halt 4).report Src.PMU_XTAL 0 why)) ∧
  (∀ (s : State),
      (s.weirXtal true).flag PMU.STATUS.ON_BACKUP = false →
      Sys2Proof.Machine.exec (.xtalFail 1) s = .next (((((((s.weirXtal true).raise PMU.STATUS.XTAL_FAIL).raise PMU.STATUS.ON_BACKUP).drop PMU.CLK_STAT.XTAL_OK).abandon).halt 4).report Src.PMU_XTAL 0 1)) ∧
  (∀ (s : State),
      (s.weirXtal true).flag PMU.STATUS.ON_BACKUP = true →
      Sys2Proof.Machine.exec (.xtalFail 1) s = .next (s.weirXtal true)) ∧
  (∀ (s : State) (why : Nat),
      s.flag PMU.STATUS.ON_BACKUP = true ∨ why ≠ 2 ∧ (why ≠ 3 ∨ s.flag PMU.CLK_STAT.X32_OK = false) →
      why ≠ 1 →
      Sys2Proof.Machine.exec (.xtalFail why) s = .next s) ∧
  (∀ (s : State),
      s.weir.up = true →
      s.weirXtal true = (((s.onWeir (fun w => { w with noXtal := true, oscFallback := true })).onCistern (fun c => { c with seenOsc := true })).syncWeir)) ∧
  (∀ (s : State) (stopped : Bool),
      s.weir.up = false →
      s.weirXtal stopped = (s.onWeir (fun w => { w with noXtal := stopped, oscFallback := w.oscFallback }))) ∧
  (∀ (s : State),
      Sys2Proof.Machine.exec .xtalRestore s = .next (((s.drop PMU.STATUS.ON_BACKUP).raise PMU.CLK_STAT.XTAL_OK).weirXtal false)) ∧
  (∀ (s : State),
      s.weir.up = true →
      s.weirXtal false = ((s.onWeir (fun w => { w with noXtal := false, oscFallback := false })).syncWeir)) ∧
  (∀ (s : State),
      Sys2Proof.Machine.exec .x32Loss s = .next ((s.onPmu (fun m => { m with rtcBase := s.rtc, rtcFrom := s.ticks })).drop PMU.CLK_STAT.X32_OK)) ∧
  (∀ (s : State) (g : Nat),
      s.hvOn g = true →
      s.flag (PMU.HV_CTL.EN g) = false →
      Sys2Proof.Machine.exec (.hvEnable g) s = .next (((s.raise (PMU.HV_CTL.EN g)).raise (PMU.HV_STAT.RAMPING g)).drop (PMU.HV_STAT.PGOOD g))) ∧
  (∀ (s : State) (g : Nat),
      s.hvOn g = false ∨ s.flag (PMU.HV_CTL.EN g) = true →
      Sys2Proof.Machine.exec (.hvEnable g) s = .next s) ∧
  (∀ (s : State) (g vs cs : Nat),
      g < 4 →
      s.flag (PMU.HV_CTL.EN g) = true →
      s.flag (PMU.HV_STAT.RAMPING g) = true →
      s.hvNear g vs = true →
      Sys2Proof.Machine.exec (.pgood g vs cs) s = .next (((s.hvMeas g vs cs).raise (PMU.HV_STAT.PGOOD g)).drop (PMU.HV_STAT.RAMPING g))) ∧
  (∀ (s : State) (g vs cs : Nat),
      4 ≤ g ∨ s.flag (PMU.HV_CTL.EN g) = false ∨ s.flag (PMU.HV_STAT.RAMPING g) = false ∨ s.hvNear g vs = false →
      Sys2Proof.Machine.exec (.pgood g vs cs) s = .next s) ∧
  (∀ (s : State) (g vs cs : Nat),
      g < 4 →
      s.hvRuns g = true →
      s.hvOver g vs = true →
      Sys2Proof.Machine.exec (.hvOv g vs cs) s = .next (s.hvFault g 1 vs cs Src.PMU_HV_OV)) ∧
  (∀ (s : State) (g vs cs : Nat),
      g < 4 →
      s.hvRuns g = true →
      s.flag (PMU.HV_STAT.PGOOD g) = true →
      s.hvUnder g vs = true →
      Sys2Proof.Machine.exec (.hvUv g vs cs) s = .next (s.hvFault g 2 vs cs Src.PMU_HV_UV)) ∧
  (∀ (s : State) (g vs cs : Nat),
      g < 4 →
      s.hvRuns g = true →
      s.hvLimits g cs = true →
      Sys2Proof.Machine.exec (.hvOc g vs cs) s = .next (s.hvFault g 3 vs cs Src.PMU_HV_OC)) ∧
  (∀ (s : State) (g vs cs : Nat),
      (s.hvMeas g vs cs).get (PMU.HV_STAT.ILIM g) = nat01 (decide (s.get (PMU.HV_LIM.OC_LIM g) < s.get (PMU.HV_ISENSE.ISENSE_FS g) * cs / 1000000))) ∧
  (∀ (s : State) (g vs cs : Nat),
      4 ≤ g ∨ s.hvRuns g = false ∨ s.hvOver g vs = false →
      Sys2Proof.Machine.exec (.hvOv g vs cs) s = .next s) ∧
  (∀ (s : State) (g vs cs : Nat),
      4 ≤ g ∨ s.hvRuns g = false ∨ s.flag (PMU.HV_STAT.PGOOD g) = false ∨ s.hvUnder g vs = false →
      Sys2Proof.Machine.exec (.hvUv g vs cs) s = .next s) ∧
  (∀ (s : State) (g vs cs : Nat),
      4 ≤ g ∨ s.hvRuns g = false ∨ s.hvLimits g cs = false →
      Sys2Proof.Machine.exec (.hvOc g vs cs) s = .next s) ∧
  (∀ (s : State) (g vs : Nat),
      s.get (PMU.HV_SENSE.DIV g) ≠ 0 →
      s.hvMilli g vs = vs * 2 ^ 24 / (1000 * s.get (PMU.HV_SENSE.DIV g))) ∧
  (∀ (s : State) (g : Nat),
      s.hvOn g = false ∨ s.flag (PMU.HV_CTL.EN g) = false →
      Sys2Proof.Machine.exec (.hvDisable g) s = .next s) ∧
  (∀ (s : State) (g : Nat),
      s.hvOn g = true →
      s.flag (PMU.HV_CTL.EN g) = true →
      (groupChans g).any (fun c => s.flag (WFE.CH_CTL.EN c)) = true →
      Sys2Proof.Machine.exec (.hvDisable g) s = .next (s.raise PMU.STATUS.WRITE_IGNORED)) ∧
  (∀ (s : State) (g : Nat),
      s.hvOn g = true →
      s.flag (PMU.HV_CTL.EN g) = true →
      (groupChans g).any (fun c => s.flag (WFE.CH_CTL.EN c)) = false →
      Sys2Proof.Machine.exec (.hvDisable g) s = .next ((((s.drop (PMU.HV_CTL.EN g)).drop (PMU.HV_STAT.PGOOD g)).drop (PMU.HV_STAT.RAMPING g)).drop (PMU.HV_STAT.ILIM g))) ∧
  (∀ (s : State) (k cmd err : Nat),
      Sys2Proof.Machine.exec (.sendByte k cmd err) s = .next ((((s.put PMU.PMB_XFER.DEV k).put PMU.PMB_XFER.KIND 0).put PMU.PMB_XFER.CMD cmd).pmbStart err 0)) ∧
  (∀ (s : State) (k cmd err : Nat),
      Sys2Proof.Machine.exec (.writeByte k cmd err) s = .next ((((s.put PMU.PMB_XFER.DEV k).put PMU.PMB_XFER.KIND 1).put PMU.PMB_XFER.CMD cmd).pmbStart err 0)) ∧
  (∀ (s : State) (k cmd err : Nat),
      Sys2Proof.Machine.exec (.writeWord k cmd err) s = .next ((((s.put PMU.PMB_XFER.DEV k).put PMU.PMB_XFER.KIND 2).put PMU.PMB_XFER.CMD cmd).pmbStart err 0)) ∧
  (∀ (s : State) (k cmd err data : Nat),
      Sys2Proof.Machine.exec (.readByte k cmd err data) s = .next ((((s.put PMU.PMB_XFER.DEV k).put PMU.PMB_XFER.KIND 3).put PMU.PMB_XFER.CMD cmd).pmbStart err data)) ∧
  (∀ (s : State) (k cmd err data : Nat),
      Sys2Proof.Machine.exec (.readWord k cmd err data) s = .next ((((s.put PMU.PMB_XFER.DEV k).put PMU.PMB_XFER.KIND 4).put PMU.PMB_XFER.CMD cmd).pmbStart err data)) ∧
  (∀ (s : State) (err x : Nat),
      s.flag PMU.PMB_XSTAT.BUSY = true →
      s.pmbStart err x = s.raise PMU.STATUS.WRITE_IGNORED) ∧
  (∀ (s : State) (err x : Nat),
      s.flag PMU.PMB_XSTAT.BUSY = false →
      s.flag PMU.PMB_CTL.EN = false ∨ 5 ≤ s.get PMU.PMB_XFER.KIND →
      s.pmbStart err x = s) ∧
  (∀ (s : State) (err x : Nat),
      s.flag PMU.PMB_XSTAT.BUSY = false →
      s.flag PMU.PMB_CTL.EN = true →
      s.get PMU.PMB_XFER.KIND < 5 →
      s.pmu.pmb.isSome = true →
      s.pmbStart err x = ((s.raise PMU.PMB_XSTAT.BUSY).onPmu (fun m => { m with pmbWait := some ⟨s.get PMU.PMB_XFER.DEV, s.get PMU.PMB_XFER.KIND, s.get PMU.PMB_XFER.CMD, err, x⟩ }))) ∧
  (∀ (s : State) (err x : Nat),
      s.flag PMU.PMB_XSTAT.BUSY = false →
      s.flag PMU.PMB_CTL.EN = true →
      s.get PMU.PMB_XFER.KIND < 5 →
      s.pmu.pmb.isSome = false →
      s.pmbStart err x = ((s.raise PMU.PMB_XSTAT.BUSY).pmbRun ⟨s.get PMU.PMB_XFER.DEV, s.get PMU.PMB_XFER.KIND, s.get PMU.PMB_XFER.CMD, err, x⟩)) ∧
  (∀ (s : State) (d c x : Nat),
      s.pmbRun ⟨d, 4, c, 0, x⟩ = ((((s.onPmu (fun m => { m with pmbDev := d, pmbOut := m.pmbOut ++ [(s.get (PMU.PMB_DEV.ADDR d), (c, s.pmbBytes d 4 c))] })).put PMU.PMB_DATA.DATA x).drop PMU.PMB_XSTAT.BUSY).raise PMU.PMB_XSTAT.DONE)) ∧
  (∀ (s : State) (d k c x : Nat),
      s.pmbRun ⟨d, k, c, 1, x⟩ = (((((s.onPmu (fun m => { m with pmbDev := d, pmbOut := m.pmbOut ++ [(s.get (PMU.PMB_DEV.ADDR d), (c, s.pmbBytes d k c))] })).drop PMU.PMB_XSTAT.BUSY).raise PMU.PMB_XSTAT.DONE).raise PMU.PMB_XSTAT.NACK).pmbErr d 1)) ∧
  (∀ (s : State) (err : Nat),
      s.pmbResult err = (if err = 2 ∧ s.flag PMU.PMB_CTL.PEC = false then 0 else err)) ∧
  (∀ (s : State),
      s.flag PMU.PMB_XSTAT.BUSY = true →
      s.pmu.pmb = none →
      Sys2Proof.Machine.exec .pmbusTimeout s = .next ((((s.drop PMU.PMB_XSTAT.BUSY).raise PMU.PMB_XSTAT.DONE).raise PMU.PMB_XSTAT.TMO).pmbErr s.pmu.pmbDev 3)) ∧
  (∀ (s : State) (k : Nat),
      s.pmu.pmb = some k →
      Sys2Proof.Machine.exec .pmbusTimeout s = .next ((s.pmbErr k 3).pollEnd)) ∧
  (∀ (s : State),
      s.pmu.pmbWait = none →
      s.pollEnd = (s.onPmu (fun m => { m with pmb := none, pmbWait := none }))) ∧
  (∀ (s : State) (j : PmbJob),
      s.pmu.pmbWait = some j →
      s.pollEnd = ((s.onPmu (fun m => { m with pmb := none, pmbWait := none })).pmbRun j)) ∧
  (∀ (s : State),
      s.flag PMU.PMB_XSTAT.BUSY = false →
      s.pmu.pmb = none →
      Sys2Proof.Machine.exec .pmbusTimeout s = .next s) ∧
  (∀ (s : State) (k x vout err : Nat),
      s.polls k = true →
      s.pmbResult err = err →
      err = 1 ∨ err = 2 →
      Sys2Proof.Machine.exec (.pmbusPoll k x vout err) s = .next ((s.pmbErr k err).pollEnd)) ∧
  (∀ (s : State) (k x vout err : Nat),
      s.polls k = true →
      3 ≤ err →
      Sys2Proof.Machine.exec (.pmbusPoll k x vout err) s = .next (s.onPmu (fun m => { m with pmb := some k }))) ∧
  (∀ (s : State) (k : Nat),
      k < 4 →
      s.flag PMU.PMB_CTL.EN = true →
      s.flag (PMU.PMB_DEV.EN k) = true →
      s.get PMU.PMB_CTL.POLL ≠ 0 →
      s.pwrState < 2 →
      s.flag PMU.PMB_XSTAT.BUSY = false →
      s.pmu.pmb = none ∨ s.pmu.pmb = some k →
      s.polls k = true) ∧
  (∀ (s : State) (k x vout err : Nat),
      s.flag PMU.PMB_CTL.EN = false ∨ s.flag (PMU.PMB_DEV.EN k) = false ∨ s.get PMU.PMB_CTL.POLL = 0 ∨ 2 ≤ s.pwrState ∨ (s.flag PMU.PMB_XSTAT.BUSY = true ∧ s.pmu.pmbWait.isSome = false) ∨ (s.pmu.pmb.isSome = true ∧ s.pmu.pmb ≠ some k) →
      Sys2Proof.Machine.exec (.pmbusPoll k x vout err) s = .next s) ∧
  (∀ (s : State) (k x vout err : Nat),
      s.polls k = true →
      s.pmbResult err = 0 →
      Sys2Proof.Machine.exec (.pmbusPoll k x vout err) s = .next ((((s.put (PMU.PMB_STAT.STATUS_WORD k) x).put (PMU.PMB_STAT.VOUT k) vout).when (x / 2 % 128 != 0) (·.reportOnce ⟨PMU.PMB_FLT, k, 1⟩ Src.PMU_REG k (x % 65536))).pollEnd)) ∧
  (∀ (s : State) (mv : Nat),
      s.pwrState ≠ 0 ∨ s.held = true →
      Sys2Proof.Machine.exec (.vbatCheck mv) s = .next s) ∧
  (∀ (s : State) (mv : Nat),
      s.pwrState = 0 →
      s.held = false →
      Sys2Proof.Machine.exec (.vbatCheck mv) s = .next ((s.put PMU.STATUS.VBAT_LOW (nat01 (mv < 2200))).when (mv < 2200) (·.report Src.PMU_VBAT_LOW 0 (mv % 65536))))

/-- An aligned 32-bit write to a register acts under the row of the register tables that describes it. Any write of an
issuer with access takes its bytes, low byte first, to its address. The debug port has none while it is closed. Nor
does it read. Any read of an issuer with access returns the bytes at its address. An access leaves its response, which
other than OK is an access fault of the core. A read that crosses no word boundary of the register range is no
crossing read. A write that is narrower or not aligned is ignored and reported as REG_ACCESS. A reserved offset
ignores writes. Each bit is stored under its own rule: a W1C bit is cleared by a 1; live and boundary bits, and static
bits while their block is disabled, take the value written; every other bit keeps its value. A write that would change
a static bit of an enabled block sets its WRITE_IGNORED. A full read of a register returns its word and has the side
effects of the read. That read clears the RC bits of the word and keeps the others. A full read of JLOG_1 removes the
oldest entry of the job log instead. A narrower read within one word returns its bytes and clears nothing. A read that
crosses a word boundary returns 0, reads no register and is reported as REG_ACCESS. The model's own choices or
readings, which no rule of the spec states, are: the sides of an access (log entry 10); the debug port (log entry 13);
none while reset is held (log entry 67); a write wider than 32 bits (log entry 99). -/
def Obligations.RegisterAccess : Prop :=
  (∀ (s : State) (issuer a v : Nat) (env : BusEnv) (b : Block) (r : RegRow) (i : Nat),
      s.mayIssue issuer = true →
      a % 4 = 0 →
      inRegRange a = true →
      inBells issuer a = false →
      blockOf a = some b →
      rowOf b a = some (r, i) →
      Sys2Proof.Machine.exec (.registerWrite issuer a 4 v env) s = .next ((s.rowWrite issuer b r i a (w32 (bytesNat ((List.range 4).map (fun k => BitVec.ofNat 8 (v / 256 ^ k))))) env).respond issuer 0)) ∧
  (∀ (s : State) (issuer a n v : Nat) (env : BusEnv),
      s.mayIssue issuer = true →
      Sys2Proof.Machine.exec (.registerWrite issuer a n v env) s = .next (s.access issuer a ((List.range n).map (fun i => BitVec.ofNat 8 (v / 256 ^ i))) env)) ∧
  (∀ (s : State) (issuer a n v : Nat) (env : BusEnv),
      s.mayIssue issuer = false →
      Sys2Proof.Machine.exec (.registerWrite issuer a n v env) s = .next s) ∧
  (∀ (s : State) (issuer a n : Nat) (x : Access),
      s.mayIssue issuer = false →
      Sys2Proof.Machine.exec (.rcRead issuer a n x) s = .next s) ∧
  (∀ (s : State) (issuer a n : Nat) (x : Access),
      s.mayIssue issuer = true →
      Sys2Proof.Machine.exec (.rcRead issuer a n x) s = .next { (s.accessRead issuer a n x).1 with rdata := w32 (bytesNat (s.accessRead issuer a n x).2) }) ∧
  (∀ (s : State) (issuer k : Nat),
      s.respond issuer k = ({ s with resp := k }).when (issuer == 0) (fun t => t.onSys (fun y => { y with coreFault := k != 0 }))) ∧
  (∀ (s : State) (issuer a n : Nat),
      s.mayIssue issuer = false ∨ inRegRange a = false ∨ a / 4 = (a + n - 1) / 4 ∨ n = 0 →
      Sys2Proof.Machine.exec (.crossingRead issuer a n) s = .next s) ∧
  (∀ (s : State) (issuer a n v : Nat) (env : BusEnv),
      s.mayIssue issuer = true →
      n ≠ 4 ∨ a % 4 ≠ 0 →
      inRegRange a = true →
      inBells issuer a = false →
      (blockOf a).isNone = false →
      Sys2Proof.Machine.exec (.registerWrite issuer a n v env) s = .next ((s.regAccess issuer a).respond issuer 0)) ∧
  (∀ (s : State) (issuer a n v : Nat) (env : BusEnv) (b : Block),
      n = 4 →
      s.mayIssue issuer = true →
      a % 4 = 0 →
      inRegRange a = true →
      inBells issuer a = false →
      blockOf a = some b →
      rowOf b a = none →
      Sys2Proof.Machine.exec (.registerWrite issuer a n v env) s = .next (s.respond issuer 0)) ∧
  (∀ (s : State) (b : Block) (r : RegRow) (i a : Nat) (w : Word),
      s.heldBits a = 0#32 →
      ∀ k, k < 32 → ((s.storeReg b r i a w 0#32).rd a).getLsbD k = (if (w32 r.w1c).getLsbD k && w.getLsbD k then false else if (w32 r.live).getLsbD k || ((w32 r.stat).getLsbD k && !s.owned r i) || (w32 r.bnd).getLsbD k then w.getLsbD k else (s.rd a).getLsbD k)) ∧
  (∀ (s : State) (b : Block) (r : RegRow) (i a : Nat) (w m : Word),
      s.owned r i = true →
      (w ^^^ s.rd a) &&& w32 r.stat ≠ 0#32 →
      a ≠ b.ignored.addr →
      b.ignored.width = 1 →
      b.ignored.lo < 32 →
      (s.storeReg b r i a w m).flag b.ignored = true) ∧
  (∀ (s : State) (issuer a : Nat) (x : Access),
      s.mayIssue issuer = true →
      inRegRange a = true →
      inBells issuer a = false →
      (blockOf a).isNone = false →
      a % 4 = 0 →
      Sys2Proof.Machine.exec (.rcRead issuer a 4 x) s = .next { ((s.regRead issuer a).1.respond issuer 0) with rdata := (s.regRead issuer a).2 }) ∧
  (∀ (s : State) (issuer a : Nat) (b : Block) (r : RegRow) (i : Nat),
      blockOf a = some b →
      rowOf b a = some (r, i) →
      s.hidden a = false →
      a ≠ SYS.JLOG_1 →
      a ≠ SYS.MTIME_LO →
      a ≠ FAB.FT_LO →
      a ≠ PMU.RTC_LO →
      (s.regRead issuer a).1.rd a = s.rd a &&& ~~~(w32 r.rc)) ∧
  (∀ (s : State) (issuer : Nat),
      s.hidden SYS.JLOG_1 = false →
      s.regRead issuer SYS.JLOG_1 = ((s.onSys (fun y => { y with jlog := y.jlog.drop 1 })).syncJlog, s.view SYS.JLOG_1)) ∧
  (∀ (s : State) (issuer a n : Nat) (x : Access),
      s.mayIssue issuer = true →
      inRegRange a = true →
      inBells issuer a = false →
      (blockOf a).isNone = false →
      n < 4 →
      n ≠ 0 →
      a / 4 = (a + n - 1) / 4 →
      a / 4 * 4 ∉ [SYS.MTIME_LO, FAB.FT_LO, PMU.RTC_LO] →
      Sys2Proof.Machine.exec (.rcRead issuer a n x) s = .next { (s.respond issuer 0) with rdata := w32 (bytesNat (((wordBytes (s.regPeek issuer (a / 4 * 4)).2).drop (a % 4)).take n)) }) ∧
  (∀ (s : State) (issuer a n : Nat),
      s.mayIssue issuer = true →
      inRegRange a = true →
      (inBells issuer a = true ∨ (blockOf a).isNone = false) →
      a / 4 ≠ (a + n - 1) / 4 →
      n ≠ 0 →
      n ≠ 4 ∨ a % 4 ≠ 0 →
      Sys2Proof.Machine.exec (.crossingRead issuer a n) s = .next { s.regAccess issuer a with rdata := 0#32 })
end

