-- ==== Sys2Proof/Laws/Maps.lean ====
section
/-! SUPPORT. Sparse maps in canonical form: every operation keeps the form, and a read after a write gives what was
written there and what stood there elsewhere. -/

namespace Sys2Proof.Machine

/-! Canonical maps -/

theorem mapErase_mem {α : Type} {m : List (Nat × α)} {a : Nat} {e : Nat × α} (h : e ∈ mapErase m a) : e ∈ m := by
  induction m with
  | nil => exact h
  | cons x t ih =>
    simp only [mapErase] at h
    split at h
    · exact List.mem_cons_of_mem _ (ih h)
    · cases h with
      | head => exact List.mem_cons_self
      | tail _ h => exact List.mem_cons_of_mem _ (ih h)

theorem mapInsert_mem {α : Type} {m : List (Nat × α)} {a : Nat} {v : α} {e : Nat × α} (h : e ∈ mapInsert m a v) :
    e = (a, v) ∨ e ∈ m := by
  induction m with
  | nil => exact .inl (by simpa [mapInsert] using h)
  | cons x t ih =>
    simp only [mapInsert] at h
    split at h
    · simpa using h
    · split at h
      · rcases List.mem_cons.1 h with h | h
        · exact .inl h
        · exact .inr (List.mem_cons_of_mem _ h)
      · rcases List.mem_cons.1 h with h | h
        · exact .inr (h ▸ List.mem_cons_self)
        · exact (ih h).imp id (List.mem_cons_of_mem _)

theorem mapWf_iff {α : Type} [DecidableEq α] {d : Nat → α} {m : List (Nat × α)} :
    mapWf d m = true ↔ m.Pairwise (fun x y => x.1 < y.1) ∧ ∀ e ∈ m, e.2 ≠ d e.1 := by
  simp [mapWf]

theorem mapErase_wf {α : Type} [DecidableEq α] {d : Nat → α} {m : List (Nat × α)} {a : Nat} (h : mapWf d m = true) :
    mapWf d (mapErase m a) = true := by
  rw [mapWf_iff] at h ⊢
  refine ⟨?_, fun e he => h.2 e (mapErase_mem he)⟩
  have hp := h.1
  clear h
  induction m with
  | nil => exact hp
  | cons x t ih =>
    rw [List.pairwise_cons] at hp
    simp only [mapErase]
    split
    · exact ih hp.2
    · exact List.pairwise_cons.2 ⟨fun y hy => hp.1 y (mapErase_mem hy), ih hp.2⟩

theorem mapInsert_wf {α : Type} [DecidableEq α] {d : Nat → α} {m : List (Nat × α)} {a : Nat} {v : α} (h : mapWf d m = true)
    (hv : v ≠ d a) : mapWf d (mapInsert m a v) = true := by
  rw [mapWf_iff] at h ⊢
  refine ⟨?_, fun e he => ?_⟩
  · have hp := h.1
    clear h
    induction m with
    | nil => simp [mapInsert]
    | cons x t ih =>
      have hx := List.pairwise_cons.1 hp
      simp only [mapInsert]
      split
      · rename_i hlt
        refine List.pairwise_cons.2 ⟨fun y hy => ?_, hp⟩
        rcases List.mem_cons.1 hy with rfl | hy
        · exact hlt
        · exact Nat.lt_trans hlt (hx.1 y hy)
      · split
        · rename_i heq
          exact List.pairwise_cons.2 ⟨fun y hy => heq ▸ hx.1 y hy, hx.2⟩
        · refine List.pairwise_cons.2 ⟨fun y hy => ?_, ih hx.2⟩
          rcases mapInsert_mem hy with rfl | hy
          · simp only; omega
          · exact hx.1 y hy
  · rcases mapInsert_mem he with rfl | he
    · exact hv
    · exact h.2 e he

theorem mapPut_wf {α : Type} [DecidableEq α] {d : Nat → α} {m : List (Nat × α)} {a : Nat} {v : α} (h : mapWf d m = true) :
    mapWf d (mapPut d m a v) = true := by
  unfold mapPut
  split
  · exact mapErase_wf h
  · exact mapInsert_wf h (by assumption)

theorem mapFilter_wf {α : Type} [DecidableEq α] {d : Nat → α} {m : List (Nat × α)} {f : Nat × α → Bool}
    (h : mapWf d m = true) : mapWf d (m.filter f) = true := by
  rw [mapWf_iff] at h ⊢
  exact ⟨h.1.filter f, fun e he => h.2 e ((List.mem_filter.1 he).1)⟩

/-! Reads after writes -/

theorem mapGet_insert_same {α : Type} (d : Nat → α) (m : List (Nat × α)) (a : Nat) (v : α) : mapGet d (mapInsert m a v) a = v := by
  induction m with
  | nil => simp [mapInsert, mapGet]
  | cons x t ih =>
    simp only [mapInsert]
    split
    · simp [mapGet]
    · split
      · simp [mapGet]
      · rename_i h
        simp only [mapGet]
        rw [if_neg (fun e => h e.symm)]
        exact ih

theorem mapGet_insert_other {α : Type} (d : Nat → α) (m : List (Nat × α)) {a b : Nat} (v : α) (h : a ≠ b) :
    mapGet d (mapInsert m a v) b = mapGet d m b := by
  induction m with
  | nil => simp [mapInsert, mapGet, h]
  | cons x t ih =>
    simp only [mapInsert]
    split
    · simp [mapGet, h]
    · split
      · rename_i e
        subst e
        simp [mapGet, h]
      · simp only [mapGet]
        rw [ih]

theorem mapGet_erase_same {α : Type} (d : Nat → α) (m : List (Nat × α)) (a : Nat) : mapGet d (mapErase m a) a = d a := by
  induction m with
  | nil => rfl
  | cons x t ih =>
    simp only [mapErase]
    split
    · exact ih
    · rename_i h
      simp only [mapGet]
      rw [if_neg h]
      exact ih

theorem mapGet_erase_other {α : Type} (d : Nat → α) (m : List (Nat × α)) {a b : Nat} (h : a ≠ b) :
    mapGet d (mapErase m a) b = mapGet d m b := by
  induction m with
  | nil => rfl
  | cons x t ih =>
    simp only [mapErase]
    split
    · rename_i e
      rw [ih]
      simp only [mapGet]
      rw [if_neg (fun k => h (e.symm.trans k))]
    · simp only [mapGet]
      rw [ih]

theorem mapGet_put_same {α : Type} [DecidableEq α] (d : Nat → α) (m : List (Nat × α)) (a : Nat) (v : α) :
    mapGet d (mapPut d m a v) a = v := by
  unfold mapPut
  split
  · rename_i h
    rw [mapGet_erase_same, h]
  · exact mapGet_insert_same ..

theorem mapGet_put_other {α : Type} [DecidableEq α] (d : Nat → α) (m : List (Nat × α)) {a b : Nat} (v : α) (h : a ≠ b) :
    mapGet d (mapPut d m a v) b = mapGet d m b := by
  unfold mapPut
  split
  · exact mapGet_erase_other d m h
  · exact mapGet_insert_other d m v h

end Sys2Proof.Machine
end

