-- ==== Sys2Proof/Laws/Keep.lean ====
section
/-! SUPPORT. What every operation of the block keeps: memory and registers in canonical form, fabric time below 2^48, and
the queue of waiting commands. The files of Laws/ that are named after a file of Machine/ say it of each operation there. -/

namespace Sys2Proof.Machine

theorem fst_of {α β : Type} {p : α × β} {t a} (h : p = (t, a)) : p.1 = t := by rw [h]

/-! What is kept -/

/-- Memory and registers are in canonical form, fabric time is below 2^48, the commands Q wait, and no fuse cell is weaker
than B says; memory, the fuse cells and the cistern are the given ones, where one is given. -/
structure State.Good (Q : List Instr) (B : Nat → Nat) (M : Option (List Host.Cell)) (F : Option (List (Nat × Nat))) (C : Option Cistern)
    (s : State) : Prop where
  mem : Memory.wf s.mem = true
  regs : mapWf resetWord s.regs = true
  time : s.time < 2 ^ 48
  queue : s.pending = Q
  burnt : ∀ k, B k ≤ mapGet (fun _ => 0) s.otp.cells k
  sameMem : ∀ m, M = some m → s.mem = m
  sameFuses : ∀ f, F = some f → s.otp.cells = f
  sameCistern : ∀ c, C = some c → s.weir.cistern = c

/-- The command is answered by a next state in which everything of Good holds. -/
def Answers (Q : List Instr) (B : Nat → Nat) (M : Option (List Host.Cell)) (F : Option (List (Nat × Nat))) (C : Option Cistern)
    (o : Host.Outcome State Fault Refusal) : Prop := ∃ t, o = .next t ∧ t.Good Q B M F C

variable {Q : List Instr} {B : Nat → Nat} {M : Option (List Host.Cell)} {F : Option (List (Nat × Nat))} {C : Option Cistern}

@[simp] theorem answers_next {t : State} (h : t.Good Q B M F C) : Answers Q B M F C (.next t) := ⟨t, rfl, h⟩

/-- An update of the fields beside those that Good speaks of. -/
@[simp] theorem good_with {s : State} {act ticks rdata resp root small jobs jobSeq swaps sys pmu host cmp lq lqPort hpt wfe whead nh nhead
    cal axis fire dma memc fab tap fresh} (h : s.Good Q B M F C) :
    (State.mk s.regs act s.mem s.time ticks rdata resp root small jobs jobSeq swaps sys pmu host cmp lq lqPort hpt wfe whead nh nhead cal
      axis s.otp s.weir fire dma memc fab tap fresh s.pending).Good Q B M F C :=
  ⟨h.mem, h.regs, h.time, h.queue, h.burnt, h.sameMem, h.sameFuses, h.sameCistern⟩

/-- The same with a new fabric time. -/
theorem good_time {s : State} {act time ticks rdata resp root small jobs jobSeq swaps sys pmu host cmp lq lqPort hpt wfe whead nh nhead
    cal axis fire dma memc fab tap fresh} (h : s.Good Q B M F C) (ht : time < 2 ^ 48) :
    (State.mk s.regs act s.mem time ticks rdata resp root small jobs jobSeq swaps sys pmu host cmp lq lqPort hpt wfe whead nh nhead cal
      axis s.otp s.weir fire dma memc fab tap fresh s.pending).Good Q B M F C :=
  ⟨h.mem, h.regs, ht, h.queue, h.burnt, h.sameMem, h.sameFuses, h.sameCistern⟩

/-- The same with a new Weir. -/
@[simp] theorem good_weir {s : State} {act ticks rdata resp root small jobs jobSeq swaps sys pmu host cmp lq lqPort hpt wfe whead nh nhead
    cal axis weir fire dma memc fab tap fresh} (h : s.Good Q B M F none) :
    (State.mk s.regs act s.mem s.time ticks rdata resp root small jobs jobSeq swaps sys pmu host cmp lq lqPort hpt wfe whead nh nhead cal
      axis s.otp weir fire dma memc fab tap fresh s.pending).Good Q B M F none :=
  ⟨h.mem, h.regs, h.time, h.queue, h.burnt, h.sameMem, h.sameFuses, nofun⟩

@[simp] theorem ite_good {c : Prop} [Decidable c] {s t : State} (hs : s.Good Q B M F C) (ht : t.Good Q B M F C) :
    (if c then s else t).Good Q B M F C := by split <;> assumption

@[simp] theorem ite_fst_good {α : Type} {c : Prop} [Decidable c] {s t : State × α} (hs : s.1.Good Q B M F C)
    (ht : t.1.Good Q B M F C) : (if c then s else t).1.Good Q B M F C := by split <;> assumption

@[simp] theorem ite_answers {c : Prop} [Decidable c] {s t} (hs : Answers Q B M F C s) (ht : Answers Q B M F C t) :
    Answers Q B M F C (if c then s else t) := by split <;> assumption

@[simp] theorem State.wr_good {s : State} {a v} (hs : s.Good Q B M F C) : (State.wr s a v).Good Q B M F C :=
  ⟨hs.mem, mapPut_wf hs.regs, hs.time, hs.queue, hs.burnt, hs.sameMem, hs.sameFuses, hs.sameCistern⟩

@[simp] theorem State.setByte_good {s : State} {a b} (hs : s.Good Q B none F C) : (State.setByte s a b).Good Q B none F C :=
  ⟨mapPut_wf hs.mem, hs.regs, hs.time, hs.queue, hs.burnt, nofun, hs.sameFuses, hs.sameCistern⟩

@[simp] theorem State.onOtp_good {s : State} {f} (hs : s.Good Q B M F C) (hf : ∀ o, (f o).cells = o.cells) :
    (State.onOtp s f).Good Q B M F C :=
  ⟨hs.mem, hs.regs, hs.time, hs.queue, fun k => (hf s.otp).symm ▸ hs.burnt k, hs.sameMem,
    fun c hc => (hf _).trans (hs.sameFuses c hc), hs.sameCistern⟩

@[simp] theorem State.onWeir_good {s : State} {f} (hs : s.Good Q B M F C) (hf : ∀ w, (f w).cistern = w.cistern) :
    (State.onWeir s f).Good Q B M F C :=
  ⟨hs.mem, hs.regs, hs.time, hs.queue, hs.burnt, hs.sameMem, hs.sameFuses, fun c hc => (hf _).trans (hs.sameCistern c hc)⟩

@[simp] theorem State.onWeir_free {s : State} {f} (hs : s.Good Q B M F none) : (State.onWeir s f).Good Q B M F none :=
  ⟨hs.mem, hs.regs, hs.time, hs.queue, hs.burnt, hs.sameMem, hs.sameFuses, nofun⟩

theorem foldl_keeps {α β : Type} {P : β → Prop} {f : β → α → β} (hf : ∀ b a, P b → P (f b a)) :
    ∀ {l : List α} {b : β}, P b → P (l.foldl f b) := by
  intro l
  induction l with
  | nil => exact fun h => h
  | cons x t ih => exact fun h => ih (hf _ x h)

@[simp] theorem foldl_good {α : Type} {f : State → α → State} (hf : ∀ y t, t.Good Q B M F C → (f t y).Good Q B M F C) :
    ∀ {l : List α} {s : State}, s.Good Q B M F C → (l.foldl f s).Good Q B M F C :=
  foldl_keeps (P := State.Good Q B M F C) (fun b a => hf a b)

@[simp] theorem foldl_fst_good {α β : Type} {f : State × β → α → State × β}
    (hf : ∀ y p, p.1.Good Q B M F C → (f p y).1.Good Q B M F C) :
    ∀ {l : List α} {s : State × β}, s.1.Good Q B M F C → (l.foldl f s).1.Good Q B M F C :=
  foldl_keeps (P := fun p => p.1.Good Q B M F C) (fun b a => hf a b)

@[simp] theorem State.each_good {α} {s : State} {l} {f : α → State → State} (hs : s.Good Q B M F C)
    (hf : ∀ y t, t.Good Q B M F C → (f y t).Good Q B M F C) : (State.each s l f).Good Q B M F C := foldl_good (fun y t h => hf y t h) hs

@[simp] theorem State.when_true (s : State) (f : State → State) : s.when true f = f s := if_pos rfl

@[simp] theorem State.when_false (s : State) (f : State → State) : s.when false f = s := if_neg Bool.false_ne_true

@[simp] theorem State.when_good {s : State} {c} {f : State → State} (hs : s.Good Q B M F C)
    (hf : ∀ t, t.Good Q B M F C → (f t).Good Q B M F C) : (State.when s c f).Good Q B M F C := by
  unfold State.when; split <;> simp_all

@[simp] theorem State.setBytes_good : ∀ {l : List Byte} {s : State} {a}, s.Good Q B none F C → (State.setBytes s a l).Good Q B none F C
  | [], _, _, h => h
  | b :: t, s, a, h => by
    unfold State.setBytes
    exact State.setBytes_good (State.setByte_good h)

end Sys2Proof.Machine
end

