-- ==== Sys2Proof/Laws/Ops.lean ====
section
/-! SUPPORT. What the operations of Machine/Ops.lean keep (Laws/Keep.lean). -/

namespace Sys2Proof.Machine

variable {Q : List Instr} {B : Nat → Nat} {M : Option (List Host.Cell)} {F : Option (List (Nat × Nat))} {C : Option Cistern}

@[simp] theorem State.put_good {s : State} {f v} (hs : s.Good Q B M F C) :
    (State.put s f v).Good Q B M F C := by
  simp (maxDischargeDepth := 60) +contextual [State.put, hs]

@[simp] theorem State.raise_good {s : State} {f} (hs : s.Good Q B M F C) :
    (State.raise s f).Good Q B M F C := by
  simp (maxDischargeDepth := 60) +contextual [State.raise, hs]

@[simp] theorem State.drop_good {s : State} {f} (hs : s.Good Q B M F C) :
    (State.drop s f).Good Q B M F C := by
  simp (maxDischargeDepth := 60) +contextual [State.drop, hs]

@[simp] theorem State.bump_good {s : State} {f n} (hs : s.Good Q B M F C) :
    (State.bump s f n).Good Q B M F C := by
  simp (maxDischargeDepth := 60) +contextual [State.bump, hs]

@[simp] theorem State.bumpSat_good {s : State} {f n} (hs : s.Good Q B M F C) :
    (State.bumpSat s f n).Good Q B M F C := by
  simp (maxDischargeDepth := 60) +contextual [State.bumpSat, hs]

@[simp] theorem State.loadB_good {s : State} {lo hi} (hs : s.Good Q B M F C) :
    (State.loadB s lo hi).Good Q B M F C := by
  simp (maxDischargeDepth := 60) +contextual [State.loadB, hs]

@[simp] theorem State.keepActive_good {s : State} {a} (hs : s.Good Q B M F C) :
    (State.keepActive s a).Good Q B M F C := by
  simp (maxDischargeDepth := 60) +contextual [State.keepActive, hs]

@[simp] theorem State.wr64_good {s : State} {lo hi v} (hs : s.Good Q B M F C) :
    (State.wr64 s lo hi v).Good Q B M F C := by
  simp (maxDischargeDepth := 60) +contextual [State.wr64, hs]

@[simp] theorem State.wrTime_good {s : State} {lo hi t} (hs : s.Good Q B M F C) :
    (State.wrTime s lo hi t).Good Q B M F C := by
  simp (maxDischargeDepth := 60) +contextual [State.wrTime, hs]

@[simp] theorem State.onSys_good {s : State} {f} (hs : s.Good Q B M F C) :
    (State.onSys s f).Good Q B M F C := by
  simp (maxDischargeDepth := 60) +contextual [State.onSys, hs]

@[simp] theorem State.onHost_good {s : State} {f} (hs : s.Good Q B M F C) :
    (State.onHost s f).Good Q B M F C := by
  simp (maxDischargeDepth := 60) +contextual [State.onHost, hs]

@[simp] theorem State.onCmp_good {s : State} {f} (hs : s.Good Q B M F C) :
    (State.onCmp s f).Good Q B M F C := by
  simp (maxDischargeDepth := 60) +contextual [State.onCmp, hs]

@[simp] theorem State.onFire_good {s : State} {f} (hs : s.Good Q B M F C) :
    (State.onFire s f).Good Q B M F C := by
  simp (maxDischargeDepth := 60) +contextual [State.onFire, hs]

@[simp] theorem State.onFab_good {s : State} {f} (hs : s.Good Q B M F C) :
    (State.onFab s f).Good Q B M F C := by
  simp (maxDischargeDepth := 60) +contextual [State.onFab, hs]

@[simp] theorem State.onCal_good {s : State} {f} (hs : s.Good Q B M F C) :
    (State.onCal s f).Good Q B M F C := by
  simp (maxDischargeDepth := 60) +contextual [State.onCal, hs]

@[simp] theorem State.onQueue_good {s : State} {h f} (hs : s.Good Q B M F C) :
    (State.onQueue s h f).Good Q B M F C := by
  simp (maxDischargeDepth := 60) +contextual [State.onQueue, hs]

@[simp] theorem State.onHport_good {s : State} {h f} (hs : s.Good Q B M F C) :
    (State.onHport s h f).Good Q B M F C := by
  simp (maxDischargeDepth := 60) +contextual [State.onHport, hs]

@[simp] theorem State.onChan_good {s : State} {c f} (hs : s.Good Q B M F C) :
    (State.onChan s c f).Good Q B M F C := by
  simp (maxDischargeDepth := 60) +contextual [State.onChan, hs]

@[simp] theorem State.onWave_good {s : State} {h f} (hs : s.Good Q B M F C) :
    (State.onWave s h f).Good Q B M F C := by
  simp (maxDischargeDepth := 60) +contextual [State.onWave, hs]

@[simp] theorem State.onNh_good {s : State} {f} (hs : s.Good Q B M F C) :
    (State.onNh s f).Good Q B M F C := by
  simp (maxDischargeDepth := 60) +contextual [State.onNh, hs]

@[simp] theorem State.onNhh_good {s : State} {h f} (hs : s.Good Q B M F C) :
    (State.onNhh s h f).Good Q B M F C := by
  simp (maxDischargeDepth := 60) +contextual [State.onNhh, hs]

@[simp] theorem State.onCistern_good {s : State} {f} (hs : s.Good Q B M F none) :
    (State.onCistern s f).Good Q B M F none := by
  simp (maxDischargeDepth := 60) +contextual [State.onCistern, hs]

@[simp] theorem State.onAx_good {s : State} {n f} (hs : s.Good Q B M F C) :
    (State.onAx s n f).Good Q B M F C := by
  simp (maxDischargeDepth := 60) +contextual [State.onAx, hs]

@[simp] theorem State.onMem_good {s : State} {f} (hs : s.Good Q B M F C) :
    (State.onMem s f).Good Q B M F C := by
  simp (maxDischargeDepth := 60) +contextual [State.onMem, hs]

@[simp] theorem State.onDma_good {s : State} {f} (hs : s.Good Q B M F C) :
    (State.onDma s f).Good Q B M F C := by
  simp (maxDischargeDepth := 60) +contextual [State.onDma, hs]

@[simp] theorem State.onDmaCh_good {s : State} {n f} (hs : s.Good Q B M F C) :
    (State.onDmaCh s n f).Good Q B M F C := by
  simp (maxDischargeDepth := 60) +contextual [State.onDmaCh, hs]

@[simp] theorem State.draw_good {s : State} (hs : s.Good Q B M F C) :
    (State.draw s).Good Q B M F C := by
  simp (maxDischargeDepth := 60) +contextual [State.draw, hs]

@[simp] theorem State.setWord_good {s : State} {a w} (hs : s.Good Q B none F C) :
    (State.setWord s a w).Good Q B none F C := by
  simp (maxDischargeDepth := 60) +contextual [State.setWord, hs]

@[simp] theorem State.onJob_good {s : State} {q f} (hs : s.Good Q B M F C) :
    (State.onJob s q f).Good Q B M F C := by
  simp (maxDischargeDepth := 60) +contextual [State.onJob, hs]

end Sys2Proof.Machine
end

