-- ==== Sys2Proof/Laws/Packets.lean ====
section
/-! SUPPORT. What the operations of Machine/Packets.lean keep (Laws/Keep.lean). -/

namespace Sys2Proof.Machine

variable {Q : List Instr} {B : Nat → Nat} {M : Option (List Host.Cell)} {F : Option (List (Nat × Nat))} {C : Option Cistern}

@[simp] theorem State.onPort_good {s : State} {p f} (hs : s.Good Q B M F C) :
    (State.onPort s p f).Good Q B M F C := by
  simp (maxDischargeDepth := 60) +contextual [State.onPort, hs]

@[simp] theorem State.sendLink_good {s : State} {p k} (hs : s.Good Q B M F C) :
    (State.sendLink s p k).Good Q B M F C := by
  simp (maxDischargeDepth := 60) +contextual [State.sendLink, hs]

@[simp] theorem State.sendCredit_good {s : State} {p} (hs : s.Good Q B M F C) :
    (State.sendCredit s p).Good Q B M F C := by
  simp (maxDischargeDepth := 60) +contextual [State.sendCredit, hs]

@[simp] theorem State.countFreed_good {s : State} {p cls} (hs : s.Good Q B M F C) :
    (State.countFreed s p cls).Good Q B M F C := by
  simp (maxDischargeDepth := 60) +contextual [State.countFreed, hs]

@[simp] theorem State.settleBuf_good {s : State} {b} (hs : s.Good Q B M F C) :
    (State.settleBuf s b).Good Q B M F C := by
  simp (maxDischargeDepth := 60) +contextual [State.settleBuf, hs]

@[simp] theorem State.pump_good {s : State} {p a_} (hs : s.Good Q B M F C) :
    (State.pump s p a_).Good Q B M F C := by
  revert hs; fun_induction State.pump s p a_ <;> intros <;> simp_all (maxDischargeDepth := 60) +contextual

@[simp] theorem State.pumpAll_good {s : State} {p} (hs : s.Good Q B M F C) :
    (State.pumpAll s p).Good Q B M F C := by
  simp (maxDischargeDepth := 60) +contextual [State.pumpAll, hs]

@[simp] theorem State.enqueue_good {s : State} {p k b} (hs : s.Good Q B M F C) :
    (State.enqueue s p k b).Good Q B M F C := by
  simp (maxDischargeDepth := 60) +contextual [State.enqueue, hs]

@[simp] theorem State.floodOut_good {s : State} {except k b} (hs : s.Good Q B M F C) :
    (State.floodOut s except k b).Good Q B M F C := by
  simp (maxDischargeDepth := 60) +contextual [State.floodOut, hs]

@[simp] theorem State.noteFlood_good {s : State} {k} (hs : s.Good Q B M F C) :
    (State.noteFlood s k).Good Q B M F C := by
  simp (maxDischargeDepth := 60) +contextual [State.noteFlood, hs]

@[simp] theorem State.floodOwn_good {s : State} {k} (hs : s.Good Q B M F C) :
    (State.floodOwn s k).Good Q B M F C := by
  simp (maxDischargeDepth := 60) +contextual [State.floodOwn, hs]

@[simp] theorem State.floodStop_good {s : State} {cause} (hs : s.Good Q B M F C) :
    (State.floodStop s cause).Good Q B M F C := by
  simp (maxDischargeDepth := 60) +contextual [State.floodStop, hs]

end Sys2Proof.Machine
end

