-- ==== Sys2Proof/Laws/HostPost.lean ====
section
/-! SUPPORT. What the operations of Machine/HostPost.lean keep (Laws/Keep.lean). -/

namespace Sys2Proof.Machine

variable {Q : List Instr} {B : Nat → Nat} {M : Option (List Host.Cell)} {F : Option (List (Nat × Nat))} {C : Option Cistern}

@[simp] theorem State.postBytes_good {s : State} {addr l} (hs : s.Good Q B M F C) :
    (State.postBytes s addr l).Good Q B M F C := by
  simp (maxDischargeDepth := 60) +contextual [State.postBytes, hs]

@[simp] theorem State.post_good {s : State} {addr ws} (hs : s.Good Q B M F C) :
    (State.post s addr ws).Good Q B M F C := by
  simp (maxDischargeDepth := 60) +contextual [State.post, hs]

@[simp] theorem State.msix_good {s : State} {v} (hs : s.Good Q B M F C) :
    (State.msix s v).Good Q B M F C := by
  simp (maxDischargeDepth := 60) +contextual [State.msix, hs]

@[simp] theorem State.ringWrite_good {s : State} {baseLo baseHi log2 prod ws} (hs : s.Good Q B M F C) :
    (State.ringWrite s baseLo baseHi log2 prod ws).Good Q B M F C := by
  simp (maxDischargeDepth := 60) +contextual [State.ringWrite, hs]

@[simp] theorem State.coverCpl_good {s : State} {irq} (hs : s.Good Q B M F C) :
    (State.coverCpl s irq).Good Q B M F C := by
  simp (maxDischargeDepth := 60) +contextual [State.coverCpl, hs]

@[simp] theorem State.coverEvt_good {s : State} (hs : s.Good Q B M F C) :
    (State.coverEvt s).Good Q B M F C := by
  simp (maxDischargeDepth := 60) +contextual [State.coverEvt, hs]

@[simp] theorem State.coverDue_good {s : State} (hs : s.Good Q B M F C) :
    (State.coverDue s).Good Q B M F C := by
  simp (maxDischargeDepth := 60) +contextual [State.coverDue, hs]

@[simp] theorem State.hostBoundary_good {s : State} (hs : s.Good Q B M F C) :
    (State.hostBoundary s).Good Q B M F C := by
  simp (maxDischargeDepth := 60) +contextual [State.hostBoundary, hs]

@[simp] theorem State.closeJob_good {s : State} {r} (hs : s.Good Q B M F C) :
    (State.closeJob s r).Good Q B M F C := by
  unfold State.closeJob; (repeat' split) <;> simp (maxDischargeDepth := 60) +contextual [hs]

@[simp] theorem State.drainCpl_good {s : State} {a_} (hs : s.Good Q B M F C) :
    (State.drainCpl s a_).Good Q B M F C := by
  revert hs; fun_induction State.drainCpl s a_ <;> intros <;> simp_all (maxDischargeDepth := 60) +contextual

@[simp] theorem State.drainEvt_good {s : State} {a_} (hs : s.Good Q B M F C) :
    (State.drainEvt s a_).Good Q B M F C := by
  revert hs; fun_induction State.drainEvt s a_ <;> intros <;> simp_all (maxDischargeDepth := 60) +contextual

@[simp] theorem State.newTag_good {s : State} (hs : s.Good Q B M F C) :
    (State.newTag s).Good Q B M F C := by
  simp (maxDischargeDepth := 60) +contextual [State.newTag, hs]

@[simp] theorem State.countNoPath_good {s : State} {k} (hs : s.Good Q B M F C) :
    (State.countNoPath s k).Good Q B M F C := by
  simp (maxDischargeDepth := 60) +contextual [State.countNoPath, hs]

@[simp] theorem State.sendAnswer_good {s : State} {k} (hs : s.Good Q B M F C) :
    (State.sendAnswer s k).Good Q B M F C := by
  unfold State.sendAnswer; (repeat' split) <;> simp (maxDischargeDepth := 60) +contextual [hs]

@[simp] theorem State.noPath_good {s : State} {k} (hs : s.Good Q B M F C) :
    (State.noPath s k).Good Q B M F C := by
  simp (maxDischargeDepth := 60) +contextual [State.noPath, hs]

@[simp] theorem State.sendRouted_good {s : State} {k} (hs : s.Good Q B M F C) :
    (State.sendRouted s k).Good Q B M F C := by
  unfold State.sendRouted; (repeat' split) <;> simp (maxDischargeDepth := 60) +contextual [hs]

@[simp] theorem State.issue_good {s : State} {t k} (hs : s.Good Q B M F C) :
    (State.issue s t k).Good Q B M F C := by
  simp (maxDischargeDepth := 60) +contextual [State.issue, hs]

@[simp] theorem State.issueHeld_good {s : State} {a_} (hs : s.Good Q B M F C) :
    (State.issueHeld s a_).Good Q B M F C := by
  revert hs; fun_induction State.issueHeld s a_ <;> intros <;> simp_all (maxDischargeDepth := 60) +contextual

@[simp] theorem State.sendWr_good {s : State} {dst addr ws why} (hs : s.Good Q B M F C) :
    (State.sendWr s dst addr ws why).Good Q B M F C := by
  simp (maxDischargeDepth := 60) +contextual [State.sendWr, hs]

@[simp] theorem State.sendRd_good {s : State} {dst addr n why} (hs : s.Good Q B M F C) :
    (State.sendRd s dst addr n why).Good Q B M F C := by
  simp (maxDischargeDepth := 60) +contextual [State.sendRd, hs]

@[simp] theorem State.sendCpl_good {s : State} (hs : s.Good Q B M F C) :
    (State.sendCpl s).Good Q B M F C := by
  unfold State.sendCpl; (repeat' split) <;> simp (maxDischargeDepth := 60) +contextual [hs]

@[simp] theorem State.sendEvt_good {s : State} (hs : s.Good Q B M F C) :
    (State.sendEvt s).Good Q B M F C := by
  unfold State.sendEvt; (repeat' split) <;> simp (maxDischargeDepth := 60) +contextual [hs]

@[simp] theorem State.postCompletion_good {s : State} {r} (hs : s.Good Q B M F C) :
    (State.postCompletion s r).Good Q B M F C := by
  simp (maxDischargeDepth := 60) +contextual [State.postCompletion, hs]

@[simp] theorem State.queueEvent_good {s : State} {r} (hs : s.Good Q B M F C) :
    (State.queueEvent s r).Good Q B M F C := by
  simp (maxDischargeDepth := 60) +contextual [State.queueEvent, hs]

@[simp] theorem State.postEvent_good {s : State} {code data} (hs : s.Good Q B M F C) :
    (State.postEvent s code data).Good Q B M F C := by
  simp (maxDischargeDepth := 60) +contextual [State.postEvent, hs]

end Sys2Proof.Machine
end

