-- ==== Sys2Proof/Laws/Rails.lean ====
section
/-! SUPPORT. What the operations of Machine/Rails.lean keep (Laws/Keep.lean). -/

namespace Sys2Proof.Machine

variable {Q : List Instr} {B : Nat → Nat} {M : Option (List Host.Cell)} {F : Option (List (Nat × Nat))} {C : Option Cistern}

@[simp] theorem State.trySettle_good {s : State} {h} (hs : s.Good Q B M F C) :
    (State.trySettle s h).Good Q B M F C := by
  simp (maxDischargeDepth := 60) +contextual [State.trySettle, hs]

@[simp] theorem State.settleHeads_good {s : State} (hs : s.Good Q B M F C) :
    (State.settleHeads s).Good Q B M F C := by
  simp (maxDischargeDepth := 60) +contextual [State.settleHeads, hs]

@[simp] theorem State.countSkip_good {s : State} {h pos scan} (hs : s.Good Q B M F C) :
    (State.countSkip s h pos scan).Good Q B M F C := by
  simp (maxDischargeDepth := 60) +contextual [State.countSkip, hs]

@[simp] theorem State.skipSense_good {s : State} {h pos} (hs : s.Good Q B M F C) :
    (State.skipSense s h pos).Good Q B M F C := by
  unfold State.skipSense; (repeat' split) <;> simp (maxDischargeDepth := 60) +contextual [hs]

@[simp] theorem State.voidSense_good {s : State} {h pos} (hs : s.Good Q B M F C) :
    (State.voidSense s h pos).Good Q B M F C := by
  simp only [State.voidSense]; (repeat' split) <;> simp (maxDischargeDepth := 60) +contextual [hs]

@[simp] theorem State.showRail_good {s : State} {h st} (hs : s.Good Q B M F C) :
    (State.showRail s h st).Good Q B M F C := by
  simp (maxDischargeDepth := 60) +contextual [State.showRail, hs]

@[simp] theorem State.moveRail_good {s : State} {h st} (hs : s.Good Q B M F C) :
    (State.moveRail s h st).Good Q B M F C := by
  simp (maxDischargeDepth := 60) +contextual [State.moveRail, hs]

@[simp] theorem State.releaseRail_good {s : State} {h} (hs : s.Good Q B M F C) :
    (State.releaseRail s h).Good Q B M F C := by
  simp (maxDischargeDepth := 60) +contextual [State.releaseRail, hs]

@[simp] theorem State.voidSlot_good {s : State} {c} (hs : s.Good Q B M F C) :
    (State.voidSlot s c).Good Q B M F C := by
  unfold State.voidSlot; (repeat' split) <;> simp (maxDischargeDepth := 60) +contextual [hs]

@[simp] theorem State.cutSlots_good {s : State} (hs : s.Good Q B M F C) :
    (State.cutSlots s).Good Q B M F C := by
  simp (maxDischargeDepth := 60) +contextual [State.cutSlots, hs]

end Sys2Proof.Machine
end

