-- ==== Sys2Proof/Laws/Stop.lean ====
section
/-! SUPPORT. What the operations of Machine/Stop.lean keep (Laws/Keep.lean). -/

namespace Sys2Proof.Machine

variable {Q : List Instr} {B : Nat → Nat} {M : Option (List Host.Cell)} {F : Option (List (Nat × Nat))} {C : Option Cistern}

@[simp] theorem State.idleClassB_good {s : State} (hs : s.Good Q B M F C) :
    (State.idleClassB s).Good Q B M F C := by
  simp (maxDischargeDepth := 60) +contextual [State.idleClassB, hs]

@[simp] theorem State.complete_good {s : State} {q status source code} (hs : s.Good Q B M F C) :
    (State.complete s q status source code).Good Q B M F C := by
  unfold State.complete; (repeat' split) <;> simp (maxDischargeDepth := 60) +contextual [hs]

@[simp] theorem State.syncFire_good {s : State} (hs : s.Good Q B M F C) :
    (State.syncFire s).Good Q B M F C := by
  simp (maxDischargeDepth := 60) +contextual [State.syncFire, hs]

@[simp] theorem State.syncCmp_good {s : State} (hs : s.Good Q B M F C) :
    (State.syncCmp s).Good Q B M F C := by
  simp (maxDischargeDepth := 60) +contextual [State.syncCmp, hs]

@[simp] theorem State.setKill_good {s : State} {l} (hs : s.Good Q B M F C) :
    (State.setKill s l).Good Q B M F C := by
  simp (maxDischargeDepth := 60) +contextual [State.setKill, hs]

@[simp] theorem State.toggleTables_good {s : State} {m} (hs : s.Good Q B M F C) :
    (State.toggleTables s m).Good Q B M F C := by
  simp (maxDischargeDepth := 60) +contextual [State.toggleTables, hs]

@[simp] theorem State.lateKills_good {s : State} (hs : s.Good Q B M F C) :
    (State.lateKills s).Good Q B M F C := by
  simp (maxDischargeDepth := 60) +contextual [State.lateKills, hs]

@[simp] theorem State.finishSwaps_good {s : State} (hs : s.Good Q B M F C) :
    (State.finishSwaps s).Good Q B M F C := by
  simp (maxDischargeDepth := 60) +contextual [State.finishSwaps, hs]

@[simp] theorem State.swapWhere_good {s : State} {sel m upd} (hs : s.Good Q B M F C) :
    (State.swapWhere s sel m upd).Good Q B M F C := by
  simp (maxDischargeDepth := 60) +contextual [State.swapWhere, hs]

@[simp] theorem State.swapComposeAt_good {s : State} {l} (hs : s.Good Q B M F C) :
    (State.swapComposeAt s l).Good Q B M F C := by
  simp (maxDischargeDepth := 60) +contextual [State.swapComposeAt, hs]

@[simp] theorem State.swapComposeIdle_good {s : State} (hs : s.Good Q B M F C) :
    (State.swapComposeIdle s).Good Q B M F C := by
  simp (maxDischargeDepth := 60) +contextual [State.swapComposeIdle, hs]

@[simp] theorem State.swapCalIdle_good {s : State} (hs : s.Good Q B M F C) :
    (State.swapCalIdle s).Good Q B M F C := by
  simp (maxDischargeDepth := 60) +contextual [State.swapCalIdle, hs]

@[simp] theorem State.swapCalAt_good {s : State} {g} (hs : s.Good Q B M F C) :
    (State.swapCalAt s g).Good Q B M F C := by
  simp (maxDischargeDepth := 60) +contextual [State.swapCalAt, hs]

@[simp] theorem State.tagSwaps_good {s : State} {l g} (hs : s.Good Q B M F C) :
    (State.tagSwaps s l g).Good Q B M F C := by
  simp (maxDischargeDepth := 60) +contextual [State.tagSwaps, hs]

@[simp] theorem State.swapStop_good {s : State} (hs : s.Good Q B M F C) :
    (State.swapStop s).Good Q B M F C := by
  simp (maxDischargeDepth := 60) +contextual [State.swapStop, hs]

@[simp] theorem State.sendTap_good {s : State} {a} (hs : s.Good Q B M F C) :
    (State.sendTap s a).Good Q B M F C := by
  simp (maxDischargeDepth := 60) +contextual [State.sendTap, hs]

@[simp] theorem State.syncPin_good {s : State} (hs : s.Good Q B M F C) :
    (State.syncPin s).Good Q B M F C := by
  simp (maxDischargeDepth := 60) +contextual [State.syncPin, hs]

@[simp] theorem State.cmpAbandon_good {s : State} {stop} (hs : s.Good Q B M F C) :
    (State.cmpAbandon s stop).Good Q B M F C := by
  simp (maxDischargeDepth := 60) +contextual [State.cmpAbandon, hs]

@[simp] theorem State.stopJobs_good {s : State} (hs : s.Good Q B M F C) :
    (State.stopJobs s).Good Q B M F C := by
  simp (maxDischargeDepth := 60) +contextual [State.stopJobs, hs]

@[simp] theorem State.stopPorts_good {s : State} (hs : s.Good Q B M F C) :
    (State.stopPorts s).Good Q B M F C := by
  simp (maxDischargeDepth := 60) +contextual [State.stopPorts, hs]

@[simp] theorem State.nodeStop_good {s : State} {cause} (hs : s.Good Q B M F C) :
    (State.nodeStop s cause).Good Q B M F C := by
  simp only [State.nodeStop]; (repeat' split) <;> simp (maxDischargeDepth := 60) +contextual [hs]

end Sys2Proof.Machine
end

