-- ==== Sys2Proof/Laws/CalCore.lean ====
section
/-! SUPPORT. What the operations of Machine/CalCore.lean keep (Laws/Keep.lean). -/

namespace Sys2Proof.Machine

variable {Q : List Instr} {B : Nat → Nat} {M : Option (List Host.Cell)} {F : Option (List (Nat × Nat))} {C : Option Cistern}

@[simp] theorem State.calResult_good {s : State} {e code qty point t} (hs : s.Good Q B M F C) :
    (State.calResult s e code qty point t).Good Q B M F C := by
  simp (maxDischargeDepth := 60) +contextual [State.calResult, hs]

@[simp] theorem State.calRetry_good {s : State} {e} (hs : s.Good Q B M F C) :
    (State.calRetry s e).Good Q B M F C := by
  simp (maxDischargeDepth := 60) +contextual [State.calRetry, hs]

@[simp] theorem State.freeLane_good {s : State} (hs : s.Good Q B M F C) :
    (State.freeLane s).Good Q B M F C := by
  unfold State.freeLane; (repeat' split) <;> simp (maxDischargeDepth := 60) +contextual [hs]

@[simp] theorem State.abortLane_good {s : State} {code} (hs : s.Good Q B M F C) :
    (State.abortLane s code).Good Q B M F C := by
  unfold State.abortLane; (repeat' split) <;> simp (maxDischargeDepth := 60) +contextual [hs]

end Sys2Proof.Machine
end

