-- ==== Sys2Proof/Laws/Flags.lean ====
section
/-! SUPPORT. What the operations of Machine/Flags.lean keep (Laws/Keep.lean). -/

namespace Sys2Proof.Machine

variable {Q : List Instr} {B : Nat → Nat} {M : Option (List Host.Cell)} {F : Option (List (Nat × Nat))} {C : Option Cistern}

@[simp] theorem State.syncSev_good {s : State} (hs : s.Good Q B M F C) :
    (State.syncSev s).Good Q B M F C := by
  simp (maxDischargeDepth := 60) +contextual [State.syncSev, hs]

@[simp] theorem State.syncStops_good {s : State} (hs : s.Good Q B M F C) :
    (State.syncStops s).Good Q B M F C := by
  simp (maxDischargeDepth := 60) +contextual [State.syncStops, hs]

@[simp] theorem State.syncEvq_good {s : State} (hs : s.Good Q B M F C) :
    (State.syncEvq s).Good Q B M F C := by
  simp (maxDischargeDepth := 60) +contextual [State.syncEvq, hs]

@[simp] theorem State.recordFirst_good {s : State} {q sev inst detail} (hs : s.Good Q B M F C) :
    (State.recordFirst s q sev inst detail).Good Q B M F C := by
  simp (maxDischargeDepth := 60) +contextual [State.recordFirst, hs]

@[simp] theorem State.recordLatest_good {s : State} {q sev inst detail} (hs : s.Good Q B M F C) :
    (State.recordLatest s q sev inst detail).Good Q B M F C := by
  simp (maxDischargeDepth := 60) +contextual [State.recordLatest, hs]

@[simp] theorem State.nmi_good {s : State} (hs : s.Good Q B M F C) :
    (State.nmi s).Good Q B M F C := by
  simp (maxDischargeDepth := 60) +contextual [State.nmi, hs]

@[simp] theorem State.wdtPause_good {s : State} (hs : s.Good Q B M F C) :
    (State.wdtPause s).Good Q B M F C := by
  simp (maxDischargeDepth := 60) +contextual [State.wdtPause, hs]

@[simp] theorem State.countFatal_good {s : State} (hs : s.Good Q B M F C) :
    (State.countFatal s).Good Q B M F C := by
  simp (maxDischargeDepth := 60) +contextual [State.countFatal, hs]

@[simp] theorem State.fatal_good {s : State} {q} (hs : s.Good Q B M F C) :
    (State.fatal s q).Good Q B M F C := by
  simp (maxDischargeDepth := 60) +contextual [State.fatal, hs]

@[simp] theorem State.reportCore_good {s : State} {q sev inst detail} (hs : s.Good Q B M F C) :
    (State.reportCore s q sev inst detail).Good Q B M F C := by
  simp (maxDischargeDepth := 60) +contextual [State.reportCore, hs]

@[simp] theorem State.noteOverflow_good {s : State} {full q} (hs : s.Good Q B M F C) :
    (State.noteOverflow s full q).Good Q B M F C := by
  simp (maxDischargeDepth := 60) +contextual [State.noteOverflow, hs]

@[simp] theorem State.stopRun_good {s : State} (hs : s.Good Q B M F C) :
    (State.stopRun s).Good Q B M F C := by
  unfold State.stopRun; (repeat' split) <;> simp (maxDischargeDepth := 60) +contextual [hs]

@[simp] theorem State.unreachRun_good {s : State} (hs : s.Good Q B M F C) :
    (State.unreachRun s).Good Q B M F C := by
  simp (maxDischargeDepth := 60) +contextual [State.unreachRun, hs]

@[simp] theorem State.halt_good {s : State} {cause} (hs : s.Good Q B M F C) :
    (State.halt s cause).Good Q B M F C := by
  simp (maxDischargeDepth := 60) +contextual [State.halt, hs]

@[simp] theorem State.reportSev_good {s : State} {q sev inst detail} (hs : s.Good Q B M F C) :
    (State.reportSev s q sev inst detail).Good Q B M F C := by
  simp (maxDischargeDepth := 60) +contextual [State.reportSev, hs]

@[simp] theorem State.report_good {s : State} {q inst detail} (hs : s.Good Q B M F C) :
    (State.report s q inst detail).Good Q B M F C := by
  simp (maxDischargeDepth := 60) +contextual [State.report, hs]

@[simp] theorem State.calAbortRun_good {s : State} {code} (hs : s.Good Q B M F C) :
    (State.calAbortRun s code).Good Q B M F C := by
  unfold State.calAbortRun; (repeat' split) <;> simp (maxDischargeDepth := 60) +contextual [hs]

@[simp] theorem State.reportOnce_good {s : State} {f q inst detail} (hs : s.Good Q B M F C) :
    (State.reportOnce s f q inst detail).Good Q B M F C := by
  simp (maxDischargeDepth := 60) +contextual [State.reportOnce, hs]

@[simp] theorem State.decodeError_good {s : State} {issuer addr} (hs : s.Good Q B M F C) :
    (State.decodeError s issuer addr).Good Q B M F C := by
  simp (maxDischargeDepth := 60) +contextual [State.decodeError, hs]

end Sys2Proof.Machine
end

