-- ==== Sys2Proof/Laws/Cells.lean ====
section
/-! SUPPORT. What the operations of Machine/Cells.lean keep (Laws/Keep.lean). -/

namespace Sys2Proof.Machine

variable {Q : List Instr} {B : Nat → Nat} {M : Option (List Host.Cell)} {F : Option (List (Nat × Nat))} {C : Option Cistern}

@[simp] theorem State.setCell_good {s : State} {k v} (hs : s.Good Q B M none C) : (State.setCell s k v).Good Q B M none C := by
  refine ⟨hs.mem, hs.regs, hs.time, hs.queue, fun j => Nat.le_trans (hs.burnt j) ?_, hs.sameMem, nofun, hs.sameCistern⟩
  rw [show (s.setCell k v).otp.cells = mapPut (fun _ => 0) s.otp.cells k (max (min 2 v) (s.cell k)) from rfl]
  by_cases h : k = j
  · subst h
    rw [mapGet_put_same]
    exact Nat.le_max_right _ _
  · exact Nat.le_of_eq (mapGet_put_other _ _ _ h).symm

@[simp] theorem State.flagMargin_good {s : State} {w} (hs : s.Good Q B M F C) :
    (State.flagMargin s w).Good Q B M F C := by
  simp (maxDischargeDepth := 60) +contextual [State.flagMargin, hs]

@[simp] theorem State.burnBit_good {s : State} {i r} (hs : s.Good Q B M none C) :
    (State.burnBit s i r).1.Good Q B M none C := by
  simp (maxDischargeDepth := 60) +contextual [State.burnBit, hs]

@[simp] theorem State.burnBits_good {s : State} {a_ a_2 a_3} (hs : s.Good Q B M none C) :
    (State.burnBits s a_ a_2 a_3).1.Good Q B M none C := by
  revert hs; fun_induction State.burnBits s a_ a_2 a_3 <;> intros <;> (repeat' split) <;> simp_all +zetaDelta (maxDischargeDepth := 60) +contextual

@[simp] theorem State.burnLog_good {s : State} {a_ a_2 a_3} (hs : s.Good Q B M none C) :
    (State.burnLog s a_ a_2 a_3).1.Good Q B M none C := by
  revert hs; fun_induction State.burnLog s a_ a_2 a_3 <;> intros <;> (repeat' split) <;> simp_all +zetaDelta (maxDischargeDepth := 60) +contextual

@[simp] theorem State.logFuse_good {s : State} {r} (hs : s.Good Q B M none C) :
    (State.logFuse s r).1.Good Q B M none C := by
  simp (maxDischargeDepth := 60) +contextual [State.logFuse, hs]

end Sys2Proof.Machine
end

