-- ==== Sys2Proof/Laws/Operands.lean ====
section
/-! SUPPORT. What the operations of Machine/Operands.lean keep (Laws/Keep.lean). -/

namespace Sys2Proof.Machine

variable {Q : List Instr} {B : Nat → Nat} {M : Option (List Host.Cell)} {F : Option (List (Nat × Nat))} {C : Option Cistern}

/-- The bytes of a word make its number again. -/
@[simp] theorem bytesNat_wordBytes (w : Word) : bytesNat (wordBytes w) = w.toNat := by
  simp only [wordBytes, bytesNat, BitVec.extractLsb'_toNat, Nat.shiftRight_eq_div_pow]
  have := w.isLt
  omega

@[simp] theorem State.corrected_good {s : State} {a} (hs : s.Good Q B M F C) :
    (State.corrected s a).Good Q B M F C := by
  unfold State.corrected; (repeat' split) <;> simp (maxDischargeDepth := 60) +contextual [hs]

@[simp] theorem State.uncorrectable_good {s : State} {a} (hs : s.Good Q B M F C) :
    (State.uncorrectable s a).Good Q B M F C := by
  unfold State.uncorrectable; (repeat' split) <;> simp (maxDischargeDepth := 60) +contextual [hs]

@[simp] theorem State.ramRead_good {s : State} {issuer a n x} (hs : s.Good Q B M F C) :
    (State.ramRead s issuer a n x).1.Good Q B M F C := by
  simp only [State.ramRead]; (repeat' split) <;> simp (maxDischargeDepth := 60) +contextual [hs]

@[simp] theorem State.collide_good {s : State} {w} (hs : s.Good Q B M F C) :
    (State.collide s w).Good Q B M F C := by
  simp (maxDischargeDepth := 60) +contextual [State.collide, hs]

@[simp] theorem State.ramWrite_good {s : State} {issuer a l x} (hs : s.Good Q B none F C) :
    (State.ramWrite s issuer a l x).1.Good Q B none F C := by
  simp only [State.ramWrite]; (repeat' split) <;> simp (maxDischargeDepth := 60) +contextual [hs]

@[simp] theorem State.ramWriteWords_good {s : State} {issuer a ws x} (hs : s.Good Q B none F C) :
    (State.ramWriteWords s issuer a ws x).1.Good Q B none F C := by
  simp (maxDischargeDepth := 60) +contextual [State.ramWriteWords, hs]

@[simp] theorem State.noteTmo_good {s : State} {dst detail} (hs : s.Good Q B M F C) :
    (State.noteTmo s dst detail).Good Q B M F C := by
  simp (maxDischargeDepth := 60) +contextual [State.noteTmo, hs]

@[simp] theorem State.farRd_good {s : State} {n b m x} (hs : s.Good Q B M F C) :
    (State.farRd s n b m x).1.Good Q B M F C := by
  unfold State.farRd; (repeat' split) <;> simp (maxDischargeDepth := 60) +contextual [hs]

@[simp] theorem State.farRds_good {s : State} {n l x} (hs : s.Good Q B M F C) :
    (State.farRds s n l x).1.Good Q B M F C := by
  simp (maxDischargeDepth := 60) +contextual [State.farRds, hs]

@[simp] theorem State.devRead_good {s : State} {issuer a n x} (hs : s.Good Q B M F C) :
    (State.devRead s issuer a n x).1.Good Q B M F C := by
  unfold State.devRead; (repeat' split) <;> simp (maxDischargeDepth := 60) +contextual [hs]

@[simp] theorem State.devWords_good {s : State} {issuer a n x} (hs : s.Good Q B M F C) :
    (State.devWords s issuer a n x).1.Good Q B M F C := by
  simp (maxDischargeDepth := 60) +contextual [State.devWords, hs]

@[simp] theorem State.syncTimer_good {s : State} (hs : s.Good Q B M F C) :
    (State.syncTimer s).Good Q B M F C := by
  simp (maxDischargeDepth := 60) +contextual [State.syncTimer, hs]

@[simp] theorem State.afterRead_good {s : State} {a rc} (hs : s.Good Q B M F C) :
    (State.afterRead s a rc).Good Q B M F C := by
  simp (maxDischargeDepth := 60) +contextual [State.afterRead, hs]

@[simp] theorem State.syncJlog_good {s : State} (hs : s.Good Q B M F C) :
    (State.syncJlog s).Good Q B M F C := by
  simp (maxDischargeDepth := 60) +contextual [State.syncJlog, hs]

@[simp] theorem State.regRead_good {s : State} {issuer a} (hs : s.Good Q B M F C) :
    (State.regRead s issuer a).1.Good Q B M F C := by
  unfold State.regRead; (repeat' split) <;> simp (maxDischargeDepth := 60) +contextual [hs]

@[simp] theorem State.storeReg_good {s : State} {b r i a v act} (hs : s.Good Q B M F C) :
    (State.storeReg s b r i a v act).Good Q B M F C := by
  simp (maxDischargeDepth := 60) +contextual [State.storeReg, hs]

end Sys2Proof.Machine
end

