-- ==== Sys2Proof/Laws/JobOps.lean ====
section
/-! SUPPORT. What the operations of Machine/JobOps.lean keep (Laws/Keep.lean). -/

namespace Sys2Proof.Machine

variable {Q : List Instr} {B : Nat → Nat} {M : Option (List Host.Cell)} {F : Option (List (Nat × Nat))} {C : Option Cistern}

@[simp] theorem State.setCompare_good {s : State} {c} (hs : s.Good Q B M F C) :
    (State.setCompare s c).Good Q B M F C := by
  simp (maxDischargeDepth := 60) +contextual [State.setCompare, hs]

@[simp] theorem State.loadArmed_good {s : State} (hs : s.Good Q B M F C) :
    (State.loadArmed s).Good Q B M F C := by
  unfold State.loadArmed; (repeat' split) <;> simp (maxDischargeDepth := 60) +contextual [hs]

@[simp] theorem State.dropCompare_good {s : State} {q} (hs : s.Good Q B M F C) :
    (State.dropCompare s q).Good Q B M F C := by
  simp (maxDischargeDepth := 60) +contextual [State.dropCompare, hs]

@[simp] theorem State.disarm_good {s : State} (hs : s.Good Q B M F C) :
    (State.disarm s).Good Q B M F C := by
  unfold State.disarm; (repeat' split) <;> simp (maxDischargeDepth := 60) +contextual [hs]

@[simp] theorem State.cancelTrigs_good {s : State} {sel} (hs : s.Good Q B M F C) :
    (State.cancelTrigs s sel).Good Q B M F C := by
  simp (maxDischargeDepth := 60) +contextual [State.cancelTrigs, hs]

@[simp] theorem State.endJob_good {s : State} {q status} (hs : s.Good Q B M F C) :
    (State.endJob s q status).Good Q B M F C := by
  simp (maxDischargeDepth := 60) +contextual [State.endJob, hs]

@[simp] theorem State.abortRunning_good {s : State} {group} (hs : s.Good Q B M F C) :
    (State.abortRunning s group).Good Q B M F C := by
  unfold State.abortRunning; (repeat' split) <;> simp (maxDischargeDepth := 60) +contextual [hs]

@[simp] theorem State.settleSwaps_good {s : State} (hs : s.Good Q B M F C) :
    (State.settleSwaps s).Good Q B M F C := by
  simp (maxDischargeDepth := 60) +contextual [State.settleSwaps, hs]

@[simp] theorem State.startBlock_good {s : State} {code} (hs : s.Good Q B M F C) :
    (State.startBlock s code).Good Q B M F C := by
  simp (maxDischargeDepth := 60) +contextual [State.startBlock, hs]

@[simp] theorem State.enableBlock_good {s : State} {en pll code} (hs : s.Good Q B M F C) :
    (State.enableBlock s en pll code).Good Q B M F C := by
  simp (maxDischargeDepth := 60) +contextual [State.enableBlock, hs]

@[simp] theorem State.disableBlock_good {s : State} {en code} (hs : s.Good Q B M F C) :
    (State.disableBlock s en code).Good Q B M F C := by
  simp (maxDischargeDepth := 60) +contextual [State.disableBlock, hs]

end Sys2Proof.Machine
end

