-- ==== Sys2Proof/Laws/Arch.lean ====
section
/-! SUPPORT. What the operations of Machine/Arch.lean keep (Laws/Keep.lean). -/

namespace Sys2Proof.Machine

variable {Q : List Instr} {B : Nat → Nat} {M : Option (List Host.Cell)} {F : Option (List (Nat × Nat))} {C : Option Cistern}

@[simp] theorem State.setArm_good {s : State} {on} (hs : s.Good Q B M F C) :
    (State.setArm s on).Good Q B M F C := by
  simp (maxDischargeDepth := 60) +contextual [State.setArm, hs]

theorem execArmEn_good {on} {s : State} (hs : s.Good Q B M F C) :
    Answers Q B M F C (execArmEn on s) := by
  simp (maxDischargeDepth := 60) +contextual [execArmEn, hs]

@[simp] theorem State.requestSwap_good {s : State} {mask} (hs : s.Good Q B M F C) :
    (State.requestSwap s mask).Good Q B M F C := by
  simp (maxDischargeDepth := 60) +contextual [State.requestSwap, hs]

theorem execTblSwapCal_good {mask} {s : State} (hs : s.Good Q B M F C) :
    Answers Q B M F C (execTblSwapCal mask s) := by
  simp (maxDischargeDepth := 60) +contextual [execTblSwapCal, hs]

theorem execTblSwapRail_good {mask} {s : State} (hs : s.Good Q B M F C) :
    Answers Q B M F C (execTblSwapRail mask s) := by
  simp (maxDischargeDepth := 60) +contextual [execTblSwapRail, hs]

theorem execTblSwapComp_good {mask} {s : State} (hs : s.Good Q B M F C) :
    Answers Q B M F C (execTblSwapComp mask s) := by
  simp (maxDischargeDepth := 60) +contextual [execTblSwapComp, hs]

theorem execTblSwapHealth_good {mask} {s : State} (hs : s.Good Q B M F C) :
    Answers Q B M F C (execTblSwapHealth mask s) := by
  simp (maxDischargeDepth := 60) +contextual [execTblSwapHealth, hs]

theorem execSwapIdleComplete_good {s : State} (hs : s.Good Q B M F C) :
    Answers Q B M F C (execSwapIdleComplete s) := by
  simp (maxDischargeDepth := 60) +contextual [execSwapIdleComplete, hs]

theorem execErrorReport_good {q inst detail} {s : State} (hs : s.Good Q B M F C) :
    Answers Q B M F C (execErrorReport q inst detail s) := by
  simp (maxDischargeDepth := 60) +contextual [execErrorReport, hs]

theorem execSluicePin_good {s : State} (hs : s.Good Q B M F C) :
    Answers Q B M F C (execSluicePin s) := by
  simp (maxDischargeDepth := 60) +contextual [execSluicePin, hs]

theorem execSluiceSet_good {s : State} (hs : s.Good Q B M F C) :
    Answers Q B M F C (execSluiceSet s) := by
  simp (maxDischargeDepth := 60) +contextual [execSluiceSet, hs]

@[simp] theorem State.sluiceClear_good {s : State} (hs : s.Good Q B M F C) :
    (State.sluiceClear s).Good Q B M F C := by
  simp (maxDischargeDepth := 60) +contextual [State.sluiceClear, hs]

theorem execSluiceClr_good {s : State} (hs : s.Good Q B M F C) :
    Answers Q B M F C (execSluiceClr s) := by
  simp (maxDischargeDepth := 60) +contextual [execSluiceClr, hs]

@[simp] theorem State.sluiceCheck_good {s : State} {low} (hs : s.Good Q B M F C) :
    (State.sluiceCheck s low).Good Q B M F C := by
  simp (maxDischargeDepth := 60) +contextual [State.sluiceCheck, hs]

theorem execSluiceClrCheck_good {low} {s : State} (hs : s.Good Q B M F C) :
    Answers Q B M F C (execSluiceClrCheck low s) := by
  simp (maxDischargeDepth := 60) +contextual [execSluiceClrCheck, hs]

@[simp] theorem State.fireEnable_good {s : State} (hs : s.Good Q B M F C) :
    (State.fireEnable s).Good Q B M F C := by
  simp (maxDischargeDepth := 60) +contextual [State.fireEnable, hs]

theorem execFireEnable_good {s : State} (hs : s.Good Q B M F C) :
    Answers Q B M F C (execFireEnable s) := by
  simp (maxDischargeDepth := 60) +contextual [execFireEnable, hs]

@[simp] theorem State.fireDisable_good {s : State} (hs : s.Good Q B M F C) :
    (State.fireDisable s).Good Q B M F C := by
  simp (maxDischargeDepth := 60) +contextual [State.fireDisable, hs]

theorem execFireDisable_good {s : State} (hs : s.Good Q B M F C) :
    Answers Q B M F C (execFireDisable s) := by
  simp (maxDischargeDepth := 60) +contextual [execFireDisable, hs]

end Sys2Proof.Machine
end

