-- ==== Sys2Proof/Laws/FabLink.lean ====
section
/-! SUPPORT. What the operations of Machine/FabLink.lean keep (Laws/Keep.lean). -/

namespace Sys2Proof.Machine

variable {Q : List Instr} {B : Nat → Nat} {M : Option (List Host.Cell)} {F : Option (List (Nat × Nat))} {C : Option Cistern}

@[simp] theorem State.malformed_good {s : State} {p k} (hs : s.Good Q B M F C) :
    (State.malformed s p k).Good Q B M F C := by
  simp (maxDischargeDepth := 60) +contextual [State.malformed, hs]

@[simp] theorem State.sendAck_good {s : State} {p} (hs : s.Good Q B M F C) :
    (State.sendAck s p).Good Q B M F C := by
  simp (maxDischargeDepth := 60) +contextual [State.sendAck, hs]

@[simp] theorem State.sendNak_good {s : State} {p} (hs : s.Good Q B M F C) :
    (State.sendNak s p).Good Q B M F C := by
  simp (maxDischargeDepth := 60) +contextual [State.sendNak, hs]

@[simp] theorem State.takeSeq_good {s : State} {p} (hs : s.Good Q B M F C) :
    (State.takeSeq s p).Good Q B M F C := by
  simp (maxDischargeDepth := 60) +contextual [State.takeSeq, hs]

@[simp] theorem State.takeBuf_good {s : State} {p k} (hs : s.Good Q B M F C) :
    (State.takeBuf s p k).Good Q B M F C := by
  simp (maxDischargeDepth := 60) +contextual [State.takeBuf, hs]

@[simp] theorem State.receive_good {s : State} {p good k} (hs : s.Good Q B M F C) :
    (State.receive s p good k).1.Good Q B M F C := by
  unfold State.receive; (repeat' split) <;> simp (maxDischargeDepth := 60) +contextual [hs]

@[simp] theorem State.acked_good {s : State} {p lseq} (hs : s.Good Q B M F C) :
    (State.acked s p lseq).Good Q B M F C := by
  simp (maxDischargeDepth := 60) +contextual [State.acked, hs]

@[simp] theorem State.enqueueFirst_good {s : State} {p k b} (hs : s.Good Q B M F C) :
    (State.enqueueFirst s p k b).Good Q B M F C := by
  simp (maxDischargeDepth := 60) +contextual [State.enqueueFirst, hs]

@[simp] theorem State.moveOver_good {s : State} {p} (hs : s.Good Q B M F C) :
    (State.moveOver s p).Good Q B M F C := by
  refine State.each_good (State.each_good (State.each_good (by simp [hs]) (fun w t ht => ?_)) (by simp +contextual))
    (by simp +contextual)
  split <;> simp [ht]

@[simp] theorem State.switchRoutes_good {s : State} {p} (hs : s.Good Q B M F C) :
    (State.switchRoutes s p).Good Q B M F C := by
  simp (maxDischargeDepth := 60) +contextual [State.switchRoutes, hs]

@[simp] theorem State.unlock_good {s : State} (hs : s.Good Q B M F C) :
    (State.unlock s).Good Q B M F C := by
  simp (maxDischargeDepth := 60) +contextual [State.unlock, hs]

@[simp] theorem State.loseTime_good {s : State} {p} (hs : s.Good Q B M F C) :
    (State.loseTime s p).Good Q B M F C := by
  simp (maxDischargeDepth := 60) +contextual [State.loseTime, hs]

@[simp] theorem State.linkLost_good {s : State} {p why} (hs : s.Good Q B M F C) :
    (State.linkLost s p why).Good Q B M F C := by
  simp (maxDischargeDepth := 60) +contextual [State.linkLost, hs]

theorem execLinkLost_good {p why} {s : State} (hs : s.Good Q B M F C) :
    Answers Q B M F C (execLinkLost p why s) := by
  simp (maxDischargeDepth := 60) +contextual [execLinkLost, hs]

@[simp] theorem State.replayAll_good {s : State} {p} (hs : s.Good Q B M F C) :
    (State.replayAll s p).Good Q B M F C := by
  simp (maxDischargeDepth := 60) +contextual [State.replayAll, hs]

theorem execReplayTimeout_good {p} {s : State} (hs : s.Good Q B M F C) :
    Answers Q B M F C (execReplayTimeout p s) := by
  simp (maxDischargeDepth := 60) +contextual [execReplayTimeout, hs]

theorem execAckPacket_good {p crc k} {s : State} (hs : s.Good Q B M F C) :
    Answers Q B M F C (execAckPacket p crc k s) := by
  simp (maxDischargeDepth := 60) +contextual [execAckPacket, hs]

theorem execNakPacket_good {p crc k} {s : State} (hs : s.Good Q B M F C) :
    Answers Q B M F C (execNakPacket p crc k s) := by
  simp (maxDischargeDepth := 60) +contextual [execNakPacket, hs]

theorem execAckSend_good {p} {s : State} (hs : s.Good Q B M F C) :
    Answers Q B M F C (execAckSend p s) := by
  simp (maxDischargeDepth := 60) +contextual [execAckSend, hs]

theorem execCreditSend_good {p} {s : State} (hs : s.Good Q B M F C) :
    Answers Q B M F C (execCreditSend p s) := by
  simp (maxDischargeDepth := 60) +contextual [execCreditSend, hs]

@[simp] theorem State.takeCredits_good {s : State} {p w} (hs : s.Good Q B M F C) :
    (State.takeCredits s p w).Good Q B M F C := by
  simp (maxDischargeDepth := 60) +contextual [State.takeCredits, hs]

theorem execCreditPacket_good {p crc k} {s : State} (hs : s.Good Q B M F C) :
    Answers Q B M F C (execCreditPacket p crc k s) := by
  simp (maxDischargeDepth := 60) +contextual [execCreditPacket, hs]

theorem execKeepalive_good {p crc k} {s : State} (hs : s.Good Q B M F C) :
    Answers Q B M F C (execKeepalive p crc k s) := by
  simp (maxDischargeDepth := 60) +contextual [execKeepalive, hs]

@[simp] theorem State.trainOn_good {s : State} {p} (hs : s.Good Q B M F C) :
    (State.trainOn s p).Good Q B M F C := by
  unfold State.trainOn; (repeat' split) <;> simp (maxDischargeDepth := 60) +contextual [hs]

@[simp] theorem State.trainTick_good {s : State} (hs : s.Good Q B M F C) :
    (State.trainTick s).Good Q B M F C := by
  simp (maxDischargeDepth := 60) +contextual [State.trainTick, hs]

theorem execLinkUp_good {p identLo identHi rate16 width2 swap inv} {s : State} (hs : s.Good Q B M F C) :
    Answers Q B M F C (execLinkUp p identLo identHi rate16 width2 swap inv s) := by
  simp (maxDischargeDepth := 60) +contextual [execLinkUp, hs]

theorem execTrainRetry_good {p} {s : State} (hs : s.Good Q B M F C) :
    Answers Q B M F C (execTrainRetry p s) := by
  simp (maxDischargeDepth := 60) +contextual [execTrainRetry, hs]

@[simp] theorem State.portDown_good {s : State} {p} (hs : s.Good Q B M F C) :
    (State.portDown s p).Good Q B M F C := by
  simp (maxDischargeDepth := 60) +contextual [State.portDown, hs]

@[simp] theorem State.setPortEn_good {s : State} {p on} (hs : s.Good Q B M F C) :
    (State.setPortEn s p on).Good Q B M F C := by
  simp (maxDischargeDepth := 60) +contextual [State.setPortEn, hs]

@[simp] theorem State.forward_good {s : State} {p b k} (hs : s.Good Q B M F C) :
    (State.forward s p b k).Good Q B M F C := by
  unfold State.forward; (repeat' split) <;> simp (maxDischargeDepth := 60) +contextual [hs]

@[simp] theorem State.forwardFlood_good {s : State} {p b k} (hs : s.Good Q B M F C) :
    (State.forwardFlood s p b k).Good Q B M F C := by
  simp (maxDischargeDepth := 60) +contextual [State.forwardFlood, hs]

@[simp] theorem State.routed_good {s : State} {p good k vc typ} {f : State → State} (hs : s.Good Q B M F C) (hf2 : ∀ t, t.Good Q B M F C → (f t).Good Q B M F C) :
    (State.routed s p good k vc typ f).Good Q B M F C := by
  simp only [State.routed]; (repeat' split) <;> simp (maxDischargeDepth := 60) +contextual [hs, hf2]

@[simp] theorem State.flooded_good {s : State} {p good k vc typ} {f : State → State} (hs : s.Good Q B M F C) (hf2 : ∀ t, t.Good Q B M F C → (f t).Good Q B M F C) :
    (State.flooded s p good k vc typ f).Good Q B M F C := by
  simp only [State.flooded]; (repeat' split) <;> simp (maxDischargeDepth := 60) +contextual [hs, hf2]

@[simp] theorem State.sendSr_good {s : State} {k b} (hs : s.Good Q B M F C) :
    (State.sendSr s k b).Good Q B M F C := by
  simp (maxDischargeDepth := 60) +contextual [State.sendSr, hs]

@[simp] theorem State.sourceRouted_good {s : State} {p good k typ} {f : Packet → State → State} (hs : s.Good Q B M F C) (hf2 : ∀ y0 t, t.Good Q B M F C → (f y0 t).Good Q B M F C) :
    (State.sourceRouted s p good k typ f).Good Q B M F C := by
  simp only [State.sourceRouted]; (repeat' split) <;> simp (maxDischargeDepth := 60) +contextual [hs, hf2]

@[simp] theorem State.answerSr_good {s : State} {k typ rest} (hs : s.Good Q B M F C) :
    (State.answerSr s k typ rest).Good Q B M F C := by
  simp (maxDischargeDepth := 60) +contextual [State.answerSr, hs]

theorem execRouteRestore_good {d} {s : State} (hs : s.Good Q B M F C) :
    Answers Q B M F C (execRouteRestore d s) := by
  simp (maxDischargeDepth := 60) +contextual [execRouteRestore, hs]

theorem execParentRestore_good {s : State} (hs : s.Good Q B M F C) :
    Answers Q B M F C (execParentRestore s) := by
  simp (maxDischargeDepth := 60) +contextual [execParentRestore, hs]

end Sys2Proof.Machine
end

