-- ==== Sys2Proof/Laws/FabTime.lean ====
section
/-! SUPPORT. What the operations of Machine/FabTime.lean keep (Laws/Keep.lean). -/

namespace Sys2Proof.Machine

variable {Q : List Instr} {B : Nat → Nat} {M : Option (List Host.Cell)} {F : Option (List (Nat × Nat))} {C : Option Cistern}

@[simp] theorem State.setStamp_good {s : State} {t} (hs : s.Good Q B M F C) :
    (State.setStamp s t).Good Q B M F C := by
  exact State.syncTimer_good (good_time (State.onSys_good hs) (by omega))

@[simp] theorem State.syncRate_good {s : State} (hs : s.Good Q B M F C) :
    (State.syncRate s).Good Q B M F C := by
  simp (maxDischargeDepth := 60) +contextual [State.syncRate, hs]

@[simp] theorem State.servo_good {s : State} {p o} (hs : s.Good Q B M F C) :
    (State.servo s p o).Good Q B M F C := by
  simp (maxDischargeDepth := 60) +contextual [State.servo, hs]

@[simp] theorem State.lockStep_good {s : State} {o parentLocked} (hs : s.Good Q B M F C) :
    (State.lockStep s o parentLocked).Good Q B M F C := by
  simp (maxDischargeDepth := 60) +contextual [State.lockStep, hs]

@[simp] theorem State.leaveHoldover_good {s : State} {p locked} (hs : s.Good Q B M F C) :
    (State.leaveHoldover s p locked).Good Q B M F C := by
  simp (maxDischargeDepth := 60) +contextual [State.leaveHoldover, hs]

@[simp] theorem State.takeTime_good {s : State} {p k} (hs : s.Good Q B M F C) :
    (State.takeTime s p k).Good Q B M F C := by
  simp (maxDischargeDepth := 60) +contextual [State.takeTime, hs]

theorem execTimePacket_good {p crc k} {s : State} (hs : s.Good Q B M F C) :
    Answers Q B M F C (execTimePacket p crc k s) := by
  simp only [execTimePacket]; (repeat' split) <;> simp (maxDischargeDepth := 60) +contextual [hs]

theorem execTimeSend_good {s : State} (hs : s.Good Q B M F C) :
    Answers Q B M F C (execTimeSend s) := by
  simp (maxDischargeDepth := 60) +contextual [execTimeSend, hs]

theorem execHoldoverTimeout_good {s : State} (hs : s.Good Q B M F C) :
    Answers Q B M F C (execHoldoverTimeout s) := by
  simp (maxDischargeDepth := 60) +contextual [execHoldoverTimeout, hs]

theorem execDelayMeasurement_good {s : State} (hs : s.Good Q B M F C) :
    Answers Q B M F C (execDelayMeasurement s) := by
  simp (maxDischargeDepth := 60) +contextual [execDelayMeasurement, hs]

theorem execDlyReq_good {p crc k} {s : State} (hs : s.Good Q B M F C) :
    Answers Q B M F C (execDlyReq p crc k s) := by
  simp (maxDischargeDepth := 60) +contextual [execDlyReq, hs]

@[simp] theorem State.syncDly_good {s : State} {p} (hs : s.Good Q B M F C) :
    (State.syncDly s p).Good Q B M F C := by
  simp (maxDischargeDepth := 60) +contextual [State.syncDly, hs]

@[simp] theorem State.takeDelay_good {s : State} {p d} (hs : s.Good Q B M F C) :
    (State.takeDelay s p d).Good Q B M F C := by
  simp (maxDischargeDepth := 60) +contextual [State.takeDelay, hs]

theorem execDlyRsp_good {p crc k} {s : State} (hs : s.Good Q B M F C) :
    Answers Q B M F C (execDlyRsp p crc k s) := by
  simp only [execDlyRsp]; (repeat' split) <;> simp (maxDischargeDepth := 60) +contextual [hs]

@[simp] theorem State.tickTime_good {s : State} (hs : s.Good Q B M F C) :
    (State.tickTime s).Good Q B M F C := by
  unfold State.tickTime
  dsimp only
  split
  · exact good_with hs
  · split
    · exact good_time hs (Nat.mod_lt _ (by decide))
    · exact good_time hs (by omega)

end Sys2Proof.Machine
end

