-- ==== Sys2Proof/Laws/FabStop.lean ====
section
/-! SUPPORT. What the operations of Machine/FabStop.lean keep (Laws/Keep.lean). -/

namespace Sys2Proof.Machine

variable {Q : List Instr} {B : Nat → Nat} {M : Option (List Host.Cell)} {F : Option (List (Nat × Nat))} {C : Option Cistern}

@[simp] theorem State.takeStop_good {s : State} {k} (hs : s.Good Q B M F C) :
    (State.takeStop s k).Good Q B M F C := by
  simp (maxDischargeDepth := 60) +contextual [State.takeStop, hs]

theorem execStopPacket_good {p crc k} {s : State} (hs : s.Good Q B M F C) :
    Answers Q B M F C (execStopPacket p crc k s) := by
  simp (maxDischargeDepth := 60) +contextual [execStopPacket, hs]

@[simp] theorem State.takeClear_good {s : State} {exec} (hs : s.Good Q B M F C) :
    (State.takeClear s exec).Good Q B M F C := by
  simp (maxDischargeDepth := 60) +contextual [State.takeClear, hs]

theorem execClearPacket_good {p crc k} {s : State} (hs : s.Good Q B M F C) :
    Answers Q B M F C (execClearPacket p crc k s) := by
  simp (maxDischargeDepth := 60) +contextual [execClearPacket, hs]

theorem execClearExec_good {low} {s : State} (hs : s.Good Q B M F C) :
    Answers Q B M F C (execClearExec low s) := by
  simp (maxDischargeDepth := 60) +contextual [execClearExec, hs]

@[simp] theorem State.bcastClr_good {s : State} (hs : s.Good Q B M F C) :
    (State.bcastClr s).Good Q B M F C := by
  simp (maxDischargeDepth := 60) +contextual [State.bcastClr, hs]

theorem execBcastClr_good {s : State} (hs : s.Good Q B M F C) :
    Answers Q B M F C (execBcastClr s) := by
  simp (maxDischargeDepth := 60) +contextual [execBcastClr, hs]

@[simp] theorem State.tideSample_good {s : State} {p t v} (hs : s.Good Q B M F C) :
    (State.tideSample s p t v).Good Q B M F C := by
  simp (maxDischargeDepth := 60) +contextual [State.tideSample, hs]

@[simp] theorem State.takePos_good {s : State} {k} (hs : s.Good Q B M F C) :
    (State.takePos s k).Good Q B M F C := by
  simp (maxDischargeDepth := 60) +contextual [State.takePos, hs]

@[simp] theorem State.tideForeign_good {s : State} {src} (hs : s.Good Q B M F C) :
    (State.tideForeign s src).Good Q B M F C := by
  simp (maxDischargeDepth := 60) +contextual [State.tideForeign, hs]

theorem execPosPacket_good {p crc k} {s : State} (hs : s.Good Q B M F C) :
    Answers Q B M F C (execPosPacket p crc k s) := by
  simp only [execPosPacket]; (repeat' split) <;> simp (maxDischargeDepth := 60) +contextual [hs]

@[simp] theorem State.handOff_good {s : State} (hs : s.Good Q B M F C) :
    (State.handOff s).Good Q B M F C := by
  simp (maxDischargeDepth := 60) +contextual [State.handOff, hs]

theorem execTideHandoff_good {s : State} (hs : s.Good Q B M F C) :
    Answers Q B M F C (execTideHandoff s) := by
  simp (maxDischargeDepth := 60) +contextual [execTideHandoff, hs]

end Sys2Proof.Machine
end

