-- ==== Sys2Proof/Laws/FabCtl.lean ====
section
/-! SUPPORT. What the operations of Machine/FabCtl.lean keep (Laws/Keep.lean). -/

namespace Sys2Proof.Machine

variable {Q : List Instr} {B : Nat → Nat} {M : Option (List Host.Cell)} {F : Option (List (Nat × Nat))} {C : Option Cistern}

@[simp] theorem State.creqDone_good {s : State} {status payload} (hs : s.Good Q B M F C) :
    (State.creqDone s status payload).Good Q B M F C := by
  simp (maxDischargeDepth := 60) +contextual [State.creqDone, hs]

@[simp] theorem State.creqCtrl_good {s : State} {typ payload} (hs : s.Good Q B M F C) :
    (State.creqCtrl s typ payload).Good Q B M F C := by
  simp (maxDischargeDepth := 60) +contextual [State.creqCtrl, hs]

@[simp] theorem State.creqSr_good {s : State} {typ rest} (hs : s.Good Q B M F C) :
    (State.creqSr s typ rest).Good Q B M F C := by
  simp (maxDischargeDepth := 60) +contextual [State.creqSr, hs]

@[simp] theorem State.creqGo_good {s : State} (hs : s.Good Q B M F C) :
    (State.creqGo s).Good Q B M F C := by
  simp (maxDischargeDepth := 60) +contextual [State.creqGo, hs]

@[simp] theorem State.creqRead_good {s : State} (hs : s.Good Q B M F C) :
    (State.creqRead s).Good Q B M F C := by
  simp (maxDischargeDepth := 60) +contextual [State.creqRead, hs]

@[simp] theorem State.creqWrite_good {s : State} (hs : s.Good Q B M F C) :
    (State.creqWrite s).Good Q B M F C := by
  simp (maxDischargeDepth := 60) +contextual [State.creqWrite, hs]

@[simp] theorem State.creqProbe_good {s : State} (hs : s.Good Q B M F C) :
    (State.creqProbe s).Good Q B M F C := by
  simp (maxDischargeDepth := 60) +contextual [State.creqProbe, hs]

@[simp] theorem State.creqAssign_good {s : State} (hs : s.Good Q B M F C) :
    (State.creqAssign s).Good Q B M F C := by
  simp (maxDischargeDepth := 60) +contextual [State.creqAssign, hs]

theorem execCreqCtrlRd_good {s : State} (hs : s.Good Q B M F C) :
    Answers Q B M F C (execCreqCtrlRd s) := by
  simp (maxDischargeDepth := 60) +contextual [execCreqCtrlRd, hs]

theorem execCreqCtrlWr_good {s : State} (hs : s.Good Q B M F C) :
    Answers Q B M F C (execCreqCtrlWr s) := by
  simp (maxDischargeDepth := 60) +contextual [execCreqCtrlWr, hs]

theorem execCreqProbe_good {s : State} (hs : s.Good Q B M F C) :
    Answers Q B M F C (execCreqProbe s) := by
  simp (maxDischargeDepth := 60) +contextual [execCreqProbe, hs]

theorem execCreqAssign_good {s : State} (hs : s.Good Q B M F C) :
    Answers Q B M F C (execCreqAssign s) := by
  simp (maxDischargeDepth := 60) +contextual [execCreqAssign, hs]

@[simp] theorem State.creqStart_good {s : State} (hs : s.Good Q B M F C) :
    (State.creqStart s).Good Q B M F C := by
  unfold State.creqStart; (repeat' split) <;> simp (maxDischargeDepth := 60) +contextual [hs]

@[simp] theorem State.endTxn_good {s : State} {t} (hs : s.Good Q B M F C) :
    (State.endTxn s t).Good Q B M F C := by
  simp (maxDischargeDepth := 60) +contextual [State.endTxn, hs]

@[simp] theorem State.lateRsp_good {s : State} (hs : s.Good Q B M F C) :
    (State.lateRsp s).Good Q B M F C := by
  simp (maxDischargeDepth := 60) +contextual [State.lateRsp, hs]

@[simp] theorem State.takeCtrlRsp_good {s : State} {k} (hs : s.Good Q B M F C) :
    (State.takeCtrlRsp s k).Good Q B M F C := by
  unfold State.takeCtrlRsp; (repeat' split) <;> simp (maxDischargeDepth := 60) +contextual [hs]

theorem execCtrlRsp_good {p crc k} {s : State} (hs : s.Good Q B M F C) :
    Answers Q B M F C (execCtrlRsp p crc k s) := by
  simp (maxDischargeDepth := 60) +contextual [execCtrlRsp, hs]

@[simp] theorem State.countTmo_good {s : State} {t} (hs : s.Good Q B M F C) :
    (State.countTmo s t).Good Q B M F C := by
  simp (maxDischargeDepth := 60) +contextual [State.countTmo, hs]

theorem execCtrlTimeout_good {tag} {s : State} (hs : s.Good Q B M F C) :
    Answers Q B M F C (execCtrlTimeout tag s) := by
  unfold execCtrlTimeout; (repeat' split) <;> simp (maxDischargeDepth := 60) +contextual [hs]

theorem execProbe_good {p crc k} {s : State} (hs : s.Good Q B M F C) :
    Answers Q B M F C (execProbe p crc k s) := by
  simp (maxDischargeDepth := 60) +contextual [execProbe, hs]

@[simp] theorem State.takeSrRsp_good {s : State} {k} (hs : s.Good Q B M F C) :
    (State.takeSrRsp s k).Good Q B M F C := by
  simp (maxDischargeDepth := 60) +contextual [State.takeSrRsp, hs]

theorem execProbeRsp_good {p crc k} {s : State} (hs : s.Good Q B M F C) :
    Answers Q B M F C (execProbeRsp p crc k s) := by
  simp (maxDischargeDepth := 60) +contextual [execProbeRsp, hs]

@[simp] theorem State.assignNode_good {s : State} {w} (hs : s.Good Q B M F C) :
    (State.assignNode s w).Good Q B M F C := by
  simp (maxDischargeDepth := 60) +contextual [State.assignNode, hs]

@[simp] theorem State.takeAssign_good {s : State} {k} (hs : s.Good Q B M F C) :
    (State.takeAssign s k).Good Q B M F C := by
  simp (maxDischargeDepth := 60) +contextual [State.takeAssign, hs]

theorem execAssign_good {p crc k} {s : State} (hs : s.Good Q B M F C) :
    Answers Q B M F C (execAssign p crc k s) := by
  simp (maxDischargeDepth := 60) +contextual [execAssign, hs]

@[simp] theorem State.takeAssignRsp_good {s : State} {k} (hs : s.Good Q B M F C) :
    (State.takeAssignRsp s k).Good Q B M F C := by
  simp (maxDischargeDepth := 60) +contextual [State.takeAssignRsp, hs]

theorem execAssignRsp_good {p crc k} {s : State} (hs : s.Good Q B M F C) :
    Answers Q B M F C (execAssignRsp p crc k s) := by
  simp (maxDischargeDepth := 60) +contextual [execAssignRsp, hs]

@[simp] theorem State.fabEnable_good {s : State} (hs : s.Good Q B M F C) :
    (State.fabEnable s).Good Q B M F C := by
  simp (maxDischargeDepth := 60) +contextual [State.fabEnable, hs]

theorem execFabEnable_good {s : State} (hs : s.Good Q B M F C) :
    Answers Q B M F C (execFabEnable s) := by
  simp (maxDischargeDepth := 60) +contextual [execFabEnable, hs]

@[simp] theorem State.fabDisable_good {s : State} (hs : s.Good Q B M F C) :
    (State.fabDisable s).Good Q B M F C := by
  simp (maxDischargeDepth := 60) +contextual [State.fabDisable, hs]

end Sys2Proof.Machine
end

