-- ==== Sys2Proof/Laws/HostIf.lean ====
section
/-! SUPPORT. What the operations of Machine/HostIf.lean keep (Laws/Keep.lean). -/

namespace Sys2Proof.Machine

variable {Q : List Instr} {B : Nat → Nat} {M : Option (List Host.Cell)} {F : Option (List (Nat × Nat))} {C : Option Cistern}

@[simp] theorem State.reportHost_good {s : State} {q inst detail} (hs : s.Good Q B M F C) :
    (State.reportHost s q inst detail).Good Q B M F C := by
  simp (maxDischargeDepth := 60) +contextual [State.reportHost, hs]

@[simp] theorem State.hostIgnored_good {s : State} (hs : s.Good Q B M F C) :
    (State.hostIgnored s).Good Q B M F C := by
  simp (maxDischargeDepth := 60) +contextual [State.hostIgnored, hs]

@[simp] theorem State.ringError_good {s : State} {idx v} (hs : s.Good Q B M F C) :
    (State.ringError s idx v).Good Q B M F C := by
  simp (maxDischargeDepth := 60) +contextual [State.ringError, hs]

@[simp] theorem State.producerBell_good {s : State} {idx prod cons size v} (hs : s.Good Q B M F C) :
    (State.producerBell s idx prod cons size v).Good Q B M F C := by
  simp (maxDischargeDepth := 60) +contextual [State.producerBell, hs]

theorem execHeadraceDoorbell_good {v} {s : State} (hs : s.Good Q B M F C) :
    Answers Q B M F C (execHeadraceDoorbell v s) := by
  simp (maxDischargeDepth := 60) +contextual [execHeadraceDoorbell, hs]

@[simp] theorem State.consumerBell_good {s : State} {idx prod cons size v} {drain : State → State} (hs : s.Good Q B M F C) (hf2 : ∀ t, t.Good Q B M F C → (drain t).Good Q B M F C) :
    (State.consumerBell s idx prod cons size v drain).Good Q B M F C := by
  simp (maxDischargeDepth := 60) +contextual [State.consumerBell, hs, hf2]

theorem execCompletionDoorbell_good {v} {s : State} (hs : s.Good Q B M F C) :
    Answers Q B M F C (execCompletionDoorbell v s) := by
  simp (maxDischargeDepth := 60) +contextual [execCompletionDoorbell, hs]

theorem execTailraceDoorbell_good {v} {s : State} (hs : s.Good Q B M F C) :
    Answers Q B M F C (execTailraceDoorbell v s) := by
  simp (maxDischargeDepth := 60) +contextual [execTailraceDoorbell, hs]

theorem execStreamDoorbell_good {r v} {s : State} (hs : s.Good Q B M F C) :
    Answers Q B M F C (execStreamDoorbell r v s) := by
  simp (maxDischargeDepth := 60) +contextual [execStreamDoorbell, hs]

@[simp] theorem State.logJob_good {s : State} {w} (hs : s.Good Q B M F C) :
    (State.logJob s w).Good Q B M F C := by
  simp (maxDischargeDepth := 60) +contextual [State.logJob, hs]

@[simp] theorem State.placeJob_good {s : State} {w} (hs : s.Good Q B M F C) :
    (State.placeJob s w).Good Q B M F C := by
  simp (maxDischargeDepth := 60) +contextual [State.placeJob, hs]

@[simp] theorem State.newJobId_good {s : State} {w} (hs : s.Good Q B M F C) :
    (State.newJobId s w).Good Q B M F C := by
  simp (maxDischargeDepth := 60) +contextual [State.newJobId, hs]

@[simp] theorem State.rejectJob_good {s : State} {w code} (hs : s.Good Q B M F C) :
    (State.rejectJob s w code).Good Q B M F C := by
  simp (maxDischargeDepth := 60) +contextual [State.rejectJob, hs]

@[simp] theorem State.consumeHead_good {s : State} (hs : s.Good Q B M F C) :
    (State.consumeHead s).Good Q B M F C := by
  simp (maxDischargeDepth := 60) +contextual [State.consumeHead, hs]

@[simp] theorem State.openUp_good {s : State} {w} (hs : s.Good Q B M F C) :
    (State.openUp s w).Good Q B M F C := by
  simp (maxDischargeDepth := 60) +contextual [State.openUp, hs]

@[simp] theorem State.forwardJob_good {s : State} {w} (hs : s.Good Q B M F C) :
    (State.forwardJob s w).Good Q B M F C := by
  simp (maxDischargeDepth := 60) +contextual [State.forwardJob, hs]

@[simp] theorem State.parse_good {s : State} {w} (hs : s.Good Q B M F C) :
    (State.parse s w).Good Q B M F C := by
  unfold State.parse; (repeat' split) <;> simp (maxDischargeDepth := 60) +contextual [hs]

theorem execJobDescriptor_good {x} {s : State} (hs : s.Good Q B M F C) :
    Answers Q B M F C (execJobDescriptor x s) := by
  unfold execJobDescriptor; (repeat' split) <;> simp (maxDischargeDepth := 60) +contextual [hs]

@[simp] theorem State.jqIn_good {s : State} {src ws} (hs : s.Good Q B M F C) :
    (State.jqIn s src ws).Good Q B M F C := by
  simp (maxDischargeDepth := 60) +contextual [State.jqIn, hs]

theorem execJqIn_good {ws} {s : State} (hs : s.Good Q B M F C) :
    Answers Q B M F C (execJqIn ws s) := by
  simp (maxDischargeDepth := 60) +contextual [execJqIn, hs]

@[simp] theorem State.rejectForward_good {s : State} {w code} (hs : s.Good Q B M F C) :
    (State.rejectForward s w code).Good Q B M F C := by
  simp (maxDischargeDepth := 60) +contextual [State.rejectForward, hs]

@[simp] theorem State.forwardDone_good {s : State} {t status data} (hs : s.Good Q B M F C) :
    (State.forwardDone s t status data).Good Q B M F C := by
  unfold State.forwardDone; (repeat' split) <;> simp (maxDischargeDepth := 60) +contextual [hs]

@[simp] theorem State.takeCpl_good {s : State} {ws} (hs : s.Good Q B M F C) :
    (State.takeCpl s ws).Good Q B M F C := by
  simp (maxDischargeDepth := 60) +contextual [State.takeCpl, hs]

theorem execCplIn_good {ws} {s : State} (hs : s.Good Q B M F C) :
    Answers Q B M F C (execCplIn ws s) := by
  simp (maxDischargeDepth := 60) +contextual [execCplIn, hs]

@[simp] theorem State.takeEvt_good {s : State} {ws} (hs : s.Good Q B M F C) :
    (State.takeEvt s ws).Good Q B M F C := by
  simp (maxDischargeDepth := 60) +contextual [State.takeEvt, hs]

theorem execEvtIn_good {ws} {s : State} (hs : s.Good Q B M F C) :
    Answers Q B M F C (execEvtIn ws s) := by
  simp (maxDischargeDepth := 60) +contextual [execEvtIn, hs]

theorem execCplRetry_good {s : State} (hs : s.Good Q B M F C) :
    Answers Q B M F C (execCplRetry s) := by
  simp (maxDischargeDepth := 60) +contextual [execCplRetry, hs]

theorem execIdleTmo_good {v} {s : State} (hs : s.Good Q B M F C) :
    Answers Q B M F C (execIdleTmo v s) := by
  simp (maxDischargeDepth := 60) +contextual [execIdleTmo, hs]

@[simp] theorem State.sendBytes_good {s : State} {dst a l why} (hs : s.Good Q B M F C) :
    (State.sendBytes s dst a l why).Good Q B M F C := by
  simp (maxDischargeDepth := 60) +contextual [State.sendBytes, hs]

@[simp] theorem State.sendReads_good {s : State} {dst a n why} (hs : s.Good Q B M F C) :
    (State.sendReads s dst a n why).1.Good Q B M F C := by
  simp (maxDischargeDepth := 60) +contextual [State.sendReads, hs]

@[simp] theorem State.culvErr_good {s : State} {write i node status} (hs : s.Good Q B M F C) :
    (State.culvErr s write i node status).Good Q B M F C := by
  simp (maxDischargeDepth := 60) +contextual [State.culvErr, hs]

@[simp] theorem State.culvReturn_good {s : State} {l} (hs : s.Good Q B M F C) :
    (State.culvReturn s l).Good Q B M F C := by
  simp (maxDischargeDepth := 60) +contextual [State.culvReturn, hs]

@[simp] theorem State.culvWriteHere_good {s : State} {i a l x} (hs : s.Good Q B none F C) :
    (State.culvWriteHere s i a l x).Good Q B none F C := by
  simp (maxDischargeDepth := 60) +contextual [State.culvWriteHere, hs]

@[simp] theorem State.culvReadHere_good {s : State} {i a n x} (hs : s.Good Q B M F C) :
    (State.culvReadHere s i a n x).Good Q B M F C := by
  simp (maxDischargeDepth := 60) +contextual [State.culvReadHere, hs]

@[simp] theorem State.culvWriteFar_good {s : State} {i node a l} (hs : s.Good Q B M F C) :
    (State.culvWriteFar s i node a l).Good Q B M F C := by
  simp (maxDischargeDepth := 60) +contextual [State.culvWriteFar, hs]

@[simp] theorem State.culvNext_good {s : State} (hs : s.Good Q B M F C) :
    (State.culvNext s).Good Q B M F C := by
  unfold State.culvNext; (repeat' split) <;> simp (maxDischargeDepth := 60) +contextual [hs]

@[simp] theorem State.culvReadFar_good {s : State} {i node a n} (hs : s.Good Q B M F C) :
    (State.culvReadFar s i node a n).Good Q B M F C := by
  simp (maxDischargeDepth := 60) +contextual [State.culvReadFar, hs]

@[simp] theorem State.culvWrote_good {s : State} {tag status} (hs : s.Good Q B M F C) :
    (State.culvWrote s tag status).Good Q B M F C := by
  simp only [State.culvWrote]; (repeat' split) <;> simp (maxDischargeDepth := 60) +contextual [hs]

@[simp] theorem State.culvGot_good {s : State} {t status data} (hs : s.Good Q B M F C) :
    (State.culvGot s t status data).Good Q B M F C := by
  simp only [State.culvGot]; (repeat' split) <;> simp (maxDischargeDepth := 60) +contextual [hs]

theorem execCulvertAccess_good {off write n data x} {s : State} (hs : s.Good Q B none F C) :
    Answers Q B none F C (execCulvertAccess off write n data x s) := by
  simp (maxDischargeDepth := 60) +contextual [execCulvertAccess, hs]

@[simp] theorem State.clearRegs_good {s : State} {lo hi} (hs : s.Good Q B M F C) :
    (State.clearRegs s lo hi).Good Q B M F C := by
  exact ⟨hs.mem, mapFilter_wf hs.regs, hs.time, hs.queue, hs.burnt, hs.sameMem, hs.sameFuses, hs.sameCistern⟩

@[simp] theorem State.hostClear_good {s : State} (hs : s.Good Q B M F C) :
    (State.hostClear s).Good Q B M F C := by
  simp (maxDischargeDepth := 60) +contextual [State.hostClear, hs]

theorem execHostFlr_good {s : State} (hs : s.Good Q B M F C) :
    Answers Q B M F C (execHostFlr s) := by
  simp (maxDischargeDepth := 60) +contextual [execHostFlr, hs]

theorem execHostLinkDown_good {s : State} (hs : s.Good Q B M F C) :
    Answers Q B M F C (execHostLinkDown s) := by
  simp (maxDischargeDepth := 60) +contextual [execHostLinkDown, hs]

theorem execPcieLinkUp_good {width speed} {s : State} (hs : s.Good Q B M F C) :
    Answers Q B M F C (execPcieLinkUp width speed s) := by
  simp (maxDischargeDepth := 60) +contextual [execPcieLinkUp, hs]

@[simp] theorem State.hostEnable_good {s : State} (hs : s.Good Q B M F C) :
    (State.hostEnable s).Good Q B M F C := by
  simp only [State.hostEnable]; (repeat' split) <;> simp (maxDischargeDepth := 60) +contextual [hs]

theorem execHostifEnable_good {s : State} (hs : s.Good Q B M F C) :
    Answers Q B M F C (execHostifEnable s) := by
  simp (maxDischargeDepth := 60) +contextual [execHostifEnable, hs]

@[simp] theorem State.hostDisable_good {s : State} (hs : s.Good Q B M F C) :
    (State.hostDisable s).Good Q B M F C := by
  simp (maxDischargeDepth := 60) +contextual [State.hostDisable, hs]

end Sys2Proof.Machine
end

