-- ==== Sys2Proof/Laws/Dma.lean ====
section
/-! SUPPORT. What the operations of Machine/Dma.lean keep (Laws/Keep.lean). -/

namespace Sys2Proof.Machine

variable {Q : List Instr} {B : Nat → Nat} {M : Option (List Host.Cell)} {F : Option (List (Nat × Nat))} {C : Option Cistern}

@[simp] theorem State.descRegs_good {s : State} {a a_} (hs : s.Good Q B M F C) :
    (State.descRegs s a a_).1.Good Q B M F C := by
  revert hs; fun_induction State.descRegs s a a_ <;> intros <;> (repeat' split) <;> simp_all +zetaDelta (maxDischargeDepth := 60) +contextual

@[simp] theorem State.readDesc_good {s : State} {a x} (hs : s.Good Q B M F C) :
    (State.readDesc s a x).1.Good Q B M F C := by
  unfold State.readDesc; (repeat' split) <;> simp (maxDischargeDepth := 60) +contextual [hs]

@[simp] theorem State.setCh_good {s : State} {n st} (hs : s.Good Q B M F C) :
    (State.setCh s n st).Good Q B M F C := by
  simp (maxDischargeDepth := 60) +contextual [State.setCh, hs]

@[simp] theorem State.syncDma_good {s : State} (hs : s.Good Q B M F C) :
    (State.syncDma s).Good Q B M F C := by
  simp (maxDischargeDepth := 60) +contextual [State.syncDma, hs]

@[simp] theorem State.takeSlot_good {s : State} {n} (hs : s.Good Q B M F C) :
    (State.takeSlot s n).Good Q B M F C := by
  simp (maxDischargeDepth := 60) +contextual [State.takeSlot, hs]

@[simp] theorem State.admitChan_good {s : State} {a_} (hs : s.Good Q B M F C) :
    (State.admitChan s a_).Good Q B M F C := by
  revert hs; fun_induction State.admitChan s a_ <;> intros <;> simp_all (maxDischargeDepth := 60) +contextual

@[simp] theorem State.settleDma_good {s : State} (hs : s.Good Q B M F C) :
    (State.settleDma s).Good Q B M F C := by
  simp (maxDischargeDepth := 60) +contextual [State.settleDma, hs]

@[simp] theorem State.dropHeld_good {s : State} {n} (hs : s.Good Q B M F C) :
    (State.dropHeld s n).Good Q B M F C := by
  simp (maxDischargeDepth := 60) +contextual [State.dropHeld, hs]

@[simp] theorem State.leaveDma_good {s : State} {n st} (hs : s.Good Q B M F C) :
    (State.leaveDma s n st).Good Q B M F C := by
  simp (maxDischargeDepth := 60) +contextual [State.leaveDma, hs]

@[simp] theorem State.descErr_good {s : State} {n d code} (hs : s.Good Q B M F C) :
    (State.descErr s n d code).Good Q B M F C := by
  simp (maxDischargeDepth := 60) +contextual [State.descErr, hs]

@[simp] theorem State.showSet_good {s : State} {n d} (hs : s.Good Q B M F C) :
    (State.showSet s n d).Good Q B M F C := by
  simp (maxDischargeDepth := 60) +contextual [State.showSet, hs]

@[simp] theorem State.startDesc_good {s : State} {n d} (hs : s.Good Q B M F C) :
    (State.startDesc s n d).Good Q B M F C := by
  unfold State.startDesc; (repeat' split) <;> simp (maxDischargeDepth := 60) +contextual [hs]

@[simp] theorem State.dmaGo_good {s : State} {n x} (hs : s.Good Q B M F C) :
    (State.dmaGo s n x).Good Q B M F C := by
  simp (maxDischargeDepth := 60) +contextual [State.dmaGo, hs]

theorem execChGo_good {n x} {s : State} (hs : s.Good Q B M F C) :
    Answers Q B M F C (execChGo n x s) := by
  simp (maxDischargeDepth := 60) +contextual [execChGo, hs]

@[simp] theorem State.dmaStop_good {s : State} {n} (hs : s.Good Q B M F C) :
    (State.dmaStop s n).Good Q B M F C := by
  unfold State.dmaStop; (repeat' split) <;> simp (maxDischargeDepth := 60) +contextual [hs]

theorem execChStop_good {n} {s : State} (hs : s.Good Q B M F C) :
    Answers Q B M F C (execChStop n s) := by
  simp (maxDischargeDepth := 60) +contextual [execChStop, hs]

@[simp] theorem State.dmaEnable_good {s : State} (hs : s.Good Q B M F C) :
    (State.dmaEnable s).Good Q B M F C := by
  simp (maxDischargeDepth := 60) +contextual [State.dmaEnable, hs]

@[simp] theorem State.dmaDisable_good {s : State} (hs : s.Good Q B M F C) :
    (State.dmaDisable s).Good Q B M F C := by
  simp (maxDischargeDepth := 60) +contextual [State.dmaDisable, hs]

@[simp] theorem State.fetchShadow_good {s : State} {n d nx} (hs : s.Good Q B M F C) :
    (State.fetchShadow s n d nx).Good Q B M F C := by
  simp (maxDischargeDepth := 60) +contextual [State.fetchShadow, hs]

@[simp] theorem State.yieldSlot_good {s : State} {n} (hs : s.Good Q B M F C) :
    (State.yieldSlot s n).Good Q B M F C := by
  simp only [State.yieldSlot]; (repeat' split) <;> simp (maxDischargeDepth := 60) +contextual [hs]

@[simp] theorem State.dmaBoundary_good {s : State} {n d} (hs : s.Good Q B M F C) :
    (State.dmaBoundary s n d).Good Q B M F C := by
  simp only [State.dmaBoundary]; (repeat' split) <;> simp (maxDischargeDepth := 60) +contextual [hs]

@[simp] theorem State.holdWaiting_good {s : State} {n} (hs : s.Good Q B M F C) :
    (State.holdWaiting s n).Good Q B M F C := by
  unfold State.holdWaiting; (repeat' split) <;> simp (maxDischargeDepth := 60) +contextual [hs]

@[simp] theorem State.quiesce_good {s : State} {mask} (hs : s.Good Q B M F C) :
    (State.quiesce s mask).Good Q B M F C := by
  simp (maxDischargeDepth := 60) +contextual [State.quiesce, hs]

theorem execQuiesceRequest_good {mask} {s : State} (hs : s.Good Q B M F C) :
    Answers Q B M F C (execQuiesceRequest mask s) := by
  simp (maxDischargeDepth := 60) +contextual [execQuiesceRequest, hs]

@[simp] theorem State.latchErr_good {s : State} {n a write} (hs : s.Good Q B M F C) :
    (State.latchErr s n a write).Good Q B M F C := by
  simp (maxDischargeDepth := 60) +contextual [State.latchErr, hs]

@[simp] theorem State.powerAbort_good {s : State} {n} (hs : s.Good Q B M F C) :
    (State.powerAbort s n).Good Q B M F C := by
  simp (maxDischargeDepth := 60) +contextual [State.powerAbort, hs]

theorem execPdQuiesceTmo_good {s : State} (hs : s.Good Q B M F C) :
    Answers Q B M F C (execPdQuiesceTmo s) := by
  simp (maxDischargeDepth := 60) +contextual [execPdQuiesceTmo, hs]

@[simp] theorem State.dmaResume_good {s : State} (hs : s.Good Q B M F C) :
    (State.dmaResume s).Good Q B M F C := by
  simp only [State.dmaResume]; (repeat' (first | split | (refine State.when_good ?_ (fun _ _ => ?_)) | (refine State.each_good ?_ (fun _ _ _ => ?_)))) <;> simp (maxDischargeDepth := 60) +contextual [*]

end Sys2Proof.Machine
end

