-- ==== Sys2Proof/Laws/Memories.lean ====
section
/-! SUPPORT. What the operations of Machine/Memories.lean keep (Laws/Keep.lean). -/

namespace Sys2Proof.Machine

variable {Q : List Instr} {B : Nat → Nat} {M : Option (List Host.Cell)} {F : Option (List (Nat × Nat))} {C : Option Cistern}

@[simp] theorem State.eraseRange_good {s : State} {lo hi} (hs : s.Good Q B none F C) :
    (State.eraseRange s lo hi).Good Q B none F C := by
  exact ⟨mapFilter_wf hs.mem, hs.regs, hs.time, hs.queue, hs.burnt, nofun, hs.sameFuses, hs.sameCistern⟩

/-- A wiped range reads 0, and every other byte as before. -/
theorem State.byte_eraseRange (s : State) (lo hi a : Nat) :
    (s.eraseRange lo hi).byte a = if lo ≤ a ∧ a < hi then 0#8 else s.byte a := by
  show mapGet _ (s.mem.filter _) a = if _ then _ else mapGet _ s.mem a
  induction s.mem with
  | nil => simp [mapGet, emptyByte]
  | cons e t ih =>
    obtain ⟨k, v⟩ := e
    by_cases hk : lo ≤ k ∧ k < hi
    · rw [List.filter_cons_of_neg (by simp [hk]), ih]
      by_cases ha : k = a
      · subst ha; simp [hk]
      · simp [mapGet, ha]
    · rw [List.filter_cons_of_pos (by simp; omega)]
      by_cases ha : k = a
      · subst ha; simp [mapGet, hk]
      · simp only [mapGet, if_neg ha, ih]

@[simp] theorem State.setMarchPos_good {s : State} {b w} (hs : s.Good Q B M F C) :
    (State.setMarchPos s b w).Good Q B M F C := by
  simp (maxDischargeDepth := 60) +contextual [State.setMarchPos, hs]

@[simp] theorem State.marchEnable_good {s : State} (hs : s.Good Q B M F C) :
    (State.marchEnable s).Good Q B M F C := by
  simp (maxDischargeDepth := 60) +contextual [State.marchEnable, hs]

theorem execMarchEnable_good {s : State} (hs : s.Good Q B M F C) :
    Answers Q B M F C (execMarchEnable s) := by
  simp (maxDischargeDepth := 60) +contextual [execMarchEnable, hs]

@[simp] theorem State.marchDisable_good {s : State} (hs : s.Good Q B M F C) :
    (State.marchDisable s).Good Q B M F C := by
  simp (maxDischargeDepth := 60) +contextual [State.marchDisable, hs]

@[simp] theorem State.marchNextBank_good {s : State} {b} (hs : s.Good Q B M F C) :
    (State.marchNextBank s b).Good Q B M F C := by
  unfold State.marchNextBank; (repeat' split) <;> simp (maxDischargeDepth := 60) +contextual [hs]

@[simp] theorem State.marchStep_good {s : State} {b w} (hs : s.Good Q B M F C) :
    (State.marchStep s b w).Good Q B M F C := by
  simp (maxDischargeDepth := 60) +contextual [State.marchStep, hs]

@[simp] theorem State.marchFail_good {s : State} {f} (hs : s.Good Q B M F C) :
    (State.marchFail s f).Good Q B M F C := by
  simp (maxDischargeDepth := 60) +contextual [State.marchFail, hs]

@[simp] theorem State.marchDone_good {s : State} (hs : s.Good Q B M F C) :
    (State.marchDone s).Good Q B M F C := by
  simp (maxDischargeDepth := 60) +contextual [State.marchDone, hs]

theorem execMarchWindow_good {fails} {s : State} (hs : s.Good Q B none F C) :
    Answers Q B none F C (execMarchWindow fails s) := by
  simp only [execMarchWindow]; (repeat' split) <;> simp (maxDischargeDepth := 60) +contextual [hs]

theorem execMarchYield_good {s : State} (hs : s.Good Q B M F C) :
    Answers Q B M F C (execMarchYield s) := by
  unfold execMarchYield; (repeat' split) <;> simp (maxDischargeDepth := 60) +contextual [hs]

@[simp] theorem State.wipeSum_good {s : State} (hs : s.Good Q B M F C) :
    (State.wipeSum s).Good Q B M F C := by
  simp (maxDischargeDepth := 60) +contextual [State.wipeSum, hs]

@[simp] theorem State.wipePart_good {s : State} {part} (hs : s.Good Q B none F C) :
    (State.wipePart s part).Good Q B none F C := by
  unfold State.wipePart; (repeat' split) <;> simp (maxDischargeDepth := 60) +contextual [hs]

@[simp] theorem State.dramEnable_good {s : State} (hs : s.Good Q B M F C) :
    (State.dramEnable s).Good Q B M F C := by
  simp (maxDischargeDepth := 60) +contextual [State.dramEnable, hs]

theorem execDramEnable_good {s : State} (hs : s.Good Q B M F C) :
    Answers Q B M F C (execDramEnable s) := by
  simp (maxDischargeDepth := 60) +contextual [execDramEnable, hs]

theorem execScrub_good {x} {s : State} (hs : s.Good Q B M F C) :
    Answers Q B M F C (execScrub x s) := by
  simp (maxDischargeDepth := 60) +contextual [execScrub, hs]

end Sys2Proof.Machine
end

