-- ==== Sys2Proof/Laws/Otp.lean ====
section
/-! SUPPORT. What the operations of Machine/Otp.lean keep (Laws/Keep.lean). -/

namespace Sys2Proof.Machine

variable {Q : List Instr} {B : Nat → Nat} {M : Option (List Host.Cell)} {F : Option (List (Nat × Nat))} {C : Option Cistern}

@[simp] theorem State.syncRegions_good {s : State} (hs : s.Good Q B M F C) :
    (State.syncRegions s).Good Q B M F C := by
  simp (maxDischargeDepth := 60) +contextual [State.syncRegions, hs]

@[simp] theorem State.otpRefused_good {s : State} {code what} (hs : s.Good Q B M F C) :
    (State.otpRefused s code what).Good Q B M F C := by
  simp (maxDischargeDepth := 60) +contextual [State.otpRefused, hs]

@[simp] theorem State.syncBusy_good {s : State} (hs : s.Good Q B M F C) :
    (State.syncBusy s).Good Q B M F C := by
  simp (maxDischargeDepth := 60) +contextual [State.syncBusy, hs]

@[simp] theorem State.endOtp_good {s : State} (hs : s.Good Q B M F C) :
    (State.endOtp s).Good Q B M F C := by
  simp (maxDischargeDepth := 60) +contextual [State.endOtp, hs]

@[simp] theorem State.burnCounted_good {s : State} {bits burn} (hs : s.Good Q B M none C) :
    (State.burnCounted s bits burn).1.Good Q B M none C := by
  simp (maxDischargeDepth := 60) +contextual [State.burnCounted, hs]

@[simp] theorem State.otpFailed_good {s : State} {i} (hs : s.Good Q B M F C) :
    (State.otpFailed s i).Good Q B M F C := by
  simp (maxDischargeDepth := 60) +contextual [State.otpFailed, hs]

@[simp] theorem State.senseVpp_good {s : State} {vpp} (hs : s.Good Q B M F C) :
    (State.senseVpp s vpp).Good Q B M F C := by
  simp (maxDischargeDepth := 60) +contextual [State.senseVpp, hs]

@[simp] theorem State.pgmGo_good {s : State} (hs : s.Good Q B M F C) :
    (State.pgmGo s).Good Q B M F C := by
  simp only [State.pgmGo]; (repeat' split) <;> simp (maxDischargeDepth := 60) +contextual [hs]

theorem execPgmGo_good {vpp} {s : State} (hs : s.Good Q B M F C) :
    Answers Q B M F C (execPgmGo vpp s) := by
  simp (maxDischargeDepth := 60) +contextual [execPgmGo, hs]

@[simp] theorem State.pgmBurn_good {s : State} {bits burn} (hs : s.Good Q B M none C) :
    (State.pgmBurn s bits burn).1.Good Q B M none C := by
  simp only [State.pgmBurn]; (repeat' split) <;> simp (maxDischargeDepth := 60) +contextual [hs]

theorem execPgmDone_good {burn} {s : State} (hs : s.Good Q B M none C) :
    Answers Q B M none C (execPgmDone burn s) := by
  unfold execPgmDone; (repeat' split) <;> simp (maxDischargeDepth := 60) +contextual [hs]

@[simp] theorem State.finGo_good {s : State} (hs : s.Good Q B M F C) :
    (State.finGo s).Good Q B M F C := by
  simp only [State.finGo]; (repeat' split) <;> simp (maxDischargeDepth := 60) +contextual [hs]

theorem execFinGo_good {vpp} {s : State} (hs : s.Good Q B M F C) :
    Answers Q B M F C (execFinGo vpp s) := by
  simp (maxDischargeDepth := 60) +contextual [execFinGo, hs]

@[simp] theorem State.finEnd_good {s : State} {q forced stop} (hs : s.Good Q B M F C) :
    (State.finEnd s q forced stop).Good Q B M F C := by
  unfold State.finEnd; (repeat' split) <;> simp (maxDischargeDepth := 60) +contextual [hs]

theorem execFinDone_good {burn} {s : State} (hs : s.Good Q B M none C) :
    Answers Q B M none C (execFinDone burn s) := by
  simp only [execFinDone]; (repeat' split) <;> simp (maxDischargeDepth := 60) +contextual [hs]

@[simp] theorem State.opLocked_good {s : State} (hs : s.Good Q B M F C) :
    (State.opLocked s).Good Q B M F C := by
  unfold State.opLocked; (repeat' split) <;> simp (maxDischargeDepth := 60) +contextual [hs]

@[simp] theorem State.opBurn_good {s : State} {bits burn} (hs : s.Good Q B M none C) :
    (State.opBurn s bits burn).1.Good Q B M none C := by
  simp only [State.opBurn]; (repeat' split) <;> simp (maxDischargeDepth := 60) +contextual [hs]

@[simp] theorem State.burnLocks_good {s : State} {q v burn more} (hs : s.Good Q B M none C) :
    (State.burnLocks s q v burn more).Good Q B M none C := by
  simp only [State.burnLocks]; (repeat' split) <;> simp (maxDischargeDepth := 60) +contextual [hs]

@[simp] theorem State.lockCtl_good {s : State} {v burn sofar} (hs : s.Good Q B M none C) :
    (State.lockCtl s v burn sofar).Good Q B M none C := by
  simp only [State.lockCtl]; (repeat' split) <;> simp (maxDischargeDepth := 60) +contextual [hs]

@[simp] theorem State.lockEnd_good {s : State} (hs : s.Good Q B M none C) :
    (State.lockEnd s).Good Q B M none C := by
  simp only [State.lockEnd]; (repeat' split) <;> simp (maxDischargeDepth := 60) +contextual [hs]

theorem execLockCtl_good {v burn e} {s : State} (hs : s.Good Q B M none C) :
    Answers Q B M none C (execLockCtl v burn e s) := by
  simp (maxDischargeDepth := 60) +contextual [execLockCtl, hs]

theorem execKeyOpen_good {s : State} (hs : s.Good Q B M F C) :
    Answers Q B M F C (execKeyOpen s) := by
  simp (maxDischargeDepth := 60) +contextual [execKeyOpen, hs]

end Sys2Proof.Machine
end

