-- ==== Sys2Proof/Laws/Framing.lean ====
section
/-! SUPPORT. What the operations of Machine/Framing.lean keep (Laws/Keep.lean). -/

namespace Sys2Proof.Machine

variable {Q : List Instr} {B : Nat → Nat} {M : Option (List Host.Cell)} {F : Option (List (Nat × Nat))} {C : Option Cistern}

@[simp] theorem State.runLane_good {s : State} {h lane opc f} (hs : s.Good Q B M F C) :
    (State.runLane s h lane opc f).Good Q B M F C := by
  unfold State.runLane; (repeat' split) <;> simp (maxDischargeDepth := 60) +contextual [hs]

theorem execConstBits_good {h lane} {s : State} (hs : s.Good Q B M F C) :
    Answers Q B M F C (execConstBits h lane s) := by
  simp (maxDischargeDepth := 60) +contextual [execConstBits, hs]

theorem execNoz_good {h lane} {s : State} (hs : s.Good Q B M F C) :
    Answers Q B M F C (execNoz h lane s) := by
  simp (maxDischargeDepth := 60) +contextual [execNoz, hs]

theorem execCrcMark_good {h lane} {s : State} (hs : s.Good Q B M F C) :
    Answers Q B M F C (execCrcMark h lane s) := by
  simp (maxDischargeDepth := 60) +contextual [execCrcMark, hs]

theorem execCrcInsert_good {h lane} {s : State} (hs : s.Good Q B M F C) :
    Answers Q B M F C (execCrcInsert h lane s) := by
  simp (maxDischargeDepth := 60) +contextual [execCrcInsert, hs]

theorem execLoopLane_good {h lane} {s : State} (hs : s.Good Q B M F C) :
    Answers Q B M F C (execLoopLane h lane s) := by
  simp (maxDischargeDepth := 60) +contextual [execLoopLane, hs]

theorem execFrameEnd_good {h lane} {s : State} (hs : s.Good Q B M F C) :
    Answers Q B M F C (execFrameEnd h lane s) := by
  simp (maxDischargeDepth := 60) +contextual [execFrameEnd, hs]

end Sys2Proof.Machine
end

