-- ==== Sys2Proof/Laws/Compositor.lean ====
section
/-! SUPPORT. What the operations of Machine/Compositor.lean keep (Laws/Keep.lean). -/

namespace Sys2Proof.Machine

variable {Q : List Instr} {B : Nat → Nat} {M : Option (List Host.Cell)} {F : Option (List (Nat × Nat))} {C : Option Cistern}

@[simp] theorem State.checkProgram_good {s : State} {j xp xt} (hs : s.Good Q B M F C) :
    (State.checkProgram s j xp xt).1.Good Q B M F C := by
  simp only [State.checkProgram]; (repeat' split) <;> simp (maxDischargeDepth := 60) +contextual [hs]

@[simp] theorem State.loadProgram_good {s : State} {xp xt} (hs : s.Good Q B M F C) :
    (State.loadProgram s xp xt).Good Q B M F C := by
  simp only [State.loadProgram]; (repeat' split) <;> (try (have e := fst_of (by assumption); subst e)) <;> simp (maxDischargeDepth := 60) +contextual [hs]

theorem execProgramLoad_good {xp xt} {s : State} (hs : s.Good Q B M F C) :
    Answers Q B M F C (execProgramLoad xp xt s) := by
  simp (maxDischargeDepth := 60) +contextual [execProgramLoad, hs]

@[simp] theorem State.tableRead_good {s : State} {x lo hi} (hs : s.Good Q B M F C) :
    (State.tableRead s x lo hi).Good Q B M F C := by
  simp (maxDischargeDepth := 60) +contextual [State.tableRead, hs]

@[simp] theorem State.setLb_good {s : State} {b h l} (hs : s.Good Q B M F C) :
    (State.setLb s b h l).Good Q B M F C := by
  simp (maxDischargeDepth := 60) +contextual [State.setLb, hs]

@[simp] theorem State.mapLb_good {s : State} {j b mask f} (hs : s.Good Q B M F C) :
    (State.mapLb s j b mask f).Good Q B M F C := by
  simp (maxDischargeDepth := 60) +contextual [State.mapLb, hs]

@[simp] theorem State.goOn_good {s : State} {t : State} {f : State → State} (hs : s.Good Q B M F C) (hs2 : t.Good Q B M F C) (hf3 : ∀ t, t.Good Q B M F C → (f t).Good Q B M F C) :
    (State.goOn s t f).Good Q B M F C := by
  simp (maxDischargeDepth := 60) +contextual [State.goOn, hs, hs2, hf3]

@[simp] theorem State.composeLine_good {s : State} {x j y} (hs : s.Good Q B M F C) :
    (State.composeLine s x j y).Good Q B M F C := by
  simp (maxDischargeDepth := 60) +contextual [State.composeLine, hs]

theorem execComposeLineBoundary_good {x} {s : State} (hs : s.Good Q B M F C) :
    Answers Q B M F C (execComposeLineBoundary x s) := by
  unfold execComposeLineBoundary; (repeat' split) <;> simp (maxDischargeDepth := 60) +contextual [hs]

@[simp] theorem State.runOp_good {s : State} {opc} {f : State → Job → Nat → Nat → State} (hs : s.Good Q B M F C) (hf2 : ∀ t y1 y2 y3, t.Good Q B M F C → (f t y1 y2 y3).Good Q B M F C) :
    (State.runOp s opc f).Good Q B M F C := by
  unfold State.runOp; (repeat' split) <;> simp (maxDischargeDepth := 60) +contextual [hs, hf2]

@[simp] theorem State.nextOp_good {s : State} (hs : s.Good Q B M F C) :
    (State.nextOp s).Good Q B M F C := by
  simp (maxDischargeDepth := 60) +contextual [State.nextOp, hs]

theorem execOpClear_good {s : State} (hs : s.Good Q B M F C) :
    Answers Q B M F C (execOpClear s) := by
  simp (maxDischargeDepth := 60) +contextual [execOpClear, hs]

@[simp] theorem State.readSpan_good {s : State} {layer a n x} (hs : s.Good Q B M F C) :
    (State.readSpan s layer a n x).1.Good Q B M F C := by
  simp (maxDischargeDepth := 60) +contextual [State.readSpan, hs]

@[simp] theorem State.readSpans_good {s : State} {layer row x a_} (hs : s.Good Q B M F C) :
    (State.readSpans s layer row x a_).1.Good Q B M F C := by
  revert hs; fun_induction State.readSpans s layer row x a_ <;> intros <;> (repeat' split) <;> simp_all +zetaDelta (maxDischargeDepth := 60) +contextual

@[simp] theorem State.stallLine_good {s : State} {j i y} (hs : s.Good Q B M F C) :
    (State.stallLine s j i y).Good Q B M F C := by
  simp (maxDischargeDepth := 60) +contextual [State.stallLine, hs]

@[simp] theorem State.consume_good {s : State} {j i y} (hs : s.Good Q B M F C) :
    (State.consume s j i y).Good Q B M F C := by
  simp (maxDischargeDepth := 60) +contextual [State.consume, hs]

@[simp] theorem State.fetchEffect_good {s : State} {j i y x} (hs : s.Good Q B M F C) :
    (State.fetchEffect s j i y x).Good Q B M F C := by
  simp only [State.fetchEffect]; (repeat' split) <;> simp (maxDischargeDepth := 60) +contextual [hs]

theorem execFetchOp_good {x} {s : State} (hs : s.Good Q B M F C) :
    Answers Q B M F C (execFetchOp x s) := by
  simp (maxDischargeDepth := 60) +contextual [execFetchOp, hs]

theorem execMergeOp_good {s : State} (hs : s.Good Q B M F C) :
    Answers Q B M F C (execMergeOp s) := by
  simp (maxDischargeDepth := 60) +contextual [execMergeOp, hs]

theorem execLookupOp_good {s : State} (hs : s.Good Q B M F C) :
    Answers Q B M F C (execLookupOp s) := by
  simp (maxDischargeDepth := 60) +contextual [execLookupOp, hs]

theorem execPassmaskOp_good {s : State} (hs : s.Good Q B M F C) :
    Answers Q B M F C (execPassmaskOp s) := by
  simp (maxDischargeDepth := 60) +contextual [execPassmaskOp, hs]

theorem execStitchOp_good {s : State} (hs : s.Good Q B M F C) :
    Answers Q B M F C (execStitchOp s) := by
  simp (maxDischargeDepth := 60) +contextual [execStitchOp, hs]

theorem execRailOp_good {x} {s : State} (hs : s.Good Q B M F C) :
    Answers Q B M F C (execRailOp x s) := by
  simp (maxDischargeDepth := 60) +contextual [execRailOp, hs]

theorem execCompOp_good {x} {s : State} (hs : s.Good Q B M F C) :
    Answers Q B M F C (execCompOp x s) := by
  simp (maxDischargeDepth := 60) +contextual [execCompOp, hs]

@[simp] theorem State.railFixRead_good {s : State} {j i x h} (hs : s.Good Q B M F C) :
    (State.railFixRead s j i x h).Good Q B M F C := by
  unfold State.railFixRead; refine State.when_good hs (fun _ _ => ?_); simp [*]

@[simp] theorem State.endLine_good {s : State} (hs : s.Good Q B M F C) :
    (State.endLine s).Good Q B M F C := by
  unfold State.endLine; (repeat' split) <;> simp (maxDischargeDepth := 60) +contextual [hs]

@[simp] theorem State.emitEffect_good {s : State} {j i stall x} (hs : s.Good Q B M F C) :
    (State.emitEffect s j i stall x).Good Q B M F C := by
  simp (maxDischargeDepth := 60) +contextual [State.emitEffect, hs]

theorem execEmitOp_good {stall x} {s : State} (hs : s.Good Q B M F C) :
    Answers Q B M F C (execEmitOp stall x s) := by
  simp (maxDischargeDepth := 60) +contextual [execEmitOp, hs]

@[simp] theorem State.kill_good {s : State} {n} (hs : s.Good Q B M F C) :
    (State.kill s n).Good Q B M F C := by
  simp (maxDischargeDepth := 60) +contextual [State.kill, hs]

theorem execKillSet_good {n} {s : State} (hs : s.Good Q B M F C) :
    Answers Q B M F C (execKillSet n s) := by
  simp (maxDischargeDepth := 60) +contextual [execKillSet, hs]

theorem execKillClr_good {s : State} (hs : s.Good Q B M F C) :
    Answers Q B M F C (execKillClr s) := by
  simp (maxDischargeDepth := 60) +contextual [execKillClr, hs]

@[simp] theorem State.cmpEnable_good {s : State} (hs : s.Good Q B M F C) :
    (State.cmpEnable s).Good Q B M F C := by
  unfold State.cmpEnable; (repeat' split) <;> simp (maxDischargeDepth := 60) +contextual [hs]

theorem execCmpEnable_good {s : State} (hs : s.Good Q B M F C) :
    Answers Q B M F C (execCmpEnable s) := by
  simp (maxDischargeDepth := 60) +contextual [execCmpEnable, hs]

@[simp] theorem State.abortJobs_good {s : State} {group more} (hs : s.Good Q B M F C) :
    (State.abortJobs s group more).Good Q B M F C := by
  unfold State.abortJobs; (repeat' split) <;> simp (maxDischargeDepth := 60) +contextual [hs]

@[simp] theorem State.cmpDisable_good {s : State} {beats} (hs : s.Good Q B M F C) :
    (State.cmpDisable s beats).Good Q B M F C := by
  simp (maxDischargeDepth := 60) +contextual [State.cmpDisable, hs]

theorem execCmpDisable_good {beats} {s : State} (hs : s.Good Q B M F C) :
    Answers Q B M F C (execCmpDisable beats s) := by
  simp (maxDischargeDepth := 60) +contextual [execCmpDisable, hs]

end Sys2Proof.Machine
end

