-- ==== Sys2Proof/Laws/LineQueue.lean ====
section
/-! SUPPORT. What the operations of Machine/LineQueue.lean keep (Laws/Keep.lean). -/

namespace Sys2Proof.Machine

variable {Q : List Instr} {B : Nat → Nat} {M : Option (List Host.Cell)} {F : Option (List (Nat × Nat))} {C : Option Cistern}

@[simp] theorem State.syncQueue_good {s : State} {h} (hs : s.Good Q B M F C) :
    (State.syncQueue s h).Good Q B M F C := by
  simp only [State.syncQueue]; (repeat' split) <;> simp (maxDischargeDepth := 60) +contextual [hs]

@[simp] theorem State.startMoves_good {s : State} {h} (hs : s.Good Q B M F C) :
    (State.startMoves s h).Good Q B M F C := by
  simp (maxDischargeDepth := 60) +contextual [State.startMoves, hs]

@[simp] theorem State.servePort_good {s : State} (hs : s.Good Q B M F C) :
    (State.servePort s).Good Q B M F C := by
  simp (maxDischargeDepth := 60) +contextual [State.servePort, hs]

@[simp] theorem State.freePort_good {s : State} (hs : s.Good Q B M F C) :
    (State.freePort s).Good Q B M F C := by
  simp (maxDischargeDepth := 60) +contextual [State.freePort, hs]

@[simp] theorem State.setQueue_good {s : State} {h f} (hs : s.Good Q B M F C) :
    (State.setQueue s h f).Good Q B M F C := by
  simp (maxDischargeDepth := 60) +contextual [State.setQueue, hs]

@[simp] theorem State.queueBoundary_good {s : State} {h} (hs : s.Good Q B M F C) :
    (State.queueBoundary s h).Good Q B M F C := by
  simp (maxDischargeDepth := 60) +contextual [State.queueBoundary, hs]

@[simp] theorem State.pushLine_good {s : State} {h} (hs : s.Good Q B M F C) :
    (State.pushLine s h).Good Q B M F C := by
  unfold State.pushLine; (repeat' split) <;> simp (maxDischargeDepth := 60) +contextual [hs]

theorem execLinePush_good {h} {s : State} (hs : s.Good Q B M F C) :
    Answers Q B M F C (execLinePush h s) := by
  simp (maxDischargeDepth := 60) +contextual [execLinePush, hs]

theorem execTailToHeadMove_good {h} {s : State} (hs : s.Good Q B M F C) :
    Answers Q B M F C (execTailToHeadMove h s) := by
  simp (maxDischargeDepth := 60) +contextual [execTailToHeadMove, hs]

@[simp] theorem State.spillError_good {s : State} {h slot} (hs : s.Good Q B M F C) :
    (State.spillError s h slot).Good Q B M F C := by
  simp (maxDischargeDepth := 60) +contextual [State.spillError, hs]

theorem execSpillComplete_good {h x} {s : State} (hs : s.Good Q B none F C) :
    Answers Q B none F C (execSpillComplete h x s) := by
  unfold execSpillComplete; (repeat' split) <;> simp (maxDischargeDepth := 60) +contextual [hs]

theorem execRefillComplete_good {h x} {s : State} (hs : s.Good Q B M F C) :
    Answers Q B M F C (execRefillComplete h x s) := by
  unfold execRefillComplete; (repeat' split) <;> simp (maxDischargeDepth := 60) +contextual [hs]

@[simp] theorem State.setResync_good {s : State} {h b} (hs : s.Good Q B M F C) :
    (State.setResync s h b).Good Q B M F C := by
  simp (maxDischargeDepth := 60) +contextual [State.setResync, hs]

@[simp] theorem State.underrun_good {s : State} {h detail} (hs : s.Good Q B M F C) :
    (State.underrun s h detail).Good Q B M F C := by
  simp (maxDischargeDepth := 60) +contextual [State.underrun, hs]

@[simp] theorem State.popQueue_good {s : State} {h g detail deadline} (hs : s.Good Q B M F C) :
    (State.popQueue s h g detail deadline).1.Good Q B M F C := by
  simp only [State.popQueue]; (repeat' split) <;> simp (maxDischargeDepth := 60) +contextual [hs]

@[simp] theorem State.flushQueue_good {s : State} {h beats} (hs : s.Good Q B M F C) :
    (State.flushQueue s h beats).Good Q B M F C := by
  simp (maxDischargeDepth := 60) +contextual [State.flushQueue, hs]

theorem execLqFlush_good {mask} {s : State} (hs : s.Good Q B M F C) :
    Answers Q B M F C (execLqFlush mask s) := by
  simp (maxDischargeDepth := 60) +contextual [execLqFlush, hs]

theorem execFlushEffect_good {h beats} {s : State} (hs : s.Good Q B M F C) :
    Answers Q B M F C (execFlushEffect h beats s) := by
  simp (maxDischargeDepth := 60) +contextual [execFlushEffect, hs]

theorem execFlushTimeout_good {h beats} {s : State} (hs : s.Good Q B M F C) :
    Answers Q B M F C (execFlushTimeout h beats s) := by
  simp (maxDischargeDepth := 60) +contextual [execFlushTimeout, hs]

theorem execQptrMismatch_good {h ptr a b beats} {s : State} (hs : s.Good Q B M F C) :
    Answers Q B M F C (execQptrMismatch h ptr a b beats s) := by
  simp (maxDischargeDepth := 60) +contextual [execQptrMismatch, hs]

@[simp] theorem State.lqEnable_good {s : State} (hs : s.Good Q B M F C) :
    (State.lqEnable s).Good Q B M F C := by
  unfold State.lqEnable; (repeat' split) <;> simp (maxDischargeDepth := 60) +contextual [hs]

theorem execLqEnable_good {s : State} (hs : s.Good Q B M F C) :
    Answers Q B M F C (execLqEnable s) := by
  simp (maxDischargeDepth := 60) +contextual [execLqEnable, hs]

@[simp] theorem State.lqDisable_good {s : State} {beats} (hs : s.Good Q B M F C) :
    (State.lqDisable s beats).Good Q B M F C := by
  simp (maxDischargeDepth := 60) +contextual [State.lqDisable, hs]

theorem execLqDisable_good {beats} {s : State} (hs : s.Good Q B M F C) :
    Answers Q B M F C (execLqDisable beats s) := by
  simp (maxDischargeDepth := 60) +contextual [execLqDisable, hs]

end Sys2Proof.Machine
end

