-- ==== Sys2Proof/Laws/Naming.lean ====
section
/-! SUPPORT. What the operations of Machine/Naming.lean keep (Laws/Keep.lean). -/

namespace Sys2Proof.Machine

variable {Q : List Instr} {B : Nat → Nat} {M : Option (List Host.Cell)} {F : Option (List (Nat × Nat))} {C : Option Cistern}

@[simp] theorem State.closeOld_good {s : State} {h} (hs : s.Good Q B M F C) :
    (State.closeOld s h).Good Q B M F C := by
  simp (maxDischargeDepth := 60) +contextual [State.closeOld, hs]

@[simp] theorem State.senseLine_good {s : State} {h} (hs : s.Good Q B M F C) :
    (State.senseLine s h).Good Q B M F C := by
  simp (maxDischargeDepth := 60) +contextual [State.senseLine, hs]

@[simp] theorem State.scanStep_good {s : State} {h} (hs : s.Good Q B M F C) :
    (State.scanStep s h).Good Q B M F C := by
  simp (maxDischargeDepth := 60) +contextual [State.scanStep, hs]

@[simp] theorem State.nameScan_good {s : State} {h a_} (hs : s.Good Q B M F C) :
    (State.nameScan s h a_).1.Good Q B M F C := by
  revert hs; fun_induction State.nameScan s h a_ <;> intros <;> (repeat' split) <;> simp_all +zetaDelta (maxDischargeDepth := 60) +contextual

@[simp] theorem State.openSense_good {s : State} {h pos scan} (hs : s.Good Q B M F C) :
    (State.openSense s h pos scan).Good Q B M F C := by
  simp (maxDischargeDepth := 60) +contextual [State.openSense, hs]

@[simp] theorem State.chooseSense_good {s : State} {h} (hs : s.Good Q B M F C) :
    (State.chooseSense s h).1.Good Q B M F C := by
  simp only [State.chooseSense]; (repeat' split) <;> (try (have e := fst_of (by assumption); subst e)) <;> simp (maxDischargeDepth := 60) +contextual [hs]

@[simp] theorem State.nameSense_good {s : State} {h} (hs : s.Good Q B M F C) :
    (State.nameSense s h).1.Good Q B M F C := by
  simp (maxDischargeDepth := 60) +contextual [State.nameSense, hs]

end Sys2Proof.Machine
end

