-- ==== Sys2Proof/Laws/Skew.lean ====
section
/-! SUPPORT. What the operations of Machine/Skew.lean keep (Laws/Keep.lean). -/

namespace Sys2Proof.Machine

variable {Q : List Instr} {B : Nat → Nat} {M : Option (List Host.Cell)} {F : Option (List (Nat × Nat))} {C : Option Cistern}

@[simp] theorem State.skewRow_good {s : State} {h c rows n line x r} (hs : s.Good Q B none F C) :
    (State.skewRow s h c rows n line x r).1.Good Q B none F C := by
  simp (maxDischargeDepth := 60) +contextual [State.skewRow, hs]

@[simp] theorem State.skewRows_good {s : State} {h c rows n line x} (hs : s.Good Q B none F C) :
    (State.skewRows s h c rows n line x).1.Good Q B none F C := by
  simp (maxDischargeDepth := 60) +contextual [State.skewRows, hs]

@[simp] theorem State.enterLine_good {s : State} {h c line x} (hs : s.Good Q B none F C) :
    (State.enterLine s h c line x).1.Good Q B none F C := by
  simp (maxDischargeDepth := 60) +contextual [State.enterLine, hs]

@[simp] theorem State.clearSkew_good {s : State} {h} (hs : s.Good Q B M F C) :
    (State.clearSkew s h).Good Q B M F C := by
  simp (maxDischargeDepth := 60) +contextual [State.clearSkew, hs]

@[simp] theorem State.enterBlanks_good {s : State} {h c x a_} (hs : s.Good Q B none F C) :
    (State.enterBlanks s h c x a_).Good Q B none F C := by
  revert hs; fun_induction State.enterBlanks s h c x a_ <;> intros <;> simp_all (maxDischargeDepth := 60) +contextual

@[simp] theorem State.alignSkew_good {s : State} {h c seq y x} (hs : s.Good Q B none F C) :
    (State.alignSkew s h c seq y x).Good Q B none F C := by
  simp (maxDischargeDepth := 60) +contextual [State.alignSkew, hs]

@[simp] theorem State.skewStart_good {s : State} {h seq c} (hs : s.Good Q B M F C) :
    (State.skewStart s h seq c).Good Q B M F C := by
  unfold State.skewStart; (repeat' split) <;> simp (maxDischargeDepth := 60) +contextual [hs]

@[simp] theorem State.notePast_good {s : State} {h l} (hs : s.Good Q B M F C) :
    (State.notePast s h l).Good Q B M F C := by
  simp (maxDischargeDepth := 60) +contextual [State.notePast, hs]

end Sys2Proof.Machine
end

