-- ==== Sys2Proof/Laws/HeadPort.lean ====
section
/-! SUPPORT. What the operations of Machine/HeadPort.lean keep (Laws/Keep.lean). -/

namespace Sys2Proof.Machine

variable {Q : List Instr} {B : Nat → Nat} {M : Option (List Host.Cell)} {F : Option (List (Nat × Nat))} {C : Option Cistern}

@[simp] theorem State.syncDown_good {s : State} {h} (hs : s.Good Q B M F C) :
    (State.syncDown s h).Good Q B M F C := by
  simp (maxDischargeDepth := 60) +contextual [State.syncDown, hs]

@[simp] theorem State.addCause_good {s : State} {h c} (hs : s.Good Q B M F C) :
    (State.addCause s h c).Good Q B M F C := by
  simp (maxDischargeDepth := 60) +contextual [State.addCause, hs]

@[simp] theorem State.endCause_good {s : State} {h c} (hs : s.Good Q B M F C) :
    (State.endCause s h c).Good Q B M F C := by
  simp (maxDischargeDepth := 60) +contextual [State.endCause, hs]

@[simp] theorem State.takeSnap_good {s : State} {h seq} (hs : s.Good Q B M F C) :
    (State.takeSnap s h seq).Good Q B M F C := by
  simp (maxDischargeDepth := 60) +contextual [State.takeSnap, hs]

@[simp] theorem State.prepare_good {s : State} {h g line x} (hs : s.Good Q B none F C) :
    (State.prepare s h g line x).Good Q B none F C := by
  simp only [State.prepare]; (repeat' split) <;> simp (maxDischargeDepth := 60) +contextual [hs]

@[simp] theorem State.popPort_good {s : State} {h deadline x} (hs : s.Good Q B none F C) :
    (State.popPort s h deadline x).Good Q B none F C := by
  simp only [State.popPort]; (repeat' split) <;> (try (have e := fst_of (by assumption); subst e)) <;> simp (maxDischargeDepth := 60) +contextual [hs]

theorem execPopLine_good {h} {s : State} (hs : s.Good Q B none F C) :
    Answers Q B none F C (execPopLine h s) := by
  simp (maxDischargeDepth := 60) +contextual [execPopLine, hs]

theorem execPopDeadline_good {h} {s : State} (hs : s.Good Q B none F C) :
    Answers Q B none F C (execPopDeadline h s) := by
  unfold execPopDeadline; (repeat' split) <;> simp (maxDischargeDepth := 60) +contextual [hs]

theorem execFrameComplete_good {h} {s : State} (hs : s.Good Q B M F C) :
    Answers Q B M F C (execFrameComplete h s) := by
  unfold execFrameComplete; (repeat' split) <;> simp (maxDischargeDepth := 60) +contextual [hs]

theorem execLatStart_good {h} {s : State} (hs : s.Good Q B M F C) :
    Answers Q B M F C (execLatStart h s) := by
  unfold execLatStart; (repeat' split) <;> simp (maxDischargeDepth := 60) +contextual [hs]

theorem execLatEnd_good {h} {s : State} (hs : s.Good Q B none F C) :
    Answers Q B none F C (execLatEnd h s) := by
  unfold execLatEnd; (repeat' split) <;> simp (maxDischargeDepth := 60) +contextual [hs]

@[simp] theorem State.dropLine_good {s : State} {h t} (hs : s.Good Q B M F C) :
    (State.dropLine s h t).Good Q B M F C := by
  simp (maxDischargeDepth := 60) +contextual [State.dropLine, hs]

@[simp] theorem State.lateLine_good {s : State} {h t} (hs : s.Good Q B M F C) :
    (State.lateLine s h t).Good Q B M F C := by
  simp (maxDischargeDepth := 60) +contextual [State.lateLine, hs]

theorem execXferLate_good {h} {s : State} (hs : s.Good Q B M F C) :
    Answers Q B M F C (execXferLate h s) := by
  unfold execXferLate; (repeat' split) <;> simp (maxDischargeDepth := 60) +contextual [hs]

@[simp] theorem State.restartFrame_good {s : State} {h} (hs : s.Good Q B M F C) :
    (State.restartFrame s h).Good Q B M F C := by
  unfold State.restartFrame; (repeat' split) <;> simp (maxDischargeDepth := 60) +contextual [hs]

@[simp] theorem State.setPortActive_good {s : State} {h c} (hs : s.Good Q B M F C) :
    (State.setPortActive s h c).Good Q B M F C := by
  simp (maxDischargeDepth := 60) +contextual [State.setPortActive, hs]

@[simp] theorem State.portJobStart_good {s : State} {h seq} (hs : s.Good Q B M F C) :
    (State.portJobStart s h seq).Good Q B M F C := by
  simp (maxDischargeDepth := 60) +contextual [State.portJobStart, hs]

@[simp] theorem State.portJobOther_good {s : State} {h} (hs : s.Good Q B M F C) :
    (State.portJobOther s h).Good Q B M F C := by
  simp (maxDischargeDepth := 60) +contextual [State.portJobOther, hs]

@[simp] theorem State.portJobPass_good {s : State} {h} (hs : s.Good Q B M F C) :
    (State.portJobPass s h).Good Q B M F C := by
  simp (maxDischargeDepth := 60) +contextual [State.portJobPass, hs]

@[simp] theorem State.downDiscard_good {s : State} {h g} (hs : s.Good Q B M F C) :
    (State.downDiscard s h g).Good Q B M F C := by
  simp (maxDischargeDepth := 60) +contextual [State.downDiscard, hs]

@[simp] theorem State.portBoundary_good {s : State} {h g inJob} (hs : s.Good Q B M F C) :
    (State.portBoundary s h g inJob).Good Q B M F C := by
  simp (maxDischargeDepth := 60) +contextual [State.portBoundary, hs]

@[simp] theorem State.readProg_good {s : State} {a x} (hs : s.Good Q B M F C) :
    (State.readProg s a x).1.Good Q B M F C := by
  simp (maxDischargeDepth := 60) +contextual [State.readProg, hs]

@[simp] theorem State.fpLoad_good {s : State} {h x} (hs : s.Good Q B M F C) :
    (State.fpLoad s h x).Good Q B M F C := by
  simp (maxDischargeDepth := 60) +contextual [State.fpLoad, hs]

theorem execFpLoad_good {h x} {s : State} (hs : s.Good Q B M F C) :
    Answers Q B M F C (execFpLoad h x s) := by
  simp (maxDischargeDepth := 60) +contextual [execFpLoad, hs]

theorem execFpCheckComplete_good {h} {s : State} (hs : s.Good Q B M F C) :
    Answers Q B M F C (execFpCheckComplete h s) := by
  unfold execFpCheckComplete; (repeat' split) <;> simp (maxDischargeDepth := 60) +contextual [hs]

@[simp] theorem State.portEnable_good {s : State} {h} (hs : s.Good Q B M F C) :
    (State.portEnable s h).Good Q B M F C := by
  simp (maxDischargeDepth := 60) +contextual [State.portEnable, hs]

theorem execPortEnable_good {h} {s : State} (hs : s.Good Q B M F C) :
    Answers Q B M F C (execPortEnable h s) := by
  simp (maxDischargeDepth := 60) +contextual [execPortEnable, hs]

@[simp] theorem State.laneBits_good {s : State} {h shorts opens} (hs : s.Good Q B M F C) :
    (State.laneBits s h shorts opens).Good Q B M F C := by
  simp (maxDischargeDepth := 60) +contextual [State.laneBits, hs]

@[simp] theorem State.acceptPrs_good {s : State} {h raw stable} (hs : s.Good Q B M F C) :
    (State.acceptPrs s h raw stable).Good Q B M F C := by
  simp (maxDischargeDepth := 60) +contextual [State.acceptPrs, hs]

@[simp] theorem State.refusePort_good {s : State} {h cause shorts opens} (hs : s.Good Q B M F C) :
    (State.refusePort s h cause shorts opens).Good Q B M F C := by
  simp (maxDischargeDepth := 60) +contextual [State.refusePort, hs]

@[simp] theorem State.portReady_good {s : State} {h raw stable shorts opens} (hs : s.Good Q B M F C) :
    (State.portReady s h raw stable shorts opens).Good Q B M F C := by
  simp only [State.portReady]; (repeat' split) <;> simp (maxDischargeDepth := 60) +contextual [hs]

theorem execPortReady_good {h raw stable shorts opens} {s : State} (hs : s.Good Q B M F C) :
    Answers Q B M F C (execPortReady h raw stable shorts opens s) := by
  simp (maxDischargeDepth := 60) +contextual [execPortReady, hs]

@[simp] theorem State.heatOff_good {s : State} {h} (hs : s.Good Q B M F C) :
    (State.heatOff s h).Good Q B M F C := by
  simp (maxDischargeDepth := 60) +contextual [State.heatOff, hs]

@[simp] theorem State.portOff_good {s : State} {h} (hs : s.Good Q B M F C) :
    (State.portOff s h).Good Q B M F C := by
  simp (maxDischargeDepth := 60) +contextual [State.portOff, hs]

@[simp] theorem State.portDisable_good {s : State} {h} (hs : s.Good Q B M F C) :
    (State.portDisable s h).Good Q B M F C := by
  simp (maxDischargeDepth := 60) +contextual [State.portDisable, hs]

theorem execPortDisable_good {h} {s : State} (hs : s.Good Q B M F C) :
    Answers Q B M F C (execPortDisable h s) := by
  simp (maxDischargeDepth := 60) +contextual [execPortDisable, hs]

@[simp] theorem State.hptDisable_good {s : State} (hs : s.Good Q B M F C) :
    (State.hptDisable s).Good Q B M F C := by
  simp (maxDischargeDepth := 60) +contextual [State.hptDisable, hs]

theorem execHptDisable_good {s : State} (hs : s.Good Q B M F C) :
    Answers Q B M F C (execHptDisable s) := by
  simp (maxDischargeDepth := 60) +contextual [execHptDisable, hs]

@[simp] theorem State.prsSample_good {s : State} {h raw} (hs : s.Good Q B M F C) :
    (State.prsSample s h raw).Good Q B M F C := by
  simp (maxDischargeDepth := 60) +contextual [State.prsSample, hs]

theorem execPrsSample_good {h raw} {s : State} (hs : s.Good Q B M F C) :
    Answers Q B M F C (execPrsSample h raw s) := by
  simp (maxDischargeDepth := 60) +contextual [execPrsSample, hs]

@[simp] theorem State.laneFault_good {s : State} {h shorts opens} (hs : s.Good Q B M F C) :
    (State.laneFault s h shorts opens).Good Q B M F C := by
  simp (maxDischargeDepth := 60) +contextual [State.laneFault, hs]

theorem execLaneFault_good {h lane short} {s : State} (hs : s.Good Q B M F C) :
    Answers Q B M F C (execLaneFault h lane short s) := by
  simp (maxDischargeDepth := 60) +contextual [execLaneFault, hs]

@[simp] theorem State.downClr_good {s : State} {h shorts opens} (hs : s.Good Q B M F C) :
    (State.downClr s h shorts opens).Good Q B M F C := by
  simp (maxDischargeDepth := 60) +contextual [State.downClr, hs]

theorem execDownClr_good {h shorts opens} {s : State} (hs : s.Good Q B M F C) :
    Answers Q B M F C (execDownClr h shorts opens s) := by
  simp (maxDischargeDepth := 60) +contextual [execDownClr, hs]

@[simp] theorem State.i2cStore_good {s : State} {h l} (hs : s.Good Q B M F C) :
    (State.i2cStore s h l).Good Q B M F C := by
  simp (maxDischargeDepth := 60) +contextual [State.i2cStore, hs]

@[simp] theorem State.i2cStart_good {s : State} {h stuck} (hs : s.Good Q B M F C) :
    (State.i2cStart s h stuck).Good Q B M F C := by
  simp (maxDischargeDepth := 60) +contextual [State.i2cStart, hs]

theorem execI2cTransaction_good {h ctl stuck} {s : State} (hs : s.Good Q B M F C) :
    Answers Q B M F C (execI2cTransaction h ctl stuck s) := by
  simp (maxDischargeDepth := 60) +contextual [execI2cTransaction, hs]

@[simp] theorem State.i2cEnd_good {s : State} {h tmo nack nbytes read} (hs : s.Good Q B M F C) :
    (State.i2cEnd s h tmo nack nbytes read).Good Q B M F C := by
  unfold State.i2cEnd; (repeat' split) <;> simp (maxDischargeDepth := 60) +contextual [hs]

theorem execI2cDone_good {h nack nbytes read} {s : State} (hs : s.Good Q B M F C) :
    Answers Q B M F C (execI2cDone h nack nbytes read s) := by
  simp (maxDischargeDepth := 60) +contextual [execI2cDone, hs]

theorem execI2cStretchTimeout_good {h nbytes} {s : State} (hs : s.Good Q B M F C) :
    Answers Q B M F C (execI2cStretchTimeout h nbytes s) := by
  simp (maxDischargeDepth := 60) +contextual [execI2cStretchTimeout, hs]

end Sys2Proof.Machine
end

