-- ==== Sys2Proof/Laws/RailState.lean ====
section
/-! SUPPORT. What the operations of Machine/RailState.lean keep (Laws/Keep.lean). -/

namespace Sys2Proof.Machine

variable {Q : List Instr} {B : Nat → Nat} {M : Option (List Host.Cell)} {F : Option (List (Nat × Nat))} {C : Option Cistern}

@[simp] theorem State.holdRest_good {s : State} {c offset} (hs : s.Good Q B M F C) :
    (State.holdRest s c offset).Good Q B M F C := by
  simp (maxDischargeDepth := 60) +contextual [State.holdRest, hs]

@[simp] theorem State.chanBoundary_good {s : State} {c} (hs : s.Good Q B M F C) :
    (State.chanBoundary s c).Good Q B M F C := by
  simp (maxDischargeDepth := 60) +contextual [State.chanBoundary, hs]

@[simp] theorem State.tapDone_good {s : State} {h line} (hs : s.Good Q B M F C) :
    (State.tapDone s h line).Good Q B M F C := by
  unfold State.tapDone; (repeat' split) <;> simp (maxDischargeDepth := 60) +contextual [hs]

@[simp] theorem State.overSlot_good {s : State} {c} (hs : s.Good Q B M F C) :
    (State.overSlot s c).Good Q B M F C := by
  unfold State.overSlot; (repeat' split) <;> simp (maxDischargeDepth := 60) +contextual [hs]

@[simp] theorem State.closeSlot_good {s : State} {c} (hs : s.Good Q B M F C) :
    (State.closeSlot s c).Good Q B M F C := by
  unfold State.closeSlot; (repeat' split) <;> simp (maxDischargeDepth := 60) +contextual [hs]

@[simp] theorem State.endQuiet_good {s : State} {c} (hs : s.Good Q B M F C) :
    (State.endQuiet s c).Good Q B M F C := by
  simp (maxDischargeDepth := 60) +contextual [State.endQuiet, hs]

@[simp] theorem State.afterSlot_good {s : State} {c} (hs : s.Good Q B M F C) :
    (State.afterSlot s c).Good Q B M F C := by
  simp (maxDischargeDepth := 60) +contextual [State.afterSlot, hs]

@[simp] theorem State.abortSlot_good {s : State} {c} (hs : s.Good Q B M F C) :
    (State.abortSlot s c).Good Q B M F C := by
  simp (maxDischargeDepth := 60) +contextual [State.abortSlot, hs]

@[simp] theorem State.setRail_good {s : State} {h st} (hs : s.Good Q B M F C) :
    (State.setRail s h st).Good Q B M F C := by
  simp (maxDischargeDepth := 60) +contextual [State.setRail, hs]

@[simp] theorem State.abortCalOf_good {s : State} {h} (hs : s.Good Q B M F C) :
    (State.abortCalOf s h).Good Q B M F C := by
  unfold State.abortCalOf; (repeat' split) <;> simp (maxDischargeDepth := 60) +contextual [hs]

@[simp] theorem State.headDown_good {s : State} {h why} (hs : s.Good Q B M F C) :
    (State.headDown s h why).Good Q B M F C := by
  simp (maxDischargeDepth := 60) +contextual [State.headDown, hs]

@[simp] theorem State.faultTake_good {s : State} {h x} (hs : s.Good Q B M F C) :
    (State.faultTake s h x).Good Q B M F C := by
  simp (maxDischargeDepth := 60) +contextual [State.faultTake, hs]

@[simp] theorem State.resolveFaults_good {s : State} {h l} (hs : s.Good Q B M F C) :
    (State.resolveFaults s h l).Good Q B M F C := by
  unfold State.resolveFaults; dsimp only; (repeat' split) <;> simp (maxDischargeDepth := 60) +contextual [hs]

@[simp] theorem State.chanFault_good {s : State} {c cause} (hs : s.Good Q B M F C) :
    (State.chanFault s c cause).Good Q B M F C := by
  unfold State.chanFault; (repeat' split) <;> simp (maxDischargeDepth := 60) +contextual [hs]

@[simp] theorem State.faultChans_good {s : State} {l} (hs : s.Good Q B M F C) :
    (State.faultChans s l).Good Q B M F C := by
  simp (maxDischargeDepth := 60) +contextual [State.faultChans, hs]

@[simp] theorem State.takeoverClr_good {s : State} {h} (hs : s.Good Q B M F C) :
    (State.takeoverClr s h).Good Q B M F C := by
  simp (maxDischargeDepth := 60) +contextual [State.takeoverClr, hs]

theorem execTakeoverClr_good {h} {s : State} (hs : s.Good Q B M F C) :
    Answers Q B M F C (execTakeoverClr h s) := by
  simp (maxDischargeDepth := 60) +contextual [execTakeoverClr, hs]

@[simp] theorem State.headDownClr_good {s : State} {h} (hs : s.Good Q B M F C) :
    (State.headDownClr s h).Good Q B M F C := by
  simp (maxDischargeDepth := 60) +contextual [State.headDownClr, hs]

theorem execHeadDownClr_good {h} {s : State} (hs : s.Good Q B M F C) :
    Answers Q B M F C (execHeadDownClr h s) := by
  simp (maxDischargeDepth := 60) +contextual [execHeadDownClr, hs]

end Sys2Proof.Machine
end

