-- ==== Sys2Proof/Laws/Waveform.lean ====
section
/-! SUPPORT. What the operations of Machine/Waveform.lean keep (Laws/Keep.lean). -/

namespace Sys2Proof.Machine

variable {Q : List Instr} {B : Nat → Nat} {M : Option (List Host.Cell)} {F : Option (List (Nat × Nat))} {C : Option Cistern}

@[simp] theorem State.playOn_good {s : State} {c z slope n} (hs : s.Good Q B M F C) :
    (State.playOn s c z slope n).1.Good Q B M F C := by
  simp (maxDischargeDepth := 60) +contextual [State.playOn, hs]

@[simp] theorem State.setSlot_good {s : State} {c z} (hs : s.Good Q B M F C) :
    (State.setSlot s c z).Good Q B M F C := by
  simp (maxDischargeDepth := 60) +contextual [State.setSlot, hs]

@[simp] theorem State.runWave_good {s : State} {c opc} {f : State → Slot → Prod Word Word → State} (hs : s.Good Q B M F C) (hf2 : ∀ t y1 y2, t.Good Q B M F C → (f t y1 y2).Good Q B M F C) :
    (State.runWave s c opc f).Good Q B M F C := by
  unfold State.runWave; (repeat' split) <;> simp (maxDischargeDepth := 60) +contextual [hs, hf2]

@[simp] theorem State.zeroTime_good {s : State} {c z} (hs : s.Good Q B M F C) :
    (State.zeroTime s c z).1.Good Q B M F C := by
  simp (maxDischargeDepth := 60) +contextual [State.zeroTime, hs]

@[simp] theorem State.noteFeedback_good {s : State} {c x0 x1} (hs : s.Good Q B M F C) :
    (State.noteFeedback s c x0 x1).Good Q B M F C := by
  simp (maxDischargeDepth := 60) +contextual [State.noteFeedback, hs]

@[simp] theorem State.noteLast_good {s : State} {c fb} (hs : s.Good Q B M F C) :
    (State.noteLast s c fb).Good Q B M F C := by
  unfold State.noteLast; (repeat' split) <;> simp (maxDischargeDepth := 60) +contextual [hs]

@[simp] theorem State.openNote_good {s : State} {c z dv fb} (hs : s.Good Q B M F C) :
    (State.openNote s c z dv fb).Good Q B M F C := by
  simp (maxDischargeDepth := 60) +contextual [State.openNote, hs]

@[simp] theorem State.playRamp_good {s : State} {c fb} (hs : s.Good Q B M F C) :
    (State.playRamp s c fb).1.Good Q B M F C := by
  unfold State.playRamp; (repeat' split) <;> simp (maxDischargeDepth := 60) +contextual [hs]

@[simp] theorem State.playRamps_good {s : State} {l} (hs : s.Good Q B M F C) :
    (State.playRamps s l).1.Good Q B M F C := by
  simp (maxDischargeDepth := 60) +contextual [State.playRamps, hs]

theorem execHold_good {c} {s : State} (hs : s.Good Q B M F C) :
    Answers Q B M F C (execHold c s) := by
  simp (maxDischargeDepth := 60) +contextual [execHold, hs]

@[simp] theorem State.strobe_good {s : State} {h window z} (hs : s.Good Q B M F C) :
    (State.strobe s h window z).Good Q B M F C := by
  simp (maxDischargeDepth := 60) +contextual [State.strobe, hs]

theorem execWin_good {c} {s : State} (hs : s.Good Q B M F C) :
    Answers Q B M F C (execWin c s) := by
  simp (maxDischargeDepth := 60) +contextual [execWin, hs]

@[simp] theorem State.handSamples_good {s : State} {h z pos ds vfb} (hs : s.Good Q B M F C) :
    (State.handSamples s h z pos ds vfb).Good Q B M F C := by
  unfold State.handSamples; (repeat' split) <;> simp (maxDischargeDepth := 60) +contextual [hs]

@[simp] theorem State.suspendChecks_good {s : State} {c z upto} (hs : s.Good Q B M F C) :
    (State.suspendChecks s c z upto).Good Q B M F C := by
  simp (maxDischargeDepth := 60) +contextual [State.suspendChecks, hs]

theorem execSense_good {c vfb} {s : State} (hs : s.Good Q B M F C) :
    Answers Q B M F C (execSense c vfb s) := by
  refine answers_next (State.runWave_good hs (fun t z i ht => ?_))
  dsimp only
  (repeat' split) <;> simp (maxDischargeDepth := 60) +contextual [ht]

theorem execJump_good {c} {s : State} (hs : s.Good Q B M F C) :
    Answers Q B M F C (execJump c s) := by
  simp (maxDischargeDepth := 60) +contextual [execJump, hs]

@[simp] theorem State.pdUpdate_good {s : State} {c z vfb} (hs : s.Good Q B M F C) :
    (State.pdUpdate s c z vfb).Good Q B M F C := by
  simp (maxDischargeDepth := 60) +contextual [State.pdUpdate, hs]

theorem execEndSlot_good {c vfb} {s : State} (hs : s.Good Q B M F C) :
    Answers Q B M F C (execEndSlot c vfb s) := by
  unfold execEndSlot; (repeat' split) <;> simp (maxDischargeDepth := 60) +contextual [hs]

theorem execSlotLimit_good {c} {s : State} (hs : s.Good Q B M F C) :
    Answers Q B M F C (execSlotLimit c s) := by
  unfold execSlotLimit; (repeat' split) <;> simp (maxDischargeDepth := 60) +contextual [hs]

@[simp] theorem State.takeNext_good {s : State} {c} (hs : s.Good Q B M F C) :
    (State.takeNext s c).Good Q B M F C := by
  unfold State.takeNext; (repeat' split) <;> simp (maxDischargeDepth := 60) +contextual [hs]

@[simp] theorem State.clearTables_good {s : State} {c} (hs : s.Good Q B M F C) :
    (State.clearTables s c).Good Q B M F C := by
  simp (maxDischargeDepth := 60) +contextual [State.clearTables, hs]

@[simp] theorem State.pickTables_good {s : State} {c rail} (hs : s.Good Q B M F C) :
    (State.pickTables s c rail).Good Q B M F C := by
  simp (maxDischargeDepth := 60) +contextual [State.pickTables, hs]

@[simp] theorem State.slotTables_good {s : State} {c rail} (hs : s.Good Q B M F C) :
    (State.slotTables s c rail).Good Q B M F C := by
  simp (maxDischargeDepth := 60) +contextual [State.slotTables, hs]

@[simp] theorem State.startChan_good {s : State} {c t x} (hs : s.Good Q B M F C) :
    (State.startChan s c t x).Good Q B M F C := by
  unfold State.startChan; (repeat' split) <;> simp (maxDischargeDepth := 60) +contextual [hs]

@[simp] theorem State.applyDelay_good {s : State} {h} (hs : s.Good Q B M F C) :
    (State.applyDelay s h).Good Q B M F C := by
  simp (maxDischargeDepth := 60) +contextual [State.applyDelay, hs]

@[simp] theorem State.startSlots_good {s : State} {t x} (hs : s.Good Q B M F C) :
    (State.startSlots s t x).Good Q B M F C := by
  simp (maxDischargeDepth := 60) +contextual [State.startSlots, hs]

@[simp] theorem State.startChannel_good {s : State} {c flt} (hs : s.Good Q B M F C) :
    (State.startChannel s c flt).Good Q B M F C := by
  simp (maxDischargeDepth := 60) +contextual [State.startChannel, hs]

@[simp] theorem State.channelEnable_good {s : State} {c flt} (hs : s.Good Q B M F C) :
    (State.channelEnable s c flt).Good Q B M F C := by
  simp (maxDischargeDepth := 60) +contextual [State.channelEnable, hs]

theorem execChannelEnable_good {c flt} {s : State} (hs : s.Good Q B M F C) :
    Answers Q B M F C (execChannelEnable c flt s) := by
  simp (maxDischargeDepth := 60) +contextual [execChannelEnable, hs]

@[simp] theorem State.trackNote_good {s : State} {c} (hs : s.Good Q B M F C) :
    (State.trackNote s c).Good Q B M F C := by
  simp (maxDischargeDepth := 60) +contextual [State.trackNote, hs]

theorem execChannelReady_good {c es} {s : State} (hs : s.Good Q B M F C) :
    Answers Q B M F C (execChannelReady c es s) := by
  simp (maxDischargeDepth := 60) +contextual [execChannelReady, hs]

@[simp] theorem State.channelDisable_good {s : State} {c} (hs : s.Good Q B M F C) :
    (State.channelDisable s c).Good Q B M F C := by
  simp (maxDischargeDepth := 60) +contextual [State.channelDisable, hs]

theorem execChannelDisable_good {c} {s : State} (hs : s.Good Q B M F C) :
    Answers Q B M F C (execChannelDisable c s) := by
  simp (maxDischargeDepth := 60) +contextual [execChannelDisable, hs]

theorem execRampDownComplete_good {c} {s : State} (hs : s.Good Q B M F C) :
    Answers Q B M F C (execRampDownComplete c s) := by
  simp (maxDischargeDepth := 60) +contextual [execRampDownComplete, hs]

@[simp] theorem State.wfeDisable_good {s : State} (hs : s.Good Q B M F C) :
    (State.wfeDisable s).Good Q B M F C := by
  simp (maxDischargeDepth := 60) +contextual [State.wfeDisable, hs]

theorem execWfeDisable_good {s : State} (hs : s.Good Q B M F C) :
    Answers Q B M F C (execWfeDisable s) := by
  simp (maxDischargeDepth := 60) +contextual [execWfeDisable, hs]

@[simp] theorem State.faultClr_good {s : State} {c flt} (hs : s.Good Q B M F C) :
    (State.faultClr s c flt).Good Q B M F C := by
  simp (maxDischargeDepth := 60) +contextual [State.faultClr, hs]

theorem execFaultClr_good {c flt} {s : State} (hs : s.Good Q B M F C) :
    Answers Q B M F C (execFaultClr c flt s) := by
  simp (maxDischargeDepth := 60) +contextual [execFaultClr, hs]

@[simp] theorem State.pdReset_good {s : State} {c} (hs : s.Good Q B M F C) :
    (State.pdReset s c).Good Q B M F C := by
  simp (maxDischargeDepth := 60) +contextual [State.pdReset, hs]

theorem execPdReset_good {c} {s : State} (hs : s.Good Q B M F C) :
    Answers Q B M F C (execPdReset c s) := by
  simp (maxDischargeDepth := 60) +contextual [execPdReset, hs]

@[simp] theorem State.noteSamples_good {s : State} {l} (hs : s.Good Q B M F C) :
    (State.noteSamples s l).Good Q B M F C := by
  simp (maxDischargeDepth := 60) +contextual [State.noteSamples, hs]

@[simp] theorem State.cycleFaults_good {s : State} {l} (hs : s.Good Q B M F C) :
    (State.cycleFaults s l).Good Q B M F C := by
  simp (maxDischargeDepth := 60) +contextual [State.cycleFaults, hs]

theorem execRamp_good {c ifb} {s : State} (hs : s.Good Q B M F C) :
    Answers Q B M F C (execRamp c ifb s) := by
  simp (maxDischargeDepth := 60) +contextual [execRamp, hs]

theorem execShortFault_good {l} {s : State} (hs : s.Good Q B M F C) :
    Answers Q B M F C (execShortFault l s) := by
  simp (maxDischargeDepth := 60) +contextual [execShortFault, hs]

theorem execAmpFlt_good {l} {s : State} (hs : s.Good Q B M F C) :
    Answers Q B M F C (execAmpFlt l s) := by
  simp (maxDischargeDepth := 60) +contextual [execAmpFlt, hs]

theorem execTrackFault_good {l} {s : State} (hs : s.Good Q B M F C) :
    Answers Q B M F C (execTrackFault l s) := by
  simp (maxDischargeDepth := 60) +contextual [execTrackFault, hs]

end Sys2Proof.Machine
end

