-- ==== Sys2Proof/Laws/Fire.lean ====
section
/-! SUPPORT. What the operations of Machine/Fire.lean keep (Laws/Keep.lean). -/

namespace Sys2Proof.Machine

variable {Q : List Instr} {B : Nat → Nat} {M : Option (List Host.Cell)} {F : Option (List (Nat × Nat))} {C : Option Cistern}

@[simp] theorem State.holdCommitted_good {s : State} (hs : s.Good Q B M F C) :
    (State.holdCommitted s).Good Q B M F C := by
  simp (maxDischargeDepth := 60) +contextual [State.holdCommitted, hs]

@[simp] theorem State.replace_good {s : State} {k} (hs : s.Good Q B M F C) :
    (State.replace s k).Good Q B M F C := by
  simp (maxDischargeDepth := 60) +contextual [State.replace, hs]

@[simp] theorem State.losePred_good {s : State} (hs : s.Good Q B M F C) :
    (State.losePred s).Good Q B M F C := by
  simp only [State.losePred]; (repeat' split) <;> simp (maxDischargeDepth := 60) +contextual [hs]

@[simp] theorem State.syncPred_good {s : State} (hs : s.Good Q B M F C) :
    (State.syncPred s).Good Q B M F C := by
  simp (maxDischargeDepth := 60) +contextual [State.syncPred, hs]

@[simp] theorem State.setMark_good {s : State} {p} (hs : s.Good Q B M F C) :
    (State.setMark s p).Good Q B M F C := by
  unfold State.setMark; (repeat' split) <;> simp (maxDischargeDepth := 60) +contextual [hs]

@[simp] theorem State.markSample_good {s : State} {k} (hs : s.Good Q B M F C) :
    (State.markSample s k).Good Q B M F C := by
  unfold State.markSample; (repeat' split) <;> simp (maxDischargeDepth := 60) +contextual [hs]

@[simp] theorem State.startJob_good {s : State} {j} (hs : s.Good Q B M F C) :
    (State.startJob s j).Good Q B M F C := by
  simp (maxDischargeDepth := 60) +contextual [State.startJob, hs]

@[simp] theorem State.startPorts_good {s : State} {j} (hs : s.Good Q B M F C) :
    (State.startPorts s j).Good Q B M F C := by
  simp (maxDischargeDepth := 60) +contextual [State.startPorts, hs]

@[simp] theorem State.partBoundary_good {s : State} {h} (hs : s.Good Q B M F C) :
    (State.partBoundary s h).Good Q B M F C := by
  simp (maxDischargeDepth := 60) +contextual [State.partBoundary, hs]

@[simp] theorem State.lineHeads_good {s : State} {j g} (hs : s.Good Q B M F C) :
    (State.lineHeads s j g).Good Q B M F C := by
  simp (maxDischargeDepth := 60) +contextual [State.lineHeads, hs]

@[simp] theorem State.placeHead_good {s : State} {j y c shift ref k h} (hs : s.Good Q B M F C) :
    (State.placeHead s j y c shift ref k h).Good Q B M F C := by
  simp (maxDischargeDepth := 60) +contextual [State.placeHead, hs]

@[simp] theorem State.nextCompare_good {s : State} {j y c n} (hs : s.Good Q B M F C) :
    (State.nextCompare s j y c n).Good Q B M F C := by
  simp (maxDischargeDepth := 60) +contextual [State.nextCompare, hs]

@[simp] theorem State.unlessStopped_good {s : State} {f : State → State} (hs : s.Good Q B M F C) (hf2 : ∀ t, t.Good Q B M F C → (f t).Good Q B M F C) :
    (State.unlessStopped s f).Good Q B M F C := by
  simp (maxDischargeDepth := 60) +contextual [State.unlessStopped, hs, hf2]

@[simp] theorem State.noteOverspeed_good {s : State} {j y clamped} (hs : s.Good Q B M F C) :
    (State.noteOverspeed s j y clamped).Good Q B M F C := by
  simp (maxDischargeDepth := 60) +contextual [State.noteOverspeed, hs]

@[simp] theorem State.noteLine_good {s : State} {j y c tRef clamped} (hs : s.Good Q B M F C) :
    (State.noteLine s j y c tRef clamped).Good Q B M F C := by
  simp (maxDischargeDepth := 60) +contextual [State.noteLine, hs]

@[simp] theorem State.noteLate_good {s : State} {j y late} (hs : s.Good Q B M F C) :
    (State.noteLate s j y late).Good Q B M F C := by
  simp (maxDischargeDepth := 60) +contextual [State.noteLate, hs]

@[simp] theorem State.placeTrigs_good {s : State} {j y c k late} (hs : s.Good Q B M F C) :
    (State.placeTrigs s j y c k late).Good Q B M F C := by
  simp (maxDischargeDepth := 60) +contextual [State.placeTrigs, hs]

@[simp] theorem State.fireLine_good {s : State} {late} (hs : s.Good Q B M F C) :
    (State.fireLine s late).Good Q B M F C := by
  unfold State.fireLine; (repeat' split) <;> simp (maxDischargeDepth := 60) +contextual [hs]

@[simp] theorem State.lateCheck_good {s : State} (hs : s.Good Q B M F C) :
    (State.lateCheck s).Good Q B M F C := by
  unfold State.lateCheck; (repeat' split) <;> simp (maxDischargeDepth := 60) +contextual [hs]

theorem execFireLineBoundary_good {s : State} (hs : s.Good Q B M F C) :
    Answers Q B M F C (execFireLineBoundary s) := by
  unfold execFireLineBoundary; (repeat' split) <;> simp (maxDischargeDepth := 60) +contextual [hs]

theorem execValidSample_good {s : State} (hs : s.Good Q B M F C) :
    Answers Q B M F C (execValidSample s) := by
  unfold execValidSample; (repeat' split) <;> simp (maxDischargeDepth := 60) +contextual [hs]

theorem execPredictionStale_good {s : State} (hs : s.Good Q B M F C) :
    Answers Q B M F C (execPredictionStale s) := by
  simp (maxDischargeDepth := 60) +contextual [execPredictionStale, hs]

@[simp] theorem State.armJob_good {s : State} {j} (hs : s.Good Q B M F C) :
    (State.armJob s j).Good Q B M F C := by
  simp only [State.armJob]; (repeat' split) <;> simp (maxDischargeDepth := 60) +contextual [hs]

@[simp] theorem State.refuseArm_good {s : State} {j code} (hs : s.Good Q B M F C) :
    (State.refuseArm s j code).Good Q B M F C := by
  simp (maxDischargeDepth := 60) +contextual [State.refuseArm, hs]

theorem execJobArm_good {s : State} (hs : s.Good Q B M F C) :
    Answers Q B M F C (execJobArm s) := by
  unfold execJobArm; (repeat' split) <;> simp (maxDischargeDepth := 60) +contextual [hs]

@[simp] theorem State.refuseSlot_good {s : State} {t c cause} (hs : s.Good Q B M F C) :
    (State.refuseSlot s t c cause).Good Q B M F C := by
  simp (maxDischargeDepth := 60) +contextual [State.refuseSlot, hs]

@[simp] theorem State.playTrig_good {s : State} {t x} (hs : s.Good Q B M F C) :
    (State.playTrig s t x).Good Q B M F C := by
  simp (maxDischargeDepth := 60) +contextual [State.playTrig, hs]

@[simp] theorem State.issueTrig_good {s : State} {t} (hs : s.Good Q B M F C) :
    (State.issueTrig s t).Good Q B M F C := by
  simp only [State.issueTrig]; (repeat' split) <;> simp (maxDischargeDepth := 60) +contextual [hs]

theorem execRowTrigger_good {h} {s : State} (hs : s.Good Q B M F C) :
    Answers Q B M F C (execRowTrigger h s) := by
  unfold execRowTrigger; (repeat' split) <;> simp (maxDischargeDepth := 60) +contextual [hs]

theorem execJobComplete_good {s : State} (hs : s.Good Q B M F C) :
    Answers Q B M F C (execJobComplete s) := by
  unfold execJobComplete; (repeat' split) <;> simp (maxDischargeDepth := 60) +contextual [hs]

end Sys2Proof.Machine
end

