-- ==== Sys2Proof/Laws/Position.lean ====
section
/-! SUPPORT. What the operations of Machine/Position.lean keep (Laws/Keep.lean). -/

namespace Sys2Proof.Machine

variable {Q : List Instr} {B : Nat → Nat} {M : Option (List Host.Cell)} {F : Option (List (Nat × Nat))} {C : Option Cistern}

@[simp] theorem State.emptyWindow_good {s : State} {n} (hs : s.Good Q B M F C) :
    (State.emptyWindow s n).Good Q B M F C := by
  simp (maxDischargeDepth := 60) +contextual [State.emptyWindow, hs]

@[simp] theorem State.discard_good {s : State} {n} (hs : s.Good Q B M F C) :
    (State.discard s n).Good Q B M F C := by
  simp (maxDischargeDepth := 60) +contextual [State.discard, hs]

@[simp] theorem State.validSample_good {s : State} {n p t v} (hs : s.Good Q B M F C) :
    (State.validSample s n p t v).Good Q B M F C := by
  simp (maxDischargeDepth := 60) +contextual [State.validSample, hs]

@[simp] theorem State.axReport_good {s : State} {n f q detail} (hs : s.Good Q B M F C) :
    (State.axReport s n f q detail).Good Q B M F C := by
  simp (maxDischargeDepth := 60) +contextual [State.axReport, hs]

@[simp] theorem State.encStep_good {s : State} {n t count d} (hs : s.Good Q B M F C) :
    (State.encStep s n t count d).Good Q B M F C := by
  unfold State.encStep; (repeat' split) <;> simp (maxDischargeDepth := 60) +contextual [hs]

@[simp] theorem State.encBreak_good {s : State} {n} (hs : s.Good Q B M F C) :
    (State.encBreak s n).Good Q B M F C := by
  unfold State.encBreak; (repeat' split) <;> simp (maxDischargeDepth := 60) +contextual [hs]

@[simp] theorem State.xDecide_good {s : State} {n t} (hs : s.Good Q B M F C) :
    (State.xDecide s n t).1.Good Q B M F C := by
  unfold State.xDecide; (repeat' split) <;> simp (maxDischargeDepth := 60) +contextual [hs]

@[simp] theorem State.stepSample_good {s : State} {n t d} (hs : s.Good Q B M F C) :
    (State.stepSample s n t d).Good Q B M F C := by
  simp only [State.stepSample]; (repeat' split) <;> simp (maxDischargeDepth := 60) +contextual [hs]

@[simp] theorem State.crossIndex_good {s : State} {n t dir} (hs : s.Good Q B M F C) :
    (State.crossIndex s n t dir).Good Q B M F C := by
  unfold State.crossIndex
  extract_lets p x gap d a b c
  have ha : a.Good Q B M F C := by simp (maxDischargeDepth := 60) [a, hs]
  clear_value p gap d a
  have hb : b.Good Q B M F C := by
    by_cases h : (gap != 0 && x.idxDir == some dir && !x.turned) = true
    · simp only [b, h, if_true]
      generalize unsignedOf 24 d = u
      generalize unsignedOf 32 d = v
      generalize decide (s.get (POS.IDX_TOL.COUNTS n) < d.natAbs) = w
      simp (maxDischargeDepth := 60) +contextual [ha]
    · simpa only [b, h, if_false, Bool.false_eq_true] using ha
  have hc : c.Good Q B M F C := by
    clear_value b
    simp (maxDischargeDepth := 60) [c, hb]
  clear_value c
  generalize s.get _ + _ = z
  simp (maxDischargeDepth := 60) +contextual [hc]

@[simp] theorem State.indexTick_good {s : State} {n t qi} (hs : s.Good Q B M F C) :
    (State.indexTick s n t qi).Good Q B M F C := by
  simp (maxDischargeDepth := 60) +contextual [State.indexTick, hs]

@[simp] theorem State.axStep_good {s : State} {n t d qi} (hs : s.Good Q B M F C) :
    (State.axStep s n t d qi).Good Q B M F C := by
  simp (maxDischargeDepth := 60) +contextual [State.axStep, hs]

@[simp] theorem State.axFault_good {s : State} {n t cnt f q qi} (hs : s.Good Q B M F C) :
    (State.axFault s n t cnt f q qi).Good Q B M F C := by
  simp (maxDischargeDepth := 60) +contextual [State.axFault, hs]

@[simp] theorem State.quadTick_good {s : State} {n t v} (hs : s.Good Q B M F C) :
    (State.quadTick s n t v).Good Q B M F C := by
  simp only [State.quadTick]; (repeat' split) <;> simp (maxDischargeDepth := 60) +contextual [hs]

@[simp] theorem State.hallTick_good {s : State} {n t was v} (hs : s.Good Q B M F C) :
    (State.hallTick s n t was v).Good Q B M F C := by
  unfold State.hallTick; (repeat' split) <;> simp (maxDischargeDepth := 60) +contextual [hs]

theorem execInputAccepted_good {n l} {s : State} (hs : s.Good Q B M F C) :
    Answers Q B M F C (execInputAccepted n l s) := by
  simp only [execInputAccepted]; (repeat' split) <;> simp (maxDischargeDepth := 60) +contextual [hs]

theorem execAxisStopped_good {n} {s : State} (hs : s.Good Q B M F C) :
    Answers Q B M F C (execAxisStopped n s) := by
  simp (maxDischargeDepth := 60) +contextual [execAxisStopped, hs]

@[simp] theorem State.frameFail_good {s : State} {n cause} (hs : s.Good Q B M F C) :
    (State.frameFail s n cause).Good Q B M F C := by
  simp (maxDischargeDepth := 60) +contextual [State.frameFail, hs]

@[simp] theorem State.frameSample_good {s : State} {n t0} (hs : s.Good Q B M F C) :
    (State.frameSample s n t0).Good Q B M F C := by
  simp only [State.frameSample]; (repeat' split) <;> simp (maxDischargeDepth := 60) +contextual [hs]

@[simp] theorem State.frameGood_good {s : State} {n t0 u} (hs : s.Good Q B M F C) :
    (State.frameGood s n t0 u).Good Q B M F C := by
  unfold State.frameGood; (repeat' split) <;> simp (maxDischargeDepth := 60) +contextual [hs]

@[simp] theorem State.keepRaw_good {s : State} {n bits delay} (hs : s.Good Q B M F C) :
    (State.keepRaw s n bits delay).Good Q B M F C := by
  simp (maxDischargeDepth := 60) +contextual [State.keepRaw, hs]

theorem execSerialFrameStart_good {n slo} {s : State} (hs : s.Good Q B M F C) :
    Answers Q B M F C (execSerialFrameStart n slo s) := by
  simp (maxDischargeDepth := 60) +contextual [execSerialFrameStart, hs]

theorem execNoack_good {n} {s : State} (hs : s.Good Q B M F C) :
    Answers Q B M F C (execNoack n s) := by
  simp (maxDischargeDepth := 60) +contextual [execNoack, hs]

theorem execSerialTimeout_good {n bits delay} {s : State} (hs : s.Good Q B M F C) :
    Answers Q B M F C (execSerialTimeout n bits delay s) := by
  simp (maxDischargeDepth := 60) +contextual [execSerialTimeout, hs]

theorem execSerialFrameComplete_good {n bits delay} {s : State} (hs : s.Good Q B M F C) :
    Answers Q B M F C (execSerialFrameComplete n bits delay s) := by
  unfold execSerialFrameComplete; (repeat' split) <;> simp (maxDischargeDepth := 60) +contextual [hs]

theorem execWireLoss_good {n mask} {s : State} (hs : s.Good Q B M F C) :
    Answers Q B M F C (execWireLoss n mask s) := by
  simp (maxDischargeDepth := 60) +contextual [execWireLoss, hs]

theorem execWireRestore_good {n} {s : State} (hs : s.Good Q B M F C) :
    Answers Q B M F C (execWireRestore n s) := by
  simp (maxDischargeDepth := 60) +contextual [execWireRestore, hs]

@[simp] theorem State.snapAxis_good {s : State} {n} (hs : s.Good Q B M F C) :
    (State.snapAxis s n).Good Q B M F C := by
  simp (maxDischargeDepth := 60) +contextual [State.snapAxis, hs]

@[simp] theorem State.snapAll_good {s : State} (hs : s.Good Q B M F C) :
    (State.snapAll s).Good Q B M F C := by
  simp (maxDischargeDepth := 60) +contextual [State.snapAll, hs]

theorem execSnapAll_good {s : State} (hs : s.Good Q B M F C) :
    Answers Q B M F C (execSnapAll s) := by
  simp (maxDischargeDepth := 60) +contextual [execSnapAll, hs]

@[simp] theorem State.axStart_good {s : State} {n} (hs : s.Good Q B M F C) :
    (State.axStart s n).Good Q B M F C := by
  simp (maxDischargeDepth := 60) +contextual [State.axStart, hs]

@[simp] theorem State.axStop_good {s : State} {n} (hs : s.Good Q B M F C) :
    (State.axStop s n).Good Q B M F C := by
  simp (maxDischargeDepth := 60) +contextual [State.axStop, hs]

@[simp] theorem State.axEnable_good {s : State} {n} (hs : s.Good Q B M F C) :
    (State.axEnable s n).Good Q B M F C := by
  unfold State.axEnable; (repeat' split) <;> simp (maxDischargeDepth := 60) +contextual [hs]

theorem execAxisEnable_good {n} {s : State} (hs : s.Good Q B M F C) :
    Answers Q B M F C (execAxisEnable n s) := by
  simp (maxDischargeDepth := 60) +contextual [execAxisEnable, hs]

@[simp] theorem State.axDisable_good {s : State} {n} (hs : s.Good Q B M F C) :
    (State.axDisable s n).Good Q B M F C := by
  simp (maxDischargeDepth := 60) +contextual [State.axDisable, hs]

theorem execAxisDisable_good {n} {s : State} (hs : s.Good Q B M F C) :
    Answers Q B M F C (execAxisDisable n s) := by
  simp (maxDischargeDepth := 60) +contextual [execAxisDisable, hs]

@[simp] theorem State.posEnable_good {s : State} (hs : s.Good Q B M F C) :
    (State.posEnable s).Good Q B M F C := by
  simp (maxDischargeDepth := 60) +contextual [State.posEnable, hs]

@[simp] theorem State.posDisable_good {s : State} (hs : s.Good Q B M F C) :
    (State.posDisable s).Good Q B M F C := by
  simp (maxDischargeDepth := 60) +contextual [State.posDisable, hs]

@[simp] theorem State.tideEnable_good {s : State} (hs : s.Good Q B M F C) :
    (State.tideEnable s).Good Q B M F C := by
  simp (maxDischargeDepth := 60) +contextual [State.tideEnable, hs]

end Sys2Proof.Machine
end

