-- ==== Sys2Proof/Laws/Weir.lean ====
section
/-! SUPPORT. What the operations of Machine/Weir.lean keep (Laws/Keep.lean). -/

namespace Sys2Proof.Machine

variable {Q : List Instr} {B : Nat → Nat} {M : Option (List Host.Cell)} {F : Option (List (Nat × Nat))} {C : Option Cistern}

@[simp] theorem State.syncWeir_good {s : State} (hs : s.Good Q B M F C) :
    (State.syncWeir s).Good Q B M F C := by
  simp (maxDischargeDepth := 60) +contextual [State.syncWeir, hs]

@[simp] theorem State.volUpdate_good {s : State} (hs : s.Good Q B M F none) :
    (State.volUpdate s).Good Q B M F none := by
  simp (maxDischargeDepth := 60) +contextual [State.volUpdate, hs]

theorem execVolUpdate_good {s : State} (hs : s.Good Q B M F none) :
    Answers Q B M F none (execVolUpdate s) := by
  simp (maxDischargeDepth := 60) +contextual [execVolUpdate, hs]

@[simp] theorem State.takeTap_good {s : State} {a b} (hs : s.Good Q B M F none) :
    (State.takeTap s a b).Good Q B M F none := by
  simp (maxDischargeDepth := 60) +contextual [State.takeTap, hs]

theorem execTapWordReceived_good {flip} {s : State} (hs : s.Good Q B M F none) :
    Answers Q B M F none (execTapWordReceived flip s) := by
  unfold execTapWordReceived; (repeat' split) <;> simp (maxDischargeDepth := 60) +contextual [hs]

theorem execTapGap_good {s : State} (hs : s.Good Q B M F none) :
    Answers Q B M F none (execTapGap s) := by
  simp (maxDischargeDepth := 60) +contextual [execTapGap, hs]

@[simp] theorem State.wxForward_good {s : State} (hs : s.Good Q B M F none) :
    (State.wxForward s).Good Q B M F none := by
  simp (maxDischargeDepth := 60) +contextual [State.wxForward, hs]

@[simp] theorem State.wxBack_good {s : State} (hs : s.Good Q B M F none) :
    (State.wxBack s).Good Q B M F none := by
  simp (maxDischargeDepth := 60) +contextual [State.wxBack, hs]

@[simp] theorem State.wxIndex_good {s : State} (hs : s.Good Q B M F none) :
    (State.wxIndex s).Good Q B M F none := by
  simp (maxDischargeDepth := 60) +contextual [State.wxIndex, hs]

theorem execWxStep_good {l} {s : State} (hs : s.Good Q B M F none) :
    Answers Q B M F none (execWxStep l s) := by
  simp (maxDischargeDepth := 60) +contextual [execWxStep, hs]

theorem execWxLost_good {mask} {s : State} (hs : s.Good Q B M F none) :
    Answers Q B M F none (execWxLost mask s) := by
  simp (maxDischargeDepth := 60) +contextual [execWxLost, hs]

theorem execWxRestore_good {s : State} (hs : s.Good Q B M F C) :
    Answers Q B M F C (execWxRestore s) := by
  simp (maxDischargeDepth := 60) +contextual [execWxRestore, hs]

@[simp] theorem State.bumpRseq_good {s : State} (hs : s.Good Q B M F none) :
    (State.bumpRseq s).Good Q B M F none := by
  simp (maxDischargeDepth := 60) +contextual [State.bumpRseq, hs]

@[simp] theorem State.issueBlock_good {s : State} {body} (hs : s.Good Q B M F C) :
    (State.issueBlock s body).Good Q B M F C := by
  simp (maxDischargeDepth := 60) +contextual [State.issueBlock, hs]

@[simp] theorem State.recordEvent_good {s : State} {ev} (hs : s.Good Q B M F none) :
    (State.recordEvent s ev).Good Q B M F none := by
  simp (maxDischargeDepth := 60) +contextual [State.recordEvent, hs]

@[simp] theorem State.logEvent_good {s : State} {ev burn} {act : State → State} (hs : s.Good Q B M none none) (hf2 : ∀ t, t.Good Q B M none none → (act t).Good Q B M none none) :
    (State.logEvent s ev burn act).1.Good Q B M none none := by
  simp (maxDischargeDepth := 60) +contextual [State.logEvent, hs, hf2]

@[simp] theorem State.setWeirState_good {s : State} {st} (hs : s.Good Q B M F C) :
    (State.setWeirState s st).Good Q B M F C := by
  simp (maxDischargeDepth := 60) +contextual [State.setWeirState, hs]

@[simp] theorem State.autoEvent_good {s : State} {ev burn} {act : State → State} (hs : s.Good Q B M none none) (hf2 : ∀ t, t.Good Q B M none none → (act t).Good Q B M none none) :
    (State.autoEvent s ev burn act).Good Q B M none none := by
  simp (maxDischargeDepth := 60) +contextual [State.autoEvent, hs, hf2]

theorem execLatchHandling_good {burn} {s : State} (hs : s.Good Q B M none none) :
    Answers Q B M none none (execLatchHandling burn s) := by
  simp (maxDischargeDepth := 60) +contextual [execLatchHandling, hs]

@[simp] theorem State.setBreach_good {s : State} (hs : s.Good Q B M F none) :
    (State.setBreach s).Good Q B M F none := by
  simp (maxDischargeDepth := 60) +contextual [State.setBreach, hs]

theorem execSealBreach_good {s : State} (hs : s.Good Q B M F none) :
    Answers Q B M F none (execSealBreach s) := by
  simp (maxDischargeDepth := 60) +contextual [execSealBreach, hs]

theorem execAuthLockExpiry_good {s : State} (hs : s.Good Q B M F none) :
    Answers Q B M F none (execAuthLockExpiry s) := by
  simp (maxDischargeDepth := 60) +contextual [execAuthLockExpiry, hs]

theorem execWeirPor_good {kept} {s : State} (hs : s.Good Q B M F none) :
    Answers Q B M F none (execWeirPor kept s) := by
  simp (maxDischargeDepth := 60) +contextual [execWeirPor, hs]

@[simp] theorem State.authCheck_good {s : State} {q} (hs : s.Good Q B M F none) :
    (State.authCheck s q).1.Good Q B M F none := by
  unfold State.authCheck; (repeat' split) <;> simp (maxDischargeDepth := 60) +contextual [hs]

@[simp] theorem State.cutEvent_good {s : State} (hs : s.Good Q B M none C) :
    (State.cutEvent s).Good Q B M none C := by
  unfold State.cutEvent; (repeat' split) <;> simp (maxDischargeDepth := 60) +contextual [hs]

theorem execVddWeirLoss_good {s : State} (hs : s.Good Q B M none none) :
    Answers Q B M none none (execVddWeirLoss s) := by
  simp (maxDischargeDepth := 60) +contextual [execVddWeirLoss, hs]

end Sys2Proof.Machine
end

