-- ==== Sys2Proof/Laws/Boot.lean ====
section
/-! SUPPORT. What the operations of Machine/Boot.lean keep (Laws/Keep.lean). -/

namespace Sys2Proof.Machine

variable {Q : List Instr} {B : Nat → Nat} {M : Option (List Host.Cell)} {F : Option (List (Nat × Nat))} {C : Option Cistern}

@[simp] theorem State.senseOtp_good {s : State} {chk} (hs : s.Good Q B M F C) :
    (State.senseOtp s chk).Good Q B M F C := by
  simp (maxDischargeDepth := 60) +contextual [State.senseOtp, hs]

@[simp] theorem State.finishLife_good {s : State} {l burn} (hs : s.Good Q B M none C) : (State.finishLife s l burn).1.Good Q B M none C := by
  revert hs
  fun_induction State.finishLife s l burn with
  | case2 s k t burn r h1 h2 bits b a ih => exact fun hs => ih (by simp only [a]; split <;> simp [b, hs])
  | _ => intros; simp_all

@[simp] theorem State.applyLife_good {s : State} {chk burn} (hs : s.Good Q B M none C) :
    (State.applyLife s chk burn).Good Q B M none C := by
  simp (maxDischargeDepth := 60) +contextual [State.applyLife, hs]

@[simp] theorem State.cutCmd_good {s : State} {cut} (hs : s.Good Q B M none C) :
    (State.cutCmd s cut).Good Q B M none C := by
  unfold State.cutCmd; (repeat' split) <;> simp (maxDischargeDepth := 60) +contextual [hs]

@[simp] theorem State.cutOtp_good {s : State} {cut} (hs : s.Good Q B M none C) :
    (State.cutOtp s cut).Good Q B M none C := by
  unfold State.cutOtp; (repeat' split) <;> simp (maxDischargeDepth := 60) +contextual [hs]

@[simp] theorem State.clearAll_good {s : State} (hs : s.Good Q B none F C) :
    (State.clearAll s).Good Q B none F C := by
  exact ⟨rfl, rfl, Nat.two_pow_pos 48, hs.queue, hs.burnt, nofun, hs.sameFuses, hs.sameCistern⟩

/-- It leaves no byte of memory listed. -/
@[simp] theorem State.clearAll_wiped {s : State} (hs : s.Good Q B M F C) : (State.clearAll s).Good Q B (some []) F C := by
  exact ⟨rfl, rfl, Nat.two_pow_pos 48, hs.queue, hs.burnt, fun _ h => by cases h; rfl, hs.sameFuses, hs.sameCistern⟩

@[simp] theorem State.seedRegs_good {t : State} {s : State} (hs : t.Good Q B M F C) :
    (State.seedRegs t s).Good Q B M F C := by
  simp (maxDischargeDepth := 60) +contextual [State.seedRegs, hs]

@[simp] theorem State.assertReset_good {s : State} {cut} (hs : s.Good Q B none none C) :
    (State.assertReset s cut).Good Q B none none C := by
  simp (maxDischargeDepth := 60) +contextual [State.assertReset, hs]

@[simp] theorem State.configure_good {s : State} (hs : s.Good Q B M F C) :
    (State.configure s).Good Q B M F C := by
  simp (maxDischargeDepth := 60) +contextual [State.configure, hs]

/-- A device that leaves reset has no byte of memory listed. -/
theorem State.release_wiped {s : State} {cause e} (hs : s.Good Q B none none C) :
    (State.release s cause e).Good Q B (some []) none C := by
  have hz : (s.clearAll.seedRegs s).Good Q B (some []) none C := State.seedRegs_good (State.clearAll_wiped hs)
  simp (maxDischargeDepth := 60) +contextual [State.release, hz]

@[simp] theorem State.release_good {s : State} {cause e} (hs : s.Good Q B none none C) :
    (State.release s cause e).Good Q B none none C :=
  let g := State.release_wiped hs
  ⟨g.mem, g.regs, g.time, g.queue, g.burnt, nofun, nofun, g.sameCistern⟩

@[simp] theorem State.deviceReset_good {s : State} {cause e} (hs : s.Good Q B none none C) :
    (State.deviceReset s cause e).Good Q B none none C := by
  simp (maxDischargeDepth := 60) +contextual [State.deviceReset, hs]

@[simp] theorem State.loadImage_good {s : State} {img} (hs : s.Good Q B none F C) :
    (State.loadImage s img).Good Q B none F C := by
  simp (maxDischargeDepth := 60) +contextual [State.loadImage, hs]

@[simp] theorem State.clearTcm_good {s : State} (hs : s.Good Q B none F C) :
    (State.clearTcm s).Good Q B none F C := by
  simp (maxDischargeDepth := 60) +contextual [State.clearTcm, hs]

@[simp] theorem State.enterImage_good {s : State} (hs : s.Good Q B M F C) :
    (State.enterImage s).Good Q B M F C := by
  simp (maxDischargeDepth := 60) +contextual [State.enterImage, hs]

@[simp] theorem State.tryImage_good {s : State} {img} (hs : s.Good Q B none F C) :
    (State.tryImage s img).1.Good Q B none F C := by
  simp (maxDischargeDepth := 60) +contextual [State.tryImage, hs]

@[simp] theorem State.noImage_good {s : State} (hs : s.Good Q B M F C) :
    (State.noImage s).Good Q B M F C := by
  simp (maxDischargeDepth := 60) +contextual [State.noImage, hs]

@[simp] theorem State.lastSource_good {s : State} (hs : s.Good Q B M F C) :
    (State.lastSource s).Good Q B M F C := by
  simp (maxDischargeDepth := 60) +contextual [State.lastSource, hs]

@[simp] theorem State.trySources_good {s : State} {a_} (hs : s.Good Q B none F C) :
    (State.trySources s a_).Good Q B none F C := by
  revert hs; fun_induction State.trySources s a_ <;> intros <;> (repeat' split) <;> simp_all +zetaDelta (maxDischargeDepth := 60) +contextual

@[simp] theorem State.runRom_good {s : State} (hs : s.Good Q B none F C) :
    (State.runRom s).Good Q B none F C := by
  simp (maxDischargeDepth := 60) +contextual [State.runRom, hs]

@[simp] theorem State.releaseCore_good {t : State} {s : State} (hs : t.Good Q B none F C) :
    (State.releaseCore t s).Good Q B none F C := by
  simp (maxDischargeDepth := 60) +contextual [State.releaseCore, hs]

@[simp] theorem State.clearWindow_good {s : State} (hs : s.Good Q B none F C) :
    (State.clearWindow s).Good Q B none F C := by
  simp (maxDischargeDepth := 60) +contextual [State.clearWindow, hs]

@[simp] theorem State.checkBegin_good {s : State} {host n} (hs : s.Good Q B M F C) :
    (State.checkBegin s host n).Good Q B M F C := by
  simp (maxDischargeDepth := 60) +contextual [State.checkBegin, hs]

@[simp] theorem State.checkFail_good {s : State} {stat} (hs : s.Good Q B M F C) :
    (State.checkFail s stat).Good Q B M F C := by
  simp (maxDischargeDepth := 60) +contextual [State.checkFail, hs]

@[simp] theorem State.checkEnd_good {s : State} (hs : s.Good Q B none F C) :
    (State.checkEnd s).Good Q B none F C := by
  unfold State.checkEnd; (repeat' split) <;> simp (maxDischargeDepth := 60) +contextual [hs]

@[simp] theorem State.checkDrop_good {s : State} (hs : s.Good Q B M F C) :
    (State.checkDrop s).Good Q B M F C := by
  unfold State.checkDrop; (repeat' split) <;> simp (maxDischargeDepth := 60) +contextual [hs]

@[simp] theorem State.hbootGo_good {s : State} {x} (hs : s.Good Q B none F C) :
    (State.hbootGo s x).Good Q B none F C := by
  simp (maxDischargeDepth := 60) +contextual [State.hbootGo, hs]

theorem execHbootGo_good {x} {s : State} (hs : s.Good Q B none F C) :
    Answers Q B none F C (execHbootGo x s) := by
  simp (maxDischargeDepth := 60) +contextual [execHbootGo, hs]

@[simp] theorem State.bootGo_good {s : State} (hs : s.Good Q B none F C) :
    (State.bootGo s).Good Q B none F C := by
  simp (maxDischargeDepth := 60) +contextual [State.bootGo, hs]

theorem execBootGo_good {v} {s : State} (hs : s.Good Q B none F C) :
    Answers Q B none F C (execBootGo v s) := by
  simp (maxDischargeDepth := 60) +contextual [execBootGo, hs]

theorem execWipeComplete_good {part} {s : State} (hs : s.Good Q B none F C) :
    Answers Q B none F C (execWipeComplete part s) := by
  simp (maxDischargeDepth := 60) +contextual [execWipeComplete, hs]

theorem execDramReady_good {bad} {s : State} (hs : s.Good Q B none F C) :
    Answers Q B none F C (execDramReady bad s) := by
  simp (maxDischargeDepth := 60) +contextual [execDramReady, hs]

theorem execDeviceReset_good {cause e} {s : State} (hs : s.Good Q B none none C) :
    Answers Q B none none C (execDeviceReset cause e s) := by
  simp (maxDischargeDepth := 60) +contextual [execDeviceReset, hs]

@[simp] theorem State.rstDevice_good {s : State} {v e} (hs : s.Good Q B none none C) :
    (State.rstDevice s v e).Good Q B none none C := by
  simp (maxDischargeDepth := 60) +contextual [State.rstDevice, hs]

theorem execRstDevice_good {v e} {s : State} (hs : s.Good Q B none none C) :
    Answers Q B none none C (execRstDevice v e s) := by
  simp (maxDischargeDepth := 60) +contextual [execRstDevice, hs]

theorem execRstTmo_good {e} {s : State} (hs : s.Good Q B none none C) :
    Answers Q B none none C (execRstTmo e s) := by
  simp (maxDischargeDepth := 60) +contextual [execRstTmo, hs]

@[simp] theorem State.lcReq_good {s : State} {v e} (hs : s.Good Q B none none C) :
    (State.lcReq s v e).Good Q B none none C := by
  simp only [State.lcReq]; (repeat' split) <;> simp (maxDischargeDepth := 60) +contextual [hs]

@[simp] theorem State.transitionEnd_good {s : State} (hs : s.Good Q B none none C) :
    (State.transitionEnd s).Good Q B none none C := by
  simp only [State.transitionEnd]; (repeat' split) <;> simp (maxDischargeDepth := 60) +contextual [hs]

theorem execLcReq_good {v e} {s : State} (hs : s.Good Q B none none C) :
    Answers Q B none none C (execLcReq v e s) := by
  simp (maxDischargeDepth := 60) +contextual [execLcReq, hs]

@[simp] theorem State.wdtRestart_good {s : State} (hs : s.Good Q B M F C) :
    (State.wdtRestart s).Good Q B M F C := by
  simp (maxDischargeDepth := 60) +contextual [State.wdtRestart, hs]

@[simp] theorem State.sumpOff_good {s : State} (hs : s.Good Q B M F C) :
    (State.sumpOff s).Good Q B M F C := by
  simp (maxDischargeDepth := 60) +contextual [State.sumpOff, hs]

@[simp] theorem State.romAgain_good {s : State} (hs : s.Good Q B none F C) :
    (State.romAgain s).Good Q B none F C := by
  simp (maxDischargeDepth := 60) +contextual [State.romAgain, hs]

@[simp] theorem State.romResume_good {s : State} (hs : s.Good Q B none F C) :
    (State.romResume s).Good Q B none F C := by
  unfold State.romResume; (repeat' split) <;> simp (maxDischargeDepth := 60) +contextual [hs]

@[simp] theorem State.coreReset_good {s : State} (hs : s.Good Q B none F C) :
    (State.coreReset s).Good Q B none F C := by
  simp (maxDischargeDepth := 60) +contextual [State.coreReset, hs]

theorem execRstCore_good {s : State} (hs : s.Good Q B none F C) :
    Answers Q B none F C (execRstCore s) := by
  simp (maxDischargeDepth := 60) +contextual [execRstCore, hs]

@[simp] theorem State.wdtExpired_good {s : State} (hs : s.Good Q B none F C) :
    (State.wdtExpired s).Good Q B none F C := by
  simp (maxDischargeDepth := 60) +contextual [State.wdtExpired, hs]

theorem execWdtExpired_good {s : State} (hs : s.Good Q B none F C) :
    Answers Q B none F C (execWdtExpired s) := by
  simp (maxDischargeDepth := 60) +contextual [execWdtExpired, hs]

end Sys2Proof.Machine
end

