-- ==== Sys2Proof/Laws/NozzleHealth.lean ====
section
/-! SUPPORT. What the operations of Machine/NozzleHealth.lean keep (Laws/Keep.lean). -/

namespace Sys2Proof.Machine

variable {Q : List Instr} {B : Nat → Nat} {M : Option (List Host.Cell)} {F : Option (List (Nat × Nat))} {C : Option Cistern}

@[simp] theorem State.thermOpen_good {s : State} {h x} (hs : s.Good Q B M F C) :
    (State.thermOpen s h x).Good Q B M F C := by
  simp (maxDischargeDepth := 60) +contextual [State.thermOpen, hs]

@[simp] theorem State.thermShort_good {s : State} {h x} (hs : s.Good Q B M F C) :
    (State.thermShort s h x).Good Q B M F C := by
  simp (maxDischargeDepth := 60) +contextual [State.thermShort, hs]

@[simp] theorem State.thermCheck_good {s : State} {h x} (hs : s.Good Q B M F C) :
    (State.thermCheck s h x).Good Q B M F C := by
  simp (maxDischargeDepth := 60) +contextual [State.thermCheck, hs]

@[simp] theorem State.loopStep_good {s : State} {h} (hs : s.Good Q B M F C) :
    (State.loopStep s h).Good Q B M F C := by
  simp (maxDischargeDepth := 60) +contextual [State.loopStep, hs]

@[simp] theorem State.cooled_good {s : State} {h} (hs : s.Good Q B M F C) :
    (State.cooled s h).Good Q B M F C := by
  simp (maxDischargeDepth := 60) +contextual [State.cooled, hs]

@[simp] theorem State.heatStep_good {s : State} {h} (hs : s.Good Q B M F C) :
    (State.heatStep s h).Good Q B M F C := by
  simp (maxDischargeDepth := 60) +contextual [State.heatStep, hs]

@[simp] theorem State.heatLoop_good {s : State} {h} (hs : s.Good Q B M F C) :
    (State.heatLoop s h).Good Q B M F C := by
  simp (maxDischargeDepth := 60) +contextual [State.heatLoop, hs]

@[simp] theorem State.latchHeat_good {s : State} {h} (hs : s.Good Q B M F C) :
    (State.latchHeat s h).Good Q B M F C := by
  simp (maxDischargeDepth := 60) +contextual [State.latchHeat, hs]

theorem execNoRise_good {h} {s : State} (hs : s.Good Q B M F C) :
    Answers Q B M F C (execNoRise h s) := by
  unfold execNoRise; (repeat' split) <;> simp (maxDischargeDepth := 60) +contextual [hs]

theorem execHtrFault_good {h} {s : State} (hs : s.Good Q B M F C) :
    Answers Q B M F C (execHtrFault h s) := by
  simp (maxDischargeDepth := 60) +contextual [execHtrFault, hs]

@[simp] theorem State.setHeat_good {s : State} {h on} (hs : s.Good Q B M F C) :
    (State.setHeat s h on).Good Q B M F C := by
  simp (maxDischargeDepth := 60) +contextual [State.setHeat, hs]

@[simp] theorem State.nhRead_good {s : State} {a x} (hs : s.Good Q B M F C) :
    (State.nhRead s a x).1.Good Q B M F C := by
  simp (maxDischargeDepth := 60) +contextual [State.nhRead, hs]

@[simp] theorem State.nhWrite_good {s : State} {a w x} (hs : s.Good Q B none F C) :
    (State.nhWrite s a w x).Good Q B none F C := by
  simp (maxDischargeDepth := 60) +contextual [State.nhWrite, hs]

@[simp] theorem State.countClass_good {s : State} {h old new} (hs : s.Good Q B M F C) :
    (State.countClass s h old new).Good Q B M F C := by
  simp (maxDischargeDepth := 60) +contextual [State.countClass, hs]

@[simp] theorem State.holdDead_good {s : State} {n} (hs : s.Good Q B M F C) :
    (State.holdDead s n).Good Q B M F C := by
  simp (maxDischargeDepth := 60) +contextual [State.holdDead, hs]

@[simp] theorem State.autoPublish_good {s : State} (hs : s.Good Q B M F C) :
    (State.autoPublish s).Good Q B M F C := by
  simp (maxDischargeDepth := 60) +contextual [State.autoPublish, hs]

@[simp] theorem State.declare_good {s : State} {h j old c force} (hs : s.Good Q B M F C) :
    (State.declare s h j old c force).Good Q B M F C := by
  simp (maxDischargeDepth := 60) +contextual [State.declare, hs]

@[simp] theorem State.syncSuspects_good {s : State} {h} (hs : s.Good Q B M F C) :
    (State.syncSuspects s h).Good Q B M F C := by
  simp (maxDischargeDepth := 60) +contextual [State.syncSuspects, hs]

@[simp] theorem State.suspect_good {s : State} {h j cnt} (hs : s.Good Q B M F C) :
    (State.suspect s h j cnt).Good Q B M F C := by
  simp (maxDischargeDepth := 60) +contextual [State.suspect, hs]

@[simp] theorem State.ringResult_good {s : State} {h k f r cls decl} (hs : s.Good Q B none F C) :
    (State.ringResult s h k f r cls decl).Good Q B none F C := by
  simp (maxDischargeDepth := 60) +contextual [State.ringResult, hs]

@[simp] theorem State.onBase_good {s : State} {h f} (hs : s.Good Q B M F C) :
    (State.onBase s h f).Good Q B M F C := by
  simp (maxDischargeDepth := 60) +contextual [State.onBase, hs]

@[simp] theorem State.baseWrite_good {s : State} {h g a cls old} (hs : s.Good Q B none F C) :
    (State.baseWrite s h g a cls old).Good Q B none F C := by
  simp (maxDischargeDepth := 60) +contextual [State.baseWrite, hs]

@[simp] theorem State.baseSample_good {s : State} {h k f cls old} (hs : s.Good Q B none F C) :
    (State.baseSample s h k f cls old).Good Q B none F C := by
  unfold State.baseSample; (repeat' split) <;> simp (maxDischargeDepth := 60) +contextual [hs]

@[simp] theorem State.senseResult_good {s : State} {h k x} (hs : s.Good Q B none F C) :
    (State.senseResult s h k x).Good Q B none F C := by
  simp (maxDischargeDepth := 60) +contextual [State.senseResult, hs]

theorem execSenseResult_good {h x} {s : State} (hs : s.Good Q B none F C) :
    Answers Q B none F C (execSenseResult h x s) := by
  unfold execSenseResult; (repeat' split) <;> simp (maxDischargeDepth := 60) +contextual [hs]

@[simp] theorem State.forceRecord_good {s : State} {v x} (hs : s.Good Q B none F C) :
    (State.forceRecord s v x).Good Q B none F C := by
  simp (maxDischargeDepth := 60) +contextual [State.forceRecord, hs]

theorem execForceClass_good {v x} {s : State} (hs : s.Good Q B none F C) :
    Answers Q B none F C (execForceClass v x s) := by
  simp (maxDischargeDepth := 60) +contextual [execForceClass, hs]

@[simp] theorem State.stateClr_good {s : State} {h} (hs : s.Good Q B none F C) :
    (State.stateClr s h).Good Q B none F C := by
  exact State.syncSuspects_good (State.onNhh_good (State.wr_good (State.wr_good (State.wr_good
    (State.when_good hs (fun _ ht => State.ramWrite_good ht))))))

theorem execStateClr_good {h} {s : State} (hs : s.Good Q B none F C) :
    Answers Q B none F C (execStateClr h s) := by
  simp (maxDischargeDepth := 60) +contextual [execStateClr, hs]

theorem execPublishReq_good {s : State} (hs : s.Good Q B M F C) :
    Answers Q B M F C (execPublishReq s) := by
  simp (maxDischargeDepth := 60) +contextual [execPublishReq, hs]

theorem execPubTmo_good {s : State} (hs : s.Good Q B M F C) :
    Answers Q B M F C (execPubTmo s) := by
  simp (maxDischargeDepth := 60) +contextual [execPubTmo, hs]

@[simp] theorem State.publishBegin_good {s : State} {x} (hs : s.Good Q B none F C) :
    (State.publishBegin s x).Good Q B none F C := by
  simp (maxDischargeDepth := 60) +contextual [State.publishBegin, hs]

@[simp] theorem State.publishEnd_good {s : State} (hs : s.Good Q B M F C) :
    (State.publishEnd s).Good Q B M F C := by
  simp (maxDischargeDepth := 60) +contextual [State.publishEnd, hs]

theorem execPublish_good {x} {s : State} (hs : s.Good Q B none F C) :
    Answers Q B none F C (execPublish x s) := by
  simp (maxDischargeDepth := 60) +contextual [execPublish, hs]

@[simp] theorem State.nhEnable_good {s : State} (hs : s.Good Q B M F C) :
    (State.nhEnable s).Good Q B M F C := by
  unfold State.nhEnable; (repeat' split) <;> simp (maxDischargeDepth := 60) +contextual [hs]

theorem execNhEnable_good {s : State} (hs : s.Good Q B M F C) :
    Answers Q B M F C (execNhEnable s) := by
  simp (maxDischargeDepth := 60) +contextual [execNhEnable, hs]

@[simp] theorem State.nhDisable_good {s : State} (hs : s.Good Q B M F C) :
    (State.nhDisable s).Good Q B M F C := by
  simp (maxDischargeDepth := 60) +contextual [State.nhDisable, hs]

@[simp] theorem State.senseEnable_good {s : State} {h} (hs : s.Good Q B M F C) :
    (State.senseEnable s h).Good Q B M F C := by
  unfold State.senseEnable; (repeat' split) <;> simp (maxDischargeDepth := 60) +contextual [hs]

theorem execSenseEn_good {h} {s : State} (hs : s.Good Q B M F C) :
    Answers Q B M F C (execSenseEn h s) := by
  simp (maxDischargeDepth := 60) +contextual [execSenseEn, hs]

end Sys2Proof.Machine
end

