-- ==== Sys2Proof/Laws/Points.lean ====
section
/-! SUPPORT. What the operations of Machine/Points.lean keep (Laws/Keep.lean). -/

namespace Sys2Proof.Machine

variable {Q : List Instr} {B : Nat → Nat} {M : Option (List Host.Cell)} {F : Option (List (Nat × Nat))} {C : Option Cistern}

@[simp] theorem State.askRebuild_good {s : State} (hs : s.Good Q B M F C) :
    (State.askRebuild s).Good Q B M F C := by
  simp (maxDischargeDepth := 60) +contextual [State.askRebuild, hs]

@[simp] theorem State.rebuildTemps_good {s : State} (hs : s.Good Q B M F C) :
    (State.rebuildTemps s).Good Q B M F C := by
  simp (maxDischargeDepth := 60) +contextual [State.rebuildTemps, hs]

@[simp] theorem State.rebuild_good {s : State} {x} (hs : s.Good Q B none F C) :
    (State.rebuild s x).Good Q B none F C := by
  simp (maxDischargeDepth := 60) +contextual [State.rebuild, hs]

theorem execRebuild_good {x} {s : State} (hs : s.Good Q B none F C) :
    Answers Q B none F C (execRebuild x s) := by
  simp (maxDischargeDepth := 60) +contextual [execRebuild, hs]

@[simp] theorem State.recalc_good {s : State} (hs : s.Good Q B M F C) :
    (State.recalc s).Good Q B M F C := by
  simp (maxDischargeDepth := 60) +contextual [State.recalc, hs]

theorem execRecalc_good {s : State} (hs : s.Good Q B M F C) :
    Answers Q B M F C (execRecalc s) := by
  simp (maxDischargeDepth := 60) +contextual [execRecalc, hs]

end Sys2Proof.Machine
end

