-- ==== Sys2Proof/Laws/Calibration.lean ====
section
/-! SUPPORT. What the operations of Machine/Calibration.lean keep (Laws/Keep.lean). -/

namespace Sys2Proof.Machine

variable {Q : List Instr} {B : Nat → Nat} {M : Option (List Host.Cell)} {F : Option (List (Nat × Nat))} {C : Option Cistern}

@[simp] theorem State.calTriggers_good {s : State} (hs : s.Good Q B M F C) :
    (State.calTriggers s).Good Q B M F C := by
  simp (maxDischargeDepth := 60) +contextual [State.calTriggers, hs]

theorem execDieTempSample_good {t0 t1 t2 t3} {s : State} (hs : s.Good Q B M F C) :
    Answers Q B M F C (execDieTempSample t0 t1 t2 t3 s) := by
  simp (maxDischargeDepth := 60) +contextual [execDieTempSample, hs]

theorem execTempMeasure_good {h x} {s : State} (hs : s.Good Q B M F C) :
    Answers Q B M F C (execTempMeasure h x s) := by
  simp (maxDischargeDepth := 60) +contextual [execTempMeasure, hs]

@[simp] theorem State.calRequest_good {s : State} {e} (hs : s.Good Q B M F C) :
    (State.calRequest s e).Good Q B M F C := by
  simp (maxDischargeDepth := 60) +contextual [State.calRequest, hs]

theorem execCalReq_good {e} {s : State} (hs : s.Good Q B M F C) :
    Answers Q B M F C (execCalReq e s) := by
  simp (maxDischargeDepth := 60) +contextual [execCalReq, hs]

@[simp] theorem State.notPending_good {s : State} {e} (hs : s.Good Q B M F C) :
    (State.notPending s e).Good Q B M F C := by
  simp (maxDischargeDepth := 60) +contextual [State.notPending, hs]

@[simp] theorem State.calDone_good {s : State} {e code qty pt t} (hs : s.Good Q B M F C) :
    (State.calDone s e code qty pt t).Good Q B M F C := by
  simp (maxDischargeDepth := 60) +contextual [State.calDone, hs]

@[simp] theorem State.calNotReady_good {s : State} {e t} (hs : s.Good Q B M F C) :
    (State.calNotReady s e t).Good Q B M F C := by
  simp (maxDischargeDepth := 60) +contextual [State.calNotReady, hs]

@[simp] theorem State.calDefer_good {s : State} {e code t} (hs : s.Good Q B M F C) :
    (State.calDefer s e code t).Good Q B M F C := by
  simp (maxDischargeDepth := 60) +contextual [State.calDefer, hs]

@[simp] theorem State.releaseLane_good {s : State} (hs : s.Good Q B M F C) :
    (State.releaseLane s).Good Q B M F C := by
  unfold State.releaseLane; (repeat' split) <;> simp (maxDischargeDepth := 60) +contextual [hs]

@[simp] theorem State.calAbortBy_good {s : State} {code} (hs : s.Good Q B M F C) :
    (State.calAbortBy s code).Good Q B M F C := by
  unfold State.calAbortBy; (repeat' split) <;> simp (maxDischargeDepth := 60) +contextual [hs]

theorem execCtlAbort_good {s : State} (hs : s.Good Q B M F C) :
    Answers Q B M F C (execCtlAbort s) := by
  simp (maxDischargeDepth := 60) +contextual [execCtlAbort, hs]

theorem execRetryTmo_good {e} {s : State} (hs : s.Good Q B M F C) :
    Answers Q B M F C (execRetryTmo e s) := by
  simp (maxDischargeDepth := 60) +contextual [execRetryTmo, hs]

@[simp] theorem State.beginElem_good {s : State} {e} (hs : s.Good Q B M F C) :
    (State.beginElem s e).Good Q B M F C := by
  simp (maxDischargeDepth := 60) +contextual [State.beginElem, hs]

@[simp] theorem State.takeLane_good {s : State} {e t holds} (hs : s.Good Q B M F C) :
    (State.takeLane s e t holds).Good Q B M F C := by
  simp (maxDischargeDepth := 60) +contextual [State.takeLane, hs]

@[simp] theorem State.holdChannel_good {s : State} (hs : s.Good Q B M F C) :
    (State.holdChannel s).Good Q B M F C := by
  unfold State.holdChannel; (repeat' split) <;> simp (maxDischargeDepth := 60) +contextual [hs]

@[simp] theorem State.startChannelRun_good {s : State} {c} (hs : s.Good Q B M F C) :
    (State.startChannelRun s c).Good Q B M F C := by
  simp (maxDischargeDepth := 60) +contextual [State.startChannelRun, hs]

theorem execChannelRun_good {s : State} (hs : s.Good Q B M F C) :
    Answers Q B M F C (execChannelRun s) := by
  unfold execChannelRun; (repeat' split) <;> simp (maxDischargeDepth := 60) +contextual [hs]

theorem execDelayPathRun_good {s : State} (hs : s.Good Q B M F C) :
    Answers Q B M F C (execDelayPathRun s) := by
  unfold execDelayPathRun; (repeat' split) <;> simp (maxDischargeDepth := 60) +contextual [hs]

theorem execEncoderRun_good {s : State} (hs : s.Good Q B M F C) :
    Answers Q B M F C (execEncoderRun s) := by
  unfold execEncoderRun; (repeat' split) <;> simp (maxDischargeDepth := 60) +contextual [hs]

theorem execEncTmo_good {s : State} (hs : s.Good Q B M F C) :
    Answers Q B M F C (execEncTmo s) := by
  unfold execEncTmo; (repeat' split) <;> simp (maxDischargeDepth := 60) +contextual [hs]

@[simp] theorem State.writePoint_good {s : State} {e k p} (hs : s.Good Q B none F C) :
    (State.writePoint s e k p).Good Q B none F C := by
  simp (maxDischargeDepth := 60) +contextual [State.writePoint, hs]

@[simp] theorem State.lanePass_good {s : State} {e k t p} (hs : s.Good Q B none F C) :
    (State.lanePass s e k t p).Good Q B none F C := by
  simp (maxDischargeDepth := 60) +contextual [State.lanePass, hs]

@[simp] theorem State.laneFail_good {s : State} {e code qty t} (hs : s.Good Q B M F C) :
    (State.laneFail s e code qty t).Good Q B M F C := by
  simp (maxDischargeDepth := 60) +contextual [State.laneFail, hs]

@[simp] theorem State.endChannelRun_good {s : State} {c t d} (hs : s.Good Q B none F C) :
    (State.endChannelRun s c t d).Good Q B none F C := by
  simp only [State.endChannelRun]; (repeat' split) <;> simp (maxDischargeDepth := 60) +contextual [hs]

@[simp] theorem State.endDelayRun_good {s : State} {e t d} (hs : s.Good Q B none F C) :
    (State.endDelayRun s e t d).Good Q B none F C := by
  unfold State.endDelayRun; (repeat' split) <;> simp (maxDischargeDepth := 60) +contextual [hs]

@[simp] theorem State.endEncoderRun_good {s : State} {e edges} (hs : s.Good Q B none F C) :
    (State.endEncoderRun s e edges).Good Q B none F C := by
  simp (maxDischargeDepth := 60) +contextual [State.endEncoderRun, hs]

@[simp] theorem State.syncHeadLane_good {s : State} (hs : s.Good Q B M F C) :
    (State.syncHeadLane s).Good Q B M F C := by
  simp (maxDischargeDepth := 60) +contextual [State.syncHeadLane, hs]

theorem execBaselineRun_good {h} {s : State} (hs : s.Good Q B M F C) :
    Answers Q B M F C (execBaselineRun h s) := by
  simp (maxDischargeDepth := 60) +contextual [execBaselineRun, hs]

@[simp] theorem State.endBaseRun_good {s : State} {b} (hs : s.Good Q B M F C) :
    (State.endBaseRun s b).Good Q B M F C := by
  simp (maxDischargeDepth := 60) +contextual [State.endBaseRun, hs]

@[simp] theorem State.railHead_good {s : State} {x spare h} (hs : s.Good Q B none F C) :
    (State.railHead s x spare h).Good Q B none F C := by
  simp (maxDischargeDepth := 60) +contextual [State.railHead, hs]

theorem execRailRun_good {x} {s : State} (hs : s.Good Q B none F C) :
    Answers Q B none F C (execRailRun x s) := by
  simp (maxDischargeDepth := 60) +contextual [execRailRun, hs]

theorem execRunComplete_good {e d} {s : State} (hs : s.Good Q B none F C) :
    Answers Q B none F C (execRunComplete e d s) := by
  unfold execRunComplete; (repeat' split) <;> simp (maxDischargeDepth := 60) +contextual [hs]

@[simp] theorem State.calEnable_good {s : State} (hs : s.Good Q B M F C) :
    (State.calEnable s).Good Q B M F C := by
  simp (maxDischargeDepth := 60) +contextual [State.calEnable, hs]

@[simp] theorem State.calDisable_good {s : State} (hs : s.Good Q B M F C) :
    (State.calDisable s).Good Q B M F C := by
  simp (maxDischargeDepth := 60) +contextual [State.calDisable, hs]

end Sys2Proof.Machine
end

