-- ==== Sys2Proof/Laws/CalRecord.lean ====
section
/-! SUPPORT. What the operations of Machine/CalRecord.lean keep (Laws/Keep.lean). -/

namespace Sys2Proof.Machine

variable {Q : List Instr} {B : Nat → Nat} {M : Option (List Host.Cell)} {F : Option (List (Nat × Nat))} {C : Option Cistern}

@[simp] theorem State.recordBody_good {s : State} {x} (hs : s.Good Q B M F C) :
    (State.recordBody s x).1.Good Q B M F C := by
  simp (maxDischargeDepth := 60) +contextual [State.recordBody, hs]

@[simp] theorem State.recordOut_good {s : State} {x} (hs : s.Good Q B none F C) :
    (State.recordOut s x).Good Q B none F C := by
  simp (maxDischargeDepth := 60) +contextual [State.recordOut, hs]

@[simp] theorem State.calExport_good {s : State} {x} (hs : s.Good Q B none F C) :
    (State.calExport s x).Good Q B none F C := by
  simp (maxDischargeDepth := 60) +contextual [State.calExport, hs]

@[simp] theorem State.exportEnd_good {s : State} (hs : s.Good Q B none F C) :
    (State.exportEnd s).Good Q B none F C := by
  simp (maxDischargeDepth := 60) +contextual [State.exportEnd, hs]

theorem execCalExport_good {x} {s : State} (hs : s.Good Q B none F C) :
    Answers Q B none F C (execCalExport x s) := by
  simp (maxDischargeDepth := 60) +contextual [execCalExport, hs]

@[simp] theorem State.importRead_good {s : State} {x} (hs : s.Good Q B none F C) :
    (State.importRead s x).1.Good Q B none F C := by
  simp (maxDischargeDepth := 60) +contextual [State.importRead, hs]

@[simp] theorem State.importRefuse_good {s : State} {code} (hs : s.Good Q B none F C) :
    (State.importRefuse s code).Good Q B none F C := by
  simp (maxDischargeDepth := 60) +contextual [State.importRefuse, hs]

@[simp] theorem State.importTake_good {s : State} {w l x} (hs : s.Good Q B none F C) :
    (State.importTake s w l x).Good Q B none F C := by
  simp only [State.importTake]; (repeat' split) <;> simp (maxDischargeDepth := 60) +contextual [hs]

@[simp] theorem State.calImport_good {s : State} {x} (hs : s.Good Q B none F C) :
    (State.calImport s x).Good Q B none F C := by
  simp only [State.calImport]; (repeat' split) <;> simp (maxDischargeDepth := 60) +contextual [hs]

theorem execCalImport_good {x} {s : State} (hs : s.Good Q B none F C) :
    Answers Q B none F C (execCalImport x s) := by
  simp (maxDischargeDepth := 60) +contextual [execCalImport, hs]

end Sys2Proof.Machine
end

