-- ==== Sys2Proof/Laws/Mailbox.lean ====
section
/-! SUPPORT. What the operations of Machine/Mailbox.lean keep (Laws/Keep.lean). -/

namespace Sys2Proof.Machine

variable {Q : List Instr} {B : Nat → Nat} {M : Option (List Host.Cell)} {F : Option (List (Nat × Nat))} {C : Option Cistern}

@[simp] theorem State.weirRespond_good {s : State} {c tag result body} (hs : s.Good Q B M F C) :
    (State.weirRespond s c tag result body).Good Q B M F C := by
  simp (maxDischargeDepth := 60) +contextual [State.weirRespond, hs]

@[simp] theorem State.weirDoorbell_good {s : State} {c tag} (hs : s.Good Q B M F C) :
    (State.weirDoorbell s c tag).Good Q B M F C := by
  simp only [State.weirDoorbell]; (repeat' split) <;> simp (maxDischargeDepth := 60) +contextual [hs]

@[simp] theorem State.weirServe_good {s : State} {c cmd rom firmware} {f : State → List Word → Prod State (Prod Nat (List Word))} (hs : s.Good Q B M F C) (hf2 : ∀ t y1, t.Good Q B M F C → (f t y1).1.Good Q B M F C) :
    (State.weirServe s c cmd rom firmware f).Good Q B M F C := by
  unfold State.weirServe; (repeat' split) <;> simp (maxDischargeDepth := 60) +contextual [hs, hf2]

theorem execGetId_good {c} {s : State} (hs : s.Good Q B M F C) :
    Answers Q B M F C (execGetId c s) := by
  simp (maxDischargeDepth := 60) +contextual [execGetId, hs]

theorem execGetStatus_good {c} {s : State} (hs : s.Good Q B M F C) :
    Answers Q B M F C (execGetStatus c s) := by
  simp (maxDischargeDepth := 60) +contextual [execGetStatus, hs]

theorem execReadTotals_good {c} {s : State} (hs : s.Good Q B M F none) :
    Answers Q B M F none (execReadTotals c s) := by
  refine answers_next (State.weirServe_good hs (fun t l ht => ?_))
  (repeat' (first | split | dsimp only)) <;> simp (maxDischargeDepth := 60) +contextual [ht]

theorem execReadEvent_good {c} {s : State} (hs : s.Good Q B M F C) :
    Answers Q B M F C (execReadEvent c s) := by
  refine answers_next (State.weirServe_good hs (fun t l ht => ?_))
  (repeat' (first | split | dsimp only)) <;> simp (maxDischargeDepth := 60) +contextual [ht]

theorem execReadParams_good {c} {s : State} (hs : s.Good Q B M F C) :
    Answers Q B M F C (execReadParams c s) := by
  refine answers_next (State.weirServe_good hs (fun t l ht => ?_))
  (repeat' (first | split | dsimp only)) <;> simp (maxDischargeDepth := 60) +contextual [ht]

theorem execLoadBegin_good {c} {s : State} (hs : s.Good Q B M F C) :
    Answers Q B M F C (execLoadBegin c s) := by
  simp (maxDischargeDepth := 60) +contextual [execLoadBegin, hs]

theorem execLoadChunk_good {c} {s : State} (hs : s.Good Q B M F C) :
    Answers Q B M F C (execLoadChunk c s) := by
  refine answers_next (State.weirServe_good hs (fun t l ht => ?_))
  (repeat' (first | split | dsimp only)) <;> simp (maxDischargeDepth := 60) +contextual [ht]

theorem execLoadEnd_good {c} {s : State} (hs : s.Good Q B M F C) :
    Answers Q B M F C (execLoadEnd c s) := by
  refine answers_next (State.weirServe_good hs (fun t l ht => ?_))
  (repeat' (first | split | dsimp only)) <;> simp (maxDischargeDepth := 60) +contextual [ht]

theorem execChallenge_good {c} {s : State} (hs : s.Good Q B M F C) :
    Answers Q B M F C (execChallenge c s) := by
  simp (maxDischargeDepth := 60) +contextual [execChallenge, hs]

theorem execParamLoad_good {c} {s : State} (hs : s.Good Q B M F none) :
    Answers Q B M F none (execParamLoad c s) := by
  refine answers_next (State.weirServe_good hs (fun t l ht => ?_))
  (repeat' (first | split | dsimp only)) <;> simp (maxDischargeDepth := 60) +contextual [ht]

@[simp] theorem setParamsAct_good {p} {s : State} (hs : s.Good Q B M F none) : (setParamsAct p s).Good Q B M F none := by
  simp only [setParamsAct]; split <;> simp (maxDischargeDepth := 60) +contextual [hs]

theorem execSetParams_good {c burn} {s : State} (hs : s.Good Q B M none none) :
    Answers Q B M none none (execSetParams c burn s) := by
  simp (maxDischargeDepth := 60) +contextual [execSetParams, hs]

theorem execSealWeir_good {c held burn} {s : State} (hs : s.Good Q B M none none) :
    Answers Q B M none none (execSealWeir c held burn s) := by
  simp (maxDischargeDepth := 60) +contextual [execSealWeir, hs]

theorem execAddFw_good {c burn slot} {s : State} (hs : s.Good Q B M none none) :
    Answers Q B M none none (execAddFw c burn slot s) := by
  simp (maxDischargeDepth := 60) +contextual [execAddFw, hs]

end Sys2Proof.Machine
end

