-- ==== Sys2Proof/Laws/Management.lean ====
section
/-! SUPPORT. What the operations of Machine/Management.lean keep (Laws/Keep.lean). -/

namespace Sys2Proof.Machine

variable {Q : List Instr} {B : Nat → Nat} {M : Option (List Host.Cell)} {F : Option (List (Nat × Nat))} {C : Option Cistern}

@[simp] theorem State.writeBack_good {s : State} {l} (hs : s.Good Q B none F C) :
    (State.writeBack s l).Good Q B none F C := by
  simp (maxDischargeDepth := 60) +contextual [State.writeBack, hs]

@[simp] theorem State.cleanLine_good {s : State} {a} (hs : s.Good Q B none F C) :
    (State.cleanLine s a).Good Q B none F C := by
  unfold State.cleanLine; (repeat' split) <;> simp (maxDischargeDepth := 60) +contextual [hs]

@[simp] theorem State.dropCached_good {s : State} {a} (hs : s.Good Q B M F C) :
    (State.dropCached s a).Good Q B M F C := by
  simp (maxDischargeDepth := 60) +contextual [State.dropCached, hs]

theorem execMcclean_good {a} {s : State} (hs : s.Good Q B none F C) :
    Answers Q B none F C (execMcclean a s) := by
  simp (maxDischargeDepth := 60) +contextual [execMcclean, hs]

theorem execMcinval_good {a} {s : State} (hs : s.Good Q B M F C) :
    Answers Q B M F C (execMcinval a s) := by
  simp (maxDischargeDepth := 60) +contextual [execMcinval, hs]

theorem execMcflush_good {a} {s : State} (hs : s.Good Q B none F C) :
    Answers Q B none F C (execMcflush a s) := by
  simp (maxDischargeDepth := 60) +contextual [execMcflush, hs]

theorem execMcall_good {v} {s : State} (hs : s.Good Q B none F C) :
    Answers Q B none F C (execMcall v s) := by
  simp (maxDischargeDepth := 60) +contextual [execMcall, hs]

theorem execMachineTimer_good {s : State} (hs : s.Good Q B M F C) :
    Answers Q B M F C (execMachineTimer s) := by
  simp (maxDischargeDepth := 60) +contextual [execMachineTimer, hs]

@[simp] theorem State.wdtKick_good {s : State} {v} (hs : s.Good Q B M F C) :
    (State.wdtKick s v).Good Q B M F C := by
  simp (maxDischargeDepth := 60) +contextual [State.wdtKick, hs]

theorem execWdtKick_good {v} {s : State} (hs : s.Good Q B M F C) :
    Answers Q B M F C (execWdtKick v s) := by
  simp (maxDischargeDepth := 60) +contextual [execWdtKick, hs]

theorem execWdtWarn_good {s : State} (hs : s.Good Q B M F C) :
    Answers Q B M F C (execWdtWarn s) := by
  simp (maxDischargeDepth := 60) +contextual [execWdtWarn, hs]

theorem execJlogRead_good {s : State} (hs : s.Good Q B M F C) :
    Answers Q B M F C (execJlogRead s) := by
  simp (maxDischargeDepth := 60) +contextual [execJlogRead, hs]

theorem execLoadWindow_good {busy} {s : State} (hs : s.Good Q B M F C) :
    Answers Q B M F C (execLoadWindow busy s) := by
  simp (maxDischargeDepth := 60) +contextual [execLoadWindow, hs]

@[simp] theorem State.evqPop_good {s : State} (hs : s.Good Q B M F C) :
    (State.evqPop s).Good Q B M F C := by
  simp (maxDischargeDepth := 60) +contextual [State.evqPop, hs]

theorem execEvqPop_good {s : State} (hs : s.Good Q B M F C) :
    Answers Q B M F C (execEvqPop s) := by
  simp (maxDischargeDepth := 60) +contextual [execEvqPop, hs]

@[simp] theorem State.recClear_good {s : State} {q} (hs : s.Good Q B M F C) :
    (State.recClear s q).Good Q B M F C := by
  simp (maxDischargeDepth := 60) +contextual [State.recClear, hs]

theorem execRecClear_good {q} {s : State} (hs : s.Good Q B M F C) :
    Answers Q B M F C (execRecClear q s) := by
  simp (maxDischargeDepth := 60) +contextual [execRecClear, hs]

@[simp] theorem State.fwReport_good {s : State} {v} (hs : s.Good Q B M F C) :
    (State.fwReport s v).Good Q B M F C := by
  simp (maxDischargeDepth := 60) +contextual [State.fwReport, hs]

theorem execFwReport_good {v} {s : State} (hs : s.Good Q B M F C) :
    Answers Q B M F C (execFwReport v s) := by
  simp (maxDischargeDepth := 60) +contextual [execFwReport, hs]

@[simp] theorem State.endSump_good {s : State} {fw tmo} (hs : s.Good Q B none F C) :
    (State.endSump s fw tmo).Good Q B none F C := by
  simp (maxDischargeDepth := 60) +contextual [State.endSump, hs]

theorem execSumpHwDone_good {s : State} (hs : s.Good Q B none F C) :
    Answers Q B none F C (execSumpHwDone s) := by
  simp (maxDischargeDepth := 60) +contextual [execSumpHwDone, hs]

@[simp] theorem State.sumpDone_good {s : State} (hs : s.Good Q B none F C) :
    (State.sumpDone s).Good Q B none F C := by
  simp (maxDischargeDepth := 60) +contextual [State.sumpDone, hs]

theorem execSumpDone_good {s : State} (hs : s.Good Q B none F C) :
    Answers Q B none F C (execSumpDone s) := by
  simp (maxDischargeDepth := 60) +contextual [execSumpDone, hs]

theorem execSumpTmo_good {s : State} (hs : s.Good Q B none F C) :
    Answers Q B none F C (execSumpTmo s) := by
  simp (maxDischargeDepth := 60) +contextual [execSumpTmo, hs]

@[simp] theorem State.nmiRearm_good {s : State} (hs : s.Good Q B M F C) :
    (State.nmiRearm s).Good Q B M F C := by
  simp (maxDischargeDepth := 60) +contextual [State.nmiRearm, hs]

theorem execNmiRearm_good {s : State} (hs : s.Good Q B M F C) :
    Answers Q B M F C (execNmiRearm s) := by
  simp (maxDischargeDepth := 60) +contextual [execNmiRearm, hs]

end Sys2Proof.Machine
end

