-- ==== Sys2Proof/Laws/Streams.lean ====
section
/-! SUPPORT. What the operations of Machine/Streams.lean keep (Laws/Keep.lean). -/

namespace Sys2Proof.Machine

variable {Q : List Instr} {B : Nat → Nat} {M : Option (List Host.Cell)} {F : Option (List (Nat × Nat))} {C : Option Cistern}

@[simp] theorem State.onSctx_good {s : State} {r f} (hs : s.Good Q B M F C) :
    (State.onSctx s r f).Good Q B M F C := by
  simp (maxDischargeDepth := 60) +contextual [State.onSctx, hs]

@[simp] theorem State.consumeEntry_good {s : State} {r} (hs : s.Good Q B M F C) :
    (State.consumeEntry s r).Good Q B M F C := by
  simp (maxDischargeDepth := 60) +contextual [State.consumeEntry, hs]

@[simp] theorem State.haltStream_good {s : State} {r} (hs : s.Good Q B M F C) :
    (State.haltStream s r).Good Q B M F C := by
  simp (maxDischargeDepth := 60) +contextual [State.haltStream, hs]

@[simp] theorem State.deliverHere_good {s : State} {r} (hs : s.Good Q B M F C) :
    (State.deliverHere s r).Good Q B M F C := by
  simp (maxDischargeDepth := 60) +contextual [State.deliverHere, hs]

@[simp] theorem State.lineWritten_good {s : State} {r} (hs : s.Good Q B M F C) :
    (State.lineWritten s r).Good Q B M F C := by
  simp (maxDischargeDepth := 60) +contextual [State.lineWritten, hs]

@[simp] theorem State.writeLine_good {s : State} {r l} (hs : s.Good Q B none F C) :
    (State.writeLine s r l).Good Q B none F C := by
  simp (maxDischargeDepth := 60) +contextual [State.writeLine, hs]

@[simp] theorem State.beginEntry_good {s : State} {r} (hs : s.Good Q B M F C) :
    (State.beginEntry s r).Good Q B M F C := by
  simp (maxDischargeDepth := 60) +contextual [State.beginEntry, hs]

@[simp] theorem State.moveLines_good {s : State} {r pay bad a_} (hs : s.Good Q B none F C) :
    (State.moveLines s r pay bad a_).Good Q B none F C := by
  revert hs; fun_induction State.moveLines s r pay bad a_ <;> intros <;> simp_all (maxDischargeDepth := 60) +contextual

@[simp] theorem State.runEntry_good {s : State} {r pay} (hs : s.Good Q B none F C) :
    (State.runEntry s r pay).Good Q B none F C := by
  simp (maxDischargeDepth := 60) +contextual [State.runEntry, hs]

@[simp] theorem State.takeEntry_good {s : State} {r e} (hs : s.Good Q B M F C) :
    (State.takeEntry s r e).Good Q B M F C := by
  simp (maxDischargeDepth := 60) +contextual [State.takeEntry, hs]

theorem execStreamEntry_good {r x pay} {s : State} (hs : s.Good Q B none F C) :
    Answers Q B none F C (execStreamEntry r x pay s) := by
  simp (maxDischargeDepth := 60) +contextual [execStreamEntry, hs]

theorem execStreamPoll_good {r} {s : State} (hs : s.Good Q B M F C) :
    Answers Q B M F C (execStreamPoll r s) := by
  simp (maxDischargeDepth := 60) +contextual [execStreamPoll, hs]

@[simp] theorem State.streamTxn_good {s : State} {r status data} (hs : s.Good Q B M F C) :
    (State.streamTxn s r status data).Good Q B M F C := by
  simp (maxDischargeDepth := 60) +contextual [State.streamTxn, hs]

@[simp] theorem State.sctxEnable_good {s : State} {r} (hs : s.Good Q B M F C) :
    (State.sctxEnable s r).Good Q B M F C := by
  simp only [State.sctxEnable]; (repeat' split) <;> simp (maxDischargeDepth := 60) +contextual [hs]

@[simp] theorem State.sctxDisable_good {s : State} {r} (hs : s.Good Q B M F C) :
    (State.sctxDisable s r).Good Q B M F C := by
  simp (maxDischargeDepth := 60) +contextual [State.sctxDisable, hs]

@[simp] theorem State.recordTaken_good {s : State} {t} (hs : s.Good Q B M F C) :
    (State.recordTaken s t).Good Q B M F C := by
  unfold State.recordTaken; (repeat' split) <;> simp (maxDischargeDepth := 60) +contextual [hs]

@[simp] theorem State.hostTxn_good {s : State} {t status data} (hs : s.Good Q B M F C) :
    (State.hostTxn s t status data).Good Q B M F C := by
  unfold State.hostTxn; (repeat' split) <;> simp (maxDischargeDepth := 60) +contextual [hs]

end Sys2Proof.Machine
end

