-- ==== Sys2Proof/Laws/Power.lean ====
section
/-! SUPPORT. What the operations of Machine/Power.lean keep (Laws/Keep.lean). -/

namespace Sys2Proof.Machine

variable {Q : List Instr} {B : Nat → Nat} {M : Option (List Host.Cell)} {F : Option (List (Nat × Nat))} {C : Option Cistern}

@[simp] theorem State.onPmu_good {s : State} {f} (hs : s.Good Q B M F C) :
    (State.onPmu s f).Good Q B M F C := by
  simp (maxDischargeDepth := 60) +contextual [State.onPmu, hs]

@[simp] theorem State.startWaiting_good {s : State} {code} (hs : s.Good Q B M F C) :
    (State.startWaiting s code).Good Q B M F C := by
  simp (maxDischargeDepth := 60) +contextual [State.startWaiting, hs]

@[simp] theorem State.pllLock_good {s : State} {p} (hs : s.Good Q B M F C) :
    (State.pllLock s p).Good Q B M F C := by
  simp (maxDischargeDepth := 60) +contextual [State.pllLock, hs]

theorem execPllLock_good {p} {s : State} (hs : s.Good Q B M F C) :
    Answers Q B M F C (execPllLock p s) := by
  simp (maxDischargeDepth := 60) +contextual [execPllLock, hs]

theorem execPllFail_good {p} {s : State} (hs : s.Good Q B M F C) :
    Answers Q B M F C (execPllFail p s) := by
  simp (maxDischargeDepth := 60) +contextual [execPllFail, hs]

@[simp] theorem State.toFlow_good {s : State} (hs : s.Good Q B M F C) :
    (State.toFlow s).Good Q B M F C := by
  simp (maxDischargeDepth := 60) +contextual [State.toFlow, hs]

@[simp] theorem State.abandon_good {s : State} (hs : s.Good Q B M F C) :
    (State.abandon s).Good Q B M F C := by
  simp (maxDischargeDepth := 60) +contextual [State.abandon, hs]

@[simp] theorem State.weirXtal_good {s : State} {stopped} (hs : s.Good Q B M F none) :
    (State.weirXtal s stopped).Good Q B M F none := by
  simp (maxDischargeDepth := 60) +contextual [State.weirXtal, hs]

/-- A crystal that runs again marks nothing in the cistern. -/
@[simp] theorem State.weirXtal_false_good {s : State} (hs : s.Good Q B M F C) : (State.weirXtal s false).Good Q B M F C := by
  have h : ∀ t : State, ∀ f, t.when false f = t := fun _ _ => rfl
  simp only [State.weirXtal, Bool.and_false, h]
  exact State.when_good (State.onWeir_good hs (fun _ => rfl)) (fun _ h => State.syncWeir_good h)

theorem execXtalFail_good {why} {s : State} (hs : s.Good Q B M F none) :
    Answers Q B M F none (execXtalFail why s) := by
  simp (maxDischargeDepth := 60) +contextual [execXtalFail, hs]

theorem execXtalRestore_good {s : State} (hs : s.Good Q B M F C) :
    Answers Q B M F C (execXtalRestore s) := by
  simp (maxDischargeDepth := 60) +contextual [execXtalRestore, hs]

theorem execX32Loss_good {s : State} (hs : s.Good Q B M F C) :
    Answers Q B M F C (execX32Loss s) := by
  simp (maxDischargeDepth := 60) +contextual [execX32Loss, hs]

@[simp] theorem State.stateReq_good {s : State} {target} (hs : s.Good Q B M F C) :
    (State.stateReq s target).Good Q B M F C := by
  unfold State.stateReq; (repeat' split) <;> simp (maxDischargeDepth := 60) +contextual [hs]

theorem execStateReqStill_good {s : State} (hs : s.Good Q B M F C) :
    Answers Q B M F C (execStateReqStill s) := by
  simp (maxDischargeDepth := 60) +contextual [execStateReqStill, hs]

theorem execStateReqLow_good {l1} {s : State} (hs : s.Good Q B M F C) :
    Answers Q B M F C (execStateReqLow l1 s) := by
  simp (maxDischargeDepth := 60) +contextual [execStateReqLow, hs]

theorem execStateReqDry_good {s : State} (hs : s.Good Q B M F C) :
    Answers Q B M F C (execStateReqDry s) := by
  simp (maxDischargeDepth := 60) +contextual [execStateReqDry, hs]

@[simp] theorem State.enterLow_good {s : State} (hs : s.Good Q B M F C) :
    (State.enterLow s).Good Q B M F C := by
  simp (maxDischargeDepth := 60) +contextual [State.enterLow, hs]

@[simp] theorem State.enterDry_good {s : State} (hs : s.Good Q B none none C) :
    (State.enterDry s).Good Q B none none C := by
  simp (maxDischargeDepth := 60) +contextual [State.enterDry, hs]

theorem execStateEntry_good {s : State} (hs : s.Good Q B none none C) :
    Answers Q B none none C (execStateEntry s) := by
  unfold execStateEntry; (repeat' split) <;> simp (maxDischargeDepth := 60) +contextual [hs]

@[simp] theorem State.noteWake_good {s : State} {src} (hs : s.Good Q B M F C) :
    (State.noteWake s src).Good Q B M F C := by
  simp (maxDischargeDepth := 60) +contextual [State.noteWake, hs]

@[simp] theorem State.leaveLow_good {s : State} {cycles} (hs : s.Good Q B M F C) :
    (State.leaveLow s cycles).Good Q B M F C := by
  simp (maxDischargeDepth := 60) +contextual [State.leaveLow, hs]

theorem execWake_good {src cycles} {s : State} (hs : s.Good Q B M F C) :
    Answers Q B M F C (execWake src cycles s) := by
  simp (maxDischargeDepth := 60) +contextual [execWake, hs]

theorem execDryWake_good {s : State} (hs : s.Good Q B M F C) :
    Answers Q B M F C (execDryWake s) := by
  simp (maxDischargeDepth := 60) +contextual [execDryWake, hs]

theorem execTamper_good {s : State} (hs : s.Good Q B M F none) :
    Answers Q B M F none (execTamper s) := by
  simp (maxDischargeDepth := 60) +contextual [execTamper, hs]

@[simp] theorem State.tamperClr_good {s : State} (hs : s.Good Q B M F C) :
    (State.tamperClr s).Good Q B M F C := by
  simp (maxDischargeDepth := 60) +contextual [State.tamperClr, hs]

theorem execTamperClr_good {low} {s : State} (hs : s.Good Q B M F C) :
    Answers Q B M F C (execTamperClr low s) := by
  simp (maxDischargeDepth := 60) +contextual [execTamperClr, hs]

@[simp] theorem State.hvEnable_good {s : State} {g} (hs : s.Good Q B M F C) :
    (State.hvEnable s g).Good Q B M F C := by
  simp (maxDischargeDepth := 60) +contextual [State.hvEnable, hs]

theorem execHvEnable_good {g} {s : State} (hs : s.Good Q B M F C) :
    Answers Q B M F C (execHvEnable g s) := by
  simp (maxDischargeDepth := 60) +contextual [execHvEnable, hs]

@[simp] theorem State.hvMeas_good {s : State} {g v i} (hs : s.Good Q B M F C) :
    (State.hvMeas s g v i).Good Q B M F C := by
  simp (maxDischargeDepth := 60) +contextual [State.hvMeas, hs]

@[simp] theorem State.hvRetarget_good {s : State} {g old} (hs : s.Good Q B M F C) :
    (State.hvRetarget s g old).Good Q B M F C := by
  simp (maxDischargeDepth := 60) +contextual [State.hvRetarget, hs]

theorem execPgood_good {g v i} {s : State} (hs : s.Good Q B M F C) :
    Answers Q B M F C (execPgood g v i s) := by
  simp (maxDischargeDepth := 60) +contextual [execPgood, hs]

@[simp] theorem State.hvFault_good {s : State} {g cause v i q} (hs : s.Good Q B M F C) :
    (State.hvFault s g cause v i q).Good Q B M F C := by
  simp (maxDischargeDepth := 60) +contextual [State.hvFault, hs]

theorem execHvOv_good {g v i} {s : State} (hs : s.Good Q B M F C) :
    Answers Q B M F C (execHvOv g v i s) := by
  simp (maxDischargeDepth := 60) +contextual [execHvOv, hs]

theorem execHvUv_good {g v i} {s : State} (hs : s.Good Q B M F C) :
    Answers Q B M F C (execHvUv g v i s) := by
  simp (maxDischargeDepth := 60) +contextual [execHvUv, hs]

theorem execHvOc_good {g v i} {s : State} (hs : s.Good Q B M F C) :
    Answers Q B M F C (execHvOc g v i s) := by
  simp (maxDischargeDepth := 60) +contextual [execHvOc, hs]

@[simp] theorem State.hvDisable_good {s : State} {g} (hs : s.Good Q B M F C) :
    (State.hvDisable s g).Good Q B M F C := by
  simp (maxDischargeDepth := 60) +contextual [State.hvDisable, hs]

theorem execHvDisable_good {g} {s : State} (hs : s.Good Q B M F C) :
    Answers Q B M F C (execHvDisable g s) := by
  simp (maxDischargeDepth := 60) +contextual [execHvDisable, hs]

@[simp] theorem State.pmbErr_good {s : State} {k why} (hs : s.Good Q B M F C) :
    (State.pmbErr s k why).Good Q B M F C := by
  simp (maxDischargeDepth := 60) +contextual [State.pmbErr, hs]

@[simp] theorem State.pmbEnd_good {s : State} {k err} (hs : s.Good Q B M F C) :
    (State.pmbEnd s k err).Good Q B M F C := by
  unfold State.pmbEnd; (repeat' split) <;> simp (maxDischargeDepth := 60) +contextual [hs]

@[simp] theorem State.pmbRun_good {s : State} {j} (hs : s.Good Q B M F C) :
    (State.pmbRun s j).Good Q B M F C := by
  simp (maxDischargeDepth := 60) +contextual [State.pmbRun, hs]

@[simp] theorem State.pollEnd_good {s : State} (hs : s.Good Q B M F C) :
    (State.pollEnd s).Good Q B M F C := by
  unfold State.pollEnd; (repeat' split) <;> simp (maxDischargeDepth := 60) +contextual [hs]

theorem execPmbusPoll_good {k st vout err} {s : State} (hs : s.Good Q B M F C) :
    Answers Q B M F C (execPmbusPoll k st vout err s) := by
  unfold execPmbusPoll; (repeat' split) <;> simp (maxDischargeDepth := 60) +contextual [hs]

@[simp] theorem State.pmbStart_good {s : State} {err data} (hs : s.Good Q B M F C) :
    (State.pmbStart s err data).Good Q B M F C := by
  simp (maxDischargeDepth := 60) +contextual [State.pmbStart, hs]

@[simp] theorem State.pmbXfer_good {s : State} {kind k cmd} (hs : s.Good Q B M F C) :
    (State.pmbXfer s kind k cmd).Good Q B M F C := by
  simp (maxDischargeDepth := 60) +contextual [State.pmbXfer, hs]

theorem execSendByte_good {k cmd err} {s : State} (hs : s.Good Q B M F C) :
    Answers Q B M F C (execSendByte k cmd err s) := by
  simp (maxDischargeDepth := 60) +contextual [execSendByte, hs]

theorem execWriteByte_good {k cmd err} {s : State} (hs : s.Good Q B M F C) :
    Answers Q B M F C (execWriteByte k cmd err s) := by
  simp (maxDischargeDepth := 60) +contextual [execWriteByte, hs]

theorem execWriteWord_good {k cmd err} {s : State} (hs : s.Good Q B M F C) :
    Answers Q B M F C (execWriteWord k cmd err s) := by
  simp (maxDischargeDepth := 60) +contextual [execWriteWord, hs]

theorem execReadByte_good {k cmd err data} {s : State} (hs : s.Good Q B M F C) :
    Answers Q B M F C (execReadByte k cmd err data s) := by
  simp (maxDischargeDepth := 60) +contextual [execReadByte, hs]

theorem execReadWord_good {k cmd err data} {s : State} (hs : s.Good Q B M F C) :
    Answers Q B M F C (execReadWord k cmd err data s) := by
  simp (maxDischargeDepth := 60) +contextual [execReadWord, hs]

theorem execPmbusTimeout_good {s : State} (hs : s.Good Q B M F C) :
    Answers Q B M F C (execPmbusTimeout s) := by
  unfold execPmbusTimeout; (repeat' split) <;> simp (maxDischargeDepth := 60) +contextual [hs]

theorem execVbatCheck_good {mv} {s : State} (hs : s.Good Q B M F C) :
    Answers Q B M F C (execVbatCheck mv s) := by
  simp (maxDischargeDepth := 60) +contextual [execVbatCheck, hs]

theorem execPowerOn_good {pin e} {s : State} (hs : s.Good Q B none none C) :
    Answers Q B none none C (execPowerOn pin e s) := by
  simp (maxDischargeDepth := 60) +contextual [execPowerOn, hs]

theorem execSupplyTrip_good {cut} {s : State} (hs : s.Good Q B none none C) :
    Answers Q B none none C (execSupplyTrip cut s) := by
  simp (maxDischargeDepth := 60) +contextual [execSupplyTrip, hs]

theorem execTestEn_good {high cut} {s : State} (hs : s.Good Q B none none C) :
    Answers Q B none none C (execTestEn high cut s) := by
  simp (maxDischargeDepth := 60) +contextual [execTestEn, hs]

end Sys2Proof.Machine
end

