-- ==== Sys2Proof/Laws/RegWrite.lean ====
section
/-! SUPPORT. What the operations of Machine/RegWrite.lean keep (Laws/Keep.lean). -/

namespace Sys2Proof.Machine

variable {Q : List Instr} {B : Nat → Nat} {M : Option (List Host.Cell)} {F : Option (List (Nat × Nat))} {C : Option Cistern}

@[simp] theorem RegCall.edge_good {c k} {on : State → State} {off : State → State} {s : State} (hf1 : ∀ t, t.Good Q B M F C → (on t).Good Q B M F C) (hf2 : ∀ t, t.Good Q B M F C → (off t).Good Q B M F C) (hs3 : s.Good Q B M F C) :
    (RegCall.edge c k on off s).Good Q B M F C := by
  simp (maxDischargeDepth := 60) +contextual [RegCall.edge, hf1, hf2, hs3]

@[simp] theorem State.wdtEnable_good {s : State} (hs : s.Good Q B M F C) :
    (State.wdtEnable s).Good Q B M F C := by
  simp (maxDischargeDepth := 60) +contextual [State.wdtEnable, hs]

@[simp] theorem State.wdtDisable_good {s : State} (hs : s.Good Q B M F C) :
    (State.wdtDisable s).Good Q B M F C := by
  simp (maxDischargeDepth := 60) +contextual [State.wdtDisable, hs]

@[simp] theorem State.rstWrite_good {s : State} {c} (hs : s.Good Q B none none C) :
    (State.rstWrite s c).Good Q B none none C := by
  simp (maxDischargeDepth := 60) +contextual [State.rstWrite, hs]

@[simp] theorem State.stateWrite_good {s : State} {c} (hs : s.Good Q B M F C) :
    (State.stateWrite s c).Good Q B M F C := by
  simp (maxDischargeDepth := 60) +contextual [State.stateWrite, hs]

@[simp] theorem State.unmask_good {s : State} {v} (hs : s.Good Q B M F C) :
    (State.unmask s v).Good Q B M F C := by
  simp (maxDischargeDepth := 60) +contextual [State.unmask, hs]

@[simp] theorem State.pctlWrite_good {s : State} {c} (hs : s.Good Q B M F C) :
    (State.pctlWrite s c).Good Q B M F C := by
  simp (maxDischargeDepth := 60) +contextual [State.pctlWrite, hs]

@[simp] theorem State.chanWrite_good {s : State} {c} (hs : s.Good Q B M F C) :
    (State.chanWrite s c).Good Q B M F C := by
  simp (maxDischargeDepth := 60) +contextual [State.chanWrite, hs]

@[simp] theorem State.calWrite_good {s : State} {c} (hs : s.Good Q B M F C) :
    (State.calWrite s c).Good Q B M F C := by
  simp (maxDischargeDepth := 60) +contextual [State.calWrite, hs]

theorem actionsManagement_good : ∀ t ∈ actionsManagement, ∀ c s, s.Good Q B none none none → (t.run c s).Good Q B none none none := by
  unfold actionsManagement
  repeat' refine List.forall_mem_cons.2 ⟨fun c s hs => ?_, ?_⟩
  all_goals
    first
    | exact List.forall_mem_nil _
    | exact ite_good (State.raise_good hs) (RegCall.edge_good (fun _ h => State.wdtEnable_good h) (fun _ h => State.wdtDisable_good h) hs)
    | simp (maxDischargeDepth := 60) +contextual [hs]

theorem actionsControl_good : ∀ t ∈ actionsControl, ∀ c s, s.Good Q B none none none → (t.run c s).Good Q B none none none := by
  unfold actionsControl
  repeat' refine List.forall_mem_cons.2 ⟨fun c s hs => ?_, ?_⟩
  all_goals
    first
    | exact List.forall_mem_nil _
    | simp (maxDischargeDepth := 60) +contextual [hs]

theorem actionsData_good : ∀ t ∈ actionsData, ∀ c s, s.Good Q B none none none → (t.run c s).Good Q B none none none := by
  unfold actionsData
  repeat' refine List.forall_mem_cons.2 ⟨fun c s hs => ?_, ?_⟩
  all_goals
    first
    | exact List.forall_mem_nil _
    | simp (maxDischargeDepth := 60) +contextual [hs]

theorem actionOf_good {r : RegRow} {t : RegAction} (h : actionOf r = some t) {c} {s : State} (hs : s.Good Q B none none none) :
    (t.run c s).Good Q B none none none := by
  have hm := List.mem_of_find?_eq_some h
  rw [List.mem_append, List.mem_append] at hm
  rcases hm with (hm | hm) | hm
  · exact actionsManagement_good t hm c s hs
  · exact actionsControl_good t hm c s hs
  · exact actionsData_good t hm c s hs

@[simp] theorem State.rowWrite_good {s : State} {issuer b r i a v env} (hs : s.Good Q B none none none) :
    (State.rowWrite s issuer b r i a v env).Good Q B none none none := by
  unfold State.rowWrite
  split
  · split
    · exact State.senseEnable_good hs
    · exact State.when_good hs (fun _ _ => State.raise_good (by assumption))
  · split
    · exact State.raise_good hs
    · split
      · exact actionOf_good (by assumption) (State.storeReg_good hs)
      · exact State.storeReg_good hs

@[simp] theorem State.bellWrite_good {s : State} {a v} (hs : s.Good Q B M F C) :
    (State.bellWrite s a v).Good Q B M F C := by
  simp (maxDischargeDepth := 60) +contextual [State.bellWrite, hs]

@[simp] theorem State.regAccess_good {s : State} {issuer a} (hs : s.Good Q B M F C) :
    (State.regAccess s issuer a).Good Q B M F C := by
  simp (maxDischargeDepth := 60) +contextual [State.regAccess, hs]

@[simp] theorem State.regWrite_good {s : State} {issuer a v env} (hs : s.Good Q B none none none) :
    (State.regWrite s issuer a v env).1.Good Q B none none none := by
  unfold State.regWrite; (repeat' split) <;> simp (maxDischargeDepth := 60) +contextual [hs]

@[simp] theorem State.regStore_good {s : State} {issuer a l env} (hs : s.Good Q B none none none) :
    (State.regStore s issuer a l env).1.Good Q B none none none := by
  simp (maxDischargeDepth := 60) +contextual [State.regStore, hs]

@[simp] theorem State.regPeek_good {s : State} {issuer a} (hs : s.Good Q B M F C) :
    (State.regPeek s issuer a).1.Good Q B M F C := by
  simp (maxDischargeDepth := 60) +contextual [State.regPeek, hs]

@[simp] theorem State.regLoad_good {s : State} {issuer a n} (hs : s.Good Q B M F C) :
    (State.regLoad s issuer a n).1.Good Q B M F C := by
  simp (maxDischargeDepth := 60) +contextual [State.regLoad, hs]

@[simp] theorem State.regWords_good {s : State} {issuer a env a_} (hs : s.Good Q B none none none) :
    (State.regWords s issuer a env a_).1.Good Q B none none none := by
  revert hs; fun_induction State.regWords s issuer a env a_ <;> intros <;> (repeat' split) <;> simp_all +zetaDelta (maxDischargeDepth := 60) +contextual

@[simp] theorem State.busWrite_good {s : State} {issuer a l env} (hs : s.Good Q B none none none) :
    (State.busWrite s issuer a l env).1.Good Q B none none none := by
  simp (maxDischargeDepth := 60) +contextual [State.busWrite, hs]

@[simp] theorem State.regReads_good {s : State} {issuer a a_} (hs : s.Good Q B M F C) :
    (State.regReads s issuer a a_).1.Good Q B M F C := by
  revert hs; fun_induction State.regReads s issuer a a_ <;> intros <;> (repeat' split) <;> simp_all +zetaDelta (maxDischargeDepth := 60) +contextual

@[simp] theorem State.busRead_good {s : State} {issuer a n x} (hs : s.Good Q B M F C) :
    (State.busRead s issuer a n x).1.Good Q B M F C := by
  simp (maxDischargeDepth := 60) +contextual [State.busRead, hs]

@[simp] theorem State.placeLine_good {s : State} {l} (hs : s.Good Q B none F C) :
    (State.placeLine s l).Good Q B none F C := by
  simp only [State.placeLine]; (repeat' split) <;> simp (maxDischargeDepth := 60) +contextual [hs]

@[simp] theorem State.fillLine_good {s : State} {a x} (hs : s.Good Q B none F C) :
    (State.fillLine s a x).1.Good Q B none F C := by
  simp (maxDischargeDepth := 60) +contextual [State.fillLine, hs]

@[simp] theorem State.cacheStore_good {s : State} {a b} (hs : s.Good Q B M F C) :
    (State.cacheStore s a b).Good Q B M F C := by
  simp (maxDischargeDepth := 60) +contextual [State.cacheStore, hs]

@[simp] theorem State.coreStore_good {s : State} {a x a_} (hs : s.Good Q B none F C) :
    (State.coreStore s a x a_).1.Good Q B none F C := by
  revert hs; fun_induction State.coreStore s a x a_ <;> intros <;> (repeat' split) <;> simp_all +zetaDelta (maxDischargeDepth := 60) +contextual

@[simp] theorem State.coreLoad_good {s : State} {x a_} (hs : s.Good Q B none F C) :
    (State.coreLoad s x a_).1.Good Q B none F C := by
  induction a_ generalizing s with
  | nil => exact hs
  | cons p t ih =>
    simp only [State.coreLoad]; (repeat' split) <;> simp (maxDischargeDepth := 60) +contextual [hs, ih]

@[simp] theorem State.respond_good {s : State} {issuer status} (hs : s.Good Q B M F C) :
    (State.respond s issuer status).Good Q B M F C := by
  simp (maxDischargeDepth := 60) +contextual [State.respond, hs]

@[simp] theorem State.access_good {s : State} {issuer a l env} (hs : s.Good Q B none none none) :
    (State.access s issuer a l env).Good Q B none none none := by
  simp (maxDischargeDepth := 60) +contextual [State.access, hs]

theorem execRegisterWrite_good {issuer addr width v env} {s : State} (hs : s.Good Q B none none none) :
    Answers Q B none none none (execRegisterWrite issuer addr width v env s) := by
  simp (maxDischargeDepth := 60) +contextual [execRegisterWrite, hs]

@[simp] theorem State.accessRead_good {s : State} {issuer a n x} (hs : s.Good Q B none F C) :
    (State.accessRead s issuer a n x).1.Good Q B none F C := by
  simp (maxDischargeDepth := 60) +contextual [State.accessRead, hs]

theorem execRcRead_good {issuer addr width x} {s : State} (hs : s.Good Q B none F C) :
    Answers Q B none F C (execRcRead issuer addr width x s) := by
  simp (maxDischargeDepth := 60) +contextual [execRcRead, hs]

theorem execCrossingRead_good {issuer addr width} {s : State} (hs : s.Good Q B M F C) :
    Answers Q B M F C (execCrossingRead issuer addr width s) := by
  simp (maxDischargeDepth := 60) +contextual [execCrossingRead, hs]

end Sys2Proof.Machine
end

