-- ==== Sys2Proof/Laws/DmaMove.lean ====
section
/-! SUPPORT. What the operations of Machine/DmaMove.lean keep (Laws/Keep.lean). -/

namespace Sys2Proof.Machine

variable {Q : List Instr} {B : Nat → Nat} {M : Option (List Host.Cell)} {F : Option (List (Nat × Nat))} {C : Option Cistern}

@[simp] theorem State.readBurst_good {s : State} {a off n x} (hs : s.Good Q B M F C) :
    (State.readBurst s a off n x).1.Good Q B M F C := by
  unfold State.readBurst; (repeat' split) <;> simp (maxDischargeDepth := 60) +contextual [hs]

@[simp] theorem State.moved_good {s : State} {n d m src f} (hs : s.Good Q B M F C) :
    (State.moved s n d m src f).Good Q B M F C := by
  simp (maxDischargeDepth := 60) +contextual [State.moved, hs]

@[simp] theorem State.dmaRead_good {s : State} {base a n x} (hs : s.Good Q B none none none) : (State.dmaRead s base a n x).s.Good Q B none none none := by
  refine foldl_keeps (P := fun (r : DmaRead) => r.s.Good Q B none none none) (fun r p h => ?_) hs
  dsimp only
  split
  · exact h
  · split <;> exact State.readBurst_good h

@[simp] theorem State.dmaWrite_good {s : State} {n a l env} (hs : s.Good Q B none none none) : (State.dmaWrite s n a l env).s.Good Q B none none none := by
  unfold State.dmaWrite
  split
  · refine foldl_keeps (P := fun (r : DmaWrite) => r.s.Good Q B none none none) (fun r p h => ?_) hs
    dsimp only
    split
    · exact h
    · split <;> exact State.busWrite_good h
  · exact foldl_good (fun _ _ h => State.postBytes_good h) hs
  · exact State.each_good hs (fun _ _ h => State.sendBytes_good h)
  · exact hs

@[simp] theorem State.putData_good {s : State} {n d l rd env} (hs : s.Good Q B none none none) : (State.putData s n d l rd env).Good Q B none none none :=
  State.moved_good (State.dmaWrite_good hs)

theorem execDmaCopy_good {n x env nx sent} {s : State} (hs : s.Good Q B none none none) :
    Answers Q B none none none (execDmaCopy n x env nx sent s) := by
  unfold execDmaCopy
  split
  · exact answers_next hs
  · exact answers_next (State.putData_good (State.dmaRead_good (State.fetchShadow_good hs)))

theorem execDmaFill_good {n env nx} {s : State} (hs : s.Good Q B none none none) :
    Answers Q B none none none (execDmaFill n env nx s) := by
  unfold execDmaFill; (repeat' split) <;> simp (maxDischargeDepth := 60) +contextual [hs]

@[simp] theorem State.fillFeed_good {s : State} {f} (hs : s.Good Q B M F C) : (State.fillFeed s f).1.Good Q B M F C := by
  unfold State.fillFeed
  split
  · dsimp only
    split <;> exact State.readBurst_good hs
  · exact hs

@[simp] theorem State.compareRun_good {k a b m} {s : State} (hs : s.Good Q B M F C) : (State.compareRun k s a b m).s.Good Q B M F C := by
  induction k generalizing s a b m with
  | zero => exact hs
  | succ k ih =>
    have hf : (s.fillFeed a).1.Good Q B M F C := State.fillFeed_good hs
    have hg : ((s.fillFeed a).1.fillFeed b).1.Good Q B M F C := State.fillFeed_good hf
    simp only [State.compareRun]
    split
    · exact hf
    · exact hg
    · split
      · exact hg
      · exact ih hg

@[simp] theorem State.compareDst_good {s : State} {d y a} (hs : s.Good Q B M F C) : (State.compareDst s d y a).s.Good Q B M F C :=
  State.compareRun_good hs

theorem State.compared_good {n d} {r : DmaMatch} (h : r.s.Good Q B M F C) :
    (State.compared n d r).Good Q B M F C :=
  State.moved_good h

theorem execDmaCmp_good {n x y nx} {s : State} (hs : s.Good Q B none none none) :
    Answers Q B none none none (execDmaCmp n x y nx s) := by
  unfold execDmaCmp
  split
  · exact answers_next hs
  · exact answers_next (State.compared_good (State.compareDst_good (State.fetchShadow_good hs)))

theorem execDmaCmpPat_good {n y nx} {s : State} (hs : s.Good Q B none none none) :
    Answers Q B none none none (execDmaCmpPat n y nx s) := by
  unfold execDmaCmpPat
  split
  · exact answers_next hs
  · exact answers_next (State.compared_good (State.compareDst_good (State.fetchShadow_good hs)))

@[simp] theorem State.dmaHalt_good {s : State} {n cause src} (hs : s.Good Q B M F C) :
    (State.dmaHalt s n cause src).Good Q B M F C := by
  simp (maxDischargeDepth := 60) +contextual [State.dmaHalt, hs]

@[simp] theorem State.dmaWord5Done_good {s : State} {n d status} (hs : s.Good Q B none F C) :
    (State.dmaWord5Done s n d status).Good Q B none F C := by
  simp only [State.dmaWord5Done]; (repeat' split) <;> simp (maxDischargeDepth := 60) +contextual [hs]

@[simp] theorem State.putWord5_good {s : State} {n d env} (hs : s.Good Q B none none none) :
    (State.putWord5 s n d env).Good Q B none none none := by
  have h := State.dmaWrite_good (n := n) (a := d.addr + 20) (l := wordBytes (s.dmaCh n).word5) (env := env) hs
  unfold State.putWord5
  dsimp only
  split <;> simp [h]

theorem execDescriptorComplete_good {n env} {s : State} (hs : s.Good Q B none none none) :
    Answers Q B none none none (execDescriptorComplete n env s) := by
  unfold execDescriptorComplete; (repeat' split) <;> simp (maxDischargeDepth := 60) +contextual [hs]

@[simp] theorem State.giveUp_good {s : State} {n} (hs : s.Good Q B M F C) :
    (State.giveUp s n).Good Q B M F C := by
  simp (maxDischargeDepth := 60) +contextual [State.giveUp, hs]

@[simp] theorem State.dmaTxn_good {s : State} {n tag status} (hs : s.Good Q B none F C) :
    (State.dmaTxn s n tag status).Good Q B none F C := by
  simp only [State.dmaTxn]; (repeat' split) <;> simp (maxDischargeDepth := 60) +contextual [hs]

end Sys2Proof.Machine
end

