-- ==== Sys2Proof/Laws/FabAccess.lean ====
section
/-! SUPPORT. What the operations of Machine/FabAccess.lean keep (Laws/Keep.lean). -/

namespace Sys2Proof.Machine

variable {Q : List Instr} {B : Nat → Nat} {M : Option (List Host.Cell)} {F : Option (List (Nat × Nat))} {C : Option Cistern}

@[simp] theorem State.reply_good {s : State} {k status data} (hs : s.Good Q B M F C) :
    (State.reply s k status data).Good Q B M F C := by
  simp (maxDischargeDepth := 60) +contextual [State.reply, hs]

@[simp] theorem State.refuseReq_good {s : State} {k} (hs : s.Good Q B M F C) :
    (State.refuseReq s k).Good Q B M F C := by
  simp (maxDischargeDepth := 60) +contextual [State.refuseReq, hs]

@[simp] theorem State.keepCtrl_good {s : State} {k status w} (hs : s.Good Q B M F C) :
    (State.keepCtrl s k status w).Good Q B M F C := by
  simp (maxDischargeDepth := 60) +contextual [State.keepCtrl, hs]

@[simp] theorem State.takeCtrl_good {s : State} {k} {f : State → Prod State (Prod Nat Word)} (hs : s.Good Q B M F C) (hf2 : ∀ t, t.Good Q B M F C → (f t).1.Good Q B M F C) :
    (State.takeCtrl s k f).Good Q B M F C := by
  unfold State.takeCtrl; (repeat' split) <;> simp (maxDischargeDepth := 60) +contextual [hs, hf2]

@[simp] theorem State.takeCtrlRd_good {s : State} {k} (hs : s.Good Q B M F C) :
    (State.takeCtrlRd s k).Good Q B M F C := by
  simp (maxDischargeDepth := 60) +contextual [State.takeCtrlRd, hs]

theorem execCtrlRd_good {p good k} {s : State} (hs : s.Good Q B M F C) :
    Answers Q B M F C (execCtrlRd p good k s) := by
  simp (maxDischargeDepth := 60) +contextual [execCtrlRd, hs]

@[simp] theorem State.takeCtrlWr_good {s : State} {k env} (hs : s.Good Q B none none none) :
    (State.takeCtrlWr s k env).Good Q B none none none := by
  simp (maxDischargeDepth := 60) +contextual [State.takeCtrlWr, hs]

theorem execCtrlWr_good {p good k env} {s : State} (hs : s.Good Q B none none none) :
    Answers Q B none none none (execCtrlWr p good k env s) := by
  simp (maxDischargeDepth := 60) +contextual [execCtrlWr, hs]

@[simp] theorem State.writeBe_good {s : State} {a be w env} (hs : s.Good Q B none none none) :
    (State.writeBe s a be w env).1.Good Q B none none none := by
  simp (maxDischargeDepth := 60) +contextual [State.writeBe, hs]

@[simp] theorem State.writeBulk_good {s : State} {k env} (hs : s.Good Q B none none none) :
    (State.writeBulk s k env).1.Good Q B none none none := by
  simp (maxDischargeDepth := 60) +contextual [State.writeBulk, hs]

@[simp] theorem State.takeWr_good {s : State} {k env} (hs : s.Good Q B none none none) :
    (State.takeWr s k env).Good Q B none none none := by
  simp (maxDischargeDepth := 60) +contextual [State.takeWr, hs]

theorem execBulkWr_good {p good k env} {s : State} (hs : s.Good Q B none none none) :
    Answers Q B none none none (execBulkWr p good k env s) := by
  simp (maxDischargeDepth := 60) +contextual [execBulkWr, hs]

@[simp] theorem State.readBulk_good {s : State} {k x} (hs : s.Good Q B M F C) :
    (State.readBulk s k x).1.Good Q B M F C := by
  simp (maxDischargeDepth := 60) +contextual [State.readBulk, hs]

@[simp] theorem State.takeRd_good {s : State} {k x} (hs : s.Good Q B M F C) :
    (State.takeRd s k x).Good Q B M F C := by
  simp (maxDischargeDepth := 60) +contextual [State.takeRd, hs]

theorem execBulkRd_good {p good k x} {s : State} (hs : s.Good Q B M F C) :
    Answers Q B M F C (execBulkRd p good k x s) := by
  simp (maxDischargeDepth := 60) +contextual [execBulkRd, hs]

@[simp] theorem State.failTxn_good {s : State} {t status} (hs : s.Good Q B M F C) :
    (State.failTxn s t status).Good Q B M F C := by
  unfold State.failTxn; (repeat' split) <;> simp (maxDischargeDepth := 60) +contextual [hs]

@[simp] theorem State.bulkDone_good {s : State} {t status data} (hs : s.Good Q B none F C) :
    (State.bulkDone s t status data).Good Q B none F C := by
  unfold State.bulkDone; (repeat' split) <;> simp (maxDischargeDepth := 60) +contextual [hs]

@[simp] theorem State.takeRsp_good {s : State} {k write} (hs : s.Good Q B none F C) :
    (State.takeRsp s k write).Good Q B none F C := by
  unfold State.takeRsp; (repeat' split) <;> simp (maxDischargeDepth := 60) +contextual [hs]

theorem execWrRsp_good {p crc k} {s : State} (hs : s.Good Q B none F C) :
    Answers Q B none F C (execWrRsp p crc k s) := by
  simp (maxDischargeDepth := 60) +contextual [execWrRsp, hs]

theorem execRdCpl_good {p crc k} {s : State} (hs : s.Good Q B none F C) :
    Answers Q B none F C (execRdCpl p crc k s) := by
  simp (maxDischargeDepth := 60) +contextual [execRdCpl, hs]

theorem execBulkTimeout_good {tag} {s : State} (hs : s.Good Q B none F C) :
    Answers Q B none F C (execBulkTimeout tag s) := by
  unfold execBulkTimeout; (repeat' split) <;> simp (maxDischargeDepth := 60) +contextual [hs]

end Sys2Proof.Machine
end

