-- ==== Sys2Proof/Laws/State.lean ====
section
/-! SUPPORT. The small lemmas of State: what a read of a register, a field or a byte gives after a write, and which fields
each update leaves. -/

namespace Sys2Proof.Machine

/-! Bit fields -/

theorem withField_getLsbD (x : Word) (lo w v i : Nat) (h : lo + w ≤ 32) :
    (withField x lo w v).getLsbD i = if lo ≤ i ∧ i < lo + w then v.testBit (i - lo) else x.getLsbD i := by
  by_cases hi : i < 32
  · simp only [withField, lowMask, BitVec.getLsbD_or, BitVec.getLsbD_and, BitVec.getLsbD_not, BitVec.getLsbD_shiftLeft,
      BitVec.getLsbD_ofNat, hi, Nat.testBit_two_pow_sub_one]
    rw [show decide (i - lo < 32) = true from decide_eq_true (by omega)]
    by_cases h1 : lo ≤ i
    · by_cases h2 : i < lo + w
      · simp [h1, h2, show ¬ i < lo by omega, show i - lo < w by omega]
      · simp [h2, show ¬ i - lo < w by omega]
    · simp [h1, show i < lo by omega]
  · have h1 : (withField x lo w v).getLsbD i = false := BitVec.getLsbD_of_ge _ _ (by omega)
    have h2 : x.getLsbD i = false := BitVec.getLsbD_of_ge _ _ (by omega)
    rw [h1, h2, if_neg (by omega)]

theorem fieldOf_testBit (x : Word) (lo w i : Nat) : (fieldOf x lo w).testBit i = (decide (i < w) && x.getLsbD (lo + i)) := by
  simp [fieldOf, Nat.testBit_mod_two_pow, Nat.testBit_shiftRight, BitVec.testBit_toNat]

/-- A field reads what was put into it. -/
theorem fieldOf_withField (x : Word) {lo w : Nat} (v : Nat) (h : lo + w ≤ 32) : fieldOf (withField x lo w v) lo w = v % 2 ^ w := by
  refine Nat.eq_of_testBit_eq fun i => ?_
  rw [fieldOf_testBit, withField_getLsbD _ _ _ _ _ h, Nat.testBit_mod_two_pow]
  by_cases hi : i < w
  · simp [hi, show lo + i < lo + w by omega]
  · simp [hi]

/-- Fields that do not overlap do not disturb each other. -/
theorem fieldOf_withField_other (x : Word) {lo w lo' w' : Nat} (v : Nat) (h : lo + w ≤ 32) (hd : lo + w ≤ lo' ∨ lo' + w' ≤ lo) :
    fieldOf (withField x lo w v) lo' w' = fieldOf x lo' w' := by
  refine Nat.eq_of_testBit_eq fun i => ?_
  rw [fieldOf_testBit, fieldOf_testBit, withField_getLsbD _ _ _ _ _ h]
  by_cases hi : i < w'
  · simp only [hi, decide_true, Bool.true_and]
    rw [if_neg (by omega)]
  · simp [hi]

/-! Registers -/

@[simp] theorem State.rd_wr_same (s : State) (a : Nat) (v : Word) : (s.wr a v).rd a = v := mapGet_put_same _ _ _ _

theorem State.rd_wr_other (s : State) {a b : Nat} (v : Word) (h : a ≠ b) : (s.wr a v).rd b = s.rd b := mapGet_put_other _ _ _ h

theorem State.rd_put_other (s : State) (f : Fld) (v : Nat) {b : Nat} (h : f.addr ≠ b) : (s.put f v).rd b = s.rd b :=
  s.rd_wr_other _ h

/-- A field reads what was put into it, modulo its width. -/
theorem State.get_put_same (s : State) (f : Fld) (v : Nat) (h : f.lo + f.width ≤ 32) : (s.put f v).get f = v % 2 ^ f.width := by
  simp [State.get, State.put, fieldOf_withField _ _ h]

/-- Two fields share no bit. -/
def fieldsApart (f g : Fld) : Bool :=
  decide (f.lo + f.width ≤ 32) && (f.addr != g.addr || decide (f.lo + f.width ≤ g.lo) || decide (g.lo + g.width ≤ f.lo))

theorem State.get_put_other (s : State) (f g : Fld) (v : Nat) (h : fieldsApart f g = true) : (s.put f v).get g = s.get g := by
  simp only [fieldsApart, Bool.and_eq_true, Bool.or_eq_true, bne_iff_ne, decide_eq_true_eq] at h
  by_cases e : f.addr = g.addr
  · simp only [State.get, State.put, ← e, State.rd_wr_same]
    rw [fieldOf_withField_other _ _ h.1 (by rcases h.2 with (h | h) | h <;> first | exact absurd e h | exact .inl h | exact .inr h)]
  · simp only [State.get]
    rw [State.rd_put_other s f v e]

theorem State.get_wr_other (s : State) {a : Nat} (v : Word) (g : Fld) (h : a ≠ g.addr) : (s.wr a v).get g = s.get g := by
  simp only [State.get, State.rd_wr_other s v h]

/-! Memory -/

@[simp] theorem State.byte_setByte_same (s : State) (a : Nat) (b : Byte) : (s.setByte a b).byte a = b := mapGet_put_same _ _ _ _

theorem State.byte_setByte_other (s : State) {a c : Nat} (b : Byte) (h : a ≠ c) : (s.setByte a b).byte c = s.byte c :=
  mapGet_put_other _ _ _ h

/-- Bytes outside a written range are left. -/
theorem State.byte_setBytes_other (l : List Byte) : ∀ (s : State) (a : Nat) {c : Nat}, c < a ∨ a + l.length ≤ c →
    (s.setBytes a l).byte c = s.byte c := by
  induction l with
  | nil => intros; rfl
  | cons b t ih =>
    intro s a c h
    rw [List.length_cons] at h
    rw [State.setBytes, ih _ _ (by omega), State.byte_setByte_other _ _ (by omega)]

/-- Bytes of a written range hold what was written. -/
theorem State.byte_setBytes_same (l : List Byte) : ∀ (s : State) (a i : Nat), i < l.length →
    (s.setBytes a l).byte (a + i) = l.getD i 0#8 := by
  induction l with
  | nil => intro _ _ _ h; exact absurd h (Nat.not_lt_zero _)
  | cons b t ih =>
    intro s a i h
    cases i with
    | zero =>
      rw [State.setBytes, State.byte_setBytes_other t _ _ (by omega)]
      exact State.byte_setByte_same s a b
    | succ i =>
      rw [State.setBytes, show a + (i + 1) = a + 1 + i by omega, ih _ _ _ (by simpa using h), List.getD_cons_succ]

/-! Members of lists that are filled up -/

theorem getD_setFill {α : Type} (d : α) : ∀ (l : List α) (i : Nat) (x : α) (j : Nat),
    (setFill d l i x).getD j d = if j = i then x else l.getD j d
  | [], 0, x, j => by cases j <;> simp [setFill]
  | [], i + 1, x, 0 => by simp [setFill]
  | [], i + 1, x, j + 1 => by
    rw [setFill, List.getD_cons_succ, getD_setFill d [] i x j]
    by_cases h : j = i <;> simp [h]
  | y :: t, 0, x, j => by cases j <;> simp [setFill]
  | y :: t, i + 1, x, 0 => by simp [setFill]
  | y :: t, i + 1, x, j + 1 => by
    rw [setFill, List.getD_cons_succ, List.getD_cons_succ, getD_setFill d t i x j]
    by_cases h : j = i <;> simp [h]

@[simp] theorem State.queue_onQueue (s : State) (i j : Nat) (f) : (s.onQueue i f).queue j = if j = i then f (s.queue i) else s.queue j :=
  getD_setFill _ _ _ _ _

@[simp] theorem State.hport_onHport (s : State) (i j : Nat) (f) : (s.onHport i f).hport j = if j = i then f (s.hport i) else s.hport j :=
  getD_setFill _ _ _ _ _

@[simp] theorem State.chan_onChan (s : State) (i j : Nat) (f) : (s.onChan i f).chan j = if j = i then f (s.chan i) else s.chan j :=
  getD_setFill _ _ _ _ _

@[simp] theorem State.wave_onWave (s : State) (i j : Nat) (f) : (s.onWave i f).wave j = if j = i then f (s.wave i) else s.wave j :=
  getD_setFill _ _ _ _ _

@[simp] theorem State.nhh_onNhh (s : State) (i j : Nat) (f) : (s.onNhh i f).nhh j = if j = i then f (s.nhh i) else s.nhh j :=
  getD_setFill _ _ _ _ _

@[simp] theorem State.ax_onAx (s : State) (i j : Nat) (f) : (s.onAx i f).ax j = if j = i then f (s.ax i) else s.ax j :=
  getD_setFill _ _ _ _ _

@[simp] theorem State.dmaCh_onDmaCh (s : State) (i j : Nat) (f) : (s.onDmaCh i f).dmaCh j = if j = i then f (s.dmaCh i) else s.dmaCh j :=
  getD_setFill _ _ _ _ _

/-! Updates beside the registers leave every register and field; an update of a part changes it so. -/

@[simp] theorem State.onSys_rd (s : State) (f) (a : Nat) : (s.onSys f).rd a = s.rd a :=
  congrArg (mapGet resetWord · a) (rfl : (s.onSys f).regs = s.regs)
@[simp] theorem State.onSys_get (s : State) (f) (g : Fld) : (s.onSys f).get g = s.get g :=
  congrArg (fun r => fieldOf (mapGet resetWord r g.addr) g.lo g.width) (rfl : (s.onSys f).regs = s.regs)
@[simp] theorem State.onSys_sys (s : State) (f) : (s.onSys f).sys = f s.sys := rfl
theorem State.onSys_self (s : State) {f} (h : f s.sys = s.sys) : s.onSys f = s := by
  unfold State.onSys
  rw [h]

@[simp] theorem State.onHost_rd (s : State) (f) (a : Nat) : (s.onHost f).rd a = s.rd a :=
  congrArg (mapGet resetWord · a) (rfl : (s.onHost f).regs = s.regs)
@[simp] theorem State.onHost_get (s : State) (f) (g : Fld) : (s.onHost f).get g = s.get g :=
  congrArg (fun r => fieldOf (mapGet resetWord r g.addr) g.lo g.width) (rfl : (s.onHost f).regs = s.regs)
@[simp] theorem State.onHost_host (s : State) (f) : (s.onHost f).host = f s.host := rfl
theorem State.onHost_self (s : State) {f} (h : f s.host = s.host) : s.onHost f = s := by
  unfold State.onHost
  rw [h]

@[simp] theorem State.onCmp_rd (s : State) (f) (a : Nat) : (s.onCmp f).rd a = s.rd a :=
  congrArg (mapGet resetWord · a) (rfl : (s.onCmp f).regs = s.regs)
@[simp] theorem State.onCmp_get (s : State) (f) (g : Fld) : (s.onCmp f).get g = s.get g :=
  congrArg (fun r => fieldOf (mapGet resetWord r g.addr) g.lo g.width) (rfl : (s.onCmp f).regs = s.regs)
@[simp] theorem State.onCmp_cmp (s : State) (f) : (s.onCmp f).cmp = f s.cmp := rfl
theorem State.onCmp_self (s : State) {f} (h : f s.cmp = s.cmp) : s.onCmp f = s := by
  unfold State.onCmp
  rw [h]

@[simp] theorem State.onFire_rd (s : State) (f) (a : Nat) : (s.onFire f).rd a = s.rd a :=
  congrArg (mapGet resetWord · a) (rfl : (s.onFire f).regs = s.regs)
@[simp] theorem State.onFire_get (s : State) (f) (g : Fld) : (s.onFire f).get g = s.get g :=
  congrArg (fun r => fieldOf (mapGet resetWord r g.addr) g.lo g.width) (rfl : (s.onFire f).regs = s.regs)
@[simp] theorem State.onFire_fire (s : State) (f) : (s.onFire f).fire = f s.fire := rfl
theorem State.onFire_self (s : State) {f} (h : f s.fire = s.fire) : s.onFire f = s := by
  unfold State.onFire
  rw [h]

@[simp] theorem State.onFab_rd (s : State) (f) (a : Nat) : (s.onFab f).rd a = s.rd a :=
  congrArg (mapGet resetWord · a) (rfl : (s.onFab f).regs = s.regs)
@[simp] theorem State.onFab_get (s : State) (f) (g : Fld) : (s.onFab f).get g = s.get g :=
  congrArg (fun r => fieldOf (mapGet resetWord r g.addr) g.lo g.width) (rfl : (s.onFab f).regs = s.regs)
@[simp] theorem State.onFab_fab (s : State) (f) : (s.onFab f).fab = f s.fab := rfl
theorem State.onFab_self (s : State) {f} (h : f s.fab = s.fab) : s.onFab f = s := by
  unfold State.onFab
  rw [h]

@[simp] theorem State.onCal_rd (s : State) (f) (a : Nat) : (s.onCal f).rd a = s.rd a :=
  congrArg (mapGet resetWord · a) (rfl : (s.onCal f).regs = s.regs)
@[simp] theorem State.onCal_get (s : State) (f) (g : Fld) : (s.onCal f).get g = s.get g :=
  congrArg (fun r => fieldOf (mapGet resetWord r g.addr) g.lo g.width) (rfl : (s.onCal f).regs = s.regs)
@[simp] theorem State.onCal_cal (s : State) (f) : (s.onCal f).cal = f s.cal := rfl
theorem State.onCal_self (s : State) {f} (h : f s.cal = s.cal) : s.onCal f = s := by
  unfold State.onCal
  rw [h]

@[simp] theorem State.onQueue_rd (s : State) (h) (f) (a : Nat) : (s.onQueue h f).rd a = s.rd a :=
  congrArg (mapGet resetWord · a) (rfl : (s.onQueue h f).regs = s.regs)
@[simp] theorem State.onQueue_get (s : State) (h) (f) (g : Fld) : (s.onQueue h f).get g = s.get g :=
  congrArg (fun r => fieldOf (mapGet resetWord r g.addr) g.lo g.width) (rfl : (s.onQueue h f).regs = s.regs)

@[simp] theorem State.onHport_rd (s : State) (h) (f) (a : Nat) : (s.onHport h f).rd a = s.rd a :=
  congrArg (mapGet resetWord · a) (rfl : (s.onHport h f).regs = s.regs)
@[simp] theorem State.onHport_get (s : State) (h) (f) (g : Fld) : (s.onHport h f).get g = s.get g :=
  congrArg (fun r => fieldOf (mapGet resetWord r g.addr) g.lo g.width) (rfl : (s.onHport h f).regs = s.regs)

@[simp] theorem State.onChan_rd (s : State) (h) (f) (a : Nat) : (s.onChan h f).rd a = s.rd a :=
  congrArg (mapGet resetWord · a) (rfl : (s.onChan h f).regs = s.regs)
@[simp] theorem State.onChan_get (s : State) (h) (f) (g : Fld) : (s.onChan h f).get g = s.get g :=
  congrArg (fun r => fieldOf (mapGet resetWord r g.addr) g.lo g.width) (rfl : (s.onChan h f).regs = s.regs)

@[simp] theorem State.onWave_rd (s : State) (h) (f) (a : Nat) : (s.onWave h f).rd a = s.rd a :=
  congrArg (mapGet resetWord · a) (rfl : (s.onWave h f).regs = s.regs)
@[simp] theorem State.onWave_get (s : State) (h) (f) (g : Fld) : (s.onWave h f).get g = s.get g :=
  congrArg (fun r => fieldOf (mapGet resetWord r g.addr) g.lo g.width) (rfl : (s.onWave h f).regs = s.regs)

@[simp] theorem State.onNh_rd (s : State) (f) (a : Nat) : (s.onNh f).rd a = s.rd a :=
  congrArg (mapGet resetWord · a) (rfl : (s.onNh f).regs = s.regs)
@[simp] theorem State.onNh_get (s : State) (f) (g : Fld) : (s.onNh f).get g = s.get g :=
  congrArg (fun r => fieldOf (mapGet resetWord r g.addr) g.lo g.width) (rfl : (s.onNh f).regs = s.regs)
@[simp] theorem State.onNh_nh (s : State) (f) : (s.onNh f).nh = f s.nh := rfl
theorem State.onNh_self (s : State) {f} (h : f s.nh = s.nh) : s.onNh f = s := by
  unfold State.onNh
  rw [h]

@[simp] theorem State.onNhh_rd (s : State) (h) (f) (a : Nat) : (s.onNhh h f).rd a = s.rd a :=
  congrArg (mapGet resetWord · a) (rfl : (s.onNhh h f).regs = s.regs)
@[simp] theorem State.onNhh_get (s : State) (h) (f) (g : Fld) : (s.onNhh h f).get g = s.get g :=
  congrArg (fun r => fieldOf (mapGet resetWord r g.addr) g.lo g.width) (rfl : (s.onNhh h f).regs = s.regs)

@[simp] theorem State.onAx_rd (s : State) (h) (f) (a : Nat) : (s.onAx h f).rd a = s.rd a :=
  congrArg (mapGet resetWord · a) (rfl : (s.onAx h f).regs = s.regs)
@[simp] theorem State.onAx_get (s : State) (h) (f) (g : Fld) : (s.onAx h f).get g = s.get g :=
  congrArg (fun r => fieldOf (mapGet resetWord r g.addr) g.lo g.width) (rfl : (s.onAx h f).regs = s.regs)

@[simp] theorem State.onOtp_rd (s : State) (f) (a : Nat) : (s.onOtp f).rd a = s.rd a :=
  congrArg (mapGet resetWord · a) (rfl : (s.onOtp f).regs = s.regs)
@[simp] theorem State.onOtp_get (s : State) (f) (g : Fld) : (s.onOtp f).get g = s.get g :=
  congrArg (fun r => fieldOf (mapGet resetWord r g.addr) g.lo g.width) (rfl : (s.onOtp f).regs = s.regs)
@[simp] theorem State.onOtp_otp (s : State) (f) : (s.onOtp f).otp = f s.otp := rfl
theorem State.onOtp_self (s : State) {f} (h : f s.otp = s.otp) : s.onOtp f = s := by
  unfold State.onOtp
  rw [h]

@[simp] theorem State.onWeir_rd (s : State) (f) (a : Nat) : (s.onWeir f).rd a = s.rd a :=
  congrArg (mapGet resetWord · a) (rfl : (s.onWeir f).regs = s.regs)
@[simp] theorem State.onWeir_get (s : State) (f) (g : Fld) : (s.onWeir f).get g = s.get g :=
  congrArg (fun r => fieldOf (mapGet resetWord r g.addr) g.lo g.width) (rfl : (s.onWeir f).regs = s.regs)
@[simp] theorem State.onWeir_weir (s : State) (f) : (s.onWeir f).weir = f s.weir := rfl
theorem State.onWeir_self (s : State) {f} (h : f s.weir = s.weir) : s.onWeir f = s := by
  unfold State.onWeir
  rw [h]

@[simp] theorem State.onMem_rd (s : State) (f) (a : Nat) : (s.onMem f).rd a = s.rd a :=
  congrArg (mapGet resetWord · a) (rfl : (s.onMem f).regs = s.regs)
@[simp] theorem State.onMem_get (s : State) (f) (g : Fld) : (s.onMem f).get g = s.get g :=
  congrArg (fun r => fieldOf (mapGet resetWord r g.addr) g.lo g.width) (rfl : (s.onMem f).regs = s.regs)
@[simp] theorem State.onMem_memc (s : State) (f) : (s.onMem f).memc = f s.memc := rfl
theorem State.onMem_self (s : State) {f} (h : f s.memc = s.memc) : s.onMem f = s := by
  unfold State.onMem
  rw [h]

@[simp] theorem State.onDma_rd (s : State) (f) (a : Nat) : (s.onDma f).rd a = s.rd a :=
  congrArg (mapGet resetWord · a) (rfl : (s.onDma f).regs = s.regs)
@[simp] theorem State.onDma_get (s : State) (f) (g : Fld) : (s.onDma f).get g = s.get g :=
  congrArg (fun r => fieldOf (mapGet resetWord r g.addr) g.lo g.width) (rfl : (s.onDma f).regs = s.regs)
@[simp] theorem State.onDma_dma (s : State) (f) : (s.onDma f).dma = f s.dma := rfl
theorem State.onDma_self (s : State) {f} (h : f s.dma = s.dma) : s.onDma f = s := by
  unfold State.onDma
  rw [h]

@[simp] theorem State.onDmaCh_rd (s : State) (h) (f) (a : Nat) : (s.onDmaCh h f).rd a = s.rd a :=
  congrArg (mapGet resetWord · a) (rfl : (s.onDmaCh h f).regs = s.regs)
@[simp] theorem State.onDmaCh_get (s : State) (h) (f) (g : Fld) : (s.onDmaCh h f).get g = s.get g :=
  congrArg (fun r => fieldOf (mapGet resetWord r g.addr) g.lo g.width) (rfl : (s.onDmaCh h f).regs = s.regs)

@[simp] theorem State.onJob_rd (s : State) (h) (f) (a : Nat) : (s.onJob h f).rd a = s.rd a :=
  congrArg (mapGet resetWord · a) (rfl : (s.onJob h f).regs = s.regs)
@[simp] theorem State.onJob_get (s : State) (h) (f) (g : Fld) : (s.onJob h f).get g = s.get g :=
  congrArg (fun r => fieldOf (mapGet resetWord r g.addr) g.lo g.width) (rfl : (s.onJob h f).regs = s.regs)

@[simp] theorem State.loadB_rd (s : State) (h) (f) (a : Nat) : (s.loadB h f).rd a = s.rd a :=
  congrArg (mapGet resetWord · a) (rfl : (s.loadB h f).regs = s.regs)
@[simp] theorem State.loadB_get (s : State) (h) (f) (g : Fld) : (s.loadB h f).get g = s.get g :=
  congrArg (fun r => fieldOf (mapGet resetWord r g.addr) g.lo g.width) (rfl : (s.loadB h f).regs = s.regs)

@[simp] theorem State.setByte_rd (s : State) (h) (f) (a : Nat) : (s.setByte h f).rd a = s.rd a :=
  congrArg (mapGet resetWord · a) (rfl : (s.setByte h f).regs = s.regs)
@[simp] theorem State.setByte_get (s : State) (h) (f) (g : Fld) : (s.setByte h f).get g = s.get g :=
  congrArg (fun r => fieldOf (mapGet resetWord r g.addr) g.lo g.width) (rfl : (s.setByte h f).regs = s.regs)

/-! What each update leaves -/

@[simp] theorem State.wr_act (s : State) (a) (v) : (s.wr a v).act = s.act := rfl
@[simp] theorem State.wr_mem (s : State) (a) (v) : (s.wr a v).mem = s.mem := rfl
@[simp] theorem State.wr_time (s : State) (a) (v) : (s.wr a v).time = s.time := rfl
@[simp] theorem State.wr_ticks (s : State) (a) (v) : (s.wr a v).ticks = s.ticks := rfl
@[simp] theorem State.wr_rdata (s : State) (a) (v) : (s.wr a v).rdata = s.rdata := rfl
@[simp] theorem State.wr_resp (s : State) (a) (v) : (s.wr a v).resp = s.resp := rfl
@[simp] theorem State.wr_root (s : State) (a) (v) : (s.wr a v).root = s.root := rfl
@[simp] theorem State.wr_small (s : State) (a) (v) : (s.wr a v).small = s.small := rfl
@[simp] theorem State.wr_jobs (s : State) (a) (v) : (s.wr a v).jobs = s.jobs := rfl
@[simp] theorem State.wr_jobSeq (s : State) (a) (v) : (s.wr a v).jobSeq = s.jobSeq := rfl
@[simp] theorem State.wr_swaps (s : State) (a) (v) : (s.wr a v).swaps = s.swaps := rfl
@[simp] theorem State.wr_sys (s : State) (a) (v) : (s.wr a v).sys = s.sys := rfl
@[simp] theorem State.wr_pmu (s : State) (a) (v) : (s.wr a v).pmu = s.pmu := rfl
@[simp] theorem State.wr_host (s : State) (a) (v) : (s.wr a v).host = s.host := rfl
@[simp] theorem State.wr_cmp (s : State) (a) (v) : (s.wr a v).cmp = s.cmp := rfl
@[simp] theorem State.wr_lq (s : State) (a) (v) : (s.wr a v).lq = s.lq := rfl
@[simp] theorem State.wr_lqPort (s : State) (a) (v) : (s.wr a v).lqPort = s.lqPort := rfl
@[simp] theorem State.wr_hpt (s : State) (a) (v) : (s.wr a v).hpt = s.hpt := rfl
@[simp] theorem State.wr_wfe (s : State) (a) (v) : (s.wr a v).wfe = s.wfe := rfl
@[simp] theorem State.wr_whead (s : State) (a) (v) : (s.wr a v).whead = s.whead := rfl
@[simp] theorem State.wr_nh (s : State) (a) (v) : (s.wr a v).nh = s.nh := rfl
@[simp] theorem State.wr_nhead (s : State) (a) (v) : (s.wr a v).nhead = s.nhead := rfl
@[simp] theorem State.wr_cal (s : State) (a) (v) : (s.wr a v).cal = s.cal := rfl
@[simp] theorem State.wr_axis (s : State) (a) (v) : (s.wr a v).axis = s.axis := rfl
@[simp] theorem State.wr_otp (s : State) (a) (v) : (s.wr a v).otp = s.otp := rfl
@[simp] theorem State.wr_weir (s : State) (a) (v) : (s.wr a v).weir = s.weir := rfl
@[simp] theorem State.wr_fire (s : State) (a) (v) : (s.wr a v).fire = s.fire := rfl
@[simp] theorem State.wr_dma (s : State) (a) (v) : (s.wr a v).dma = s.dma := rfl
@[simp] theorem State.wr_memc (s : State) (a) (v) : (s.wr a v).memc = s.memc := rfl
@[simp] theorem State.wr_fab (s : State) (a) (v) : (s.wr a v).fab = s.fab := rfl
@[simp] theorem State.wr_tap (s : State) (a) (v) : (s.wr a v).tap = s.tap := rfl
@[simp] theorem State.wr_fresh (s : State) (a) (v) : (s.wr a v).fresh = s.fresh := rfl
@[simp] theorem State.wr_pending (s : State) (a) (v) : (s.wr a v).pending = s.pending := rfl

@[simp] theorem State.put_act (s : State) (f) (v) : (s.put f v).act = s.act := rfl
@[simp] theorem State.put_mem (s : State) (f) (v) : (s.put f v).mem = s.mem := rfl
@[simp] theorem State.put_time (s : State) (f) (v) : (s.put f v).time = s.time := rfl
@[simp] theorem State.put_ticks (s : State) (f) (v) : (s.put f v).ticks = s.ticks := rfl
@[simp] theorem State.put_rdata (s : State) (f) (v) : (s.put f v).rdata = s.rdata := rfl
@[simp] theorem State.put_resp (s : State) (f) (v) : (s.put f v).resp = s.resp := rfl
@[simp] theorem State.put_root (s : State) (f) (v) : (s.put f v).root = s.root := rfl
@[simp] theorem State.put_small (s : State) (f) (v) : (s.put f v).small = s.small := rfl
@[simp] theorem State.put_jobs (s : State) (f) (v) : (s.put f v).jobs = s.jobs := rfl
@[simp] theorem State.put_jobSeq (s : State) (f) (v) : (s.put f v).jobSeq = s.jobSeq := rfl
@[simp] theorem State.put_swaps (s : State) (f) (v) : (s.put f v).swaps = s.swaps := rfl
@[simp] theorem State.put_sys (s : State) (f) (v) : (s.put f v).sys = s.sys := rfl
@[simp] theorem State.put_pmu (s : State) (f) (v) : (s.put f v).pmu = s.pmu := rfl
@[simp] theorem State.put_host (s : State) (f) (v) : (s.put f v).host = s.host := rfl
@[simp] theorem State.put_cmp (s : State) (f) (v) : (s.put f v).cmp = s.cmp := rfl
@[simp] theorem State.put_lq (s : State) (f) (v) : (s.put f v).lq = s.lq := rfl
@[simp] theorem State.put_lqPort (s : State) (f) (v) : (s.put f v).lqPort = s.lqPort := rfl
@[simp] theorem State.put_hpt (s : State) (f) (v) : (s.put f v).hpt = s.hpt := rfl
@[simp] theorem State.put_wfe (s : State) (f) (v) : (s.put f v).wfe = s.wfe := rfl
@[simp] theorem State.put_whead (s : State) (f) (v) : (s.put f v).whead = s.whead := rfl
@[simp] theorem State.put_nh (s : State) (f) (v) : (s.put f v).nh = s.nh := rfl
@[simp] theorem State.put_nhead (s : State) (f) (v) : (s.put f v).nhead = s.nhead := rfl
@[simp] theorem State.put_cal (s : State) (f) (v) : (s.put f v).cal = s.cal := rfl
@[simp] theorem State.put_axis (s : State) (f) (v) : (s.put f v).axis = s.axis := rfl
@[simp] theorem State.put_otp (s : State) (f) (v) : (s.put f v).otp = s.otp := rfl
@[simp] theorem State.put_weir (s : State) (f) (v) : (s.put f v).weir = s.weir := rfl
@[simp] theorem State.put_fire (s : State) (f) (v) : (s.put f v).fire = s.fire := rfl
@[simp] theorem State.put_dma (s : State) (f) (v) : (s.put f v).dma = s.dma := rfl
@[simp] theorem State.put_memc (s : State) (f) (v) : (s.put f v).memc = s.memc := rfl
@[simp] theorem State.put_fab (s : State) (f) (v) : (s.put f v).fab = s.fab := rfl
@[simp] theorem State.put_tap (s : State) (f) (v) : (s.put f v).tap = s.tap := rfl
@[simp] theorem State.put_fresh (s : State) (f) (v) : (s.put f v).fresh = s.fresh := rfl
@[simp] theorem State.put_pending (s : State) (f) (v) : (s.put f v).pending = s.pending := rfl

@[simp] theorem State.raise_act (s : State) (f) : (s.raise f).act = s.act := rfl
@[simp] theorem State.raise_mem (s : State) (f) : (s.raise f).mem = s.mem := rfl
@[simp] theorem State.raise_time (s : State) (f) : (s.raise f).time = s.time := rfl
@[simp] theorem State.raise_ticks (s : State) (f) : (s.raise f).ticks = s.ticks := rfl
@[simp] theorem State.raise_rdata (s : State) (f) : (s.raise f).rdata = s.rdata := rfl
@[simp] theorem State.raise_resp (s : State) (f) : (s.raise f).resp = s.resp := rfl
@[simp] theorem State.raise_root (s : State) (f) : (s.raise f).root = s.root := rfl
@[simp] theorem State.raise_small (s : State) (f) : (s.raise f).small = s.small := rfl
@[simp] theorem State.raise_jobs (s : State) (f) : (s.raise f).jobs = s.jobs := rfl
@[simp] theorem State.raise_jobSeq (s : State) (f) : (s.raise f).jobSeq = s.jobSeq := rfl
@[simp] theorem State.raise_swaps (s : State) (f) : (s.raise f).swaps = s.swaps := rfl
@[simp] theorem State.raise_sys (s : State) (f) : (s.raise f).sys = s.sys := rfl
@[simp] theorem State.raise_pmu (s : State) (f) : (s.raise f).pmu = s.pmu := rfl
@[simp] theorem State.raise_host (s : State) (f) : (s.raise f).host = s.host := rfl
@[simp] theorem State.raise_cmp (s : State) (f) : (s.raise f).cmp = s.cmp := rfl
@[simp] theorem State.raise_lq (s : State) (f) : (s.raise f).lq = s.lq := rfl
@[simp] theorem State.raise_lqPort (s : State) (f) : (s.raise f).lqPort = s.lqPort := rfl
@[simp] theorem State.raise_hpt (s : State) (f) : (s.raise f).hpt = s.hpt := rfl
@[simp] theorem State.raise_wfe (s : State) (f) : (s.raise f).wfe = s.wfe := rfl
@[simp] theorem State.raise_whead (s : State) (f) : (s.raise f).whead = s.whead := rfl
@[simp] theorem State.raise_nh (s : State) (f) : (s.raise f).nh = s.nh := rfl
@[simp] theorem State.raise_nhead (s : State) (f) : (s.raise f).nhead = s.nhead := rfl
@[simp] theorem State.raise_cal (s : State) (f) : (s.raise f).cal = s.cal := rfl
@[simp] theorem State.raise_axis (s : State) (f) : (s.raise f).axis = s.axis := rfl
@[simp] theorem State.raise_otp (s : State) (f) : (s.raise f).otp = s.otp := rfl
@[simp] theorem State.raise_weir (s : State) (f) : (s.raise f).weir = s.weir := rfl
@[simp] theorem State.raise_fire (s : State) (f) : (s.raise f).fire = s.fire := rfl
@[simp] theorem State.raise_dma (s : State) (f) : (s.raise f).dma = s.dma := rfl
@[simp] theorem State.raise_memc (s : State) (f) : (s.raise f).memc = s.memc := rfl
@[simp] theorem State.raise_fab (s : State) (f) : (s.raise f).fab = s.fab := rfl
@[simp] theorem State.raise_tap (s : State) (f) : (s.raise f).tap = s.tap := rfl
@[simp] theorem State.raise_fresh (s : State) (f) : (s.raise f).fresh = s.fresh := rfl
@[simp] theorem State.raise_pending (s : State) (f) : (s.raise f).pending = s.pending := rfl

@[simp] theorem State.drop_act (s : State) (f) : (s.drop f).act = s.act := rfl
@[simp] theorem State.drop_mem (s : State) (f) : (s.drop f).mem = s.mem := rfl
@[simp] theorem State.drop_time (s : State) (f) : (s.drop f).time = s.time := rfl
@[simp] theorem State.drop_ticks (s : State) (f) : (s.drop f).ticks = s.ticks := rfl
@[simp] theorem State.drop_rdata (s : State) (f) : (s.drop f).rdata = s.rdata := rfl
@[simp] theorem State.drop_resp (s : State) (f) : (s.drop f).resp = s.resp := rfl
@[simp] theorem State.drop_root (s : State) (f) : (s.drop f).root = s.root := rfl
@[simp] theorem State.drop_small (s : State) (f) : (s.drop f).small = s.small := rfl
@[simp] theorem State.drop_jobs (s : State) (f) : (s.drop f).jobs = s.jobs := rfl
@[simp] theorem State.drop_jobSeq (s : State) (f) : (s.drop f).jobSeq = s.jobSeq := rfl
@[simp] theorem State.drop_swaps (s : State) (f) : (s.drop f).swaps = s.swaps := rfl
@[simp] theorem State.drop_sys (s : State) (f) : (s.drop f).sys = s.sys := rfl
@[simp] theorem State.drop_pmu (s : State) (f) : (s.drop f).pmu = s.pmu := rfl
@[simp] theorem State.drop_host (s : State) (f) : (s.drop f).host = s.host := rfl
@[simp] theorem State.drop_cmp (s : State) (f) : (s.drop f).cmp = s.cmp := rfl
@[simp] theorem State.drop_lq (s : State) (f) : (s.drop f).lq = s.lq := rfl
@[simp] theorem State.drop_lqPort (s : State) (f) : (s.drop f).lqPort = s.lqPort := rfl
@[simp] theorem State.drop_hpt (s : State) (f) : (s.drop f).hpt = s.hpt := rfl
@[simp] theorem State.drop_wfe (s : State) (f) : (s.drop f).wfe = s.wfe := rfl
@[simp] theorem State.drop_whead (s : State) (f) : (s.drop f).whead = s.whead := rfl
@[simp] theorem State.drop_nh (s : State) (f) : (s.drop f).nh = s.nh := rfl
@[simp] theorem State.drop_nhead (s : State) (f) : (s.drop f).nhead = s.nhead := rfl
@[simp] theorem State.drop_cal (s : State) (f) : (s.drop f).cal = s.cal := rfl
@[simp] theorem State.drop_axis (s : State) (f) : (s.drop f).axis = s.axis := rfl
@[simp] theorem State.drop_otp (s : State) (f) : (s.drop f).otp = s.otp := rfl
@[simp] theorem State.drop_weir (s : State) (f) : (s.drop f).weir = s.weir := rfl
@[simp] theorem State.drop_fire (s : State) (f) : (s.drop f).fire = s.fire := rfl
@[simp] theorem State.drop_dma (s : State) (f) : (s.drop f).dma = s.dma := rfl
@[simp] theorem State.drop_memc (s : State) (f) : (s.drop f).memc = s.memc := rfl
@[simp] theorem State.drop_fab (s : State) (f) : (s.drop f).fab = s.fab := rfl
@[simp] theorem State.drop_tap (s : State) (f) : (s.drop f).tap = s.tap := rfl
@[simp] theorem State.drop_fresh (s : State) (f) : (s.drop f).fresh = s.fresh := rfl
@[simp] theorem State.drop_pending (s : State) (f) : (s.drop f).pending = s.pending := rfl

@[simp] theorem State.bump_act (s : State) (f) (n) : (s.bump f n).act = s.act := rfl
@[simp] theorem State.bump_mem (s : State) (f) (n) : (s.bump f n).mem = s.mem := rfl
@[simp] theorem State.bump_time (s : State) (f) (n) : (s.bump f n).time = s.time := rfl
@[simp] theorem State.bump_ticks (s : State) (f) (n) : (s.bump f n).ticks = s.ticks := rfl
@[simp] theorem State.bump_rdata (s : State) (f) (n) : (s.bump f n).rdata = s.rdata := rfl
@[simp] theorem State.bump_resp (s : State) (f) (n) : (s.bump f n).resp = s.resp := rfl
@[simp] theorem State.bump_root (s : State) (f) (n) : (s.bump f n).root = s.root := rfl
@[simp] theorem State.bump_small (s : State) (f) (n) : (s.bump f n).small = s.small := rfl
@[simp] theorem State.bump_jobs (s : State) (f) (n) : (s.bump f n).jobs = s.jobs := rfl
@[simp] theorem State.bump_jobSeq (s : State) (f) (n) : (s.bump f n).jobSeq = s.jobSeq := rfl
@[simp] theorem State.bump_swaps (s : State) (f) (n) : (s.bump f n).swaps = s.swaps := rfl
@[simp] theorem State.bump_sys (s : State) (f) (n) : (s.bump f n).sys = s.sys := rfl
@[simp] theorem State.bump_pmu (s : State) (f) (n) : (s.bump f n).pmu = s.pmu := rfl
@[simp] theorem State.bump_host (s : State) (f) (n) : (s.bump f n).host = s.host := rfl
@[simp] theorem State.bump_cmp (s : State) (f) (n) : (s.bump f n).cmp = s.cmp := rfl
@[simp] theorem State.bump_lq (s : State) (f) (n) : (s.bump f n).lq = s.lq := rfl
@[simp] theorem State.bump_lqPort (s : State) (f) (n) : (s.bump f n).lqPort = s.lqPort := rfl
@[simp] theorem State.bump_hpt (s : State) (f) (n) : (s.bump f n).hpt = s.hpt := rfl
@[simp] theorem State.bump_wfe (s : State) (f) (n) : (s.bump f n).wfe = s.wfe := rfl
@[simp] theorem State.bump_whead (s : State) (f) (n) : (s.bump f n).whead = s.whead := rfl
@[simp] theorem State.bump_nh (s : State) (f) (n) : (s.bump f n).nh = s.nh := rfl
@[simp] theorem State.bump_nhead (s : State) (f) (n) : (s.bump f n).nhead = s.nhead := rfl
@[simp] theorem State.bump_cal (s : State) (f) (n) : (s.bump f n).cal = s.cal := rfl
@[simp] theorem State.bump_axis (s : State) (f) (n) : (s.bump f n).axis = s.axis := rfl
@[simp] theorem State.bump_otp (s : State) (f) (n) : (s.bump f n).otp = s.otp := rfl
@[simp] theorem State.bump_weir (s : State) (f) (n) : (s.bump f n).weir = s.weir := rfl
@[simp] theorem State.bump_fire (s : State) (f) (n) : (s.bump f n).fire = s.fire := rfl
@[simp] theorem State.bump_dma (s : State) (f) (n) : (s.bump f n).dma = s.dma := rfl
@[simp] theorem State.bump_memc (s : State) (f) (n) : (s.bump f n).memc = s.memc := rfl
@[simp] theorem State.bump_fab (s : State) (f) (n) : (s.bump f n).fab = s.fab := rfl
@[simp] theorem State.bump_tap (s : State) (f) (n) : (s.bump f n).tap = s.tap := rfl
@[simp] theorem State.bump_fresh (s : State) (f) (n) : (s.bump f n).fresh = s.fresh := rfl
@[simp] theorem State.bump_pending (s : State) (f) (n) : (s.bump f n).pending = s.pending := rfl

@[simp] theorem State.bumpSat_act (s : State) (f) (n) : (s.bumpSat f n).act = s.act := rfl
@[simp] theorem State.bumpSat_mem (s : State) (f) (n) : (s.bumpSat f n).mem = s.mem := rfl
@[simp] theorem State.bumpSat_time (s : State) (f) (n) : (s.bumpSat f n).time = s.time := rfl
@[simp] theorem State.bumpSat_ticks (s : State) (f) (n) : (s.bumpSat f n).ticks = s.ticks := rfl
@[simp] theorem State.bumpSat_rdata (s : State) (f) (n) : (s.bumpSat f n).rdata = s.rdata := rfl
@[simp] theorem State.bumpSat_resp (s : State) (f) (n) : (s.bumpSat f n).resp = s.resp := rfl
@[simp] theorem State.bumpSat_root (s : State) (f) (n) : (s.bumpSat f n).root = s.root := rfl
@[simp] theorem State.bumpSat_small (s : State) (f) (n) : (s.bumpSat f n).small = s.small := rfl
@[simp] theorem State.bumpSat_jobs (s : State) (f) (n) : (s.bumpSat f n).jobs = s.jobs := rfl
@[simp] theorem State.bumpSat_jobSeq (s : State) (f) (n) : (s.bumpSat f n).jobSeq = s.jobSeq := rfl
@[simp] theorem State.bumpSat_swaps (s : State) (f) (n) : (s.bumpSat f n).swaps = s.swaps := rfl
@[simp] theorem State.bumpSat_sys (s : State) (f) (n) : (s.bumpSat f n).sys = s.sys := rfl
@[simp] theorem State.bumpSat_pmu (s : State) (f) (n) : (s.bumpSat f n).pmu = s.pmu := rfl
@[simp] theorem State.bumpSat_host (s : State) (f) (n) : (s.bumpSat f n).host = s.host := rfl
@[simp] theorem State.bumpSat_cmp (s : State) (f) (n) : (s.bumpSat f n).cmp = s.cmp := rfl
@[simp] theorem State.bumpSat_lq (s : State) (f) (n) : (s.bumpSat f n).lq = s.lq := rfl
@[simp] theorem State.bumpSat_lqPort (s : State) (f) (n) : (s.bumpSat f n).lqPort = s.lqPort := rfl
@[simp] theorem State.bumpSat_hpt (s : State) (f) (n) : (s.bumpSat f n).hpt = s.hpt := rfl
@[simp] theorem State.bumpSat_wfe (s : State) (f) (n) : (s.bumpSat f n).wfe = s.wfe := rfl
@[simp] theorem State.bumpSat_whead (s : State) (f) (n) : (s.bumpSat f n).whead = s.whead := rfl
@[simp] theorem State.bumpSat_nh (s : State) (f) (n) : (s.bumpSat f n).nh = s.nh := rfl
@[simp] theorem State.bumpSat_nhead (s : State) (f) (n) : (s.bumpSat f n).nhead = s.nhead := rfl
@[simp] theorem State.bumpSat_cal (s : State) (f) (n) : (s.bumpSat f n).cal = s.cal := rfl
@[simp] theorem State.bumpSat_axis (s : State) (f) (n) : (s.bumpSat f n).axis = s.axis := rfl
@[simp] theorem State.bumpSat_otp (s : State) (f) (n) : (s.bumpSat f n).otp = s.otp := rfl
@[simp] theorem State.bumpSat_weir (s : State) (f) (n) : (s.bumpSat f n).weir = s.weir := rfl
@[simp] theorem State.bumpSat_fire (s : State) (f) (n) : (s.bumpSat f n).fire = s.fire := rfl
@[simp] theorem State.bumpSat_dma (s : State) (f) (n) : (s.bumpSat f n).dma = s.dma := rfl
@[simp] theorem State.bumpSat_memc (s : State) (f) (n) : (s.bumpSat f n).memc = s.memc := rfl
@[simp] theorem State.bumpSat_fab (s : State) (f) (n) : (s.bumpSat f n).fab = s.fab := rfl
@[simp] theorem State.bumpSat_tap (s : State) (f) (n) : (s.bumpSat f n).tap = s.tap := rfl
@[simp] theorem State.bumpSat_fresh (s : State) (f) (n) : (s.bumpSat f n).fresh = s.fresh := rfl
@[simp] theorem State.bumpSat_pending (s : State) (f) (n) : (s.bumpSat f n).pending = s.pending := rfl

@[simp] theorem State.setByte_regs (s : State) (a) (b) : (s.setByte a b).regs = s.regs := rfl
@[simp] theorem State.setByte_act (s : State) (a) (b) : (s.setByte a b).act = s.act := rfl
@[simp] theorem State.setByte_time (s : State) (a) (b) : (s.setByte a b).time = s.time := rfl
@[simp] theorem State.setByte_ticks (s : State) (a) (b) : (s.setByte a b).ticks = s.ticks := rfl
@[simp] theorem State.setByte_rdata (s : State) (a) (b) : (s.setByte a b).rdata = s.rdata := rfl
@[simp] theorem State.setByte_resp (s : State) (a) (b) : (s.setByte a b).resp = s.resp := rfl
@[simp] theorem State.setByte_root (s : State) (a) (b) : (s.setByte a b).root = s.root := rfl
@[simp] theorem State.setByte_small (s : State) (a) (b) : (s.setByte a b).small = s.small := rfl
@[simp] theorem State.setByte_jobs (s : State) (a) (b) : (s.setByte a b).jobs = s.jobs := rfl
@[simp] theorem State.setByte_jobSeq (s : State) (a) (b) : (s.setByte a b).jobSeq = s.jobSeq := rfl
@[simp] theorem State.setByte_swaps (s : State) (a) (b) : (s.setByte a b).swaps = s.swaps := rfl
@[simp] theorem State.setByte_sys (s : State) (a) (b) : (s.setByte a b).sys = s.sys := rfl
@[simp] theorem State.setByte_pmu (s : State) (a) (b) : (s.setByte a b).pmu = s.pmu := rfl
@[simp] theorem State.setByte_host (s : State) (a) (b) : (s.setByte a b).host = s.host := rfl
@[simp] theorem State.setByte_cmp (s : State) (a) (b) : (s.setByte a b).cmp = s.cmp := rfl
@[simp] theorem State.setByte_lq (s : State) (a) (b) : (s.setByte a b).lq = s.lq := rfl
@[simp] theorem State.setByte_lqPort (s : State) (a) (b) : (s.setByte a b).lqPort = s.lqPort := rfl
@[simp] theorem State.setByte_hpt (s : State) (a) (b) : (s.setByte a b).hpt = s.hpt := rfl
@[simp] theorem State.setByte_wfe (s : State) (a) (b) : (s.setByte a b).wfe = s.wfe := rfl
@[simp] theorem State.setByte_whead (s : State) (a) (b) : (s.setByte a b).whead = s.whead := rfl
@[simp] theorem State.setByte_nh (s : State) (a) (b) : (s.setByte a b).nh = s.nh := rfl
@[simp] theorem State.setByte_nhead (s : State) (a) (b) : (s.setByte a b).nhead = s.nhead := rfl
@[simp] theorem State.setByte_cal (s : State) (a) (b) : (s.setByte a b).cal = s.cal := rfl
@[simp] theorem State.setByte_axis (s : State) (a) (b) : (s.setByte a b).axis = s.axis := rfl
@[simp] theorem State.setByte_otp (s : State) (a) (b) : (s.setByte a b).otp = s.otp := rfl
@[simp] theorem State.setByte_weir (s : State) (a) (b) : (s.setByte a b).weir = s.weir := rfl
@[simp] theorem State.setByte_fire (s : State) (a) (b) : (s.setByte a b).fire = s.fire := rfl
@[simp] theorem State.setByte_dma (s : State) (a) (b) : (s.setByte a b).dma = s.dma := rfl
@[simp] theorem State.setByte_memc (s : State) (a) (b) : (s.setByte a b).memc = s.memc := rfl
@[simp] theorem State.setByte_fab (s : State) (a) (b) : (s.setByte a b).fab = s.fab := rfl
@[simp] theorem State.setByte_tap (s : State) (a) (b) : (s.setByte a b).tap = s.tap := rfl
@[simp] theorem State.setByte_fresh (s : State) (a) (b) : (s.setByte a b).fresh = s.fresh := rfl
@[simp] theorem State.setByte_pending (s : State) (a) (b) : (s.setByte a b).pending = s.pending := rfl

@[simp] theorem State.onSys_regs (s : State) (f) : (s.onSys f).regs = s.regs := rfl
@[simp] theorem State.onSys_act (s : State) (f) : (s.onSys f).act = s.act := rfl
@[simp] theorem State.onSys_mem (s : State) (f) : (s.onSys f).mem = s.mem := rfl
@[simp] theorem State.onSys_time (s : State) (f) : (s.onSys f).time = s.time := rfl
@[simp] theorem State.onSys_ticks (s : State) (f) : (s.onSys f).ticks = s.ticks := rfl
@[simp] theorem State.onSys_rdata (s : State) (f) : (s.onSys f).rdata = s.rdata := rfl
@[simp] theorem State.onSys_resp (s : State) (f) : (s.onSys f).resp = s.resp := rfl
@[simp] theorem State.onSys_root (s : State) (f) : (s.onSys f).root = s.root := rfl
@[simp] theorem State.onSys_small (s : State) (f) : (s.onSys f).small = s.small := rfl
@[simp] theorem State.onSys_jobs (s : State) (f) : (s.onSys f).jobs = s.jobs := rfl
@[simp] theorem State.onSys_jobSeq (s : State) (f) : (s.onSys f).jobSeq = s.jobSeq := rfl
@[simp] theorem State.onSys_swaps (s : State) (f) : (s.onSys f).swaps = s.swaps := rfl
@[simp] theorem State.onSys_pmu (s : State) (f) : (s.onSys f).pmu = s.pmu := rfl
@[simp] theorem State.onSys_host (s : State) (f) : (s.onSys f).host = s.host := rfl
@[simp] theorem State.onSys_cmp (s : State) (f) : (s.onSys f).cmp = s.cmp := rfl
@[simp] theorem State.onSys_lq (s : State) (f) : (s.onSys f).lq = s.lq := rfl
@[simp] theorem State.onSys_lqPort (s : State) (f) : (s.onSys f).lqPort = s.lqPort := rfl
@[simp] theorem State.onSys_hpt (s : State) (f) : (s.onSys f).hpt = s.hpt := rfl
@[simp] theorem State.onSys_wfe (s : State) (f) : (s.onSys f).wfe = s.wfe := rfl
@[simp] theorem State.onSys_whead (s : State) (f) : (s.onSys f).whead = s.whead := rfl
@[simp] theorem State.onSys_nh (s : State) (f) : (s.onSys f).nh = s.nh := rfl
@[simp] theorem State.onSys_nhead (s : State) (f) : (s.onSys f).nhead = s.nhead := rfl
@[simp] theorem State.onSys_cal (s : State) (f) : (s.onSys f).cal = s.cal := rfl
@[simp] theorem State.onSys_axis (s : State) (f) : (s.onSys f).axis = s.axis := rfl
@[simp] theorem State.onSys_otp (s : State) (f) : (s.onSys f).otp = s.otp := rfl
@[simp] theorem State.onSys_weir (s : State) (f) : (s.onSys f).weir = s.weir := rfl
@[simp] theorem State.onSys_fire (s : State) (f) : (s.onSys f).fire = s.fire := rfl
@[simp] theorem State.onSys_dma (s : State) (f) : (s.onSys f).dma = s.dma := rfl
@[simp] theorem State.onSys_memc (s : State) (f) : (s.onSys f).memc = s.memc := rfl
@[simp] theorem State.onSys_fab (s : State) (f) : (s.onSys f).fab = s.fab := rfl
@[simp] theorem State.onSys_tap (s : State) (f) : (s.onSys f).tap = s.tap := rfl
@[simp] theorem State.onSys_fresh (s : State) (f) : (s.onSys f).fresh = s.fresh := rfl
@[simp] theorem State.onSys_pending (s : State) (f) : (s.onSys f).pending = s.pending := rfl

@[simp] theorem State.onPmu_regs (s : State) (f) : (s.onPmu f).regs = s.regs := rfl
@[simp] theorem State.onPmu_act (s : State) (f) : (s.onPmu f).act = s.act := rfl
@[simp] theorem State.onPmu_mem (s : State) (f) : (s.onPmu f).mem = s.mem := rfl
@[simp] theorem State.onPmu_time (s : State) (f) : (s.onPmu f).time = s.time := rfl
@[simp] theorem State.onPmu_ticks (s : State) (f) : (s.onPmu f).ticks = s.ticks := rfl
@[simp] theorem State.onPmu_rdata (s : State) (f) : (s.onPmu f).rdata = s.rdata := rfl
@[simp] theorem State.onPmu_resp (s : State) (f) : (s.onPmu f).resp = s.resp := rfl
@[simp] theorem State.onPmu_root (s : State) (f) : (s.onPmu f).root = s.root := rfl
@[simp] theorem State.onPmu_small (s : State) (f) : (s.onPmu f).small = s.small := rfl
@[simp] theorem State.onPmu_jobs (s : State) (f) : (s.onPmu f).jobs = s.jobs := rfl
@[simp] theorem State.onPmu_jobSeq (s : State) (f) : (s.onPmu f).jobSeq = s.jobSeq := rfl
@[simp] theorem State.onPmu_swaps (s : State) (f) : (s.onPmu f).swaps = s.swaps := rfl
@[simp] theorem State.onPmu_sys (s : State) (f) : (s.onPmu f).sys = s.sys := rfl
@[simp] theorem State.onPmu_host (s : State) (f) : (s.onPmu f).host = s.host := rfl
@[simp] theorem State.onPmu_cmp (s : State) (f) : (s.onPmu f).cmp = s.cmp := rfl
@[simp] theorem State.onPmu_lq (s : State) (f) : (s.onPmu f).lq = s.lq := rfl
@[simp] theorem State.onPmu_lqPort (s : State) (f) : (s.onPmu f).lqPort = s.lqPort := rfl
@[simp] theorem State.onPmu_hpt (s : State) (f) : (s.onPmu f).hpt = s.hpt := rfl
@[simp] theorem State.onPmu_wfe (s : State) (f) : (s.onPmu f).wfe = s.wfe := rfl
@[simp] theorem State.onPmu_whead (s : State) (f) : (s.onPmu f).whead = s.whead := rfl
@[simp] theorem State.onPmu_nh (s : State) (f) : (s.onPmu f).nh = s.nh := rfl
@[simp] theorem State.onPmu_nhead (s : State) (f) : (s.onPmu f).nhead = s.nhead := rfl
@[simp] theorem State.onPmu_cal (s : State) (f) : (s.onPmu f).cal = s.cal := rfl
@[simp] theorem State.onPmu_axis (s : State) (f) : (s.onPmu f).axis = s.axis := rfl
@[simp] theorem State.onPmu_otp (s : State) (f) : (s.onPmu f).otp = s.otp := rfl
@[simp] theorem State.onPmu_weir (s : State) (f) : (s.onPmu f).weir = s.weir := rfl
@[simp] theorem State.onPmu_fire (s : State) (f) : (s.onPmu f).fire = s.fire := rfl
@[simp] theorem State.onPmu_dma (s : State) (f) : (s.onPmu f).dma = s.dma := rfl
@[simp] theorem State.onPmu_memc (s : State) (f) : (s.onPmu f).memc = s.memc := rfl
@[simp] theorem State.onPmu_fab (s : State) (f) : (s.onPmu f).fab = s.fab := rfl
@[simp] theorem State.onPmu_tap (s : State) (f) : (s.onPmu f).tap = s.tap := rfl
@[simp] theorem State.onPmu_fresh (s : State) (f) : (s.onPmu f).fresh = s.fresh := rfl
@[simp] theorem State.onPmu_pending (s : State) (f) : (s.onPmu f).pending = s.pending := rfl

@[simp] theorem State.onHost_regs (s : State) (f) : (s.onHost f).regs = s.regs := rfl
@[simp] theorem State.onHost_act (s : State) (f) : (s.onHost f).act = s.act := rfl
@[simp] theorem State.onHost_mem (s : State) (f) : (s.onHost f).mem = s.mem := rfl
@[simp] theorem State.onHost_time (s : State) (f) : (s.onHost f).time = s.time := rfl
@[simp] theorem State.onHost_ticks (s : State) (f) : (s.onHost f).ticks = s.ticks := rfl
@[simp] theorem State.onHost_rdata (s : State) (f) : (s.onHost f).rdata = s.rdata := rfl
@[simp] theorem State.onHost_resp (s : State) (f) : (s.onHost f).resp = s.resp := rfl
@[simp] theorem State.onHost_root (s : State) (f) : (s.onHost f).root = s.root := rfl
@[simp] theorem State.onHost_small (s : State) (f) : (s.onHost f).small = s.small := rfl
@[simp] theorem State.onHost_jobs (s : State) (f) : (s.onHost f).jobs = s.jobs := rfl
@[simp] theorem State.onHost_jobSeq (s : State) (f) : (s.onHost f).jobSeq = s.jobSeq := rfl
@[simp] theorem State.onHost_swaps (s : State) (f) : (s.onHost f).swaps = s.swaps := rfl
@[simp] theorem State.onHost_sys (s : State) (f) : (s.onHost f).sys = s.sys := rfl
@[simp] theorem State.onHost_pmu (s : State) (f) : (s.onHost f).pmu = s.pmu := rfl
@[simp] theorem State.onHost_cmp (s : State) (f) : (s.onHost f).cmp = s.cmp := rfl
@[simp] theorem State.onHost_lq (s : State) (f) : (s.onHost f).lq = s.lq := rfl
@[simp] theorem State.onHost_lqPort (s : State) (f) : (s.onHost f).lqPort = s.lqPort := rfl
@[simp] theorem State.onHost_hpt (s : State) (f) : (s.onHost f).hpt = s.hpt := rfl
@[simp] theorem State.onHost_wfe (s : State) (f) : (s.onHost f).wfe = s.wfe := rfl
@[simp] theorem State.onHost_whead (s : State) (f) : (s.onHost f).whead = s.whead := rfl
@[simp] theorem State.onHost_nh (s : State) (f) : (s.onHost f).nh = s.nh := rfl
@[simp] theorem State.onHost_nhead (s : State) (f) : (s.onHost f).nhead = s.nhead := rfl
@[simp] theorem State.onHost_cal (s : State) (f) : (s.onHost f).cal = s.cal := rfl
@[simp] theorem State.onHost_axis (s : State) (f) : (s.onHost f).axis = s.axis := rfl
@[simp] theorem State.onHost_otp (s : State) (f) : (s.onHost f).otp = s.otp := rfl
@[simp] theorem State.onHost_weir (s : State) (f) : (s.onHost f).weir = s.weir := rfl
@[simp] theorem State.onHost_fire (s : State) (f) : (s.onHost f).fire = s.fire := rfl
@[simp] theorem State.onHost_dma (s : State) (f) : (s.onHost f).dma = s.dma := rfl
@[simp] theorem State.onHost_memc (s : State) (f) : (s.onHost f).memc = s.memc := rfl
@[simp] theorem State.onHost_fab (s : State) (f) : (s.onHost f).fab = s.fab := rfl
@[simp] theorem State.onHost_tap (s : State) (f) : (s.onHost f).tap = s.tap := rfl
@[simp] theorem State.onHost_fresh (s : State) (f) : (s.onHost f).fresh = s.fresh := rfl
@[simp] theorem State.onHost_pending (s : State) (f) : (s.onHost f).pending = s.pending := rfl

@[simp] theorem State.onCmp_regs (s : State) (f) : (s.onCmp f).regs = s.regs := rfl
@[simp] theorem State.onCmp_act (s : State) (f) : (s.onCmp f).act = s.act := rfl
@[simp] theorem State.onCmp_mem (s : State) (f) : (s.onCmp f).mem = s.mem := rfl
@[simp] theorem State.onCmp_time (s : State) (f) : (s.onCmp f).time = s.time := rfl
@[simp] theorem State.onCmp_ticks (s : State) (f) : (s.onCmp f).ticks = s.ticks := rfl
@[simp] theorem State.onCmp_rdata (s : State) (f) : (s.onCmp f).rdata = s.rdata := rfl
@[simp] theorem State.onCmp_resp (s : State) (f) : (s.onCmp f).resp = s.resp := rfl
@[simp] theorem State.onCmp_root (s : State) (f) : (s.onCmp f).root = s.root := rfl
@[simp] theorem State.onCmp_small (s : State) (f) : (s.onCmp f).small = s.small := rfl
@[simp] theorem State.onCmp_jobs (s : State) (f) : (s.onCmp f).jobs = s.jobs := rfl
@[simp] theorem State.onCmp_jobSeq (s : State) (f) : (s.onCmp f).jobSeq = s.jobSeq := rfl
@[simp] theorem State.onCmp_swaps (s : State) (f) : (s.onCmp f).swaps = s.swaps := rfl
@[simp] theorem State.onCmp_sys (s : State) (f) : (s.onCmp f).sys = s.sys := rfl
@[simp] theorem State.onCmp_pmu (s : State) (f) : (s.onCmp f).pmu = s.pmu := rfl
@[simp] theorem State.onCmp_host (s : State) (f) : (s.onCmp f).host = s.host := rfl
@[simp] theorem State.onCmp_lq (s : State) (f) : (s.onCmp f).lq = s.lq := rfl
@[simp] theorem State.onCmp_lqPort (s : State) (f) : (s.onCmp f).lqPort = s.lqPort := rfl
@[simp] theorem State.onCmp_hpt (s : State) (f) : (s.onCmp f).hpt = s.hpt := rfl
@[simp] theorem State.onCmp_wfe (s : State) (f) : (s.onCmp f).wfe = s.wfe := rfl
@[simp] theorem State.onCmp_whead (s : State) (f) : (s.onCmp f).whead = s.whead := rfl
@[simp] theorem State.onCmp_nh (s : State) (f) : (s.onCmp f).nh = s.nh := rfl
@[simp] theorem State.onCmp_nhead (s : State) (f) : (s.onCmp f).nhead = s.nhead := rfl
@[simp] theorem State.onCmp_cal (s : State) (f) : (s.onCmp f).cal = s.cal := rfl
@[simp] theorem State.onCmp_axis (s : State) (f) : (s.onCmp f).axis = s.axis := rfl
@[simp] theorem State.onCmp_otp (s : State) (f) : (s.onCmp f).otp = s.otp := rfl
@[simp] theorem State.onCmp_weir (s : State) (f) : (s.onCmp f).weir = s.weir := rfl
@[simp] theorem State.onCmp_fire (s : State) (f) : (s.onCmp f).fire = s.fire := rfl
@[simp] theorem State.onCmp_dma (s : State) (f) : (s.onCmp f).dma = s.dma := rfl
@[simp] theorem State.onCmp_memc (s : State) (f) : (s.onCmp f).memc = s.memc := rfl
@[simp] theorem State.onCmp_fab (s : State) (f) : (s.onCmp f).fab = s.fab := rfl
@[simp] theorem State.onCmp_tap (s : State) (f) : (s.onCmp f).tap = s.tap := rfl
@[simp] theorem State.onCmp_fresh (s : State) (f) : (s.onCmp f).fresh = s.fresh := rfl
@[simp] theorem State.onCmp_pending (s : State) (f) : (s.onCmp f).pending = s.pending := rfl

@[simp] theorem State.onFire_regs (s : State) (f) : (s.onFire f).regs = s.regs := rfl
@[simp] theorem State.onFire_act (s : State) (f) : (s.onFire f).act = s.act := rfl
@[simp] theorem State.onFire_mem (s : State) (f) : (s.onFire f).mem = s.mem := rfl
@[simp] theorem State.onFire_time (s : State) (f) : (s.onFire f).time = s.time := rfl
@[simp] theorem State.onFire_ticks (s : State) (f) : (s.onFire f).ticks = s.ticks := rfl
@[simp] theorem State.onFire_rdata (s : State) (f) : (s.onFire f).rdata = s.rdata := rfl
@[simp] theorem State.onFire_resp (s : State) (f) : (s.onFire f).resp = s.resp := rfl
@[simp] theorem State.onFire_root (s : State) (f) : (s.onFire f).root = s.root := rfl
@[simp] theorem State.onFire_small (s : State) (f) : (s.onFire f).small = s.small := rfl
@[simp] theorem State.onFire_jobs (s : State) (f) : (s.onFire f).jobs = s.jobs := rfl
@[simp] theorem State.onFire_jobSeq (s : State) (f) : (s.onFire f).jobSeq = s.jobSeq := rfl
@[simp] theorem State.onFire_swaps (s : State) (f) : (s.onFire f).swaps = s.swaps := rfl
@[simp] theorem State.onFire_sys (s : State) (f) : (s.onFire f).sys = s.sys := rfl
@[simp] theorem State.onFire_pmu (s : State) (f) : (s.onFire f).pmu = s.pmu := rfl
@[simp] theorem State.onFire_host (s : State) (f) : (s.onFire f).host = s.host := rfl
@[simp] theorem State.onFire_cmp (s : State) (f) : (s.onFire f).cmp = s.cmp := rfl
@[simp] theorem State.onFire_lq (s : State) (f) : (s.onFire f).lq = s.lq := rfl
@[simp] theorem State.onFire_lqPort (s : State) (f) : (s.onFire f).lqPort = s.lqPort := rfl
@[simp] theorem State.onFire_hpt (s : State) (f) : (s.onFire f).hpt = s.hpt := rfl
@[simp] theorem State.onFire_wfe (s : State) (f) : (s.onFire f).wfe = s.wfe := rfl
@[simp] theorem State.onFire_whead (s : State) (f) : (s.onFire f).whead = s.whead := rfl
@[simp] theorem State.onFire_nh (s : State) (f) : (s.onFire f).nh = s.nh := rfl
@[simp] theorem State.onFire_nhead (s : State) (f) : (s.onFire f).nhead = s.nhead := rfl
@[simp] theorem State.onFire_cal (s : State) (f) : (s.onFire f).cal = s.cal := rfl
@[simp] theorem State.onFire_axis (s : State) (f) : (s.onFire f).axis = s.axis := rfl
@[simp] theorem State.onFire_otp (s : State) (f) : (s.onFire f).otp = s.otp := rfl
@[simp] theorem State.onFire_weir (s : State) (f) : (s.onFire f).weir = s.weir := rfl
@[simp] theorem State.onFire_dma (s : State) (f) : (s.onFire f).dma = s.dma := rfl
@[simp] theorem State.onFire_memc (s : State) (f) : (s.onFire f).memc = s.memc := rfl
@[simp] theorem State.onFire_fab (s : State) (f) : (s.onFire f).fab = s.fab := rfl
@[simp] theorem State.onFire_tap (s : State) (f) : (s.onFire f).tap = s.tap := rfl
@[simp] theorem State.onFire_fresh (s : State) (f) : (s.onFire f).fresh = s.fresh := rfl
@[simp] theorem State.onFire_pending (s : State) (f) : (s.onFire f).pending = s.pending := rfl

@[simp] theorem State.onFab_regs (s : State) (f) : (s.onFab f).regs = s.regs := rfl
@[simp] theorem State.onFab_act (s : State) (f) : (s.onFab f).act = s.act := rfl
@[simp] theorem State.onFab_mem (s : State) (f) : (s.onFab f).mem = s.mem := rfl
@[simp] theorem State.onFab_time (s : State) (f) : (s.onFab f).time = s.time := rfl
@[simp] theorem State.onFab_ticks (s : State) (f) : (s.onFab f).ticks = s.ticks := rfl
@[simp] theorem State.onFab_rdata (s : State) (f) : (s.onFab f).rdata = s.rdata := rfl
@[simp] theorem State.onFab_resp (s : State) (f) : (s.onFab f).resp = s.resp := rfl
@[simp] theorem State.onFab_root (s : State) (f) : (s.onFab f).root = s.root := rfl
@[simp] theorem State.onFab_small (s : State) (f) : (s.onFab f).small = s.small := rfl
@[simp] theorem State.onFab_jobs (s : State) (f) : (s.onFab f).jobs = s.jobs := rfl
@[simp] theorem State.onFab_jobSeq (s : State) (f) : (s.onFab f).jobSeq = s.jobSeq := rfl
@[simp] theorem State.onFab_swaps (s : State) (f) : (s.onFab f).swaps = s.swaps := rfl
@[simp] theorem State.onFab_sys (s : State) (f) : (s.onFab f).sys = s.sys := rfl
@[simp] theorem State.onFab_pmu (s : State) (f) : (s.onFab f).pmu = s.pmu := rfl
@[simp] theorem State.onFab_host (s : State) (f) : (s.onFab f).host = s.host := rfl
@[simp] theorem State.onFab_cmp (s : State) (f) : (s.onFab f).cmp = s.cmp := rfl
@[simp] theorem State.onFab_lq (s : State) (f) : (s.onFab f).lq = s.lq := rfl
@[simp] theorem State.onFab_lqPort (s : State) (f) : (s.onFab f).lqPort = s.lqPort := rfl
@[simp] theorem State.onFab_hpt (s : State) (f) : (s.onFab f).hpt = s.hpt := rfl
@[simp] theorem State.onFab_wfe (s : State) (f) : (s.onFab f).wfe = s.wfe := rfl
@[simp] theorem State.onFab_whead (s : State) (f) : (s.onFab f).whead = s.whead := rfl
@[simp] theorem State.onFab_nh (s : State) (f) : (s.onFab f).nh = s.nh := rfl
@[simp] theorem State.onFab_nhead (s : State) (f) : (s.onFab f).nhead = s.nhead := rfl
@[simp] theorem State.onFab_cal (s : State) (f) : (s.onFab f).cal = s.cal := rfl
@[simp] theorem State.onFab_axis (s : State) (f) : (s.onFab f).axis = s.axis := rfl
@[simp] theorem State.onFab_otp (s : State) (f) : (s.onFab f).otp = s.otp := rfl
@[simp] theorem State.onFab_weir (s : State) (f) : (s.onFab f).weir = s.weir := rfl
@[simp] theorem State.onFab_fire (s : State) (f) : (s.onFab f).fire = s.fire := rfl
@[simp] theorem State.onFab_dma (s : State) (f) : (s.onFab f).dma = s.dma := rfl
@[simp] theorem State.onFab_memc (s : State) (f) : (s.onFab f).memc = s.memc := rfl
@[simp] theorem State.onFab_tap (s : State) (f) : (s.onFab f).tap = s.tap := rfl
@[simp] theorem State.onFab_fresh (s : State) (f) : (s.onFab f).fresh = s.fresh := rfl
@[simp] theorem State.onFab_pending (s : State) (f) : (s.onFab f).pending = s.pending := rfl

@[simp] theorem State.onCal_regs (s : State) (f) : (s.onCal f).regs = s.regs := rfl
@[simp] theorem State.onCal_act (s : State) (f) : (s.onCal f).act = s.act := rfl
@[simp] theorem State.onCal_mem (s : State) (f) : (s.onCal f).mem = s.mem := rfl
@[simp] theorem State.onCal_time (s : State) (f) : (s.onCal f).time = s.time := rfl
@[simp] theorem State.onCal_ticks (s : State) (f) : (s.onCal f).ticks = s.ticks := rfl
@[simp] theorem State.onCal_rdata (s : State) (f) : (s.onCal f).rdata = s.rdata := rfl
@[simp] theorem State.onCal_resp (s : State) (f) : (s.onCal f).resp = s.resp := rfl
@[simp] theorem State.onCal_root (s : State) (f) : (s.onCal f).root = s.root := rfl
@[simp] theorem State.onCal_small (s : State) (f) : (s.onCal f).small = s.small := rfl
@[simp] theorem State.onCal_jobs (s : State) (f) : (s.onCal f).jobs = s.jobs := rfl
@[simp] theorem State.onCal_jobSeq (s : State) (f) : (s.onCal f).jobSeq = s.jobSeq := rfl
@[simp] theorem State.onCal_swaps (s : State) (f) : (s.onCal f).swaps = s.swaps := rfl
@[simp] theorem State.onCal_sys (s : State) (f) : (s.onCal f).sys = s.sys := rfl
@[simp] theorem State.onCal_pmu (s : State) (f) : (s.onCal f).pmu = s.pmu := rfl
@[simp] theorem State.onCal_host (s : State) (f) : (s.onCal f).host = s.host := rfl
@[simp] theorem State.onCal_cmp (s : State) (f) : (s.onCal f).cmp = s.cmp := rfl
@[simp] theorem State.onCal_lq (s : State) (f) : (s.onCal f).lq = s.lq := rfl
@[simp] theorem State.onCal_lqPort (s : State) (f) : (s.onCal f).lqPort = s.lqPort := rfl
@[simp] theorem State.onCal_hpt (s : State) (f) : (s.onCal f).hpt = s.hpt := rfl
@[simp] theorem State.onCal_wfe (s : State) (f) : (s.onCal f).wfe = s.wfe := rfl
@[simp] theorem State.onCal_whead (s : State) (f) : (s.onCal f).whead = s.whead := rfl
@[simp] theorem State.onCal_nh (s : State) (f) : (s.onCal f).nh = s.nh := rfl
@[simp] theorem State.onCal_nhead (s : State) (f) : (s.onCal f).nhead = s.nhead := rfl
@[simp] theorem State.onCal_axis (s : State) (f) : (s.onCal f).axis = s.axis := rfl
@[simp] theorem State.onCal_otp (s : State) (f) : (s.onCal f).otp = s.otp := rfl
@[simp] theorem State.onCal_weir (s : State) (f) : (s.onCal f).weir = s.weir := rfl
@[simp] theorem State.onCal_fire (s : State) (f) : (s.onCal f).fire = s.fire := rfl
@[simp] theorem State.onCal_dma (s : State) (f) : (s.onCal f).dma = s.dma := rfl
@[simp] theorem State.onCal_memc (s : State) (f) : (s.onCal f).memc = s.memc := rfl
@[simp] theorem State.onCal_fab (s : State) (f) : (s.onCal f).fab = s.fab := rfl
@[simp] theorem State.onCal_tap (s : State) (f) : (s.onCal f).tap = s.tap := rfl
@[simp] theorem State.onCal_fresh (s : State) (f) : (s.onCal f).fresh = s.fresh := rfl
@[simp] theorem State.onCal_pending (s : State) (f) : (s.onCal f).pending = s.pending := rfl

@[simp] theorem State.onQueue_regs (s : State) (h) (f) : (s.onQueue h f).regs = s.regs := rfl
@[simp] theorem State.onQueue_act (s : State) (h) (f) : (s.onQueue h f).act = s.act := rfl
@[simp] theorem State.onQueue_mem (s : State) (h) (f) : (s.onQueue h f).mem = s.mem := rfl
@[simp] theorem State.onQueue_time (s : State) (h) (f) : (s.onQueue h f).time = s.time := rfl
@[simp] theorem State.onQueue_ticks (s : State) (h) (f) : (s.onQueue h f).ticks = s.ticks := rfl
@[simp] theorem State.onQueue_rdata (s : State) (h) (f) : (s.onQueue h f).rdata = s.rdata := rfl
@[simp] theorem State.onQueue_resp (s : State) (h) (f) : (s.onQueue h f).resp = s.resp := rfl
@[simp] theorem State.onQueue_root (s : State) (h) (f) : (s.onQueue h f).root = s.root := rfl
@[simp] theorem State.onQueue_small (s : State) (h) (f) : (s.onQueue h f).small = s.small := rfl
@[simp] theorem State.onQueue_jobs (s : State) (h) (f) : (s.onQueue h f).jobs = s.jobs := rfl
@[simp] theorem State.onQueue_jobSeq (s : State) (h) (f) : (s.onQueue h f).jobSeq = s.jobSeq := rfl
@[simp] theorem State.onQueue_swaps (s : State) (h) (f) : (s.onQueue h f).swaps = s.swaps := rfl
@[simp] theorem State.onQueue_sys (s : State) (h) (f) : (s.onQueue h f).sys = s.sys := rfl
@[simp] theorem State.onQueue_pmu (s : State) (h) (f) : (s.onQueue h f).pmu = s.pmu := rfl
@[simp] theorem State.onQueue_host (s : State) (h) (f) : (s.onQueue h f).host = s.host := rfl
@[simp] theorem State.onQueue_cmp (s : State) (h) (f) : (s.onQueue h f).cmp = s.cmp := rfl
@[simp] theorem State.onQueue_lqPort (s : State) (h) (f) : (s.onQueue h f).lqPort = s.lqPort := rfl
@[simp] theorem State.onQueue_hpt (s : State) (h) (f) : (s.onQueue h f).hpt = s.hpt := rfl
@[simp] theorem State.onQueue_wfe (s : State) (h) (f) : (s.onQueue h f).wfe = s.wfe := rfl
@[simp] theorem State.onQueue_whead (s : State) (h) (f) : (s.onQueue h f).whead = s.whead := rfl
@[simp] theorem State.onQueue_nh (s : State) (h) (f) : (s.onQueue h f).nh = s.nh := rfl
@[simp] theorem State.onQueue_nhead (s : State) (h) (f) : (s.onQueue h f).nhead = s.nhead := rfl
@[simp] theorem State.onQueue_cal (s : State) (h) (f) : (s.onQueue h f).cal = s.cal := rfl
@[simp] theorem State.onQueue_axis (s : State) (h) (f) : (s.onQueue h f).axis = s.axis := rfl
@[simp] theorem State.onQueue_otp (s : State) (h) (f) : (s.onQueue h f).otp = s.otp := rfl
@[simp] theorem State.onQueue_weir (s : State) (h) (f) : (s.onQueue h f).weir = s.weir := rfl
@[simp] theorem State.onQueue_fire (s : State) (h) (f) : (s.onQueue h f).fire = s.fire := rfl
@[simp] theorem State.onQueue_dma (s : State) (h) (f) : (s.onQueue h f).dma = s.dma := rfl
@[simp] theorem State.onQueue_memc (s : State) (h) (f) : (s.onQueue h f).memc = s.memc := rfl
@[simp] theorem State.onQueue_fab (s : State) (h) (f) : (s.onQueue h f).fab = s.fab := rfl
@[simp] theorem State.onQueue_tap (s : State) (h) (f) : (s.onQueue h f).tap = s.tap := rfl
@[simp] theorem State.onQueue_fresh (s : State) (h) (f) : (s.onQueue h f).fresh = s.fresh := rfl
@[simp] theorem State.onQueue_pending (s : State) (h) (f) : (s.onQueue h f).pending = s.pending := rfl

@[simp] theorem State.onHport_regs (s : State) (h) (f) : (s.onHport h f).regs = s.regs := rfl
@[simp] theorem State.onHport_act (s : State) (h) (f) : (s.onHport h f).act = s.act := rfl
@[simp] theorem State.onHport_mem (s : State) (h) (f) : (s.onHport h f).mem = s.mem := rfl
@[simp] theorem State.onHport_time (s : State) (h) (f) : (s.onHport h f).time = s.time := rfl
@[simp] theorem State.onHport_ticks (s : State) (h) (f) : (s.onHport h f).ticks = s.ticks := rfl
@[simp] theorem State.onHport_rdata (s : State) (h) (f) : (s.onHport h f).rdata = s.rdata := rfl
@[simp] theorem State.onHport_resp (s : State) (h) (f) : (s.onHport h f).resp = s.resp := rfl
@[simp] theorem State.onHport_root (s : State) (h) (f) : (s.onHport h f).root = s.root := rfl
@[simp] theorem State.onHport_small (s : State) (h) (f) : (s.onHport h f).small = s.small := rfl
@[simp] theorem State.onHport_jobs (s : State) (h) (f) : (s.onHport h f).jobs = s.jobs := rfl
@[simp] theorem State.onHport_jobSeq (s : State) (h) (f) : (s.onHport h f).jobSeq = s.jobSeq := rfl
@[simp] theorem State.onHport_swaps (s : State) (h) (f) : (s.onHport h f).swaps = s.swaps := rfl
@[simp] theorem State.onHport_sys (s : State) (h) (f) : (s.onHport h f).sys = s.sys := rfl
@[simp] theorem State.onHport_pmu (s : State) (h) (f) : (s.onHport h f).pmu = s.pmu := rfl
@[simp] theorem State.onHport_host (s : State) (h) (f) : (s.onHport h f).host = s.host := rfl
@[simp] theorem State.onHport_cmp (s : State) (h) (f) : (s.onHport h f).cmp = s.cmp := rfl
@[simp] theorem State.onHport_lq (s : State) (h) (f) : (s.onHport h f).lq = s.lq := rfl
@[simp] theorem State.onHport_lqPort (s : State) (h) (f) : (s.onHport h f).lqPort = s.lqPort := rfl
@[simp] theorem State.onHport_wfe (s : State) (h) (f) : (s.onHport h f).wfe = s.wfe := rfl
@[simp] theorem State.onHport_whead (s : State) (h) (f) : (s.onHport h f).whead = s.whead := rfl
@[simp] theorem State.onHport_nh (s : State) (h) (f) : (s.onHport h f).nh = s.nh := rfl
@[simp] theorem State.onHport_nhead (s : State) (h) (f) : (s.onHport h f).nhead = s.nhead := rfl
@[simp] theorem State.onHport_cal (s : State) (h) (f) : (s.onHport h f).cal = s.cal := rfl
@[simp] theorem State.onHport_axis (s : State) (h) (f) : (s.onHport h f).axis = s.axis := rfl
@[simp] theorem State.onHport_otp (s : State) (h) (f) : (s.onHport h f).otp = s.otp := rfl
@[simp] theorem State.onHport_weir (s : State) (h) (f) : (s.onHport h f).weir = s.weir := rfl
@[simp] theorem State.onHport_fire (s : State) (h) (f) : (s.onHport h f).fire = s.fire := rfl
@[simp] theorem State.onHport_dma (s : State) (h) (f) : (s.onHport h f).dma = s.dma := rfl
@[simp] theorem State.onHport_memc (s : State) (h) (f) : (s.onHport h f).memc = s.memc := rfl
@[simp] theorem State.onHport_fab (s : State) (h) (f) : (s.onHport h f).fab = s.fab := rfl
@[simp] theorem State.onHport_tap (s : State) (h) (f) : (s.onHport h f).tap = s.tap := rfl
@[simp] theorem State.onHport_fresh (s : State) (h) (f) : (s.onHport h f).fresh = s.fresh := rfl
@[simp] theorem State.onHport_pending (s : State) (h) (f) : (s.onHport h f).pending = s.pending := rfl

@[simp] theorem State.onChan_regs (s : State) (c) (f) : (s.onChan c f).regs = s.regs := rfl
@[simp] theorem State.onChan_act (s : State) (c) (f) : (s.onChan c f).act = s.act := rfl
@[simp] theorem State.onChan_mem (s : State) (c) (f) : (s.onChan c f).mem = s.mem := rfl
@[simp] theorem State.onChan_time (s : State) (c) (f) : (s.onChan c f).time = s.time := rfl
@[simp] theorem State.onChan_ticks (s : State) (c) (f) : (s.onChan c f).ticks = s.ticks := rfl
@[simp] theorem State.onChan_rdata (s : State) (c) (f) : (s.onChan c f).rdata = s.rdata := rfl
@[simp] theorem State.onChan_resp (s : State) (c) (f) : (s.onChan c f).resp = s.resp := rfl
@[simp] theorem State.onChan_root (s : State) (c) (f) : (s.onChan c f).root = s.root := rfl
@[simp] theorem State.onChan_small (s : State) (c) (f) : (s.onChan c f).small = s.small := rfl
@[simp] theorem State.onChan_jobs (s : State) (c) (f) : (s.onChan c f).jobs = s.jobs := rfl
@[simp] theorem State.onChan_jobSeq (s : State) (c) (f) : (s.onChan c f).jobSeq = s.jobSeq := rfl
@[simp] theorem State.onChan_swaps (s : State) (c) (f) : (s.onChan c f).swaps = s.swaps := rfl
@[simp] theorem State.onChan_sys (s : State) (c) (f) : (s.onChan c f).sys = s.sys := rfl
@[simp] theorem State.onChan_pmu (s : State) (c) (f) : (s.onChan c f).pmu = s.pmu := rfl
@[simp] theorem State.onChan_host (s : State) (c) (f) : (s.onChan c f).host = s.host := rfl
@[simp] theorem State.onChan_cmp (s : State) (c) (f) : (s.onChan c f).cmp = s.cmp := rfl
@[simp] theorem State.onChan_lq (s : State) (c) (f) : (s.onChan c f).lq = s.lq := rfl
@[simp] theorem State.onChan_lqPort (s : State) (c) (f) : (s.onChan c f).lqPort = s.lqPort := rfl
@[simp] theorem State.onChan_hpt (s : State) (c) (f) : (s.onChan c f).hpt = s.hpt := rfl
@[simp] theorem State.onChan_whead (s : State) (c) (f) : (s.onChan c f).whead = s.whead := rfl
@[simp] theorem State.onChan_nh (s : State) (c) (f) : (s.onChan c f).nh = s.nh := rfl
@[simp] theorem State.onChan_nhead (s : State) (c) (f) : (s.onChan c f).nhead = s.nhead := rfl
@[simp] theorem State.onChan_cal (s : State) (c) (f) : (s.onChan c f).cal = s.cal := rfl
@[simp] theorem State.onChan_axis (s : State) (c) (f) : (s.onChan c f).axis = s.axis := rfl
@[simp] theorem State.onChan_otp (s : State) (c) (f) : (s.onChan c f).otp = s.otp := rfl
@[simp] theorem State.onChan_weir (s : State) (c) (f) : (s.onChan c f).weir = s.weir := rfl
@[simp] theorem State.onChan_fire (s : State) (c) (f) : (s.onChan c f).fire = s.fire := rfl
@[simp] theorem State.onChan_dma (s : State) (c) (f) : (s.onChan c f).dma = s.dma := rfl
@[simp] theorem State.onChan_memc (s : State) (c) (f) : (s.onChan c f).memc = s.memc := rfl
@[simp] theorem State.onChan_fab (s : State) (c) (f) : (s.onChan c f).fab = s.fab := rfl
@[simp] theorem State.onChan_tap (s : State) (c) (f) : (s.onChan c f).tap = s.tap := rfl
@[simp] theorem State.onChan_fresh (s : State) (c) (f) : (s.onChan c f).fresh = s.fresh := rfl
@[simp] theorem State.onChan_pending (s : State) (c) (f) : (s.onChan c f).pending = s.pending := rfl

@[simp] theorem State.onWave_regs (s : State) (h) (f) : (s.onWave h f).regs = s.regs := rfl
@[simp] theorem State.onWave_act (s : State) (h) (f) : (s.onWave h f).act = s.act := rfl
@[simp] theorem State.onWave_mem (s : State) (h) (f) : (s.onWave h f).mem = s.mem := rfl
@[simp] theorem State.onWave_time (s : State) (h) (f) : (s.onWave h f).time = s.time := rfl
@[simp] theorem State.onWave_ticks (s : State) (h) (f) : (s.onWave h f).ticks = s.ticks := rfl
@[simp] theorem State.onWave_rdata (s : State) (h) (f) : (s.onWave h f).rdata = s.rdata := rfl
@[simp] theorem State.onWave_resp (s : State) (h) (f) : (s.onWave h f).resp = s.resp := rfl
@[simp] theorem State.onWave_root (s : State) (h) (f) : (s.onWave h f).root = s.root := rfl
@[simp] theorem State.onWave_small (s : State) (h) (f) : (s.onWave h f).small = s.small := rfl
@[simp] theorem State.onWave_jobs (s : State) (h) (f) : (s.onWave h f).jobs = s.jobs := rfl
@[simp] theorem State.onWave_jobSeq (s : State) (h) (f) : (s.onWave h f).jobSeq = s.jobSeq := rfl
@[simp] theorem State.onWave_swaps (s : State) (h) (f) : (s.onWave h f).swaps = s.swaps := rfl
@[simp] theorem State.onWave_sys (s : State) (h) (f) : (s.onWave h f).sys = s.sys := rfl
@[simp] theorem State.onWave_pmu (s : State) (h) (f) : (s.onWave h f).pmu = s.pmu := rfl
@[simp] theorem State.onWave_host (s : State) (h) (f) : (s.onWave h f).host = s.host := rfl
@[simp] theorem State.onWave_cmp (s : State) (h) (f) : (s.onWave h f).cmp = s.cmp := rfl
@[simp] theorem State.onWave_lq (s : State) (h) (f) : (s.onWave h f).lq = s.lq := rfl
@[simp] theorem State.onWave_lqPort (s : State) (h) (f) : (s.onWave h f).lqPort = s.lqPort := rfl
@[simp] theorem State.onWave_hpt (s : State) (h) (f) : (s.onWave h f).hpt = s.hpt := rfl
@[simp] theorem State.onWave_wfe (s : State) (h) (f) : (s.onWave h f).wfe = s.wfe := rfl
@[simp] theorem State.onWave_nh (s : State) (h) (f) : (s.onWave h f).nh = s.nh := rfl
@[simp] theorem State.onWave_nhead (s : State) (h) (f) : (s.onWave h f).nhead = s.nhead := rfl
@[simp] theorem State.onWave_cal (s : State) (h) (f) : (s.onWave h f).cal = s.cal := rfl
@[simp] theorem State.onWave_axis (s : State) (h) (f) : (s.onWave h f).axis = s.axis := rfl
@[simp] theorem State.onWave_otp (s : State) (h) (f) : (s.onWave h f).otp = s.otp := rfl
@[simp] theorem State.onWave_weir (s : State) (h) (f) : (s.onWave h f).weir = s.weir := rfl
@[simp] theorem State.onWave_fire (s : State) (h) (f) : (s.onWave h f).fire = s.fire := rfl
@[simp] theorem State.onWave_dma (s : State) (h) (f) : (s.onWave h f).dma = s.dma := rfl
@[simp] theorem State.onWave_memc (s : State) (h) (f) : (s.onWave h f).memc = s.memc := rfl
@[simp] theorem State.onWave_fab (s : State) (h) (f) : (s.onWave h f).fab = s.fab := rfl
@[simp] theorem State.onWave_tap (s : State) (h) (f) : (s.onWave h f).tap = s.tap := rfl
@[simp] theorem State.onWave_fresh (s : State) (h) (f) : (s.onWave h f).fresh = s.fresh := rfl
@[simp] theorem State.onWave_pending (s : State) (h) (f) : (s.onWave h f).pending = s.pending := rfl

@[simp] theorem State.onNh_regs (s : State) (f) : (s.onNh f).regs = s.regs := rfl
@[simp] theorem State.onNh_act (s : State) (f) : (s.onNh f).act = s.act := rfl
@[simp] theorem State.onNh_mem (s : State) (f) : (s.onNh f).mem = s.mem := rfl
@[simp] theorem State.onNh_time (s : State) (f) : (s.onNh f).time = s.time := rfl
@[simp] theorem State.onNh_ticks (s : State) (f) : (s.onNh f).ticks = s.ticks := rfl
@[simp] theorem State.onNh_rdata (s : State) (f) : (s.onNh f).rdata = s.rdata := rfl
@[simp] theorem State.onNh_resp (s : State) (f) : (s.onNh f).resp = s.resp := rfl
@[simp] theorem State.onNh_root (s : State) (f) : (s.onNh f).root = s.root := rfl
@[simp] theorem State.onNh_small (s : State) (f) : (s.onNh f).small = s.small := rfl
@[simp] theorem State.onNh_jobs (s : State) (f) : (s.onNh f).jobs = s.jobs := rfl
@[simp] theorem State.onNh_jobSeq (s : State) (f) : (s.onNh f).jobSeq = s.jobSeq := rfl
@[simp] theorem State.onNh_swaps (s : State) (f) : (s.onNh f).swaps = s.swaps := rfl
@[simp] theorem State.onNh_sys (s : State) (f) : (s.onNh f).sys = s.sys := rfl
@[simp] theorem State.onNh_pmu (s : State) (f) : (s.onNh f).pmu = s.pmu := rfl
@[simp] theorem State.onNh_host (s : State) (f) : (s.onNh f).host = s.host := rfl
@[simp] theorem State.onNh_cmp (s : State) (f) : (s.onNh f).cmp = s.cmp := rfl
@[simp] theorem State.onNh_lq (s : State) (f) : (s.onNh f).lq = s.lq := rfl
@[simp] theorem State.onNh_lqPort (s : State) (f) : (s.onNh f).lqPort = s.lqPort := rfl
@[simp] theorem State.onNh_hpt (s : State) (f) : (s.onNh f).hpt = s.hpt := rfl
@[simp] theorem State.onNh_wfe (s : State) (f) : (s.onNh f).wfe = s.wfe := rfl
@[simp] theorem State.onNh_whead (s : State) (f) : (s.onNh f).whead = s.whead := rfl
@[simp] theorem State.onNh_nhead (s : State) (f) : (s.onNh f).nhead = s.nhead := rfl
@[simp] theorem State.onNh_cal (s : State) (f) : (s.onNh f).cal = s.cal := rfl
@[simp] theorem State.onNh_axis (s : State) (f) : (s.onNh f).axis = s.axis := rfl
@[simp] theorem State.onNh_otp (s : State) (f) : (s.onNh f).otp = s.otp := rfl
@[simp] theorem State.onNh_weir (s : State) (f) : (s.onNh f).weir = s.weir := rfl
@[simp] theorem State.onNh_fire (s : State) (f) : (s.onNh f).fire = s.fire := rfl
@[simp] theorem State.onNh_dma (s : State) (f) : (s.onNh f).dma = s.dma := rfl
@[simp] theorem State.onNh_memc (s : State) (f) : (s.onNh f).memc = s.memc := rfl
@[simp] theorem State.onNh_fab (s : State) (f) : (s.onNh f).fab = s.fab := rfl
@[simp] theorem State.onNh_tap (s : State) (f) : (s.onNh f).tap = s.tap := rfl
@[simp] theorem State.onNh_fresh (s : State) (f) : (s.onNh f).fresh = s.fresh := rfl
@[simp] theorem State.onNh_pending (s : State) (f) : (s.onNh f).pending = s.pending := rfl

@[simp] theorem State.onNhh_regs (s : State) (h) (f) : (s.onNhh h f).regs = s.regs := rfl
@[simp] theorem State.onNhh_act (s : State) (h) (f) : (s.onNhh h f).act = s.act := rfl
@[simp] theorem State.onNhh_mem (s : State) (h) (f) : (s.onNhh h f).mem = s.mem := rfl
@[simp] theorem State.onNhh_time (s : State) (h) (f) : (s.onNhh h f).time = s.time := rfl
@[simp] theorem State.onNhh_ticks (s : State) (h) (f) : (s.onNhh h f).ticks = s.ticks := rfl
@[simp] theorem State.onNhh_rdata (s : State) (h) (f) : (s.onNhh h f).rdata = s.rdata := rfl
@[simp] theorem State.onNhh_resp (s : State) (h) (f) : (s.onNhh h f).resp = s.resp := rfl
@[simp] theorem State.onNhh_root (s : State) (h) (f) : (s.onNhh h f).root = s.root := rfl
@[simp] theorem State.onNhh_small (s : State) (h) (f) : (s.onNhh h f).small = s.small := rfl
@[simp] theorem State.onNhh_jobs (s : State) (h) (f) : (s.onNhh h f).jobs = s.jobs := rfl
@[simp] theorem State.onNhh_jobSeq (s : State) (h) (f) : (s.onNhh h f).jobSeq = s.jobSeq := rfl
@[simp] theorem State.onNhh_swaps (s : State) (h) (f) : (s.onNhh h f).swaps = s.swaps := rfl
@[simp] theorem State.onNhh_sys (s : State) (h) (f) : (s.onNhh h f).sys = s.sys := rfl
@[simp] theorem State.onNhh_pmu (s : State) (h) (f) : (s.onNhh h f).pmu = s.pmu := rfl
@[simp] theorem State.onNhh_host (s : State) (h) (f) : (s.onNhh h f).host = s.host := rfl
@[simp] theorem State.onNhh_cmp (s : State) (h) (f) : (s.onNhh h f).cmp = s.cmp := rfl
@[simp] theorem State.onNhh_lq (s : State) (h) (f) : (s.onNhh h f).lq = s.lq := rfl
@[simp] theorem State.onNhh_lqPort (s : State) (h) (f) : (s.onNhh h f).lqPort = s.lqPort := rfl
@[simp] theorem State.onNhh_hpt (s : State) (h) (f) : (s.onNhh h f).hpt = s.hpt := rfl
@[simp] theorem State.onNhh_wfe (s : State) (h) (f) : (s.onNhh h f).wfe = s.wfe := rfl
@[simp] theorem State.onNhh_whead (s : State) (h) (f) : (s.onNhh h f).whead = s.whead := rfl
@[simp] theorem State.onNhh_nh (s : State) (h) (f) : (s.onNhh h f).nh = s.nh := rfl
@[simp] theorem State.onNhh_cal (s : State) (h) (f) : (s.onNhh h f).cal = s.cal := rfl
@[simp] theorem State.onNhh_axis (s : State) (h) (f) : (s.onNhh h f).axis = s.axis := rfl
@[simp] theorem State.onNhh_otp (s : State) (h) (f) : (s.onNhh h f).otp = s.otp := rfl
@[simp] theorem State.onNhh_weir (s : State) (h) (f) : (s.onNhh h f).weir = s.weir := rfl
@[simp] theorem State.onNhh_fire (s : State) (h) (f) : (s.onNhh h f).fire = s.fire := rfl
@[simp] theorem State.onNhh_dma (s : State) (h) (f) : (s.onNhh h f).dma = s.dma := rfl
@[simp] theorem State.onNhh_memc (s : State) (h) (f) : (s.onNhh h f).memc = s.memc := rfl
@[simp] theorem State.onNhh_fab (s : State) (h) (f) : (s.onNhh h f).fab = s.fab := rfl
@[simp] theorem State.onNhh_tap (s : State) (h) (f) : (s.onNhh h f).tap = s.tap := rfl
@[simp] theorem State.onNhh_fresh (s : State) (h) (f) : (s.onNhh h f).fresh = s.fresh := rfl
@[simp] theorem State.onNhh_pending (s : State) (h) (f) : (s.onNhh h f).pending = s.pending := rfl

@[simp] theorem State.onOtp_regs (s : State) (f) : (s.onOtp f).regs = s.regs := rfl
@[simp] theorem State.onOtp_act (s : State) (f) : (s.onOtp f).act = s.act := rfl
@[simp] theorem State.onOtp_mem (s : State) (f) : (s.onOtp f).mem = s.mem := rfl
@[simp] theorem State.onOtp_time (s : State) (f) : (s.onOtp f).time = s.time := rfl
@[simp] theorem State.onOtp_ticks (s : State) (f) : (s.onOtp f).ticks = s.ticks := rfl
@[simp] theorem State.onOtp_rdata (s : State) (f) : (s.onOtp f).rdata = s.rdata := rfl
@[simp] theorem State.onOtp_resp (s : State) (f) : (s.onOtp f).resp = s.resp := rfl
@[simp] theorem State.onOtp_root (s : State) (f) : (s.onOtp f).root = s.root := rfl
@[simp] theorem State.onOtp_small (s : State) (f) : (s.onOtp f).small = s.small := rfl
@[simp] theorem State.onOtp_jobs (s : State) (f) : (s.onOtp f).jobs = s.jobs := rfl
@[simp] theorem State.onOtp_jobSeq (s : State) (f) : (s.onOtp f).jobSeq = s.jobSeq := rfl
@[simp] theorem State.onOtp_swaps (s : State) (f) : (s.onOtp f).swaps = s.swaps := rfl
@[simp] theorem State.onOtp_sys (s : State) (f) : (s.onOtp f).sys = s.sys := rfl
@[simp] theorem State.onOtp_pmu (s : State) (f) : (s.onOtp f).pmu = s.pmu := rfl
@[simp] theorem State.onOtp_host (s : State) (f) : (s.onOtp f).host = s.host := rfl
@[simp] theorem State.onOtp_cmp (s : State) (f) : (s.onOtp f).cmp = s.cmp := rfl
@[simp] theorem State.onOtp_lq (s : State) (f) : (s.onOtp f).lq = s.lq := rfl
@[simp] theorem State.onOtp_lqPort (s : State) (f) : (s.onOtp f).lqPort = s.lqPort := rfl
@[simp] theorem State.onOtp_hpt (s : State) (f) : (s.onOtp f).hpt = s.hpt := rfl
@[simp] theorem State.onOtp_wfe (s : State) (f) : (s.onOtp f).wfe = s.wfe := rfl
@[simp] theorem State.onOtp_whead (s : State) (f) : (s.onOtp f).whead = s.whead := rfl
@[simp] theorem State.onOtp_nh (s : State) (f) : (s.onOtp f).nh = s.nh := rfl
@[simp] theorem State.onOtp_nhead (s : State) (f) : (s.onOtp f).nhead = s.nhead := rfl
@[simp] theorem State.onOtp_cal (s : State) (f) : (s.onOtp f).cal = s.cal := rfl
@[simp] theorem State.onOtp_axis (s : State) (f) : (s.onOtp f).axis = s.axis := rfl
@[simp] theorem State.onOtp_weir (s : State) (f) : (s.onOtp f).weir = s.weir := rfl
@[simp] theorem State.onOtp_fire (s : State) (f) : (s.onOtp f).fire = s.fire := rfl
@[simp] theorem State.onOtp_dma (s : State) (f) : (s.onOtp f).dma = s.dma := rfl
@[simp] theorem State.onOtp_memc (s : State) (f) : (s.onOtp f).memc = s.memc := rfl
@[simp] theorem State.onOtp_fab (s : State) (f) : (s.onOtp f).fab = s.fab := rfl
@[simp] theorem State.onOtp_tap (s : State) (f) : (s.onOtp f).tap = s.tap := rfl
@[simp] theorem State.onOtp_fresh (s : State) (f) : (s.onOtp f).fresh = s.fresh := rfl
@[simp] theorem State.onOtp_pending (s : State) (f) : (s.onOtp f).pending = s.pending := rfl

@[simp] theorem State.onWeir_regs (s : State) (f) : (s.onWeir f).regs = s.regs := rfl
@[simp] theorem State.onWeir_act (s : State) (f) : (s.onWeir f).act = s.act := rfl
@[simp] theorem State.onWeir_mem (s : State) (f) : (s.onWeir f).mem = s.mem := rfl
@[simp] theorem State.onWeir_time (s : State) (f) : (s.onWeir f).time = s.time := rfl
@[simp] theorem State.onWeir_ticks (s : State) (f) : (s.onWeir f).ticks = s.ticks := rfl
@[simp] theorem State.onWeir_rdata (s : State) (f) : (s.onWeir f).rdata = s.rdata := rfl
@[simp] theorem State.onWeir_resp (s : State) (f) : (s.onWeir f).resp = s.resp := rfl
@[simp] theorem State.onWeir_root (s : State) (f) : (s.onWeir f).root = s.root := rfl
@[simp] theorem State.onWeir_small (s : State) (f) : (s.onWeir f).small = s.small := rfl
@[simp] theorem State.onWeir_jobs (s : State) (f) : (s.onWeir f).jobs = s.jobs := rfl
@[simp] theorem State.onWeir_jobSeq (s : State) (f) : (s.onWeir f).jobSeq = s.jobSeq := rfl
@[simp] theorem State.onWeir_swaps (s : State) (f) : (s.onWeir f).swaps = s.swaps := rfl
@[simp] theorem State.onWeir_sys (s : State) (f) : (s.onWeir f).sys = s.sys := rfl
@[simp] theorem State.onWeir_pmu (s : State) (f) : (s.onWeir f).pmu = s.pmu := rfl
@[simp] theorem State.onWeir_host (s : State) (f) : (s.onWeir f).host = s.host := rfl
@[simp] theorem State.onWeir_cmp (s : State) (f) : (s.onWeir f).cmp = s.cmp := rfl
@[simp] theorem State.onWeir_lq (s : State) (f) : (s.onWeir f).lq = s.lq := rfl
@[simp] theorem State.onWeir_lqPort (s : State) (f) : (s.onWeir f).lqPort = s.lqPort := rfl
@[simp] theorem State.onWeir_hpt (s : State) (f) : (s.onWeir f).hpt = s.hpt := rfl
@[simp] theorem State.onWeir_wfe (s : State) (f) : (s.onWeir f).wfe = s.wfe := rfl
@[simp] theorem State.onWeir_whead (s : State) (f) : (s.onWeir f).whead = s.whead := rfl
@[simp] theorem State.onWeir_nh (s : State) (f) : (s.onWeir f).nh = s.nh := rfl
@[simp] theorem State.onWeir_nhead (s : State) (f) : (s.onWeir f).nhead = s.nhead := rfl
@[simp] theorem State.onWeir_cal (s : State) (f) : (s.onWeir f).cal = s.cal := rfl
@[simp] theorem State.onWeir_axis (s : State) (f) : (s.onWeir f).axis = s.axis := rfl
@[simp] theorem State.onWeir_otp (s : State) (f) : (s.onWeir f).otp = s.otp := rfl
@[simp] theorem State.onWeir_fire (s : State) (f) : (s.onWeir f).fire = s.fire := rfl
@[simp] theorem State.onWeir_dma (s : State) (f) : (s.onWeir f).dma = s.dma := rfl
@[simp] theorem State.onWeir_memc (s : State) (f) : (s.onWeir f).memc = s.memc := rfl
@[simp] theorem State.onWeir_fab (s : State) (f) : (s.onWeir f).fab = s.fab := rfl
@[simp] theorem State.onWeir_tap (s : State) (f) : (s.onWeir f).tap = s.tap := rfl
@[simp] theorem State.onWeir_fresh (s : State) (f) : (s.onWeir f).fresh = s.fresh := rfl
@[simp] theorem State.onWeir_pending (s : State) (f) : (s.onWeir f).pending = s.pending := rfl

@[simp] theorem State.onAx_regs (s : State) (n) (f) : (s.onAx n f).regs = s.regs := rfl
@[simp] theorem State.onAx_act (s : State) (n) (f) : (s.onAx n f).act = s.act := rfl
@[simp] theorem State.onAx_mem (s : State) (n) (f) : (s.onAx n f).mem = s.mem := rfl
@[simp] theorem State.onAx_time (s : State) (n) (f) : (s.onAx n f).time = s.time := rfl
@[simp] theorem State.onAx_ticks (s : State) (n) (f) : (s.onAx n f).ticks = s.ticks := rfl
@[simp] theorem State.onAx_rdata (s : State) (n) (f) : (s.onAx n f).rdata = s.rdata := rfl
@[simp] theorem State.onAx_resp (s : State) (n) (f) : (s.onAx n f).resp = s.resp := rfl
@[simp] theorem State.onAx_root (s : State) (n) (f) : (s.onAx n f).root = s.root := rfl
@[simp] theorem State.onAx_small (s : State) (n) (f) : (s.onAx n f).small = s.small := rfl
@[simp] theorem State.onAx_jobs (s : State) (n) (f) : (s.onAx n f).jobs = s.jobs := rfl
@[simp] theorem State.onAx_jobSeq (s : State) (n) (f) : (s.onAx n f).jobSeq = s.jobSeq := rfl
@[simp] theorem State.onAx_swaps (s : State) (n) (f) : (s.onAx n f).swaps = s.swaps := rfl
@[simp] theorem State.onAx_sys (s : State) (n) (f) : (s.onAx n f).sys = s.sys := rfl
@[simp] theorem State.onAx_pmu (s : State) (n) (f) : (s.onAx n f).pmu = s.pmu := rfl
@[simp] theorem State.onAx_host (s : State) (n) (f) : (s.onAx n f).host = s.host := rfl
@[simp] theorem State.onAx_cmp (s : State) (n) (f) : (s.onAx n f).cmp = s.cmp := rfl
@[simp] theorem State.onAx_lq (s : State) (n) (f) : (s.onAx n f).lq = s.lq := rfl
@[simp] theorem State.onAx_lqPort (s : State) (n) (f) : (s.onAx n f).lqPort = s.lqPort := rfl
@[simp] theorem State.onAx_hpt (s : State) (n) (f) : (s.onAx n f).hpt = s.hpt := rfl
@[simp] theorem State.onAx_wfe (s : State) (n) (f) : (s.onAx n f).wfe = s.wfe := rfl
@[simp] theorem State.onAx_whead (s : State) (n) (f) : (s.onAx n f).whead = s.whead := rfl
@[simp] theorem State.onAx_nh (s : State) (n) (f) : (s.onAx n f).nh = s.nh := rfl
@[simp] theorem State.onAx_nhead (s : State) (n) (f) : (s.onAx n f).nhead = s.nhead := rfl
@[simp] theorem State.onAx_cal (s : State) (n) (f) : (s.onAx n f).cal = s.cal := rfl
@[simp] theorem State.onAx_otp (s : State) (n) (f) : (s.onAx n f).otp = s.otp := rfl
@[simp] theorem State.onAx_weir (s : State) (n) (f) : (s.onAx n f).weir = s.weir := rfl
@[simp] theorem State.onAx_fire (s : State) (n) (f) : (s.onAx n f).fire = s.fire := rfl
@[simp] theorem State.onAx_dma (s : State) (n) (f) : (s.onAx n f).dma = s.dma := rfl
@[simp] theorem State.onAx_memc (s : State) (n) (f) : (s.onAx n f).memc = s.memc := rfl
@[simp] theorem State.onAx_fab (s : State) (n) (f) : (s.onAx n f).fab = s.fab := rfl
@[simp] theorem State.onAx_tap (s : State) (n) (f) : (s.onAx n f).tap = s.tap := rfl
@[simp] theorem State.onAx_fresh (s : State) (n) (f) : (s.onAx n f).fresh = s.fresh := rfl
@[simp] theorem State.onAx_pending (s : State) (n) (f) : (s.onAx n f).pending = s.pending := rfl

@[simp] theorem State.onMem_regs (s : State) (f) : (s.onMem f).regs = s.regs := rfl
@[simp] theorem State.onMem_act (s : State) (f) : (s.onMem f).act = s.act := rfl
@[simp] theorem State.onMem_mem (s : State) (f) : (s.onMem f).mem = s.mem := rfl
@[simp] theorem State.onMem_time (s : State) (f) : (s.onMem f).time = s.time := rfl
@[simp] theorem State.onMem_ticks (s : State) (f) : (s.onMem f).ticks = s.ticks := rfl
@[simp] theorem State.onMem_rdata (s : State) (f) : (s.onMem f).rdata = s.rdata := rfl
@[simp] theorem State.onMem_resp (s : State) (f) : (s.onMem f).resp = s.resp := rfl
@[simp] theorem State.onMem_root (s : State) (f) : (s.onMem f).root = s.root := rfl
@[simp] theorem State.onMem_small (s : State) (f) : (s.onMem f).small = s.small := rfl
@[simp] theorem State.onMem_jobs (s : State) (f) : (s.onMem f).jobs = s.jobs := rfl
@[simp] theorem State.onMem_jobSeq (s : State) (f) : (s.onMem f).jobSeq = s.jobSeq := rfl
@[simp] theorem State.onMem_swaps (s : State) (f) : (s.onMem f).swaps = s.swaps := rfl
@[simp] theorem State.onMem_sys (s : State) (f) : (s.onMem f).sys = s.sys := rfl
@[simp] theorem State.onMem_pmu (s : State) (f) : (s.onMem f).pmu = s.pmu := rfl
@[simp] theorem State.onMem_host (s : State) (f) : (s.onMem f).host = s.host := rfl
@[simp] theorem State.onMem_cmp (s : State) (f) : (s.onMem f).cmp = s.cmp := rfl
@[simp] theorem State.onMem_lq (s : State) (f) : (s.onMem f).lq = s.lq := rfl
@[simp] theorem State.onMem_lqPort (s : State) (f) : (s.onMem f).lqPort = s.lqPort := rfl
@[simp] theorem State.onMem_hpt (s : State) (f) : (s.onMem f).hpt = s.hpt := rfl
@[simp] theorem State.onMem_wfe (s : State) (f) : (s.onMem f).wfe = s.wfe := rfl
@[simp] theorem State.onMem_whead (s : State) (f) : (s.onMem f).whead = s.whead := rfl
@[simp] theorem State.onMem_nh (s : State) (f) : (s.onMem f).nh = s.nh := rfl
@[simp] theorem State.onMem_nhead (s : State) (f) : (s.onMem f).nhead = s.nhead := rfl
@[simp] theorem State.onMem_cal (s : State) (f) : (s.onMem f).cal = s.cal := rfl
@[simp] theorem State.onMem_axis (s : State) (f) : (s.onMem f).axis = s.axis := rfl
@[simp] theorem State.onMem_otp (s : State) (f) : (s.onMem f).otp = s.otp := rfl
@[simp] theorem State.onMem_weir (s : State) (f) : (s.onMem f).weir = s.weir := rfl
@[simp] theorem State.onMem_fire (s : State) (f) : (s.onMem f).fire = s.fire := rfl
@[simp] theorem State.onMem_dma (s : State) (f) : (s.onMem f).dma = s.dma := rfl
@[simp] theorem State.onMem_fab (s : State) (f) : (s.onMem f).fab = s.fab := rfl
@[simp] theorem State.onMem_tap (s : State) (f) : (s.onMem f).tap = s.tap := rfl
@[simp] theorem State.onMem_fresh (s : State) (f) : (s.onMem f).fresh = s.fresh := rfl
@[simp] theorem State.onMem_pending (s : State) (f) : (s.onMem f).pending = s.pending := rfl

@[simp] theorem State.onDma_regs (s : State) (f) : (s.onDma f).regs = s.regs := rfl
@[simp] theorem State.onDma_act (s : State) (f) : (s.onDma f).act = s.act := rfl
@[simp] theorem State.onDma_mem (s : State) (f) : (s.onDma f).mem = s.mem := rfl
@[simp] theorem State.onDma_time (s : State) (f) : (s.onDma f).time = s.time := rfl
@[simp] theorem State.onDma_ticks (s : State) (f) : (s.onDma f).ticks = s.ticks := rfl
@[simp] theorem State.onDma_rdata (s : State) (f) : (s.onDma f).rdata = s.rdata := rfl
@[simp] theorem State.onDma_resp (s : State) (f) : (s.onDma f).resp = s.resp := rfl
@[simp] theorem State.onDma_root (s : State) (f) : (s.onDma f).root = s.root := rfl
@[simp] theorem State.onDma_small (s : State) (f) : (s.onDma f).small = s.small := rfl
@[simp] theorem State.onDma_jobs (s : State) (f) : (s.onDma f).jobs = s.jobs := rfl
@[simp] theorem State.onDma_jobSeq (s : State) (f) : (s.onDma f).jobSeq = s.jobSeq := rfl
@[simp] theorem State.onDma_swaps (s : State) (f) : (s.onDma f).swaps = s.swaps := rfl
@[simp] theorem State.onDma_sys (s : State) (f) : (s.onDma f).sys = s.sys := rfl
@[simp] theorem State.onDma_pmu (s : State) (f) : (s.onDma f).pmu = s.pmu := rfl
@[simp] theorem State.onDma_host (s : State) (f) : (s.onDma f).host = s.host := rfl
@[simp] theorem State.onDma_cmp (s : State) (f) : (s.onDma f).cmp = s.cmp := rfl
@[simp] theorem State.onDma_lq (s : State) (f) : (s.onDma f).lq = s.lq := rfl
@[simp] theorem State.onDma_lqPort (s : State) (f) : (s.onDma f).lqPort = s.lqPort := rfl
@[simp] theorem State.onDma_hpt (s : State) (f) : (s.onDma f).hpt = s.hpt := rfl
@[simp] theorem State.onDma_wfe (s : State) (f) : (s.onDma f).wfe = s.wfe := rfl
@[simp] theorem State.onDma_whead (s : State) (f) : (s.onDma f).whead = s.whead := rfl
@[simp] theorem State.onDma_nh (s : State) (f) : (s.onDma f).nh = s.nh := rfl
@[simp] theorem State.onDma_nhead (s : State) (f) : (s.onDma f).nhead = s.nhead := rfl
@[simp] theorem State.onDma_cal (s : State) (f) : (s.onDma f).cal = s.cal := rfl
@[simp] theorem State.onDma_axis (s : State) (f) : (s.onDma f).axis = s.axis := rfl
@[simp] theorem State.onDma_otp (s : State) (f) : (s.onDma f).otp = s.otp := rfl
@[simp] theorem State.onDma_weir (s : State) (f) : (s.onDma f).weir = s.weir := rfl
@[simp] theorem State.onDma_fire (s : State) (f) : (s.onDma f).fire = s.fire := rfl
@[simp] theorem State.onDma_memc (s : State) (f) : (s.onDma f).memc = s.memc := rfl
@[simp] theorem State.onDma_fab (s : State) (f) : (s.onDma f).fab = s.fab := rfl
@[simp] theorem State.onDma_tap (s : State) (f) : (s.onDma f).tap = s.tap := rfl
@[simp] theorem State.onDma_fresh (s : State) (f) : (s.onDma f).fresh = s.fresh := rfl
@[simp] theorem State.onDma_pending (s : State) (f) : (s.onDma f).pending = s.pending := rfl

@[simp] theorem State.onDmaCh_regs (s : State) (n) (f) : (s.onDmaCh n f).regs = s.regs := rfl
@[simp] theorem State.onDmaCh_act (s : State) (n) (f) : (s.onDmaCh n f).act = s.act := rfl
@[simp] theorem State.onDmaCh_mem (s : State) (n) (f) : (s.onDmaCh n f).mem = s.mem := rfl
@[simp] theorem State.onDmaCh_time (s : State) (n) (f) : (s.onDmaCh n f).time = s.time := rfl
@[simp] theorem State.onDmaCh_ticks (s : State) (n) (f) : (s.onDmaCh n f).ticks = s.ticks := rfl
@[simp] theorem State.onDmaCh_rdata (s : State) (n) (f) : (s.onDmaCh n f).rdata = s.rdata := rfl
@[simp] theorem State.onDmaCh_resp (s : State) (n) (f) : (s.onDmaCh n f).resp = s.resp := rfl
@[simp] theorem State.onDmaCh_root (s : State) (n) (f) : (s.onDmaCh n f).root = s.root := rfl
@[simp] theorem State.onDmaCh_small (s : State) (n) (f) : (s.onDmaCh n f).small = s.small := rfl
@[simp] theorem State.onDmaCh_jobs (s : State) (n) (f) : (s.onDmaCh n f).jobs = s.jobs := rfl
@[simp] theorem State.onDmaCh_jobSeq (s : State) (n) (f) : (s.onDmaCh n f).jobSeq = s.jobSeq := rfl
@[simp] theorem State.onDmaCh_swaps (s : State) (n) (f) : (s.onDmaCh n f).swaps = s.swaps := rfl
@[simp] theorem State.onDmaCh_sys (s : State) (n) (f) : (s.onDmaCh n f).sys = s.sys := rfl
@[simp] theorem State.onDmaCh_pmu (s : State) (n) (f) : (s.onDmaCh n f).pmu = s.pmu := rfl
@[simp] theorem State.onDmaCh_host (s : State) (n) (f) : (s.onDmaCh n f).host = s.host := rfl
@[simp] theorem State.onDmaCh_cmp (s : State) (n) (f) : (s.onDmaCh n f).cmp = s.cmp := rfl
@[simp] theorem State.onDmaCh_lq (s : State) (n) (f) : (s.onDmaCh n f).lq = s.lq := rfl
@[simp] theorem State.onDmaCh_lqPort (s : State) (n) (f) : (s.onDmaCh n f).lqPort = s.lqPort := rfl
@[simp] theorem State.onDmaCh_hpt (s : State) (n) (f) : (s.onDmaCh n f).hpt = s.hpt := rfl
@[simp] theorem State.onDmaCh_wfe (s : State) (n) (f) : (s.onDmaCh n f).wfe = s.wfe := rfl
@[simp] theorem State.onDmaCh_whead (s : State) (n) (f) : (s.onDmaCh n f).whead = s.whead := rfl
@[simp] theorem State.onDmaCh_nh (s : State) (n) (f) : (s.onDmaCh n f).nh = s.nh := rfl
@[simp] theorem State.onDmaCh_nhead (s : State) (n) (f) : (s.onDmaCh n f).nhead = s.nhead := rfl
@[simp] theorem State.onDmaCh_cal (s : State) (n) (f) : (s.onDmaCh n f).cal = s.cal := rfl
@[simp] theorem State.onDmaCh_axis (s : State) (n) (f) : (s.onDmaCh n f).axis = s.axis := rfl
@[simp] theorem State.onDmaCh_otp (s : State) (n) (f) : (s.onDmaCh n f).otp = s.otp := rfl
@[simp] theorem State.onDmaCh_weir (s : State) (n) (f) : (s.onDmaCh n f).weir = s.weir := rfl
@[simp] theorem State.onDmaCh_fire (s : State) (n) (f) : (s.onDmaCh n f).fire = s.fire := rfl
@[simp] theorem State.onDmaCh_memc (s : State) (n) (f) : (s.onDmaCh n f).memc = s.memc := rfl
@[simp] theorem State.onDmaCh_fab (s : State) (n) (f) : (s.onDmaCh n f).fab = s.fab := rfl
@[simp] theorem State.onDmaCh_tap (s : State) (n) (f) : (s.onDmaCh n f).tap = s.tap := rfl
@[simp] theorem State.onDmaCh_fresh (s : State) (n) (f) : (s.onDmaCh n f).fresh = s.fresh := rfl
@[simp] theorem State.onDmaCh_pending (s : State) (n) (f) : (s.onDmaCh n f).pending = s.pending := rfl

@[simp] theorem State.onJob_regs (s : State) (q) (f) : (s.onJob q f).regs = s.regs := rfl
@[simp] theorem State.onJob_act (s : State) (q) (f) : (s.onJob q f).act = s.act := rfl
@[simp] theorem State.onJob_mem (s : State) (q) (f) : (s.onJob q f).mem = s.mem := rfl
@[simp] theorem State.onJob_time (s : State) (q) (f) : (s.onJob q f).time = s.time := rfl
@[simp] theorem State.onJob_ticks (s : State) (q) (f) : (s.onJob q f).ticks = s.ticks := rfl
@[simp] theorem State.onJob_rdata (s : State) (q) (f) : (s.onJob q f).rdata = s.rdata := rfl
@[simp] theorem State.onJob_resp (s : State) (q) (f) : (s.onJob q f).resp = s.resp := rfl
@[simp] theorem State.onJob_root (s : State) (q) (f) : (s.onJob q f).root = s.root := rfl
@[simp] theorem State.onJob_small (s : State) (q) (f) : (s.onJob q f).small = s.small := rfl
@[simp] theorem State.onJob_jobSeq (s : State) (q) (f) : (s.onJob q f).jobSeq = s.jobSeq := rfl
@[simp] theorem State.onJob_swaps (s : State) (q) (f) : (s.onJob q f).swaps = s.swaps := rfl
@[simp] theorem State.onJob_sys (s : State) (q) (f) : (s.onJob q f).sys = s.sys := rfl
@[simp] theorem State.onJob_pmu (s : State) (q) (f) : (s.onJob q f).pmu = s.pmu := rfl
@[simp] theorem State.onJob_host (s : State) (q) (f) : (s.onJob q f).host = s.host := rfl
@[simp] theorem State.onJob_cmp (s : State) (q) (f) : (s.onJob q f).cmp = s.cmp := rfl
@[simp] theorem State.onJob_lq (s : State) (q) (f) : (s.onJob q f).lq = s.lq := rfl
@[simp] theorem State.onJob_lqPort (s : State) (q) (f) : (s.onJob q f).lqPort = s.lqPort := rfl
@[simp] theorem State.onJob_hpt (s : State) (q) (f) : (s.onJob q f).hpt = s.hpt := rfl
@[simp] theorem State.onJob_wfe (s : State) (q) (f) : (s.onJob q f).wfe = s.wfe := rfl
@[simp] theorem State.onJob_whead (s : State) (q) (f) : (s.onJob q f).whead = s.whead := rfl
@[simp] theorem State.onJob_nh (s : State) (q) (f) : (s.onJob q f).nh = s.nh := rfl
@[simp] theorem State.onJob_nhead (s : State) (q) (f) : (s.onJob q f).nhead = s.nhead := rfl
@[simp] theorem State.onJob_cal (s : State) (q) (f) : (s.onJob q f).cal = s.cal := rfl
@[simp] theorem State.onJob_axis (s : State) (q) (f) : (s.onJob q f).axis = s.axis := rfl
@[simp] theorem State.onJob_otp (s : State) (q) (f) : (s.onJob q f).otp = s.otp := rfl
@[simp] theorem State.onJob_weir (s : State) (q) (f) : (s.onJob q f).weir = s.weir := rfl
@[simp] theorem State.onJob_fire (s : State) (q) (f) : (s.onJob q f).fire = s.fire := rfl
@[simp] theorem State.onJob_dma (s : State) (q) (f) : (s.onJob q f).dma = s.dma := rfl
@[simp] theorem State.onJob_memc (s : State) (q) (f) : (s.onJob q f).memc = s.memc := rfl
@[simp] theorem State.onJob_fab (s : State) (q) (f) : (s.onJob q f).fab = s.fab := rfl
@[simp] theorem State.onJob_tap (s : State) (q) (f) : (s.onJob q f).tap = s.tap := rfl
@[simp] theorem State.onJob_fresh (s : State) (q) (f) : (s.onJob q f).fresh = s.fresh := rfl
@[simp] theorem State.onJob_pending (s : State) (q) (f) : (s.onJob q f).pending = s.pending := rfl

@[simp] theorem State.draw_regs (s : State) : (s.draw).regs = s.regs := rfl
@[simp] theorem State.draw_act (s : State) : (s.draw).act = s.act := rfl
@[simp] theorem State.draw_mem (s : State) : (s.draw).mem = s.mem := rfl
@[simp] theorem State.draw_time (s : State) : (s.draw).time = s.time := rfl
@[simp] theorem State.draw_ticks (s : State) : (s.draw).ticks = s.ticks := rfl
@[simp] theorem State.draw_rdata (s : State) : (s.draw).rdata = s.rdata := rfl
@[simp] theorem State.draw_resp (s : State) : (s.draw).resp = s.resp := rfl
@[simp] theorem State.draw_root (s : State) : (s.draw).root = s.root := rfl
@[simp] theorem State.draw_small (s : State) : (s.draw).small = s.small := rfl
@[simp] theorem State.draw_jobs (s : State) : (s.draw).jobs = s.jobs := rfl
@[simp] theorem State.draw_jobSeq (s : State) : (s.draw).jobSeq = s.jobSeq := rfl
@[simp] theorem State.draw_swaps (s : State) : (s.draw).swaps = s.swaps := rfl
@[simp] theorem State.draw_sys (s : State) : (s.draw).sys = s.sys := rfl
@[simp] theorem State.draw_pmu (s : State) : (s.draw).pmu = s.pmu := rfl
@[simp] theorem State.draw_host (s : State) : (s.draw).host = s.host := rfl
@[simp] theorem State.draw_cmp (s : State) : (s.draw).cmp = s.cmp := rfl
@[simp] theorem State.draw_lq (s : State) : (s.draw).lq = s.lq := rfl
@[simp] theorem State.draw_lqPort (s : State) : (s.draw).lqPort = s.lqPort := rfl
@[simp] theorem State.draw_hpt (s : State) : (s.draw).hpt = s.hpt := rfl
@[simp] theorem State.draw_wfe (s : State) : (s.draw).wfe = s.wfe := rfl
@[simp] theorem State.draw_whead (s : State) : (s.draw).whead = s.whead := rfl
@[simp] theorem State.draw_nh (s : State) : (s.draw).nh = s.nh := rfl
@[simp] theorem State.draw_nhead (s : State) : (s.draw).nhead = s.nhead := rfl
@[simp] theorem State.draw_cal (s : State) : (s.draw).cal = s.cal := rfl
@[simp] theorem State.draw_axis (s : State) : (s.draw).axis = s.axis := rfl
@[simp] theorem State.draw_otp (s : State) : (s.draw).otp = s.otp := rfl
@[simp] theorem State.draw_weir (s : State) : (s.draw).weir = s.weir := rfl
@[simp] theorem State.draw_fire (s : State) : (s.draw).fire = s.fire := rfl
@[simp] theorem State.draw_dma (s : State) : (s.draw).dma = s.dma := rfl
@[simp] theorem State.draw_memc (s : State) : (s.draw).memc = s.memc := rfl
@[simp] theorem State.draw_fab (s : State) : (s.draw).fab = s.fab := rfl
@[simp] theorem State.draw_tap (s : State) : (s.draw).tap = s.tap := rfl
@[simp] theorem State.draw_pending (s : State) : (s.draw).pending = s.pending := rfl

@[simp] theorem State.loadB_regs (s : State) (lo) (hi) : (s.loadB lo hi).regs = s.regs := rfl
@[simp] theorem State.loadB_mem (s : State) (lo) (hi) : (s.loadB lo hi).mem = s.mem := rfl
@[simp] theorem State.loadB_time (s : State) (lo) (hi) : (s.loadB lo hi).time = s.time := rfl
@[simp] theorem State.loadB_ticks (s : State) (lo) (hi) : (s.loadB lo hi).ticks = s.ticks := rfl
@[simp] theorem State.loadB_rdata (s : State) (lo) (hi) : (s.loadB lo hi).rdata = s.rdata := rfl
@[simp] theorem State.loadB_resp (s : State) (lo) (hi) : (s.loadB lo hi).resp = s.resp := rfl
@[simp] theorem State.loadB_root (s : State) (lo) (hi) : (s.loadB lo hi).root = s.root := rfl
@[simp] theorem State.loadB_small (s : State) (lo) (hi) : (s.loadB lo hi).small = s.small := rfl
@[simp] theorem State.loadB_jobs (s : State) (lo) (hi) : (s.loadB lo hi).jobs = s.jobs := rfl
@[simp] theorem State.loadB_jobSeq (s : State) (lo) (hi) : (s.loadB lo hi).jobSeq = s.jobSeq := rfl
@[simp] theorem State.loadB_swaps (s : State) (lo) (hi) : (s.loadB lo hi).swaps = s.swaps := rfl
@[simp] theorem State.loadB_sys (s : State) (lo) (hi) : (s.loadB lo hi).sys = s.sys := rfl
@[simp] theorem State.loadB_pmu (s : State) (lo) (hi) : (s.loadB lo hi).pmu = s.pmu := rfl
@[simp] theorem State.loadB_host (s : State) (lo) (hi) : (s.loadB lo hi).host = s.host := rfl
@[simp] theorem State.loadB_cmp (s : State) (lo) (hi) : (s.loadB lo hi).cmp = s.cmp := rfl
@[simp] theorem State.loadB_lq (s : State) (lo) (hi) : (s.loadB lo hi).lq = s.lq := rfl
@[simp] theorem State.loadB_lqPort (s : State) (lo) (hi) : (s.loadB lo hi).lqPort = s.lqPort := rfl
@[simp] theorem State.loadB_hpt (s : State) (lo) (hi) : (s.loadB lo hi).hpt = s.hpt := rfl
@[simp] theorem State.loadB_wfe (s : State) (lo) (hi) : (s.loadB lo hi).wfe = s.wfe := rfl
@[simp] theorem State.loadB_whead (s : State) (lo) (hi) : (s.loadB lo hi).whead = s.whead := rfl
@[simp] theorem State.loadB_nh (s : State) (lo) (hi) : (s.loadB lo hi).nh = s.nh := rfl
@[simp] theorem State.loadB_nhead (s : State) (lo) (hi) : (s.loadB lo hi).nhead = s.nhead := rfl
@[simp] theorem State.loadB_cal (s : State) (lo) (hi) : (s.loadB lo hi).cal = s.cal := rfl
@[simp] theorem State.loadB_axis (s : State) (lo) (hi) : (s.loadB lo hi).axis = s.axis := rfl
@[simp] theorem State.loadB_otp (s : State) (lo) (hi) : (s.loadB lo hi).otp = s.otp := rfl
@[simp] theorem State.loadB_weir (s : State) (lo) (hi) : (s.loadB lo hi).weir = s.weir := rfl
@[simp] theorem State.loadB_fire (s : State) (lo) (hi) : (s.loadB lo hi).fire = s.fire := rfl
@[simp] theorem State.loadB_dma (s : State) (lo) (hi) : (s.loadB lo hi).dma = s.dma := rfl
@[simp] theorem State.loadB_memc (s : State) (lo) (hi) : (s.loadB lo hi).memc = s.memc := rfl
@[simp] theorem State.loadB_fab (s : State) (lo) (hi) : (s.loadB lo hi).fab = s.fab := rfl
@[simp] theorem State.loadB_tap (s : State) (lo) (hi) : (s.loadB lo hi).tap = s.tap := rfl
@[simp] theorem State.loadB_fresh (s : State) (lo) (hi) : (s.loadB lo hi).fresh = s.fresh := rfl
@[simp] theorem State.loadB_pending (s : State) (lo) (hi) : (s.loadB lo hi).pending = s.pending := rfl

/-- A field holds no more than its width. -/
theorem State.get_lt (s : State) (f : Fld) : s.get f < 2 ^ f.width := Nat.mod_lt _ (Nat.two_pow_pos _)

end Sys2Proof.Machine
end

