-- ==== Sys2Proof/Laws/LineBuffers.lean ====
section
/-! SUPPORT. What an op of the compositor does to the line buffers: mapLb gives every position of the heads in its mask the
code of its function, and leaves every other head and buffer. -/

namespace Sys2Proof.Machine

/-- The list that buffer b holds for head h. -/
def State.lbList (s : State) (b h : Nat) : List Code := (s.cmp.lb.getD b []).getD h []

@[simp] theorem State.lbList_setLb (s : State) (b h : Nat) (l : List Code) (b' h' : Nat) :
    (s.setLb b h l).lbList b' h' = if b' = b ∧ h' = h then l else s.lbList b' h' := by
  show ((setFill [] s.cmp.lb b (setFill [] (s.cmp.lb.getD b []) h l)).getD b' []).getD h' [] = _
  rw [getD_setFill]
  by_cases hb : b' = b
  · subst hb
    rw [if_pos rfl, getD_setFill]
    by_cases hh : h' = h <;> simp [hh, State.lbList]
  · simp [hb, State.lbList]

theorem State.lbList_each (b : Nat) (g : Nat → List Code) (b' h' : Nat) : ∀ (hs : List Nat) (s : State),
    ((hs.map (fun h => (h, g h))).foldl (fun t p => State.setLb t b p.1 p.2) s).lbList b' h'
      = if b' = b ∧ h' ∈ hs then g h' else s.lbList b' h'
  | [], s => by simp
  | h :: t, s => by
    rw [List.map_cons, List.foldl_cons, State.lbList_each b g b' h' t, State.lbList_setLb]
    by_cases hb : b' = b <;> by_cases hm : h' ∈ t <;> by_cases hh : h' = h <;> simp [hb, hm, hh]

theorem State.lbList_mapLb (s : State) (j : Job) (b mask : Nat) (f : Nat → Nat → Code) (b' h' : Nat) :
    (s.mapLb j b mask f).lbList b' h'
      = if b' = b ∧ h' ∈ headsOf mask then (List.range (j.nnz h')).map (f h') else s.lbList b' h' :=
  State.lbList_each b (fun h => (List.range (j.nnz h)).map (f h)) b' h' _ s

/-- The state with other line buffers. -/
def State.withLb (s : State) (l : List (List (List Code))) : State := { s with cmp := { s.cmp with lb := l } }

theorem State.foldl_setLb (b : Nat) : ∀ (l : List (Nat × List Code)) (s : State),
    l.foldl (fun t p => State.setLb t b p.1 p.2) s = s.withLb (l.foldl (fun t p => State.setLb t b p.1 p.2) s).cmp.lb
  | [], _ => rfl
  | p :: t, s => by
    rw [List.foldl_cons, State.foldl_setLb b t]
    rfl

/-- An op changes nothing but the line buffers. -/
theorem State.mapLb_same (s : State) (j : Job) (b mask : Nat) (f : Nat → Nat → Code) :
    s.mapLb j b mask f = s.withLb (s.mapLb j b mask f).cmp.lb := State.foldl_setLb b _ s

/-- A written position holds the op's code. -/
theorem State.lbCode_mapLb (s : State) (j : Job) {b mask h k : Nat} (f : Nat → Nat → Code) (hm : h ∈ headsOf mask)
    (hk : k < j.nnz h) : (s.mapLb j b mask f).lbCode b h k = f h k := by
  have e : (s.mapLb j b mask f).lbList b h = (List.range (j.nnz h)).map (f h) := by rw [State.lbList_mapLb, if_pos ⟨rfl, hm⟩]
  have g : ((List.range (j.nnz h)).map (f h)).getD k 0#4 = f h k := by simp [List.getD, hk]
  unfold State.lbCode
  rw [← State.lbList, e]
  split
  · rename_i z
    have : j.nnz h = 0 := by simpa using z
    omega
  · exact g

/-- A head or buffer that is not written holds what it held. -/
theorem State.lbCode_mapLb_other (s : State) (j : Job) {b mask b' h k : Nat} (f : Nat → Nat → Code)
    (hm : b' ≠ b ∨ h ∉ headsOf mask) : (s.mapLb j b mask f).lbCode b' h k = s.lbCode b' h k := by
  have e : (s.mapLb j b mask f).lbList b' h = s.lbList b' h := by
    rw [State.lbList_mapLb, if_neg (fun c => hm.elim (fun n => n c.1) (fun n => n c.2))]
  have l : (s.mapLb j b mask f).cmp.lineSeq = s.cmp.lineSeq := by rw [State.mapLb_same]; rfl
  unfold State.lbCode
  rw [← State.lbList, ← State.lbList, e, l]

end Sys2Proof.Machine
end

