-- ==== Sys2Proof/Laws/Posting.lean ====
section
/-! SUPPORT. What posting leaves: packets sent, completions and events posted, and rail states settled change registers,
their active copies, HOSTIF, the fabric and the rail states only. -/

namespace Sys2Proof.Machine

/-- The state without what posting may change. -/
def State.restOf (s : State) : State := { s with regs := [], act := [], host := {}, fab := {}, whead := [] }

variable {R : State}

/-- s agrees with R on everything that posting leaves. -/
def State.Rests (R s : State) : Prop := s.restOf = R

@[simp] theorem rests_self (s : State) : s.restOf.Rests s := rfl

@[simp] theorem rests_with {s : State} {regs act host whead fab} (h : R.Rests s) :
    R.Rests (State.mk regs act s.mem s.time s.ticks s.rdata s.resp s.root s.small s.jobs s.jobSeq s.swaps s.sys s.pmu host
      s.cmp s.lq s.lqPort s.hpt s.wfe whead s.nh s.nhead s.cal s.axis s.otp s.weir s.fire s.dma s.memc fab s.tap s.fresh s.pending) := h

@[simp] theorem rests_wr {s : State} {a v} (h : R.Rests s) : R.Rests (s.wr a v) := h
@[simp] theorem rests_put {s : State} {f v} (h : R.Rests s) : R.Rests (s.put f v) := h
@[simp] theorem rests_raise {s : State} {f} (h : R.Rests s) : R.Rests (s.raise f) := h
@[simp] theorem rests_drop {s : State} {f} (h : R.Rests s) : R.Rests (s.drop f) := h
@[simp] theorem rests_bump {s : State} {f n} (h : R.Rests s) : R.Rests (s.bump f n) := h
@[simp] theorem rests_onHost {s : State} {f} (h : R.Rests s) : R.Rests (s.onHost f) := h
@[simp] theorem rests_onFab {s : State} {f} (h : R.Rests s) : R.Rests (s.onFab f) := h
@[simp] theorem rests_onWave {s : State} {k f} (h : R.Rests s) : R.Rests (s.onWave k f) := h

@[simp] theorem ite_rests {c : Prop} [Decidable c] {s t : State} (hs : R.Rests s) (ht : R.Rests t) :
    R.Rests (if c then s else t) := by split <;> assumption

@[simp] theorem State.when_rests {s : State} {c} {f : State → State} (hs : R.Rests s)
    (hf : ∀ t, R.Rests t → R.Rests (f t)) : R.Rests (State.when s c f) := by
  unfold State.when; split <;> simp_all

@[simp] theorem foldl_rests {α : Type} {f : State → α → State} (hf : ∀ y t, R.Rests t → R.Rests (f t y)) :
    ∀ {l : List α} {s : State}, R.Rests s → R.Rests (l.foldl f s) := by
  intro l
  induction l with
  | nil => exact fun h => h
  | cons x t ih => exact fun h => ih (hf x _ h)

@[simp] theorem State.each_rests {α} {s : State} {l} {f : α → State → State} (hs : R.Rests s)
    (hf : ∀ y t, R.Rests t → R.Rests (f y t)) : R.Rests (State.each s l f) := foldl_rests (fun y t h => hf y t h) hs

@[simp] theorem State.onPort_rests {s : State} {p f} (hs : R.Rests s) :
    R.Rests (State.onPort s p f) := by
  simp (maxDischargeDepth := 60) +contextual [State.onPort, hs]

@[simp] theorem State.sendLink_rests {s : State} {p k} (hs : R.Rests s) :
    R.Rests (State.sendLink s p k) := by
  simp (maxDischargeDepth := 60) +contextual [State.sendLink, hs]

@[simp] theorem State.sendCredit_rests {s : State} {p} (hs : R.Rests s) :
    R.Rests (State.sendCredit s p) := by
  simp (maxDischargeDepth := 60) +contextual [State.sendCredit, hs]

@[simp] theorem State.countFreed_rests {s : State} {p cls} (hs : R.Rests s) :
    R.Rests (State.countFreed s p cls) := by
  simp (maxDischargeDepth := 60) +contextual [State.countFreed, hs]

@[simp] theorem State.settleBuf_rests {s : State} {b} (hs : R.Rests s) :
    R.Rests (State.settleBuf s b) := by
  simp (maxDischargeDepth := 60) +contextual [State.settleBuf, hs]

@[simp] theorem State.pump_rests {s : State} {p a_} (hs : R.Rests s) :
    R.Rests (State.pump s p a_) := by
  revert hs; fun_induction State.pump s p a_ <;> intros <;> simp_all (maxDischargeDepth := 60) +contextual

@[simp] theorem State.pumpAll_rests {s : State} {p} (hs : R.Rests s) :
    R.Rests (State.pumpAll s p) := by
  simp (maxDischargeDepth := 60) +contextual [State.pumpAll, hs]

@[simp] theorem State.enqueue_rests {s : State} {p k b} (hs : R.Rests s) :
    R.Rests (State.enqueue s p k b) := by
  simp (maxDischargeDepth := 60) +contextual [State.enqueue, hs]

@[simp] theorem State.floodOut_rests {s : State} {except k b} (hs : R.Rests s) :
    R.Rests (State.floodOut s except k b) := by
  simp (maxDischargeDepth := 60) +contextual [State.floodOut, hs]

@[simp] theorem State.noteFlood_rests {s : State} {k} (hs : R.Rests s) :
    R.Rests (State.noteFlood s k) := by
  simp (maxDischargeDepth := 60) +contextual [State.noteFlood, hs]

@[simp] theorem State.floodOwn_rests {s : State} {k} (hs : R.Rests s) :
    R.Rests (State.floodOwn s k) := by
  simp (maxDischargeDepth := 60) +contextual [State.floodOwn, hs]

@[simp] theorem State.floodStop_rests {s : State} {cause} (hs : R.Rests s) :
    R.Rests (State.floodStop s cause) := by
  simp (maxDischargeDepth := 60) +contextual [State.floodStop, hs]

@[simp] theorem State.postBytes_rests {s : State} {addr l} (hs : R.Rests s) :
    R.Rests (State.postBytes s addr l) := by
  simp (maxDischargeDepth := 60) +contextual [State.postBytes, hs]

@[simp] theorem State.post_rests {s : State} {addr ws} (hs : R.Rests s) :
    R.Rests (State.post s addr ws) := by
  simp (maxDischargeDepth := 60) +contextual [State.post, hs]

@[simp] theorem State.msix_rests {s : State} {v} (hs : R.Rests s) :
    R.Rests (State.msix s v) := by
  simp (maxDischargeDepth := 60) +contextual [State.msix, hs]

@[simp] theorem State.ringWrite_rests {s : State} {baseLo baseHi log2 prod ws} (hs : R.Rests s) :
    R.Rests (State.ringWrite s baseLo baseHi log2 prod ws) := by
  simp (maxDischargeDepth := 60) +contextual [State.ringWrite, hs]

@[simp] theorem State.coverCpl_rests {s : State} {irq} (hs : R.Rests s) :
    R.Rests (State.coverCpl s irq) := by
  simp (maxDischargeDepth := 60) +contextual [State.coverCpl, hs]

@[simp] theorem State.coverEvt_rests {s : State} (hs : R.Rests s) :
    R.Rests (State.coverEvt s) := by
  simp (maxDischargeDepth := 60) +contextual [State.coverEvt, hs]

@[simp] theorem State.closeJob_rests {s : State} {r} (hs : R.Rests s) :
    R.Rests (State.closeJob s r) := by
  unfold State.closeJob; (repeat' split) <;> simp (maxDischargeDepth := 60) +contextual [hs]

@[simp] theorem State.drainCpl_rests {s : State} {a_} (hs : R.Rests s) :
    R.Rests (State.drainCpl s a_) := by
  revert hs; fun_induction State.drainCpl s a_ <;> intros <;> simp_all (maxDischargeDepth := 60) +contextual

@[simp] theorem State.drainEvt_rests {s : State} {a_} (hs : R.Rests s) :
    R.Rests (State.drainEvt s a_) := by
  revert hs; fun_induction State.drainEvt s a_ <;> intros <;> simp_all (maxDischargeDepth := 60) +contextual

@[simp] theorem State.newTag_rests {s : State} (hs : R.Rests s) :
    R.Rests (State.newTag s) := by
  simp (maxDischargeDepth := 60) +contextual [State.newTag, hs]

@[simp] theorem State.countNoPath_rests {s : State} {k} (hs : R.Rests s) :
    R.Rests (State.countNoPath s k) := by
  simp (maxDischargeDepth := 60) +contextual [State.countNoPath, hs]

@[simp] theorem State.sendAnswer_rests {s : State} {k} (hs : R.Rests s) :
    R.Rests (State.sendAnswer s k) := by
  unfold State.sendAnswer; (repeat' split) <;> simp (maxDischargeDepth := 60) +contextual [hs]

@[simp] theorem State.noPath_rests {s : State} {k} (hs : R.Rests s) :
    R.Rests (State.noPath s k) := by
  simp (maxDischargeDepth := 60) +contextual [State.noPath, hs]

@[simp] theorem State.sendRouted_rests {s : State} {k} (hs : R.Rests s) :
    R.Rests (State.sendRouted s k) := by
  unfold State.sendRouted; (repeat' split) <;> simp (maxDischargeDepth := 60) +contextual [hs]

@[simp] theorem State.issue_rests {s : State} {t k} (hs : R.Rests s) :
    R.Rests (State.issue s t k) := by
  simp (maxDischargeDepth := 60) +contextual [State.issue, hs]

@[simp] theorem State.issueHeld_rests {s : State} {a_} (hs : R.Rests s) :
    R.Rests (State.issueHeld s a_) := by
  revert hs; fun_induction State.issueHeld s a_ <;> intros <;> simp_all (maxDischargeDepth := 60) +contextual

@[simp] theorem State.sendWr_rests {s : State} {dst addr ws why} (hs : R.Rests s) :
    R.Rests (State.sendWr s dst addr ws why) := by
  simp (maxDischargeDepth := 60) +contextual [State.sendWr, hs]

@[simp] theorem State.sendRd_rests {s : State} {dst addr n why} (hs : R.Rests s) :
    R.Rests (State.sendRd s dst addr n why) := by
  simp (maxDischargeDepth := 60) +contextual [State.sendRd, hs]

@[simp] theorem State.sendCpl_rests {s : State} (hs : R.Rests s) :
    R.Rests (State.sendCpl s) := by
  unfold State.sendCpl; (repeat' split) <;> simp (maxDischargeDepth := 60) +contextual [hs]

@[simp] theorem State.sendEvt_rests {s : State} (hs : R.Rests s) :
    R.Rests (State.sendEvt s) := by
  unfold State.sendEvt; (repeat' split) <;> simp (maxDischargeDepth := 60) +contextual [hs]

@[simp] theorem State.postCompletion_rests {s : State} {r} (hs : R.Rests s) :
    R.Rests (State.postCompletion s r) := by
  simp (maxDischargeDepth := 60) +contextual [State.postCompletion, hs]

@[simp] theorem State.queueEvent_rests {s : State} {r} (hs : R.Rests s) :
    R.Rests (State.queueEvent s r) := by
  simp (maxDischargeDepth := 60) +contextual [State.queueEvent, hs]

@[simp] theorem State.postEvent_rests {s : State} {code data} (hs : R.Rests s) :
    R.Rests (State.postEvent s code data) := by
  simp (maxDischargeDepth := 60) +contextual [State.postEvent, hs]

@[simp] theorem State.trySettle_rests {s : State} {h} (hs : R.Rests s) :
    R.Rests (State.trySettle s h) := by
  simp (maxDischargeDepth := 60) +contextual [State.trySettle, hs]

@[simp] theorem State.settleHeads_rests {s : State} (hs : R.Rests s) :
    R.Rests (State.settleHeads s) := by
  simp (maxDischargeDepth := 60) +contextual [State.settleHeads, hs]

/-- Settling rail states leaves all but registers and the rail states. -/
theorem State.settleHeads_rest (s : State) : s.settleHeads.restOf = s.restOf := settleHeads_rests (rests_self s)
@[simp] theorem State.settleHeads_jobs (s : State) : s.settleHeads.jobs = s.jobs :=
  (congrArg State.jobs s.settleHeads_rest :)
@[simp] theorem State.settleHeads_mem (s : State) : s.settleHeads.mem = s.mem :=
  (congrArg State.mem s.settleHeads_rest :)

/-- Settling rail states writes the heads' status registers alone. -/
theorem State.settleHeads_rd (s : State) {a : Nat} (h : ∀ k, k < 16 → WFE.HEAD_STAT k ≠ a) : s.settleHeads.rd a = s.rd a := by
  have go : ∀ (l : List Nat) (t : State), (∀ k ∈ l, WFE.HEAD_STAT k ≠ a) → (t.each l (fun h u => u.trySettle h)).rd a = t.rd a := by
    intro l
    induction l with
    | nil => exact fun t _ => rfl
    | cons k r ih =>
      intro t hl
      refine (ih _ fun j hj => hl j (List.mem_cons_of_mem _ hj)).trans ?_
      unfold State.trySettle State.when
      dsimp only
      split
      · exact State.rd_put_other _ _ _ (hl k (List.mem_cons_self ..))
      · rfl
  exact go _ s fun k hk => h k (List.mem_range.1 hk)

/-- Posting an event leaves the rest. -/
theorem State.postEvent_rest (s : State) (c : Nat) (d : List Word) : (s.postEvent c d).restOf = s.restOf :=
  postEvent_rests (rests_self s)

@[simp] theorem State.idleClassB_rests {s : State} (hs : R.Rests s) : R.Rests (State.idleClassB s) := by
  unfold State.idleClassB State.when; split <;> exact hs

/-- The compositor beside a job that completes: in the middle of a line it keeps the job until the line's end, between two
lines it drops it (R462). -/
def State.cmpAfter (s : State) (q : Nat) : CmpState :=
  match s.job? q with
  | none => s.cmp
  | some j =>
    if s.cmp.job == some q && !j.composed then
      if s.flag CMP.STATUS.BUSY then { s.cmp with abandon := true, hold := some j } else { s.cmp with job := none, abandon := false }
    else s.cmp

/-- A completion takes exactly the jobs of its number away, and tells a compositor at work on it. -/
theorem State.complete_rest (s : State) (q st so c : Nat) : (s.complete q st so c).restOf = { s.restOf with
    jobs := s.jobs.filter (·.seq != q)
    cmp := s.cmpAfter q } := by
  unfold State.complete State.cmpAfter
  cases hj : s.job? q with
  | none =>
    have : s.jobs.filter (·.seq != q) = s.jobs := by
      refine List.filter_eq_self.2 fun j hm => ?_
      have := List.find?_eq_none.1 hj j hm
      simpa [bne] using this
    simp [this, State.restOf]
  | some j =>
    refine (idleClassB_rests (R := State.restOf _) (settleHeads_rests (postCompletion_rests (rests_self _)))).trans ?_
    cases hb : (s.cmp.job == some q && !j.composed) <;> simp only [State.when, hb] <;> rfl

theorem State.complete_jobs (s : State) (q st so c : Nat) : (s.complete q st so c).jobs = s.jobs.filter (·.seq != q) :=
  congrArg State.jobs (s.complete_rest q st so c)

/-- No job is left after a stop (R24). -/
theorem State.stopJobs_jobs (s : State) : s.stopJobs.jobs = [] := by
  have go : ∀ (l : List Nat) (t : State), (∀ j ∈ t.jobs, j.seq ∈ l) → (t.each l (fun q u => u.complete q 1 0 0)).jobs = [] := by
    intro l
    induction l with
    | nil =>
      intro t h
      exact List.eq_nil_iff_forall_not_mem.2 fun j hj => absurd (h j hj) (by simp)
    | cons q r ih =>
      intro t h
      refine ih (t.complete q 1 0 0) fun j hj => ?_
      rw [State.complete_jobs] at hj
      obtain ⟨hm, hq⟩ := List.mem_filter.1 hj
      have hne : j.seq ≠ q := by simpa using hq
      exact (List.mem_cons.1 (h j hm)).resolve_left hne
  exact go _ s fun j hj => List.mem_map_of_mem hj

/-- Swaps that have no table left are posted and gone; the others wait on. -/
theorem State.finishSwaps_rest (s : State) :
    s.finishSwaps.restOf = { s.restOf with swaps := s.swaps.filter (fun w => w.left != 0) } := by
  unfold State.finishSwaps
  generalize s.swaps.filter (fun w => w.left == 0) = l
  have go : ∀ (l : List Swap) (t : State),
      (t.each l (fun w u => u.postEvent 0x0001 [w32 w.mask, w32 w.lineL, w32 w.lineF])).restOf = t.restOf := by
    intro l
    induction l with
    | nil => exact fun t => rfl
    | cons w r ih =>
      intro t
      have e := State.postEvent_rest t 1 [w32 w.mask, w32 w.lineL, w32 w.lineF]
      exact (ih _).trans e
  exact go l _

/-- A swap of the tables m leaves the swaps that have tables left. -/
theorem State.swapWhere_swaps (s : State) (sel : Swap → Bool) (m : Nat) (upd : Swap → Swap) :
    (s.swapWhere sel m upd).swaps = (s.swaps.map (fun w =>
      if sel w && w.left &&& m != 0 then { upd w with left := w.left - (w.left &&& m) } else w)).filter (fun w => w.left != 0) :=
  congrArg State.swaps (State.finishSwaps_rest _)

theorem State.swapWhere_jobs (s : State) (sel : Swap → Bool) (m : Nat) (upd : Swap → Swap) :
    (s.swapWhere sel m upd).jobs = s.jobs := by
  refine (congrArg State.jobs (State.finishSwaps_rest _)).trans ?_
  simp only [State.toggleTables, State.when]
  split <;> split <;> rfl

end Sys2Proof.Machine
end

