-- ==== Sys2Proof/Laws/Queues.lean ====
section
/-! SUPPORT. What the shared operations of the line queues do to the queues: the registers follow, the order of the lines
stays, and one queue's change leaves the others. -/

namespace Sys2Proof.Machine

@[simp] theorem State.syncQueue_queue (s : State) (h g : Nat) : (s.syncQueue h).queue g = s.queue g := by
  unfold State.syncQueue
  simp only
  split <;> rfl

@[simp] theorem State.syncQueue_mem (s : State) (h : Nat) : (s.syncQueue h).mem = s.mem := by
  unfold State.syncQueue
  simp only
  split <;> rfl

@[simp] theorem State.syncQueue_act (s : State) (h : Nat) : (s.syncQueue h).act = s.act := by
  unfold State.syncQueue
  simp only
  split <;> rfl

/-- The landing line enters the tail in its place. -/
@[simp] theorem Queue.land_lines (q : Queue) : q.land.lines = q.lines := by
  unfold Queue.land
  split
  · rename_i l e
    split <;> simp [Queue.lines, e]
  · rfl

/-- What a queue starts leaves its lines where they are. -/
@[simp] theorem Queue.start_lines (q : Queue) (deep room : Bool) : (q.start deep room).lines = q.lines := by
  unfold Queue.start
  dsimp only
  (repeat' split) <;> rfl

@[simp] theorem Queue.start_drop (q : Queue) (deep room : Bool) : (q.start deep room).drop = q.drop := by
  unfold Queue.start
  dsimp only
  (repeat' split) <;> rfl

/-- Queue h with the content q, its landing line in place and its transfers started (R60, R67). -/
def State.settled (s : State) (h : Nat) (q : Queue) : Queue :=
  q.land.start (16 < s.getA (LQ.CAP.CAP h)) (q.land.spill.length < s.get (LQ.SPILL_LINES.LINES h))

@[simp] theorem State.settled_lines (s : State) (h : Nat) (q : Queue) : (s.settled h q).lines = q.lines := by
  simp [State.settled]

@[simp] theorem State.servePort_queue (s : State) (h : Nat) : s.servePort.queue h = s.queue h := by
  unfold State.servePort
  split <;> rfl

@[simp] theorem State.servePort_mem (s : State) : s.servePort.mem = s.mem := by
  unfold State.servePort
  split <;> rfl

/-- A change of queue h is seen in queue h alone. -/
theorem State.setQueue_queue (s : State) (h g : Nat) (f : Queue → Queue) :
    (s.setQueue h f).queue g = if g = h then s.settled h (f (s.queue h)) else s.queue g := by
  unfold State.setQueue State.startMoves
  rw [State.syncQueue_queue, State.servePort_queue, State.queue_onQueue]
  split
  · rw [State.queue_onQueue, if_pos rfl]
    rfl
  · rename_i n
    rw [State.queue_onQueue, if_neg n]

@[simp] theorem State.setQueue_mem (s : State) (h : Nat) (f : Queue → Queue) : (s.setQueue h f).mem = s.mem := by
  unfold State.setQueue
  rw [State.syncQueue_mem, State.servePort_mem]
  rfl

@[simp] theorem State.servePort_act (s : State) : s.servePort.act = s.act := by
  unfold State.servePort
  split <;> rfl

@[simp] theorem State.setQueue_act (s : State) (h : Nat) (f : Queue → Queue) : (s.setQueue h f).act = s.act := by
  unfold State.setQueue
  rw [State.syncQueue_act, State.servePort_act]
  rfl

/-- Without a CAP that waits, a queue boundary only loads the configuration. -/
theorem State.queueBoundary_free (s : State) (h : Nat) (e : s.act.any (·.1 == LQ.CAP h) = false) :
    s.queueBoundary h = s.loadB (LQ.CFG h) (LQ.CFG h + 4) := by
  have n : (s.loadB (LQ.CFG h) (LQ.CFG h + 4)).act.any (·.1 == LQ.CAP h) = false := by
    rw [List.any_eq_false] at e ⊢
    exact fun x hx => e x (List.mem_filter.1 hx).1
  unfold State.queueBoundary
  simp only [n, Bool.false_eq_true, if_false]

/-- The end of a line leaves the queues. -/
theorem State.endLine_queue (s : State) (g : Nat) : s.endLine.queue g = s.queue g := by
  unfold State.endLine State.when
  dsimp only
  (repeat' split) <;> rfl

theorem State.endLine_mem (s : State) : s.endLine.mem = s.mem := by
  unfold State.endLine State.when
  dsimp only
  (repeat' split) <;> rfl

end Sys2Proof.Machine
end

