-- ==== Sys2Proof/Laws/Stopping.lean ====
section
/-! SUPPORT. What the parts of a node stop leave: the jobs and the state of the fire engine, but for the parts that are
about them, and so what a stop leaves behind (R24). -/

namespace Sys2Proof.Machine

variable {J : List Job} {X : FireState} {K : CalState}

/-- The jobs and the state of the fire engine and of CAL are the given ones. -/
def State.Works (J : List Job) (X : FireState) (K : CalState) (s : State) : Prop := s.jobs = J ∧ s.fire = X ∧ s.cal = K

@[simp] theorem works_self (s : State) : s.Works s.jobs s.fire s.cal := ⟨rfl, rfl, rfl⟩

@[simp] theorem works_with {s : State} {regs act mem time ticks rdata resp root small jobSeq swaps sys pmu host cmp lq lqPort hpt wfe whead nh
    nhead axis otp weir dma memc fab tap fresh pending} (h : s.Works J X K) :
    (State.mk regs act mem time ticks rdata resp root small s.jobs jobSeq swaps sys pmu host cmp lq lqPort hpt wfe whead nh nhead s.cal axis otp
      weir s.fire dma memc fab tap fresh pending).Works J X K := h

@[simp] theorem works_wr {s : State} {a v} (h : s.Works J X K) : (s.wr a v).Works J X K := h
@[simp] theorem works_put {s : State} {f v} (h : s.Works J X K) : (s.put f v).Works J X K := h
@[simp] theorem works_raise {s : State} {f} (h : s.Works J X K) : (s.raise f).Works J X K := h
@[simp] theorem works_drop {s : State} {f} (h : s.Works J X K) : (s.drop f).Works J X K := h
@[simp] theorem works_bump {s : State} {f n} (h : s.Works J X K) : (s.bump f n).Works J X K := h
@[simp] theorem works_onHost {s : State} {f} (h : s.Works J X K) : (s.onHost f).Works J X K := h
@[simp] theorem works_onFab {s : State} {f} (h : s.Works J X K) : (s.onFab f).Works J X K := h
@[simp] theorem works_onCmp {s : State} {f} (h : s.Works J X K) : (s.onCmp f).Works J X K := h
@[simp] theorem works_onNh {s : State} {f} (h : s.Works J X K) : (s.onNh f).Works J X K := h
@[simp] theorem works_onWave {s : State} {k f} (h : s.Works J X K) : (s.onWave k f).Works J X K := h
@[simp] theorem works_onNhh {s : State} {k f} (h : s.Works J X K) : (s.onNhh k f).Works J X K := h
@[simp] theorem works_onChan {s : State} {k f} (h : s.Works J X K) : (s.onChan k f).Works J X K := h
@[simp] theorem works_onQueue {s : State} {k f} (h : s.Works J X K) : (s.onQueue k f).Works J X K := h

@[simp] theorem ite_works {c : Prop} [Decidable c] {s t : State} (hs : s.Works J X K) (ht : t.Works J X K) :
    (if c then s else t).Works J X K := by split <;> assumption

@[simp] theorem State.when_works {s : State} {c} {f : State → State} (hs : s.Works J X K)
    (hf : ∀ t : State, t.Works J X K → (f t).Works J X K) : (State.when s c f).Works J X K := by
  unfold State.when; split <;> simp_all

@[simp] theorem foldl_works {α : Type} {f : State → α → State} (hf : ∀ y t, State.Works J X K t → (f t y).Works J X K) :
    ∀ {l : List α} {s : State}, s.Works J X K → (l.foldl f s).Works J X K := by
  intro l
  induction l with
  | nil => exact fun h => h
  | cons x t ih => exact fun h => ih (hf x _ h)

@[simp] theorem State.each_works {α} {s : State} {l} {f : α → State → State} (hs : s.Works J X K)
    (hf : ∀ y t, State.Works J X K t → (f y t).Works J X K) : (State.each s l f).Works J X K := foldl_works (fun y t h => hf y t h) hs

@[simp] theorem State.onPort_works {s : State} {p f} (hs : s.Works J X K) :
    (State.onPort s p f).Works J X K := by
  simp (maxDischargeDepth := 60) +contextual [State.onPort, hs]

@[simp] theorem State.sendLink_works {s : State} {p k} (hs : s.Works J X K) :
    (State.sendLink s p k).Works J X K := by
  simp (maxDischargeDepth := 60) +contextual [State.sendLink, hs]

@[simp] theorem State.sendCredit_works {s : State} {p} (hs : s.Works J X K) :
    (State.sendCredit s p).Works J X K := by
  simp (maxDischargeDepth := 60) +contextual [State.sendCredit, hs]

@[simp] theorem State.countFreed_works {s : State} {p cls} (hs : s.Works J X K) :
    (State.countFreed s p cls).Works J X K := by
  simp (maxDischargeDepth := 60) +contextual [State.countFreed, hs]

@[simp] theorem State.settleBuf_works {s : State} {b} (hs : s.Works J X K) :
    (State.settleBuf s b).Works J X K := by
  simp (maxDischargeDepth := 60) +contextual [State.settleBuf, hs]

@[simp] theorem State.pump_works {s : State} {p a_} (hs : s.Works J X K) :
    (State.pump s p a_).Works J X K := by
  revert hs; fun_induction State.pump s p a_ <;> intros <;> simp_all (maxDischargeDepth := 60) +contextual

@[simp] theorem State.pumpAll_works {s : State} {p} (hs : s.Works J X K) :
    (State.pumpAll s p).Works J X K := by
  simp (maxDischargeDepth := 60) +contextual [State.pumpAll, hs]

@[simp] theorem State.enqueue_works {s : State} {p k b} (hs : s.Works J X K) :
    (State.enqueue s p k b).Works J X K := by
  simp (maxDischargeDepth := 60) +contextual [State.enqueue, hs]

@[simp] theorem State.floodOut_works {s : State} {except k b} (hs : s.Works J X K) :
    (State.floodOut s except k b).Works J X K := by
  simp (maxDischargeDepth := 60) +contextual [State.floodOut, hs]

@[simp] theorem State.noteFlood_works {s : State} {k} (hs : s.Works J X K) :
    (State.noteFlood s k).Works J X K := by
  simp (maxDischargeDepth := 60) +contextual [State.noteFlood, hs]

@[simp] theorem State.floodOwn_works {s : State} {k} (hs : s.Works J X K) :
    (State.floodOwn s k).Works J X K := by
  simp (maxDischargeDepth := 60) +contextual [State.floodOwn, hs]

@[simp] theorem State.floodStop_works {s : State} {cause} (hs : s.Works J X K) :
    (State.floodStop s cause).Works J X K := by
  simp (maxDischargeDepth := 60) +contextual [State.floodStop, hs]

@[simp] theorem State.postBytes_works {s : State} {addr l} (hs : s.Works J X K) :
    (State.postBytes s addr l).Works J X K := by
  simp (maxDischargeDepth := 60) +contextual [State.postBytes, hs]

@[simp] theorem State.post_works {s : State} {addr ws} (hs : s.Works J X K) :
    (State.post s addr ws).Works J X K := by
  simp (maxDischargeDepth := 60) +contextual [State.post, hs]

@[simp] theorem State.msix_works {s : State} {v} (hs : s.Works J X K) :
    (State.msix s v).Works J X K := by
  simp (maxDischargeDepth := 60) +contextual [State.msix, hs]

@[simp] theorem State.ringWrite_works {s : State} {baseLo baseHi log2 prod ws} (hs : s.Works J X K) :
    (State.ringWrite s baseLo baseHi log2 prod ws).Works J X K := by
  simp (maxDischargeDepth := 60) +contextual [State.ringWrite, hs]

@[simp] theorem State.coverCpl_works {s : State} {irq} (hs : s.Works J X K) :
    (State.coverCpl s irq).Works J X K := by
  simp (maxDischargeDepth := 60) +contextual [State.coverCpl, hs]

@[simp] theorem State.coverEvt_works {s : State} (hs : s.Works J X K) :
    (State.coverEvt s).Works J X K := by
  simp (maxDischargeDepth := 60) +contextual [State.coverEvt, hs]

@[simp] theorem State.closeJob_works {s : State} {r} (hs : s.Works J X K) :
    (State.closeJob s r).Works J X K := by
  unfold State.closeJob; (repeat' split) <;> simp (maxDischargeDepth := 60) +contextual [hs]

@[simp] theorem State.drainCpl_works {s : State} {a_} (hs : s.Works J X K) :
    (State.drainCpl s a_).Works J X K := by
  revert hs; fun_induction State.drainCpl s a_ <;> intros <;> simp_all (maxDischargeDepth := 60) +contextual

@[simp] theorem State.drainEvt_works {s : State} {a_} (hs : s.Works J X K) :
    (State.drainEvt s a_).Works J X K := by
  revert hs; fun_induction State.drainEvt s a_ <;> intros <;> simp_all (maxDischargeDepth := 60) +contextual

@[simp] theorem State.newTag_works {s : State} (hs : s.Works J X K) :
    (State.newTag s).Works J X K := by
  simp (maxDischargeDepth := 60) +contextual [State.newTag, hs]

@[simp] theorem State.countNoPath_works {s : State} {k} (hs : s.Works J X K) :
    (State.countNoPath s k).Works J X K := by
  simp (maxDischargeDepth := 60) +contextual [State.countNoPath, hs]

@[simp] theorem State.sendAnswer_works {s : State} {k} (hs : s.Works J X K) :
    (State.sendAnswer s k).Works J X K := by
  unfold State.sendAnswer; (repeat' split) <;> simp (maxDischargeDepth := 60) +contextual [hs]

@[simp] theorem State.noPath_works {s : State} {k} (hs : s.Works J X K) :
    (State.noPath s k).Works J X K := by
  simp (maxDischargeDepth := 60) +contextual [State.noPath, hs]

@[simp] theorem State.sendRouted_works {s : State} {k} (hs : s.Works J X K) :
    (State.sendRouted s k).Works J X K := by
  unfold State.sendRouted; (repeat' split) <;> simp (maxDischargeDepth := 60) +contextual [hs]

@[simp] theorem State.issue_works {s : State} {t k} (hs : s.Works J X K) :
    (State.issue s t k).Works J X K := by
  simp (maxDischargeDepth := 60) +contextual [State.issue, hs]

@[simp] theorem State.issueHeld_works {s : State} {a_} (hs : s.Works J X K) :
    (State.issueHeld s a_).Works J X K := by
  revert hs; fun_induction State.issueHeld s a_ <;> intros <;> simp_all (maxDischargeDepth := 60) +contextual

@[simp] theorem State.sendWr_works {s : State} {dst addr ws why} (hs : s.Works J X K) :
    (State.sendWr s dst addr ws why).Works J X K := by
  simp (maxDischargeDepth := 60) +contextual [State.sendWr, hs]

@[simp] theorem State.sendRd_works {s : State} {dst addr n why} (hs : s.Works J X K) :
    (State.sendRd s dst addr n why).Works J X K := by
  simp (maxDischargeDepth := 60) +contextual [State.sendRd, hs]

@[simp] theorem State.sendCpl_works {s : State} (hs : s.Works J X K) :
    (State.sendCpl s).Works J X K := by
  unfold State.sendCpl; (repeat' split) <;> simp (maxDischargeDepth := 60) +contextual [hs]

@[simp] theorem State.sendEvt_works {s : State} (hs : s.Works J X K) :
    (State.sendEvt s).Works J X K := by
  unfold State.sendEvt; (repeat' split) <;> simp (maxDischargeDepth := 60) +contextual [hs]

@[simp] theorem State.postCompletion_works {s : State} {r} (hs : s.Works J X K) :
    (State.postCompletion s r).Works J X K := by
  simp (maxDischargeDepth := 60) +contextual [State.postCompletion, hs]

@[simp] theorem State.queueEvent_works {s : State} {r} (hs : s.Works J X K) :
    (State.queueEvent s r).Works J X K := by
  simp (maxDischargeDepth := 60) +contextual [State.queueEvent, hs]

@[simp] theorem State.postEvent_works {s : State} {code data} (hs : s.Works J X K) :
    (State.postEvent s code data).Works J X K := by
  simp (maxDischargeDepth := 60) +contextual [State.postEvent, hs]

@[simp] theorem State.trySettle_works {s : State} {h} (hs : s.Works J X K) :
    (State.trySettle s h).Works J X K := by
  simp (maxDischargeDepth := 60) +contextual [State.trySettle, hs]

@[simp] theorem State.settleHeads_works {s : State} (hs : s.Works J X K) :
    (State.settleHeads s).Works J X K := by
  simp (maxDischargeDepth := 60) +contextual [State.settleHeads, hs]

@[simp] theorem State.countSkip_works {s : State} {h pos scan} (hs : s.Works J X K) :
    (State.countSkip s h pos scan).Works J X K := by
  simp (maxDischargeDepth := 60) +contextual [State.countSkip, hs]

@[simp] theorem State.skipSense_works {s : State} {h pos} (hs : s.Works J X K) :
    (State.skipSense s h pos).Works J X K := by
  unfold State.skipSense; (repeat' split) <;> simp (maxDischargeDepth := 60) +contextual [hs]

@[simp] theorem State.voidSense_works {s : State} {h pos} (hs : s.Works J X K) :
    (State.voidSense s h pos).Works J X K := by
  simp only [State.voidSense]; (repeat' split) <;> simp (maxDischargeDepth := 60) +contextual [hs]

@[simp] theorem State.showRail_works {s : State} {h st} (hs : s.Works J X K) :
    (State.showRail s h st).Works J X K := by
  simp (maxDischargeDepth := 60) +contextual [State.showRail, hs]

@[simp] theorem State.moveRail_works {s : State} {h st} (hs : s.Works J X K) :
    (State.moveRail s h st).Works J X K := by
  simp (maxDischargeDepth := 60) +contextual [State.moveRail, hs]

@[simp] theorem State.releaseRail_works {s : State} {h} (hs : s.Works J X K) :
    (State.releaseRail s h).Works J X K := by
  simp (maxDischargeDepth := 60) +contextual [State.releaseRail, hs]

@[simp] theorem State.voidSlot_works {s : State} {c} (hs : s.Works J X K) :
    (State.voidSlot s c).Works J X K := by
  unfold State.voidSlot; (repeat' split) <;> simp (maxDischargeDepth := 60) +contextual [hs]

@[simp] theorem State.cutSlots_works {s : State} (hs : s.Works J X K) :
    (State.cutSlots s).Works J X K := by
  simp (maxDischargeDepth := 60) +contextual [State.cutSlots, hs]

@[simp] theorem State.syncFire_works {s : State} (hs : s.Works J X K) :
    (State.syncFire s).Works J X K := by
  simp (maxDischargeDepth := 60) +contextual [State.syncFire, hs]

@[simp] theorem State.syncCmp_works {s : State} (hs : s.Works J X K) :
    (State.syncCmp s).Works J X K := by
  simp (maxDischargeDepth := 60) +contextual [State.syncCmp, hs]

@[simp] theorem State.setKill_works {s : State} {l} (hs : s.Works J X K) :
    (State.setKill s l).Works J X K := by
  simp (maxDischargeDepth := 60) +contextual [State.setKill, hs]

@[simp] theorem State.toggleTables_works {s : State} {m} (hs : s.Works J X K) :
    (State.toggleTables s m).Works J X K := by
  simp (maxDischargeDepth := 60) +contextual [State.toggleTables, hs]

@[simp] theorem State.lateKills_works {s : State} (hs : s.Works J X K) :
    (State.lateKills s).Works J X K := by
  simp (maxDischargeDepth := 60) +contextual [State.lateKills, hs]

@[simp] theorem State.finishSwaps_works {s : State} (hs : s.Works J X K) :
    (State.finishSwaps s).Works J X K := by
  simp (maxDischargeDepth := 60) +contextual [State.finishSwaps, hs]

@[simp] theorem State.swapWhere_works {s : State} {sel m upd} (hs : s.Works J X K) :
    (State.swapWhere s sel m upd).Works J X K := by
  simp (maxDischargeDepth := 60) +contextual [State.swapWhere, hs]

@[simp] theorem State.swapComposeAt_works {s : State} {l} (hs : s.Works J X K) :
    (State.swapComposeAt s l).Works J X K := by
  simp (maxDischargeDepth := 60) +contextual [State.swapComposeAt, hs]

@[simp] theorem State.swapComposeIdle_works {s : State} (hs : s.Works J X K) :
    (State.swapComposeIdle s).Works J X K := by
  simp (maxDischargeDepth := 60) +contextual [State.swapComposeIdle, hs]

@[simp] theorem State.swapCalIdle_works {s : State} (hs : s.Works J X K) :
    (State.swapCalIdle s).Works J X K := by
  simp (maxDischargeDepth := 60) +contextual [State.swapCalIdle, hs]

@[simp] theorem State.swapCalAt_works {s : State} {g} (hs : s.Works J X K) :
    (State.swapCalAt s g).Works J X K := by
  simp (maxDischargeDepth := 60) +contextual [State.swapCalAt, hs]

@[simp] theorem State.tagSwaps_works {s : State} {l g} (hs : s.Works J X K) :
    (State.tagSwaps s l g).Works J X K := by
  simp (maxDischargeDepth := 60) +contextual [State.tagSwaps, hs]

@[simp] theorem State.swapStop_works {s : State} (hs : s.Works J X K) :
    (State.swapStop s).Works J X K := by
  simp (maxDischargeDepth := 60) +contextual [State.swapStop, hs]

@[simp] theorem State.sendTap_works {s : State} {a} (hs : s.Works J X K) :
    (State.sendTap s a).Works J X K := by
  simp (maxDischargeDepth := 60) +contextual [State.sendTap, hs]

@[simp] theorem State.syncPin_works {s : State} (hs : s.Works J X K) :
    (State.syncPin s).Works J X K := by
  simp (maxDischargeDepth := 60) +contextual [State.syncPin, hs]

@[simp] theorem State.cmpAbandon_works {s : State} {stop} (hs : s.Works J X K) :
    (State.cmpAbandon s stop).Works J X K := by
  simp (maxDischargeDepth := 60) +contextual [State.cmpAbandon, hs]

@[simp] theorem State.stopPorts_works {s : State} (hs : s.Works J X K) :
    (State.stopPorts s).Works J X K := by
  simp (maxDischargeDepth := 60) +contextual [State.stopPorts, hs]

/-- A completion leaves the fire engine and CAL. -/
theorem State.complete_cal (s : State) (q st so c : Nat) : (s.complete q st so c).cal = s.cal := by
  have e := congrArg State.cal (s.complete_rest q st so c)
  exact e

theorem State.stopJobs_cal (s : State) : s.stopJobs.cal = s.cal := by
  unfold State.stopJobs State.each
  generalize s.jobs.map (·.seq) = l
  induction l generalizing s with
  | nil => rfl
  | cons q r ih => exact (ih (s.complete q 1 0 0)).trans (s.complete_cal q 1 0 0)

theorem State.complete_fire (s : State) (q st so c : Nat) : (s.complete q st so c).fire = s.fire := by
  have e := congrArg State.fire (s.complete_rest q st so c)
  exact e

theorem State.stopJobs_fire (s : State) : s.stopJobs.fire = s.fire := by
  unfold State.stopJobs State.each
  generalize s.jobs.map (·.seq) = l
  induction l generalizing s with
  | nil => rfl
  | cons q r ih => exact (ih (s.complete q 1 0 0)).trans (s.complete_fire q 1 0 0)

/-- What a stop leaves: no job, the fire engine without triggers, taps and compare, and no run of CAL that was not there. -/
theorem State.nodeStop_works (s : State) (cause : Nat) (h : s.flag FIRE.SLUICE_STAT.STOPPED = false) :
    (s.nodeStop cause).Works [] { s.fire with
      trigs := [], taps := [], loaded := false, check := false, prev := none, contig := none, tRefPrev := none, overRun := false }
      { s.cal with stopDue := match s.cal.meas with | some r => decide (r.elem < 48) | none => s.cal.stopDue } := by
  unfold State.nodeStop
  rw [h]
  simp only [Bool.false_eq_true, if_false]
  have key : ∀ u : State, u.fire = s.fire ∧ u.cal = s.cal → ∀ v : State, v = (((u.onFire (fun f => { f with
      trigs := [], taps := [], loaded := false, check := false, prev := none, contig := none, tRefPrev := none, overRun := false })).wr
        FIRE.CMP_FRAC 0#32).wr FIRE.CMP_INT 0#32).stopJobs → v.Works [] { s.fire with
      trigs := [], taps := [], loaded := false, check := false, prev := none, contig := none, tRefPrev := none, overRun := false } s.cal := by
    intro u hu v hv
    refine ⟨hv ▸ State.stopJobs_jobs _, ?_, ?_⟩
    · rw [hv, State.stopJobs_fire, ← hu.1]
      rfl
    · rw [hv, State.stopJobs_cal, ← hu.2]
      rfl
  have tail := fun (X : FireState) (v : State) (hv : v.Works [] X s.cal) => State.floodStop_works (cause := cause) (State.cutSlots_works
    (State.stopPorts_works (works_put (f := LQ.FLUSH.REQ) (v := v.syncFire.syncCmp.get LQ.FLUSH.REQ ||| (2 ^ v.syncFire.syncCmp.nHeads - 1))
      (State.syncCmp_works (State.syncFire_works hv)))))
  have fin : ∀ i X, State.Works [] X s.cal i → State.Works [] X
      { s.cal with stopDue := match s.cal.meas with | some r => decide (r.elem < 48) | none => s.cal.stopDue }
      (match i.cal.meas with
        | some r => i.onCal (fun c => { c with stopDue := decide (r.elem < 48) })
        | none => i) := by
    intro i X hi
    rw [hi.2.2]
    split
    · next r hr => exact ⟨hi.1, hi.2.1, by rw [State.onCal_cal, hi.2.2]⟩
    · next hr => exact ⟨hi.1, hi.2.1, hi.2.2⟩
  refine fin _ _ (tail _ _ (State.swapStop_works (State.cmpAbandon_works (key _ ?_ _ rfl))))
  refine (State.each_works (J := s.jobs) (X := s.fire) (K := s.cal) (State.each_works (State.syncPin_works (State.when_works ?_ ?_))
    (fun y t h => works_raise h)) (fun y t h => State.sendTap_works h)).2
  · exact works_put (works_put (works_put (works_self s)))
  · exact fun t h => works_raise h

/-- Where no swap is pending and no drop waits to be reported, swaps on idle engines change neither the jobs nor the fire
engine nor CAL, and no swap becomes pending. -/
theorem State.settleSwaps_works {s : State} (h : s.Works J X K) (hf : s.fab.unreachDue = []) (hs : s.swaps = []) :
    s.settleSwaps.Works J X K ∧ s.settleSwaps.swaps = [] := by
  have one : ∀ t : State, t.fab.unreachDue = [] ∧ t.swaps = [] → ∀ sel m upd,
      (t.swapWhere sel m upd).fab.unreachDue = [] ∧ (t.swapWhere sel m upd).swaps = [] := by
    intro t ht sel m upd
    have e : t.swapWhere sel m upd = { t.toggleTables 0 with swaps := [] } := by
      simp [State.swapWhere, ht.2, State.finishSwaps, State.each]
    rw [e]
    refine ⟨?_, rfl⟩
    simp only [State.toggleTables, State.when]
    (repeat' split) <;> exact ht.1
  have two : ∀ (t : State) (c : Bool) (f : State → State), t.fab.unreachDue = [] ∧ t.swaps = [] →
      (∀ u : State, u.fab.unreachDue = [] ∧ u.swaps = [] → (f u).fab.unreachDue = [] ∧ (f u).swaps = []) →
      (t.when c f).fab.unreachDue = [] ∧ (t.when c f).swaps = [] := by
    intro t c f ht hf
    cases c
    · exact ht
    · exact hf t ht
  unfold State.settleSwaps
  have w : State.Works J X K _ := State.when_works (c := (s.when s.cmpIdle State.swapComposeIdle).fireIdle)
    (State.when_works (c := s.cmpIdle) h (fun _ h => State.swapComposeIdle_works h)) (fun _ h => State.swapCalIdle_works h)
  have q := two _ (s.when s.cmpIdle State.swapComposeIdle).fireIdle State.swapCalIdle
    (two s s.cmpIdle State.swapComposeIdle ⟨hf, hs⟩ (fun u hu => one u hu _ _ _)) (fun u hu => one u hu _ _ _)
  dsimp only
  unfold State.unreachRun
  rw [q.1]
  exact ⟨w, q.2⟩

/-- Without a run on the measurement lane a stop ends none. -/
theorem State.stopRun_none (s : State) (h : s.cal.meas = none) : s.stopRun = s := by
  unfold State.stopRun
  rw [h]
  split <;> first | rfl | (rename_i h; cases h)

/-! What a stop ends stays ended: the reports that follow it leave it so. -/

@[simp] theorem works_onSys {s : State} {f} (h : s.Works J X K) : (s.onSys f).Works J X K := h
@[simp] theorem works_draw {s : State} (h : s.Works J X K) : s.draw.Works J X K := h

@[simp] theorem State.syncSev_works {s : State} (hs : s.Works J X K) : s.syncSev.Works J X K := hs
@[simp] theorem State.syncStops_works {s : State} (hs : s.Works J X K) : s.syncStops.Works J X K := hs
@[simp] theorem State.syncEvq_works {s : State} (hs : s.Works J X K) : s.syncEvq.Works J X K := hs
@[simp] theorem State.recordFirst_works {s : State} {q v i d} (hs : s.Works J X K) : (s.recordFirst q v i d).Works J X K := by
  simp (maxDischargeDepth := 60) +contextual [State.recordFirst, hs]
@[simp] theorem State.recordLatest_works {s : State} {q v i d} (hs : s.Works J X K) : (s.recordLatest q v i d).Works J X K := by
  simp (maxDischargeDepth := 60) +contextual [State.recordLatest, hs]

@[simp] theorem State.nmi_works {s : State} (hs : s.Works J X K) : s.nmi.Works J X K := by
  unfold State.nmi
  split <;> exact hs

@[simp] theorem State.fatal_works {s : State} {q} (hs : s.Works J X K) : (s.fatal q).Works J X K := by
  simp (maxDischargeDepth := 60) +contextual [State.fatal, State.wdtPause, State.countFatal, hs]

/-- The fire engine after a stop. -/
def FireState.stopped (f : FireState) : FireState := { f with
  trigs := [], taps := [], loaded := false, check := false, prev := none, contig := none, tRefPrev := none, overRun := false }

section Ends

variable {P : List Job → FireState → Prop}

/-- A property of the jobs and the fire engine that a stop keeps is kept by a stop of the node, a report, and the reports
of dropped packets. -/
theorem State.nodeStop_ends {s : State} (hP : ∀ J X, P J X → P [] X.stopped) (cause : Nat) (h : P s.jobs s.fire) :
    P (s.nodeStop cause).jobs (s.nodeStop cause).fire := by
  by_cases e : s.flag FIRE.SLUICE_STAT.STOPPED = true
  · simpa [State.nodeStop, e] using h
  · have w := State.nodeStop_works s cause (by simpa using e)
    rw [w.1, w.2.1]
    exact hP _ _ h

theorem State.when_ends {s : State} {c : Bool} {f : State → State} (h : P s.jobs s.fire)
    (hf : ∀ t : State, P t.jobs t.fire → P (f t).jobs (f t).fire) : P (s.when c f).jobs (s.when c f).fire := by
  cases c
  · exact h
  · exact hf s h

theorem State.Works.cal_eq {t : State} (w : t.Works J X K) : t.cal = K := w.2.2

theorem State.Works.ends {s t : State} (w : t.Works s.jobs s.fire s.cal) (h : P s.jobs s.fire) : P t.jobs t.fire := by
  rw [w.1, w.2.1]
  exact h

theorem State.reportCore_ends {s : State} (hP : ∀ J X, P J X → P [] X.stopped) (q v i d : Nat) (h : P s.jobs s.fire) :
    P (s.reportCore q v i d).jobs (s.reportCore q v i d).fire := by
  unfold State.reportCore
  split
  · exact h
  dsimp only
  refine State.when_ends (State.when_ends (State.Works.ends (s := s) ?_ h) fun t ht => State.nodeStop_ends hP _ ht)
    fun t ht => State.Works.ends (State.fatal_works (works_self t)) ht
  refine State.when_works (State.when_works (State.syncSev_works (ite_works ?_ ?_)) fun t ht => State.postEvent_works ht)
    fun t ht => State.syncStops_works (works_onSys ht)
  · exact State.syncEvq_works (works_onSys (ite_works (State.recordLatest_works (works_self s)) (State.recordFirst_works (works_self s))))
  · exact works_raise (works_bump (ite_works (State.recordLatest_works (works_self s)) (State.recordFirst_works (works_self s))))

theorem State.unreachRun_ends {s : State} (hP : ∀ J X, P J X → P [] X.stopped) (h : P s.jobs s.fire) :
    P s.unreachRun.jobs s.unreachRun.fire := by
  have go : ∀ (l : List (Nat × Nat)) (t : State), P t.jobs t.fire → ∀ u, u = (t.each l (fun d t =>
      if t.fab.unreach.contains d.1 then t.raise FAB.STATUS.UNREACH
      else
        let a := (t.raise FAB.STATUS.UNREACH).onFab (fun b => { b with unreach := insertAsc b.unreach d.1 })
        (a.reportCore Src.FAB_UNREACH (a.get (ERR.SRC_CFG.SEV Src.FAB_UNREACH)) d.1 d.2).noteOverflow
          (a.evqFull Src.FAB_UNREACH) Src.FAB_UNREACH)) → P u.jobs u.fire := by
    intro l
    induction l with
    | nil => exact fun t h u e => e ▸ h
    | cons d r ih =>
      intro t h u e
      refine ih _ ?_ u e
      dsimp only
      split
      · exact h
      · exact State.when_ends (State.reportCore_ends hP _ _ _ _ h) fun v hv => State.reportCore_ends hP _ _ _ _ hv
  exact go _ (s.onFab _) h _ rfl

/-- So do swaps on idle engines. -/
theorem State.settleSwaps_ends {s : State} (hP : ∀ J X, P J X → P [] X.stopped) (h : P s.jobs s.fire) :
    P s.settleSwaps.jobs s.settleSwaps.fire := by
  unfold State.settleSwaps
  refine State.unreachRun_ends hP (State.when_ends (State.when_ends h fun t ht => ?_) fun t ht => ?_)
  · exact State.Works.ends (State.swapComposeIdle_works (works_self t)) ht
  · exact State.Works.ends (State.swapCalIdle_works (works_self t)) ht

end Ends

/-- No job, no trigger, no tap, no line compare and no last fire line: what a stop leaves. -/
def Calm (pin : Bool) (J : List Job) (X : FireState) : Prop :=
  J = [] ∧ X.trigs = [] ∧ X.taps = [] ∧ X.loaded = false ∧ X.prev = none ∧ X.pinLow = pin

/-- The lane that is freed has no run. -/
theorem State.freeLane_ends (s : State) : s.freeLane.jobs = s.jobs ∧ s.freeLane.fire = s.fire ∧ s.freeLane.cal.meas = none := by
  unfold State.freeLane
  cases hm : s.cal.meas with
  | none => exact ⟨rfl, rfl, hm⟩
  | some r => dsimp only [State.when]; split <;> exact ⟨rfl, rfl, rfl⟩

/-- The end of a channel run leaves the jobs and the fire engine, and no run. -/
theorem State.abortLane_ends (s : State) (code : Nat) :
    (s.abortLane code).jobs = s.jobs ∧ (s.abortLane code).fire = s.fire ∧ (s.abortLane code).cal.meas = none := by
  unfold State.abortLane
  cases hm : s.cal.meas with
  | none => exact ⟨rfl, rfl, hm⟩
  | some r =>
    dsimp only
    have e : (((s.calResult r.elem code 0 0 r.tRun).bump CAL.ABORT_CNT.COUNT).calRetry r.elem).jobs = s.jobs ∧
        (((s.calResult r.elem code 0 0 r.tRun).bump CAL.ABORT_CNT.COUNT).calRetry r.elem).fire = s.fire := by
      have h1 : ∀ (u : State) k, (u.calRetry k).jobs = u.jobs ∧ (u.calRetry k).fire = u.fire := fun _ _ => ⟨rfl, rfl⟩
      have h2 : ∀ (u : State) f n, (u.bump f n).jobs = u.jobs ∧ (u.bump f n).fire = u.fire := fun _ _ _ => ⟨rfl, rfl⟩
      have h3 : ∀ (u : State) a v, (u.wr a v).jobs = u.jobs ∧ (u.wr a v).fire = u.fire := fun _ _ _ => ⟨rfl, rfl⟩
      unfold State.calResult
      rw [(h1 _ _).1, (h1 _ _).2, (h2 _ _ _).1, (h2 _ _ _).2, (h2 _ _ _).1, (h2 _ _ _).2, (h3 _ _ _).1, (h3 _ _ _).2]
      exact ⟨rfl, rfl⟩
    have k := State.freeLane_ends (((s.calResult r.elem code 0 0 r.tRun).bump CAL.ABORT_CNT.COUNT).calRetry r.elem)
    rw [e.1, e.2] at k
    revert k
    generalize (((s.calResult r.elem code 0 0 r.tRun).bump CAL.ABORT_CNT.COUNT).calRetry r.elem).freeLane = t
    intro k
    have w : (t.when (decide (r.elem < 32)) (·.releaseRail (headOf r.elem))).Works t.jobs t.fire t.cal :=
      State.when_works (works_self t) fun u hu => State.releaseRail_works hu
    exact ⟨w.1.trans k.1, w.2.1.trans k.2.1, (congrArg CalState.meas w.2.2).trans k.2.2⟩

/-- A node stop and a report keep the run of CAL. -/
theorem State.nodeStop_meas (s : State) (cause : Nat) : (s.nodeStop cause).cal.meas = s.cal.meas := by
  by_cases e : s.flag FIRE.SLUICE_STAT.STOPPED = true
  · simp [State.nodeStop, e]
  · rw [(State.nodeStop_works s cause (by simpa using e)).2.2]

theorem State.when_meas {s : State} {c : Bool} {f : State → State} (hf : ∀ t : State, (f t).cal.meas = t.cal.meas) :
    (s.when c f).cal.meas = s.cal.meas := by
  cases c
  · rfl
  · exact hf s

theorem State.reportCore_meas (s : State) (q v i d : Nat) : (s.reportCore q v i d).cal.meas = s.cal.meas := by
  unfold State.reportCore
  split
  · rfl
  dsimp only
  rw [State.when_meas (fun t => congrArg CalState.meas (State.fatal_works (works_self t)).2.2), State.when_meas (fun t => State.nodeStop_meas t 3)]
  refine congrArg CalState.meas (State.Works.cal_eq (J := s.jobs) (X := s.fire) ?_)
  refine State.when_works (State.when_works (State.syncSev_works (ite_works ?_ ?_)) fun t ht => State.postEvent_works ht)
    fun t ht => State.syncStops_works (works_onSys ht)
  · exact State.syncEvq_works (works_onSys (ite_works (State.recordLatest_works (works_self s)) (State.recordFirst_works (works_self s))))
  · exact works_raise (works_bump (ite_works (State.recordLatest_works (works_self s)) (State.recordFirst_works (works_self s))))

theorem State.noteOverflow_meas (s : State) (full : Bool) (q : Nat) : (s.noteOverflow full q).cal.meas = s.cal.meas := by
  unfold State.noteOverflow
  refine State.when_meas fun u => ?_
  rw [State.reportCore_meas]
  rfl

theorem State.unreachRun_meas (s : State) : s.unreachRun.cal.meas = s.cal.meas := by
  unfold State.unreachRun State.each
  generalize s.fab.unreachDue = l
  have h0 : (s.onFab (fun b => { b with unreachDue := [] })).cal.meas = s.cal.meas := rfl
  revert h0
  generalize s.onFab (fun b => { b with unreachDue := [] }) = t
  induction l generalizing t with
  | nil => exact fun h => h
  | cons d r ih =>
    intro h
    refine ih _ ?_
    dsimp only
    split
    · exact h
    · rw [State.noteOverflow_meas, State.reportCore_meas]
      exact h

/-- A stop leaves no job, trigger, tap and line compare, and no run of a channel (R24, R240). -/
theorem State.halt_calm (s : State) (c : Nat) (h : s.flag FIRE.SLUICE_STAT.STOPPED = false) :
    Calm s.fire.pinLow (s.halt c).jobs (s.halt c).fire ∧
      (s.halt c).cal.meas = (match s.cal.meas with | some r => if r.elem < 48 then none else some r | none => none) := by
  have w := State.nodeStop_works s c h
  have hP : ∀ J X, Calm s.fire.pinLow J X → Calm s.fire.pinLow [] X.stopped := fun J X h => ⟨rfl, rfl, rfl, rfl, rfl, h.2.2.2.2.2⟩
  have h0 : Calm s.fire.pinLow (s.nodeStop c).jobs (s.nodeStop c).fire := by
    rw [w.1, w.2.1]
    exact ⟨rfl, rfl, rfl, rfl, rfl, rfl⟩
  have key : Calm s.fire.pinLow (s.nodeStop c).stopRun.jobs (s.nodeStop c).stopRun.fire ∧
      (s.nodeStop c).stopRun.cal.meas = (match s.cal.meas with | some r => if r.elem < 48 then none else some r | none => none) := by
    cases hm : s.cal.meas with
    | none =>
      have e : (s.nodeStop c).stopRun = s.nodeStop c := State.stopRun_none _ (by rw [w.2.2]; exact hm)
      rw [e]
      exact ⟨h0, (State.nodeStop_meas s c).trans hm⟩
    | some r =>
      have h1 : (s.nodeStop c).cal.meas = some r := (State.nodeStop_meas s c).trans hm
      have h2 : (s.nodeStop c).cal.stopDue = decide (r.elem < 48) := by rw [w.2.2, hm]
      unfold State.stopRun
      by_cases he : r.elem < 48
      · have a := State.abortLane_ends (s.nodeStop c) 0x21
        simp only [h1, h2, he, decide_true, if_true]
        refine ⟨?_, ?_⟩
        · have h3 : Calm s.fire.pinLow ((s.nodeStop c).abortLane 0x21).jobs ((s.nodeStop c).abortLane 0x21).fire := by
            rw [a.1, a.2.1]
            exact h0
          unfold State.noteOverflow
          exact State.when_ends (State.reportCore_ends hP _ _ _ _ h3) fun u hu => State.reportCore_ends hP _ _ _ _ hu
        · rw [State.noteOverflow_meas, State.reportCore_meas]
          exact a.2.2
      · simp only [h1, h2, he, decide_false, if_false]
        exact ⟨h0, trivial⟩
  unfold State.halt
  exact ⟨State.unreachRun_ends hP key.1, (State.unreachRun_meas _).trans key.2⟩

/-- A stop without such a run. -/
theorem State.halt_none (s : State) (c : Nat) (h : s.cal.meas = none) : s.halt c = (s.nodeStop c).unreachRun := by
  unfold State.halt
  rw [State.stopRun_none]
  by_cases hs : s.flag FIRE.SLUICE_STAT.STOPPED = true
  · simp [State.nodeStop, hs, h]
  · rw [(State.nodeStop_works s c (by simpa using hs)).2.2]
    exact h

end Sys2Proof.Machine
end

