-- ==== Sys2Proof/Laws/Tick.lean ====
section
/-! SUPPORT. What the operations of Machine/Tick.lean keep (Laws/Keep.lean). -/

namespace Sys2Proof.Machine

variable {Q : List Instr} {B : Nat → Nat} {M : Option (List Host.Cell)} {F : Option (List (Nat × Nat))} {C : Option Cistern}

@[simp] theorem State.idleTick_good {s : State} (hs : s.Good Q B none none C) :
    (State.idleTick s).Good Q B none none C := by
  simp (maxDischargeDepth := 60) +contextual [State.idleTick, hs]

end Sys2Proof.Machine
end

