-- ==== Sys2Proof/Laws/Statements.lean ====
section
/-! SUPPORT. General lemmas for proofs of the statements: that every command keeps the invariant and what its family does
not touch, and how the small operations that many commands share compose. -/

namespace Sys2Proof.Machine

@[simp] theorem State.goOn_self (s : State) (f : State → State) : s.goOn s f = f s := by
  simp [State.goOn, State.when]

/-- Where no report is owed, none is made. -/
theorem State.quiet_unreachRun {s : State} (h : s.fab.unreachDue = []) : s.unreachRun = s := by
  unfold State.unreachRun State.each State.onFab
  rw [h]
  show { s with fab := { s.fab with unreachDue := [] } } = s
  rw [← h]

theorem State.quiet_stopRun {s : State} (h : s.cal.stopDue = false) : s.stopRun = s := by
  simp [State.stopRun, h]

theorem State.of_quiet {s : State} (h : s.quiet = true) : s.cal.stopDue = false ∧ s.fab.unreachDue = [] := by
  simpa [State.quiet] using h

theorem good_of_inv {s : State} (h : s.Inv) :
    s.Good s.pending (s.cell) (some s.mem) (some s.otp.cells) (some s.weir.cistern) :=
  ⟨h.1, h.2.1, h.2.2, rfl, fun _ => Nat.le_refl _, fun _ e => Option.some.inj e, fun _ e => Option.some.inj e, fun _ e => Option.some.inj e⟩

variable {Q : List Instr} {B : Nat → Nat} {M : Option (List Host.Cell)} {F : Option (List (Nat × Nat))} {C : Option Cistern}
theorem exec_good (c : Instr) {s : State} (hs : s.Good Q B none none none) : Answers Q B none none none (exec c s) := by
  cases c
  case registerWrite => exact execRegisterWrite_good hs
  case rcRead => exact execRcRead_good hs
  case crossingRead => exact execCrossingRead_good hs
  case armEn => exact execArmEn_good hs
  case tblSwapCal => exact execTblSwapCal_good hs
  case tblSwapRail => exact execTblSwapRail_good hs
  case tblSwapComp => exact execTblSwapComp_good hs
  case tblSwapHealth => exact execTblSwapHealth_good hs
  case swapIdleComplete => exact execSwapIdleComplete_good hs
  case errorReport => exact execErrorReport_good hs
  case sluicePin => exact execSluicePin_good hs
  case sluiceSet => exact execSluiceSet_good hs
  case sluiceClr => exact execSluiceClr_good hs
  case sluiceClrCheck => exact execSluiceClrCheck_good hs
  case fireEnable => exact execFireEnable_good hs
  case fireDisable => exact execFireDisable_good hs
  case cmpEnable => exact execCmpEnable_good hs
  case cmpDisable => exact execCmpDisable_good hs
  case composeLineBoundary => exact execComposeLineBoundary_good hs
  case opClear => exact execOpClear_good hs
  case fetchOp => exact execFetchOp_good hs
  case mergeOp => exact execMergeOp_good hs
  case lookupOp => exact execLookupOp_good hs
  case passmaskOp => exact execPassmaskOp_good hs
  case stitchOp => exact execStitchOp_good hs
  case railOp => exact execRailOp_good hs
  case compOp => exact execCompOp_good hs
  case emitOp => exact execEmitOp_good hs
  case programLoad => exact execProgramLoad_good hs
  case killSet => exact execKillSet_good hs
  case killClr => exact execKillClr_good hs
  case linePush => exact execLinePush_good hs
  case tailToHeadMove => exact execTailToHeadMove_good hs
  case spillComplete => exact execSpillComplete_good hs
  case refillComplete => exact execRefillComplete_good hs
  case popLine => exact execPopLine_good hs
  case popDeadline => exact execPopDeadline_good hs
  case lqFlush => exact execLqFlush_good hs
  case flushEffect => exact execFlushEffect_good hs
  case flushTimeout => exact execFlushTimeout_good hs
  case lqEnable => exact execLqEnable_good hs
  case lqDisable => exact execLqDisable_good hs
  case qptrMismatch => exact execQptrMismatch_good hs
  case latStart => exact execLatStart_good hs
  case latEnd => exact execLatEnd_good hs
  case frameComplete => exact execFrameComplete_good hs
  case xferLate => exact execXferLate_good hs
  case constBits => exact execConstBits_good hs
  case noz => exact execNoz_good hs
  case crcMark => exact execCrcMark_good hs
  case crcInsert => exact execCrcInsert_good hs
  case loopLane => exact execLoopLane_good hs
  case frameEnd => exact execFrameEnd_good hs
  case fpLoad => exact execFpLoad_good hs
  case fpCheckComplete => exact execFpCheckComplete_good hs
  case portEnable => exact execPortEnable_good hs
  case portReady => exact execPortReady_good hs
  case portDisable => exact execPortDisable_good hs
  case hptDisable => exact execHptDisable_good hs
  case prsSample => exact execPrsSample_good hs
  case laneFault => exact execLaneFault_good hs
  case downClr => exact execDownClr_good hs
  case i2cTransaction => exact execI2cTransaction_good hs
  case i2cDone => exact execI2cDone_good hs
  case i2cStretchTimeout => exact execI2cStretchTimeout_good hs
  case ramp => exact execRamp_good hs
  case hold => exact execHold_good hs
  case win => exact execWin_good hs
  case sense => exact execSense_good hs
  case jump => exact execJump_good hs
  case endSlot => exact execEndSlot_good hs
  case slotLimit => exact execSlotLimit_good hs
  case channelEnable => exact execChannelEnable_good hs
  case channelReady => exact execChannelReady_good hs
  case channelDisable => exact execChannelDisable_good hs
  case rampDownComplete => exact execRampDownComplete_good hs
  case wfeDisable => exact execWfeDisable_good hs
  case faultClr => exact execFaultClr_good hs
  case pdReset => exact execPdReset_good hs
  case shortFault => exact execShortFault_good hs
  case ampFlt => exact execAmpFlt_good hs
  case trackFault => exact execTrackFault_good hs
  case takeoverClr => exact execTakeoverClr_good hs
  case headDownClr => exact execHeadDownClr_good hs
  case validSample => exact execValidSample_good hs
  case predictionStale => exact execPredictionStale_good hs
  case jobArm => exact execJobArm_good hs
  case fireLineBoundary => exact execFireLineBoundary_good hs
  case rowTrigger => exact execRowTrigger_good hs
  case jobComplete => exact execJobComplete_good hs
  case inputAccepted => exact execInputAccepted_good hs
  case axisStopped => exact execAxisStopped_good hs
  case serialFrameStart => exact execSerialFrameStart_good hs
  case noack => exact execNoack_good hs
  case serialTimeout => exact execSerialTimeout_good hs
  case serialFrameComplete => exact execSerialFrameComplete_good hs
  case wireLoss => exact execWireLoss_good hs
  case wireRestore => exact execWireRestore_good hs
  case snapAll => exact execSnapAll_good hs
  case tideHandoff => exact execTideHandoff_good hs
  case axisEnable => exact execAxisEnable_good hs
  case axisDisable => exact execAxisDisable_good hs
  case tempMeasure => exact execTempMeasure_good hs
  case noRise => exact execNoRise_good hs
  case htrFault => exact execHtrFault_good hs
  case senseResult => exact execSenseResult_good hs
  case forceClass => exact execForceClass_good hs
  case stateClr => exact execStateClr_good hs
  case publishReq => exact execPublishReq_good hs
  case pubTmo => exact execPubTmo_good hs
  case publish => exact execPublish_good hs
  case nhEnable => exact execNhEnable_good hs
  case senseEn => exact execSenseEn_good hs
  case dieTempSample => exact execDieTempSample_good hs
  case calReq => exact execCalReq_good hs
  case channelRun => exact execChannelRun_good hs
  case delayPathRun => exact execDelayPathRun_good hs
  case encoderRun => exact execEncoderRun_good hs
  case encTmo => exact execEncTmo_good hs
  case baselineRun => exact execBaselineRun_good hs
  case railRun => exact execRailRun_good hs
  case runComplete => exact execRunComplete_good hs
  case ctlAbort => exact execCtlAbort_good hs
  case retryTmo => exact execRetryTmo_good hs
  case recalc => exact execRecalc_good hs
  case rebuild => exact execRebuild_good hs
  case calExport => exact execCalExport_good hs
  case calImport => exact execCalImport_good hs
  case weirPor => exact execWeirPor_good hs
  case tapGap => exact execTapGap_good hs
  case getId => exact execGetId_good hs
  case getStatus => exact execGetStatus_good hs
  case readTotals => exact execReadTotals_good hs
  case readEvent => exact execReadEvent_good hs
  case readParams => exact execReadParams_good hs
  case loadBegin => exact execLoadBegin_good hs
  case loadChunk => exact execLoadChunk_good hs
  case loadEnd => exact execLoadEnd_good hs
  case challenge => exact execChallenge_good hs
  case paramLoad => exact execParamLoad_good hs
  case setParams => exact execSetParams_good hs
  case sealWeir => exact execSealWeir_good hs
  case addFw => exact execAddFw_good hs
  case authLockExpiry => exact execAuthLockExpiry_good hs
  case wxStep => exact execWxStep_good hs
  case wxLost => exact execWxLost_good hs
  case tapWordReceived => exact execTapWordReceived_good hs
  case volUpdate => exact execVolUpdate_good hs
  case sealBreach => exact execSealBreach_good hs
  case latchHandling => exact execLatchHandling_good hs
  case linkUp => exact execLinkUp_good hs
  case trainRetry => exact execTrainRetry_good hs
  case linkLost => exact execLinkLost_good hs
  case replayTimeout => exact execReplayTimeout_good hs
  case stopPacket => exact execStopPacket_good hs
  case clearPacket => exact execClearPacket_good hs
  case clearExec => exact execClearExec_good hs
  case bcastClr => exact execBcastClr_good hs
  case ctrlRd => exact execCtrlRd_good hs
  case ctrlWr => exact execCtrlWr_good hs
  case ctrlRsp => exact execCtrlRsp_good hs
  case probe => exact execProbe_good hs
  case probeRsp => exact execProbeRsp_good hs
  case assign => exact execAssign_good hs
  case assignRsp => exact execAssignRsp_good hs
  case timePacket => exact execTimePacket_good hs
  case timeSend => exact execTimeSend_good hs
  case posPacket => exact execPosPacket_good hs
  case bulkWr => exact execBulkWr_good hs
  case bulkRd => exact execBulkRd_good hs
  case wrRsp => exact execWrRsp_good hs
  case rdCpl => exact execRdCpl_good hs
  case creditPacket => exact execCreditPacket_good hs
  case ackPacket => exact execAckPacket_good hs
  case nakPacket => exact execNakPacket_good hs
  case keepalive => exact execKeepalive_good hs
  case dlyReq => exact execDlyReq_good hs
  case dlyRsp => exact execDlyRsp_good hs
  case delayMeasurement => exact execDelayMeasurement_good hs
  case bulkTimeout => exact execBulkTimeout_good hs
  case ctrlTimeout => exact execCtrlTimeout_good hs
  case holdoverTimeout => exact execHoldoverTimeout_good hs
  case routeRestore => exact execRouteRestore_good hs
  case parentRestore => exact execParentRestore_good hs
  case creqCtrlRd => exact execCreqCtrlRd_good hs
  case creqCtrlWr => exact execCreqCtrlWr_good hs
  case creqProbe => exact execCreqProbe_good hs
  case creqAssign => exact execCreqAssign_good hs
  case fabEnable => exact execFabEnable_good hs
  case bootGo => exact execBootGo_good hs
  case headraceDoorbell => exact execHeadraceDoorbell_good hs
  case completionDoorbell => exact execCompletionDoorbell_good hs
  case tailraceDoorbell => exact execTailraceDoorbell_good hs
  case streamDoorbell => exact execStreamDoorbell_good hs
  case jobDescriptor => exact execJobDescriptor_good hs
  case jqIn => exact execJqIn_good hs
  case cplIn => exact execCplIn_good hs
  case cplRetry => exact execCplRetry_good hs
  case evtIn => exact execEvtIn_good hs
  case streamEntry => exact execStreamEntry_good hs
  case streamPoll => exact execStreamPoll_good hs
  case idleTmo => exact execIdleTmo_good hs
  case culvertAccess => exact execCulvertAccess_good hs
  case hostFlr => exact execHostFlr_good hs
  case hostLinkDown => exact execHostLinkDown_good hs
  case hostifEnable => exact execHostifEnable_good hs
  case chGo => exact execChGo_good hs
  case dmaCopy => exact execDmaCopy_good hs
  case dmaFill => exact execDmaFill_good hs
  case dmaCmp => exact execDmaCmp_good hs
  case dmaCmpPat => exact execDmaCmpPat_good hs
  case descriptorComplete => exact execDescriptorComplete_good hs
  case chStop => exact execChStop_good hs
  case quiesceRequest => exact execQuiesceRequest_good hs
  case pdQuiesceTmo => exact execPdQuiesceTmo_good hs
  case marchEnable => exact execMarchEnable_good hs
  case marchWindow => exact execMarchWindow_good hs
  case marchYield => exact execMarchYield_good hs
  case dramEnable => exact execDramEnable_good hs
  case dramReady => exact execDramReady_good hs
  case scrub => exact execScrub_good hs
  case wipeComplete => exact execWipeComplete_good hs
  case deviceReset => exact execDeviceReset_good hs
  case hbootGo => exact execHbootGo_good hs
  case rstDevice => exact execRstDevice_good hs
  case rstCore => exact execRstCore_good hs
  case wdtKick => exact execWdtKick_good hs
  case wdtWarn => exact execWdtWarn_good hs
  case wdtExpired => exact execWdtExpired_good hs
  case mcclean => exact execMcclean_good hs
  case mcinval => exact execMcinval_good hs
  case mcflush => exact execMcflush_good hs
  case mcall => exact execMcall_good hs
  case jlogRead => exact execJlogRead_good hs
  case evqPop => exact execEvqPop_good hs
  case recClear => exact execRecClear_good hs
  case fwReport => exact execFwReport_good hs
  case loadWindow => exact execLoadWindow_good hs
  case sumpHwDone => exact execSumpHwDone_good hs
  case sumpDone => exact execSumpDone_good hs
  case sumpTmo => exact execSumpTmo_good hs
  case rstTmo => exact execRstTmo_good hs
  case nmiRearm => exact execNmiRearm_good hs
  case pgmGo => exact execPgmGo_good hs
  case pgmDone => exact execPgmDone_good hs
  case finGo => exact execFinGo_good hs
  case lockCtl => exact execLockCtl_good hs
  case keyOpen => exact execKeyOpen_good hs
  case lcReq => exact execLcReq_good hs
  case stateReqStill => exact execStateReqStill_good hs
  case stateReqLow => exact execStateReqLow_good hs
  case stateReqDry => exact execStateReqDry_good hs
  case stateEntry => exact execStateEntry_good hs
  case wake => exact execWake_good hs
  case dryWake => exact execDryWake_good hs
  case tamper => exact execTamper_good hs
  case tamperClr => exact execTamperClr_good hs
  case xtalFail => exact execXtalFail_good hs
  case xtalRestore => exact execXtalRestore_good hs
  case pllLock => exact execPllLock_good hs
  case pllFail => exact execPllFail_good hs
  case hvEnable => exact execHvEnable_good hs
  case pgood => exact execPgood_good hs
  case hvOv => exact execHvOv_good hs
  case hvUv => exact execHvUv_good hs
  case hvOc => exact execHvOc_good hs
  case hvDisable => exact execHvDisable_good hs
  case pmbusPoll => exact execPmbusPoll_good hs
  case sendByte => exact execSendByte_good hs
  case writeByte => exact execWriteByte_good hs
  case writeWord => exact execWriteWord_good hs
  case readByte => exact execReadByte_good hs
  case readWord => exact execReadWord_good hs
  case pmbusTimeout => exact execPmbusTimeout_good hs
  case vbatCheck => exact execVbatCheck_good hs
  case powerOn => exact execPowerOn_good hs
  case supplyTrip => exact execSupplyTrip_good hs
  case testEn => exact execTestEn_good hs
  case vddWeirLoss => exact execVddWeirLoss_good hs
  case wxRestore => exact execWxRestore_good hs
  case pcieLinkUp => exact execPcieLinkUp_good hs
  case machineTimer => exact execMachineTimer_good hs
  case x32Loss => exact execX32Loss_good hs
  case finDone => exact execFinDone_good hs
  case ackSend => exact execAckSend_good hs
  case creditSend => exact execCreditSend_good hs
theorem State.Good.to111 {s : State} (h : s.Good Q B M F C) : s.Good Q B M F C :=
  ⟨h.mem, h.regs, h.time, h.queue, h.burnt, h.sameMem, h.sameFuses, h.sameCistern⟩
theorem State.Good.to011 {s : State} (h : s.Good Q B M F C) : s.Good Q B none F C :=
  ⟨h.mem, h.regs, h.time, h.queue, h.burnt, nofun, h.sameFuses, h.sameCistern⟩
theorem State.Good.to101 {s : State} (h : s.Good Q B M F C) : s.Good Q B M none C :=
  ⟨h.mem, h.regs, h.time, h.queue, h.burnt, h.sameMem, nofun, h.sameCistern⟩
theorem State.Good.to110 {s : State} (h : s.Good Q B M F C) : s.Good Q B M F none :=
  ⟨h.mem, h.regs, h.time, h.queue, h.burnt, h.sameMem, h.sameFuses, nofun⟩
theorem State.Good.to001 {s : State} (h : s.Good Q B M F C) : s.Good Q B none none C :=
  ⟨h.mem, h.regs, h.time, h.queue, h.burnt, nofun, nofun, h.sameCistern⟩
theorem State.Good.to010 {s : State} (h : s.Good Q B M F C) : s.Good Q B none F none :=
  ⟨h.mem, h.regs, h.time, h.queue, h.burnt, nofun, h.sameFuses, nofun⟩
theorem State.Good.to100 {s : State} (h : s.Good Q B M F C) : s.Good Q B M none none :=
  ⟨h.mem, h.regs, h.time, h.queue, h.burnt, h.sameMem, nofun, nofun⟩
theorem State.Good.to000 {s : State} (h : s.Good Q B M F C) : s.Good Q B none none none :=
  ⟨h.mem, h.regs, h.time, h.queue, h.burnt, nofun, nofun, nofun⟩
theorem frame_mem {s t : State} {o} {m} (a : Answers Q B (some m) F C o) (e : o = .next t) (hm : s.mem = m := by rfl) : SameMemory s t := by
  obtain ⟨u, hu, g⟩ := a
  rw [hu] at e
  cases e
  intro b
  unfold State.byte
  rw [g.sameMem _ rfl, hm]
theorem frame_fuse {s t : State} {o} (a : Answers Q B M (some s.otp.cells) C o) (e : o = .next t) : t.otp.cells = s.otp.cells := by
  obtain ⟨u, hu, g⟩ := a
  rw [hu] at e
  cases e
  exact g.sameFuses _ rfl
theorem frame_cist {s t : State} {o} (a : Answers Q B M F (some s.weir.cistern) o) (e : o = .next t) : t.weir.cistern = s.weir.cistern := by
  obtain ⟨u, hu, g⟩ := a
  rw [hu] at e
  cases e
  exact g.sameCistern _ rfl

theorem get_when (s : State) (c f) (g : Fld) (h : ∀ t : State, (f t).get g = t.get g) : (s.when c f).get g = s.get g := by
  unfold State.when; split <;> simp [h]
theorem get_each {α : Type} (l : List α) (f : α → State → State) (g : Fld) (h : ∀ x (t : State), (f x t).get g = t.get g) :
    ∀ s : State, (s.each l f).get g = s.get g := by
  unfold State.each
  induction l with
  | nil => intro s; rfl
  | cons x r ih => intro s; rw [List.foldl_cons, ih, h]


theorem recordFirst_words (s : State) (q : Nat) (v1 v2 v3 v4 : Word) : ∃ r, (((((((((s.wr (ERR.REC q 0) v1).wr (ERR.REC q 1) v2).wr
    (ERR.REC q 2) v3).wr (ERR.REC q 3) v4).wr
    (ERR.REC q 4) 0#32).wr (ERR.REC q 5) 0#32).wr (ERR.REC q 6) 0#32).wr (ERR.REC q 7) 0#32).onSys
    (fun y => { y with recs := insertAsc y.recs q })) = { s with regs := r, sys := { s.sys with recs := insertAsc s.sys.recs q } } := ⟨_, rfl⟩
theorem recordFirst_eq (s : State) (q sev inst detail : Nat) : ∃ r, s.recordFirst q sev inst detail =
    { s with regs := r, sys := { s.sys with recs := insertAsc s.sys.recs q } } := by
  unfold State.recordFirst
  exact recordFirst_words s q _ _ _ _
theorem syncEvq_eq (s : State) : ∃ r, s.syncEvq = { s with regs := r } := ⟨_, rfl⟩
theorem syncSev_eq (s : State) : ∃ r, s.syncSev = { s with regs := r } := ⟨_, rfl⟩
theorem word_sum (A B C x y n : Nat) (hn : n = 0) : A + n * B + x + 0 * C + y + 0 = A + x + y := by subst hn; simp
theorem evqEntry_first (a : State) (q sev inst detail : Nat) (h28 : a.get (recSev q) = sev) (h27: a.get (recOvf q) = 0) (h0 : a.get (recSubseq q) = 0): a.evqEntry q sev inst detail false = 
   { w0 := w32 (2 ^ 31 + sev * 2 ^ 28 + inst % 256 * 2 ^ 16), w1 := w32 detail, w2 := w32 a.time, w3 := w32 (q % 256 * 2 ^ 24 + sev % 4 * 2 ^ 22 + a.time / 2 ^ 32 % 2 ^ 16) } := by
  unfold State.evqEntry
  rw [h28, h27, h0, word_sum _ _ _ _ _ _ (rfl : nat01 false = 0)]

theorem chan_lt {s : State} {c : Nat} (h : s.chanOn c = true) : c < 48 := by
  simp [State.chanOn] at h; exact h.1
theorem setFill_twice {α : Type} (d : α) : ∀ (l : List α) (i : Nat) (a b : α), setFill d (setFill d l i a) i b = setFill d l i b
  | [], 0, _, _ => rfl
  | [], i + 1, a, b => by simp [setFill, setFill_twice d [] i]
  | _ :: _, 0, _, _ => rfl
  | x :: t, i + 1, a, b => by simp [setFill, setFill_twice d t i]
theorem onChan_twice (a : State) (c : Nat) (f g : Chan → Chan) : (a.onChan c f).onChan c g = a.onChan c (fun k => g (f k)) := by
  have : (a.onChan c f).chan c = f (a.chan c) := by simp
  unfold State.onChan at *
  rw [this]
  simp only [setFill_twice]
theorem head_lt {c : Nat} (h : c < 48) : headOf c < 16 := by unfold headOf; split <;> omega
theorem headOn_lt {s : State} {h : Nat} (e : s.headOn h = true) : h < 16 := by
  have := of_decide_eq_true e; unfold State.nHeads at this; split at this <;> omega
theorem op_writes (s : State) (j : Job) (f : Nat → Nat → Code) :
    OpWrites j s ((s.mapLb j (j.opDst s.cmp.op) (j.opMask s.cmp.op) f).nextOp) f := by
  have e := State.mapLb_same s j (j.opDst s.cmp.op) (j.opMask s.cmp.op) f
  refine ⟨fun h k hh hk => ?_, fun b h k hb => ?_, ?_, ?_, ?_, ?_⟩
  · exact State.lbCode_mapLb s j f hh hk
  · exact State.lbCode_mapLb_other s j f hb
  · rw [e]; rfl
  · rw [e]; rfl
  · rw [e]; rfl
  · rw [e]; intro a; rfl
theorem each_id {α : Type} (s : State) (l : List α) (f : α → State → State) (h : ∀ x ∈ l, f x s = s) : s.each l f = s := by
  unfold State.each
  induction l with
  | nil => rfl
  | cons x t ih => rw [List.foldl_cons, h x (List.mem_cons_self ..)]; exact ih (fun y hy => h y (List.mem_cons_of_mem _ hy))
theorem bitsOf_lt {n m h : Nat} (e : h ∈ bitsOf n m) : h < n := by
  unfold bitsOf at e
  exact List.mem_range.1 (List.mem_filter.1 e).1
theorem mem_insertAsc (l : List Nat) (x m : Nat) : m ∈ insertAsc l x ↔ m ∈ l ∨ m = x := by
  induction l with
  | nil => simp [insertAsc]
  | cons y t ih =>
    unfold insertAsc
    split
    · simp [or_comm]
    · split
      · rename_i e; subst e; simp [or_comm]
      · simp [ih, or_assoc]
theorem bit_setBitTo (n h w : Nat) (b : Bool) (e : h < w) : bit (setBitTo n h b % 2 ^ w) h = b := by
  unfold bit setBitTo
  rw [Nat.testBit_mod_two_pow, decide_eq_true e, Bool.true_and]
  cases hb : n.testBit h <;> cases b
  · simp [hb]
  · simp [Nat.add_comm n, Nat.testBit_two_pow_add_eq, hb]
  · have k : n = 2 ^ h + (n - 2 ^ h) := by have := Nat.ge_two_pow_of_testBit hb; omega
    simp only [Bool.true_beq, Bool.false_eq_true, if_false]
    rw [k, Nat.testBit_two_pow_add_eq] at hb
    simpa using hb
  · simp [hb]

theorem port_onPort (s : State) (p : Nat) (f : FabPort → FabPort) : (s.onPort p f).port p = f (s.port p) := by
  simp only [State.port, State.onPort, State.onFab, getD_setFill, if_pos]
theorem port_bump (s : State) (p : Nat) (f : Fld) (n : Nat) : (s.bump f n).port p = s.port p := rfl

end Sys2Proof.Machine
end

