-- ==== Sys2Proof/Tests/Slice0.lean ====
section
/-! SUPPORT. Tests of the model: ill-formed commands that WellFormed refuses, small examples whose results come from the
spec, and for every statement with assumptions a state and operands that meet them. -/

namespace Sys2Proof.Tests

set_option Elab.async false

open Sys2Proof Sys2Proof.Machine

/-- The state after reset with some fields set. -/
def st (l : List (Fld × Nat)) : State := l.foldl (fun s p => s.put p.1 p.2) State.reset

/-! Ill-formed commands are refused, each beside a well-formed one at the edge of the same check. -/

theorem test_wf_issuer : Instr.wf (.crossingRead 11 0 4) = true ∧ Instr.wf (.crossingRead 1 0 4) = false := by decide

theorem test_wf_address : Instr.wf (.crossingRead 11 0 4) = true ∧ Instr.wf (.crossingRead 11 (2 ^ 40) 4) = false := by decide

theorem test_wf_access_width : Instr.wf (.rcRead 11 0 4 {}) = true ∧ Instr.wf (.rcRead 11 0 3 {}) = false := by decide

theorem test_wf_write_value : Instr.wf (.registerWrite 11 0 1 255 {}) = true ∧ Instr.wf (.registerWrite 11 0 1 256 {}) = false := by decide

theorem test_wf_access_status : Instr.wf (.composeLineBoundary { status := 15 }) = true ∧ Instr.wf (.composeLineBoundary { status := 16 }) = false := by decide

theorem test_wf_correctable_word : Instr.wf (.composeLineBoundary { ce := [4] }) = true ∧ Instr.wf (.composeLineBoundary { ce := [5] }) = false := by decide

theorem test_wf_uncorrectable_word : Instr.wf (.composeLineBoundary { ue := [4] }) = true ∧ Instr.wf (.composeLineBoundary { ue := [6] }) = false := by decide

theorem test_wf_collision_word : Instr.wf (.composeLineBoundary { coll := [8] }) = true ∧ Instr.wf (.composeLineBoundary { coll := [7] }) = false := by decide

theorem test_wf_table_cal : Instr.wf (.tblSwapCal 8) = true ∧ Instr.wf (.tblSwapCal 7) = false := by decide

theorem test_wf_table_rail : Instr.wf (.tblSwapRail 4) = true ∧ Instr.wf (.tblSwapRail 20) = false := by decide

theorem test_wf_table_comp : Instr.wf (.tblSwapComp 2) = true ∧ Instr.wf (.tblSwapComp 1) = false := by decide

theorem test_wf_table_health : Instr.wf (.tblSwapHealth 15) = true ∧ Instr.wf (.tblSwapHealth 14) = false := by decide

theorem test_wf_report_source : Instr.wf (.errorReport 255 0 0) = true ∧ Instr.wf (.errorReport 256 0 0) = false := by decide

theorem test_wf_report_instance : Instr.wf (.errorReport 0 255 0) = true ∧ Instr.wf (.errorReport 0 256 0) = false := by decide

theorem test_wf_report_detail : Instr.wf (.errorReport 0 0 (2 ^ 32 - 1)) = true ∧ Instr.wf (.errorReport 0 0 (2 ^ 32)) = false := by decide

theorem test_wf_beats_head : Instr.wf (.cmpDisable [(15, 63)]) = true ∧ Instr.wf (.cmpDisable [(16, 0)]) = false := by decide

theorem test_wf_beats_count : Instr.wf (.cmpDisable [(0, 63)]) = true ∧ Instr.wf (.cmpDisable [(0, 64)]) = false := by decide

theorem test_wf_stall_cycles : Instr.wf (.emitOp (2 ^ 32 - 1) {}) = true ∧ Instr.wf (.emitOp (2 ^ 32) {}) = false := by decide

theorem test_wf_kill_entry : Instr.wf (.killSet 65535) = true ∧ Instr.wf (.killSet 65536) = false := by decide

theorem test_wf_head : Instr.wf (.linePush 15) = true ∧ Instr.wf (.linePush 16) = false := by decide

theorem test_wf_head_mask : Instr.wf (.lqFlush 65535) = true ∧ Instr.wf (.lqFlush 65536) = false := by decide

theorem test_wf_flush_beats : Instr.wf (.flushEffect 0 63) = true ∧ Instr.wf (.flushEffect 0 64) = false := by decide

theorem test_wf_queue_pointer : Instr.wf (.qptrMismatch 0 7 0 1 0) = true ∧ Instr.wf (.qptrMismatch 0 8 0 1 0) = false := by decide

theorem test_wf_queue_value_a : Instr.wf (.qptrMismatch 0 0 16383 1 0) = true ∧ Instr.wf (.qptrMismatch 0 0 16384 1 0) = false := by decide

theorem test_wf_queue_value_b : Instr.wf (.qptrMismatch 0 0 1 16383 0) = true ∧ Instr.wf (.qptrMismatch 0 0 1 16384 0) = false := by decide

theorem test_wf_lane : Instr.wf (.noz 0 7) = true ∧ Instr.wf (.noz 0 8) = false := by decide

theorem test_wf_present_level : Instr.wf (.prsSample 0 255) = true ∧ Instr.wf (.prsSample 0 256) = false := by decide

theorem test_wf_shorted_lanes : Instr.wf (.downClr 0 63 0) = true ∧ Instr.wf (.downClr 0 64 0) = false := by decide

theorem test_wf_open_lanes : Instr.wf (.downClr 0 0 63) = true ∧ Instr.wf (.downClr 0 0 64) = false := by decide

theorem test_wf_fault_lane : Instr.wf (.laneFault 0 5 true) = true ∧ Instr.wf (.laneFault 0 6 true) = false := by decide

theorem test_wf_i2c_bytes : Instr.wf (.i2cStretchTimeout 0 32) = true ∧ Instr.wf (.i2cStretchTimeout 0 33) = false := by decide

theorem test_wf_i2c_data : Instr.wf (.i2cDone 0 false 1 [255]) = true ∧ Instr.wf (.i2cDone 0 false 1 [256]) = false := by decide

theorem test_wf_channel : Instr.wf (.hold 47) = true ∧ Instr.wf (.hold 48) = false := by decide

theorem test_wf_current_sample : Instr.wf (.ramp 0 { ramps := [(0, [(0, 16383)])] }) = true ∧ Instr.wf (.ramp 0 { ramps := [(0, [(0, 16384)])] }) = false := by decide

theorem test_wf_ramp_channel : Instr.wf (.ramp 0 { ramps := [(47, [])] }) = true ∧ Instr.wf (.ramp 0 { ramps := [(48, [])] }) = false := by decide

theorem test_wf_voltage_sample : Instr.wf (.sense 0 [(16383, 0)]) = true ∧ Instr.wf (.sense 0 [(16384, 0)]) = false := by decide

theorem test_wf_ready_entries : Instr.wf (.channelReady 0 [0, 0, 0, 0, 0, 0, 0, 0]) = true ∧ Instr.wf (.channelReady 0 [0, 0, 0, 0, 0, 0, 0, 0, 0]) = false := by decide

theorem test_wf_fault_channel : Instr.wf (.shortFault { shorts := [(47, 0, 0)] }) = true ∧ Instr.wf (.shortFault { shorts := [(48, 0, 0)] }) = false := by decide

theorem test_wf_fault_sample : Instr.wf (.ampFlt { amps := [(0, 16383, 0)] }) = true ∧ Instr.wf (.ampFlt { amps := [(0, 16384, 0)] }) = false := by decide

theorem test_wf_fault_track : Instr.wf (.trackFault { tracks := [(47, (0, 0), [])] }) = true ∧ Instr.wf (.trackFault { tracks := [(48, (0, 0), [])] }) = false := by decide

theorem test_wf_fault_off : Instr.wf (.trackFault { offs := [47] }) = true ∧ Instr.wf (.trackFault { offs := [48] }) = false := by decide

theorem test_wf_axis : Instr.wf (.axisEnable 3) = true ∧ Instr.wf (.axisEnable 4) = false := by decide

theorem test_wf_input_levels : Instr.wf (.inputAccepted 0 7) = true ∧ Instr.wf (.inputAccepted 0 8) = false := by decide

theorem test_wf_wire_mask : Instr.wf (.wireLoss 0 7) = true ∧ Instr.wf (.wireLoss 0 8) = false := by decide

theorem test_wf_head_code : Instr.wf (.tempMeasure 0 4095) = true ∧ Instr.wf (.tempMeasure 0 4096) = false := by decide

theorem test_wf_die_code : Instr.wf (.dieTempSample 0 0 0 65535) = true ∧ Instr.wf (.dieTempSample 0 0 0 65536) = false := by decide

theorem test_wf_cal_element : Instr.wf (.calReq 127) = true ∧ Instr.wf (.calReq 128) = false := by decide

theorem test_wf_cal_cells : Instr.wf (.runComplete 0 { weights := List.replicate 72 0 }) = true ∧ Instr.wf (.runComplete 0 { weights := List.replicate 73 0 }) = false := by decide

theorem test_wf_cal_candidates : Instr.wf (.runComplete 0 { delay := [{}, {}, {}, {}] }) = true ∧ Instr.wf (.runComplete 0 { delay := [{}, {}, {}, {}, {}] }) = false := by decide

theorem test_wf_mailbox : Instr.wf (.getId 1) = true ∧ Instr.wf (.getId 2) = false := by decide

theorem test_wf_fuse_pulse : Instr.wf (.latchHandling [(2, 2)]) = true ∧ Instr.wf (.latchHandling [(3, 0)]) = false := by decide

theorem test_wf_tap_bits : Instr.wf (.tapWordReceived (2 ^ 64 - 1)) = true ∧ Instr.wf (.tapWordReceived (2 ^ 64)) = false := by decide

theorem test_wf_port : Instr.wf (.trainRetry 3) = true ∧ Instr.wf (.trainRetry 4) = false := by decide

theorem test_wf_loss_reason : Instr.wf (.linkLost 0 3) = true ∧ Instr.wf (.linkLost 0 0) = false := by decide

theorem test_wf_packet_port : Instr.wf (.keepalive 4 0#32 {}) = true ∧ Instr.wf (.keepalive 5 0#32 {}) = false := by decide

theorem test_wf_packet_payload : Instr.wf (.keepalive 0 0#32 { payload := List.replicate 64 0 }) = true ∧ Instr.wf (.keepalive 0 0#32 { payload := List.replicate 65 0 }) = false := by decide

theorem test_wf_packet_header : Instr.wf (.keepalive 0 0#32 { ext := [0, 0] }) = true ∧ Instr.wf (.keepalive 0 0#32 { ext := [0] }) = false := by decide

theorem test_wf_tag : Instr.wf (.bulkTimeout 65535) = true ∧ Instr.wf (.bulkTimeout 65536) = false := by decide

theorem test_wf_node : Instr.wf (.routeRestore 63) = true ∧ Instr.wf (.routeRestore 64) = false := by decide

theorem test_wf_doorbell : Instr.wf (.bootGo (2 ^ 32 - 1)) = true ∧ Instr.wf (.bootGo (2 ^ 32)) = false := by decide

theorem test_wf_ring : Instr.wf (.streamPoll 247) = true ∧ Instr.wf (.streamPoll 248) = false := by decide

theorem test_wf_posted_words : Instr.wf (.jqIn (List.replicate 64 0)) = true ∧ Instr.wf (.jqIn (List.replicate 65 0)) = false := by decide

theorem test_wf_idle_vector : Instr.wf (.idleTmo 1) = true ∧ Instr.wf (.idleTmo 2) = false := by decide

theorem test_wf_culvert_offset : Instr.wf (.culvertAccess (2 ^ 30 - 1) false 1 [] {}) = true ∧ Instr.wf (.culvertAccess (2 ^ 30) false 1 [] {}) = false := by decide

theorem test_wf_culvert_length : Instr.wf (.culvertAccess 0 false 4096 [] {}) = true ∧ Instr.wf (.culvertAccess 0 false 0 [] {}) = false := by decide

theorem test_wf_culvert_data : Instr.wf (.culvertAccess 0 true 1 [255] {}) = true ∧ Instr.wf (.culvertAccess 0 true 1 [256] {}) = false := by decide

theorem test_wf_dma_channel : Instr.wf (.chStop 15) = true ∧ Instr.wf (.chStop 16) = false := by decide

theorem test_wf_quiesce_mask : Instr.wf (.quiesceRequest 1023) = true ∧ Instr.wf (.quiesceRequest 1024) = false := by decide

theorem test_wf_march_address : Instr.wf (.marchWindow [(4, 1, 1)]) = true ∧ Instr.wf (.marchWindow [(5, 1, 1)]) = false := by decide

theorem test_wf_dram_channel : Instr.wf (.dramReady 3) = true ∧ Instr.wf (.dramReady 4) = false := by decide

theorem test_wf_wiped_part : Instr.wf (.wipeComplete 4) = true ∧ Instr.wf (.wipeComplete 5) = false := by decide

theorem test_wf_reset_cause : Instr.wf (.deviceReset 4 {}) = true ∧ Instr.wf (.deviceReset 5 {}) = false := by decide

theorem test_wf_reset_cut : Instr.wf (.deviceReset 0 { cut := { cmd := [(1, 2)] } }) = true ∧ Instr.wf (.deviceReset 0 { cut := { cmd := [(1, 3)] } }) = false := by decide

theorem test_wf_core_address : Instr.wf (.mcclean (2 ^ 32 - 1)) = true ∧ Instr.wf (.mcclean (2 ^ 32)) = false := by decide

theorem test_wf_window_time : Instr.wf (.loadWindow 65536) = true ∧ Instr.wf (.loadWindow 65537) = false := by decide

theorem test_wf_wake_source : Instr.wf (.wake 31 0) = true ∧ Instr.wf (.wake 32 0) = false := by decide

theorem test_wf_wake_cycles : Instr.wf (.wake 0 (2 ^ 48 - 1)) = true ∧ Instr.wf (.wake 0 (2 ^ 48)) = false := by decide

theorem test_wf_pll : Instr.wf (.pllLock 4) = true ∧ Instr.wf (.pllLock 5) = false := by decide

theorem test_wf_rail : Instr.wf (.hvEnable 3) = true ∧ Instr.wf (.hvEnable 4) = false := by decide

theorem test_wf_rail_measure : Instr.wf (.pgood 0 1000000 1000000) = true ∧ Instr.wf (.pgood 0 1000001 0) = false := by decide

theorem test_wf_pmbus_channel : Instr.wf (.pmbusPoll 15 0 0 0) = true ∧ Instr.wf (.pmbusPoll 16 0 0 0) = false := by decide

theorem test_wf_pmbus_command : Instr.wf (.sendByte 0 255 0) = true ∧ Instr.wf (.sendByte 0 256 0) = false := by decide

theorem test_wf_pmbus_result : Instr.wf (.sendByte 0 0 7) = true ∧ Instr.wf (.sendByte 0 0 8) = false := by decide

theorem test_wf_pmbus_data : Instr.wf (.readWord 0 0 0 65535) = true ∧ Instr.wf (.readWord 0 0 0 65536) = false := by decide

theorem test_wf_battery : Instr.wf (.vbatCheck 65535) = true ∧ Instr.wf (.vbatCheck 65536) = false := by decide

theorem test_wf_pcie_lanes : Instr.wf (.pcieLinkUp 4 4) = true ∧ Instr.wf (.pcieLinkUp 8 4) = false := by decide

theorem test_wf_pcie_speed : Instr.wf (.pcieLinkUp 1 4) = true ∧ Instr.wf (.pcieLinkUp 1 5) = false := by decide

theorem test_wf_tripped_supply : Instr.wf (.supplyTrip { low := 127 }) = true ∧ Instr.wf (.supplyTrip { low := 128 }) = false := by decide

theorem test_wf_no_supply : Instr.wf (.supplyTrip { low := 1 }) = true ∧ Instr.wf (.supplyTrip { low := 0 }) = false := by decide

theorem test_wf_cut_lock : Instr.wf (.testEn true { lock := [(2, 2)] }) = true ∧ Instr.wf (.testEn true { lock := [(3, 2)] }) = false := by decide

/-! Small examples. Expected values come from the rules and from the worked examples of the section files. -/

/-- Bit fields: word 1 of the descriptor in the worked example of 12_host_interface.md. -/
theorem test_field : fieldOf 0x8000_0101#32 0 16 = 0x101 ∧ fieldOf 0x8000_0101#32 31 1 = 1 ∧
    withField 0x8000_0101#32 16 4 0xF = 0x800F_0101#32 := by decide

/-- The check value of the CRC-32 of IEEE 802.3 (layer programs, R287): that of the digits 1 to 9. -/
theorem test_crc32 : crc32 [0x31, 0x32, 0x33, 0x34, 0x35, 0x36, 0x37, 0x38, 0x39] = 0xCBF43926 := by decide +kernel

/-- Worked example of 01_architecture.md: node 37's DRAM address. -/
theorem test_remote_address : State.reset.target 0x2094_0080_2000_0000 = .node 37 0x80_2000_0000 := by decide +kernel

/-- Local physical map: SRAM ends at 0x10800000; 0x10040008 lies in bank 1 (worked example of 13_dma_memory.md). -/
theorem test_regions : State.reset.inRam 0x10000000 4 = true ∧ State.reset.inRam 0x10800000 4 = false ∧ bankOf 0x10040008 = 1 := by
  decide +kernel

/-- A job whose program has these ops: masks in order, no fetch counted. -/
def opsJob (masks : List Nat) : Job :=
  { words := [], prog := w32 masks.length :: List.replicate 35 0#32 ++ masks.flatMap (fun m => [w32 m, 0#32]) }

/-- Worked example of 02_compositor.md: the program costs 7,232 cycles per line. -/
theorem test_program_cost :
    (opsJob [0xF, 0xF0, 0xF00, 0xF000, 0xFFFF, 0x0FFF, 0xF000, 0xFFFF, 0xFFFF, 0xFFFF, 0xFFFF]).cost = 7232 := by decide +kernel

/-- The frame program of the worked example of 04_head_ports.md, its CRC word aside. -/
def exampleFrame : List Word :=
  [0x46500148#32, 0x05050505#32, 0x765C321C#32, 0xCCCCBA98#32, 0x1021FFFF#32, 0#32] ++
  (List.range 4).flatMap (fun k => [0x1BC00000#32, 0x0000A5C3#32, 0x30000000#32, 0#32, w32 (0x29000FFC + k), 0x0000FFFC#32,
    0x44000000#32, 0#32, 0xF0000000#32, 0#32])

/-- Its frame has 4,128 bits and passes the header checks of a frame program. -/
theorem test_frame_bits : frameBits exampleFrame = 4128 ∧ fpLen exampleFrame = 46 ∧ fpCheckHeader exampleFrame = none := by
  decide +kernel

/-- Its symbols: the sensed idle nozzle keeps 0x8, DS_2 on rail B keeps 6, DS_0 on rail A becomes 0xC. -/
theorem test_frame_symbols : fpSym exampleFrame 8 = 8 ∧ fpSym exampleFrame 6 = 6 ∧ fpSym exampleFrame 0 = 12 ∧ fpSym exampleFrame 15 = 12 := by
  decide +kernel

/-- Port settings with NROWS 4, RGRP 1, identity PERM and ROW_DLY 0, 48, 96, 144. -/
def exampleRows : List Word := [0#32, 0x14#32, 0xFAC688#32, 0#32, 48#32, 96#32, 144#32, 0#32, 0#32, 0#32, 0#32]

/-- Worked example of 04_head_ports.md: SKEW_SIZE 147,456 and DMAX 144. -/
theorem test_skew_size : skewSize exampleRows = 147456 ∧ maxDly exampleRows = 144 := by decide +kernel

/-- Worked example of 05_waveform_engine.md: REST 0x6000 is sample 0xE0_0000; p1 ramps it to 0xA0_0000. -/
theorem test_ramp : restSample 0x6000 = -0x200000 ∧
    (playSamples [] (-0x20000) 32 ({ acc := -0x200000, rest := -0x200000, gain := 0x8000 }, 0)).1.acc = -0x600000 ∧
    (playSamples [] (-0x20000) 32 ({ acc := -0x200000, rest := -0x200000, gain := 0x8000 }, 0)).1.codes.getLast? = some 0x2000 := by
  decide +kernel

/-- Worked example of 06_fire_timing.md: 1.4 counts at 0.2 counts per µs after T_k are 7.000 µs, 11,200 ticks. -/
theorem test_extrapolate : (Sample.mk (1000000 * 2 ^ 24) 0 13107).timeOf (1000001 * 2 ^ 24 + 0x666666) = 11200 := by decide +kernel

/-- Worked example of 06_fire_timing.md, a late start: the compare is behind, and line 6 is the first ahead. -/
theorem test_late_start : posBehind (4999990 * 2 ^ 24) (5000000 * 2 ^ 24) 0 = true ∧
    1 + skipTo (2 * 2 ^ 24 + 0x1DDDDE) 0 (5000001 * 2 ^ 24 + 0x733333) (4999992 * 2 ^ 24 + 0x1DDDDE) = 6 := by decide +kernel

/-- Worked examples of 07_position.md: speeds of a quadrature and of a serial axis. -/
theorem test_speed : speedOf 4 32000 = 13107 ∧ speedOf (-4) 32000 = -13107 := by decide +kernel

/-- A field of a serial frame is sent from its top bit; a Gray value of 1000 is 15. -/
theorem test_serial_field : frameField 0b1011 0 4 = 0b1101 ∧ grayToBin 4 0b1000 = 0b1111 := by decide +kernel

/-- Worked example of 08_nozzle_health.md: the healthy sense. -/
theorem test_healthy_sense : State.reset.senseCfg.ampRatio ⟨1410, 232, 150, 30⟩ 2 600 = 120 ∧ perRatio ⟨1410, 232, 150, 30⟩ 224 = 132 ∧
    State.reset.senseCfg.rawClass ⟨1410, 232, 150, 30⟩ 2 600 224 = 1 := by decide +kernel

/-- Worked example of 08_nozzle_health.md: F_AMP = 30 is DEAD at once, and three results declare it. -/
theorem test_dead_sense : State.reset.senseCfg.rawClass ⟨30, 0, 0, 30⟩ 0 600 224 = 5 ∧
    (State.reset.senseCfg.recordStep 0x251#32 ⟨30, 0, 0, 30⟩ 0 600 224 5).2 = false ∧
    (State.reset.senseCfg.recordStep 0x2B1#32 ⟨30, 0, 0, 30⟩ 0 600 224 5).2 = true := by decide +kernel

/-- A channel point with this T_MEAS and GAIN. -/
def pointOf (t gain : Nat) : List Word := [w32 (2 ^ 31 + t), w32 (gain * 2 ^ 16 + 0x8000), 0#32, 0x80002000#32, 0#32, 0#32, 0#32, 0#32, 0#32]

/-- Worked example of 09_calibration.md: GAIN 33,129 from the path gain, 33,122 interpolated before the run and 33,073 at
38 °C after it, clamped above the last point. -/
theorem test_calibration : gainOf 33096 32768 32735 = 33129 ∧
    continuous 670 [pointOf 554 33026, pointOf 724 33168] 0x8000 (fieldU 1 16 16) = 33122 ∧
    continuous 608 [pointOf 554 33026, pointOf 670 33129] 0x8000 (fieldU 1 16 16) = 33073 ∧
    continuous 700 [pointOf 554 33026, pointOf 670 33129] 0x8000 (fieldU 1 16 16) = 33129 := by decide +kernel

/-- Worked example of 10_weir.md: the drop volumes of head 5. -/
theorem test_drop_volumes :
    let s := State.reset.onWeir (fun w => { w with block := some (List.replicate 15 0#32 ++ [0x04000000#32, 0x0E000880#32]) })
    s.dvol 15 = 1024 ∧ s.dvol 16 = 2176 ∧ s.dvol 17 = 3584 := by decide +kernel

/-- R286: the fields of a STOP packet of node 5: VC 0, type 1, flooded. -/
theorem test_packet : let k := mkPacket 0 1 (mkH1 0 5 7 true) []
    k.vc = 0 ∧ k.typ = 1 ∧ k.src = 5 ∧ k.isFlood = true ∧ k.urgent = true := by decide +kernel

/-- The descriptor of the worked example of 12_host_interface.md. -/
def exampleDesc : List Word :=
  [0x4A440100#32, 0x80000101#32, 0x01000000#32, 0x80#32, 0x01001000#32, 0x80#32, 0#32, 0x000F42A4#32, 0x001DDDDE#32, 2#32,
   0x00075300#32, 0#32, 0x42#32, 0#32, 0#32, 0#32]

/-- It passes R331 and reads as the table says. -/
theorem test_descriptor : State.reset.parseCode exampleDesc = 0 ∧
    (let j : Job := { words := exampleDesc }
     j.id = 0x101 ∧ j.progAddr = 0x80_0100_0000 ∧ j.start = 1000100 * 2 ^ 24 ∧ j.lines = 480000 ∧ j.startMode = 0 ∧ j.dir = 0) := by
  decide +kernel

/-- R331: another MAGIC is refused. -/
theorem test_descriptor_magic : State.reset.parseCode (0x4A450100#32 :: exampleDesc.drop 1) ≠ 0 := by decide +kernel

/-- A root whose host interface is enabled. -/
def root : State := st [(HOSTIF.CTL.EN, 1), (HOSTIF.CPL_SIZE.SIZE_LOG2, 6), (wordFld HOSTIF.CPL_PROD, 11), (wordFld HOSTIF.CPL_CONS, 10)]

/-- Worked example of 12_host_interface.md: 11 is taken at doorbell 1, 12 sets RING_ERR. -/
theorem test_completion_doorbell :
    (match exec (.completionDoorbell 11) root with
     | .next t => t.get (wordFld HOSTIF.CPL_CONS) == 11 && !t.flag HOSTIF.STATUS.RING_ERR | _ => false) = true ∧
    (match exec (.completionDoorbell 12) root with
     | .next t => t.get (wordFld HOSTIF.CPL_CONS) == 10 && t.flag HOSTIF.STATUS.RING_ERR | _ => false) = true := by decide +kernel

/-- The DMA descriptor of the worked example of 13_dma_memory.md: COPY, END, EVT, 1,000 bytes, no error. -/
theorem test_dma_descriptor :
    let d : DmaDesc := { words := [0x1C0003E8#32, 0x10040008#32, 0#32, 0x02000014#32, 0x80#32, 0#32, 0#32, 0#32] }
    d.op = 1 ∧ d.endBit = true ∧ d.evt = true ∧ d.len = 1000 ∧ d.src = 0x10040008 ∧ d.dst = 0x80_0200_0014 := by decide +kernel

/-- A state in which DRAM_UE (0x46) has a FIRST entry of ERROR with SUBSEQ 3, and REPEAT_LIM is 4. -/
def thrice : State := st [(ERR.CFG.REPEAT_LIM, 4), (wordFld (ERR.REC 0x46 0), 0xE0000003)]

/-- Worked example of 14_management_errors.md: the fourth subsequent error escalates to FATAL and stops the node. -/
theorem test_escalation :
    (match exec (.errorReport 0x46 0 0) thrice with
     | .next t => t.get (wordFld (ERR.REC 0x46 0)) == 0xF0000004 && t.flag FIRE.SLUICE_STAT.STOPPED && t.flag SYS.SUMP_STAT.ACTIVE
     | _ => false) = true := by decide +kernel

/-- Worked example of 14_management_errors.md: two records make a hardware part of 128 bytes. -/
theorem test_sump_part : (State.reset.onSys (fun y => { y with sumpRecs := List.replicate 16 0#32 })).sumpWords.length = 32 := by decide +kernel

/-- The check value of SHA-256 for the three letters of FIPS 180-4's first example. -/
theorem test_sha256 : ((sha256 [0x61, 0x62, 0x63]).take 4) = [0xba, 0x78, 0x16, 0xbf] := by decide +kernel

/-- Step takes the command in front, and idles without one (log entry 2). -/
theorem test_step_front :
    (match step { State.reset with pending := [.armEn true, .armEn false] } with
     | .next t => t.pending == [.armEn false] && t.flag SYS.MGMT_CTL.ARM_EN | _ => false) = true := by decide +kernel

/-- R5: a narrow write is dropped and reported as REG_ACCESS. -/
theorem test_narrow_write :
    (match exec (.registerWrite 0 SYS.MTIMECMP_LO 2 5 {}) State.reset with
     | .next t => t.rd SYS.MTIMECMP_LO == State.reset.rd SYS.MTIMECMP_LO && t.flag (recFirst Src.REG_ACCESS)
     | _ => false) = true := by decide +kernel

/-- Is f true of the state that a command answers? -/
def after (c : Instr) (s : State) (f : State → Bool) : Bool := match exec c s with | .next t => f t | _ => false

/-- Worked example of 07_position.md: A and B flip in one tick, skip 1 is counted, discarded and reported; COUNT stays. -/
theorem test_glitch :
    after (.inputAccepted 0 3) { st [(POS.CTL.EN, 1), (POS.AX_CTL.EN 0, 1)] with axis := [{ ref := some 0 }] } (fun t =>
      t.get (POS.SKIP_CNT.COUNT 0) == 1 && t.get (POS.DISC_CNT.COUNT 0) == 1 && t.flag (POS.AX_STATUS.SKIP 0) &&
      t.flag (recFirst Src.POS_SKIP)) = true := by decide +kernel

/-- R24: SLUICE_N stops the fire engine. -/
theorem test_sluice_pin : after .sluicePin State.reset (fun t => t.flag FIRE.SLUICE_STAT.STOPPED) = true := by decide +kernel

/-- R319: a STOP packet stops the node that takes it (here from its own loop). -/
theorem test_stop_packet :
    after (.stopPacket 4 (mkPacket 0 1 (mkH1 0 5 7 true) [0#32, 0#32]).crcWord (mkPacket 0 1 (mkH1 0 5 7 true) [0#32, 0#32]))
      { State.reset with fab := { loop := [mkPacket 0 1 (mkH1 0 5 7 true) [0#32, 0#32]] } }
      (fun t => t.flag FIRE.SLUICE_STAT.STOPPED) = true := by decide +kernel

/-- R349 and R350: a list head that is not 32-byte aligned halts the channel at GO. -/
theorem test_dma_unaligned : after (.chGo 3 {}) (st [(wordFld (DMA.CH_DESC_LO 3), 0x09000104), (DMA.CTL.EN, 1)])
    (fun t => t.get (DMA.CH_STAT.STATE 3) == dmaHalted) = true := by decide +kernel

/-- R370: a byte that nothing has written reads 0; a written byte reads back, and writing 0 leaves memory as it was. -/
theorem test_memory : (State.reset.setBytes 0x10000000 [5, 0, 7]).bytes 0x10000000 3 = [5, 0, 7] ∧
    (State.reset.setBytes 0x10000000 [5, 0, 7]).mem.length = 2 ∧
    ((State.reset.setByte 0x10000000 5).setByte 0x10000000 0).mem = [] := by decide +kernel

/-- With LQ.CTL.EN = 0 a push does nothing. -/
theorem test_push_disabled : after (.linePush 3) State.reset (· == State.reset) = true := by decide +kernel

/-- R11: HEAT_DUTY is 0 after reset. -/
theorem test_heat_reset : (List.range 16).all (fun h => State.reset.get (NH.HEAT_DUTY.D h) == 0) = true := by decide +kernel

/-! Witnesses -/

/-- What StepIdles assumes holds here. -/
theorem witness_StepIdles : (State.reset.pending = []) := by decide

/-- What StepKeepsInv assumes holds here. -/
theorem witness_StepKeepsInv : State.reset.mem = [] ∧ State.reset.regs = [] ∧ State.reset.time = 0 := by decide

/-- What EveryCommandCompletes assumes holds here. -/
theorem witness_EveryCommandCompletes : State.reset.mem = [] ∧ State.reset.regs = [] ∧ State.reset.time = 0 := by decide

/-- What FusesNeverBlank assumes holds here. -/
theorem witness_FusesNeverBlank : State.reset.mem = [] ∧ State.reset.regs = [] ∧ State.reset.time = 0 := by decide

/-- What OnlyStorersStore assumes holds here. -/
theorem witness_OnlyStorersStore : (State.reset.mem = [] ∧ State.reset.regs = [] ∧ State.reset.time = 0 ∧ mayStore .swapIdleComplete = false) := by decide

/-- What OnlyBurnersBurn assumes holds here. -/
theorem witness_OnlyBurnersBurn : (State.reset.mem = [] ∧ State.reset.regs = [] ∧ State.reset.time = 0 ∧ mayBurn .swapIdleComplete = false) := by decide

/-- What OnlyWeirMovesCistern assumes holds here. -/
theorem witness_OnlyWeirMovesCistern : (State.reset.mem = [] ∧ State.reset.regs = [] ∧ State.reset.time = 0 ∧ mayMoveCistern .swapIdleComplete = false) := by decide

/-- What ArmGate assumes, clause by clause, holds somewhere. -/
theorem witness_ArmGate :
  (∃ (s : State),
    s.armed = none) ∧
  (∃ (s : State) (j : Job),
    s.armed = some j) :=
  ⟨⟨(State.reset), by decide +kernel⟩,
  ⟨({ State.reset with jobs := [{ seq := 3, st := .armed }] }), ({ seq := 3, st := .armed }), by decide +kernel⟩⟩

/-- What SwapRequests assumes, clause by clause, holds somewhere. -/
theorem witness_SwapRequests :
  (∃ (s : State) (mask : Nat) (new : Nat),
    mask.testBit 3 = true ∧
    new = mask % 16 &&& (15 - s.get ⟨SYS.TBL_SWAP, 0, 4⟩) ∧
    new ≠ 0) ∧
  (∃ (s : State) (mask : Nat) (new : Nat),
    mask.testBit 2 = true ∧
    new = mask % 16 &&& (15 - s.get ⟨SYS.TBL_SWAP, 0, 4⟩) ∧
    new ≠ 0) ∧
  (∃ (s : State) (mask : Nat) (new : Nat),
    mask.testBit 1 = true ∧
    new = mask % 16 &&& (15 - s.get ⟨SYS.TBL_SWAP, 0, 4⟩) ∧
    new ≠ 0) ∧
  (∃ (s : State) (mask : Nat) (new : Nat),
    mask.testBit 0 = true ∧
    new = mask % 16 &&& (15 - s.get ⟨SYS.TBL_SWAP, 0, 4⟩) ∧
    new ≠ 0) ∧
  (∃ (s : State) (mask : Nat),
    mask % 16 &&& (15 - s.get ⟨SYS.TBL_SWAP, 0, 4⟩) = 0) ∧
  (∃ (s : State) (mask : Nat),
    mask % 16 &&& (15 - s.get ⟨SYS.TBL_SWAP, 0, 4⟩) = 0) ∧
  (∃ (s : State) (mask : Nat),
    mask % 16 &&& (15 - s.get ⟨SYS.TBL_SWAP, 0, 4⟩) = 0) ∧
  (∃ (s : State) (mask : Nat),
    mask % 16 &&& (15 - s.get ⟨SYS.TBL_SWAP, 0, 4⟩) = 0) :=
  ⟨⟨(st [(⟨SYS.TBL_SWAP, 0, 4⟩, 1)]), (15), (14), by decide +kernel⟩,
  ⟨(st [(⟨SYS.TBL_SWAP, 0, 4⟩, 1)]), (15), (14), by decide +kernel⟩,
  ⟨(st [(⟨SYS.TBL_SWAP, 0, 4⟩, 1)]), (15), (14), by decide +kernel⟩,
  ⟨(st [(⟨SYS.TBL_SWAP, 0, 4⟩, 1)]), (15), (14), by decide +kernel⟩,
  ⟨(st [(⟨SYS.TBL_SWAP, 0, 4⟩, 15)]), (4), by decide +kernel⟩,
  ⟨(st [(⟨SYS.TBL_SWAP, 0, 4⟩, 15)]), (4), by decide +kernel⟩,
  ⟨(st [(⟨SYS.TBL_SWAP, 0, 4⟩, 15)]), (4), by decide +kernel⟩,
  ⟨(st [(⟨SYS.TBL_SWAP, 0, 4⟩, 15)]), (4), by decide +kernel⟩⟩

/-- What SwapIdleComplete assumes, clause by clause, holds somewhere. -/
theorem witness_SwapIdleComplete :
  (∃ (s : State),
    (s.flag CMP.CTL.EN = false ∨ (s.cmp.job = none ∧ s.progNext = none)) ∧
    s.running = none ∧
    s.armed = none) ∧
  (∃ (s : State),
    ((∀ w ∈ s.swaps, w.left < 16))) :=
  ⟨⟨({ State.reset with swaps := [{ mask := 15, left := 15 }] }), by decide +kernel⟩,
  ⟨({ State.reset with swaps := [{ mask := 15, left := 15 }] }), by decide +kernel⟩⟩

/-- What ErrorReportRecorded assumes, clause by clause, holds somewhere. -/
theorem witness_ErrorReportRecorded :
  (∃ (s : State) (q : Nat),
    s.get (ERR.SRC_CFG.EN q) = 0 ∧
    s.quiet = true) ∧
  (∃ (s : State) (q : Nat) (inst : Nat),
    srcNamed q = true ∧
    q < 256 ∧
    inst < 256 ∧
    s.flag (ERR.SRC_CFG.EN q) = true ∧
    s.flag (recFirst q) = false ∧
    s.sys.evq.length < 64 ∧
    s.flag (ERR.SRC_CFG.HOST q) = false ∧
    s.flag (ERR.SRC_CFG.STOP q) = false ∧
    s.get (ERR.SRC_CFG.SEV q) < 3 ∧
    s.quiet = true ∧
    s.held = false) ∧
  (∃ (s : State) (q : Nat) (inst : Nat),
    srcNamed q = true ∧
    q < 256 ∧
    inst < 256 ∧
    s.flag (ERR.SRC_CFG.EN q) = true ∧
    s.flag (recFirst q) = false ∧
    s.sys.evq.length < 64 ∧
    s.held = false) ∧
  (∃ (s : State) (q : Nat) (inst : Nat) (e : Nat),
    srcNamed q = true ∧
    q < 256 ∧
    inst < 256 ∧
    s.flag (ERR.SRC_CFG.EN q) = true ∧
    s.flag (recFirst q) = true ∧
    s.sys.evq.length < 64 ∧
    s.held = false ∧
    e = escalated (s.get ERR.CFG.REPEAT_LIM) (min 65535 (s.get (recSubseq q) + 1)) (s.get (recSev q)) (s.get (ERR.SRC_CFG.SEV q))) ∧
  (∃ (s : State) (q : Nat) (inst : Nat),
    srcNamed q = true ∧
    q < 256 ∧
    inst < 256 ∧
    s.flag (ERR.SRC_CFG.EN q) = true ∧
    s.flag (recFirst q) = false ∧
    s.sys.evq.length < 64 ∧
    s.flag (ERR.SRC_CFG.HOST q) = false ∧
    s.flag (ERR.SRC_CFG.STOP q) = true ∧
    s.flag FIRE.SLUICE_STAT.STOPPED = false ∧
    s.cal.meas = none ∧
    s.held = false) ∧
  (∃ (s : State) (q : Nat) (inst : Nat),
    srcNamed q = true ∧
    q < 256 ∧
    inst < 256 ∧
    s.flag (ERR.SRC_CFG.EN q) = true ∧
    s.flag (recFirst q) = false ∧
    s.sys.evq.length < 64 ∧
    s.flag (ERR.SRC_CFG.HOST q) = false ∧
    s.get (ERR.SRC_CFG.SEV q) = 3 ∧
    s.flag FIRE.SLUICE_STAT.STOPPED = true ∧
    s.flag SYS.SUMP_STAT.ACTIVE = false ∧
    s.quiet = true ∧
    s.held = false) :=
  ⟨⟨(st [(ERR.SRC_CFG.EN 0x51, 0)]), (0x51), by decide +kernel⟩,
  ⟨(st [(ERR.SRC_CFG.HOST 0x51, 0), (ERR.SRC_CFG.STOP 0x51, 0), (ERR.SRC_CFG.SEV 0x51, 1)]), (0x51), (255), by decide +kernel⟩,
  ⟨(st [(ERR.SRC_CFG.STOP 0x51, 1), (ERR.SRC_CFG.SEV 0x51, 3)]), (0x51), (255), by decide +kernel⟩,
  ⟨(st [(ERR.SRC_CFG.STOP 0x51, 1), (recFirst 0x51, 1), (ERR.SRC_CFG.SEV 0x51, 3)]), (0x51), (255), (3), by decide +kernel⟩,
  ⟨({ st [(ERR.SRC_CFG.STOP 0x51, 1), (ERR.SRC_CFG.HOST 0x51, 0)] with jobs := [{ seq := 3 }] }), (0x51), (255), by decide +kernel⟩,
  ⟨(st [(ERR.SRC_CFG.SEV 0x51, 3), (ERR.SRC_CFG.HOST 0x51, 0), (FIRE.SLUICE_STAT.STOPPED, 1)]), (0x51), (255), by decide +kernel⟩⟩

/-- What SluiceStops assumes, clause by clause, holds somewhere. -/
theorem witness_SluiceStops :
  (∃ (s : State),
    s.flag FIRE.SLUICE_STAT.STOPPED = true ∧
    s.quiet = true) ∧
  (∃ (s : State),
    s.flag FIRE.SLUICE_STAT.STOPPED = false) ∧
  (∃ (s : State),
    s.flag FIRE.SLUICE_STAT.STOPPED = false) ∧
  (∃ (s : State) (r : MeasRun),
    s.flag FIRE.SLUICE_STAT.STOPPED = false ∧
    s.cal.meas = some r) ∧
  (∃ (s : State),
    s.flag FIRE.SLUICE_STAT.STOPPED = false ∧
    s.cal.meas = none ∧
    s.jobs = [] ∧
    s.swaps = [] ∧
    s.wfe = [] ∧
    s.fire.taps = [] ∧
    s.nh.due = [] ∧
    s.flag FIRE.CTL.SLUICE_OUT = true ∧
    s.flag FAB.SLUICE_CFG.TX_LOCAL = false ∧
    s.fab.unreachDue = []) ∧
  (∃ (s : State),
    s.flag FIRE.SLUICE_STAT.STOPPED = false ∧
    s.cal.meas = none ∧
    s.jobs = [] ∧
    s.swaps = [] ∧
    s.wfe = [] ∧
    s.fire.taps = [] ∧
    s.nh.due = [] ∧
    s.flag FAB.SLUICE_CFG.TX_LOCAL = true ∧
    s.fab.unreachDue = []) :=
  ⟨⟨(st [(FIRE.SLUICE_STAT.STOPPED, 1)]), by decide +kernel⟩,
  ⟨({ State.reset with jobs := [{ seq := 3 }], fire := { trigs := [{ head := 2 }] } }), by decide +kernel⟩,
  ⟨({ State.reset with jobs := [{ seq := 3 }], fire := { trigs := [{ head := 2 }] } }), by decide +kernel⟩,
  ⟨({ State.reset with cal := { meas := some { elem := 3 } } }), ({ elem := 3 }), by decide +kernel⟩,
  ⟨(st [(FIRE.CTL.SLUICE_OUT, 1), (FAB.SLUICE_CFG.TX_LOCAL, 0)]), by decide +kernel⟩,
  ⟨(st [(FAB.SLUICE_CFG.TX_LOCAL, 1), (FAB.PORT_STAT.STATE 2, 4)]), by decide +kernel⟩⟩

/-- What SluiceReleased assumes, clause by clause, holds somewhere. -/
theorem witness_SluiceReleased :
  (∃ (s : State),
    s.fire.clrDue = true ∧
    s.flag FIRE.SLUICE_STAT.DRIVE = false ∧
    s.sys.stops = [] ∧
    s.fab.chanStop = false) ∧
  (∃ (s : State),
    s.fire.clrDue = true) ∧
  (∃ (s : State),
    s.fire.clrDue = false) :=
  ⟨⟨({ st [(FIRE.SLUICE_STAT.STOPPED, 1)] with fire := { clrDue := true } }), by decide +kernel⟩,
  ⟨({ State.reset with fire := { clrDue := true } }), by decide +kernel⟩,
  ⟨(State.reset), by decide +kernel⟩⟩

/-- What FireEnable assumes, clause by clause, holds somewhere. -/
theorem witness_FireEnable :
  (∃ (s : State),
    s.flag FIRE.CTL.EN = false ∧
    s.get FIRE.CFG.AXIS < 5 ∧
    s.flag PMU.CLK_STAT.TIME = true ∧
    s.held = false) ∧
  (∃ (s : State),
    s.flag FIRE.CTL.EN = false ∧
    s.get FIRE.CFG.AXIS < 5 ∧
    s.flag PMU.CLK_STAT.TIME = false ∧
    s.held = false) ∧
  (∃ (s : State),
    s.flag FIRE.CTL.EN = true) ∧
  (∃ (s : State),
    s.flag FIRE.CTL.EN = false ∧
    5 ≤ s.get FIRE.CFG.AXIS) ∧
  (∃ (s : State),
    s.flag FIRE.CTL.EN = false) ∧
  (∃ (s : State),
    s.flag FIRE.CTL.EN = true) ∧
  (∃ (s : State),
    s.flag FIRE.CTL.EN = true ∧
    s.jobs = [] ∧
    s.swaps = [] ∧
    s.fire.taps = [] ∧
    s.fab.unreachDue = []) :=
  ⟨⟨(st [(PMU.CLK_STAT.TIME, 1)]), by decide +kernel⟩,
  ⟨(st [(PMU.CLK_STAT.TIME, 0)]), by decide +kernel⟩,
  ⟨(st [(FIRE.CTL.EN, 1)]), by decide +kernel⟩,
  ⟨(st [(FIRE.CFG.AXIS, 5)]), by decide +kernel⟩,
  ⟨(State.reset), by decide +kernel⟩,
  ⟨(st [(FIRE.CTL.EN, 1)]), by decide +kernel⟩,
  ⟨(st [(FIRE.CTL.EN, 1)]), by decide +kernel⟩⟩

/-- What PredictionFollowsSamples assumes, clause by clause, holds somewhere. -/
theorem witness_PredictionFollowsSamples :
  (∃ (s : State) (k : Sample) (rest : List Sample),
    s.fire.inbox = k :: rest) ∧
  (∃ (s : State) (k : Sample) (rest : List Sample),
    s.fire.inbox = k :: rest ∧
    bit (s.get CAL.ENC_OK.AXIS) (s.get FIRE.CFG.AXIS) = false ∧
    s.fireOn = true ∧
    s.jobs = [] ∧
    s.fire.trigs = [] ∧
    s.fire.loaded = false ∧
    s.fire.hwm = none ∧
    s.fire.lastDir = none ∧
    s.flag FIRE.STATUS.PRED_VALID = false ∧
    0 < k.v ∧
    tickDist s.time k.t ≤ (1600 * oneIfZero (s.get FIRE.PRED_CFG.STALE_TMO) : Nat)) ∧
  (∃ (s : State),
    s.fire.inbox = []) ∧
  (∃ (s : State),
    s.flag FIRE.STATUS.PRED_VALID = true ∧
    s.sampleFresh = false) ∧
  (∃ (s : State),
    s.flag FIRE.STATUS.PRED_VALID = true ∧
    s.sampleFresh = false ∧
    s.fire.trigs = []) ∧
  (∃ (s : State) (u : Trig),
    s.flag FIRE.STATUS.PRED_VALID = true ∧
    s.sampleFresh = false ∧
    s.holdCommitted.fire.trigs.find? (fun t => !t.committed) = some u ∧
    s.fire.predLost = false) :=
  ⟨⟨({ State.reset with fire := { inbox := [⟨5, 0, 3⟩] } }), (⟨5, 0, 3⟩), ([]), by decide +kernel⟩,
  ⟨({ st [(FIRE.CTL.EN, 1)] with fire := { inbox := [⟨5, 0, 3⟩] } }), (⟨5, 0, 3⟩), ([]), by decide +kernel⟩,
  ⟨(State.reset), by decide +kernel⟩,
  ⟨(st [(FIRE.STATUS.PRED_VALID, 1)]), by decide +kernel⟩,
  ⟨(st [(FIRE.STATUS.PRED_VALID, 1)]), by decide +kernel⟩,
  ⟨({ st [(FIRE.STATUS.PRED_VALID, 1)] with fire := { trigs := [{}] } }), ({}), by decide +kernel⟩⟩

/-- What JobsAreArmed assumes, clause by clause, holds somewhere. -/
theorem witness_JobsAreArmed :
  (∃ (s : State) (j : Job),
    s.jobs.find? (·.st == .queued) = some j ∧
    j.checked = true ∧
    s.flag SYS.MGMT_CTL.ARM_EN = true ∧
    s.stopped = false ∧
    s.armed = none ∧
    s.fireOn = true ∧
    s.armFault j = none) ∧
  (∃ (s : State) (j : Job),
    s.jobs.find? (·.st == .queued) = some j ∧
    s.job? j.seq = some j ∧
    j.checked = true ∧
    s.flag SYS.MGMT_CTL.ARM_EN = true ∧
    s.stopped = false ∧
    s.armed = none ∧
    s.running = none ∧
    s.fireOn = true ∧
    s.armFault j = none ∧
    s.fire.sample = none ∧
    s.fire.loaded = false ∧
    s.flag FIRE.STATUS.PRED_VALID = false ∧
    s.cal.meas = none) ∧
  (∃ (s : State) (j : Job) (code : Nat),
    s.jobs.find? (·.st == .queued) = some j ∧
    j.checked = true ∧
    s.flag SYS.MGMT_CTL.ARM_EN = true ∧
    s.stopped = false ∧
    s.armed = none ∧
    s.fireOn = true ∧
    s.armFault j = some code) ∧
  (∃ (s : State),
    s.flag SYS.MGMT_CTL.ARM_EN = false) :=
  ⟨⟨({ st [(FIRE.CTL.EN, 1), (SYS.MGMT_CTL.ARM_EN, 1), (FIRE.CFG.LOOKAHEAD, 65535)] with jobs := [{ seq := 3, checked := true, words := [0#32, 9#32, 0#32, 0#32, 0#32, 0#32, 0#32, 5#32, 0#32, 1#32, 4#32] }] }), ({ seq := 3, checked := true, words := [0#32, 9#32, 0#32, 0#32, 0#32, 0#32, 0#32, 5#32, 0#32, 1#32, 4#32] }), by decide +kernel⟩,
  ⟨({ st [(FIRE.CTL.EN, 1), (SYS.MGMT_CTL.ARM_EN, 1), (FIRE.CFG.LOOKAHEAD, 65535)] with jobs := [{ seq := 3, checked := true, words := [0#32, 9#32, 0#32, 0#32, 0#32, 0#32, 0#32, 5#32, 0#32, 1#32, 4#32] }] }), ({ seq := 3, checked := true, words := [0#32, 9#32, 0#32, 0#32, 0#32, 0#32, 0#32, 5#32, 0#32, 1#32, 4#32] }), by decide +kernel⟩,
  ⟨({ st [(FIRE.CTL.EN, 1), (SYS.MGMT_CTL.ARM_EN, 1)] with jobs := [{ seq := 3, checked := true }] }), ({ seq := 3, checked := true }), (1), by decide +kernel⟩,
  ⟨(State.reset), by decide +kernel⟩⟩

/-- What FireLineBoundaries assumes, clause by clause, holds somewhere. -/
theorem witness_FireLineBoundaries :
  (∃ (s : State) (k : Sample) (j : Job),
    s.fire.sample = some k ∧
    s.job? s.fire.cmpJob = some j ∧
    s.fireReady = true ∧
    s.fire.check = false ∧
    posAhead s.compare (k.posAt ((s.time + s.lookahead) % 2 ^ 48)) j.dir = false) ∧
  (∃ (s : State) (k : Sample) (j : Job),
    s.fire.sample = some k ∧
    s.job? s.fire.cmpJob = some j ∧
    s.fireReady = true ∧
    s.fire.check = true ∧
    posBehind s.compare (k.posAt s.time) j.dir = true) ∧
  (∃ (s : State),
    s.stopped = true) ∧
  (∃ (s : State) (j : Job) (y : Nat) (c : Nat),
    y + 1 < j.lines ∧
    s.lastLine j y c = false) :=
  ⟨⟨({ st [(FIRE.CTL.EN, 1), (FIRE.STATUS.PRED_VALID, 1)] with jobs := [{}], fire := { sample := some ⟨2 ^ 25, 0, 9⟩, loaded := true } }), (⟨2 ^ 25, 0, 9⟩), ({}), by decide +kernel⟩,
  ⟨({ st [(FIRE.CTL.EN, 1), (FIRE.STATUS.PRED_VALID, 1), (FIRE.CMP_INT.CMP, 5)] with jobs := [{}], fire := { sample := some ⟨2 ^ 29, 0, 9⟩, loaded := true, check := true } }), (⟨2 ^ 29, 0, 9⟩), ({}), by decide +kernel⟩,
  ⟨(st [(FIRE.SLUICE_STAT.STOPPED, 1)]), by decide +kernel⟩,
  ⟨(State.reset), ({ words := [0#32, 9#32, 0#32, 0#32, 0#32, 0#32, 0#32, 5#32, 0#32, 1#32, 4#32] }), (0), (0), by decide +kernel⟩⟩

/-- What TriggersAndCompletion assumes, clause by clause, holds somewhere. -/
theorem witness_TriggersAndCompletion :
  (∃ (s : State) (h : Nat) (t : Trig),
    s.fire.trigs.find? (·.head == h) = some t ∧
    reached s.time t.at_ = true ∧
    t.committed = true ∧
    s.stopped = false) ∧
  (∃ (s : State) (h : Nat) (t : Trig),
    s.fire.trigs.find? (·.head == h) = some t ∧
    reached s.time t.at_ = true ∧
    t.committed = true ∧
    s.stopped = false ∧
    (s.hport h).latched = none) ∧
  (∃ (s : State) (h : Nat) (t : Trig) (x : Xfer),
    s.fire.trigs.find? (·.head == h) = some t ∧
    reached s.time t.at_ = true ∧
    t.committed = true ∧
    s.stopped = false ∧
    (s.hport h).latched = some x ∧
    x.seq = t.seq ∧
    x.y = t.y ∧
    s.get (WFE.HEAD_STAT.RAIL_STATE h) ≠ 3 ∧
    (s.hport h).acting = false ∧
    State.slotRefusal (((s.onFire (fun f => { f with trigs := f.trigs.erase t })).when (t.group == 0) (·.bump (FIRE.TRIG_CNT.COUNT h))).wrTime
      (FIRE.LAST_TRIG_LO h) (FIRE.LAST_TRIG_HI h) t.at_) h = none) ∧
  (∃ (s : State) (h : Nat) (t : Trig),
    s.fire.trigs.find? (·.head == h) = some t ∧
    reached s.time t.at_ = false) ∧
  (∃ (s : State) (j : Job),
    s.jobs.find? s.jobDone = some j) ∧
  (∃ (s : State),
    s.jobs.find? s.jobDone = none) :=
  ⟨⟨({ State.reset with fire := { trigs := [{ committed := true }] } }), (0), ({ committed := true }), by decide +kernel⟩,
  ⟨({ State.reset with fire := { trigs := [{ committed := true }] } }), (0), ({ committed := true }), by decide +kernel⟩,
  ⟨({ st [(WFE.CH_STATUS.READY 0, 1), (WFE.CH_STATUS.READY 1, 1)] with fire := { trigs := [{ committed := true }] }, hpt := [{ latched := some {} }], wfe := List.replicate 48 { phase := .on } }), (0), ({ committed := true }), ({}), by decide +kernel⟩,
  ⟨({ State.reset with fire := { trigs := [{ at_ := 5 }] } }), (0), ({ at_ := 5 }), by decide +kernel⟩,
  ⟨({ State.reset with jobs := [{ last := true }] }), ({ last := true }), by decide +kernel⟩,
  ⟨({ State.reset with jobs := [{}] }), by decide +kernel⟩⟩

/-- What WaveformInstructions assumes, clause by clause, holds somewhere. -/
theorem witness_WaveformInstructions :
  (∃ (s : State) (c : Nat) (z : Slot),
    s.waveReady c 1 z ∧
    z.idx + (fieldOf (s.wmem z.pc).1 0 12 + 1) ≤ s.slotCap c z) ∧
  (∃ (s : State) (c : Nat) (z : Slot),
    s.waveReady c 1 z ∧
    s.slotCap c z < z.idx + (fieldOf (s.wmem z.pc).1 0 12 + 1)) ∧
  (∃ (s : State) (c : Nat) (l : CycleFaults),
    l.ramps.any (·.1 == c) = true) ∧
  (∃ (s : State) (c : Nat) (z : Slot),
    s.waveReady c 2 z ∧
    z.idx + (fieldOf (s.wmem z.pc).1 0 16 + 1) ≤ s.slotCap c z) ∧
  (∃ (s : State) (c : Nat) (z : Slot),
    s.waveReady c 2 z ∧
    s.slotCap c z < z.idx + (fieldOf (s.wmem z.pc).1 0 16 + 1)) ∧
  (∃ (s : State) (c : Nat) (z : Slot),
    s.waveReady c 4 z ∧
    z.idx + 8 * (fieldOf (s.wmem z.pc).1 0 12 + 1) ≤ s.slotCap c z) ∧
  (∃ (s : State) (c : Nat) (z : Slot),
    s.waveReady c 4 z ∧
    s.slotCap c z < z.idx + 8 * (fieldOf (s.wmem z.pc).1 0 12 + 1)) ∧
  (∃ (s : State) (c : Nat) (z : Slot),
    s.waveReady c 5 z ∧
    z.zeros < 4) ∧
  (∃ (s : State) (c : Nat) (z : Slot),
    s.waveReady c 3 z ∧
    z.zeros < 4) :=
  ⟨⟨({ ((st [(WFE.SLOT_LIMIT.LIMIT 2, 900), (WFE.CH_CTL.OPEN_EN 2, 0)]).wr (WFE.WMEM 14) 0x10000003#32).wr (WFE.WMEM 15) 0x00000100#32 with wfe := List.replicate 40 { slot := some { pc := 7, acc := 256 } } }), (2), ({ pc := 7, acc := 256 }), by decide +kernel⟩,
  ⟨({ ((st [(WFE.SLOT_LIMIT.LIMIT 2, 2)]).wr (WFE.WMEM 14) 0x10000003#32).wr (WFE.WMEM 15) 0x00000100#32 with wfe := List.replicate 40 { slot := some { pc := 7, acc := 256 } } }), (2), ({ pc := 7, acc := 256 }), by decide +kernel⟩,
  ⟨(State.reset), (2), ({ ramps := [(2, []), (3, [])] }), by decide +kernel⟩,
  ⟨({ ((st [(WFE.SLOT_LIMIT.LIMIT 2, 900)]).wr (WFE.WMEM 14) 0x20000003#32).wr (WFE.WMEM 15) 0x00000000#32 with wfe := List.replicate 40 { slot := some { pc := 7, acc := 256 } } }), (2), ({ pc := 7, acc := 256 }), by decide +kernel⟩,
  ⟨({ ((st [(WFE.SLOT_LIMIT.LIMIT 2, 2)]).wr (WFE.WMEM 14) 0x20000003#32).wr (WFE.WMEM 15) 0x00000000#32 with wfe := List.replicate 40 { slot := some { pc := 7, acc := 256 } } }), (2), ({ pc := 7, acc := 256 }), by decide +kernel⟩,
  ⟨({ ((st [(WFE.SLOT_LIMIT.LIMIT 2, 900)]).wr (WFE.WMEM 14) 0x40000003#32).wr (WFE.WMEM 15) 0x00000000#32 with wfe := List.replicate 40 { slot := some { pc := 7, acc := 256 } } }), (2), ({ pc := 7, acc := 256 }), by decide +kernel⟩,
  ⟨({ ((st [(WFE.SLOT_LIMIT.LIMIT 2, 2)]).wr (WFE.WMEM 14) 0x40000003#32).wr (WFE.WMEM 15) 0x00000000#32 with wfe := List.replicate 40 { slot := some { pc := 7, acc := 256 } } }), (2), ({ pc := 7, acc := 256 }), by decide +kernel⟩,
  ⟨({ ((st []).wr (WFE.WMEM 14) 0x50000000#32).wr (WFE.WMEM 15) 0x00000003#32 with wfe := List.replicate 40 { slot := some { pc := 7, acc := 256 } } }), (2), ({ pc := 7, acc := 256 }), by decide +kernel⟩,
  ⟨({ ((st []).wr (WFE.WMEM 14) 0x30000005#32).wr (WFE.WMEM 15) 0x00000000#32 with wfe := List.replicate 40 { slot := some { pc := 7, acc := 256 } } }), (2), ({ pc := 7, acc := 256 }), by decide +kernel⟩⟩

/-- What WaveformSlotsEnd assumes, clause by clause, holds somewhere. -/
theorem witness_WaveformSlotsEnd :
  (∃ (s : State) (c : Nat) (z : Slot),
    (s.chan c).slot = some z ∧
    endsSlot (s.wmem z.pc) = true ∧
    z.zeros < 4) ∧
  (∃ (s : State) (c : Nat) (z : Slot),
    (s.chan c).slot = some z ∧
    insOpc (s.wmem z.pc) = 15 ∧
    z.zeros < 4 ∧
    z.acc = z.rest ∧
    s.flag (WFE.CH_CTL.PD_EN c) = false) ∧
  (∃ (s : State) (c : Nat) (z : Slot),
    (s.chan c).slot = some z ∧
    reservedIns (s.wmem z.pc) = true ∧
    z.zeros < 4 ∧
    z.acc = z.rest) ∧
  (∃ (s : State) (c : Nat) (z : Slot),
    (s.chan c).slot = some z ∧
    s.slotCap c z ≤ z.idx ∧
    endsSlot (s.wmem z.pc) = false ∧
    oneIfZero (s.getA (WFE.SLOT_LIMIT.LIMIT c)) ≤ z.idx) :=
  ⟨⟨({ ((st [(WFE.CH_CTL.PD_EN 2, 0)]).wr (WFE.WMEM 14) 0xF0000000#32).wr (WFE.WMEM 15) 0x00000000#32 with wfe := List.replicate 40 { slot := some { pc := 7, acc := 256 } } }), (2), ({ pc := 7, acc := 256 }), by decide +kernel⟩,
  ⟨({ ((st [(WFE.CH_CTL.PD_EN 2, 0)]).wr (WFE.WMEM 14) 0xF0000000#32).wr (WFE.WMEM 15) 0x00000000#32 with wfe := List.replicate 40 { slot := some { pc := 7, acc := 0 } } }), (2), ({ pc := 7, acc := 0 }), by decide +kernel⟩,
  ⟨({ ((st []).wr (WFE.WMEM 14) 0x90000000#32).wr (WFE.WMEM 15) 0x00000000#32 with wfe := List.replicate 40 { slot := some { pc := 7, acc := 0 } } }), (2), ({ pc := 7, acc := 0 }), by decide +kernel⟩,
  ⟨({ ((st []).wr (WFE.WMEM 14) 0x10000000#32).wr (WFE.WMEM 15) 0x00000000#32 with wfe := List.replicate 40 { slot := some { pc := 7, idx := 70000, acc := 256 } } }), (2), ({ pc := 7, idx := 70000, acc := 256 }), by decide +kernel⟩⟩

/-- What ChannelSteps assumes, clause by clause, holds somewhere. -/
theorem witness_ChannelSteps :
  (∃ (s : State) (c : Nat),
    s.chanOn c = true ∧
    s.flag (WFE.CH_CTL.EN c) = false ∧
    s.blockOn WFE.CTL.EN 4 = true ∧
    s.hvGood (headOf c) = true) ∧
  (∃ (s : State) (c : Nat),
    s.chanOn c = true ∧
    s.flag (WFE.CH_CTL.EN c) = false ∧
    s.blockOn WFE.CTL.EN 4 = false) ∧
  (∃ (s : State) (c : Nat) (es : List Int),
    (s.chan c).phase = .enabling ∧
    s.trackBad c (es.drop (es.length - 8)) = false) ∧
  (∃ (s : State) (c : Nat) (flt : Bool),
    s.chanOn c = true ∧
    s.flag (WFE.CH_CTL.EN c) = false ∧
    s.blockOn WFE.CTL.EN 4 = true ∧
    (flt = true ∨ s.hvGood (headOf c) = false)) ∧
  (∃ (s : State) (c : Nat),
    s.chanOn c = true ∧
    s.flag (WFE.CH_CTL.EN c) = true ∧
    s.chReady c = true ∧
    s.headBusy (headOf c) = false ∧
    (s.chan c).slot = none) ∧
  (∃ (s : State) (c : Nat) (z : Slot),
    s.chanOn c = true ∧
    s.flag (WFE.CH_CTL.EN c) = true ∧
    s.chReady c = true ∧
    s.headBusy (headOf c) = false ∧
    (s.chan c).slot = some z) ∧
  (∃ (s : State) (c : Nat),
    s.chanOn c = true ∧
    s.flag (WFE.CH_CTL.EN c) = true ∧
    s.chReady c = false) ∧
  (∃ (s : State) (c : Nat),
    s.chanOn c = true ∧
    s.flag (WFE.CH_CTL.EN c) = true ∧
    s.chReady c = true ∧
    s.headBusy (headOf c) = true) ∧
  (∃ (s : State) (c : Nat),
    (s.chan c).phase = .rampDown) ∧
  (∃ (s : State),
    s.flag WFE.CTL.EN = false) ∧
  (∃ (s : State),
    s.flag WFE.CTL.EN = true) ∧
  (∃ (s : State) (c : Nat),
    s.chanOn c = true ∧
    s.chFaulted c = true ∧
    s.blockOn WFE.CTL.EN 4 = true ∧
    s.hvGood (headOf c) = true) ∧
  (∃ (s : State) (c : Nat),
    s.chFaulted c = false) ∧
  (∃ (s : State) (c : Nat),
    s.chanOn c = true ∧
    s.chFaulted c = true ∧
    s.blockOn WFE.CTL.EN 4 = true) ∧
  (∃ (s : State) (c : Nat),
    s.chanOn c = true ∧
    (s.chan c).slot = none) ∧
  (∃ (s : State) (c : Nat) (z : Slot),
    s.chanOn c = true ∧
    (s.chan c).slot = some z) ∧
  (∃ (s : State) (c : Nat),
    (s.chan c).pdClear = true) :=
  ⟨⟨(st [(WFE.CTL.EN, 1), (PMU.HV_STAT.PGOOD 0, 1)]), (2), by decide +kernel⟩,
  ⟨(State.reset), (2), by decide +kernel⟩,
  ⟨({ State.reset with wfe := List.replicate 3 { phase := .enabling } }), (2), ([]), by decide +kernel⟩,
  ⟨(st [(WFE.CTL.EN, 1), (PMU.HV_STAT.PGOOD 0, 1)]), (2), (true), by decide +kernel⟩,
  ⟨(st [(WFE.CH_CTL.EN 2, 1), (WFE.CH_STATUS.READY 2, 1)]), (2), by decide +kernel⟩,
  ⟨({ st [(WFE.CH_CTL.EN 2, 1), (WFE.CH_STATUS.READY 2, 1)] with wfe := List.replicate 3 { slot := some {} } }), (2), ({}), by decide +kernel⟩,
  ⟨(st [(WFE.CH_CTL.EN 2, 1)]), (2), by decide +kernel⟩,
  ⟨({ st [(WFE.CH_CTL.EN 2, 1), (WFE.CH_STATUS.READY 2, 1)] with jobs := [{ st := .armed, prog := [0#32, 0xFFFF0000#32] }] }), (2), by decide +kernel⟩,
  ⟨({ State.reset with wfe := List.replicate 3 { phase := .rampDown } }), (2), by decide +kernel⟩,
  ⟨(State.reset), by decide +kernel⟩,
  ⟨(st [(WFE.CTL.EN, 1), (PMU.HV_STAT.PGOOD 0, 1)]), by decide +kernel⟩,
  ⟨(st [(WFE.CTL.EN, 1), (PMU.HV_STAT.PGOOD 0, 1), (WFE.CH_CTL.EN 2, 1), (WFE.CH_STATUS.FAULTED 2, 1)]), (2), by decide +kernel⟩,
  ⟨(State.reset), (2), by decide +kernel⟩,
  ⟨(st [(WFE.CTL.EN, 1), (PMU.HV_STAT.PGOOD 0, 1), (WFE.CH_STATUS.FAULTED 2, 1)]), (2), by decide +kernel⟩,
  ⟨(State.reset), (2), by decide +kernel⟩,
  ⟨({ State.reset with wfe := List.replicate 3 { slot := some {} } }), (2), ({}), by decide +kernel⟩,
  ⟨({ State.reset with wfe := List.replicate 3 { pdClear := true } }), (2), by decide +kernel⟩⟩

/-- What RailStateTable assumes, clause by clause, holds somewhere. -/
theorem witness_RailStateTable :
  (∃ (s : State) (h : Nat),
    s.get (WFE.HEAD_STAT.RAIL_STATE h) ≠ 3) ∧
  (∃ (s : State) (h : Nat) (x : Nat),
    s.get (WFE.HEAD_STAT.RAIL_STATE h) = 0 ∧
    x < 2 ∧
    s.chReady (32 + h) = true ∧
    s.chFaulted (32 + h) = false) ∧
  (∃ (s : State) (h : Nat) (x : Nat),
    s.get (WFE.HEAD_STAT.RAIL_STATE h) = 0 ∧
    x < 2 ∧
    s.chReady (32 + h) = false) ∧
  (∃ (s : State) (h : Nat) (k : Nat),
    s.get (WFE.HEAD_STAT.RAIL_STATE h) = 0 ∧
    (s.wave h).serving = none ∧
    k ≠ 5) ∧
  (∃ (s : State) (h : Nat) (y : Nat),
    s.get (WFE.HEAD_STAT.RAIL_STATE h) = 2 - y ∧
    y < 2 ∧
    s.flag (WFE.HEAD_STAT.CAL_TAKE h) = false) ∧
  (∃ (s : State) (h : Nat) (x : Nat),
    s.get (WFE.HEAD_STAT.RAIL_STATE h) = x + 1 ∧
    x < 2 ∧
    s.flag (WFE.HEAD_STAT.CAL_TAKE h) = false) ∧
  (∃ (s : State) (h : Nat) (y : Nat),
    (s.get (WFE.HEAD_STAT.RAIL_STATE h) = 1 ∨ s.get (WFE.HEAD_STAT.RAIL_STATE h) = 2) ∧
    y < 2 ∧
    s.flag (WFE.HEAD_STAT.CAL_TAKE h) = true) ∧
  (∃ (s : State) (h : Nat),
    s.get (WFE.HEAD_STAT.RAIL_STATE h) = 3) :=
  ⟨⟨(State.reset), (0), by decide +kernel⟩,
  ⟨(st [(WFE.CH_STATUS.READY 0, 1), (WFE.CH_STATUS.READY 1, 1), (WFE.CH_STATUS.READY 32, 1)]), (0), (1), by decide +kernel⟩,
  ⟨(State.reset), (0), (1), by decide +kernel⟩,
  ⟨(State.reset), (0), (1), by decide +kernel⟩,
  ⟨(st [(WFE.HEAD_STAT.RAIL_STATE 0, 1)]), (0), (1), by decide +kernel⟩,
  ⟨(st [(WFE.HEAD_STAT.RAIL_STATE 0, 1)]), (0), (0), by decide +kernel⟩,
  ⟨(st [(WFE.HEAD_STAT.RAIL_STATE 0, 1), (WFE.HEAD_STAT.CAL_TAKE 0, 1)]), (0), (1), by decide +kernel⟩,
  ⟨(st [(WFE.HEAD_STAT.RAIL_STATE 0, 3)]), (0), by decide +kernel⟩⟩

/-- What ChannelFaults assumes, clause by clause, holds somewhere. -/
theorem witness_ChannelFaults :
  (∃ (s : State) (l : CycleFaults),
    l.shorts ≠ []) ∧
  (∃ (s : State) (l : CycleFaults),
    l.shorts = []) ∧
  (∃ (s : State) (c : Nat) (v : Nat) (i : Nat),
    s.watched c = true ∧
    s.checksOff c = false ∧
    s.get (WFE.I_SHORT.LIMIT c) < (((s.byRole c (v, i)).2 : Int) - 8192).natAbs) ∧
  (∃ (s : State) (c : Nat) (v : Nat) (i : Nat),
    s.watched c = true ∧
    s.checksOff c = false ∧
    (((s.byRole c (v, i)).2 : Int) - 8192).natAbs ≤ s.get (WFE.I_SHORT.LIMIT c)) ∧
  (∃ (s : State) (c : Nat),
    s.watched c = true) ∧
  (∃ (s : State) (l : CycleFaults),
    l.amps ≠ []) ∧
  (∃ (s : State) (c : Nat) (v : Nat) (i : Nat) (es : List Int),
    s.watched c = true ∧
    (s.chan c).cal = false ∧
    s.checksOff c = false ∧
    s.trackBad c es = true ∧
    (s.noteFeedback c v i).flag (WFE.CH_CTL.TRACK_ACT c) = true) ∧
  (∃ (s : State) (c : Nat) (v : Nat) (i : Nat) (es : List Int),
    s.watched c = true ∧
    (s.chan c).cal = false ∧
    s.checksOff c = false ∧
    s.trackBad c es = true ∧
    (s.noteFeedback c v i).flag (WFE.CH_CTL.TRACK_ACT c) = false) ∧
  (∃ (s : State) (l : CycleFaults),
    l.tracks ≠ []) :=
  ⟨⟨(State.reset), ({ shorts := [(2, (0, 0))] }), by decide +kernel⟩,
  ⟨(State.reset), ({}), by decide +kernel⟩,
  ⟨(st [(WFE.CH_STATUS.READY 2, 1)]), (2), (0), (16383), by decide +kernel⟩,
  ⟨(st [(WFE.CH_STATUS.READY 2, 1), (WFE.I_SHORT.LIMIT 2, 4095)]), (2), (0), (8193), by decide +kernel⟩,
  ⟨(st [(WFE.CH_STATUS.READY 2, 1)]), (2), by decide +kernel⟩,
  ⟨(State.reset), ({ amps := [(2, (0, 0))] }), by decide +kernel⟩,
  ⟨(st [(WFE.CH_STATUS.READY 2, 1), (WFE.CH_CTL.TRACK_ACT 2, 1), (WFE.TRACK_CFG.TRACK_N 2, 1)]), (2), (0), (8193), ([1000000]), by decide +kernel⟩,
  ⟨(st [(WFE.CH_STATUS.READY 2, 1), (WFE.CH_CTL.TRACK_ACT 2, 0), (WFE.TRACK_CFG.TRACK_N 2, 1)]), (2), (0), (8193), ([1000000]), by decide +kernel⟩,
  ⟨(State.reset), ({ tracks := [(2, ((0, 0), []))] }), by decide +kernel⟩⟩

/-- What RailClears assumes, clause by clause, holds somewhere. -/
theorem witness_RailClears :
  (∃ (s : State) (h : Nat),
    s.headOn h = true ∧
    s.get (WFE.HEAD_STAT.RAIL_STATE h) = 3 ∧
    (chansOf h).all s.chReady = true) ∧
  (∃ (s : State) (h : Nat),
    s.headOn h = true ∧
    (s.get (WFE.HEAD_STAT.RAIL_STATE h) ≠ 3 ∨ (chansOf h).all s.chReady = false)) ∧
  (∃ (s : State) (h : Nat) (x : Nat),
    s.headOn h = true ∧
    s.get (WFE.HEAD_STAT.RAIL_STATE h) = x + 1 ∧
    x < 2 ∧
    s.flag (WFE.HEAD_STAT.FAULT_TAKE h) = true ∧
    s.chReady (2 * h + x) = true) ∧
  (∃ (s : State) (h : Nat) (x : Nat),
    s.headOn h = true ∧
    s.get (WFE.HEAD_STAT.RAIL_STATE h) = x + 1 ∧
    x < 2 ∧
    s.flag (WFE.HEAD_STAT.FAULT_TAKE h) = true ∧
    s.chReady (2 * h + x) = false) ∧
  (∃ (s : State) (h : Nat),
    s.headOn h = true ∧
    s.flag (WFE.HEAD_STAT.FAULT_TAKE h) = false) ∧
  (∃ (s : State) (h : Nat),
    s.headOn h = true ∧
    s.get (WFE.HEAD_STAT.RAIL_STATE h) = 3 ∧
    (chansOf h).all s.chReady = true) :=
  ⟨⟨(st [(WFE.HEAD_STAT.RAIL_STATE 0, 3), (WFE.CH_STATUS.READY 0, 1), (WFE.CH_STATUS.READY 1, 1), (WFE.CH_STATUS.READY 32, 1)]), (0), by decide +kernel⟩,
  ⟨(State.reset), (0), by decide +kernel⟩,
  ⟨(st [(WFE.HEAD_STAT.RAIL_STATE 0, 2), (WFE.HEAD_STAT.FAULT_TAKE 0, 1), (WFE.CH_STATUS.READY 0, 1), (WFE.CH_STATUS.READY 1, 1), (WFE.CH_STATUS.READY 32, 1)]), (0), (1), by decide +kernel⟩,
  ⟨(st [(WFE.HEAD_STAT.RAIL_STATE 0, 2), (WFE.HEAD_STAT.FAULT_TAKE 0, 1)]), (0), (1), by decide +kernel⟩,
  ⟨(State.reset), (0), by decide +kernel⟩,
  ⟨(st [(WFE.HEAD_STAT.RAIL_STATE 0, 3), (WFE.CH_STATUS.READY 0, 1), (WFE.CH_STATUS.READY 1, 1), (WFE.CH_STATUS.READY 32, 1)]), (0), by decide +kernel⟩⟩

/-- What OpsWriteTheirHeads assumes, clause by clause, holds somewhere. -/
theorem witness_OpsWriteTheirHeads :
  (∃ (s : State) (j : Job),
    s.opReady j 1) ∧
  (∃ (s : State) (j : Job),
    s.opReady j 3) ∧
  (∃ (s : State) (j : Job),
    s.opReady j 4) ∧
  (∃ (s : State) (j : Job),
    s.opReady j 5) ∧
  (∃ (s : State) (j : Job),
    s.opReady j 6) :=
  ⟨⟨({ st [(CMP.STATUS.BUSY, 1), (CMP.CTL.EN, 1)] with jobs := [{ prog := [0x4C500101#32, 0x00010000#32, 0x00010001#32, 0#32, 0x80000003#32, 0x00000010#32, 0#32, 0#32, 0#32, 0#32, 0#32, 0#32, 0#32, 0#32, 0#32, 0#32, 0#32, 0#32, 0#32, 0#32, 0#32, 0#32, 0#32, 0#32, 0#32, 0#32, 0#32, 0#32, 0#32, 0#32, 0#32, 0#32, 0#32, 0#32, 0#32, 0#32, 0x10000001#32, 0x00000000#32], ltbl := [] }], cmp := { job := some 0 } }), ({ prog := [0x4C500101#32, 0x00010000#32, 0x00010001#32, 0#32, 0x80000003#32, 0x00000010#32, 0#32, 0#32, 0#32, 0#32, 0#32, 0#32, 0#32, 0#32, 0#32, 0#32, 0#32, 0#32, 0#32, 0#32, 0#32, 0#32, 0#32, 0#32, 0#32, 0#32, 0#32, 0#32, 0#32, 0#32, 0#32, 0#32, 0#32, 0#32, 0#32, 0#32, 0x10000001#32, 0x00000000#32], ltbl := [] }), by decide +kernel⟩,
  ⟨({ st [(CMP.STATUS.BUSY, 1), (CMP.CTL.EN, 1)] with jobs := [{ prog := [0x4C500101#32, 0x00010000#32, 0x00010001#32, 0#32, 0x80000003#32, 0x00000010#32, 0#32, 0#32, 0#32, 0#32, 0#32, 0#32, 0#32, 0#32, 0#32, 0#32, 0#32, 0#32, 0#32, 0#32, 0#32, 0#32, 0#32, 0#32, 0#32, 0#32, 0#32, 0#32, 0#32, 0#32, 0#32, 0#32, 0#32, 0#32, 0#32, 0#32, 0x35000001#32, 0x00000000#32], ltbl := [] }], cmp := { job := some 0 } }), ({ prog := [0x4C500101#32, 0x00010000#32, 0x00010001#32, 0#32, 0x80000003#32, 0x00000010#32, 0#32, 0#32, 0#32, 0#32, 0#32, 0#32, 0#32, 0#32, 0#32, 0#32, 0#32, 0#32, 0#32, 0#32, 0#32, 0#32, 0#32, 0#32, 0#32, 0#32, 0#32, 0#32, 0#32, 0#32, 0#32, 0#32, 0#32, 0#32, 0#32, 0#32, 0x35000001#32, 0x00000000#32], ltbl := [] }), by decide +kernel⟩,
  ⟨({ st [(CMP.STATUS.BUSY, 1), (CMP.CTL.EN, 1)] with jobs := [{ prog := [0x4C500101#32, 0x00010000#32, 0x00010001#32, 0#32, 0x80000003#32, 0x00000010#32, 0#32, 0#32, 0#32, 0#32, 0#32, 0#32, 0#32, 0#32, 0#32, 0#32, 0#32, 0#32, 0#32, 0#32, 0#32, 0#32, 0#32, 0#32, 0#32, 0#32, 0#32, 0#32, 0#32, 0#32, 0#32, 0#32, 0#32, 0#32, 0#32, 0#32, 0x45000001#32, 0x00000000#32], ltbl := [] }], cmp := { job := some 0 } }), ({ prog := [0x4C500101#32, 0x00010000#32, 0x00010001#32, 0#32, 0x80000003#32, 0x00000010#32, 0#32, 0#32, 0#32, 0#32, 0#32, 0#32, 0#32, 0#32, 0#32, 0#32, 0#32, 0#32, 0#32, 0#32, 0#32, 0#32, 0#32, 0#32, 0#32, 0#32, 0#32, 0#32, 0#32, 0#32, 0#32, 0#32, 0#32, 0#32, 0#32, 0#32, 0x45000001#32, 0x00000000#32], ltbl := [] }), by decide +kernel⟩,
  ⟨({ st [(CMP.STATUS.BUSY, 1), (CMP.CTL.EN, 1)] with jobs := [{ prog := [0x4C500101#32, 0x00010000#32, 0x00010001#32, 0#32, 0x80000003#32, 0x00000010#32, 0#32, 0#32, 0#32, 0#32, 0#32, 0#32, 0#32, 0#32, 0#32, 0#32, 0#32, 0#32, 0#32, 0#32, 0#32, 0#32, 0#32, 0#32, 0#32, 0#32, 0#32, 0#32, 0#32, 0#32, 0#32, 0#32, 0#32, 0#32, 0#32, 0#32, 0x50000001#32, 0x00000000#32], ltbl := [] }], cmp := { job := some 0 } }), ({ prog := [0x4C500101#32, 0x00010000#32, 0x00010001#32, 0#32, 0x80000003#32, 0x00000010#32, 0#32, 0#32, 0#32, 0#32, 0#32, 0#32, 0#32, 0#32, 0#32, 0#32, 0#32, 0#32, 0#32, 0#32, 0#32, 0#32, 0#32, 0#32, 0#32, 0#32, 0#32, 0#32, 0#32, 0#32, 0#32, 0#32, 0#32, 0#32, 0#32, 0#32, 0x50000001#32, 0x00000000#32], ltbl := [] }), by decide +kernel⟩,
  ⟨({ st [(CMP.STATUS.BUSY, 1), (CMP.CTL.EN, 1)] with jobs := [{ prog := [0x4C500101#32, 0x00010000#32, 0x00010001#32, 0#32, 0x80000003#32, 0x00000010#32, 0#32, 0#32, 0#32, 0#32, 0#32, 0#32, 0#32, 0#32, 0#32, 0#32, 0#32, 0#32, 0#32, 0#32, 0#32, 0#32, 0#32, 0#32, 0#32, 0#32, 0#32, 0#32, 0#32, 0#32, 0#32, 0#32, 0#32, 0#32, 0#32, 0#32, 0x60000001#32, 0x00000000#32], ltbl := [] }], cmp := { job := some 0 } }), ({ prog := [0x4C500101#32, 0x00010000#32, 0x00010001#32, 0#32, 0x80000003#32, 0x00000010#32, 0#32, 0#32, 0#32, 0#32, 0#32, 0#32, 0#32, 0#32, 0#32, 0#32, 0#32, 0#32, 0#32, 0#32, 0#32, 0#32, 0#32, 0#32, 0#32, 0#32, 0#32, 0#32, 0#32, 0#32, 0#32, 0#32, 0#32, 0#32, 0#32, 0#32, 0x60000001#32, 0x00000000#32], ltbl := [] }), by decide +kernel⟩⟩

/-- What RailOpWrites assumes, clause by clause, holds somewhere. -/
theorem witness_RailOpWrites :
  (∃ (s : State) (j : Job) (x : Access),
    s.opReady j 7 ∧
    x.ce = [] ∧
    x.ue = [] ∧
    s.railBase + 0x2000 ≤ 0x10800000 ∧
    ((∀ h : Nat, h < 16 → s.offline (s.railBase + 512 * h) = false))) ∧
  (∃ (s : State) (j : Job),
    s.opReady j 7) :=
  ⟨⟨({ st [(CMP.STATUS.BUSY, 1), (CMP.CTL.EN, 1)] with jobs := [{ prog := [0x4C500101#32, 0x00010000#32, 0x00010001#32, 0#32, 0x80000003#32, 0x00000010#32, 0#32, 0#32, 0#32, 0#32, 0#32, 0#32, 0#32, 0#32, 0#32, 0#32, 0#32, 0#32, 0#32, 0#32, 0#32, 0#32, 0#32, 0#32, 0#32, 0#32, 0#32, 0#32, 0#32, 0#32, 0#32, 0#32, 0#32, 0#32, 0#32, 0#32, 0x70000001#32, 0x00000000#32], ltbl := [] }], cmp := { job := some 0 } }), ({ prog := [0x4C500101#32, 0x00010000#32, 0x00010001#32, 0#32, 0x80000003#32, 0x00000010#32, 0#32, 0#32, 0#32, 0#32, 0#32, 0#32, 0#32, 0#32, 0#32, 0#32, 0#32, 0#32, 0#32, 0#32, 0#32, 0#32, 0#32, 0#32, 0#32, 0#32, 0#32, 0#32, 0#32, 0#32, 0#32, 0#32, 0#32, 0#32, 0#32, 0#32, 0x70000001#32, 0x00000000#32], ltbl := [] }), ({ }), by decide +kernel⟩,
  ⟨({ st [(CMP.STATUS.BUSY, 1), (CMP.CTL.EN, 1)] with jobs := [{ prog := [0x4C500101#32, 0x00010000#32, 0x00010001#32, 0#32, 0x80000003#32, 0x00000010#32, 0#32, 0#32, 0#32, 0#32, 0#32, 0#32, 0#32, 0#32, 0#32, 0#32, 0#32, 0#32, 0#32, 0#32, 0#32, 0#32, 0#32, 0#32, 0#32, 0#32, 0#32, 0#32, 0#32, 0#32, 0#32, 0#32, 0#32, 0#32, 0#32, 0#32, 0x70000001#32, 0x00000000#32], ltbl := [] }], cmp := { job := some 0 } }), ({ prog := [0x4C500101#32, 0x00010000#32, 0x00010001#32, 0#32, 0x80000003#32, 0x00000010#32, 0#32, 0#32, 0#32, 0#32, 0#32, 0#32, 0#32, 0#32, 0#32, 0#32, 0#32, 0#32, 0#32, 0#32, 0#32, 0#32, 0#32, 0#32, 0#32, 0#32, 0#32, 0#32, 0#32, 0#32, 0#32, 0#32, 0#32, 0#32, 0#32, 0#32, 0x70000001#32, 0x00000000#32], ltbl := [] }), by decide +kernel⟩⟩

/-- What FetchOpWrites assumes, clause by clause, holds somewhere. -/
theorem witness_FetchOpWrites :
  (∃ (s : State) (j : Job),
    s.opReady j 2 ∧
    j.streamed (j.opA s.cmp.op) = false ∧
    j.row (j.opA s.cmp.op) (s.get CMP.JOB_LINE.LINE) = none) ∧
  (∃ (s : State) (j : Job),
    s.opReady j 2 ∧
    s.delivered j (j.opA s.cmp.op) (s.get CMP.JOB_LINE.LINE) = true ∧
    j.row (j.opA s.cmp.op) (s.get CMP.JOB_LINE.LINE) = none) ∧
  (∃ (s : State) (j : Job),
    s.opReady j 2 ∧
    s.delivered j (j.opA s.cmp.op) (s.get CMP.JOB_LINE.LINE) = false) ∧
  (∃ (s : State) (j : Job) (r : Nat),
    s.opReady j 2 ∧
    s.delivered j (j.opA s.cmp.op) (s.get CMP.JOB_LINE.LINE) = true ∧
    j.row (j.opA s.cmp.op) (s.get CMP.JOB_LINE.LINE) = some r) :=
  ⟨⟨({ st [(CMP.STATUS.BUSY, 1), (CMP.CTL.EN, 1)] with jobs := [{ prog := [0x4C500101#32, 0x00010000#32, 0x00010001#32, 0#32, 0x80000003#32, 0x00000010#32, 0#32, 0#32, 0#32, 0#32, 0#32, 0#32, 0#32, 0#32, 0#32, 0#32, 0#32, 0#32, 0#32, 0#32, 0#32, 0#32, 0#32, 0#32, 0#32, 0#32, 0#32, 0#32, 0#32, 0#32, 0#32, 0#32, 0#32, 0#32, 0#32, 0#32, 0x20000001#32, 0x00000000#32], ltbl := [] }], cmp := { job := some 0 } }), ({ prog := [0x4C500101#32, 0x00010000#32, 0x00010001#32, 0#32, 0x80000003#32, 0x00000010#32, 0#32, 0#32, 0#32, 0#32, 0#32, 0#32, 0#32, 0#32, 0#32, 0#32, 0#32, 0#32, 0#32, 0#32, 0#32, 0#32, 0#32, 0#32, 0#32, 0#32, 0#32, 0#32, 0#32, 0#32, 0#32, 0#32, 0#32, 0#32, 0#32, 0#32, 0x20000001#32, 0x00000000#32], ltbl := [] }), by decide +kernel⟩,
  ⟨({ st [(CMP.STATUS.BUSY, 1), (CMP.CTL.EN, 1)] with jobs := [{ prog := [0x4C500101#32, 0x00010000#32, 0x00010001#32, 0#32, 0x80000003#32, 0x00000010#32, 0#32, 0#32, 0#32, 0#32, 0#32, 0#32, 0#32, 0#32, 0#32, 0#32, 0#32, 0#32, 0#32, 0#32, 0#32, 0#32, 0#32, 0#32, 0#32, 0#32, 0#32, 0#32, 0#32, 0#32, 0#32, 0#32, 0#32, 0#32, 0#32, 0#32, 0x20000001#32, 0x00000000#32], ltbl := [] }], cmp := { job := some 0 } }), ({ prog := [0x4C500101#32, 0x00010000#32, 0x00010001#32, 0#32, 0x80000003#32, 0x00000010#32, 0#32, 0#32, 0#32, 0#32, 0#32, 0#32, 0#32, 0#32, 0#32, 0#32, 0#32, 0#32, 0#32, 0#32, 0#32, 0#32, 0#32, 0#32, 0#32, 0#32, 0#32, 0#32, 0#32, 0#32, 0#32, 0#32, 0#32, 0#32, 0#32, 0#32, 0x20000001#32, 0x00000000#32], ltbl := [] }), by decide +kernel⟩,
  ⟨({ st [(CMP.STATUS.BUSY, 1), (CMP.CTL.EN, 1)] with jobs := [{ prog := [0x4C500101#32, 0x00010000#32, 0x00010001#32, 0#32, 0x80000003#32, 0x00000010#32, 0#32, 0#32, 0#32, 0#32, 0#32, 0#32, 0#32, 0#32, 0#32, 0#32, 0#32, 0#32, 0#32, 0#32, 0#32, 0#32, 0#32, 0#32, 0#32, 0#32, 0#32, 0#32, 0#32, 0#32, 0#32, 0#32, 0#32, 0#32, 0#32, 0#32, 0x20000001#32, 0x00000000#32], ltbl := [0x90000000#32] }], cmp := { job := some 0 } }), ({ prog := [0x4C500101#32, 0x00010000#32, 0x00010001#32, 0#32, 0x80000003#32, 0x00000010#32, 0#32, 0#32, 0#32, 0#32, 0#32, 0#32, 0#32, 0#32, 0#32, 0#32, 0#32, 0#32, 0#32, 0#32, 0#32, 0#32, 0#32, 0#32, 0#32, 0#32, 0#32, 0#32, 0#32, 0#32, 0#32, 0#32, 0#32, 0#32, 0#32, 0#32, 0x20000001#32, 0x00000000#32], ltbl := [0x90000000#32] }), by decide +kernel⟩,
  ⟨({ st [(CMP.STATUS.BUSY, 1), (CMP.CTL.EN, 1)] with jobs := [{ prog := [0x4C500101#32, 0x00010000#32, 0x00010001#32, 0#32, 0x80000003#32, 0x00000010#32, 0#32, 0#32, 0#32, 0#32, 0#32, 0#32, 0#32, 0#32, 0#32, 0#32, 0#32, 0#32, 0#32, 0#32, 0#32, 0#32, 0#32, 0#32, 0#32, 0#32, 0#32, 0#32, 0#32, 0#32, 0#32, 0#32, 0#32, 0#32, 0#32, 0#32, 0x20000001#32, 0x00000000#32], ltbl := [0#32, 0#32, 0#32, 0#32, 0#32, 4#32] }], cmp := { job := some 0 } }), ({ prog := [0x4C500101#32, 0x00010000#32, 0x00010001#32, 0#32, 0x80000003#32, 0x00000010#32, 0#32, 0#32, 0#32, 0#32, 0#32, 0#32, 0#32, 0#32, 0#32, 0#32, 0#32, 0#32, 0#32, 0#32, 0#32, 0#32, 0#32, 0#32, 0#32, 0#32, 0#32, 0#32, 0#32, 0#32, 0#32, 0#32, 0#32, 0#32, 0#32, 0#32, 0x20000001#32, 0x00000000#32], ltbl := [0#32, 0#32, 0#32, 0#32, 0#32, 4#32] }), (0), by decide +kernel⟩⟩

/-- What CompOpCovers assumes, clause by clause, holds somewhere. -/
theorem witness_CompOpCovers :
  (∃ (s : State) (j : Job) (x : Access),
    s.opReady j 8 ∧
    x.ce = [] ∧
    x.ue = [] ∧
    s.compBase + 0x20000 ≤ 0x10800000 ∧
    ((∀ h : Nat, h < 16 → s.offline (s.compBase + 8192 * h) = false))) ∧
  (∃ (s : State) (j : Job),
    s.opReady j 8) ∧
  (∃ (j : Job) (mask : Nat) (old : CompBuf) (n : Nat),
    (bit mask (n / 4096) = false ∨ j.nnz (n / 4096) ≤ n % 4096 ∨ ds (compGet old (n / 4096) (n % 4096)) = 0)) ∧
  (∃ (j : Job) (mask : Nat) (old : CompBuf) (entry : Nat → Nat) (n : Nat),
    bit mask (n / 4096) = true ∧
    n % 4096 < j.nnz (n / 4096) ∧
    ds (compGet old (n / 4096) (n % 4096)) ≠ 0 ∧
    entry n / 2 ^ 14 = 0) ∧
  (∃ (j : Job) (mask : Nat) (dead : List Nat) (old : CompBuf) (entry : Nat → Nat) (n : Nat) (h : Nat) (k : Nat) (t : Nat),
    n = 4096 * h + k ∧
    k < 4096 ∧
    k = t + 1 ∧
    bit mask h = true ∧
    k < j.nnz h ∧
    ds (compGet old h k) ≠ 0 ∧
    entry n / 2 ^ 14 = 1 ∧
    entry n / 128 % 4 = 1 ∧
    compTarget j mask dead h t = true) :=
  ⟨⟨({ st [(CMP.STATUS.BUSY, 1), (CMP.CTL.EN, 1)] with jobs := [{ prog := [0x4C500101#32, 0x00010000#32, 0x00010001#32, 0#32, 0x80000003#32, 0x00000010#32, 0#32, 0#32, 0#32, 0#32, 0#32, 0#32, 0#32, 0#32, 0#32, 0#32, 0#32, 0#32, 0#32, 0#32, 0#32, 0#32, 0#32, 0#32, 0#32, 0#32, 0#32, 0#32, 0#32, 0#32, 0#32, 0#32, 0#32, 0#32, 0#32, 0#32, 0x80000001#32, 0x00000000#32], ltbl := [] }], cmp := { job := some 0 } }), ({ prog := [0x4C500101#32, 0x00010000#32, 0x00010001#32, 0#32, 0x80000003#32, 0x00000010#32, 0#32, 0#32, 0#32, 0#32, 0#32, 0#32, 0#32, 0#32, 0#32, 0#32, 0#32, 0#32, 0#32, 0#32, 0#32, 0#32, 0#32, 0#32, 0#32, 0#32, 0#32, 0#32, 0#32, 0#32, 0#32, 0#32, 0#32, 0#32, 0#32, 0#32, 0x80000001#32, 0x00000000#32], ltbl := [] }), ({ }), by decide +kernel⟩,
  ⟨({ st [(CMP.STATUS.BUSY, 1), (CMP.CTL.EN, 1)] with jobs := [{ prog := [0x4C500101#32, 0x00010000#32, 0x00010001#32, 0#32, 0x80000003#32, 0x00000010#32, 0#32, 0#32, 0#32, 0#32, 0#32, 0#32, 0#32, 0#32, 0#32, 0#32, 0#32, 0#32, 0#32, 0#32, 0#32, 0#32, 0#32, 0#32, 0#32, 0#32, 0#32, 0#32, 0#32, 0#32, 0#32, 0#32, 0#32, 0#32, 0#32, 0#32, 0x80000001#32, 0x00000000#32], ltbl := [] }], cmp := { job := some 0 } }), ({ prog := [0x4C500101#32, 0x00010000#32, 0x00010001#32, 0#32, 0x80000003#32, 0x00000010#32, 0#32, 0#32, 0#32, 0#32, 0#32, 0#32, 0#32, 0#32, 0#32, 0#32, 0#32, 0#32, 0#32, 0#32, 0#32, 0#32, 0#32, 0#32, 0#32, 0#32, 0#32, 0#32, 0#32, 0#32, 0#32, 0#32, 0#32, 0#32, 0#32, 0#32, 0x80000001#32, 0x00000000#32], ltbl := [] }), by decide +kernel⟩,
  ⟨({ }), (0), ([]), (0), by decide +kernel⟩,
  ⟨({ prog := [0#32, 0#32, 0#32, 0#32, 0x80000003#32] }), (1), ([(0, [1#4])]), (fun _ => 0), (0), by decide +kernel⟩,
  ⟨({ prog := [0#32, 0#32, 0#32, 0#32, 0x80000003#32] }), (1), ([1]), ([(0, [0#4, 1#4])]), (fun _ => 0x4080), (1), (0), (1), (0), by decide +kernel⟩⟩

/-- What EmitPushes assumes, clause by clause, holds somewhere. -/
theorem witness_EmitPushes :
  (∃ (s : State) (j : Job),
    s.opReady j 9 ∧
    headsOf (j.opMask s.cmp.op) ≠ [] ∧
    (headsOf (j.opMask s.cmp.op)).any (fun h => s.queueFull h (s.get CMP.JOB_LINE.LINE)) = false ∧
    ((headsOf (j.opMask s.cmp.op)).map (fun h => (s.lbCodes j (j.opSrc s.cmp.op) h).countP (fun c => ds c != 0 && 2 ≤ railOf c))).sum = 0) ∧
  (∃ (s : State) (j : Job),
    s.opReady j 9 ∧
    (headsOf (j.opMask s.cmp.op)).any (fun h => s.queueFull h (s.get CMP.JOB_LINE.LINE)) = false) ∧
  (∃ (s : State) (j : Job),
    s.opReady j 9 ∧
    (headsOf (j.opMask s.cmp.op)).any (fun h => s.queueFull h (s.get CMP.JOB_LINE.LINE)) = true) :=
  ⟨⟨({ st [(CMP.STATUS.BUSY, 1), (CMP.CTL.EN, 1), (LQ.CAP.CAP 0, 4)] with jobs := [{ prog := [0x4C500101#32, 0x00010000#32, 0x00010001#32, 0#32, 0x80000003#32, 0x00000010#32, 0#32, 0#32, 0#32, 0#32, 0#32, 0#32, 0#32, 0#32, 0#32, 0#32, 0#32, 0#32, 0#32, 0#32, 0#32, 0#32, 0#32, 0#32, 0#32, 0#32, 0#32, 0#32, 0#32, 0#32, 0#32, 0#32, 0#32, 0#32, 0#32, 0#32, 0x90000001#32, 0x00000000#32], ltbl := [] }], cmp := { job := some 0, lb := [[[0#4, 0#4, 0#4]]] } }), ({ prog := [0x4C500101#32, 0x00010000#32, 0x00010001#32, 0#32, 0x80000003#32, 0x00000010#32, 0#32, 0#32, 0#32, 0#32, 0#32, 0#32, 0#32, 0#32, 0#32, 0#32, 0#32, 0#32, 0#32, 0#32, 0#32, 0#32, 0#32, 0#32, 0#32, 0#32, 0#32, 0#32, 0#32, 0#32, 0#32, 0#32, 0#32, 0#32, 0#32, 0#32, 0x90000001#32, 0x00000000#32], ltbl := [] }), by decide +kernel⟩,
  ⟨({ st [(CMP.STATUS.BUSY, 1), (CMP.CTL.EN, 1), (LQ.CAP.CAP 0, 4)] with jobs := [{ prog := [0x4C500101#32, 0x00010000#32, 0x00010001#32, 0#32, 0x80000003#32, 0x00000010#32, 0#32, 0#32, 0#32, 0#32, 0#32, 0#32, 0#32, 0#32, 0#32, 0#32, 0#32, 0#32, 0#32, 0#32, 0#32, 0#32, 0#32, 0#32, 0#32, 0#32, 0#32, 0#32, 0#32, 0#32, 0#32, 0#32, 0#32, 0#32, 0#32, 0#32, 0x90000001#32, 0x00000000#32], ltbl := [] }], cmp := { job := some 0, lb := [[[0#4, 0#4, 0#4]]] } }), ({ prog := [0x4C500101#32, 0x00010000#32, 0x00010001#32, 0#32, 0x80000003#32, 0x00000010#32, 0#32, 0#32, 0#32, 0#32, 0#32, 0#32, 0#32, 0#32, 0#32, 0#32, 0#32, 0#32, 0#32, 0#32, 0#32, 0#32, 0#32, 0#32, 0#32, 0#32, 0#32, 0#32, 0#32, 0#32, 0#32, 0#32, 0#32, 0#32, 0#32, 0#32, 0x90000001#32, 0x00000000#32], ltbl := [] }), by decide +kernel⟩,
  ⟨({ st [(CMP.STATUS.BUSY, 1), (CMP.CTL.EN, 1), (LQ.CAP.CAP 0, 0)] with jobs := [{ prog := [0x4C500101#32, 0x00010000#32, 0x00010001#32, 0#32, 0x80000003#32, 0x00000010#32, 0#32, 0#32, 0#32, 0#32, 0#32, 0#32, 0#32, 0#32, 0#32, 0#32, 0#32, 0#32, 0#32, 0#32, 0#32, 0#32, 0#32, 0#32, 0#32, 0#32, 0#32, 0#32, 0#32, 0#32, 0#32, 0#32, 0#32, 0#32, 0#32, 0#32, 0x90000001#32, 0x00000000#32], ltbl := [] }], cmp := { job := some 0 } }), ({ prog := [0x4C500101#32, 0x00010000#32, 0x00010001#32, 0#32, 0x80000003#32, 0x00000010#32, 0#32, 0#32, 0#32, 0#32, 0#32, 0#32, 0#32, 0#32, 0#32, 0#32, 0#32, 0#32, 0#32, 0#32, 0#32, 0#32, 0#32, 0#32, 0#32, 0#32, 0#32, 0#32, 0#32, 0#32, 0#32, 0#32, 0#32, 0#32, 0#32, 0#32, 0x90000001#32, 0x00000000#32], ltbl := [] }), by decide +kernel⟩⟩

/-- What PrintEnables assumes, clause by clause, holds somewhere. -/
theorem witness_PrintEnables :
  (∃ (s : State) (d : Nat),
    s.flag CMP.CTL.EN = false ∧
    s.cmpBases = some d) ∧
  (∃ (s : State),
    s.flag CMP.CTL.EN = false ∧
    s.cmpBases = none) ∧
  (∃ (s : State),
    s.flag CMP.CTL.EN = true) ∧
  (∃ (s : State),
    s.flag CMP.CTL.EN = false) ∧
  (∃ (s : State),
    s.flag CMP.CTL.EN = true) ∧
  (∃ (s : State),
    s.flag CMP.CTL.EN = true ∧
    s.jobs = [] ∧
    s.cmp.emit = []) ∧
  (∃ (s : State),
    s.flag LQ.CTL.EN = false ∧
    (List.range s.nHeads).findSome? (fun h => (s.queueBad h).map (fun c => (h, c))) = none) ∧
  (∃ (s : State) (h : Nat) (c : Nat),
    s.flag LQ.CTL.EN = false ∧
    (List.range s.nHeads).findSome? (fun h => (s.queueBad h).map (fun c => (h, c))) = some (h, c)) ∧
  (∃ (s : State),
    s.flag LQ.CTL.EN = false) ∧
  (∃ (s : State),
    s.flag LQ.CTL.EN = true) :=
  ⟨⟨(State.reset), ((State.reset.cmpBases.getD 0)), by decide +kernel⟩,
  ⟨((((((st [(CMP.CTL.EN, 0)]).wr CMP.RAIL_BASE_0 0x10000000#32).wr CMP.RAIL_BASE_1 0x10002000#32).wr CMP.COMP_BASE_0 0x10020000#32).wr CMP.COMP_BASE_1 0x10040000#32).wr CMP.HEALTH_BASE_0 0x10060000#32 |>.wr CMP.HEALTH_BASE_1 0x10068000#32), by decide +kernel⟩,
  ⟨(st [(CMP.CTL.EN, 1)]), by decide +kernel⟩,
  ⟨(State.reset), by decide +kernel⟩,
  ⟨(st [(CMP.CTL.EN, 1)]), by decide +kernel⟩,
  ⟨(st [(CMP.CTL.EN, 1)]), by decide +kernel⟩,
  ⟨(st [(LQ.CAP.CAP 0, 4), (LQ.CAP.CAP 1, 4), (LQ.CAP.CAP 2, 4), (LQ.CAP.CAP 3, 4), (LQ.CAP.CAP 4, 4), (LQ.CAP.CAP 5, 4), (LQ.CAP.CAP 6, 4), (LQ.CAP.CAP 7, 4), (LQ.CAP.CAP 8, 4), (LQ.CAP.CAP 9, 4), (LQ.CAP.CAP 10, 4), (LQ.CAP.CAP 11, 4), (LQ.CAP.CAP 12, 4), (LQ.CAP.CAP 13, 4), (LQ.CAP.CAP 14, 4), (LQ.CAP.CAP 15, 4)]), by decide +kernel⟩,
  ⟨(st [(LQ.CAP.CAP 0, 0)]), (0), (1), by decide +kernel⟩,
  ⟨(State.reset), by decide +kernel⟩,
  ⟨(st [(LQ.CTL.EN, 1)]), by decide +kernel⟩⟩

/-- What CompositorPrograms assumes, clause by clause, holds somewhere. -/
theorem witness_CompositorPrograms :
  (∃ (s : State) (xp : Access) (xt : Access) (j : Job) (k : Job),
    s.cmpOn = true ∧
    s.progNext = none ∧
    s.toLoad = some j ∧
    (s.checkProgram j xp xt).2 = .inr k) ∧
  (∃ (s : State) (xp : Access) (xt : Access) (j : Job) (code : Nat) (op : Nat),
    s.cmpOn = true ∧
    s.progNext = none ∧
    s.toLoad = some j ∧
    (s.checkProgram j xp xt).2 = .inl (code, op)) ∧
  (∃ (s : State) (k : Job),
    s.progNext = some k) ∧
  (∃ (s : State) (j : Job) (y : Nat),
    s.cmpOn = true ∧
    s.flag CMP.STATUS.BUSY = false ∧
    s.nextLine = some (j, y)) ∧
  (∃ (s : State),
    (s.flag CMP.STATUS.BUSY = true ∨ s.nextLine = none)) ∧
  (∃ (s : State) (j : Job),
    s.cmp.abandon = false ∧
    s.cmpJob? = some j ∧
    j.composed = false) :=
  ⟨⟨({ (((st [(CMP.CTL.EN, 1)]).ramWrite 8 0x10000000 (wordsBytes [0x4C500101#32, 0x10000#32, 0x10001#32, 0xAE7D69EA#32, 0x80000003#32, 0x10#32, 0#32, 0#32, 0#32, 0#32, 0#32, 0#32, 0#32, 0#32, 0#32, 0#32, 0#32, 0#32, 0#32, 0#32, 0#32, 0#32, 0#32, 0#32, 0#32, 0#32, 0#32, 0#32, 0#32, 0#32, 0#32, 0#32, 0#32, 0#32, 0#32, 0#32, 0x90000001#32, 0#32]) {}).1.ramWrite 8 0x10001000 (wordsBytes [0x80000000#32, 0#32, 0#32, 0x20#32, 0x8#32, 0x1#32, 0#32, 0#32]) {}).1 with jobs := [{ words := [0#32, 7#32, 0x10000000#32, 0#32, 0x10001000#32, 0#32] }] }), ({ }), ({ }), ({ words := [0#32, 7#32, 0x10000000#32, 0#32, 0x10001000#32, 0#32] }), ({ words := [0#32, 7#32, 0x10000000#32, 0#32, 0x10001000#32, 0#32] , checked := true, prog := [0x4C500101#32, 0x10000#32, 0x10001#32, 0xAE7D69EA#32, 0x80000003#32, 0x10#32, 0#32, 0#32, 0#32, 0#32, 0#32, 0#32, 0#32, 0#32, 0#32, 0#32, 0#32, 0#32, 0#32, 0#32, 0#32, 0#32, 0#32, 0#32, 0#32, 0#32, 0#32, 0#32, 0#32, 0#32, 0#32, 0#32, 0#32, 0#32, 0#32, 0#32, 0x90000001#32, 0#32], ltbl := [0x80000000#32, 0#32, 0#32, 0x20#32, 0x8#32, 0x1#32, 0#32, 0#32] }), by decide +kernel⟩,
  ⟨({ (((st [(CMP.CTL.EN, 1)]).ramWrite 8 0x10000000 (wordsBytes [0x4C500101#32, 0x10000#32, 0x10001#32, 0xAE7D69EB#32, 0x80000003#32, 0x10#32, 0#32, 0#32, 0#32, 0#32, 0#32, 0#32, 0#32, 0#32, 0#32, 0#32, 0#32, 0#32, 0#32, 0#32, 0#32, 0#32, 0#32, 0#32, 0#32, 0#32, 0#32, 0#32, 0#32, 0#32, 0#32, 0#32, 0#32, 0#32, 0#32, 0#32, 0x90000001#32, 0#32]) {}).1.ramWrite 8 0x10001000 (wordsBytes [0x80000000#32, 0#32, 0#32, 0x20#32, 0x8#32, 0x1#32, 0#32, 0#32]) {}).1 with jobs := [{ words := [0#32, 7#32, 0x10000000#32, 0#32, 0x10001000#32, 0#32] }] }), ({ }), ({ }), ({ words := [0#32, 7#32, 0x10000000#32, 0#32, 0x10001000#32, 0#32] }), (2), (31), by decide +kernel⟩,
  ⟨({ State.reset with jobs := [{ checked := true }] }), ({ checked := true }), by decide +kernel⟩,
  ⟨({ st [(CMP.CTL.EN, 1)] with jobs := [{ checked := true }] }), ({ checked := true }), (0), by decide +kernel⟩,
  ⟨(State.reset), by decide +kernel⟩,
  ⟨({ State.reset with jobs := [{}], cmp := { job := some 0 } }), ({ }), by decide +kernel⟩⟩

/-- What QueueMoves assumes, clause by clause, holds somewhere. -/
theorem witness_QueueMoves :
  (∃ (s : State) (h : Nat) (l : List Code) (j : Job),
    s.blockOn LQ.CTL.EN 2 = true ∧
    s.headOn h = true ∧
    s.cmp.emit.find? (·.1 == h) = some (h, l) ∧
    s.cmpJob? = some j ∧
    (s.queue h).drop = 0 ∧
    s.queueFull h (s.get CMP.JOB_LINE.LINE) = false ∧
    s.act.any (·.1 == LQ.CAP h) = false) ∧
  (∃ (s : State) (h : Nat) (e : Nat × List Code) (j : Job),
    s.headOn h = true ∧
    (s.blockOn LQ.CTL.EN 2 = true ∨ (s.flag LQ.CTL.EN = false ∧ s.domainRuns 4 = true)) ∧
    s.cmp.emit.find? (·.1 == h) = some e ∧
    s.cmpJob? = some j ∧
    (s.queue h).drop ≠ 0) ∧
  (∃ (s : State) (h : Nat),
    s.headOn h = true ∧
    (s.queue h).drop = 0 ∧
    s.queueFull h (s.get CMP.JOB_LINE.LINE) = true) ∧
  (∃ (s : State) (h : Nat),
    s.headOn h = true ∧
    s.domainRuns 4 = true ∧
    (s.queue h).moving = true) ∧
  (∃ (q : Queue) (l : QLine) (r : List QLine),
    q.tail = l :: r) ∧
  (∃ (s : State) (h : Nat),
    (s.queue h).moving = false) ∧
  (∃ (s : State) (h : Nat) (l : QLine) (r : List QLine),
    s.headOn h = true ∧
    (s.queue h).spilling = true ∧
    s.lqPort = some none ∧
    (s.queue h).tail = l :: r ∧
    s.domainRuns 4 = true) ∧
  (∃ (s : State) (h : Nat),
    ((s.queue h).spilling = false ∨ s.lqPort ≠ some none ∨ s.domainRuns 4 = false)) ∧
  (∃ (s : State) (h : Nat) (slot : Nat) (l : QLine) (r : List (QLine × Nat)),
    s.headOn h = true ∧
    (s.queue h).spill = (l, slot) :: r ∧
    (s.queue h).refilling = true ∧
    s.lqPort = some (some h) ∧
    s.domainRuns 4 = true) ∧
  (∃ (s : State),
    s.portServes = false) :=
  ⟨⟨({ st [(LQ.CTL.EN, 1), (LQ.CAP.CAP 0, 4)] with lq := [{ }], jobs := [{}], cmp := { job := some 0, emit := [(0, [1#4])] } }), (0), ([1#4]), ({ }), by decide +kernel⟩,
  ⟨({ st [(LQ.CTL.EN, 1), (LQ.CAP.CAP 0, 4)] with lq := [{ drop := 54 }], jobs := [{}], cmp := { job := some 0, emit := [(0, [1#4])] } }), (0), ((0, [1#4])), ({ }), by decide +kernel⟩,
  ⟨({ st [(LQ.CTL.EN, 1), (LQ.CAP.CAP 0, 1)] with lq := [{ tail := [{ codes := [1#4] }] }] }), (0), by decide +kernel⟩,
  ⟨({ st [(LQ.CTL.EN, 1)] with lq := [{ tail := [{ codes := [1#4] }], moving := true }] }), (0), by decide +kernel⟩,
  ⟨({ tail := [{ }] }), ({ }), ([]), by decide +kernel⟩,
  ⟨(State.reset), (0), by decide +kernel⟩,
  ⟨({ (st [(LQ.CTL.EN, 1), (LQ.CAP.CAP 0, 40), (LQ.SPILL_LINES.LINES 0, 40)]).wr (LQ.SPILL_BASE_LO 0) 0x10000000#32 with lq := [{ tail := List.replicate 8 { codes := [1#4] }, head := List.replicate 8 { codes := [1#4] }, spilling := true }], lqPort := some none }), (0), ({ codes := [1#4] }), (List.replicate 7 { codes := [1#4] }), by decide +kernel⟩,
  ⟨(State.reset), (0), by decide +kernel⟩,
  ⟨({ (st [(LQ.CTL.EN, 1)]).wr (LQ.SPILL_BASE_LO 0) 0x10000000#32 with lq := [{ spill := [({ codes := [1#4] }, 0)], refilling := true }], lqPort := some (some 0) }), (0), (0), ({ codes := [1#4] }), ([]), by decide +kernel⟩,
  ⟨(State.reset), by decide +kernel⟩⟩

/-- What QueueFlush assumes, clause by clause, holds somewhere. -/
theorem witness_QueueFlush :
  (∃ (s : State) (h : Nat),
    s.headOn h = true ∧
    s.domainRuns 4 = true ∧
    bit (s.get LQ.FLUSH.REQ) h = true ∧
    (s.queue h).busy = false) ∧
  (∃ (s : State) (h : Nat),
    (s.queue h).busy = true) ∧
  (∃ (s : State) (h : Nat),
    s.headOn h = true ∧
    s.domainRuns 4 = true ∧
    bit (s.get LQ.FLUSH.REQ) h = true) ∧
  (∃ (s : State) (h : Nat),
    s.headOn h = true ∧
    s.domainRuns 4 = true) ∧
  (∃ (s : State) (h : Nat),
    s.headOn h = true ∧
    bit (s.get LQ.FLUSH.REQ) h = true ∧
    (s.queue h).busy = false ∧
    s.cmp.emit.any (·.1 == h) = false ∧
    (s.queue h).part = false ∧
    s.act.any (·.1 == LQ.CAP h) = false ∧
    s.domainRuns 4 = true) :=
  ⟨⟨(st [(LQ.FLUSH.REQ, 1)]), (0), by decide +kernel⟩,
  ⟨({ st [(LQ.CTL.EN, 1)] with lq := [{ moving := true }] }), (0), by decide +kernel⟩,
  ⟨(st [(LQ.FLUSH.REQ, 1)]), (0), by decide +kernel⟩,
  ⟨(State.reset), (0), by decide +kernel⟩,
  ⟨(st [(LQ.FLUSH.REQ, 1)]), (0), by decide +kernel⟩⟩

/-- What FramingInstructions assumes, clause by clause, holds somewhere. -/
theorem witness_FramingInstructions :
  (∃ (s : State) (h : Nat) (lane : Nat) (x : Xfer) (l0 : Lane),
    s.laneReady h lane 1 x l0) ∧
  (∃ (s : State) (h : Nat) (lane : Nat) (x : Xfer) (l0 : Lane),
    s.laneReady h lane 2 x l0) ∧
  (∃ (s : State) (h : Nat) (lane : Nat) (x : Xfer) (l0 : Lane),
    s.laneReady h lane 3 x l0) ∧
  (∃ (s : State) (h : Nat) (lane : Nat) (x : Xfer) (l0 : Lane),
    s.laneReady h lane 4 x l0) ∧
  (∃ (s : State) (h : Nat) (lane : Nat) (x : Xfer) (l0 : Lane),
    s.laneReady h lane 5 x l0) ∧
  (∃ (s : State) (h : Nat) (lane : Nat) (x : Xfer) (l0 : Lane),
    s.laneReady h lane 15 x l0) :=
  ⟨⟨({ State.reset with hpt := [{ xfer := some { prog := [0x46500100#32, 2#32, 0#32, 0#32, 0#32, 0#32, 0x10000000#32, 0#32], lanes := [{ }] } }] }), (0), (0), ({ prog := [0x46500100#32, 2#32, 0#32, 0#32, 0#32, 0#32, 0x10000000#32, 0#32], lanes := [{ }] }), ({ }), by decide +kernel⟩,
  ⟨({ State.reset with hpt := [{ xfer := some { prog := [0x46500100#32, 2#32, 0#32, 0#32, 0#32, 0#32, 0x20000000#32, 0#32], lanes := [{ }] } }] }), (0), (0), ({ prog := [0x46500100#32, 2#32, 0#32, 0#32, 0#32, 0#32, 0x20000000#32, 0#32], lanes := [{ }] }), ({ }), by decide +kernel⟩,
  ⟨({ State.reset with hpt := [{ xfer := some { prog := [0x46500100#32, 2#32, 0#32, 0#32, 0#32, 0#32, 0x30000000#32, 0#32], lanes := [{ }] } }] }), (0), (0), ({ prog := [0x46500100#32, 2#32, 0#32, 0#32, 0#32, 0#32, 0x30000000#32, 0#32], lanes := [{ }] }), ({ }), by decide +kernel⟩,
  ⟨({ State.reset with hpt := [{ xfer := some { prog := [0x46500100#32, 2#32, 0#32, 0#32, 0#32, 0#32, 0x40000000#32, 0#32], lanes := [{ }] } }] }), (0), (0), ({ prog := [0x46500100#32, 2#32, 0#32, 0#32, 0#32, 0#32, 0x40000000#32, 0#32], lanes := [{ }] }), ({ }), by decide +kernel⟩,
  ⟨({ State.reset with hpt := [{ xfer := some { prog := [0x46500100#32, 2#32, 0#32, 0#32, 0#32, 0#32, 0x50200000#32, 0#32], lanes := [{ }] } }] }), (0), (0), ({ prog := [0x46500100#32, 2#32, 0#32, 0#32, 0#32, 0#32, 0x50200000#32, 0#32], lanes := [{ }] }), ({ }), by decide +kernel⟩,
  ⟨({ State.reset with hpt := [{ xfer := some { prog := [0x46500100#32, 2#32, 0#32, 0#32, 0#32, 0#32, 0xF0000000#32, 0#32], lanes := [{ }] } }] }), (0), (0), ({ prog := [0x46500100#32, 2#32, 0#32, 0#32, 0#32, 0#32, 0xF0000000#32, 0#32], lanes := [{ }] }), ({ }), by decide +kernel⟩⟩

/-- What TransfersAndLatches assumes, clause by clause, holds somewhere. -/
theorem witness_TransfersAndLatches :
  (∃ (s : State) (h : Nat) (t : Trig) (x : Xfer),
    s.latchTrig h = some t ∧
    (s.hport h).xfer = some x ∧
    s.portLive h = true ∧
    s.flag FIRE.STATUS.PRED_VALID = true ∧
    reached s.time (latStartOf x.cfg t.at_) = true ∧
    x.readyFor t (latStartOf x.cfg t.at_) = true) ∧
  (∃ (s : State) (h : Nat) (e : Nat × Nat),
    (s.hport h).latAt = some e ∧
    (s.hport h).latUp = true ∧
    reached s.time e.2 = true) ∧
  (∃ (s : State) (h : Nat) (x : Xfer),
    (s.hport h).xfer = some x ∧
    x.lanes.all (·.done) = true ∧
    x.complete = false) ∧
  (∃ (s : State) (h : Nat) (t : Trig),
    s.latchTrig h = some t ∧
    s.flag FIRE.STATUS.PRED_VALID = true ∧
    reached s.time (before (latStartOf (s.xferCfg h t.seq) t.at_) (latSetup (s.xferCfg h t.seq))) = true ∧
    (s.hport h).xfer.any (fun x => x.readyFor t (latStartOf (s.xferCfg h t.seq) t.at_)) = false ∧
    (s.xferLine h).isSome = true) ∧
  (∃ (s : State) (h : Nat) (t : Trig),
    s.latchTrig h = some t ∧
    s.flag FIRE.STATUS.PRED_VALID = true ∧
    reached s.time (before (latStartOf (s.xferCfg h t.seq) t.at_) (latSetup (s.xferCfg h t.seq))) = true ∧
    (s.hport h).xfer.any (fun x => x.readyFor t (latStartOf (s.xferCfg h t.seq) t.at_)) = false ∧
    s.xferLine h = none) ∧
  (∃ (s : State) (h : Nat) (g : PortLine) (l : List Code),
    s.xferLine h = some g ∧
    (s.hport h).xfer = none ∧
    (s.hport h).window = true ∧
    (s.onHport h (fun p => { p with xfer := none })).tailLine g = false ∧
    ((s.onHport h (fun p => { p with xfer := none })).popQueue h (g.seq, g.y) (tagDetail ((s.onHport h (fun p => { p with xfer := none })).jobId g.seq) g.y) false).2 = .line l) ∧
  (∃ (s : State) (h : Nat) (g : PortLine),
    s.xferLine h = some g ∧
    s.deadlinePassed h g = true) ∧
  (∃ (s : State) (h : Nat) (g : PortLine),
    s.xferLine h = some g ∧
    s.deadlinePassed h g = true ∧
    (s.hport h).xfer = none ∧
    (s.hport h).window = true ∧
    (s.onHport h (fun p => { p with xfer := none })).tailLine g = false ∧
    ((s.onHport h (fun p => { p with xfer := none })).popQueue h (g.seq, g.y) (tagDetail ((s.onHport h (fun p => { p with xfer := none })).jobId g.seq) g.y) true).2 = .blank) ∧
  (∃ (s : State) (h : Nat) (g : Nat × Nat) (l : QLine) (r : List QLine),
    (s.queue h).head = l :: r ∧
    l.tag = g ∧
    tagBefore l.tag g = false) :=
  ⟨⟨({ st [(HPT.CTL.EN, 1), (HPT.PCTL.EN 0, 1), (HPT.PSTATUS.READY 0, 1), (FIRE.STATUS.PRED_VALID, 1), (HPT.ROWS.NROWS 0, 1), (HPT.ROWS.RGRP 0, 1), (LQ.CTL.EN, 1)] with time := 100, fire := { trigs := [{ at_ := 100 }] }, hpt := [{ xfer := some { complete := true, doneAt := 20 } }], jobs := [] }), (0), ({ at_ := 100 }), ({ complete := true, doneAt := 20 }), by decide +kernel⟩,
  ⟨({ st [(HPT.CTL.EN, 1), (HPT.PCTL.EN 0, 1), (HPT.PSTATUS.READY 0, 1), (FIRE.STATUS.PRED_VALID, 1), (HPT.ROWS.NROWS 0, 1), (HPT.ROWS.RGRP 0, 1), (LQ.CTL.EN, 1)] with time := 100, fire := { trigs := [{ at_ := 100 }] }, hpt := [{ latAt := some (92, 100), latUp := true }], jobs := [] }), (0), ((92, 100)), by decide +kernel⟩,
  ⟨({ st [(HPT.CTL.EN, 1), (HPT.PCTL.EN 0, 1), (HPT.PSTATUS.READY 0, 1), (FIRE.STATUS.PRED_VALID, 1), (HPT.ROWS.NROWS 0, 1), (HPT.ROWS.RGRP 0, 1), (LQ.CTL.EN, 1)] with time := 100, fire := { trigs := [{ at_ := 100 }] }, hpt := [{ xfer := some { lanes := [{ done := true }] } }], jobs := [] }), (0), ({ lanes := [{ done := true }] }), by decide +kernel⟩,
  ⟨({ st [(HPT.CTL.EN, 1), (HPT.PCTL.EN 0, 1), (HPT.PSTATUS.READY 0, 1), (FIRE.STATUS.PRED_VALID, 1), (HPT.ROWS.NROWS 0, 1), (HPT.ROWS.RGRP 0, 1), (LQ.CTL.EN, 1)] with time := 100, fire := { trigs := [{ at_ := 100 }] }, hpt := [{ jobSeq := some 0, prog := [0x46500100#32], xfer := some { lanes := [{ }] } }], jobs := [] }), (0), ({ at_ := 100 }), by decide +kernel⟩,
  ⟨({ st [(HPT.CTL.EN, 1), (HPT.PCTL.EN 0, 1), (HPT.PSTATUS.READY 0, 1), (FIRE.STATUS.PRED_VALID, 1), (HPT.ROWS.NROWS 0, 1), (HPT.ROWS.RGRP 0, 1), (LQ.CTL.EN, 1)] with time := 100, fire := { trigs := [{ at_ := 100 }] }, hpt := [{ jobSeq := some 0, acting := true }], jobs := [] }), (0), ({ at_ := 100 }), by decide +kernel⟩,
  ⟨({ st [(HPT.CTL.EN, 1), (HPT.PCTL.EN 0, 1), (HPT.PSTATUS.READY 0, 1), (FIRE.STATUS.PRED_VALID, 1), (HPT.ROWS.NROWS 0, 1), (HPT.ROWS.RGRP 0, 1), (LQ.CTL.EN, 1)] with time := 100, fire := { trigs := [{ at_ := 100 }] }, hpt := [{ jobSeq := some 0, prog := [0x46500100#32], window := true }], jobs := [], lq := [{ head := [{ codes := [1#4] }] }] }), (0), (⟨0, 0, some 100⟩), ([1#4]), by decide +kernel⟩,
  ⟨({ st [(HPT.CTL.EN, 1), (HPT.PCTL.EN 0, 1), (HPT.PSTATUS.READY 0, 1), (FIRE.STATUS.PRED_VALID, 1), (HPT.ROWS.NROWS 0, 1), (HPT.ROWS.RGRP 0, 1), (LQ.CTL.EN, 1)] with time := 100, fire := { trigs := [{ at_ := 100 }] }, hpt := [{ jobSeq := some 0, prog := [0x46500100#32], window := true }], jobs := [] }), (0), (⟨0, 0, some 100⟩), by decide +kernel⟩,
  ⟨({ st [(HPT.CTL.EN, 1), (HPT.PCTL.EN 0, 1), (HPT.PSTATUS.READY 0, 1), (FIRE.STATUS.PRED_VALID, 1), (HPT.ROWS.NROWS 0, 1), (HPT.ROWS.RGRP 0, 1), (LQ.CTL.EN, 1)] with time := 100, fire := { trigs := [{ at_ := 100 }] }, hpt := [{ jobSeq := some 0, prog := [0x46500100#32], window := true }], jobs := [] }), (0), (⟨0, 0, some 100⟩), by decide +kernel⟩,
  ⟨({ State.reset with lq := [{ head := [{}] }] }), (0), ((0, 0)), ({}), ([]), by decide +kernel⟩⟩

/-- What FramingProgramLoad assumes, clause by clause, holds somewhere. -/
theorem witness_FramingProgramLoad :
  (∃ (s : State) (h : Nat),
    s.headOn h = true ∧
    s.flag (HPT.PCTL.FP_LOAD h) = false) ∧
  (∃ (s : State) (h : Nat),
    s.flag (HPT.PCTL.FP_LOAD h) = true) ∧
  (∃ (s : State) (h : Nat),
    (s.hport h).loading = none) ∧
  (∃ (s : State) (h : Nat) (w : List Word),
    (s.hport h).loading = some (w, false) ∧
    fpCheckHeader w = none ∧
    fpCheckBody w = none) ∧
  (∃ (s : State) (h : Nat) (code : Nat) (lane : Nat) (ins : Nat) (w : List Word) (bad : Bool),
    (s.hport h).loading = some (w, bad) ∧
    progFailure w bad = some (code, (lane, ins))) :=
  ⟨⟨(State.reset), (0), by decide +kernel⟩,
  ⟨(st [(HPT.PCTL.FP_LOAD 0, 1)]), (0), by decide +kernel⟩,
  ⟨(State.reset), (0), by decide +kernel⟩,
  ⟨({ State.reset with hpt := [{ loading := some ([0x46500110#32, 0x01010102#32, 0#32, 0#32, 0#32, 0x8FF5D93#32, 0x10000000#32, 0#32, 0xF0000000#32, 0#32, 0xF0000000#32, 0#32, 0xF0000000#32, 0#32, 0xF0000000#32, 0#32], false) }] }), (0), ([0x46500110#32, 0x01010102#32, 0#32, 0#32, 0#32, 0x8FF5D93#32, 0x10000000#32, 0#32, 0xF0000000#32, 0#32, 0xF0000000#32, 0#32, 0xF0000000#32, 0#32, 0xF0000000#32, 0#32]), by decide +kernel⟩,
  ⟨({ State.reset with hpt := [{ loading := some ([], true) }] }), (0), (10), (0), (0), ([]), (true), by decide +kernel⟩⟩

/-- What PortChecks assumes, clause by clause, holds somewhere. -/
theorem witness_PortChecks :
  (∃ (s : State) (h : Nat),
    s.headOn h = true ∧
    s.flag (HPT.PCTL.EN h) = false) ∧
  (∃ (s : State) (h : Nat),
    s.flag (HPT.PCTL.EN h) = true) ∧
  (∃ (s : State) (h : Nat),
    s.headOn h = true ∧
    (s.hport h).enabling = true) ∧
  (∃ (s : State) (h : Nat) (raw : Nat) (shorts : Nat) (opens : Nat),
    s.headOn h = true ∧
    (s.hport h).enabling = true ∧
    min raw 255 / 16 % 16 ≠ 15 ∧
    (s.acceptPrs h (min raw 255) true).enableFault h (min raw 255 / 16 % 16) true (shorts % 64) (opens % 64) = none) ∧
  (∃ (s : State) (h : Nat) (raw : Nat),
    s.headOn h = true ∧
    (s.hport h).enabling = true ∧
    min raw 255 / 16 % 16 = 15) ∧
  (∃ (s : State) (h : Nat) (raw : Nat) (shorts : Nat) (opens : Nat) (k : Nat) (stable : Bool),
    s.headOn h = true ∧
    (s.hport h).enabling = true ∧
    min raw 255 / 16 % 16 ≠ 15 ∧
    (s.acceptPrs h (min raw 255) stable).enableFault h (min raw 255 / 16 % 16) stable (shorts % 64) (opens % 64) = some k) ∧
  (∃ (s : State) (h : Nat),
    s.headOn h = true ∧
    s.flag (HPT.PCTL.EN h) = true) ∧
  (∃ (s : State),
    s.flag HPT.CTL.EN = true) ∧
  (∃ (s : State),
    s.flag HPT.CTL.EN = false) ∧
  (∃ (s : State) (h : Nat),
    s.headOn h = true ∧
    s.flag (HPT.PCTL.EN h) = true ∧
    (s.hport h).enabling = false ∧
    s.flag (HPT.PRS.VALID h) = true) ∧
  (∃ (s : State) (h : Nat) (raw : Nat),
    s.headOn h = true ∧
    s.flag (HPT.PCTL.EN h) = true ∧
    (s.hport h).enabling = false ∧
    s.flag (HPT.PRS.VALID h) = true ∧
    (s.hport h).prsDiff = true ∧
    (!bit (s.hport h).causes 4 || bit (s.hport h).ended 4) = true ∧
    min raw 255 / 16 % 16 ≠ (s.put (HPT.PRS.RAW h) (min raw 255)).get (HPT.PRS.CODE h)) ∧
  (∃ (s : State) (h : Nat) (raw : Nat),
    s.headOn h = true ∧
    s.flag (HPT.PCTL.EN h) = true ∧
    (s.hport h).enabling = false ∧
    s.flag (HPT.PRS.VALID h) = true ∧
    min raw 255 / 16 % 16 = (s.put (HPT.PRS.RAW h) (min raw 255)).get (HPT.PRS.CODE h)) ∧
  (∃ (s : State) (h : Nat) (lane : Nat),
    s.headOn h = true ∧
    s.flag (HPT.PSTATUS.READY h) = true ∧
    lane < 6 ∧
    bit (s.usedLanes h) lane = true) ∧
  (∃ (s : State) (h : Nat) (lane : Nat),
    bit (s.usedLanes h) lane = false) ∧
  (∃ (s : State) (h : Nat),
    s.headOn h = true) ∧
  (∃ (s : State) (h : Nat) (shorts : Nat) (opens : Nat),
    s.headOn h = true ∧
    bit (s.hport h).causes 3 = true ∧
    (shorts % 64 ||| opens % 64) &&& (s.onHport h (fun p => { p with clrReq := bit p.causes 5 })).usedLanes h = 0) ∧
  (∃ (s : State) (h : Nat),
    s.headOn h = true ∧
    bit (s.hport h).causes 3 = false) :=
  ⟨⟨(State.reset), (0), by decide +kernel⟩,
  ⟨(st [(HPT.PCTL.EN 0, 1)]), (0), by decide +kernel⟩,
  ⟨({ State.reset with hpt := [{ enabling := true }] }), (0), by decide +kernel⟩,
  ⟨({ st [(HPT.LANES.LANE_MAP 0, 0xE4)] with hpt := [{ enabling := true }] }), (0), (0x20), (0), (0), by decide +kernel⟩,
  ⟨({ State.reset with hpt := [{ enabling := true }] }), (0), (255), by decide +kernel⟩,
  ⟨({ State.reset with hpt := [{ enabling := true }] }), (0), (0x20), (0), (0), (2), (false), by decide +kernel⟩,
  ⟨(st [(HPT.PCTL.EN 0, 1)]), (0), by decide +kernel⟩,
  ⟨(st [(HPT.CTL.EN, 1)]), by decide +kernel⟩,
  ⟨(State.reset), by decide +kernel⟩,
  ⟨(st [(HPT.PCTL.EN 0, 1), (HPT.PRS.VALID 0, 1)]), (0), by decide +kernel⟩,
  ⟨({ st [(HPT.PCTL.EN 0, 1), (HPT.PRS.VALID 0, 1), (HPT.PRS.CODE 0, 3)] with hpt := [{ prsDiff := true }] }), (0), (0x40), by decide +kernel⟩,
  ⟨(st [(HPT.PCTL.EN 0, 1), (HPT.PRS.VALID 0, 1), (HPT.PRS.CODE 0, 3)]), (0), (0x38), by decide +kernel⟩,
  ⟨(st [(HPT.PSTATUS.READY 0, 1)]), (0), (4), by decide +kernel⟩,
  ⟨({ State.reset with hpt := [{ prog := [0#32] }] }), (0), (3), by decide +kernel⟩,
  ⟨(State.reset), (0), by decide +kernel⟩,
  ⟨({ State.reset with hpt := [{ causes := 8 }] }), (0), (0), (0), by decide +kernel⟩,
  ⟨(State.reset), (0), by decide +kernel⟩⟩

/-- What HeadIdBus assumes, clause by clause, holds somewhere. -/
theorem witness_HeadIdBus :
  (∃ (s : State) (h : Nat) (ctl : Word),
    s.headOn h = true ∧
    fieldOf ctl 31 1 = 1 ∧
    (s.wr (HPT.I2C_CTL h) (ctl &&& 0x013F3F7F#32)).flag (HPT.I2C_STATUS.BUSY h) = false) ∧
  (∃ (s : State) (h : Nat) (ctl : Word),
    s.headOn h = true ∧
    fieldOf ctl 31 1 = 1 ∧
    (s.wr (HPT.I2C_CTL h) (ctl &&& 0x013F3F7F#32)).flag (HPT.I2C_STATUS.BUSY h) = false) ∧
  (∃ (s : State) (h : Nat) (ctl : Word),
    s.headOn h = true ∧
    fieldOf ctl 31 1 = 1 ∧
    (s.wr (HPT.I2C_CTL h) (ctl &&& 0x013F3F7F#32)).flag (HPT.I2C_STATUS.BUSY h) = true) ∧
  (∃ (s : State) (h : Nat) (ctl : Word),
    s.headOn h = true ∧
    fieldOf ctl 31 1 = 0) ∧
  (∃ (s : State) (h : Nat) (dev : Nat) (rlen : Nat) (out : List Byte),
    (s.hport h).i2cNow = some (dev, (out, rlen))) ∧
  (∃ (s : State) (h : Nat) (dev : Nat) (rlen : Nat) (out : List Byte),
    (s.hport h).i2cNow = some (dev, (out, rlen))) ∧
  (∃ (s : State) (h : Nat) (dev : Nat) (rlen : Nat) (out : List Byte),
    (s.hport h).i2cNow = some (dev, (out, rlen))) :=
  ⟨⟨(State.reset), (0), (0x80000150#32), by decide +kernel⟩,
  ⟨(State.reset), (0), (0x80000150#32), by decide +kernel⟩,
  ⟨(st [(HPT.I2C_STATUS.BUSY 0, 1)]), (0), (0x80000150#32), by decide +kernel⟩,
  ⟨(State.reset), (0), (0x150#32), by decide +kernel⟩,
  ⟨({ State.reset with hpt := [{ i2cNow := some (0x50, ([1#8], 2)) }] }), (0), (0x50), (2), ([1#8]), by decide +kernel⟩,
  ⟨({ State.reset with hpt := [{ i2cNow := some (0x50, ([1#8], 2)) }] }), (0), (0x50), (2), ([1#8]), by decide +kernel⟩,
  ⟨({ State.reset with hpt := [{ i2cNow := some (0x50, ([1#8], 2)) }] }), (0), (0x50), (2), ([1#8]), by decide +kernel⟩⟩

/-- What AxisDecoding assumes, clause by clause, holds somewhere. -/
theorem witness_AxisDecoding :
  (∃ (s : State) (n : Nat) (l : Nat),
    n < 4 ∧
    (s.onAx n (fun x => { x with levels := l % 8 })).axOn n = true ∧
    (s.onAx n (fun x => { x with levels := l % 8 })).axMode n = 0) ∧
  (∃ (s : State) (n : Nat) (l : Nat),
    n < 4 ∧
    (s.onAx n (fun x => { x with levels := l % 8 })).axOn n = true ∧
    (s.onAx n (fun x => { x with levels := l % 8 })).axMode n = 1) ∧
  (∃ (s : State) (n : Nat) (l : Nat),
    n < 4 ∧
    (s.onAx n (fun x => { x with levels := l % 8 })).axOn n = false) ∧
  (∃ (s : State) (n : Nat) (l : Nat),
    n < 4 ∧
    2 ≤ (s.onAx n (fun x => { x with levels := l % 8 })).axMode n) ∧
  (∃ (s : State) (n : Nat) (r : Nat) (v : Bool × (Bool × Bool)),
    (s.ax n).ref = some r ∧
    (quadPhase v.1 v.2.1 + 4 - r) % 4 = 1) ∧
  (∃ (s : State) (n : Nat) (r : Nat) (v : Bool × (Bool × Bool)),
    (s.ax n).ref = some r ∧
    (quadPhase v.1 v.2.1 + 4 - r) % 4 = 3) ∧
  (∃ (s : State) (n : Nat) (r : Nat) (v : Bool × (Bool × Bool)),
    (s.ax n).ref = some r ∧
    (quadPhase v.1 v.2.1 + 4 - r) % 4 = 2) ∧
  (∃ (s : State) (n : Nat),
    s.axOn n = true ∧
    s.axMode n < 2 ∧
    s.get (POS.RATE_CFG.STOP_TMO n) ≠ 0) ∧
  (∃ (s : State) (n : Nat) (mask : Nat),
    s.axOn n = true ∧
    s.flag (POS.AX_CTL.WIRE_EN n) = true ∧
    mask &&& s.axUsed n ≠ 0) ∧
  (∃ (s : State) (n : Nat),
    n < 4 ∧
    (s.ax n).lost ≠ 0) ∧
  (∃ (s : State) (n : Nat),
    n < 4 ∧
    s.flag (POS.AX_CTL.EN n) = false ∧
    s.axRefusal n = none ∧
    (s.raise (POS.AX_CTL.EN n)).axOn n = true) ∧
  (∃ (s : State) (n : Nat) (code : Nat),
    n < 4 ∧
    s.flag (POS.AX_CTL.EN n) = false ∧
    s.axRefusal n = some code) ∧
  (∃ (s : State) (n : Nat),
    n < 4 ∧
    s.flag (POS.AX_CTL.EN n) = true ∧
    ((s.drop (POS.AX_CTL.EN n)).axStop n).get FIRE.CFG.AXIS ≠ n) ∧
  (∃ (s : State) (n : Nat),
    n < 4 ∧
    s.flag (POS.AX_CTL.EN n) = true ∧
    ((s.drop (POS.AX_CTL.EN n)).axStop n).get FIRE.CFG.AXIS = n) ∧
  (∃ (s : State),
    s.flag POS.TIDE_CFG.EN = true ∧
    s.get FAB.TIDE_CFG.SRC = s.nodeId ∧
    s.flag (POS.AX_STATUS.VALID (s.get POS.TIDE_CFG.AXIS)) = true) ∧
  (∃ (s : State),
    s.flag POS.TIDE_CFG.EN = false) ∧
  (∃ (s : State) (n : Nat) (slo : Bool),
    s.serialOn n = true ∧
    (s.ax n).frame = none ∧
    slo ≠ s.flag (POS.AX_CTL.INV_A n)) ∧
  (∃ (s : State) (n : Nat) (slo : Bool),
    s.serialOn n = true ∧
    (s.ax n).frame = none ∧
    slo = s.flag (POS.AX_CTL.INV_A n)) ∧
  (∃ (s : State) (n : Nat),
    s.axOn n = true ∧
    s.axMode n = 3 ∧
    (s.ax n).frame.isSome = true) ∧
  (∃ (s : State) (n : Nat),
    s.serialOn n = true ∧
    (s.ax n).frame.isSome = true) ∧
  (∃ (s : State) (n : Nat) (w : Nat) (t0 : Nat),
    s.serialOn n = true ∧
    (s.ax n).frame = some t0 ∧
    s.serCrcOk n (s.serBits n w) = true ∧
    s.serErrBit n (s.serBits n w) = false) ∧
  (∃ (s : State) (n : Nat) (w : Nat) (t0 : Nat),
    s.serialOn n = true ∧
    (s.ax n).frame = some t0 ∧
    s.serCrcOk n (s.serBits n w) = false) ∧
  (∃ (s : State) (n : Nat) (w : Nat) (t0 : Nat),
    s.serialOn n = true ∧
    (s.ax n).frame = some t0 ∧
    s.serCrcOk n (s.serBits n w) = true ∧
    s.serErrBit n (s.serBits n w) = true) ∧
  (∃ (s : State) (n : Nat) (u : Nat) (p : Nat),
    (s.ax n).lost = 0 ∧
    (s.ax n).uPrev = some p ∧
    s.get (POS.SER_MAP.MAX_STEP n) < (signedOf (s.get (POS.SER_FRAME.POS_W n) - s.get (POS.SER_MAP.SHIFT n)) (u + 2 ^ (s.get (POS.SER_FRAME.POS_W n) - s.get (POS.SER_MAP.SHIFT n)) - p % 2 ^ (s.get (POS.SER_FRAME.POS_W n) - s.get (POS.SER_MAP.SHIFT n)))).natAbs) :=
  ⟨⟨(st [(POS.CTL.EN, 1), (POS.AX_CTL.EN 1, 1)]), (1), (1), by decide +kernel⟩,
  ⟨(st [(POS.CTL.EN, 1), (POS.AX_CTL.EN 1, 1), (POS.AX_CTL.MODE 1, 1)]), (1), (1), by decide +kernel⟩,
  ⟨(State.reset), (1), (1), by decide +kernel⟩,
  ⟨(st [(POS.CTL.EN, 1), (POS.AX_CTL.EN 1, 1), (POS.AX_CTL.MODE 1, 2)]), (1), (1), by decide +kernel⟩,
  ⟨({ State.reset with axis := [{ ref := some 0 }] }), (0), (0), ((true, (false, false))), by decide +kernel⟩,
  ⟨({ State.reset with axis := [{ ref := some 0 }] }), (0), (0), ((false, (true, false))), by decide +kernel⟩,
  ⟨({ State.reset with axis := [{ ref := some 0 }] }), (0), (0), ((true, (true, false))), by decide +kernel⟩,
  ⟨(st [(POS.CTL.EN, 1), (POS.AX_CTL.EN 1, 1), (POS.RATE_CFG.STOP_TMO 1, 5)]), (1), by decide +kernel⟩,
  ⟨(st [(POS.CTL.EN, 1), (POS.AX_CTL.EN 1, 1), (POS.AX_CTL.WIRE_EN 1, 1)]), (1), (1), by decide +kernel⟩,
  ⟨({ State.reset with axis := [{ lost := 1 }] }), (0), by decide +kernel⟩,
  ⟨(st [(POS.CTL.EN, 1)]), (1), by decide +kernel⟩,
  ⟨(st [(POS.AX_CTL.MODE 1, 5)]), (1), (1), by decide +kernel⟩,
  ⟨(st [(POS.CTL.EN, 1), (POS.AX_CTL.EN 1, 1)]), (1), by decide +kernel⟩,
  ⟨(st [(POS.CTL.EN, 1), (POS.AX_CTL.EN 1, 1), (FIRE.CFG.AXIS, 1)]), (1), by decide +kernel⟩,
  ⟨(st [(POS.TIDE_CFG.EN, 1), (POS.AX_STATUS.VALID 0, 1)]), by decide +kernel⟩,
  ⟨(State.reset), by decide +kernel⟩,
  ⟨(st [(POS.CTL.EN, 1), (POS.AX_CTL.EN 1, 1), (POS.AX_CTL.MODE 1, 2)]), (1), (true), by decide +kernel⟩,
  ⟨(st [(POS.CTL.EN, 1), (POS.AX_CTL.EN 1, 1), (POS.AX_CTL.MODE 1, 2)]), (1), (false), by decide +kernel⟩,
  ⟨({ st [(POS.CTL.EN, 1), (POS.AX_CTL.EN 1, 1), (POS.AX_CTL.MODE 1, 3)] with axis := [{ }, { frame := some 5 }] }), (1), by decide +kernel⟩,
  ⟨({ st [(POS.CTL.EN, 1), (POS.AX_CTL.EN 1, 1), (POS.AX_CTL.MODE 1, 2), (POS.SER_FRAME.LEN_M1 1, 7), (POS.SER_FRAME.POS_W 1, 8)] with axis := [{ }, { frame := some 5 }] }), (1), by decide +kernel⟩,
  ⟨({ st [(POS.CTL.EN, 1), (POS.AX_CTL.EN 1, 1), (POS.AX_CTL.MODE 1, 2), (POS.SER_FRAME.LEN_M1 1, 7), (POS.SER_FRAME.POS_W 1, 8)] with axis := [{ }, { frame := some 5 }] }), (1), (5), (5), by decide +kernel⟩,
  ⟨({ st [(POS.CTL.EN, 1), (POS.AX_CTL.EN 1, 1), (POS.AX_CTL.MODE 1, 2), (POS.SER_FRAME.LEN_M1 1, 7), (POS.SER_FRAME.POS_W 1, 8), (POS.SER_CRC.CRC_W 1, 1)] with axis := [{ }, { frame := some 5 }] }), (1), (1), (5), by decide +kernel⟩,
  ⟨({ st [(POS.CTL.EN, 1), (POS.AX_CTL.EN 1, 1), (POS.AX_CTL.MODE 1, 2), (POS.SER_FRAME.LEN_M1 1, 7), (POS.SER_FRAME.POS_W 1, 8), (POS.SER_FRAME.ERR_EN 1, 1)] with axis := [{ }, { frame := some 5 }] }), (1), (0), (5), by decide +kernel⟩,
  ⟨({ st [(POS.SER_FRAME.POS_W 0, 8), (POS.SER_MAP.MAX_STEP 0, 3)] with axis := [{ uPrev := some 0 }] }), (0), (9), (0), by decide +kernel⟩⟩

/-- What HeadCare assumes, clause by clause, holds somewhere. -/
theorem witness_HeadCare :
  (∃ (s : State) (h : Nat),
    s.headOn h = true ∧
    s.flag (HPT.PSTATUS.READY h) = true) ∧
  (∃ (s : State) (h : Nat),
    s.flag (HPT.PSTATUS.READY h) = false) ∧
  (∃ (s : State) (h : Nat),
    s.loopRuns h = false) ∧
  (∃ (s : State) (h : Nat) (t0 : Int),
    (s.nhh h).runT = some t0 ∧
    s.headOn h = true ∧
    s.loopRuns h = true ∧
    s.headTemp h - t0 < s.get (NH.RISE_CFG.RISE_MIN h)) ∧
  (∃ (s : State) (h : Nat),
    s.headOn h = true ∧
    s.flag (HPT.PSTATUS.READY h) = true ∧
    (s.nhh h).hiZ = false) ∧
  (∃ (s : State) (v : Word),
    inSram (s.mapAddr (fieldOf v 0 16)) 4 = true ∧
    fieldOf v 30 1 = 1) ∧
  (∃ (s : State) (v : Word),
    inSram (s.mapAddr (fieldOf v 0 16)) 4 = true ∧
    fieldOf v 30 1 = 0 ∧
    fieldOf v 31 1 = 0) ∧
  (∃ (s : State) (v : Word),
    inSram (s.mapAddr (fieldOf v 0 16)) 4 = true ∧
    fieldOf v 30 1 = 0 ∧
    fieldOf v 31 1 = 1) ∧
  (∃ (s : State) (h : Nat),
    s.headOn h = true) ∧
  (∃ (s : State),
    s.flag NH.CTL.AUTO_PUB = true ∧
    s.get NH.PUB_CFG.PUB_TMO ≠ 0 ∧
    s.get NH.CHG_CNT.COUNT ≠ 0) ∧
  (∃ (s : State),
    s.flag NH.STATUS.PUB_BUSY = false ∧
    (s.nh.pubWait = true ∨ s.chgReached = true) ∧
    s.flag NH.CTL.EN = true ∧
    s.get ⟨SYS.TBL_SWAP, 0, 1⟩ = 0) ∧
  (∃ (s : State),
    s.flag NH.STATUS.PUB_BUSY = true) ∧
  (∃ (s : State),
    s.flag NH.CTL.EN = false ∧
    s.nhFault = none) ∧
  (∃ (s : State) (c : Nat),
    s.flag NH.CTL.EN = false ∧
    s.nhFault = some c) ∧
  (∃ (s : State) (h : Nat),
    h < 16 ∧
    s.flag (NH.HCTL.SENSE_EN h) = false ∧
    s.senseFault h = none) ∧
  (∃ (s : State) (h : Nat) (c : Nat),
    h < 16 ∧
    s.flag (NH.HCTL.SENSE_EN h) = false ∧
    s.senseFault h = some c) :=
  ⟨⟨(st [(HPT.PSTATUS.READY 0, 1)]), (0), by decide +kernel⟩,
  ⟨(State.reset), (0), by decide +kernel⟩,
  ⟨(State.reset), (0), by decide +kernel⟩,
  ⟨({ st [(NH.HCTL.HEAT_EN 0, 1), (NH.HSTAT.TEMP_VALID 0, 1), (NH.RISE_CFG.RISE_MIN 0, 9)] with nhead := [{ runT := some 0 }] }), (0), (0), by decide +kernel⟩,
  ⟨(st [(HPT.PSTATUS.READY 0, 1)]), (0), by decide +kernel⟩,
  ⟨((st []).wr NH.MAP_BASE 0x10000000#32), (0x40000003#32), by decide +kernel⟩,
  ⟨((st []).wr NH.MAP_BASE 0x10000000#32), (0x05000003#32), by decide +kernel⟩,
  ⟨((st []).wr NH.MAP_BASE 0x10000000#32), (0x80000003#32), by decide +kernel⟩,
  ⟨(State.reset), (0), by decide +kernel⟩,
  ⟨(st [(NH.CTL.AUTO_PUB, 1), (NH.PUB_CFG.PUB_TMO, 1), (NH.CHG_CNT.COUNT, 1)]), by decide +kernel⟩,
  ⟨({ st [(NH.CTL.EN, 1)] with nh := { pubWait := true } }), by decide +kernel⟩,
  ⟨(st [(NH.STATUS.PUB_BUSY, 1)]), by decide +kernel⟩,
  ⟨(((st []).wr NH.MAP_BASE 0x10000000#32).wr NH.BASE_BASE 0x10040000#32), by decide +kernel⟩,
  ⟨(State.reset), (1), by decide +kernel⟩,
  ⟨(st [(NH.HCTL.NNOZ 0, 8), (NH.HCTL.SCAN_STEP 0, 3)]), (0), by decide +kernel⟩,
  ⟨(st [(NH.HCTL.NNOZ 0, 8), (NH.HCTL.SCAN_STEP 0, 4)]), (0), (4), by decide +kernel⟩⟩

/-- What NozzleResults assumes, clause by clause, holds somewhere. -/
theorem witness_NozzleResults :
  (∃ (s : State) (h : Nat) (k : Samples) (rest : List Samples),
    (s.nhh h).results = k :: rest ∧
    (s.onNhh h (fun n => { n with results := rest })).flag NH.CTL.EN = true) ∧
  (∃ (s : State) (h : Nat),
    (s.nhh h).results = []) ∧
  (∃ (s : State) (h : Nat) (k : Samples) (rest : List Samples),
    (s.nhh h).results = k :: rest ∧
    (s.onNhh h (fun n => { n with results := rest })).flag NH.CTL.EN = false) ∧
  (∃ (s : State) (k : Samples),
    (analyse k.vfb).m < 8) ∧
  (∃ (c : SenseCfg) (f : Residual),
    f.amp < c.absDead) ∧
  (∃ (c : SenseCfg) (f : Residual) (ampB : Nat) (perB : Nat),
    c.absDead ≤ f.amp ∧
    (ampB = 0 ∨ perB = 0)) ∧
  (∃ (c : SenseCfg) (f : Residual) (d : Nat) (ampB : Nat) (perB : Nat),
    c.absDead ≤ f.amp ∧
    ampB ≠ 0 ∧
    perB ≠ 0 ∧
    fieldOf c.cls 16 8 ≤ c.ampRatio f d ampB ∧
    f.per = 0) ∧
  (∃ (w : Word) (r : Nat),
    r = recClass w) ∧
  (∃ (w : Word) (r : Nat),
    r ≠ recClass w ∧
    r = recPend w) ∧
  (∃ (w : Word) (r : Nat),
    r ≠ recClass w ∧
    r ≠ recPend w) :=
  ⟨⟨({ st [(NH.CTL.EN, 1)] with nhead := [{ results := [{ }] }] }), (0), ({ }), ([]), by decide +kernel⟩,
  ⟨(State.reset), (0), by decide +kernel⟩,
  ⟨({ State.reset with nhead := [{ results := [{ }] }] }), (0), ({ }), ([]), by decide +kernel⟩,
  ⟨(State.reset), ({ }), by decide +kernel⟩,
  ⟨({ cls2 := 0x90000#32 }), (⟨0, 0, 0, 0⟩), by decide +kernel⟩,
  ⟨({ cls2 := 0x90000#32 }), (⟨10, 0, 0, 0⟩), (0), (0), by decide +kernel⟩,
  ⟨({ cls2 := 0x90000#32 }), (⟨100, 0, 0, 0⟩), (0), (100), (5), by decide +kernel⟩,
  ⟨(0#32), (0), by decide +kernel⟩,
  ⟨(0x60#32), (3), by decide +kernel⟩,
  ⟨(0x60#32), (2), by decide +kernel⟩⟩

/-- What CalibrationRuns assumes, clause by clause, holds somewhere. -/
theorem witness_CalibrationRuns :
  (∃ (s : State) (e : Nat),
    s.elemOk e = true) ∧
  (∃ (s : State) (e : Nat),
    s.elemOk e = false) ∧
  (∃ (s : State) (e : Nat),
    s.cal.meas = none ∧
    s.nextElem = some e ∧
    e < 48) ∧
  (∃ (s : State),
    s.cal.meas = none ∧
    s.nextElem = none) ∧
  (∃ (s : State) (e : Nat),
    s.cal.meas = none ∧
    s.nextElem = some e ∧
    32 ≤ e ∧
    e < 48 ∧
    (s.beginElem e).chReady e = true ∧
    (s.beginElem e).headInJob (headOf e) = false) ∧
  (∃ (s : State) (e : Nat),
    s.cal.meas = none ∧
    s.nextElem = some e ∧
    e < 48 ∧
    (s.beginElem e).chReady e = false) ∧
  (∃ (s : State) (r : MeasRun),
    s.cal.meas = some r ∧
    r.elem < 32 ∧
    r.holds = false ∧
    s.flag (WFE.HEAD_STAT.SETTLED (headOf r.elem)) = true) ∧
  (∃ (s : State) (e : Nat),
    s.nextElem = some e ∧
    48 ≤ e ∧
    e < 64) ∧
  (∃ (s : State) (e : Nat),
    s.nextElem = some e ∧
    64 ≤ e ∧
    s.axOn (e - 64) = true ∧
    s.axMode (e - 64) = 0) ∧
  (∃ (s : State) (e : Nat),
    s.nextElem = some e ∧
    64 ≤ e ∧
    (s.axOn (e - 64) = false ∨ s.axMode (e - 64) ≠ 0)) ∧
  (∃ (s : State) (r : MeasRun),
    s.cal.meas = some r ∧
    64 ≤ r.elem ∧
    r.edges.length < s.encNeed) ∧
  (∃ (s : State) (h : Nat),
    s.headOn h = true ∧
    s.flag CAL.CTL.EN = true ∧
    s.flag (pendFld (80 + h)) = true ∧
    s.cal.retry.contains (80 + h) = false ∧
    s.runsNow (80 + h) = false ∧
    s.flag NH.CTL.EN = true ∧
    s.flag NH.CTL.SENSE_EN = true ∧
    s.flag (NH.HCTL.SENSE_EN h) = true) ∧
  (∃ (s : State) (h : Nat),
    s.headOn h = true ∧
    s.flag CAL.CTL.EN = true ∧
    s.flag (pendFld (80 + h)) = true ∧
    s.cal.retry.contains (80 + h) = false ∧
    s.runsNow (80 + h) = false ∧
    (s.flag NH.CTL.EN = false ∨ s.flag NH.CTL.SENSE_EN = false ∨ s.flag (NH.HCTL.SENSE_EN h) = false)) ∧
  (∃ (s : State),
    s.flag CAL.CTL.EN = true ∧
    (List.range 16).filter (fun h => s.headOn h && s.flag (pendFld (96 + h)) && !s.cal.retry.contains (96 + h)) ≠ [] ∧
    s.flag CAL.CTL.RAIL_OWN = true ∧
    s.get ⟨SYS.TBL_SWAP, 2, 1⟩ = 0 ∧
    s.flag CAL.REC_STAT.BUSY = false) ∧
  (∃ (s : State),
    s.flag CAL.CTL.EN = true ∧
    s.flag CAL.CTL.RAIL_OWN = false ∧
    (List.range 16).filter (fun h => s.headOn h && s.flag (pendFld (96 + h)) && !s.cal.retry.contains (96 + h)) ≠ []) ∧
  (∃ (s : State),
    (List.range 16).filter (fun h => s.headOn h && s.flag (pendFld (96 + h)) && !s.cal.retry.contains (96 + h)) = []) ∧
  (∃ (s : State) (e : Nat) (r : MeasRun),
    48 ≤ e ∧
    e < 64 ∧
    s.cal.meas = some r ∧
    r.elem = e ∧
    s.flag CAL.REC_STAT.BUSY = false) ∧
  (∃ (s : State) (e : Nat) (r : MeasRun),
    e < 48 ∧
    s.cal.meas = some r ∧
    r.elem = e ∧
    r.holds = true ∧
    s.flag CAL.REC_STAT.BUSY = false) ∧
  (∃ (s : State) (e : Nat) (b : BaseRun),
    80 ≤ e ∧
    s.cal.base.find? (fun b => 80 + b.head == e) = some b ∧
    s.baseOver b = true ∧
    s.flag CAL.REC_STAT.BUSY = false) ∧
  (∃ (s : State) (e : Nat) (r : MeasRun),
    64 ≤ e ∧
    e < 80 ∧
    s.cal.meas = some r ∧
    r.elem = e ∧
    s.encNeed ≤ r.edges.length ∧
    s.flag CAL.REC_STAT.BUSY = false) ∧
  (∃ (s : State),
    s.flag CAL.REC_STAT.BUSY = true) ∧
  (∃ (s : State),
    s.cal.meas = none) :=
  ⟨⟨(State.reset), (3), by decide +kernel⟩,
  ⟨(State.reset), (70), by decide +kernel⟩,
  ⟨(st [(CAL.CTL.EN, 1), (⟨CAL.PEND 1, 1, 1⟩, 1)]), (33), by decide +kernel⟩,
  ⟨(State.reset), by decide +kernel⟩,
  ⟨(st [(CAL.CTL.EN, 1), (⟨CAL.PEND 1, 1, 1⟩, 1), (WFE.CH_STATUS.READY 33, 1)]), (33), by decide +kernel⟩,
  ⟨(st [(CAL.CTL.EN, 1), (⟨CAL.PEND 0, 3, 1⟩, 1)]), (3), by decide +kernel⟩,
  ⟨({ st [(CAL.CTL.EN, 1), (WFE.HEAD_STAT.SETTLED 1, 1)] with cal := { meas := some { elem := 3 } } }), ({ elem := 3 }), by decide +kernel⟩,
  ⟨(st [(CAL.CTL.EN, 1), (⟨CAL.PEND 1, 17, 1⟩, 1)]), (49), by decide +kernel⟩,
  ⟨(st [(CAL.CTL.EN, 1), (⟨CAL.PEND 2, 1, 1⟩, 1), (POS.CTL.EN, 1), (POS.AX_CTL.EN 1, 1)]), (65), by decide +kernel⟩,
  ⟨(st [(CAL.CTL.EN, 1), (⟨CAL.PEND 2, 1, 1⟩, 1)]), (65), by decide +kernel⟩,
  ⟨({ st [(CAL.CTL.EN, 1)] with cal := { meas := some { elem := 65 } } }), ({ elem := 65 }), by decide +kernel⟩,
  ⟨(st [(CAL.CTL.EN, 1), (⟨CAL.PEND 2, 17, 1⟩, 1), (NH.CTL.EN, 1), (NH.CTL.SENSE_EN, 1), (NH.HCTL.SENSE_EN 1, 1)]), (1), by decide +kernel⟩,
  ⟨(st [(CAL.CTL.EN, 1), (⟨CAL.PEND 2, 17, 1⟩, 1)]), (1), by decide +kernel⟩,
  ⟨(st [(CAL.CTL.EN, 1), (⟨CAL.PEND 3, 1, 1⟩, 1), (CAL.CTL.RAIL_OWN, 1)]), by decide +kernel⟩,
  ⟨(st [(CAL.CTL.EN, 1), (⟨CAL.PEND 3, 1, 1⟩, 1)]), by decide +kernel⟩,
  ⟨(State.reset), by decide +kernel⟩,
  ⟨({ st [(CAL.CTL.EN, 1)] with cal := { meas := some { elem := 49 } } }), (49), ({ elem := 49 }), by decide +kernel⟩,
  ⟨({ st [(CAL.CTL.EN, 1)] with cal := { meas := some { elem := 3, holds := true } } }), (3), ({ elem := 3, holds := true }), by decide +kernel⟩,
  ⟨({ st [(CAL.CTL.EN, 1), (NH.HCTL.NNOZ 1, 0)] with cal := { base := [{ head := 1 }] } }), (81), ({ head := 1 }), by decide +kernel⟩,
  ⟨({ st [(CAL.CTL.EN, 1), (CAL.ENC_CFG.ENC_WIN, 0)] with cal := { meas := some { elem := 65, edges := List.replicate 4 (0, 0) } } }), (65), ({ elem := 65, edges := List.replicate 4 (0, 0) }), by decide +kernel⟩,
  ⟨(st [(CAL.REC_STAT.BUSY, 1)]), by decide +kernel⟩,
  ⟨(State.reset), by decide +kernel⟩⟩

/-- What LiveTables assumes, clause by clause, holds somewhere. -/
theorem witness_LiveTables :
  (∃ (s : State),
    s.cal.rebuild = true ∧
    s.get ⟨SYS.TBL_SWAP, 3, 1⟩ = 0) ∧
  (∃ (s : State),
    s.cal.rebuild = false) ∧
  (∃ (s : State),
    s.flag CAL.REC_STAT.BUSY = false) ∧
  (∃ (s : State),
    s.flag CAL.REC_STAT.BUSY = true) ∧
  (∃ (s : State) (w : List Word),
    (wf w 0 16 16 ≠ 0x4352 ∨ wf w 0 8 8 ≠ 1)) ∧
  (∃ (s : State) (w : List Word) (l : List Byte),
    wf w 0 16 16 = 0x4352 ∧
    wf w 0 8 8 = 1 ∧
    (wordAt w 2).toNat = recordLen (wf w 0 0 1 == 1) (wf w 0 1 1 == 1) ∧
    crc32 (l.take ((wordAt w 2).toNat - 4)) = bytesNat ((l.drop ((wordAt w 2).toNat - 4)).take 4) ∧
    wordAt w 3 = s.rd FAB.IDENT_LO ∧
    wordAt w 4 = s.rd FAB.IDENT_HI ∧
    wordAt w 10 &&& 0xFFFF00FF#32 = s.partWord ∧
    wordAt w 1 ≠ 0#32 ∧
    wordAt w 1 ≠ 0xFFFFFFFF#32 ∧
    s.flag CAL.CTL.EN = true) :=
  ⟨⟨({ State.reset with cal := { rebuild := true } }), by decide +kernel⟩,
  ⟨(State.reset), by decide +kernel⟩,
  ⟨(State.reset), by decide +kernel⟩,
  ⟨(st [(CAL.REC_STAT.BUSY, 1)]), by decide +kernel⟩,
  ⟨(State.reset), ([]), by decide +kernel⟩,
  ⟨(st [(CAL.CTL.EN, 1)]), ([0x43520100#32, 1#32, 26564#32, 0#32, 0#32, 0#32, 0#32, 0#32, 0#32, 0#32, (State.reset).partWord]), ([]), by decide +kernel⟩⟩

/-- What WeirMailbox assumes, clause by clause, holds somewhere. -/
theorem witness_WeirMailbox :
  (∃ (s : State) (c : Nat) (q : WeirReq) (f : Bool),
    s.weirReady c 0x01 f q) ∧
  (∃ (s : State) (c : Nat) (q : WeirReq) (f : Bool),
    s.weirReady c 0x02 f q) ∧
  (∃ (s : State) (c : Nat) (q : WeirReq) (f : Bool) (key : List Byte),
    s.weirReady c 0x03 f q ∧
    s.keyRec = some key) ∧
  (∃ (s : State) (c : Nat) (q : WeirReq) (f : Bool),
    s.weirReady c 0x03 f q ∧
    s.keyRec = none) ∧
  (∃ (s : State) (c : Nat) (q : WeirReq) (e : WeirEvent),
    s.weirReady c 0x04 true q ∧
    s.weir.cistern.events.find? (fun e => e.cnt == wf q.words 1 0 11) = some e) ∧
  (∃ (s : State) (c : Nat) (q : WeirReq) (b : List Word),
    s.weirReady c 0x05 true q ∧
    s.weir.block = some b) ∧
  (∃ (s : State) (c : Nat) (q : WeirReq),
    s.weirReady c 0x10 false q ∧
    1 ≤ (wordAt q.words 1).toNat ∧
    (wordAt q.words 1).toNat ≤ 61440) ∧
  (∃ (s : State) (c : Nat) (q : WeirReq) (l : WeirLoad),
    s.weirReady c 0x11 false q ∧
    s.weir.load = some l ∧
    (wordAt q.words 1).toNat = l.bytes.length ∧
    (l.bytes ++ wordsBytes (q.words.drop 2)).length ≤ (l.len + 3) / 4 * 4) ∧
  (∃ (s : State) (c : Nat) (q : WeirReq) (l : WeirLoad),
    s.weirReady c 0x12 false q ∧
    s.weir.load = some l ∧
    l.len ≤ l.bytes.length ∧
    s.weir.restricted = false ∧
    s.fwDigest = some (sha256 (l.bytes.take l.len))) ∧
  (∃ (s : State) (c : Nat) (q : WeirReq),
    s.weirReady c 0x12 false q ∧
    s.weir.restricted = true) ∧
  (∃ (s : State) (c : Nat) (q : WeirReq),
    s.weirReady c 0x20 true q ∧
    s.weir.cistern.locked = false) ∧
  (∃ (s : State) (c : Nat) (q : WeirReq),
    s.weirReady c 0x20 true q ∧
    s.weir.cistern.locked = true) ∧
  (∃ (s : State) (c : Nat) (q : WeirReq) (key : List Byte),
    s.weirReady c 0x21 true q ∧
    s.keyRec = some key ∧
    wf (q.words.drop 1) 0 16 16 = 0x5750 ∧
    wf (q.words.drop 1) 0 8 8 = 1 ∧
    macWords key ((q.words.drop 1).take 40) = (q.words.drop 1).drop 40 ∧
    [wordAt (q.words.drop 1) 2, wordAt (q.words.drop 1) 3] = s.weirIdent ∧
    wf (q.words.drop 1) 1 0 11 = s.logCnt) ∧
  (∃ (s : State) (c : Nat) (q : WeirReq) (burn : List (Nat × Nat)),
    s.weirReady c 0x22 true q ∧
    ((s.taken q).authCheck q.words).2 = 0 ∧
    paramBad ((q.words.drop 1).take 36) = false ∧
    ((((s.taken q).authCheck q.words).1.when ((s.taken q).authCheck q.words).1.weir.block.isSome (·.volUpdate)).logEvent 1 burn (setParamsAct ((q.words.drop 1).take 36))).2 = 0) ∧
  (∃ (s : State) (c : Nat) (q : WeirReq) (burn : List (Nat × Nat)),
    s.weirReady c 0x23 true q ∧
    ((s.taken q).authCheck q.words).2 = 0 ∧
    (((s.taken q).authCheck q.words).1.weir.st = 1 ∨ ((s.taken q).authCheck q.words).1.weir.st = 3) ∧
    (((s.taken q).authCheck q.words).1.logEvent 2 burn (fun u => (u.setWeirState 2).onCistern (fun x => { x with contFlag := false, gapFlag := false }))).2 = 0) ∧
  (∃ (s : State) (c : Nat) (q : WeirReq) (burn : List (Nat × Nat)) (slot : List (Nat × Nat)),
    s.weirReady c 0x24 true q ∧
    ((s.taken q).authCheck q.words).2 = 0 ∧
    ((s.taken q).authCheck q.words).1.nextSlot < 4 ∧
    (((s.taken q).authCheck q.words).1.logEvent 6 burn id).2 = 0 ∧
    ((((s.taken q).authCheck q.words).1.logEvent 6 burn id).1.burnBits ((((s.taken q).authCheck q.words).1.logEvent 6 burn id).1.slotBits ((s.taken q).authCheck q.words).1.nextSlot q.words) slot 0).2.1 = none) ∧
  (∃ (s : State) (c : Nat) (q : WeirReq),
    s.weirReady c 0x22 true q ∧
    ((s.taken q).authCheck q.words).2 ≠ 0) :=
  ⟨⟨({ State.reset with weir := { up := true, fw := true, reqs := [{ chan := 1, words := [0x1050001#32] }] } }), (1), ({ chan := 1, words := [0x1050001#32] }), (true), by decide +kernel⟩,
  ⟨({ State.reset with weir := { up := true, fw := true, reqs := [{ chan := 1, words := [0x2050001#32] }] } }), (1), ({ chan := 1, words := [0x2050001#32] }), (true), by decide +kernel⟩,
  ⟨({ State.reset with weir := { up := true, fw := true, reqs := [{ chan := 1, words := [0x3050005#32, 0#32, 0#32, 0#32, 0#32] }], fuses := [(153, 3#32)] } }), (1), ({ chan := 1, words := [0x3050005#32, 0#32, 0#32, 0#32, 0#32] }), (true), (List.replicate 32 0#8), by decide +kernel⟩,
  ⟨({ State.reset with weir := { up := true, fw := true, reqs := [{ chan := 1, words := [0x3050005#32, 0#32, 0#32, 0#32, 0#32] }] } }), (1), ({ chan := 1, words := [0x3050005#32, 0#32, 0#32, 0#32, 0#32] }), (true), by decide +kernel⟩,
  ⟨({ State.reset with weir := { up := true, fw := true, reqs := [{ chan := 1, words := [0x4050002#32, 0x3#32] }], cistern := { events := [⟨3, [7#32]⟩] } } }), (1), ({ chan := 1, words := [0x4050002#32, 0x3#32] }), (⟨3, [7#32]⟩), by decide +kernel⟩,
  ⟨({ State.reset with weir := { up := true, fw := true, reqs := [{ chan := 1, words := [0x5050001#32] }], block := some [1#32] } }), (1), ({ chan := 1, words := [0x5050001#32] }), ([1#32]), by decide +kernel⟩,
  ⟨({ State.reset with weir := { up := true, reqs := [{ chan := 1, words := [0x10050002#32, 0x8#32] }] } }), (1), ({ chan := 1, words := [0x10050002#32, 0x8#32] }), by decide +kernel⟩,
  ⟨({ State.reset with weir := { up := true, reqs := [{ chan := 1, words := [0x11050003#32, 0#32, 0x1#32] }], load := some { len := 8 } } }), (1), ({ chan := 1, words := [0x11050003#32, 0#32, 0x1#32] }), ({ len := 8 }), by decide +kernel⟩,
  ⟨({ State.reset with weir := { up := true, reqs := [{ chan := 1, words := [0x12050001#32] }], load := some { len := 1, bytes := [0#8] }, fuses := [(102, 0x9C0B346E#32), (103, 0x987AB3FF#32), (104, 0xE644A59C#32), (105, 0x2C0A78BB#32), (106, 0x3F1D9078#32), (107, 0x763837B3#32), (108, 0x6A31185#32), (109, 0x1DA0AF17#32)] } }), (1), ({ chan := 1, words := [0x12050001#32] }), ({ len := 1, bytes := [0#8] }), by decide +kernel⟩,
  ⟨({ State.reset with weir := { up := true, reqs := [{ chan := 1, words := [0x12050001#32] }], restricted := true } }), (1), ({ chan := 1, words := [0x12050001#32] }), by decide +kernel⟩,
  ⟨({ State.reset with weir := { up := true, fw := true, reqs := [{ chan := 1, words := [0x20050001#32] }] } }), (1), ({ chan := 1, words := [0x20050001#32] }), by decide +kernel⟩,
  ⟨({ State.reset with weir := { up := true, fw := true, reqs := [{ chan := 1, words := [0x20050001#32] }], cistern := { locked := true } } }), (1), ({ chan := 1, words := [0x20050001#32] }), by decide +kernel⟩,
  ⟨({ State.reset with weir := { up := true, fw := true, reqs := [{ chan := 1, words := [0x21050031#32, 0x57500100#32, 0#32, 0#32, 0#32, 0#32, 0#32, 0#32, 0#32, 0#32, 0#32, 0#32, 0#32, 0#32, 0#32, 0#32, 0#32, 0#32, 0#32, 0#32, 0#32, 0#32, 0#32, 0#32, 0#32, 0#32, 0#32, 0#32, 0#32, 0#32, 0#32, 0#32, 0#32, 0#32, 0#32, 0#32, 0#32, 0#32, 0#32, 0#32, 0#32, 0xDFE219DB#32, 0x3B2F17EC#32, 0x54BDE9DD#32, 0x9EADB033#32, 0x9249E9B6#32, 0xB3DB6A3A#32, 0xFAB515C0#32, 0xBCE2FD3B#32] }], fuses := [(153, 3#32)] } }), (1), ({ chan := 1, words := [0x21050031#32, 0x57500100#32, 0#32, 0#32, 0#32, 0#32, 0#32, 0#32, 0#32, 0#32, 0#32, 0#32, 0#32, 0#32, 0#32, 0#32, 0#32, 0#32, 0#32, 0#32, 0#32, 0#32, 0#32, 0#32, 0#32, 0#32, 0#32, 0#32, 0#32, 0#32, 0#32, 0#32, 0#32, 0#32, 0#32, 0#32, 0#32, 0#32, 0#32, 0#32, 0#32, 0xDFE219DB#32, 0x3B2F17EC#32, 0x54BDE9DD#32, 0x9EADB033#32, 0x9249E9B6#32, 0xB3DB6A3A#32, 0xFAB515C0#32, 0xBCE2FD3B#32] }), (List.replicate 32 0#8), by decide +kernel⟩,
  ⟨({ State.reset with weir := { up := true, fw := true, reqs := [{ chan := 1, words := [0x2205002D#32, 0#32, 0x1#32, 0#32, 0x10000#32, 0#32, 0#32, 0#32, 0#32, 0#32, 0#32, 0#32, 0#32, 0#32, 0#32, 0#32, 0#32, 0#32, 0#32, 0#32, 0#32, 0#32, 0#32, 0#32, 0#32, 0#32, 0#32, 0#32, 0#32, 0#32, 0#32, 0#32, 0#32, 0#32, 0#32, 0#32, 0#32, 0xEB2C42B#32, 0x8641F7DA#32, 0x875F03B4#32, 0xC8D8699C#32, 0xF3466794#32, 0xA71813A6#32, 0x2DCBC891#32, 0xE6D24808#32] }], fuses := [(153, 3#32)], nonce := some ([0#32, 0#32, 0#32, 0#32], 0) } }), (1), ({ chan := 1, words := [0x2205002D#32, 0#32, 0x1#32, 0#32, 0x10000#32, 0#32, 0#32, 0#32, 0#32, 0#32, 0#32, 0#32, 0#32, 0#32, 0#32, 0#32, 0#32, 0#32, 0#32, 0#32, 0#32, 0#32, 0#32, 0#32, 0#32, 0#32, 0#32, 0#32, 0#32, 0#32, 0#32, 0#32, 0#32, 0#32, 0#32, 0#32, 0#32, 0xEB2C42B#32, 0x8641F7DA#32, 0x875F03B4#32, 0xC8D8699C#32, 0xF3466794#32, 0xA71813A6#32, 0x2DCBC891#32, 0xE6D24808#32] }), ([]), by decide +kernel⟩,
  ⟨({ State.reset with weir := { up := true, fw := true, reqs := [{ chan := 1, words := [0x23050009#32, 0xEA26F78E#32, 0xB5731EA4#32, 0x87E6AA9#32, 0xF57ADC3F#32, 0xC7F24DE1#32, 0x2E371A95#32, 0x67D9C02E#32, 0xBB417915#32] }], fuses := [(153, 3#32)], nonce := some ([0#32, 0#32, 0#32, 0#32], 0), st := 1 } }), (1), ({ chan := 1, words := [0x23050009#32, 0xEA26F78E#32, 0xB5731EA4#32, 0x87E6AA9#32, 0xF57ADC3F#32, 0xC7F24DE1#32, 0x2E371A95#32, 0x67D9C02E#32, 0xBB417915#32] }), ([]), by decide +kernel⟩,
  ⟨({ State.reset with weir := { up := true, fw := true, reqs := [{ chan := 1, words := [0x24050011#32, 0x1#32, 0#32, 0#32, 0#32, 0#32, 0#32, 0#32, 0#32, 0xA293C509#32, 0x9D0040BA#32, 0x370D05F1#32, 0xC9497AB4#32, 0x4B5E25E6#32, 0x57F7545E#32, 0x2253A865#32, 0x366EB42E#32] }], fuses := [(153, 3#32)], nonce := some ([0#32, 0#32, 0#32, 0#32], 0) } }), (1), ({ chan := 1, words := [0x24050011#32, 0x1#32, 0#32, 0#32, 0#32, 0#32, 0#32, 0#32, 0#32, 0xA293C509#32, 0x9D0040BA#32, 0x370D05F1#32, 0xC9497AB4#32, 0x4B5E25E6#32, 0x57F7545E#32, 0x2253A865#32, 0x366EB42E#32] }), ([]), ([]), by decide +kernel⟩,
  ⟨({ State.reset with weir := { up := true, fw := true, reqs := [{ chan := 1, words := [0x2205002D#32, 0#32, 0x1#32, 0#32, 0x10000#32, 0#32, 0#32, 0#32, 0#32, 0#32, 0#32, 0#32, 0#32, 0#32, 0#32, 0#32, 0#32, 0#32, 0#32, 0#32, 0#32, 0#32, 0#32, 0#32, 0#32, 0#32, 0#32, 0#32, 0#32, 0#32, 0#32, 0#32, 0#32, 0#32, 0#32, 0#32, 0#32, 0#32, 0#32, 0#32, 0#32, 0#32, 0#32, 0#32, 0#32] }], fuses := [(153, 3#32)], nonce := some ([0#32, 0#32, 0#32, 0#32], 0) } }), (1), ({ chan := 1, words := [0x2205002D#32, 0#32, 0x1#32, 0#32, 0x10000#32, 0#32, 0#32, 0#32, 0#32, 0#32, 0#32, 0#32, 0#32, 0#32, 0#32, 0#32, 0#32, 0#32, 0#32, 0#32, 0#32, 0#32, 0#32, 0#32, 0#32, 0#32, 0#32, 0#32, 0#32, 0#32, 0#32, 0#32, 0#32, 0#32, 0#32, 0#32, 0#32, 0#32, 0#32, 0#32, 0#32, 0#32, 0#32, 0#32, 0#32] }), by decide +kernel⟩⟩

/-- What WeirCounts assumes, clause by clause, holds somewhere. -/
theorem witness_WeirCounts :
  (∃ (s : State),
    s.weir.up = false) ∧
  (∃ (s : State),
    s.weir.up = true) ∧
  (∃ (s : State),
    s.weir.vdd = false) ∧
  (∃ (s : State),
    s.weir.vdd = true) ∧
  (∃ (s : State),
    s.weir.cistern.locked = true) ∧
  (∃ (s : State) (mask : Nat),
    (s.weir.vdd = false ∨ s.weir.up = false ∨ mask % 8 = 0)) ∧
  (∃ (s : State),
    s.weir.vdd = false) ∧
  (∃ (s : State) (flip : Nat) (x : Prod Word Word) (r : List (Prod Word Word)) (a : Nat) (b : Nat),
    s.weir.vdd = true ∧
    s.weir.up = true ∧
    s.tap = x :: r ∧
    a = x.1.toNat ^^^ flip % 2 ^ 32 ∧
    b = x.2.toNat ^^^ (flip / 2 ^ 32 % 2 ^ 32) ∧
    (parity64 (a + 2 ^ 32 * b) = 1 ∨ s.headOn (fieldOf (w32 a) 28 4) = false)) ∧
  (∃ (s : State) (flip : Nat) (x : Prod Word Word) (r : List (Prod Word Word)) (a : Nat) (b : Nat),
    s.weir.vdd = true ∧
    s.weir.up = true ∧
    s.tap = x :: r ∧
    a = x.1.toNat ^^^ flip % 2 ^ 32 ∧
    b = x.2.toNat ^^^ (flip / 2 ^ 32 % 2 ^ 32) ∧
    parity64 (a + 2 ^ 32 * b) = 0 ∧
    s.headOn (fieldOf (w32 a) 28 4) = true ∧
    s.weirValid = true) ∧
  (∃ (s : State),
    s.weir.vdd = true ∧
    s.weir.up = true ∧
    s.weir.fw = true ∧
    s.weir.block.isSome = true) ∧
  (∃ (s : State) (mask : Nat),
    s.weir.vdd = true ∧
    s.weir.up = true ∧
    mask % 8 ≠ 0) ∧
  (∃ (s : State),
    s.weir.vdd = true ∧
    s.weir.up = true) ∧
  (∃ (s : State),
    s.weir.vdd = true ∧
    s.weir.up = true ∧
    s.weir.wxLost ≠ 0) ∧
  (∃ (s : State) (l : Nat),
    s.weir.vdd = true ∧
    s.weir.up = true ∧
    s.weir.wxLost = 0 ∧
    (s.wxPhase l + 4 - s.wxPhase s.weir.wx) % 4 = (if fieldOf (s.param 4) 31 1 = 0 then 1 else 3)) ∧
  (∃ (s : State) (l : Nat),
    s.weir.vdd = true ∧
    s.weir.up = true ∧
    s.weir.wxLost = 0 ∧
    (s.wxPhase l + 4 - s.wxPhase s.weir.wx) % 4 = (if fieldOf (s.param 4) 31 1 = 0 then 3 else 1)) ∧
  (∃ (s : State) (l : Nat),
    s.weir.vdd = true ∧
    s.weir.up = true ∧
    s.weir.wxLost = 0 ∧
    (s.wxPhase l + 4 - s.wxPhase s.weir.wx) % 4 = 2) ∧
  (∃ (s : State) (l : Nat),
    s.weir.vdd = true ∧
    s.weir.up = true ∧
    s.weir.wxLost = 0 ∧
    (s.wxPhase l + 4 - s.wxPhase s.weir.wx) % 4 = 0) ∧
  (∃ (s : State),
    s.weirValid = true ∧
    s.weir.whw ≤ s.weir.wxPos) ∧
  (∃ (s : State),
    s.latchDue = false) ∧
  (∃ (s : State),
    s.latchDue = true ∧
    s.weir.cistern.contLost = true) ∧
  (∃ (s : State),
    s.latchDue = true ∧
    s.weir.cistern.contLost = false ∧
    s.weir.cistern.tapGap = true) ∧
  (∃ (s : State),
    s.latchDue = true ∧
    s.weir.cistern.contLost = false ∧
    s.weir.cistern.tapGap = false ∧
    s.weir.st = 2) ∧
  (∃ (s : State),
    s.latchDue = true ∧
    s.weir.cistern.contLost = false ∧
    s.weir.cistern.tapGap = false ∧
    s.weir.st ≠ 2) :=
  ⟨⟨(State.reset), by decide +kernel⟩,
  ⟨({ State.reset with weir := { up := true, fw := true } }), by decide +kernel⟩,
  ⟨({ State.reset with weir := { vdd := false } }), by decide +kernel⟩,
  ⟨(State.reset), by decide +kernel⟩,
  ⟨({ State.reset with weir := { up := true, fw := true, cistern := { locked := true } } }), by decide +kernel⟩,
  ⟨(State.reset), (0), by decide +kernel⟩,
  ⟨({ State.reset with weir := { vdd := false } }), by decide +kernel⟩,
  ⟨({ State.reset with weir := { up := true }, tap := [(3#32, 0#32)] }), (1), ((3#32, 0#32)), ([]), (2), (0), by decide +kernel⟩,
  ⟨({ State.reset with weir := { up := true, fw := true, st := 2, block := some [] }, tap := [(3#32, 0#32)] }), (0), ((3#32, 0#32)), ([]), (3), (0), by decide +kernel⟩,
  ⟨({ State.reset with weir := { up := true, fw := true, block := some [] } }), by decide +kernel⟩,
  ⟨({ State.reset with weir := { up := true, fw := true } }), (2), by decide +kernel⟩,
  ⟨({ State.reset with weir := { up := true, fw := true } }), by decide +kernel⟩,
  ⟨({ State.reset with weir := { up := true, fw := true, wxLost := 1 } }), by decide +kernel⟩,
  ⟨({ State.reset with weir := { up := true, fw := true, block := some [] } }), (1), by decide +kernel⟩,
  ⟨({ State.reset with weir := { up := true, fw := true, block := some [] } }), (2), by decide +kernel⟩,
  ⟨({ State.reset with weir := { up := true, fw := true, block := some [] } }), (3), by decide +kernel⟩,
  ⟨({ State.reset with weir := { up := true, fw := true, block := some [] } }), (4), by decide +kernel⟩,
  ⟨({ State.reset with weir := { up := true, fw := true, st := 2, block := some [] } }), by decide +kernel⟩,
  ⟨(State.reset), by decide +kernel⟩,
  ⟨({ State.reset with weir := { up := true, fw := true, st := 1, cistern := { contLost := true } } }), by decide +kernel⟩,
  ⟨({ State.reset with weir := { up := true, fw := true, st := 1, cistern := { tapGap := true } } }), by decide +kernel⟩,
  ⟨({ State.reset with weir := { up := true, fw := true, st := 2, cistern := { breach := true } } }), by decide +kernel⟩,
  ⟨({ State.reset with weir := { up := true, fw := true, st := 1, cistern := { breach := true } } }), by decide +kernel⟩⟩

/-- What FabricArrival assumes, clause by clause, holds somewhere. -/
theorem witness_FabricArrival :
  (∃ (s : State) (p : Nat),
    p ≠ 4 ∧
    s.portUp p = false) ∧
  (∃ (s : State) (p : Nat),
    p ≠ 4 ∧
    s.portUp p = true) ∧
  (∃ (s : State) (p : Nat) (k : Packet),
    p ≠ 4 ∧
    s.portUp p = true ∧
    k.vc = 3 ∧
    badHeader k = false) ∧
  (∃ (s : State) (p : Nat) (k : Packet),
    p ≠ 4 ∧
    s.portUp p = true ∧
    k.vc ≠ 3 ∧
    k.lseq ≠ (s.port p).rxSeq) ∧
  (∃ (s : State) (p : Nat) (k : Packet),
    p ≠ 4 ∧
    s.portUp p = true ∧
    k.vc ≠ 3 ∧
    k.lseq = (s.port p).rxSeq ∧
    (((s.bump (wordFld (FAB.RX_WORDS p)) k.size).takeSeq p).port p).roomFor k.cls = true ∧
    badHeader k = false) ∧
  (∃ (s : State) (p : Nat) (k : Packet),
    p ≠ 4 ∧
    s.portUp p = true ∧
    k.vc ≠ 3 ∧
    k.lseq = (s.port p).rxSeq ∧
    (((s.bump (wordFld (FAB.RX_WORDS p)) k.size).takeSeq p).port p).roomFor k.cls = true ∧
    badHeader k = true) ∧
  (∃ (s : State) (p : Nat) (crc : Word) (k : Packet) (b : Nat),
    (s.receive p (k.crcGood crc) k).2 = some b ∧
    k.isType 2 1 = true ∧
    p ≠ 4 ∧
    k.dst ≠ (s.receive p (k.crcGood crc) k).1.nodeId ∧
    k.dst ≠ s.nodeId) ∧
  (∃ (s : State) (p : Nat) (b : Nat) (vc : Nat) (typ : Nat) (good : Bool) (k : Packet),
    (s.receive p good k).2 = some b ∧
    k.isType vc typ = true) ∧
  (∃ (s : State) (p : Nat) (good : Bool) (k : Packet),
    (s.receive p good k).2 = none) :=
  ⟨⟨(State.reset), (0), by decide +kernel⟩,
  ⟨(st [(FAB.CTL.EN, 1), (FAB.PORT_CTL.EN 0, 1), (FAB.PORT_STAT.STATE 0, 4)]), (0), by decide +kernel⟩,
  ⟨(st [(FAB.CTL.EN, 1), (FAB.PORT_CTL.EN 0, 1), (FAB.PORT_STAT.STATE 0, 4)]), (0), (mkLink 4 0#32), by decide +kernel⟩,
  ⟨(st [(FAB.CTL.EN, 1), (FAB.PORT_CTL.EN 0, 1), (FAB.PORT_STAT.STATE 0, 4)]), (0), (mkPacket 0 1 1#32 [] |> fun k => { k with h0 := withField k.h0 16 8 7 }), by decide +kernel⟩,
  ⟨(st [(FAB.CTL.EN, 1), (FAB.PORT_CTL.EN 0, 1), (FAB.PORT_STAT.STATE 0, 4)]), (0), (mkPacket 0 1 1#32 []), by decide +kernel⟩,
  ⟨(st [(FAB.CTL.EN, 1), (FAB.PORT_CTL.EN 0, 1), (FAB.PORT_STAT.STATE 0, 4)]), (0), (mkPacket 0 7 1#32 []), by decide +kernel⟩,
  ⟨(st [(FAB.CTL.EN, 1), (FAB.PORT_CTL.EN 0, 1), (FAB.PORT_STAT.STATE 0, 4)]), (0), ((mkPacket 2 1 (mkH1 3 0 0 false) [0#32]).crcWord), (mkPacket 2 1 (mkH1 3 0 0 false) [0#32]), (1), by decide +kernel⟩,
  ⟨(st [(FAB.CTL.EN, 1), (FAB.PORT_CTL.EN 0, 1), (FAB.PORT_STAT.STATE 0, 4)]), (0), (1), (0), (1), (true), (mkPacket 0 1 1#32 []), by decide +kernel⟩,
  ⟨(State.reset), (0), (true), (mkPacket 0 1 1#32 []), by decide +kernel⟩⟩

/-- What FabricLinks assumes, clause by clause, holds somewhere. -/
theorem witness_FabricLinks :
  (∃ (s : State) (p : Nat) (rate16 : Bool) (width2 : Bool),
    s.trains p = true ∧
    s.inTraining p = true ∧
    rate16 = s.trainsAt16 p ∧
    (width2 = true ∨ s.flag (FAB.PORT_CTL.ALLOW_X1 p) = true)) ∧
  (∃ (s : State) (p : Nat) (rate16 : Bool) (width2 : Bool),
    (rate16 ≠ s.trainsAt16 p ∨ (width2 = false ∧ s.flag (FAB.PORT_CTL.ALLOW_X1 p) = false))) ∧
  (∃ (s : State) (p : Nat),
    s.trains p = true) ∧
  (∃ (s : State) (p : Nat),
    s.portUp p = true) ∧
  (∃ (s : State) (p : Nat),
    s.portUp p = false) ∧
  (∃ (s : State) (p : Nat),
    s.portUp p = true ∧
    (s.port p).replay ≠ [] ∧
    (s.port p).replays < 4) ∧
  (∃ (s : State) (p : Nat),
    s.portUp p = true ∧
    (s.port p).replay ≠ [] ∧
    4 ≤ (s.port p).replays) ∧
  (∃ (s : State) (p : Nat) (crc : Word) (k : Packet),
    (s.receive p (k.crcGood crc) k).2.isSome = true ∧
    k.isType 3 2 = true) ∧
  (∃ (s : State) (p : Nat) (crc : Word) (k : Packet),
    (s.receive p (k.crcGood crc) k).2.isSome = true ∧
    k.isType 3 3 = true) ∧
  (∃ (s : State) (p : Nat) (crc : Word) (k : Packet),
    (s.receive p (k.crcGood crc) k).2.isSome = true ∧
    k.isType 3 1 = true) ∧
  (∃ (s : State) (p : Nat) (crc : Word) (k : Packet),
    (s.receive p (k.crcGood crc) k).2.isSome = true ∧
    k.isType 3 4 = true) ∧
  (∃ (s : State) (p : Nat) (crc : Word) (k : Packet),
    (s.receive p (k.crcGood crc) k).2.isSome = true ∧
    k.isType 3 5 = true) ∧
  (∃ (s : State) (p : Nat) (crc : Word) (k : Packet) (t1 : Nat),
    (s.receive p (k.crcGood crc) k).2.isSome = true ∧
    k.isType 3 6 = true ∧
    ((s.receive p (k.crcGood crc) k).1.port p).dlyT1 = some t1) ∧
  (∃ (s : State) (p : Nat),
    s.portUp p = true ∧
    (s.port p).unacked ≠ 0) ∧
  (∃ (s : State) (p : Nat),
    s.portUp p = true) ∧
  (∃ (s : State) (d : Nat),
    d < 64 ∧
    s.flag (FAB.ROUTE.ON_ALT d) = true ∧
    s.portUp (s.get (FAB.ROUTE.PRI d)) = true) ∧
  (∃ (s : State),
    s.flag FAB.TIME_STAT.ON_ALT = true ∧
    s.portUp (s.get FAB.TIME_CFG.PARENT) = true) ∧
  (∃ (s : State) (p : Nat) (crc : Word) (k : Packet) (b : Nat),
    (s.receive p (k.crcGood crc) k).2 = some b ∧
    k.isType 1 1 = true) ∧
  (∃ (s : State) (o : Int),
    102400 < o.natAbs) ∧
  (∃ (s : State) (o : Int),
    o.natAbs ≤ 102400) ∧
  (∃ (s : State),
    s.blockOn FAB.CTL.EN 9 = true ∧
    s.flag FAB.TIME_STAT.LOCKED = true) ∧
  (∃ (s : State),
    s.flag FAB.TIME_STAT.LOCKED = false) ∧
  (∃ (s : State),
    s.flag FAB.TIME_STAT.HOLDOVER = true) ∧
  (∃ (s : State),
    s.flag FAB.CTL.EN = false ∧
    s.root = false ∧
    s.get FAB.TIME_CFG.PARENT < 4 ∧
    s.flag (FAB.PORT_CTL.EN (s.get FAB.TIME_CFG.PARENT)) = false ∧
    s.held = false) ∧
  (∃ (s : State),
    (s.flag FAB.CTL.EN = true ∨ s.held = true)) ∧
  (∃ (s : State),
    s.flag FAB.CTL.EN = false ∧
    s.root = true ∧
    s.held = false ∧
    (List.range 4).any (fun p => s.flag (FAB.PORT_CTL.EN p)) = true) ∧
  (∃ (s : State),
    s.flag FAB.CTL.EN = false ∧
    s.root = true ∧
    s.held = false ∧
    (List.range 4).any (fun p => s.flag (FAB.PORT_CTL.EN p)) = false) ∧
  (∃ (s : State),
    s.flag FAB.CTL.EN = false ∧
    s.root = false ∧
    s.held = false ∧
    (4 ≤ s.get FAB.TIME_CFG.PARENT ∨ s.flag (FAB.PORT_CTL.EN (s.get FAB.TIME_CFG.PARENT)) = true) ∧
    (List.range 4).any (fun p => s.flag (FAB.PORT_CTL.EN p)) = true) ∧
  (∃ (s : State),
    s.flag FAB.CTL.EN = false ∧
    s.root = false ∧
    s.held = false ∧
    (4 ≤ s.get FAB.TIME_CFG.PARENT ∨ s.flag (FAB.PORT_CTL.EN (s.get FAB.TIME_CFG.PARENT)) = true) ∧
    (List.range 4).any (fun p => s.flag (FAB.PORT_CTL.EN p)) = false) :=
  ⟨⟨(st [(FAB.CTL.EN, 1), (FAB.PORT_CTL.EN 0, 1), (FAB.PORT_STAT.STATE 0, 2)]), (0), (true), (true), by decide +kernel⟩,
  ⟨(st [(FAB.CTL.EN, 1), (FAB.PORT_CTL.EN 0, 1), (FAB.PORT_STAT.STATE 0, 2)]), (0), (false), (true), by decide +kernel⟩,
  ⟨(st [(FAB.CTL.EN, 1), (FAB.PORT_CTL.EN 0, 1), (FAB.PORT_STAT.STATE 0, 2)]), (0), by decide +kernel⟩,
  ⟨(st [(FAB.CTL.EN, 1), (FAB.PORT_CTL.EN 0, 1), (FAB.PORT_STAT.STATE 0, 4)]), (0), by decide +kernel⟩,
  ⟨(State.reset), (0), by decide +kernel⟩,
  ⟨({ st [(FAB.CTL.EN, 1), (FAB.PORT_CTL.EN 0, 1), (FAB.PORT_STAT.STATE 0, 4)] with fab := { ports := [{ replay := [mkLink 4 0#32] }] } }), (0), by decide +kernel⟩,
  ⟨({ st [(FAB.CTL.EN, 1), (FAB.PORT_CTL.EN 0, 1), (FAB.PORT_STAT.STATE 0, 4)] with fab := { ports := [{ replay := [mkLink 4 0#32], replays := 4 }] } }), (0), by decide +kernel⟩,
  ⟨({ State.reset with fab := { loop := [mkLink 2 0#32] } }), (4), (0#32), (mkLink 2 0#32), by decide +kernel⟩,
  ⟨({ State.reset with fab := { loop := [mkLink 3 0#32] } }), (4), (0#32), (mkLink 3 0#32), by decide +kernel⟩,
  ⟨({ State.reset with fab := { loop := [mkLink 1 0#32] } }), (4), (0#32), (mkLink 1 0#32), by decide +kernel⟩,
  ⟨({ State.reset with fab := { loop := [mkLink 4 0#32] } }), (4), (0#32), (mkLink 4 0#32), by decide +kernel⟩,
  ⟨({ State.reset with fab := { loop := [mkLink 5 0#32] } }), (4), (0#32), (mkLink 5 0#32), by decide +kernel⟩,
  ⟨({ st [(FAB.CTL.EN, 1), (FAB.PORT_CTL.EN 0, 1), (FAB.PORT_STAT.STATE 0, 4)] with fab := { ports := [{ dlyT1 := some 5 }] } }), (0), ((mkPacket 3 6 0#32 [0#32, 0#32, 0#32, 0#32]).crcWord), (mkPacket 3 6 0#32 [0#32, 0#32, 0#32, 0#32]), (5), by decide +kernel⟩,
  ⟨({ st [(FAB.CTL.EN, 1), (FAB.PORT_CTL.EN 0, 1), (FAB.PORT_STAT.STATE 0, 4)] with fab := { ports := [{ unacked := 1 }] } }), (0), by decide +kernel⟩,
  ⟨(st [(FAB.CTL.EN, 1), (FAB.PORT_CTL.EN 0, 1), (FAB.PORT_STAT.STATE 0, 4)]), (0), by decide +kernel⟩,
  ⟨(st [(FAB.CTL.EN, 1), (FAB.PORT_CTL.EN 0, 1), (FAB.PORT_STAT.STATE 0, 4), (FAB.ROUTE.ON_ALT 5, 1), (FAB.ROUTE.PRI 5, 0)]), (5), by decide +kernel⟩,
  ⟨(st [(FAB.CTL.EN, 1), (FAB.PORT_CTL.EN 0, 1), (FAB.PORT_STAT.STATE 0, 4), (FAB.TIME_STAT.ON_ALT, 1), (FAB.TIME_CFG.PARENT, 0)]), by decide +kernel⟩,
  ⟨({ State.reset with fab := { loop := [mkPacket 1 1 (mkH1 0 0 0 false) [0#32, 0#32, 0#32]] } }), (4), (0#32), (mkPacket 1 1 (mkH1 0 0 0 false) [0#32, 0#32, 0#32]), (0), by decide +kernel⟩,
  ⟨(State.reset), (200000), by decide +kernel⟩,
  ⟨(State.reset), (100), by decide +kernel⟩,
  ⟨(st [(FAB.CTL.EN, 1), (FAB.TIME_STAT.LOCKED, 1)]), by decide +kernel⟩,
  ⟨(State.reset), by decide +kernel⟩,
  ⟨(st [(FAB.TIME_STAT.HOLDOVER, 1)]), by decide +kernel⟩,
  ⟨({ st [(FAB.TIME_CFG.PARENT, 0), (FAB.PORT_CTL.EN 0, 0)] with root := false }), by decide +kernel⟩,
  ⟨(st [(FAB.CTL.EN, 1)]), by decide +kernel⟩,
  ⟨({ st [(FAB.PORT_CTL.EN 1, 1)] with root := true }), by decide +kernel⟩,
  ⟨({ st [(FAB.PORT_CTL.EN 0, 0), (FAB.PORT_CTL.EN 1, 0), (FAB.PORT_CTL.EN 2, 0), (FAB.PORT_CTL.EN 3, 0)] with root := true }), by decide +kernel⟩,
  ⟨({ st [(FAB.TIME_CFG.PARENT, 0), (FAB.PORT_CTL.EN 0, 1)] with root := false }), by decide +kernel⟩,
  ⟨({ st [(FAB.TIME_CFG.PARENT, 7), (FAB.PORT_CTL.EN 0, 0), (FAB.PORT_CTL.EN 1, 0), (FAB.PORT_CTL.EN 2, 0), (FAB.PORT_CTL.EN 3, 0)] with root := false }), by decide +kernel⟩⟩

/-- What FabricStops assumes, clause by clause, holds somewhere. -/
theorem witness_FabricStops :
  (∃ (s : State) (p : Nat) (crc : Word) (k : Packet) (b : Nat),
    (s.receive p (k.crcGood crc) k).2 = some b ∧
    k.isType 0 1 = true ∧
    (s.receive p (k.crcGood crc) k).1.isNew k = true) ∧
  (∃ (s : State) (p : Nat) (crc : Word) (k : Packet) (b : Nat),
    (s.receive p (k.crcGood crc) k).2 = some b ∧
    k.isType 0 2 = true ∧
    (s.receive p (k.crcGood crc) k).1.isNew k = true) ∧
  (∃ (s : State) (p : Nat) (crc : Word) (k : Packet) (b : Nat),
    (s.receive p (k.crcGood crc) k).2 = some b ∧
    (s.receive p (k.crcGood crc) k).1.isNew k = false) ∧
  (∃ (s : State) (exec : Nat),
    1600 ≤ signedOf 48 (unsignedOf 48 ((exec : Int) - s.time))) ∧
  (∃ (s : State) (exec : Nat),
    signedOf 48 (unsignedOf 48 ((exec : Int) - s.time)) < 1600) ∧
  (∃ (s : State),
    s.fab.execT.isSome = true) ∧
  (∃ (s : State),
    s.fab.execT = none) ∧
  (∃ (s : State) (p : Nat) (crc : Word) (k : Packet) (b : Nat),
    s.flag FAB.TIDE_CFG.RX_EN = true ∧
    k.isType 1 2 = true ∧
    k.src = s.get FAB.TIDE_CFG.SRC ∧
    (s.receive p (k.crcGood crc) k).2 = some b ∧
    (s.receive p (k.crcGood crc) k).1.isNew k = true ∧
    ((s.receive p (k.crcGood crc) k).1.noteFlood k).flag FAB.TIDE_CFG.RX_EN = true) ∧
  (∃ (s : State) (p : Nat) (crc : Word) (k : Packet) (b : Nat),
    s.flag FAB.TIDE_CFG.RX_EN = true ∧
    k.isType 1 2 = true ∧
    k.src ≠ s.get FAB.TIDE_CFG.SRC ∧
    (s.receive p (k.crcGood crc) k).2 = some b) ∧
  (∃ (s : State) (t : Nat),
    s.fab.tideT ≠ some t ∧
    s.get FIRE.CFG.AXIS = 4) :=
  ⟨⟨({ State.reset with fab := { loop := [mkPacket 0 1 (mkH1 0 1 1 true) [0#32]] } }), (4), (0#32), (mkPacket 0 1 (mkH1 0 1 1 true) [0#32]), (0), by decide +kernel⟩,
  ⟨({ State.reset with fab := { loop := [mkPacket 0 2 (mkH1 0 1 1 true) [0#32, 0#32]] } }), (4), (0#32), (mkPacket 0 2 (mkH1 0 1 1 true) [0#32, 0#32]), (0), by decide +kernel⟩,
  ⟨(({ State.reset with fab := { loop := [mkPacket 0 2 (mkH1 0 1 1 true) [0#32, 0#32]] } } : State).noteFlood (mkPacket 0 2 (mkH1 0 1 1 true) [0#32, 0#32])), (4), (0#32), (mkPacket 0 2 (mkH1 0 1 1 true) [0#32, 0#32]), (0), by decide +kernel⟩,
  ⟨(State.reset), (2000), by decide +kernel⟩,
  ⟨(State.reset), (10), by decide +kernel⟩,
  ⟨({ State.reset with fab := { execT := some 5 } }), by decide +kernel⟩,
  ⟨(State.reset), by decide +kernel⟩,
  ⟨({ st [(FAB.TIDE_CFG.RX_EN, 1), (FAB.TIDE_CFG.SRC, 1)] with fab := { loop := [mkPacket 1 2 (mkH1 0 1 1 true) [0#32, 0#32, 0#32, 0#32]] } }), (4), (0#32), (mkPacket 1 2 (mkH1 0 1 1 true) [0#32, 0#32, 0#32, 0#32]), (0), by decide +kernel⟩,
  ⟨({ st [(FAB.TIDE_CFG.RX_EN, 1), (FAB.TIDE_CFG.SRC, 2)] with fab := { loop := [mkPacket 1 2 (mkH1 0 1 1 true) [0#32, 0#32, 0#32, 0#32]] } }), (4), (0#32), (mkPacket 1 2 (mkH1 0 1 1 true) [0#32, 0#32, 0#32, 0#32]), (0), by decide +kernel⟩,
  ⟨(st [(FIRE.CFG.AXIS, 4)]), (2), by decide +kernel⟩⟩

/-- What FabricRequests assumes, clause by clause, holds somewhere. -/
theorem witness_FabricRequests :
  (∃ (s : State) (p : Nat) (crc : Word) (k : Packet) (b : Nat),
    (s.receive p (k.crcGood crc) k).2 = some b ∧
    k.isType 0 3 = true ∧
    (p = 4 ∨ k.dst = (s.receive p (k.crcGood crc) k).1.nodeId)) ∧
  (∃ (s : State) (p : Nat) (crc : Word) (k : Packet) (b : Nat),
    (s.receive p (k.crcGood crc) k).2 = some b ∧
    k.isType 0 4 = true ∧
    (p = 4 ∨ k.dst = (s.receive p (k.crcGood crc) k).1.nodeId)) ∧
  (∃ (s : State) (k : Packet),
    s.fab.lastCtrl.find? (fun e => e.1 == k.src && e.2.1 == k.tag) = none ∧
    s.denied k = false ∧
    s.bootDenied k = false) ∧
  (∃ (s : State) (k : Packet) (e : Nat × (Nat × (Nat × Word))),
    s.fab.lastCtrl.find? (fun e => e.1 == k.src && e.2.1 == k.tag) = some e) ∧
  (∃ (s : State) (k : Packet),
    s.fab.lastCtrl.find? (fun e => e.1 == k.src && e.2.1 == k.tag) = none ∧
    s.denied k = true) ∧
  (∃ (s : State) (k : Packet),
    (k.isType 2 1 = false ∨ k.dst ≠ s.nodeId ∨ s.holdsWr k = false)) ∧
  (∃ (s : State) (k : Packet),
    k.isType 2 1 = true ∧
    k.dst = s.nodeId ∧
    s.holdsWr k = true) ∧
  (∃ (s : State) (p : Nat) (crc : Word) (k : Packet) (b : Nat),
    (s.receive p (k.crcGood crc) k).2 = some b ∧
    k.isType 2 2 = true ∧
    (p = 4 ∨ k.dst = (s.receive p (k.crcGood crc) k).1.nodeId)) ∧
  (∃ (s : State) (p : Nat) (crc : Word) (k : Packet) (b : Nat),
    (s.receive p (k.crcGood crc) k).2 = some b ∧
    k.isType 2 3 = true ∧
    (p = 4 ∨ k.dst = (s.receive p (k.crcGood crc) k).1.nodeId)) ∧
  (∃ (s : State) (p : Nat) (crc : Word) (k : Packet) (b : Nat),
    (s.receive p (k.crcGood crc) k).2 = some b ∧
    k.isType 2 4 = true ∧
    (p = 4 ∨ k.dst = (s.receive p (k.crcGood crc) k).1.nodeId)) ∧
  (∃ (s : State) (p : Nat) (crc : Word) (k : Packet) (b : Nat),
    (s.receive p (k.crcGood crc) k).2 = some b ∧
    k.isType 0 5 = true ∧
    (p = 4 ∨ k.dst = (s.receive p (k.crcGood crc) k).1.nodeId)) ∧
  (∃ (s : State) (k : Packet),
    s.txn? false k.tag = none) ∧
  (∃ (s : State) (k : Packet) (write : Bool) (t : Txn),
    s.txn? false k.tag = some t ∧
    t.write = write) ∧
  (∃ (s : State) (tag : Nat) (t : Txn),
    s.txn? false tag = some t) ∧
  (∃ (s : State) (tag : Nat) (t : Txn),
    s.txn? true tag = some t) ∧
  (∃ (s : State) (tag : Nat),
    s.txn? true tag = none ∧
    s.flag FAB.CREQ_CTL.GO = true ∧
    s.fab.creqTag = none) ∧
  (∃ (s : State) (tag : Nat) (t : Txn),
    s.txn? true tag = some t ∧
    s.fab.creqTag = some tag) ∧
  (∃ (s : State),
    s.flag FAB.CREQ_CTL.GO = false ∧
    s.get FAB.CREQ_CTL.KIND = 0) ∧
  (∃ (s : State),
    s.flag FAB.CREQ_CTL.GO = false ∧
    s.get FAB.CREQ_CTL.KIND = 1) ∧
  (∃ (s : State),
    s.flag FAB.CREQ_CTL.GO = false ∧
    s.get FAB.CREQ_CTL.KIND = 2) ∧
  (∃ (s : State),
    s.flag FAB.CREQ_CTL.GO = false ∧
    s.get FAB.CREQ_CTL.KIND = 3) ∧
  (∃ (s : State) (p : Nat) (crc : Word) (k : Packet) (b : Nat),
    p = 4 ∧
    k.hop = 0 ∧
    (s.receive p (k.crcGood crc) k).2 = some b ∧
    k.isType 0 8 = true) ∧
  (∃ (s : State) (p : Nat) (crc : Word) (k : Packet) (b : Nat),
    p = 4 ∧
    k.hop = 0 ∧
    (s.receive p (k.crcGood crc) k).2 = some b ∧
    k.isType 0 9 = true) ∧
  (∃ (s : State) (p : Nat) (crc : Word) (k : Packet) (b : Nat),
    p = 4 ∧
    k.hop = 0 ∧
    (s.receive p (k.crcGood crc) k).2 = some b ∧
    k.isType 0 10 = true) ∧
  (∃ (s : State) (k : Packet),
    wordAt k.payload 2 = s.rd FAB.IDENT_LO ∧
    wordAt k.payload 3 = s.rd FAB.IDENT_HI) ∧
  (∃ (s : State) (k : Packet),
    (wordAt k.payload 2 ≠ s.rd FAB.IDENT_LO ∨ wordAt k.payload 3 ≠ s.rd FAB.IDENT_HI)) ∧
  (∃ (s : State) (k : Packet),
    wf k.payload 1 0 5 ≠ 0) ∧
  (∃ (s : State) (k : Packet),
    s.portUp (k.h1.toNat % 4) = true) ∧
  (∃ (s : State) (p : Nat) (crc : Word) (k : Packet) (b : Nat),
    p = 4 ∧
    k.hop = 0 ∧
    (s.receive p (k.crcGood crc) k).2 = some b ∧
    k.isType 0 11 = true) ∧
  (∃ (s : State) (p : Nat) (crc : Word) (k : Packet) (b : Nat),
    p < 4 ∧
    k.sr = true ∧
    k.hop = 0 ∧
    (s.receive p (k.crcGood crc) k).2 = some b ∧
    k.isType 0 8 = true) ∧
  (∃ (s : State) (p : Nat) (crc : Word) (k : Packet) (b : Nat),
    p < 4 ∧
    k.sr = true ∧
    k.hop ≠ 0 ∧
    (s.receive p (k.crcGood crc) k).2 = some b ∧
    k.isType 0 8 = true) ∧
  (∃ (s : State) (p : Nat) (crc : Word) (k : Packet) (b : Nat),
    p < 4 ∧
    k.sr = true ∧
    k.hop = 0 ∧
    (s.receive p (k.crcGood crc) k).2 = some b ∧
    k.isType 0 9 = true) ∧
  (∃ (s : State) (p : Nat) (crc : Word) (k : Packet) (b : Nat),
    p < 4 ∧
    k.sr = true ∧
    k.hop ≠ 0 ∧
    (s.receive p (k.crcGood crc) k).2 = some b ∧
    k.isType 0 9 = true) ∧
  (∃ (s : State) (p : Nat) (crc : Word) (k : Packet) (b : Nat),
    p < 4 ∧
    k.sr = true ∧
    k.hop = 0 ∧
    (s.receive p (k.crcGood crc) k).2 = some b ∧
    k.isType 0 10 = true) ∧
  (∃ (s : State) (p : Nat) (crc : Word) (k : Packet) (b : Nat),
    p < 4 ∧
    k.sr = true ∧
    k.hop ≠ 0 ∧
    (s.receive p (k.crcGood crc) k).2 = some b ∧
    k.isType 0 10 = true) ∧
  (∃ (s : State) (p : Nat) (crc : Word) (k : Packet) (b : Nat),
    p < 4 ∧
    k.sr = true ∧
    k.hop = 0 ∧
    (s.receive p (k.crcGood crc) k).2 = some b ∧
    k.isType 0 11 = true) ∧
  (∃ (s : State) (p : Nat) (crc : Word) (k : Packet) (b : Nat),
    p < 4 ∧
    k.sr = true ∧
    k.hop ≠ 0 ∧
    (s.receive p (k.crcGood crc) k).2 = some b ∧
    k.isType 0 11 = true) :=
  ⟨⟨({ State.reset with fab := { loop := [mkPacket 0 3 (mkH1 0 0 1 false) [0#32]] } }), (4), (0#32), (mkPacket 0 3 (mkH1 0 0 1 false) [0#32]), (0), by decide +kernel⟩,
  ⟨({ State.reset with fab := { loop := [mkPacket 0 4 (mkH1 0 0 1 false) [0#32, 0#32]] } }), (4), (0#32), (mkPacket 0 4 (mkH1 0 0 1 false) [0#32, 0#32]), (0), by decide +kernel⟩,
  ⟨(State.reset), (mkPacket 0 3 0#32 [0#32]), by decide +kernel⟩,
  ⟨({ State.reset with fab := { lastCtrl := [(0, (0, (0, 0#32)))] } }), (mkPacket 0 3 0#32 [0#32]), ((0, (0, (0, 0#32)))), by decide +kernel⟩,
  ⟨(st [(FAB.ACCESS.CTRL_IN, 0)]), (mkPacket 0 3 (mkH1 0 1 0 false) [0#32]), by decide +kernel⟩,
  ⟨(State.reset), (mkPacket 2 1 0#32 [0#32]), by decide +kernel⟩,
  ⟨({ State.reset with root := true, host := { cplBuf := List.replicate 64 [] } }), ({ mkPacket 2 1 0#32 [0#32] with ext := [w32 (HOSTIF.CPL_IN 0), 0#32] }), by decide +kernel⟩,
  ⟨({ State.reset with fab := { loop := [mkPacket 2 2 (mkH1 0 0 1 false) [0#32]] } }), (4), (0#32), (mkPacket 2 2 (mkH1 0 0 1 false) [0#32]), (0), by decide +kernel⟩,
  ⟨({ State.reset with fab := { loop := [mkPacket 2 3 (mkH1 0 0 1 false) []] } }), (4), (0#32), (mkPacket 2 3 (mkH1 0 0 1 false) []), (0), by decide +kernel⟩,
  ⟨({ State.reset with fab := { loop := [mkPacket 2 4 (mkH1 0 0 1 false) [0#32]] } }), (4), (0#32), (mkPacket 2 4 (mkH1 0 0 1 false) [0#32]), (0), by decide +kernel⟩,
  ⟨({ State.reset with fab := { loop := [mkPacket 0 5 (mkH1 0 0 1 false) [0#32]] } }), (4), (0#32), (mkPacket 0 5 (mkH1 0 0 1 false) [0#32]), (0), by decide +kernel⟩,
  ⟨(State.reset), (mkPacket 2 4 0#32 []), by decide +kernel⟩,
  ⟨({ State.reset with fab := { txns := [⟨1, 0, false, false, .other⟩] } }), (mkPacket 2 4 1#32 []), (false), (⟨1, 0, false, false, .other⟩), by decide +kernel⟩,
  ⟨({ State.reset with fab := { txns := [⟨1, 0, false, false, .other⟩] } }), (1), (⟨1, 0, false, false, .other⟩), by decide +kernel⟩,
  ⟨({ State.reset with fab := { txns := [⟨1, 0, true, false, .other⟩] } }), (1), (⟨1, 0, true, false, .other⟩), by decide +kernel⟩,
  ⟨(st [(FAB.CREQ_CTL.GO, 1)]), (1), by decide +kernel⟩,
  ⟨({ State.reset with fab := { txns := [⟨1, 0, true, false, .other⟩], creqTag := some 1 } }), (1), (⟨1, 0, true, false, .other⟩), by decide +kernel⟩,
  ⟨(State.reset), by decide +kernel⟩,
  ⟨(st [(FAB.CREQ_CTL.KIND, 1)]), by decide +kernel⟩,
  ⟨(st [(FAB.CREQ_CTL.KIND, 2)]), by decide +kernel⟩,
  ⟨(st [(FAB.CREQ_CTL.KIND, 3)]), by decide +kernel⟩,
  ⟨({ State.reset with fab := { loop := [mkSr 8 0 0 [0#32, 0#32]] } }), (4), (0#32), (mkSr 8 0 0 [0#32, 0#32]), (0), by decide +kernel⟩,
  ⟨({ State.reset with fab := { loop := [mkSr 9 0 0 [0#32, 0#32]] } }), (4), (0#32), (mkSr 9 0 0 [0#32, 0#32]), (0), by decide +kernel⟩,
  ⟨({ State.reset with fab := { loop := [mkSr 10 0 0 [0#32, 0#32, 0#32, 0#32, 0#32]] } }), (4), (0#32), (mkSr 10 0 0 [0#32, 0#32, 0#32, 0#32, 0#32]), (0), by decide +kernel⟩,
  ⟨(State.reset), (mkSr 10 0 0 [0#32, 0#32, State.reset.rd FAB.IDENT_LO, State.reset.rd FAB.IDENT_HI, 0#32]), by decide +kernel⟩,
  ⟨(State.reset), (mkSr 10 0 0 [0#32, 0#32, 77#32, 77#32, 0#32]), by decide +kernel⟩,
  ⟨(State.reset), (mkSr 10 0 0 [0#32, 1#32]), by decide +kernel⟩,
  ⟨(st [(FAB.CTL.EN, 1), (FAB.PORT_CTL.EN 0, 1), (FAB.PORT_STAT.STATE 0, 4)]), (mkSr 8 0 1 [0#32, 1#32]), by decide +kernel⟩,
  ⟨({ State.reset with fab := { loop := [mkSr 11 0 0 [0#32, 0#32, 0#32]] } }), (4), (0#32), (mkSr 11 0 0 [0#32, 0#32, 0#32]), (0), by decide +kernel⟩,
  ⟨(st [(FAB.CTL.EN, 1), (FAB.PORT_CTL.EN 0, 1), (FAB.PORT_STAT.STATE 0, 4)]), (0), ((mkSr 8 0 0 [0#32, 0#32]).crcWord), (mkSr 8 0 0 [0#32, 0#32]), (1), by decide +kernel⟩,
  ⟨(st [(FAB.CTL.EN, 1), (FAB.PORT_CTL.EN 0, 1), (FAB.PORT_STAT.STATE 0, 4)]), (0), ((mkSr 8 0 2 [0#32, 0#32]).crcWord), (mkSr 8 0 2 [0#32, 0#32]), (1), by decide +kernel⟩,
  ⟨(st [(FAB.CTL.EN, 1), (FAB.PORT_CTL.EN 0, 1), (FAB.PORT_STAT.STATE 0, 4)]), (0), ((mkSr 9 0 0 [0#32, 0#32]).crcWord), (mkSr 9 0 0 [0#32, 0#32]), (1), by decide +kernel⟩,
  ⟨(st [(FAB.CTL.EN, 1), (FAB.PORT_CTL.EN 0, 1), (FAB.PORT_STAT.STATE 0, 4)]), (0), ((mkSr 9 0 2 [0#32, 0#32]).crcWord), (mkSr 9 0 2 [0#32, 0#32]), (1), by decide +kernel⟩,
  ⟨(st [(FAB.CTL.EN, 1), (FAB.PORT_CTL.EN 0, 1), (FAB.PORT_STAT.STATE 0, 4)]), (0), ((mkSr 10 0 0 [0#32, 0#32, 0#32, 0#32, 0#32]).crcWord), (mkSr 10 0 0 [0#32, 0#32, 0#32, 0#32, 0#32]), (1), by decide +kernel⟩,
  ⟨(st [(FAB.CTL.EN, 1), (FAB.PORT_CTL.EN 0, 1), (FAB.PORT_STAT.STATE 0, 4)]), (0), ((mkSr 10 0 2 [0#32, 0#32, 0#32, 0#32, 0#32]).crcWord), (mkSr 10 0 2 [0#32, 0#32, 0#32, 0#32, 0#32]), (1), by decide +kernel⟩,
  ⟨(st [(FAB.CTL.EN, 1), (FAB.PORT_CTL.EN 0, 1), (FAB.PORT_STAT.STATE 0, 4)]), (0), ((mkSr 11 0 0 [0#32, 0#32, 0#32]).crcWord), (mkSr 11 0 0 [0#32, 0#32, 0#32]), (1), by decide +kernel⟩,
  ⟨(st [(FAB.CTL.EN, 1), (FAB.PORT_CTL.EN 0, 1), (FAB.PORT_STAT.STATE 0, 4)]), (0), ((mkSr 11 0 2 [0#32, 0#32, 0#32]).crcWord), (mkSr 11 0 2 [0#32, 0#32, 0#32]), (1), by decide +kernel⟩⟩

/-- What HostRings assumes, clause by clause, holds somewhere. -/
theorem witness_HostRings :
  (∃ (s : State) (v : Nat),
    s.hostOn = true ∧
    forwards (s.rd (HOSTIF.HR_PROD)).toNat (v % 2 ^ 32) = true ∧
    filled (v % 2 ^ 32) (s.rd (HOSTIF.HR_CONS)).toNat ≤ ringSize (s.get (HOSTIF.HR_SIZE.SIZE_LOG2))) ∧
  (∃ (s : State) (v : Nat),
    s.hostOn = true ∧
    forwards (s.rd (HOSTIF.HR_PROD)).toNat (v % 2 ^ 32) = false) ∧
  (∃ (s : State) (v : Nat),
    s.hostOn = true ∧
    forwards (s.rd (HOSTIF.HR_PROD)).toNat (v % 2 ^ 32) = true ∧
    ringSize (s.get (HOSTIF.HR_SIZE.SIZE_LOG2)) < filled (v % 2 ^ 32) (s.rd (HOSTIF.HR_CONS)).toNat) ∧
  (∃ (s : State) (r : Nat) (v : Nat),
    s.hostOn = true ∧
    r < 248 ∧
    s.flag (HOSTIF.SCTX_CFG.EN r) = true ∧
    forwards (s.rd (HOSTIF.SCTX_PROD r)).toNat (v % 2 ^ 32) = true ∧
    filled (v % 2 ^ 32) (s.rd (HOSTIF.SCTX_CONS r)).toNat ≤ ringSize (s.get (HOSTIF.SCTX_CFG.SIZE_LOG2 r))) ∧
  (∃ (s : State) (r : Nat) (v : Nat),
    s.hostOn = true ∧
    r < 248 ∧
    s.flag (HOSTIF.SCTX_CFG.EN r) = true ∧
    forwards (s.rd (HOSTIF.SCTX_PROD r)).toNat (v % 2 ^ 32) = false) ∧
  (∃ (s : State) (r : Nat) (v : Nat),
    s.hostOn = true ∧
    r < 248 ∧
    s.flag (HOSTIF.SCTX_CFG.EN r) = true ∧
    forwards (s.rd (HOSTIF.SCTX_PROD r)).toNat (v % 2 ^ 32) = true ∧
    ringSize (s.get (HOSTIF.SCTX_CFG.SIZE_LOG2 r)) < filled (v % 2 ^ 32) (s.rd (HOSTIF.SCTX_CONS r)).toNat) ∧
  (∃ (s : State) (v : Nat),
    s.hostOn = true ∧
    forwards (s.rd (HOSTIF.CPL_CONS)).toNat (v % 2 ^ 32) = true ∧
    filled (s.rd (HOSTIF.CPL_PROD)).toNat (v % 2 ^ 32) ≤ ringSize (s.get (HOSTIF.CPL_SIZE.SIZE_LOG2))) ∧
  (∃ (s : State) (v : Nat),
    s.hostOn = true ∧
    forwards (s.rd (HOSTIF.CPL_CONS)).toNat (v % 2 ^ 32) = false) ∧
  (∃ (s : State) (v : Nat),
    s.hostOn = true ∧
    forwards (s.rd (HOSTIF.CPL_CONS)).toNat (v % 2 ^ 32) = true ∧
    ringSize (s.get (HOSTIF.CPL_SIZE.SIZE_LOG2)) < filled (s.rd (HOSTIF.CPL_PROD)).toNat (v % 2 ^ 32)) ∧
  (∃ (s : State) (v : Nat),
    s.hostOn = true ∧
    forwards (s.rd (HOSTIF.TR_CONS)).toNat (v % 2 ^ 32) = true ∧
    filled (s.rd (HOSTIF.TR_PROD)).toNat (v % 2 ^ 32) ≤ ringSize (s.get (HOSTIF.TR_SIZE.SIZE_LOG2))) ∧
  (∃ (s : State) (v : Nat),
    s.hostOn = true ∧
    forwards (s.rd (HOSTIF.TR_CONS)).toNat (v % 2 ^ 32) = false) ∧
  (∃ (s : State) (v : Nat),
    s.hostOn = true ∧
    forwards (s.rd (HOSTIF.TR_CONS)).toNat (v % 2 ^ 32) = true ∧
    ringSize (s.get (HOSTIF.TR_SIZE.SIZE_LOG2)) < filled (s.rd (HOSTIF.TR_PROD)).toNat (v % 2 ^ 32)) ∧
  (∃ (s : State) (x : Access),
    s.host.parser = none ∧
    s.fetching = true ∧
    s.rd HOSTIF.HR_PROD ≠ s.rd HOSTIF.HR_CONS ∧
    x.status = 0) ∧
  (∃ (s : State) (w : List Word),
    s.host.parser = some w) ∧
  (∃ (s : State),
    s.host.parser = none ∧
    s.fetching = false) ∧
  (∃ (s : State) (w : List Word),
    s.parseCode w = 0 ∧
    s.get (occFld (wf w 0 0 6)) < 16 ∧
    wf w 0 0 6 = 0) ∧
  (∃ (s : State) (w : List Word),
    s.parseCode w = 0 ∧
    s.get (occFld (wf w 0 0 6)) < 16 ∧
    wf w 0 0 6 ≠ 0 ∧
    s.culvertBusy (wf w 0 0 6) = false) ∧
  (∃ (s : State) (w : List Word),
    s.parseCode w = 0 ∧
    16 ≤ s.get (occFld (wf w 0 0 6))) ∧
  (∃ (s : State) (w : List Word),
    s.parseCode w = 0 ∧
    s.get (occFld (wf w 0 0 6)) < 16 ∧
    wf w 0 0 6 ≠ 0 ∧
    s.culvertBusy (wf w 0 0 6) = true) ∧
  (∃ (s : State) (w : List Word),
    (wf w 0 16 16 ≠ 0x4A44 ∨ wf w 0 8 8 ≠ 1)) ∧
  (∃ (s : State) (w : List Word),
    wf w 0 16 16 = 0x4A44 ∧
    wf w 0 8 8 = 1 ∧
    wf w 0 6 2 = 0 ∧
    wf w 1 16 13 = 0 ∧
    [6, 7, 8, 9].any (fun i => wf w i 24 8 != 0) = false ∧
    [11, 14, 15].any (fun i => wordAt w i != 0#32) = false ∧
    wf w 0 0 6 ≠ 0 ∧
    s.flag (FAB.ROUTE.VALID (wf w 0 0 6)) = false) ∧
  (∃ (s : State),
    s.host.parserOld = false) ∧
  (∃ (s : State),
    s.host.parserOld = true) ∧
  (∃ (s : State) (ws : List Word),
    ws.length = 16) ∧
  (∃ (s : State) (ws : List Word),
    ws.length ≠ 16) ∧
  (∃ (s : State) (ws : List Word),
    s.cplFull = false ∧
    ws.length = 16) ∧
  (∃ (s : State),
    s.cplFull = true) ∧
  (∃ (s : State) (ws : List Word),
    ws.length = 16) ∧
  (∃ (s : State) (ws : List Word),
    s.cplFull = false ∧
    ws.length ≠ 16) ∧
  (∃ (s : State) (ws : List Word),
    ws.length ≠ 16) ∧
  (∃ (s : State),
    s.host.cplCover.entries ≠ 0) ∧
  (∃ (s : State),
    s.host.evtCover.entries ≠ 0) ∧
  (∃ (s : State),
    s.root = true) ∧
  (∃ (s : State),
    s.root = true ∧
    s.flag HOSTIF.LINK.UP = true) ∧
  (∃ (s : State) (width : Nat) (speed : Nat),
    s.root = true ∧
    (width = 1 ∨ width = 2 ∨ width = 4) ∧
    1 ≤ speed ∧ speed ≤ 4) ∧
  (∃ (s : State) (width : Nat) (speed : Nat),
    linkOk width speed = false) ∧
  (∃ (s : State),
    s.flag HOSTIF.CTL.EN = false ∧
    s.root = false) ∧
  (∃ (s : State) (c : Nat),
    s.flag HOSTIF.CTL.EN = false ∧
    s.root = true ∧
    ringFault [(s.rd64 HOSTIF.HR_BASE_LO HOSTIF.HR_BASE_HI, s.get HOSTIF.HR_SIZE.SIZE_LOG2), (s.rd64 HOSTIF.CPL_BASE_LO HOSTIF.CPL_BASE_HI, s.get HOSTIF.CPL_SIZE.SIZE_LOG2), (s.rd64 HOSTIF.TR_BASE_LO HOSTIF.TR_BASE_HI, s.get HOSTIF.TR_SIZE.SIZE_LOG2)] (s.rd64 HOSTIF.HR_SHADOW_LO HOSTIF.HR_SHADOW_HI) = some c) ∧
  (∃ (s : State),
    s.flag HOSTIF.CTL.EN = false ∧
    s.root = true ∧
    ringFault [(s.rd64 HOSTIF.HR_BASE_LO HOSTIF.HR_BASE_HI, s.get HOSTIF.HR_SIZE.SIZE_LOG2), (s.rd64 HOSTIF.CPL_BASE_LO HOSTIF.CPL_BASE_HI, s.get HOSTIF.CPL_SIZE.SIZE_LOG2), (s.rd64 HOSTIF.TR_BASE_LO HOSTIF.TR_BASE_HI, s.get HOSTIF.TR_SIZE.SIZE_LOG2)] (s.rd64 HOSTIF.HR_SHADOW_LO HOSTIF.HR_SHADOW_HI) = none) ∧
  (∃ (s : State) (r : Nat) (x : Access),
    s.entryRuns r = true ∧
    s.fetching = true ∧
    (s.sctx r).entry = [] ∧
    s.rd (HOSTIF.SCTX_PROD r) ≠ s.rd (HOSTIF.SCTX_CONS r) ∧
    x.status = 0) ∧
  (∃ (s : State) (r : Nat),
    s.entryRuns r = true ∧
    (s.sctx r).entry ≠ []) ∧
  (∃ (s : State) (r : Nat) (x : Access),
    s.entryRuns r = true ∧
    s.fetching = true ∧
    (s.sctx r).entry = [] ∧
    s.rd (HOSTIF.SCTX_PROD r) ≠ s.rd (HOSTIF.SCTX_CONS r) ∧
    x.status ≠ 0) ∧
  (∃ (s : State) (r : Nat),
    s.entryRuns r = false) ∧
  (∃ (s : State) (r : Nat),
    (s.sctx r).entry ≠ [] ∧
    (s.sctx r).halted = false ∧
    (s.sctx r).phase = 0 ∧
    (s.sctx r).begun = true ∧
    (s.sctx r).moved < entLines (s.sctx r).entry ∧
    dstSlots (s.sctx r).dst ≤ filled (s.sctx r).line (s.ctxCons r)) ∧
  (∃ (s : State) (r : Nat),
    s.entryRuns r = true ∧
    s.flag (HOSTIF.SSTAT.WAIT r) = true ∧
    s.ctxNode r ≠ s.nodeId) ∧
  (∃ (s : State) (off : Nat) (write : Bool),
    s.root = true ∧
    off / 2 ^ 26 < 16 ∧
    s.flag (HOSTIF.CULV_MAP.VALID (off / 2 ^ 26)) = false ∧
    write = false) ∧
  (∃ (s : State) (off : Nat),
    s.root = true ∧
    off / 2 ^ 26 < 16 ∧
    s.flag (HOSTIF.CULV_MAP.VALID (off / 2 ^ 26)) = true ∧
    s.get (HOSTIF.CULV_MAP.NODE (off / 2 ^ 26)) = s.nodeId) ∧
  (∃ (s : State) (off : Nat),
    s.root = true ∧
    off / 2 ^ 26 < 16 ∧
    s.flag (HOSTIF.CULV_MAP.VALID (off / 2 ^ 26)) = true ∧
    s.get (HOSTIF.CULV_MAP.NODE (off / 2 ^ 26)) = s.nodeId) ∧
  (∃ (s : State) (off : Nat),
    s.root = true ∧
    off / 2 ^ 26 < 16 ∧
    s.flag (HOSTIF.CULV_MAP.VALID (off / 2 ^ 26)) = true ∧
    s.get (HOSTIF.CULV_MAP.NODE (off / 2 ^ 26)) ≠ s.nodeId) ∧
  (∃ (s : State) (off : Nat),
    s.root = true ∧
    off / 2 ^ 26 < 16 ∧
    s.flag (HOSTIF.CULV_MAP.VALID (off / 2 ^ 26)) = true ∧
    s.get (HOSTIF.CULV_MAP.NODE (off / 2 ^ 26)) ≠ s.nodeId) ∧
  (∃ (s : State) (off : Nat),
    off / 2 ^ 26 < 16 ∧
    s.flag (HOSTIF.CULV_MAP.VALID (off / 2 ^ 26)) = false) :=
  ⟨⟨(st [(HOSTIF.CTL.EN, 1), (HOSTIF.HR_SIZE.SIZE_LOG2, 4)]), (3), by decide +kernel⟩,
  ⟨(st [(HOSTIF.CTL.EN, 1)]), (0xFFFFFFFF), by decide +kernel⟩,
  ⟨(st [(HOSTIF.CTL.EN, 1), (HOSTIF.HR_SIZE.SIZE_LOG2, 4)]), (70000), by decide +kernel⟩,
  ⟨(st [(HOSTIF.CTL.EN, 1), (HOSTIF.SCTX_CFG.EN 2, 1), (HOSTIF.SCTX_CFG.SIZE_LOG2 2, 4)]), (2), (3), by decide +kernel⟩,
  ⟨(st [(HOSTIF.CTL.EN, 1), (HOSTIF.SCTX_CFG.EN 2, 1)]), (2), (0xFFFFFFFF), by decide +kernel⟩,
  ⟨(st [(HOSTIF.CTL.EN, 1), (HOSTIF.SCTX_CFG.EN 2, 1), (HOSTIF.SCTX_CFG.SIZE_LOG2 2, 4)]), (2), (70000), by decide +kernel⟩,
  ⟨({ st [(HOSTIF.CTL.EN, 1), (HOSTIF.CPL_SIZE.SIZE_LOG2, 4), (⟨HOSTIF.CPL_PROD, 0, 32⟩, 3)] with small := false }), (2), by decide +kernel⟩,
  ⟨(st [(HOSTIF.CTL.EN, 1)]), (0xFFFFFFFF), by decide +kernel⟩,
  ⟨({ st [(HOSTIF.CTL.EN, 1), (HOSTIF.CPL_SIZE.SIZE_LOG2, 4), (⟨HOSTIF.CPL_PROD, 0, 32⟩, 3)] with small := false }), (12), by decide +kernel⟩,
  ⟨({ st [(HOSTIF.CTL.EN, 1), (HOSTIF.TR_SIZE.SIZE_LOG2, 4), (⟨HOSTIF.TR_PROD, 0, 32⟩, 3)] with small := false }), (2), by decide +kernel⟩,
  ⟨(st [(HOSTIF.CTL.EN, 1)]), (0xFFFFFFFF), by decide +kernel⟩,
  ⟨({ st [(HOSTIF.CTL.EN, 1), (HOSTIF.TR_SIZE.SIZE_LOG2, 4), (⟨HOSTIF.TR_PROD, 0, 32⟩, 3)] with small := false }), (12), by decide +kernel⟩,
  ⟨(st [(HOSTIF.CTL.EN, 1), (⟨HOSTIF.HR_PROD, 0, 32⟩, 3)]), ({ }), by decide +kernel⟩,
  ⟨({ State.reset with host := { parser := some [] } }), ([]), by decide +kernel⟩,
  ⟨(State.reset), by decide +kernel⟩,
  ⟨(State.reset), (([0x4A440100#32] ++ List.replicate 15 0#32)), by decide +kernel⟩,
  ⟨(st [(FAB.ROUTE.VALID 1, 1)]), (([0x4A440101#32] ++ List.replicate 15 0#32)), by decide +kernel⟩,
  ⟨(st [(occFld 0, 16)]), (([0x4A440100#32] ++ List.replicate 15 0#32)), by decide +kernel⟩,
  ⟨({ st [(FAB.ROUTE.VALID 1, 1)] with fab := { txns := [⟨1, 1, false, true, .culvertWrite 0⟩] } }), (([0x4A440101#32] ++ List.replicate 15 0#32)), by decide +kernel⟩,
  ⟨(State.reset), ([]), by decide +kernel⟩,
  ⟨(State.reset), (([0x4A440101#32] ++ List.replicate 15 0#32)), by decide +kernel⟩,
  ⟨(State.reset), by decide +kernel⟩,
  ⟨({ State.reset with host := { parserOld := true } }), by decide +kernel⟩,
  ⟨(State.reset), ((List.replicate 16 0#32)), by decide +kernel⟩,
  ⟨(State.reset), ([]), by decide +kernel⟩,
  ⟨(State.reset), ((List.replicate 16 0#32)), by decide +kernel⟩,
  ⟨({ State.reset with host := { cplBuf := List.replicate 64 [] } }), by decide +kernel⟩,
  ⟨(State.reset), ((List.replicate 16 0#32)), by decide +kernel⟩,
  ⟨(State.reset), ([]), by decide +kernel⟩,
  ⟨(State.reset), ([]), by decide +kernel⟩,
  ⟨({ State.reset with host := { cplCover := ⟨1, 1⟩ } }), by decide +kernel⟩,
  ⟨({ State.reset with host := { evtCover := ⟨1, 1⟩ } }), by decide +kernel⟩,
  ⟨(State.reset), by decide +kernel⟩,
  ⟨(st [(HOSTIF.LINK.UP, 1)]), by decide +kernel⟩,
  ⟨(State.reset), (4), (3), by decide +kernel⟩,
  ⟨(State.reset), (16), (3), by decide +kernel⟩,
  ⟨({ State.reset with root := false }), by decide +kernel⟩,
  ⟨(State.reset), (2), by decide +kernel⟩,
  ⟨(st [(HOSTIF.HR_SIZE.SIZE_LOG2, 4), (HOSTIF.CPL_SIZE.SIZE_LOG2, 4), (HOSTIF.TR_SIZE.SIZE_LOG2, 4), (⟨HOSTIF.HR_BASE_HI, 0, 32⟩, 0x10000000), (⟨HOSTIF.CPL_BASE_HI, 0, 32⟩, 0x10000000), (⟨HOSTIF.TR_BASE_HI, 0, 32⟩, 0x10000000), (⟨HOSTIF.HR_SHADOW_HI, 0, 32⟩, 0x10000000)]), by decide +kernel⟩,
  ⟨(st [(HOSTIF.CTL.EN, 1), (HOSTIF.SCTX_CFG.EN 2, 1), (⟨HOSTIF.SCTX_PROD 2, 0, 32⟩, 1)]), (2), ({ }), by decide +kernel⟩,
  ⟨({ st [(HOSTIF.SCTX_CFG.EN 2, 1)] with host := { ctx := [(2, { entry := [0#32] })] } }), (2), by decide +kernel⟩,
  ⟨(st [(HOSTIF.CTL.EN, 1), (HOSTIF.SCTX_CFG.EN 2, 1), (⟨HOSTIF.SCTX_PROD 2, 0, 32⟩, 1)]), (2), ({ status := 1 }), by decide +kernel⟩,
  ⟨(State.reset), (2), by decide +kernel⟩,
  ⟨({ State.reset with host := { ctx := [(2, { entry := [0#32, 3#32], begun := true })] } }), (2), by decide +kernel⟩,
  ⟨(st [(HOSTIF.CTL.EN, 1), (HOSTIF.SCTX_CFG.EN 2, 1), (HOSTIF.SSTAT.WAIT 2, 1), (HOSTIF.SCTX_CFG.NODE 2, 3)]), (2), by decide +kernel⟩,
  ⟨(State.reset), (0), (false), by decide +kernel⟩,
  ⟨(st [(HOSTIF.CULV_MAP.VALID 0, 1)]), (0), by decide +kernel⟩,
  ⟨(st [(HOSTIF.CULV_MAP.VALID 0, 1)]), (0), by decide +kernel⟩,
  ⟨(st [(HOSTIF.CULV_MAP.VALID 0, 1), (HOSTIF.CULV_MAP.NODE 0, 3)]), (0), by decide +kernel⟩,
  ⟨(st [(HOSTIF.CULV_MAP.VALID 0, 1), (HOSTIF.CULV_MAP.NODE 0, 3)]), (0), by decide +kernel⟩,
  ⟨(State.reset), (0), by decide +kernel⟩⟩

/-- What DmaRuns assumes, clause by clause, holds somewhere. -/
theorem witness_DmaRuns :
  (∃ (s : State) (n : Nat),
    n < 16 ∧
    s.blockOn DMA.CTL.EN 5 = false) ∧
  (∃ (s : State) (n : Nat),
    n < 16 ∧
    (s.get (DMA.CH_STAT.STATE n) = dmaRunning ∨ s.get (DMA.CH_STAT.STATE n) = dmaStopping ∨ s.get (DMA.CH_STAT.STATE n) = dmaQuiesced)) ∧
  (∃ (s : State) (n : Nat),
    n < 16 ∧
    s.blockOn DMA.CTL.EN 5 = true ∧
    (s.get (DMA.CH_STAT.STATE n) = dmaIdle ∨ s.get (DMA.CH_STAT.STATE n) = dmaStopped ∨ s.get (DMA.CH_STAT.STATE n) = dmaHalted) ∧
    s.rd64 (DMA.CH_DESC_LO n) (DMA.CH_DESC_HI n) % 32 ≠ 0 ∧
    s.badSpace (s.rd64 (DMA.CH_DESC_LO n) (DMA.CH_DESC_HI n)) = false) ∧
  (∃ (s : State) (n : Nat),
    n < 16 ∧
    s.blockOn DMA.CTL.EN 5 = true ∧
    (s.get (DMA.CH_STAT.STATE n) = dmaIdle ∨ s.get (DMA.CH_STAT.STATE n) = dmaStopped ∨ s.get (DMA.CH_STAT.STATE n) = dmaHalted) ∧
    s.badSpace (s.rd64 (DMA.CH_DESC_LO n) (DMA.CH_DESC_HI n)) = true) ∧
  (∃ (s : State) (n : Nat),
    16 ≤ n) ∧
  (∃ (s : State) (n : Nat),
    n < 16 ∧
    s.blockOn DMA.CTL.EN 5 = true ∧
    (s.get (DMA.CH_STAT.STATE n) = dmaIdle ∨ s.get (DMA.CH_STAT.STATE n) = dmaStopped ∨ s.get (DMA.CH_STAT.STATE n) = dmaHalted) ∧
    s.rd64 (DMA.CH_DESC_LO n) (DMA.CH_DESC_HI n) % 32 = 0 ∧
    s.badSpace (s.rd64 (DMA.CH_DESC_LO n) (DMA.CH_DESC_HI n)) = false) ∧
  (∃ (s : State) (d : DmaDesc),
    s.dmaCode d = 0 ∧
    s.namesDomain s.dma.down d = false) ∧
  (∃ (s : State) (d : DmaDesc),
    s.dmaCode d ≠ 0) ∧
  (∃ (s : State) (d : DmaDesc),
    d.status = 0 ∧
    (d.op = 0 ∨ 5 ≤ d.op)) ∧
  (∃ (s : State) (d : DmaDesc),
    d.status = 0 ∧
    1 ≤ d.op ∧
    d.op ≤ 4 ∧
    d.len = 0) ∧
  (∃ (s : State) (n : Nat) (x : Access) (nx : Access) (d : DmaDesc),
    s.dmaTask n 1 = some d ∧
    ((s.fetchShadow n d nx).dmaRead d.src d.src d.len x).fail = none) ∧
  (∃ (s : State) (n : Nat) (x : Access) (nx : Access) (d : DmaDesc),
    s.dmaTask n 1 = some d ∧
    ((s.fetchShadow n d nx).dmaRead d.src d.src d.len x).fail ≠ none) ∧
  (∃ (s : State) (n : Nat),
    s.dmaTask n 2 = none) ∧
  (∃ (s : State) (n : Nat),
    s.dmaTask n 3 = none) ∧
  (∃ (s : State) (n : Nat),
    s.dmaTask n 4 = none) ∧
  (∃ (s : State) (n : Nat) (d : DmaDesc),
    s.dmaTask n 2 = some d) ∧
  (∃ (s : State) (n : Nat) (d : DmaDesc),
    s.dmaTask n 3 = some d) ∧
  (∃ (s : State) (n : Nat) (d : DmaDesc),
    s.dmaTask n 4 = some d) ∧
  (∃ (s : State) (n : Nat),
    s.dmaTask n 1 = none) ∧
  (∃ (s : State) (n : Nat) (d : DmaDesc),
    n < 16 ∧
    (s.dmaCh n).active = some d ∧
    (s.dmaCh n).phase = 2 ∧
    s.domainRuns 9 = true) ∧
  (∃ (s : State) (n : Nat),
    ((s.dmaCh n).phase ≠ 2 ∨ (s.dmaCh n).active = none ∨ 16 ≤ n ∨ s.domainRuns 9 = false)) ∧
  (∃ (s : State) (n : Nat),
    (s.dmaCh n).fail = none ∧
    (s.dmaCh n).mismatch = true) ∧
  (∃ (s : State) (d : DmaDesc),
    d.endBit = true) ∧
  (∃ (s : State) (n : Nat) (d : DmaDesc) (e : DmaDesc),
    d.endBit = false ∧
    (s.dmaCh n).stop = false ∧
    (s.dmaCh n).shadow = some e ∧
    s.affected n = false) ∧
  (∃ (s : State) (n : Nat) (d : DmaDesc) (e : DmaDesc),
    d.endBit = false ∧
    (s.dmaCh n).stop = false ∧
    (s.dmaCh n).shadow = some e ∧
    s.affected n = true) ∧
  (∃ (s : State) (n : Nat),
    n < 16 ∧
    s.get (DMA.CH_STAT.STATE n) = 1) ∧
  (∃ (s : State) (n : Nat) (d : DmaDesc),
    n < 16 ∧
    s.get (DMA.CH_STAT.STATE n) = 5 ∧
    (s.dmaCh n).shadow = some d) ∧
  (∃ (s : State) (n : Nat),
    n < 16 ∧
    s.get (DMA.CH_STAT.STATE n) = 5 ∧
    (s.dmaCh n).shadow = none) ∧
  (∃ (s : State) (n : Nat),
    s.get (DMA.CH_STAT.STATE n) ≠ 1 ∧
    s.get (DMA.CH_STAT.STATE n) ≠ 5) ∧
  (∃ (s : State) (n : Nat) (d : DmaDesc),
    (s.dmaCh n).active = some d ∧
    (s.dmaCh n).stop = false) ∧
  (∃ (s : State),
    s.flag DMA.STATUS.QUIESCING = true) :=
  ⟨⟨(State.reset), (2), by decide +kernel⟩,
  ⟨(st [(DMA.CH_STAT.STATE 2, 1)]), (2), by decide +kernel⟩,
  ⟨(st [(DMA.CTL.EN, 1), (⟨DMA.CH_DESC_LO 2, 0, 32⟩, 4)]), (2), by decide +kernel⟩,
  ⟨(st [(DMA.CTL.EN, 1), (⟨DMA.CH_DESC_HI 2, 0, 32⟩, 0x30000000)]), (2), by decide +kernel⟩,
  ⟨(State.reset), (16), by decide +kernel⟩,
  ⟨(st [(DMA.CTL.EN, 1)]), (2), by decide +kernel⟩,
  ⟨(State.reset), ((⟨0x10000000, [0x18000020#32, 0x10001000#32, 0#32, 0x10002000#32, 0#32, 0#32, 0#32, 0#32], 0⟩ : DmaDesc)), by decide +kernel⟩,
  ⟨(State.reset), ((⟨0x10000000, [0x78000020#32, 0x10001000#32, 0#32, 0x10002000#32, 0#32, 0#32, 0#32, 0#32], 0⟩ : DmaDesc)), by decide +kernel⟩,
  ⟨(State.reset), ((⟨0x10000000, [0x78000020#32, 0x10001000#32, 0#32, 0x10002000#32, 0#32, 0#32, 0#32, 0#32], 0⟩ : DmaDesc)), by decide +kernel⟩,
  ⟨(State.reset), (⟨0, [0x10000000#32], 0⟩), by decide +kernel⟩,
  ⟨({ st [(DMA.CTL.EN, 1), (DMA.CH_STAT.STATE 2, 1)] with dma := { chans := [{}, {}, { active := some (⟨0x10000000, [0x18000020#32, 0x10001000#32, 0#32, 0x10002000#32, 0#32, 0#32, 0#32, 0#32], 0⟩ : DmaDesc), slot := true }] } }), (2), ({ }), ({ }), ((⟨0x10000000, [0x18000020#32, 0x10001000#32, 0#32, 0x10002000#32, 0#32, 0#32, 0#32, 0#32], 0⟩ : DmaDesc)), by decide +kernel⟩,
  ⟨({ st [(DMA.CTL.EN, 1), (DMA.CH_STAT.STATE 2, 1)] with dma := { chans := [{}, {}, { active := some (⟨0x10000000, [0x18000020#32, 0x10001000#32, 0#32, 0x10002000#32, 0#32, 0#32, 0#32, 0#32], 0⟩ : DmaDesc), slot := true }] } }), (2), ({ ue := [0x10001000] }), ({ }), ((⟨0x10000000, [0x18000020#32, 0x10001000#32, 0#32, 0x10002000#32, 0#32, 0#32, 0#32, 0#32], 0⟩ : DmaDesc)), by decide +kernel⟩,
  ⟨(State.reset), (2), by decide +kernel⟩,
  ⟨(State.reset), (2), by decide +kernel⟩,
  ⟨(State.reset), (2), by decide +kernel⟩,
  ⟨({ st [(DMA.CTL.EN, 1), (DMA.CH_STAT.STATE 2, 1)] with dma := { chans := [{}, {}, { active := some (⟨0x10000000, [0x28000020#32, 0x10001000#32, 0#32, 0x10002000#32, 0#32, 0#32, 0#32, 0#32], 0⟩ : DmaDesc), slot := true }] } }), (2), ((⟨0x10000000, [0x28000020#32, 0x10001000#32, 0#32, 0x10002000#32, 0#32, 0#32, 0#32, 0#32], 0⟩ : DmaDesc)), by decide +kernel⟩,
  ⟨({ st [(DMA.CTL.EN, 1), (DMA.CH_STAT.STATE 2, 1)] with dma := { chans := [{}, {}, { active := some (⟨0x10000000, [0x38000020#32, 0x10001000#32, 0#32, 0x10002000#32, 0#32, 0#32, 0#32, 0#32], 0⟩ : DmaDesc), slot := true }] } }), (2), ((⟨0x10000000, [0x38000020#32, 0x10001000#32, 0#32, 0x10002000#32, 0#32, 0#32, 0#32, 0#32], 0⟩ : DmaDesc)), by decide +kernel⟩,
  ⟨({ st [(DMA.CTL.EN, 1), (DMA.CH_STAT.STATE 2, 1)] with dma := { chans := [{}, {}, { active := some (⟨0x10000000, [0x48000020#32, 0x10001000#32, 0#32, 0x10002000#32, 0#32, 0#32, 0#32, 0#32], 0⟩ : DmaDesc), slot := true }] } }), (2), ((⟨0x10000000, [0x48000020#32, 0x10001000#32, 0#32, 0x10002000#32, 0#32, 0#32, 0#32, 0#32], 0⟩ : DmaDesc)), by decide +kernel⟩,
  ⟨(State.reset), (2), by decide +kernel⟩,
  ⟨({ st [(DMA.CTL.EN, 1), (DMA.CH_STAT.STATE 2, 1)] with dma := { chans := [{}, {}, { active := some (⟨0x10000000, [0x28000020#32, 0x10001000#32, 0#32, 0x10002000#32, 0#32, 0#32, 0#32, 0#32], 0⟩ : DmaDesc), slot := true, phase := 2 }] } }), (2), ((⟨0x10000000, [0x28000020#32, 0x10001000#32, 0#32, 0x10002000#32, 0#32, 0#32, 0#32, 0#32], 0⟩ : DmaDesc)), by decide +kernel⟩,
  ⟨(State.reset), (2), by decide +kernel⟩,
  ⟨({ st [(DMA.CTL.EN, 1), (DMA.CH_STAT.STATE 2, 1)] with dma := { chans := [{}, {}, { active := some (⟨0x10000000, [0x38000020#32, 0x10001000#32, 0#32, 0x10002000#32, 0#32, 0#32, 0#32, 0#32], 0⟩ : DmaDesc), slot := true, mismatch := true }] } }), (2), by decide +kernel⟩,
  ⟨(State.reset), ((⟨0x10000000, [0x28000020#32, 0x10001000#32, 0#32, 0x10002000#32, 0#32, 0#32, 0#32, 0#32], 0⟩ : DmaDesc)), by decide +kernel⟩,
  ⟨({ State.reset with dma := { chans := [{}, {}, { shadow := some (⟨0x10000000, [0x28000020#32, 0x10001000#32, 0#32, 0x10002000#32, 0#32, 0#32, 0#32, 0#32], 0⟩ : DmaDesc) }] } }), (2), (⟨0, [0#32], 0⟩), ((⟨0x10000000, [0x28000020#32, 0x10001000#32, 0#32, 0x10002000#32, 0#32, 0#32, 0#32, 0#32], 0⟩ : DmaDesc)), by decide +kernel⟩,
  ⟨({ State.reset with dma := { down := 1023, chans := [{}, {}, { shadow := some (⟨0x10000000, [0x28000020#32, 0x10001000#32, 0#32, 0x10002000#32, 0#32, 0#32, 0#32, 0#32], 0⟩ : DmaDesc) }] } }), (2), (⟨0, [0#32], 0⟩), ((⟨0x10000000, [0x28000020#32, 0x10001000#32, 0#32, 0x10002000#32, 0#32, 0#32, 0#32, 0#32], 0⟩ : DmaDesc)), by decide +kernel⟩,
  ⟨(st [(DMA.CH_STAT.STATE 2, 1)]), (2), by decide +kernel⟩,
  ⟨({ st [(DMA.CH_STAT.STATE 2, 5)] with dma := { chans := [{}, {}, { shadow := some (⟨0x10000000, [0x28000020#32, 0x10001000#32, 0#32, 0x10002000#32, 0#32, 0#32, 0#32, 0#32], 0⟩ : DmaDesc) }] } }), (2), ((⟨0x10000000, [0x28000020#32, 0x10001000#32, 0#32, 0x10002000#32, 0#32, 0#32, 0#32, 0#32], 0⟩ : DmaDesc)), by decide +kernel⟩,
  ⟨(st [(DMA.CH_STAT.STATE 2, 5)]), (2), by decide +kernel⟩,
  ⟨(State.reset), (2), by decide +kernel⟩,
  ⟨({ State.reset with dma := { chans := [{}, {}, { active := some (⟨0x10000000, [0x28000020#32, 0x10001000#32, 0#32, 0x10002000#32, 0#32, 0#32, 0#32, 0#32], 0⟩ : DmaDesc) }] } }), (2), ((⟨0x10000000, [0x28000020#32, 0x10001000#32, 0#32, 0x10002000#32, 0#32, 0#32, 0#32, 0#32], 0⟩ : DmaDesc)), by decide +kernel⟩,
  ⟨(st [(DMA.STATUS.QUIESCING, 1)]), by decide +kernel⟩⟩

/-- What MemoryCare assumes, clause by clause, holds somewhere. -/
theorem witness_MemoryCare :
  (∃ (s : State),
    s.flag MEMC.MARCH_CTL.EN = false ∧
    s.flag MEMC.MARCH_CTL.MODE = true ∧
    (bitsOf 32 (s.get MEMC.MARCH_BANKS.BANK)).filter (fun b => bit (s.get MEMC.URGENT.BANK) b || !bit (s.get MEMC.OFFLINE.BANK) b) ≠ []) ∧
  (∃ (s : State),
    s.flag MEMC.MARCH_CTL.EN = false ∧
    s.flag MEMC.MARCH_CTL.MODE = false) ∧
  (∃ (s : State),
    s.flag MEMC.MARCH_CTL.EN = false ∧
    (bitsOf 32 (s.get MEMC.MARCH_BANKS.BANK)).filter (fun b => bit (s.get MEMC.URGENT.BANK) b || !bit (s.get MEMC.OFFLINE.BANK) b) = []) ∧
  (∃ (s : State),
    s.flag MEMC.MARCH_CTL.EN = true) ∧
  (∃ (s : State),
    s.blockOn MEMC.MARCH_CTL.EN 7 = false) ∧
  (∃ (s : State),
    (s.blockOn MEMC.MARCH_CTL.EN 7 = false ∨ s.flag MEMC.MARCH_CTL.MODE = true)) ∧
  (∃ (s : State) (b : Nat) (w : Nat),
    s.blockOn MEMC.MARCH_CTL.EN 7 = true ∧
    s.flag MEMC.MARCH_CTL.MODE = false ∧
    s.marchPlace = some (b, w)) ∧
  (∃ (s : State) (b : Nat) (w : Nat),
    s.Inv ∧
    s.blockOn MEMC.MARCH_CTL.EN 7 = true ∧
    s.flag MEMC.MARCH_CTL.MODE = true ∧
    s.marchPlace = some (b, w)) ∧
  (∃ (s : State) (b : Nat) (w : Nat),
    s.blockOn MEMC.MARCH_CTL.EN 7 = true ∧
    s.flag MEMC.MARCH_CTL.MODE = false ∧
    s.marchPlace = some (b, w) ∧
    s.memc.yields < 15 ∧
    s.get MEMC.MARCH_POS.BANK = b ∧
    s.get MEMC.MARCH_POS.WINDOW = w) ∧
  (∃ (s : State) (b : Nat) (w : Nat),
    s.blockOn MEMC.MARCH_CTL.EN 7 = true ∧
    s.flag MEMC.MARCH_CTL.MODE = false ∧
    s.marchPlace = some (b, w) ∧
    (s.get MEMC.MARCH_POS.BANK ≠ b ∨ s.get MEMC.MARCH_POS.WINDOW ≠ w)) ∧
  (∃ (s : State) (b : Nat) (w : Nat),
    s.blockOn MEMC.MARCH_CTL.EN 7 = true ∧
    s.flag MEMC.MARCH_CTL.MODE = false ∧
    s.marchPlace = some (b, w) ∧
    15 ≤ s.memc.yields ∧
    s.get MEMC.MARCH_POS.BANK = b ∧
    s.get MEMC.MARCH_POS.WINDOW = w) ∧
  (∃ (s : State),
    s.flag DRAMC.CTL.EN = false) ∧
  (∃ (s : State),
    s.flag DRAMC.CTL.EN = true) ∧
  (∃ (s : State),
    (s.memc.training = false ∨ s.pmu.waiting.contains 8 = true)) ∧
  (∃ (s : State) (bad : Nat),
    s.memc.training = true ∧
    s.pmu.waiting.contains 8 = false ∧
    bad % 4 ≠ 0) ∧
  (∃ (s : State),
    s.memc.training = true ∧
    s.pmu.waiting.contains 8 = false) ∧
  (∃ (s : State),
    s.flag DRAMC.SCRUB_CFG.EN = true ∧
    s.flag DRAMC.STATUS.READY = true ∧
    s.flag DRAMC.STATUS.SELF_REFRESH = false) ∧
  (∃ (s : State),
    s.flag DRAMC.SCRUB_CFG.EN = true ∧
    s.flag DRAMC.STATUS.READY = true ∧
    s.flag DRAMC.STATUS.SELF_REFRESH = false) ∧
  (∃ (s : State),
    s.flag DRAMC.STATUS.SELF_REFRESH = true) ∧
  (∃ (s : State) (part : Nat),
    part < 4 ∧
    s.flag (wipeFld part) = false ∧
    s.held = false) ∧
  (∃ (s : State) (part : Nat),
    part = 4 ∧
    s.flag (wipeFld part) = false ∧
    s.memc.training = true ∧
    s.held = false) ∧
  (∃ (s : State) (part : Nat),
    (s.flag (wipeFld part) = true ∨ part = 4 ∧ s.memc.training = false ∨ 5 ≤ part ∨ s.held = true)) :=
  ⟨⟨(st [(MEMC.MARCH_CTL.MODE, 1), (MEMC.MARCH_BANKS.BANK, 2)]), by decide +kernel⟩,
  ⟨(State.reset), by decide +kernel⟩,
  ⟨(st [(MEMC.MARCH_CTL.MODE, 1)]), by decide +kernel⟩,
  ⟨(st [(MEMC.MARCH_CTL.EN, 1)]), by decide +kernel⟩,
  ⟨(State.reset), by decide +kernel⟩,
  ⟨(State.reset), by decide +kernel⟩,
  ⟨(st [(MEMC.MARCH_CTL.EN, 1), (MEMC.MARCH_BANKS.BANK, 6), (MEMC.MARCH_POS.BANK, 1)]), (1), (0), by decide +kernel⟩,
  ⟨(st [(MEMC.MARCH_CTL.EN, 1), (MEMC.MARCH_BANKS.BANK, 6), (MEMC.MARCH_POS.BANK, 1), (MEMC.MARCH_CTL.MODE, 1), (MEMC.OFFLINE.BANK, 6)]), (1), (0), by decide +kernel⟩,
  ⟨(st [(MEMC.MARCH_CTL.EN, 1), (MEMC.MARCH_BANKS.BANK, 6), (MEMC.MARCH_POS.BANK, 1)]), (1), (0), by decide +kernel⟩,
  ⟨(st [(MEMC.MARCH_CTL.EN, 1), (MEMC.MARCH_BANKS.BANK, 6), (MEMC.MARCH_POS.BANK, 1), (MEMC.URGENT.BANK, 2)]), (2), (0), by decide +kernel⟩,
  ⟨({ st [(MEMC.MARCH_CTL.EN, 1), (MEMC.MARCH_BANKS.BANK, 6), (MEMC.MARCH_POS.BANK, 1)] with memc := { yields := 15 } }), (1), (0), by decide +kernel⟩,
  ⟨(State.reset), by decide +kernel⟩,
  ⟨(st [(DRAMC.CTL.EN, 1)]), by decide +kernel⟩,
  ⟨(State.reset), by decide +kernel⟩,
  ⟨({ State.reset with memc := { training := true } }), (1), by decide +kernel⟩,
  ⟨({ State.reset with memc := { training := true } }), by decide +kernel⟩,
  ⟨(st [(DRAMC.SCRUB_CFG.EN, 1), (DRAMC.STATUS.READY, 1)]), by decide +kernel⟩,
  ⟨(st [(DRAMC.SCRUB_CFG.EN, 1), (DRAMC.STATUS.READY, 1)]), by decide +kernel⟩,
  ⟨(st [(DRAMC.STATUS.SELF_REFRESH, 1)]), by decide +kernel⟩,
  ⟨(State.reset), (0), by decide +kernel⟩,
  ⟨({ State.reset with memc := { training := true } }), (4), by decide +kernel⟩,
  ⟨(State.reset), (4), by decide +kernel⟩⟩

/-- What ResetsAndBoot assumes, clause by clause, holds somewhere. -/
theorem witness_ResetsAndBoot :
  (∃ (s : State) (cause : Nat),
    s.held = false ∧
    cause < 5) ∧
  (∃ (s : State),
    s.held = true) ∧
  (∃ (s : State) (cause : Nat),
    5 ≤ cause) ∧
  (∃ (s : State) (cause : Nat),
    s.Inv ∧
    cause < 5 ∧
    s.held = false) ∧
  (∃ (s : State) (v : Nat),
    bit v 31 = true ∧
    v % 65536 = 0xD5EC) ∧
  (∃ (s : State) (v : Nat),
    (v % 65536 ≠ 0xD5EC ∨ bit v 31 = false)) ∧
  (∃ (s : State),
    s.flag SYS.SUMP_STAT.ACTIVE = true ∧
    s.sys.sumpEnded = true ∧
    s.get SYS.SUMP_CTL.RST_TMO ≠ 0) ∧
  (∃ (s : State),
    (s.flag SYS.SUMP_STAT.ACTIVE = false ∨ s.sys.sumpEnded = false ∨ s.get SYS.SUMP_CTL.RST_TMO = 0)) ∧
  (∃ (s : State) (l : List Nat),
    s.sys.romFor = some l ∧
    l.any (fun n => s.get (DMA.CH_STAT.STATE n) == dmaStopping) = true) ∧
  (∃ (s : State) (l : List Nat),
    s.sys.romFor = some l ∧
    l.any (fun n => s.get (DMA.CH_STAT.STATE n) == dmaStopping) = false) ∧
  (∃ (s : State),
    s.flag SYS.WDT_CTL.EN = true ∧
    s.flag SYS.SUMP_STAT.ACTIVE = false ∧
    ((s.bump SYS.WDT_STAT.RESETS).get SYS.WDT_CTL.ESC_N = 0 ∨ (s.bump SYS.WDT_STAT.RESETS).get SYS.WDT_STAT.RESETS < (s.bump SYS.WDT_STAT.RESETS).get SYS.WDT_CTL.ESC_N)) ∧
  (∃ (s : State),
    s.flag SYS.WDT_CTL.EN = true ∧
    s.flag SYS.SUMP_STAT.ACTIVE = false ∧
    (s.bump SYS.WDT_STAT.RESETS).get SYS.WDT_CTL.ESC_N ≠ 0 ∧
    (s.bump SYS.WDT_STAT.RESETS).get SYS.WDT_CTL.ESC_N ≤ (s.bump SYS.WDT_STAT.RESETS).get SYS.WDT_STAT.RESETS) ∧
  (∃ (s : State),
    (s.flag SYS.WDT_CTL.EN = false ∨ s.flag SYS.SUMP_STAT.ACTIVE = true)) ∧
  (∃ (s : State),
    s.root = true ∧
    s.romWaits = true ∧
    s.get OTP.HBOOT_LEN.LEN = 0) ∧
  (∃ (s : State) (x : Access),
    s.root = true ∧
    s.romWaits = true ∧
    1 ≤ s.get OTP.HBOOT_LEN.LEN ∧
    x.status ≠ 0) ∧
  (∃ (s : State) (x : Access),
    s.root = true ∧
    s.romWaits = true ∧
    1 ≤ s.get OTP.HBOOT_LEN.LEN ∧
    x.status = 0) ∧
  (∃ (s : State),
    (s.root = false ∨ s.romWaits = false)) ∧
  (∃ (s : State) (n : Nat),
    s.sys.romCheck = some (true, n)) ∧
  (∃ (s : State) (img : List Byte),
    (imgHeaderOk img && (s.put SYS.BOOT_STAT.STAGE 7).imgKeyOk img && imgSigOk img) = false) ∧
  (∃ (s : State) (v : Nat),
    bit v 31 = false) ∧
  (∃ (s : State) (v : Nat),
    ((s.put FAB.BOOT_CTL.LEN v).flag FAB.STATUS.BOOT_MODE = false ∨ (s.put FAB.BOOT_CTL.LEN v).romWaits = false)) ∧
  (∃ (s : State) (v : Nat),
    bit v 31 = true ∧
    (s.put FAB.BOOT_CTL.LEN v).flag FAB.STATUS.BOOT_MODE = true ∧
    (s.put FAB.BOOT_CTL.LEN v).romWaits = true ∧
    (s.put FAB.BOOT_CTL.LEN v).get FAB.BOOT_CTL.LEN = 0) ∧
  (∃ (s : State) (v : Nat),
    bit v 31 = true ∧
    (s.put FAB.BOOT_CTL.LEN v).flag FAB.STATUS.BOOT_MODE = true ∧
    (s.put FAB.BOOT_CTL.LEN v).romWaits = true ∧
    1 ≤ (s.put FAB.BOOT_CTL.LEN v).get FAB.BOOT_CTL.LEN) ∧
  (∃ (s : State) (n : Nat),
    s.sys.romCheck = some (false, n)) :=
  ⟨⟨(State.reset), (1), by decide +kernel⟩,
  ⟨({ State.reset with pmu := { off := 1 } }), by decide +kernel⟩,
  ⟨(State.reset), (5), by decide +kernel⟩,
  ⟨(State.reset), (1), by decide +kernel⟩,
  ⟨(State.reset), (0x8000D5EC), by decide +kernel⟩,
  ⟨(State.reset), (0x80000000), by decide +kernel⟩,
  ⟨({ st [(SYS.SUMP_STAT.ACTIVE, 1), (SYS.SUMP_CTL.RST_TMO, 1)] with sys := { sumpEnded := true } }), by decide +kernel⟩,
  ⟨(State.reset), by decide +kernel⟩,
  ⟨({ st [(DMA.CH_STAT.STATE 2, 2)] with sys := { romFor := some [2] } }), ([2]), by decide +kernel⟩,
  ⟨({ State.reset with sys := { romFor := some [2] } }), ([2]), by decide +kernel⟩,
  ⟨(st [(SYS.WDT_CTL.EN, 1), (SYS.WDT_CTL.ESC_N, 3)]), by decide +kernel⟩,
  ⟨(st [(SYS.WDT_CTL.EN, 1), (SYS.WDT_CTL.ESC_N, 1)]), by decide +kernel⟩,
  ⟨(State.reset), by decide +kernel⟩,
  ⟨({ st [(SYS.BOOT_STAT.STAGE, 6)] with sys := { core := .rom } }), by decide +kernel⟩,
  ⟨({ st [(SYS.BOOT_STAT.STAGE, 6), (OTP.HBOOT_LEN.LEN, 4)] with sys := { core := .rom } }), ({ status := 1 }), by decide +kernel⟩,
  ⟨({ st [(SYS.BOOT_STAT.STAGE, 6), (OTP.HBOOT_LEN.LEN, 4)] with sys := { core := .rom } }), ({ }), by decide +kernel⟩,
  ⟨(State.reset), by decide +kernel⟩,
  ⟨({ State.reset with sys := { romCheck := some (true, 4) } }), (4), by decide +kernel⟩,
  ⟨(State.reset), ([]), by decide +kernel⟩,
  ⟨(State.reset), (4), by decide +kernel⟩,
  ⟨(State.reset), (0x80000004), by decide +kernel⟩,
  ⟨({ st [(SYS.BOOT_STAT.STAGE, 6), (FAB.STATUS.BOOT_MODE, 1)] with sys := { core := .rom } }), (0x80000000), by decide +kernel⟩,
  ⟨({ st [(SYS.BOOT_STAT.STAGE, 6), (FAB.STATUS.BOOT_MODE, 1)] with sys := { core := .rom } }), (0x80000004), by decide +kernel⟩,
  ⟨({ State.reset with sys := { romCheck := some (false, 4) } }), (4), by decide +kernel⟩⟩

/-- What ManagementCore assumes, clause by clause, holds somewhere. -/
theorem witness_ManagementCore :
  (∃ (s : State) (a : Nat) (l : CacheLine),
    s.cacheLine a = some l) ∧
  (∃ (s : State) (a : Nat),
    s.cacheLine a = none) ∧
  (∃ (s : State) (v : Nat),
    v ≠ 1 ∧
    v ≠ 2 ∧
    v ≠ 3) ∧
  (∃ (s : State) (v : Nat),
    v ≠ 0xC0DE) ∧
  (∃ (s : State),
    s.flag SYS.WDT_CTL.EN = true ∧
    s.flag SYS.SUMP_STAT.ACTIVE = false ∧
    s.sys.wdtHalf = false) ∧
  (∃ (s : State),
    (s.flag SYS.WDT_CTL.EN = false ∨ s.flag SYS.SUMP_STAT.ACTIVE = true ∨ s.sys.wdtHalf = true)) ∧
  (∃ (s : State) (q : Nat),
    q < 256) ∧
  (∃ (s : State) (q : Nat),
    256 ≤ q) ∧
  (∃ (s : State),
    s.held = true) ∧
  (∃ (s : State),
    s.held = false) ∧
  (∃ (s : State),
    s.flag SYS.SUMP_STAT.ACTIVE = true ∧
    s.flag SYS.SUMP_STAT.HW_DONE = false ∧
    s.sys.sumpEnded = false ∧
    s.sumpValid = true ∧
    s.sys.sumpFw = true) ∧
  (∃ (s : State),
    s.flag SYS.SUMP_STAT.ACTIVE = true ∧
    s.flag SYS.SUMP_STAT.HW_DONE = false ∧
    s.sys.sumpEnded = false ∧
    s.sumpValid = false ∧
    s.sys.sumpFw = false) ∧
  (∃ (s : State),
    s.flag SYS.SUMP_STAT.ACTIVE = true ∧
    s.flag SYS.SUMP_STAT.HW_DONE = false ∧
    s.sys.sumpEnded = false ∧
    s.sumpValid = true ∧
    s.sys.sumpFw = false) ∧
  (∃ (s : State),
    s.sumpValid = false ∧
    s.sys.sumpFw = true) ∧
  (∃ (s : State),
    (s.flag SYS.SUMP_STAT.ACTIVE = false ∨ s.flag SYS.SUMP_STAT.HW_DONE = true ∨ s.sys.sumpEnded = true)) ∧
  (∃ (s : State),
    (s.flag SYS.SUMP_STAT.ACTIVE = false ∨ s.sys.sumpEnded = true)) ∧
  (∃ (s : State),
    (s.flag SYS.SUMP_STAT.ACTIVE = false ∨ s.sys.sumpEnded = true)) ∧
  (∃ (s : State),
    s.flag SYS.SUMP_STAT.ACTIVE = true ∧
    s.sys.sumpEnded = false) ∧
  (∃ (s : State),
    s.flag SYS.SUMP_STAT.ACTIVE = true ∧
    s.sys.sumpEnded = false) :=
  ⟨⟨({ State.reset with sys := { cache := [⟨0x10000020, true, List.replicate 32 1#8⟩] } }), (0x10000024), (⟨0x10000020, true, List.replicate 32 1#8⟩), by decide +kernel⟩,
  ⟨(State.reset), (0x10000024), by decide +kernel⟩,
  ⟨(State.reset), (0), by decide +kernel⟩,
  ⟨(State.reset), (1), by decide +kernel⟩,
  ⟨(st [(SYS.WDT_CTL.EN, 1)]), by decide +kernel⟩,
  ⟨(State.reset), by decide +kernel⟩,
  ⟨(State.reset), (5), by decide +kernel⟩,
  ⟨(State.reset), (256), by decide +kernel⟩,
  ⟨({ State.reset with pmu := { off := 1 } }), by decide +kernel⟩,
  ⟨(State.reset), by decide +kernel⟩,
  ⟨({ st [(SYS.SUMP_STAT.ACTIVE, 1), (⟨SYS.SUMP_BASE_LO, 0, 32⟩, 0x10000000)] with sys := { sumpFw := true } }), by decide +kernel⟩,
  ⟨({ st [(SYS.SUMP_STAT.ACTIVE, 1), (⟨SYS.SUMP_BASE_LO, 0, 32⟩, 1)] with sys := { sumpFw := false } }), by decide +kernel⟩,
  ⟨({ st [(SYS.SUMP_STAT.ACTIVE, 1), (⟨SYS.SUMP_BASE_LO, 0, 32⟩, 0x10000000)] with sys := { sumpFw := false } }), by decide +kernel⟩,
  ⟨({ st [(SYS.SUMP_STAT.ACTIVE, 1), (⟨SYS.SUMP_BASE_LO, 0, 32⟩, 1)] with sys := { sumpFw := true } }), by decide +kernel⟩,
  ⟨(State.reset), by decide +kernel⟩,
  ⟨(State.reset), by decide +kernel⟩,
  ⟨(State.reset), by decide +kernel⟩,
  ⟨({ st [(SYS.SUMP_STAT.ACTIVE, 1)] with sys := { sumpFw := true } }), by decide +kernel⟩,
  ⟨({ st [(SYS.SUMP_STAT.ACTIVE, 1)] with sys := { sumpFw := true } }), by decide +kernel⟩⟩

/-- What FuseCommands assumes, clause by clause, holds somewhere. -/
theorem witness_FuseCommands :
  (∃ (s : State),
    s.held = true) ∧
  (∃ (s : State),
    s.held = true) ∧
  (∃ (s : State),
    s.held = true) ∧
  (∃ (s : State),
    s.held = true) ∧
  (∃ (s : State) (vpp : Bool),
    (s.senseVpp vpp).pgmCode ((s.senseVpp vpp).get OTP.PGM_WORD.INDEX) ((s.senseVpp vpp).rd OTP.PGM_DATA).toNat = 0 ∧
    s.held = false) ∧
  (∃ (s : State) (vpp : Bool) (c : Nat),
    (s.senseVpp vpp).pgmCode ((s.senseVpp vpp).get OTP.PGM_WORD.INDEX) ((s.senseVpp vpp).rd OTP.PGM_DATA).toNat = c ∧
    c ≠ 0 ∧
    s.held = false) ∧
  (∃ (s : State),
    s.lcState = 5) ∧
  (∃ (s : State) (w : Nat),
    s.lcState ≠ 5 ∧
    s.failed (otpRegion w) = true) ∧
  (∃ (s : State) (w : Nat) (d : Nat),
    s.otp.cmd = some (.program w d)) ∧
  (∃ (s : State),
    (match s.otp.cmd with | some (.program _ _) => false | _ => true) = true) ∧
  (∃ (s : State),
    (match s.otp.cmd with | some (.finalise _ _) => false | _ => true) = true) ∧
  (∃ (s : State) (vpp : Bool),
    (s.senseVpp vpp).finCode ((s.senseVpp vpp).get OTP.FIN_CTL.REGION) ((s.senseVpp vpp).flag OTP.FIN_CTL.FORCE) = 0 ∧
    s.held = false) ∧
  (∃ (s : State) (vpp : Bool) (c : Nat),
    (s.senseVpp vpp).finCode ((s.senseVpp vpp).get OTP.FIN_CTL.REGION) ((s.senseVpp vpp).flag OTP.FIN_CTL.FORCE) = c ∧
    c ≠ 0 ∧
    s.held = false) ∧
  (∃ (s : State) (q : Nat),
    s.lcState ≠ 5 ∧
    (q = 0 ∨ q = 2 ∨ hasLocks q = true) ∧
    s.failed q = false ∧
    s.closed q = false ∧
    s.lcForbids q = false ∧
    s.pgmHold = 0 ∧
    s.slotMissing q = true) ∧
  (∃ (s : State) (burn : List Burn) (q : Nat) (i : Nat) (forced : Bool),
    s.otp.cmd = some (.finalise q forced) ∧
    (s.burnCounted (s.finBits q forced) burn).2 = some i) ∧
  (∃ (s : State) (burn : List Burn) (q : Nat) (forced : Bool),
    s.otp.cmd = some (.finalise q forced) ∧
    (s.burnCounted (s.finBits q forced) burn).2 = none) ∧
  (∃ (s : State) (v : Nat),
    v / 16 % 4 = 0 ∧
    s.held = false) ∧
  (∃ (s : State) (vpp : Bool) (v : Nat),
    v / 16 % 4 ≠ 0 ∧
    (s.senseVpp vpp).lockCode (v % 16) = 0 ∧
    s.held = false) ∧
  (∃ (s : State) (v : Nat) (burn : List Burn) (sofar : List Burn),
    s.otp.lock = some ⟨v, burn, sofar⟩ ∧
    ((s.onOtp (fun o => { o with lock := none })).syncBusy).opOn (v % 16) sofar = none) ∧
  (∃ (s : State) (v : Nat) (burn : List Burn) (sofar : List Burn) (gone : List Nat) (rest : List Nat),
    s.otp.lock = some ⟨v, burn, sofar⟩ ∧
    ((s.onOtp (fun o => { o with lock := none })).syncBusy).opOn (v % 16) sofar = some (gone, rest)) ∧
  (∃ (s : State) (vpp : Bool) (v : Nat) (c : Nat),
    v / 16 % 4 ≠ 0 ∧
    (s.senseVpp vpp).lockCode (v % 16) = c ∧
    c ≠ 0 ∧
    s.held = false) ∧
  (∃ (s : State) (v : Nat),
    v / 2 ^ 16 % 2 ^ 16 ≠ 0x1C5E ∧
    s.held = false) ∧
  (∃ (s : State) (v : Nat) (e : ResetEnv) (c : Nat),
    v / 2 ^ 16 % 2 ^ 16 = 0x1C5E ∧
    (s.senseVpp e.vpp).lcCode (v % 8) = c ∧
    c ≠ 0 ∧
    s.held = false) ∧
  (∃ (s : State) (v : Nat) (e : ResetEnv),
    v / 2 ^ 16 % 2 ^ 16 = 0x1C5E ∧
    (s.senseVpp e.vpp).lcCode (v % 8) = 0 ∧
    s.held = false) ∧
  (∃ (s : State) (k : Nat) (e : ResetEnv),
    s.otp.cmd = some (.transition k e) ∧
    (s.burnCounted (s.lifeBits (k - 1)) e.burn).2 = none) ∧
  (∃ (s : State) (k : Nat) (e : ResetEnv) (i : Nat),
    s.otp.cmd = some (.transition k e) ∧
    (s.burnCounted (s.lifeBits (k - 1)) e.burn).2 = some i) :=
  ⟨⟨({ State.reset with pmu := { off := 1 } }), by decide +kernel⟩,
  ⟨({ State.reset with pmu := { off := 1 } }), by decide +kernel⟩,
  ⟨({ State.reset with pmu := { off := 1 } }), by decide +kernel⟩,
  ⟨({ State.reset with pmu := { off := 1 } }), by decide +kernel⟩,
  ⟨(State.reset), (true), by decide +kernel⟩,
  ⟨(st [(OTP.LC_STATE.STATE, 5)]), (true), (7), by decide +kernel⟩,
  ⟨(st [(OTP.LC_STATE.STATE, 5)]), by decide +kernel⟩,
  ⟨(st [(OTP.REGION_STAT.FAILED 9, 1)]), (200), by decide +kernel⟩,
  ⟨({ State.reset with otp := { cmd := some (.program 60 1) } }), (60), (1), by decide +kernel⟩,
  ⟨(State.reset), by decide +kernel⟩,
  ⟨(State.reset), by decide +kernel⟩,
  ⟨(State.reset), (true), by decide +kernel⟩,
  ⟨(st [(OTP.LC_STATE.STATE, 5)]), (true), (7), by decide +kernel⟩,
  ⟨(State.reset), (5), by decide +kernel⟩,
  ⟨({ State.reset with otp := { cmd := some (.finalise 9 false) } }), ([(0, 0)]), (9), (8128), (false), by decide +kernel⟩,
  ⟨({ State.reset with otp := { cmd := some (.finalise 9 false) } }), ((List.replicate 100 (2, 2))), (9), (false), by decide +kernel⟩,
  ⟨(State.reset), (4), by decide +kernel⟩,
  ⟨(State.reset), (true), (0x14), by decide +kernel⟩,
  ⟨({ State.reset with otp := { lock := some ⟨0x14, [], []⟩ } }), (0x14), ([]), ([]), by decide +kernel⟩,
  ⟨({ State.reset with otp := { lock := some ⟨0x14, [], []⟩, cmd := some (.program 58 0) } }), (0x14), ([]), ([]), ([]), ([]), by decide +kernel⟩,
  ⟨(State.reset), (true), (0x10), (1), by decide +kernel⟩,
  ⟨(State.reset), (1), by decide +kernel⟩,
  ⟨(State.reset), (0x1C5E0003), ({ }), (0x30), by decide +kernel⟩,
  ⟨(State.reset), (0x1C5E0001), ({ }), by decide +kernel⟩,
  ⟨({ State.reset with otp := { cmd := some (.transition 1 { burn := List.replicate 16 (2, 2) }) } }), (1), ({ burn := List.replicate 16 (2, 2) }), by decide +kernel⟩,
  ⟨({ State.reset with otp := { cmd := some (.transition 1 { burn := [(0, 0)] }) } }), (1), ({ burn := [(0, 0)] }), (194), by decide +kernel⟩⟩

/-- What PowerAndClocks assumes, clause by clause, holds somewhere. -/
theorem witness_PowerAndClocks :
  (∃ (s : State),
    s.flag PMU.STATE_STAT.BUSY = true ∧
    s.held = false) ∧
  (∃ (s : State),
    s.held = true) ∧
  (∃ (s : State) (target : Nat),
    s.flag PMU.STATE_STAT.BUSY = false ∧
    s.reqCode target = 0 ∧
    s.held = false) ∧
  (∃ (s : State) (target : Nat),
    s.flag PMU.STATE_STAT.BUSY = false ∧
    s.reqCode target ≠ 0 ∧
    s.held = false) ∧
  (∃ (s : State),
    (s.flag FIRE.STATUS.RUNNING = true ∨ s.flag FIRE.STATUS.ARMED = true)) ∧
  (∃ (s : State),
    s.pmu.goal = 1 ∧
    s.dmaReady = true) ∧
  (∃ (s : State),
    s.pmu.goal = 1 ∧
    s.dmaReady = true) ∧
  (∃ (s : State),
    s.pmu.goal = 2 ∧
    s.dmaReady = true) ∧
  (∃ (s : State),
    s.pmu.goal = 3 ∧
    s.dmaReady = true) ∧
  (∃ (s : State),
    s.pmu.goal = 0) ∧
  (∃ (s : State),
    s.dmaReady = false) ∧
  (∃ (s : State) (src : Nat),
    s.wakeValid src = true ∧
    s.pmu.goal = 0 ∧
    s.pwrState = 1) ∧
  (∃ (s : State) (src : Nat),
    s.wakeValid src = true ∧
    s.pmu.goal = 0 ∧
    s.pwrState = 2) ∧
  (∃ (s : State) (src : Nat),
    s.wakeValid src = true ∧
    s.pmu.goal ≠ 0) ∧
  (∃ (s : State) (src : Nat),
    s.wakeValid src = false) ∧
  (∃ (s : State),
    s.pmu.goal = 0 ∧
    s.pwrState = 0) ∧
  (∃ (s : State),
    s.pmu.off ≠ 2) ∧
  (∃ (s : State),
    s.pmu.off = 2) ∧
  (∃ (s : State),
    (s.pmu.off = 0 ∨ s.pmu.test = true)) ∧
  (∃ (s : State),
    s.pmu.off ≠ 0 ∧
    s.pmu.test = false) ∧
  (∃ (s : State),
    s.pmu.off = 2) ∧
  (∃ (s : State) (e : TripEnv),
    s.pmu.off ≠ 2 ∧
    e.low % 64 ≠ 0) ∧
  (∃ (s : State) (e : TripEnv),
    s.pmu.off ≠ 2 ∧
    e.low % 64 = 0) ∧
  (∃ (s : State),
    (s.held = true ∨ s.padsOn = false)) ∧
  (∃ (s : State),
    s.flag PMU.TAMPER.LATCH = true) ∧
  (∃ (s : State),
    s.flag PMU.TAMPER.LATCH = false ∧
    (((s.raise PMU.TAMPER.PIN).raise PMU.TAMPER.LATCH).when (s.raise PMU.TAMPER.PIN).tamperLink (·.setBreach)).pmu.off = 0) ∧
  (∃ (s : State),
    s.flag PMU.TAMPER.LATCH = false ∧
    (((s.raise PMU.TAMPER.PIN).raise PMU.TAMPER.LATCH).when (s.raise PMU.TAMPER.PIN).tamperLink (·.setBreach)).pmu.off ≠ 0) ∧
  (∃ (s : State),
    s.flag PMU.TAMPER.PIN = true) ∧
  (∃ (s : State),
    s.flag PMU.TAMPER.PIN = false) ∧
  (∃ (s : State) (p : Nat),
    p < 5 ∧
    s.pmu.pllRun.contains p = true ∧
    s.flag (pllFld p) = false) ∧
  (∃ (s : State) (p : Nat),
    (s.pmu.pllRun.contains p = false ∨ s.flag (pllFld p) = true ∨ 5 ≤ p)) ∧
  (∃ (s : State) (p : Nat),
    (5 ≤ p ∨ s.flag (pllFld p) = false)) ∧
  (∃ (s : State) (p : Nat),
    p < 5 ∧
    s.flag (pllFld p) = true) ∧
  (∃ (s : State) (why : Nat),
    s.flag PMU.STATUS.ON_BACKUP = false ∧
    (why = 2 ∨ why = 3 ∧ s.flag PMU.CLK_STAT.X32_OK = true)) ∧
  (∃ (s : State),
    (s.weirXtal true).flag PMU.STATUS.ON_BACKUP = false) ∧
  (∃ (s : State),
    (s.weirXtal true).flag PMU.STATUS.ON_BACKUP = true) ∧
  (∃ (s : State) (why : Nat),
    (s.flag PMU.STATUS.ON_BACKUP = true ∨ why ≠ 2 ∧ (why ≠ 3 ∨ s.flag PMU.CLK_STAT.X32_OK = false)) ∧
    why ≠ 1) ∧
  (∃ (s : State),
    s.weir.up = true) ∧
  (∃ (s : State),
    s.weir.up = false) ∧
  (∃ (s : State),
    s.weir.up = true) ∧
  (∃ (s : State) (g : Nat),
    s.hvOn g = true ∧
    s.flag (PMU.HV_CTL.EN g) = false) ∧
  (∃ (s : State) (g : Nat),
    (s.hvOn g = false ∨ s.flag (PMU.HV_CTL.EN g) = true)) ∧
  (∃ (s : State) (g : Nat) (vs : Nat),
    g < 4 ∧
    s.flag (PMU.HV_CTL.EN g) = true ∧
    s.flag (PMU.HV_STAT.RAMPING g) = true ∧
    s.hvNear g vs = true) ∧
  (∃ (s : State) (g : Nat) (vs : Nat),
    (4 ≤ g ∨ s.flag (PMU.HV_CTL.EN g) = false ∨ s.flag (PMU.HV_STAT.RAMPING g) = false ∨ s.hvNear g vs = false)) ∧
  (∃ (s : State) (g : Nat) (vs : Nat),
    g < 4 ∧
    s.hvRuns g = true ∧
    s.hvOver g vs = true) ∧
  (∃ (s : State) (g : Nat) (vs : Nat),
    g < 4 ∧
    s.hvRuns g = true ∧
    s.flag (PMU.HV_STAT.PGOOD g) = true ∧
    s.hvUnder g vs = true) ∧
  (∃ (s : State) (g : Nat) (cs : Nat),
    g < 4 ∧
    s.hvRuns g = true ∧
    s.hvLimits g cs = true) ∧
  (∃ (s : State) (g : Nat) (vs : Nat),
    (4 ≤ g ∨ s.hvRuns g = false ∨ s.hvOver g vs = false)) ∧
  (∃ (s : State) (g : Nat) (vs : Nat),
    (4 ≤ g ∨ s.hvRuns g = false ∨ s.flag (PMU.HV_STAT.PGOOD g) = false ∨ s.hvUnder g vs = false)) ∧
  (∃ (s : State) (g : Nat) (cs : Nat),
    (4 ≤ g ∨ s.hvRuns g = false ∨ s.hvLimits g cs = false)) ∧
  (∃ (s : State) (g : Nat),
    s.get (PMU.HV_SENSE.DIV g) ≠ 0) ∧
  (∃ (s : State) (g : Nat),
    (s.hvOn g = false ∨ s.flag (PMU.HV_CTL.EN g) = false)) ∧
  (∃ (s : State) (g : Nat),
    s.hvOn g = true ∧
    s.flag (PMU.HV_CTL.EN g) = true ∧
    (groupChans g).any (fun c => s.flag (WFE.CH_CTL.EN c)) = true) ∧
  (∃ (s : State) (g : Nat),
    s.hvOn g = true ∧
    s.flag (PMU.HV_CTL.EN g) = true ∧
    (groupChans g).any (fun c => s.flag (WFE.CH_CTL.EN c)) = false) ∧
  (∃ (s : State),
    s.flag PMU.PMB_XSTAT.BUSY = true) ∧
  (∃ (s : State),
    s.flag PMU.PMB_XSTAT.BUSY = false ∧
    (s.flag PMU.PMB_CTL.EN = false ∨ 5 ≤ s.get PMU.PMB_XFER.KIND)) ∧
  (∃ (s : State),
    s.flag PMU.PMB_XSTAT.BUSY = false ∧
    s.flag PMU.PMB_CTL.EN = true ∧
    s.get PMU.PMB_XFER.KIND < 5 ∧
    s.pmu.pmb.isSome = true) ∧
  (∃ (s : State),
    s.flag PMU.PMB_XSTAT.BUSY = false ∧
    s.flag PMU.PMB_CTL.EN = true ∧
    s.get PMU.PMB_XFER.KIND < 5 ∧
    s.pmu.pmb.isSome = false) ∧
  (∃ (s : State),
    s.flag PMU.PMB_XSTAT.BUSY = true ∧
    s.pmu.pmb = none) ∧
  (∃ (s : State) (k : Nat),
    s.pmu.pmb = some k) ∧
  (∃ (s : State),
    s.pmu.pmbWait = none) ∧
  (∃ (s : State) (j : PmbJob),
    s.pmu.pmbWait = some j) ∧
  (∃ (s : State),
    s.flag PMU.PMB_XSTAT.BUSY = false ∧
    s.pmu.pmb = none) ∧
  (∃ (s : State) (k : Nat) (err : Nat),
    s.polls k = true ∧
    s.pmbResult err = err ∧
    (err = 1 ∨ err = 2)) ∧
  (∃ (s : State) (k : Nat) (err : Nat),
    s.polls k = true ∧
    3 ≤ err) ∧
  (∃ (s : State) (k : Nat),
    k < 4 ∧
    s.flag PMU.PMB_CTL.EN = true ∧
    s.flag (PMU.PMB_DEV.EN k) = true ∧
    s.get PMU.PMB_CTL.POLL ≠ 0 ∧
    s.pwrState < 2 ∧
    s.flag PMU.PMB_XSTAT.BUSY = false ∧
    (s.pmu.pmb = none ∨ s.pmu.pmb = some k)) ∧
  (∃ (s : State) (k : Nat),
    (s.flag PMU.PMB_CTL.EN = false ∨ s.flag (PMU.PMB_DEV.EN k) = false ∨ s.get PMU.PMB_CTL.POLL = 0 ∨ 2 ≤ s.pwrState ∨ (s.flag PMU.PMB_XSTAT.BUSY = true ∧ s.pmu.pmbWait.isSome = false) ∨ (s.pmu.pmb.isSome = true ∧ s.pmu.pmb ≠ some k))) ∧
  (∃ (s : State) (k : Nat) (err : Nat),
    s.polls k = true ∧
    s.pmbResult err = 0) ∧
  (∃ (s : State),
    (s.pwrState ≠ 0 ∨ s.held = true)) ∧
  (∃ (s : State),
    s.pwrState = 0 ∧
    s.held = false) :=
  ⟨⟨(st [(PMU.STATE_STAT.BUSY, 1)]), by decide +kernel⟩,
  ⟨({ State.reset with pmu := { off := 1 } }), by decide +kernel⟩,
  ⟨(st [(⟨PMU.WAKE_EN, 0, 6⟩, 2)]), (1), by decide +kernel⟩,
  ⟨(State.reset), (0), by decide +kernel⟩,
  ⟨(st [(FIRE.STATUS.ARMED, 1)]), by decide +kernel⟩,
  ⟨({ State.reset with pmu := { goal := 1 } }), by decide +kernel⟩,
  ⟨({ State.reset with pmu := { goal := 1 } }), by decide +kernel⟩,
  ⟨({ State.reset with pmu := { goal := 2 } }), by decide +kernel⟩,
  ⟨({ State.reset with pmu := { goal := 3 } }), by decide +kernel⟩,
  ⟨(State.reset), by decide +kernel⟩,
  ⟨({ st [(DMA.CH_STAT.STATE 0, 1)] with dma := { down := 0x3FF, chans := [{ active := some ⟨0x10000000, [0#32, 0x10001000#32], 0⟩ }] } }), by decide +kernel⟩,
  ⟨(st [(PMU.STATE_STAT.STATE, 1), (⟨PMU.WAKE_EN, 0, 6⟩, 4)]), (2), by decide +kernel⟩,
  ⟨(st [(PMU.STATE_STAT.STATE, 2), (⟨PMU.WAKE_EN, 0, 6⟩, 4)]), (2), by decide +kernel⟩,
  ⟨({ st [(⟨PMU.WAKE_EN, 0, 6⟩, 4)] with pmu := { goal := 1 } }), (2), by decide +kernel⟩,
  ⟨(State.reset), (2), by decide +kernel⟩,
  ⟨(State.reset), by decide +kernel⟩,
  ⟨(State.reset), by decide +kernel⟩,
  ⟨({ State.reset with pmu := { off := 2 } }), by decide +kernel⟩,
  ⟨(State.reset), by decide +kernel⟩,
  ⟨({ State.reset with pmu := { off := 1 } }), by decide +kernel⟩,
  ⟨({ State.reset with pmu := { off := 2 } }), by decide +kernel⟩,
  ⟨(State.reset), ({ }), by decide +kernel⟩,
  ⟨(State.reset), ({ low := 64 }), by decide +kernel⟩,
  ⟨({ State.reset with pmu := { off := 1 } }), by decide +kernel⟩,
  ⟨(st [(PMU.TAMPER.LATCH, 1)]), by decide +kernel⟩,
  ⟨(State.reset), by decide +kernel⟩,
  ⟨({ State.reset with pmu := { off := 2 } }), by decide +kernel⟩,
  ⟨(st [(PMU.TAMPER.PIN, 1)]), by decide +kernel⟩,
  ⟨(State.reset), by decide +kernel⟩,
  ⟨({ State.reset with pmu := { pllRun := [3] } }), (3), by decide +kernel⟩,
  ⟨(State.reset), (3), by decide +kernel⟩,
  ⟨(State.reset), (3), by decide +kernel⟩,
  ⟨(st [(pllFld 0, 1)]), (0), by decide +kernel⟩,
  ⟨(State.reset), (2), by decide +kernel⟩,
  ⟨(State.reset), by decide +kernel⟩,
  ⟨(st [(PMU.STATUS.ON_BACKUP, 1)]), by decide +kernel⟩,
  ⟨(State.reset), (0), by decide +kernel⟩,
  ⟨({ State.reset with weir := { up := true } }), by decide +kernel⟩,
  ⟨({ State.reset with weir := { up := false } }), by decide +kernel⟩,
  ⟨({ State.reset with weir := { up := true, oscFallback := true } }), by decide +kernel⟩,
  ⟨(State.reset), (1), by decide +kernel⟩,
  ⟨(State.reset), (4), by decide +kernel⟩,
  ⟨(st [(PMU.HV_CTL.EN 1, 1), (PMU.HV_STAT.RAMPING 1, 1), (PMU.HV_SENSE.DIV 1, 1048576), (PMU.HV_SET.MV 1, 16000)]), (1), (1000000), by decide +kernel⟩,
  ⟨(State.reset), (1), (0), by decide +kernel⟩,
  ⟨(st [(PMU.HV_CTL.EN 1, 1), (PMU.HV_STAT.PGOOD 1, 1), (PMU.HV_SET.MV 1, 20000), (PMU.HV_SENSE.DIV 1, 1048576), (PMU.HV_ISENSE.ISENSE_FS 1, 100), (PMU.HV_LIM.OC_LIM 1, 10)]), (1), (2000000), by decide +kernel⟩,
  ⟨(st [(PMU.HV_CTL.EN 1, 1), (PMU.HV_STAT.PGOOD 1, 1), (PMU.HV_SET.MV 1, 20000), (PMU.HV_SENSE.DIV 1, 1048576), (PMU.HV_ISENSE.ISENSE_FS 1, 100), (PMU.HV_LIM.OC_LIM 1, 10)]), (1), (0), by decide +kernel⟩,
  ⟨(st [(PMU.HV_CTL.EN 1, 1), (PMU.HV_STAT.PGOOD 1, 1), (PMU.HV_SET.MV 1, 20000), (PMU.HV_SENSE.DIV 1, 1048576), (PMU.HV_ISENSE.ISENSE_FS 1, 100), (PMU.HV_LIM.OC_LIM 1, 10)]), (1), (1000000), by decide +kernel⟩,
  ⟨(State.reset), (1), (0), by decide +kernel⟩,
  ⟨(State.reset), (1), (0), by decide +kernel⟩,
  ⟨(State.reset), (1), (10), by decide +kernel⟩,
  ⟨(st [(PMU.HV_SENSE.DIV 1, 1048576)]), (1), by decide +kernel⟩,
  ⟨(State.reset), (1), by decide +kernel⟩,
  ⟨(st [(PMU.HV_CTL.EN 1, 1), (WFE.CH_CTL.EN 8, 1)]), (1), by decide +kernel⟩,
  ⟨(st [(PMU.HV_CTL.EN 1, 1)]), (1), by decide +kernel⟩,
  ⟨(st [(PMU.PMB_XSTAT.BUSY, 1)]), by decide +kernel⟩,
  ⟨(State.reset), by decide +kernel⟩,
  ⟨({ st [(PMU.PMB_CTL.EN, 1), (PMU.PMB_XFER.KIND, 4)] with pmu := { pmb := some 1 } }), by decide +kernel⟩,
  ⟨(st [(PMU.PMB_CTL.EN, 1), (PMU.PMB_XFER.KIND, 4)]), by decide +kernel⟩,
  ⟨(st [(PMU.PMB_XSTAT.BUSY, 1)]), by decide +kernel⟩,
  ⟨({ State.reset with pmu := { pmb := some 2 } }), (2), by decide +kernel⟩,
  ⟨({ State.reset with pmu := { pmb := some 2 } }), by decide +kernel⟩,
  ⟨({ State.reset with pmu := { pmb := some 2, pmbWait := some ⟨1, 4, 0, 0, 0⟩ } }), (⟨1, 4, 0, 0, 0⟩), by decide +kernel⟩,
  ⟨(State.reset), by decide +kernel⟩,
  ⟨(st [(PMU.PMB_CTL.EN, 1), (PMU.PMB_DEV.EN 2, 1), (PMU.PMB_CTL.POLL, 1)]), (2), (1), by decide +kernel⟩,
  ⟨(st [(PMU.PMB_CTL.EN, 1), (PMU.PMB_DEV.EN 2, 1), (PMU.PMB_CTL.POLL, 1)]), (2), (3), by decide +kernel⟩,
  ⟨(st [(PMU.PMB_CTL.EN, 1), (PMU.PMB_DEV.EN 2, 1), (PMU.PMB_CTL.POLL, 1)]), (2), by decide +kernel⟩,
  ⟨(State.reset), (2), by decide +kernel⟩,
  ⟨(st [(PMU.PMB_CTL.EN, 1), (PMU.PMB_DEV.EN 2, 1), (PMU.PMB_CTL.POLL, 1)]), (2), (0), by decide +kernel⟩,
  ⟨(st [(PMU.STATE_STAT.STATE, 1)]), by decide +kernel⟩,
  ⟨(State.reset), by decide +kernel⟩⟩

/-- What RegisterAccess assumes, clause by clause, holds somewhere. -/
theorem witness_RegisterAccess :
  (∃ (s : State) (issuer : Nat) (a : Nat) (b : Block) (r : RegRow) (i : Nat),
    s.mayIssue issuer = true ∧
    a % 4 = 0 ∧
    inRegRange a = true ∧
    inBells issuer a = false ∧
    blockOf a = some b ∧
    rowOf b a = some (r, i)) ∧
  (∃ (s : State) (issuer : Nat),
    s.mayIssue issuer = true) ∧
  (∃ (s : State) (issuer : Nat),
    s.mayIssue issuer = false) ∧
  (∃ (s : State) (issuer : Nat),
    s.mayIssue issuer = false) ∧
  (∃ (s : State) (issuer : Nat),
    s.mayIssue issuer = true) ∧
  (∃ (s : State) (issuer : Nat) (a : Nat) (n : Nat),
    (s.mayIssue issuer = false ∨ inRegRange a = false ∨ a / 4 = (a + n - 1) / 4 ∨ n = 0)) ∧
  (∃ (s : State) (issuer : Nat) (a : Nat) (n : Nat),
    s.mayIssue issuer = true ∧
    (n ≠ 4 ∨ a % 4 ≠ 0) ∧
    inRegRange a = true ∧
    inBells issuer a = false ∧
    (blockOf a).isNone = false) ∧
  (∃ (s : State) (issuer : Nat) (a : Nat) (n : Nat) (b : Block),
    n = 4 ∧
    s.mayIssue issuer = true ∧
    a % 4 = 0 ∧
    inRegRange a = true ∧
    inBells issuer a = false ∧
    blockOf a = some b ∧
    rowOf b a = none) ∧
  (∃ (s : State) (a : Nat),
    s.heldBits a = 0#32) ∧
  (∃ (s : State) (b : Block) (r : RegRow) (i : Nat) (a : Nat) (w : Word),
    s.owned r i = true ∧
    (w ^^^ s.rd a) &&& w32 r.stat ≠ 0#32 ∧
    a ≠ b.ignored.addr ∧
    b.ignored.width = 1 ∧
    b.ignored.lo < 32) ∧
  (∃ (s : State) (issuer : Nat) (a : Nat),
    s.mayIssue issuer = true ∧
    inRegRange a = true ∧
    inBells issuer a = false ∧
    (blockOf a).isNone = false ∧
    a % 4 = 0) ∧
  (∃ (s : State) (a : Nat) (b : Block) (r : RegRow) (i : Nat),
    blockOf a = some b ∧
    rowOf b a = some (r, i) ∧
    s.hidden a = false ∧
    a ≠ SYS.JLOG_1 ∧
    a ≠ SYS.MTIME_LO ∧
    a ≠ FAB.FT_LO ∧
    a ≠ PMU.RTC_LO) ∧
  (∃ (s : State),
    s.hidden SYS.JLOG_1 = false) ∧
  (∃ (s : State) (issuer : Nat) (a : Nat) (n : Nat),
    s.mayIssue issuer = true ∧
    inRegRange a = true ∧
    inBells issuer a = false ∧
    (blockOf a).isNone = false ∧
    n < 4 ∧
    n ≠ 0 ∧
    a / 4 = (a + n - 1) / 4 ∧
    a / 4 * 4 ∉ [SYS.MTIME_LO, FAB.FT_LO, PMU.RTC_LO]) ∧
  (∃ (s : State) (issuer : Nat) (a : Nat) (n : Nat),
    s.mayIssue issuer = true ∧
    inRegRange a = true ∧
    ((inBells issuer a = true ∨ (blockOf a).isNone = false)) ∧
    a / 4 ≠ (a + n - 1) / 4 ∧
    n ≠ 0 ∧
    (n ≠ 4 ∨ a % 4 ≠ 0)) :=
  ⟨⟨(State.reset), (0), (SYS.FW_DETAIL), ((blockOf SYS.FW_DETAIL).getD ⟨0, 0, [], SYS.STATUS.WRITE_IGNORED⟩), (((rowOf ((blockOf SYS.FW_DETAIL).getD ⟨0, 0, [], SYS.STATUS.WRITE_IGNORED⟩) SYS.FW_DETAIL).getD (⟨0, 0, 0, 0, 0, 0, 0, 0, 0, 0, 0, 0, 0⟩, 0)).1), (0), by decide +kernel⟩,
  ⟨(State.reset), (0), by decide +kernel⟩,
  ⟨(st [(OTP.LC_STATE.DEBUG_OPEN, 0)]), (15), by decide +kernel⟩,
  ⟨(st [(OTP.LC_STATE.DEBUG_OPEN, 0)]), (15), by decide +kernel⟩,
  ⟨(State.reset), (0), by decide +kernel⟩,
  ⟨(State.reset), (0), (SYS.FW_DETAIL), (4), by decide +kernel⟩,
  ⟨(State.reset), (0), (SYS.FW_DETAIL), (2), by decide +kernel⟩,
  ⟨(State.reset), (0), (0x4000FFFC), (4), ((blockOf SYS.FW_DETAIL).getD ⟨0, 0, [], SYS.STATUS.WRITE_IGNORED⟩), by decide +kernel⟩,
  ⟨(State.reset), (0x40000100), by decide +kernel⟩,
  ⟨(st [(CMP.CTL.EN, 1)]), (⟨0, 0, [], SYS.STATUS.WRITE_IGNORED⟩), (⟨0, 0, 0, 0, 0, 0, 1, 0, 0, 0, CMP.CTL, 0, 0⟩), (0), (0x40000100), (1#32), by decide +kernel⟩,
  ⟨(State.reset), (0), (SYS.JLOG_LOST), by decide +kernel⟩,
  ⟨(State.reset), (SYS.JLOG_LOST), ((blockOf SYS.JLOG_LOST).getD ⟨0, 0, [], SYS.STATUS.WRITE_IGNORED⟩), (((rowOf ((blockOf SYS.JLOG_LOST).getD ⟨0, 0, [], SYS.STATUS.WRITE_IGNORED⟩) SYS.JLOG_LOST).getD (⟨0, 0, 0, 0, 0, 0, 0, 0, 0, 0, 0, 0, 0⟩, 0)).1), (0), by decide +kernel⟩,
  ⟨(State.reset), by decide +kernel⟩,
  ⟨(State.reset), (0), (SYS.JLOG_LOST), (2), by decide +kernel⟩,
  ⟨(State.reset), (0), (SYS.FW_DETAIL + 3), (2), by decide +kernel⟩⟩

end Sys2Proof.Tests
end

section
/-! PROOFS. The RAIL op of the compositor (02_compositor.md, R53): what an op that stands next does, when the read of a
table slice changes nothing, and O28 from the two. -/

namespace Sys2Proof.Machine

/-! An op that stands next -/

/-- With its op next, runOp is the op's effect on the job, the op index and the job line (R43). -/
theorem State.runOp_of_opReady {s : State} {j : Job} {opc : Nat} (f : State → Job → Nat → Nat → State)
    (ready : s.opReady j opc) : s.runOp opc f = f s j s.cmp.op (s.get CMP.JOB_LINE.LINE) := by
  obtain ⟨hjob, hbusy, hlt, hopc, hemit, hdata⟩ := ready
  simp [State.runOp, hjob, hbusy, hlt, hopc, hemit, hdata]

/-! Reads of a table slice -/

/-- Without errors, with the slice's bank online and inside SRAM, a table read counts and reports nothing (R362-R364, R463). -/
theorem State.tableRead_of_clean {s : State} {x : Access} {lo hi : Nat} (hce : x.ce = []) (hue : x.ue = [])
    (honline : s.offline lo = false) (hsram : hi ≤ 0x10800000) : s.tableRead x lo hi = s := by
  have hin : decide (0x10800000 < hi) = false := by simpa using hsram
  simp only [State.tableRead, hce, hue, List.filter_nil, State.each, List.foldl_nil, honline, hin, State.when_false]

/-! RAIL -/

/-- The state once RAIL has read the slice of the RAIL copy of each head in a mask (R463). -/
def State.railReads (s : State) (x : Access) (mask : Nat) : State :=
  s.each (headsOf mask) (fun h v => v.tableRead x (v.railBase + 512 * h) (v.railBase + 512 * h + 512))

/-- The code that RAIL gives position k of head h of buffer b (R53). -/
def State.railCode (s : State) (x : Access) (b h k : Nat) : Code :=
  mkCode (if ds (s.lbCode b h k) == 0 then 0 else s.railBit x (4096 * h + k)) (ds (s.lbCode b h k))

/-- RAIL, when it is the next op: its reads, and then its codes unless a report has stopped the node (R51, R53). -/
theorem exec_railOp_of_opReady {s : State} {j : Job} (x : Access) (ready : s.opReady j 7) :
    exec (.railOp x) s = .next (s.goOn (s.railReads x (j.opMask s.cmp.op)) (fun w =>
      (w.mapLb j (j.opDst s.cmp.op) (j.opMask s.cmp.op) (s.railCode x (j.opDst s.cmp.op))).nextOp)) :=
  congrArg Host.Outcome.next (State.runOp_of_opReady _ ready)

/-- Reads of a copy inside SRAM, without errors and with every slice online, change nothing. -/
theorem State.railReads_of_clean {s : State} {x : Access} (mask : Nat) (hce : x.ce = []) (hue : x.ue = [])
    (hsram : s.railBase + 0x2000 ≤ 0x10800000) (honline : ∀ h, h < 16 → s.offline (s.railBase + 512 * h) = false) :
    s.railReads x mask = s := by
  refine each_id s _ _ (fun h hm => ?_)
  have hlt : h < 16 := bitsOf_lt hm
  exact State.tableRead_of_clean hce hue (honline h hlt) (by omega)

/-- Settles O28: the op is its reads and then its codes, unless a report has stopped the node (R51, R463, log entry 101);
clean reads leave the state as it was, so the codes are written on it (R53). -/
theorem railOpWrites : Obligations.RailOpWrites := by
  unfold Obligations.RailOpWrites
  refine ⟨fun s j x ready hce hue hsram honline => ?_, fun s j x ready => exec_railOp_of_opReady x ready⟩
  refine ⟨_, exec_railOp_of_opReady x ready, ?_⟩
  rw [State.railReads_of_clean _ hce hue hsram honline, State.goOn_self]
  exact op_writes s j _

end Sys2Proof.Machine
end

section
/-! PROOFS. The fuse cells (15_otp_lifecycle.md, R390): no step weakens one, since every command and the idle tick keep the
bound that Good puts under the cells, and O6 from it with the OR of a bit's two copies at each margin. -/

namespace Sys2Proof.Machine

/-- With the invariant, s less the front of its queue meets Good with its own cells as the bound. -/
theorem good_of_inv_tail {s : State} (h : s.Inv) :
    { s with pending := s.pending.tail }.Good s.pending.tail s.cell none none none := by
  obtain ⟨hmem, hregs, htime⟩ := h
  exact ⟨hmem, hregs, htime, rfl, fun _ => Nat.le_refl _, nofun, nofun, nofun⟩

/-- A step on a state with the invariant takes the front of the queue and weakens no fuse cell. -/
theorem step_answers {s : State} (h : s.Inv) : Answers s.pending.tail s.cell none none none (step s) := by
  have dequeued := good_of_inv_tail h
  unfold step
  split
  case h_1 hempty => exact answers_next (State.idleTick_good (hempty ▸ (good_of_inv h).to000))
  case h_2 c rest hfront =>
    rw [hfront] at dequeued ⊢
    exact exec_good c dequeued

/-- The bound that an answer keeps is a bound on the next state's cells. -/
theorem cell_le_of_answers {Q : List Instr} {B : Nat → Nat} {M : Option (List Host.Cell)} {F : Option (List (Nat × Nat))}
    {C : Option Cistern} {o : Host.Outcome State Fault Refusal} {t : State} (a : Answers Q B M F C o) (e : o = .next t)
    (k : Nat) : B k ≤ t.cell k := by
  obtain ⟨u, hu, good⟩ := a
  cases hu.symm.trans e
  exact good.burnt k

/-- No step weakens a fuse cell (R390). -/
theorem cell_le_of_step {s t : State} (h : s.Inv) (e : step s = .next t) (k : Nat) : s.cell k ≤ t.cell k :=
  cell_le_of_answers (step_answers h) e k

/-- At normal margin a bit is the OR of its two copies (R390). -/
theorem State.fuseBit_iff (s : State) (i : Nat) : s.fuseBit i = true ↔ 1 ≤ s.cell (2 * i) ∨ 1 ≤ s.cell (2 * i + 1) := by
  simp only [State.fuseBit, Bool.or_eq_true, decide_eq_true_eq]

/-- At the tight margin a bit is the OR of its two copies (R390). -/
theorem State.fuseTight_iff (s : State) (i : Nat) : s.fuseTight i = true ↔ 2 ≤ s.cell (2 * i) ∨ 2 ≤ s.cell (2 * i + 1) := by
  simp only [State.fuseTight, Bool.or_eq_true, decide_eq_true_eq]

/-- Settles O6: every step keeps the present cells as a bound from below, and each margin reads the OR of two cells (R390). -/
theorem fusesNeverBlank : Obligations.FusesNeverBlank := by
  unfold Obligations.FusesNeverBlank
  exact fun s _ hinv hstep => ⟨cell_le_of_step hinv hstep, fun i => ⟨s.fuseBit_iff i, s.fuseTight_iff i⟩⟩

end Sys2Proof.Machine
end

section
/-! PROOFS. What every command and every step keep: memory and registers in canonical form, fabric time below 2^48 and the
queue (00_scope.md, R135), and memory, the fuse cells and the cistern but for the commands that the model names for each. -/

namespace Sys2Proof.Machine

variable {Q : List Instr} {B : Nat → Nat} {M : Option (List Host.Cell)} {F : Option (List (Nat × Nat))} {C : Option Cistern}

/-- A command answers a next state that keeps everything of Good, but for memory, the fuse cells and the cistern only where
mayStore, mayBurn and mayMoveCistern do not name it. -/
theorem exec_keeps (c : Instr) {s : State} (hs : s.Good Q B M F C) :
    Answers Q B (if mayStore c then none else M) (if mayBurn c then none else F) (if mayMoveCistern c then none else C)
      (exec c s) := by
  cases c
  case registerWrite => exact execRegisterWrite_good hs.to000
  case rcRead => exact execRcRead_good hs.to011
  case crossingRead => exact execCrossingRead_good hs
  case armEn => exact execArmEn_good hs
  case tblSwapCal => exact execTblSwapCal_good hs
  case tblSwapRail => exact execTblSwapRail_good hs
  case tblSwapComp => exact execTblSwapComp_good hs
  case tblSwapHealth => exact execTblSwapHealth_good hs
  case swapIdleComplete => exact execSwapIdleComplete_good hs
  case errorReport => exact execErrorReport_good hs
  case sluicePin => exact execSluicePin_good hs
  case sluiceSet => exact execSluiceSet_good hs
  case sluiceClr => exact execSluiceClr_good hs
  case sluiceClrCheck => exact execSluiceClrCheck_good hs
  case fireEnable => exact execFireEnable_good hs
  case fireDisable => exact execFireDisable_good hs
  case cmpEnable => exact execCmpEnable_good hs
  case cmpDisable => exact execCmpDisable_good hs
  case composeLineBoundary => exact execComposeLineBoundary_good hs
  case opClear => exact execOpClear_good hs
  case fetchOp => exact execFetchOp_good hs
  case mergeOp => exact execMergeOp_good hs
  case lookupOp => exact execLookupOp_good hs
  case passmaskOp => exact execPassmaskOp_good hs
  case stitchOp => exact execStitchOp_good hs
  case railOp => exact execRailOp_good hs
  case compOp => exact execCompOp_good hs
  case emitOp => exact execEmitOp_good hs
  case programLoad => exact execProgramLoad_good hs
  case killSet => exact execKillSet_good hs
  case killClr => exact execKillClr_good hs
  case linePush => exact execLinePush_good hs
  case tailToHeadMove => exact execTailToHeadMove_good hs
  case spillComplete => exact execSpillComplete_good hs.to011
  case refillComplete => exact execRefillComplete_good hs
  case popLine => exact execPopLine_good hs.to011
  case popDeadline => exact execPopDeadline_good hs.to011
  case lqFlush => exact execLqFlush_good hs
  case flushEffect => exact execFlushEffect_good hs
  case flushTimeout => exact execFlushTimeout_good hs
  case lqEnable => exact execLqEnable_good hs
  case lqDisable => exact execLqDisable_good hs
  case qptrMismatch => exact execQptrMismatch_good hs
  case latStart => exact execLatStart_good hs
  case latEnd => exact execLatEnd_good hs.to011
  case frameComplete => exact execFrameComplete_good hs
  case xferLate => exact execXferLate_good hs
  case constBits => exact execConstBits_good hs
  case noz => exact execNoz_good hs
  case crcMark => exact execCrcMark_good hs
  case crcInsert => exact execCrcInsert_good hs
  case loopLane => exact execLoopLane_good hs
  case frameEnd => exact execFrameEnd_good hs
  case fpLoad => exact execFpLoad_good hs
  case fpCheckComplete => exact execFpCheckComplete_good hs
  case portEnable => exact execPortEnable_good hs
  case portReady => exact execPortReady_good hs
  case portDisable => exact execPortDisable_good hs
  case hptDisable => exact execHptDisable_good hs
  case prsSample => exact execPrsSample_good hs
  case laneFault => exact execLaneFault_good hs
  case downClr => exact execDownClr_good hs
  case i2cTransaction => exact execI2cTransaction_good hs
  case i2cDone => exact execI2cDone_good hs
  case i2cStretchTimeout => exact execI2cStretchTimeout_good hs
  case ramp => exact execRamp_good hs
  case hold => exact execHold_good hs
  case win => exact execWin_good hs
  case sense => exact execSense_good hs
  case jump => exact execJump_good hs
  case endSlot => exact execEndSlot_good hs
  case slotLimit => exact execSlotLimit_good hs
  case channelEnable => exact execChannelEnable_good hs
  case channelReady => exact execChannelReady_good hs
  case channelDisable => exact execChannelDisable_good hs
  case rampDownComplete => exact execRampDownComplete_good hs
  case wfeDisable => exact execWfeDisable_good hs
  case faultClr => exact execFaultClr_good hs
  case pdReset => exact execPdReset_good hs
  case shortFault => exact execShortFault_good hs
  case ampFlt => exact execAmpFlt_good hs
  case trackFault => exact execTrackFault_good hs
  case takeoverClr => exact execTakeoverClr_good hs
  case headDownClr => exact execHeadDownClr_good hs
  case validSample => exact execValidSample_good hs
  case predictionStale => exact execPredictionStale_good hs
  case jobArm => exact execJobArm_good hs
  case fireLineBoundary => exact execFireLineBoundary_good hs
  case rowTrigger => exact execRowTrigger_good hs
  case jobComplete => exact execJobComplete_good hs
  case inputAccepted => exact execInputAccepted_good hs
  case axisStopped => exact execAxisStopped_good hs
  case serialFrameStart => exact execSerialFrameStart_good hs
  case noack => exact execNoack_good hs
  case serialTimeout => exact execSerialTimeout_good hs
  case serialFrameComplete => exact execSerialFrameComplete_good hs
  case wireLoss => exact execWireLoss_good hs
  case wireRestore => exact execWireRestore_good hs
  case snapAll => exact execSnapAll_good hs
  case tideHandoff => exact execTideHandoff_good hs
  case axisEnable => exact execAxisEnable_good hs
  case axisDisable => exact execAxisDisable_good hs
  case tempMeasure => exact execTempMeasure_good hs
  case noRise => exact execNoRise_good hs
  case htrFault => exact execHtrFault_good hs
  case senseResult => exact execSenseResult_good hs.to011
  case forceClass => exact execForceClass_good hs.to011
  case stateClr => exact execStateClr_good hs.to011
  case publishReq => exact execPublishReq_good hs
  case pubTmo => exact execPubTmo_good hs
  case publish => exact execPublish_good hs.to011
  case nhEnable => exact execNhEnable_good hs
  case senseEn => exact execSenseEn_good hs
  case dieTempSample => exact execDieTempSample_good hs
  case calReq => exact execCalReq_good hs
  case channelRun => exact execChannelRun_good hs
  case delayPathRun => exact execDelayPathRun_good hs
  case encoderRun => exact execEncoderRun_good hs
  case encTmo => exact execEncTmo_good hs
  case baselineRun => exact execBaselineRun_good hs
  case railRun => exact execRailRun_good hs.to011
  case runComplete => exact execRunComplete_good hs.to011
  case ctlAbort => exact execCtlAbort_good hs
  case retryTmo => exact execRetryTmo_good hs
  case recalc => exact execRecalc_good hs
  case rebuild => exact execRebuild_good hs.to011
  case calExport => exact execCalExport_good hs.to011
  case calImport => exact execCalImport_good hs.to011
  case weirPor => exact execWeirPor_good hs.to110
  case tapGap => exact execTapGap_good hs.to110
  case getId => exact execGetId_good hs
  case getStatus => exact execGetStatus_good hs
  case readTotals => exact execReadTotals_good hs.to110
  case readEvent => exact execReadEvent_good hs
  case readParams => exact execReadParams_good hs
  case loadBegin => exact execLoadBegin_good hs
  case loadChunk => exact execLoadChunk_good hs
  case loadEnd => exact execLoadEnd_good hs
  case challenge => exact execChallenge_good hs
  case paramLoad => exact execParamLoad_good hs.to110
  case setParams => exact execSetParams_good hs.to100
  case sealWeir => exact execSealWeir_good hs.to100
  case addFw => exact execAddFw_good hs.to100
  case authLockExpiry => exact execAuthLockExpiry_good hs.to110
  case wxStep => exact execWxStep_good hs.to110
  case wxLost => exact execWxLost_good hs.to110
  case tapWordReceived => exact execTapWordReceived_good hs.to110
  case volUpdate => exact execVolUpdate_good hs.to110
  case sealBreach => exact execSealBreach_good hs.to110
  case latchHandling => exact execLatchHandling_good hs.to100
  case linkUp => exact execLinkUp_good hs
  case trainRetry => exact execTrainRetry_good hs
  case linkLost => exact execLinkLost_good hs
  case replayTimeout => exact execReplayTimeout_good hs
  case stopPacket => exact execStopPacket_good hs
  case clearPacket => exact execClearPacket_good hs
  case clearExec => exact execClearExec_good hs
  case bcastClr => exact execBcastClr_good hs
  case ctrlRd => exact execCtrlRd_good hs
  case ctrlWr => exact execCtrlWr_good hs.to000
  case ctrlRsp => exact execCtrlRsp_good hs
  case probe => exact execProbe_good hs
  case probeRsp => exact execProbeRsp_good hs
  case assign => exact execAssign_good hs
  case assignRsp => exact execAssignRsp_good hs
  case timePacket => exact execTimePacket_good hs
  case timeSend => exact execTimeSend_good hs
  case posPacket => exact execPosPacket_good hs
  case bulkWr => exact execBulkWr_good hs.to000
  case bulkRd => exact execBulkRd_good hs
  case wrRsp => exact execWrRsp_good hs.to011
  case rdCpl => exact execRdCpl_good hs.to011
  case creditPacket => exact execCreditPacket_good hs
  case ackPacket => exact execAckPacket_good hs
  case nakPacket => exact execNakPacket_good hs
  case keepalive => exact execKeepalive_good hs
  case dlyReq => exact execDlyReq_good hs
  case dlyRsp => exact execDlyRsp_good hs
  case delayMeasurement => exact execDelayMeasurement_good hs
  case bulkTimeout => exact execBulkTimeout_good hs.to011
  case ctrlTimeout => exact execCtrlTimeout_good hs
  case holdoverTimeout => exact execHoldoverTimeout_good hs
  case routeRestore => exact execRouteRestore_good hs
  case parentRestore => exact execParentRestore_good hs
  case creqCtrlRd => exact execCreqCtrlRd_good hs
  case creqCtrlWr => exact execCreqCtrlWr_good hs
  case creqProbe => exact execCreqProbe_good hs
  case creqAssign => exact execCreqAssign_good hs
  case fabEnable => exact execFabEnable_good hs
  case bootGo => exact execBootGo_good hs.to011
  case headraceDoorbell => exact execHeadraceDoorbell_good hs
  case completionDoorbell => exact execCompletionDoorbell_good hs
  case tailraceDoorbell => exact execTailraceDoorbell_good hs
  case streamDoorbell => exact execStreamDoorbell_good hs
  case jobDescriptor => exact execJobDescriptor_good hs
  case jqIn => exact execJqIn_good hs
  case cplIn => exact execCplIn_good hs
  case cplRetry => exact execCplRetry_good hs
  case evtIn => exact execEvtIn_good hs
  case streamEntry => exact execStreamEntry_good hs.to011
  case streamPoll => exact execStreamPoll_good hs
  case idleTmo => exact execIdleTmo_good hs
  case culvertAccess => exact execCulvertAccess_good hs.to011
  case hostFlr => exact execHostFlr_good hs
  case hostLinkDown => exact execHostLinkDown_good hs
  case hostifEnable => exact execHostifEnable_good hs
  case chGo => exact execChGo_good hs
  case dmaCopy => exact execDmaCopy_good hs.to000
  case dmaFill => exact execDmaFill_good hs.to000
  case dmaCmp => exact execDmaCmp_good hs.to000
  case dmaCmpPat => exact execDmaCmpPat_good hs.to000
  case descriptorComplete => exact execDescriptorComplete_good hs.to000
  case chStop => exact execChStop_good hs
  case quiesceRequest => exact execQuiesceRequest_good hs
  case pdQuiesceTmo => exact execPdQuiesceTmo_good hs
  case marchEnable => exact execMarchEnable_good hs
  case marchWindow => exact execMarchWindow_good hs.to011
  case marchYield => exact execMarchYield_good hs
  case dramEnable => exact execDramEnable_good hs
  case dramReady => exact execDramReady_good hs.to011
  case scrub => exact execScrub_good hs
  case wipeComplete => exact execWipeComplete_good hs.to011
  case deviceReset => exact execDeviceReset_good hs.to001
  case hbootGo => exact execHbootGo_good hs.to011
  case rstDevice => exact execRstDevice_good hs.to001
  case rstCore => exact execRstCore_good hs.to011
  case wdtKick => exact execWdtKick_good hs
  case wdtWarn => exact execWdtWarn_good hs
  case wdtExpired => exact execWdtExpired_good hs.to011
  case mcclean => exact execMcclean_good hs.to011
  case mcinval => exact execMcinval_good hs
  case mcflush => exact execMcflush_good hs.to011
  case mcall => exact execMcall_good hs.to011
  case jlogRead => exact execJlogRead_good hs
  case evqPop => exact execEvqPop_good hs
  case recClear => exact execRecClear_good hs
  case fwReport => exact execFwReport_good hs
  case loadWindow => exact execLoadWindow_good hs
  case sumpHwDone => exact execSumpHwDone_good hs.to011
  case sumpDone => exact execSumpDone_good hs.to011
  case sumpTmo => exact execSumpTmo_good hs.to011
  case rstTmo => exact execRstTmo_good hs.to001
  case nmiRearm => exact execNmiRearm_good hs
  case pgmGo => exact execPgmGo_good hs
  case pgmDone => exact execPgmDone_good hs.to101
  case finGo => exact execFinGo_good hs
  case lockCtl => exact execLockCtl_good hs.to101
  case keyOpen => exact execKeyOpen_good hs
  case lcReq => exact execLcReq_good hs.to001
  case stateReqStill => exact execStateReqStill_good hs
  case stateReqLow => exact execStateReqLow_good hs
  case stateReqDry => exact execStateReqDry_good hs
  case stateEntry => exact execStateEntry_good hs.to001
  case wake => exact execWake_good hs
  case dryWake => exact execDryWake_good hs
  case tamper => exact execTamper_good hs.to110
  case tamperClr => exact execTamperClr_good hs
  case xtalFail => exact execXtalFail_good hs.to110
  case xtalRestore => exact execXtalRestore_good hs
  case pllLock => exact execPllLock_good hs
  case pllFail => exact execPllFail_good hs
  case hvEnable => exact execHvEnable_good hs
  case pgood => exact execPgood_good hs
  case hvOv => exact execHvOv_good hs
  case hvUv => exact execHvUv_good hs
  case hvOc => exact execHvOc_good hs
  case hvDisable => exact execHvDisable_good hs
  case pmbusPoll => exact execPmbusPoll_good hs
  case sendByte => exact execSendByte_good hs
  case writeByte => exact execWriteByte_good hs
  case writeWord => exact execWriteWord_good hs
  case readByte => exact execReadByte_good hs
  case readWord => exact execReadWord_good hs
  case pmbusTimeout => exact execPmbusTimeout_good hs
  case vbatCheck => exact execVbatCheck_good hs
  case powerOn => exact execPowerOn_good hs.to001
  case supplyTrip => exact execSupplyTrip_good hs.to001
  case testEn => exact execTestEn_good hs.to001
  case vddWeirLoss => exact execVddWeirLoss_good hs.to100
  case wxRestore => exact execWxRestore_good hs
  case pcieLinkUp => exact execPcieLinkUp_good hs
  case machineTimer => exact execMachineTimer_good hs
  case x32Loss => exact execX32Loss_good hs
  case finDone => exact execFinDone_good hs.to101
  case ackSend => exact execAckSend_good hs
  case creditSend => exact execCreditSend_good hs

/-- A state that meets Good meets the invariant. -/
theorem State.Good.inv {s : State} (h : s.Good Q B M F C) : s.Inv := ⟨h.mem, h.regs, h.time⟩

/-- The next state of an answer meets the invariant. -/
theorem inv_of_answers {o : Host.Outcome State Fault Refusal} {t : State} (a : Answers Q B M F C o) (e : o = .next t) : t.Inv := by
  obtain ⟨u, hu, good⟩ := a
  cases hu.symm.trans e
  exact good.inv

/-- Settles O1: the front of the queue is the command put there. -/
theorem stepRunsFront : Obligations.StepRunsFront := by
  unfold Obligations.StepRunsFront
  exact fun _ _ => rfl

/-- Settles O2: step answers the idle tick on an empty queue. -/
theorem stepIdles : Obligations.StepIdles := by
  unfold Obligations.StepIdles
  intro s hempty
  unfold step
  rw [hempty]

/-- Settles O3: the maps of the reset state are empty, so every read gives the value of an unlisted key. -/
theorem resetMeetsInv : Obligations.ResetMeetsInv := by
  unfold Obligations.ResetMeetsInv
  exact ⟨⟨rfl, rfl, Nat.two_pow_pos 48⟩, rfl, fun _ => rfl, fun _ => rfl⟩

/-- Settles O4: a step answers a state that meets Good for the rest of the queue. -/
theorem stepKeepsInv : Obligations.StepKeepsInv := by
  unfold Obligations.StepKeepsInv
  exact fun _ _ hinv hstep => inv_of_answers (step_answers hinv) hstep

/-- Settles O5: every command answers a state that meets Good for the queue that waits. -/
theorem everyCommandCompletes : Obligations.EveryCommandCompletes := by
  unfold Obligations.EveryCommandCompletes
  intro c s hinv
  obtain ⟨t, ht, good⟩ := exec_good c (good_of_inv hinv).to000
  exact ⟨t, ht, good.queue, good.inv⟩

/-- Settles O7: a command outside mayStore answers with the memory that it found. -/
theorem onlyStorersStore : Obligations.OnlyStorersStore := by
  unfold Obligations.OnlyStorersStore
  intro c s t hinv hc hexec
  have kept := exec_keeps c (good_of_inv hinv)
  rw [hc] at kept
  exact frame_mem kept hexec

/-- Settles O8: a command outside mayBurn answers with the fuse cells that it found. -/
theorem onlyBurnersBurn : Obligations.OnlyBurnersBurn := by
  unfold Obligations.OnlyBurnersBurn
  intro c s t hinv hc hexec
  have kept := exec_keeps c (good_of_inv hinv)
  rw [hc] at kept
  exact frame_fuse kept hexec

/-- Settles O9: a command outside mayMoveCistern answers with the cistern that it found. -/
theorem onlyWeirMovesCistern : Obligations.OnlyWeirMovesCistern := by
  unfold Obligations.OnlyWeirMovesCistern
  intro c s t hinv hc hexec
  have kept := exec_keeps c (good_of_inv hinv)
  rw [hc] at kept
  exact frame_cist kept hexec

end Sys2Proof.Machine
end

section
/-! PROOFS. The arm gate and the table swaps (01_architecture.md, R16 to R22). -/

namespace Sys2Proof.Machine

/-! The arm gate -/

theorem State.disarm_of_none {s : State} (h : s.armed = none) : s.disarm = s := by
  unfold State.disarm
  rw [h]

@[simp] theorem State.dropCompare_jobs (s : State) (q : Nat) : (s.dropCompare q).jobs = s.jobs := by
  unfold State.dropCompare
  split <;> rfl

@[simp] theorem State.dropCompare_mem (s : State) (q : Nat) : (s.dropCompare q).mem = s.mem := by
  unfold State.dropCompare
  split <;> rfl

theorem State.setCompare_rd (s : State) (c : Nat) {a : Nat} (hfrac : FIRE.CMP_FRAC ≠ a) (hint : FIRE.CMP_INT ≠ a) :
    (s.setCompare c).rd a = s.rd a := (State.rd_wr_other _ _ hint).trans (State.rd_wr_other _ _ hfrac)

theorem State.dropCompare_rd (s : State) (q : Nat) {a : Nat} (hfrac : FIRE.CMP_FRAC ≠ a) (hint : FIRE.CMP_INT ≠ a) :
    (s.dropCompare q).rd a = s.rd a := by
  unfold State.dropCompare
  split
  · exact (State.onFire_rd _ _ _).trans (State.setCompare_rd _ _ hfrac hint)
  · rfl

/-- Disarming returns the armed job to the queue (R17). -/
theorem State.disarm_jobs {s : State} {j : Job} (h : s.armed = some j) :
    s.disarm.jobs = s.jobs.map (fun k => if k.seq == j.seq then { k with st := .queued } else k) := by
  unfold State.disarm
  rw [h]
  simp [State.syncFire, State.onJob]

theorem State.disarm_mem (s : State) : s.disarm.mem = s.mem := by
  unfold State.disarm
  split
  · simp [State.syncFire, State.onJob]
  · rfl

/-- Disarming writes the compare, FIRE.STATUS and the heads' status registers alone. -/
theorem State.disarm_rd (s : State) {a : Nat} (hfrac : FIRE.CMP_FRAC ≠ a) (hint : FIRE.CMP_INT ≠ a)
    (hrun : FIRE.STATUS.RUNNING.addr ≠ a) (harm : FIRE.STATUS.ARMED.addr ≠ a) (hheads : ∀ k, k < 16 → WFE.HEAD_STAT k ≠ a) :
    s.disarm.rd a = s.rd a := by
  unfold State.disarm
  split
  · rw [State.settleHeads_rd _ hheads, State.syncFire, State.rd_put_other _ _ _ harm, State.rd_put_other _ _ _ hrun,
      State.onJob_rd, State.dropCompare_rd _ _ hfrac hint]
  · rfl

theorem sameMemory_of_mem {s t : State} (h : t.mem = s.mem) : SameMemory s t := by
  intro a
  unfold State.byte
  rw [h]

theorem HEAD_STAT_ne_MGMT_CTL {k : Nat} (h : k < 16) : WFE.HEAD_STAT k ≠ SYS.MGMT_CTL.ARM_EN.addr := by
  revert k
  decide

/-- Settles O10: the set is a write, and the clear disarms, which does nothing without an armed job. -/
theorem armGate : Obligations.ArmGate := by
  unfold Obligations.ArmGate
  refine ⟨fun s => rfl, fun s hnone => ?_, fun s j hsome => ⟨_, rfl, ?_, State.disarm_jobs hsome, ?_⟩⟩
  · exact congrArg Host.Outcome.next (State.disarm_of_none (s := s.drop SYS.MGMT_CTL.ARM_EN) hnone)
  · show (State.disarm _).flag _ = false
    unfold State.flag State.get
    rw [State.disarm_rd _ (by decide) (by decide) (by decide) (by decide) fun k => HEAD_STAT_ne_MGMT_CTL]
    simp [State.drop, State.put, fieldOf_withField]
  · exact sameMemory_of_mem (State.disarm_mem (s.drop SYS.MGMT_CTL.ARM_EN))

/-! Table swaps -/

/-- A write that asks for tables not pending queues one swap of exactly them (R18, R19). -/
theorem State.requestSwap_of_new {s : State} {mask new : Nat} (hnew : new = mask % 16 &&& (15 - s.get ⟨SYS.TBL_SWAP, 0, 4⟩))
    (hne : new ≠ 0) : s.requestSwap mask = { s.put ⟨SYS.TBL_SWAP, 0, 4⟩ (s.get ⟨SYS.TBL_SWAP, 0, 4⟩ ||| new) with
      swaps := s.swaps ++ [{ mask := new, left := new, lineL := if new &&& 7 = 0 then 0 else (s.get CMP.LINE_CNT.COUNT + 1) % 2 ^ 32 }] } := by
  subst hnew
  unfold State.requestSwap
  simp only [beq_iff_eq, hne, if_false]

/-- A write that asks only for pending tables changes nothing (R19). -/
theorem State.requestSwap_of_pending {s : State} {mask : Nat} (h : mask % 16 &&& (15 - s.get ⟨SYS.TBL_SWAP, 0, 4⟩) = 0) :
    s.requestSwap mask = s := by
  unfold State.requestSwap
  simp only [h, beq_self_eq_true, if_true]

theorem State.when_of_true (s : State) {c : Bool} (f : State → State) (h : c = true) : s.when c f = f s := if_pos h

theorem State.when_of_false (s : State) {c : Bool} (f : State → State) (h : c = false) : s.when c f = s := by
  rw [h, State.when_false]

theorem State.when_self (s : State) (c : Bool) {f : State → State} (h : f s = s) : s.when c f = s := by
  unfold State.when
  split
  · exact h
  · rfl

/-- Settles O11: the four rows share requestSwap. -/
theorem swapRequests : Obligations.SwapRequests := by
  unfold Obligations.SwapRequests
  have asked : ∀ (s : State) (mask k new : Nat), mask.testBit k = true → new = mask % 16 &&& (15 - s.get ⟨SYS.TBL_SWAP, 0, 4⟩) →
      new ≠ 0 → s.when (bit mask k) (·.requestSwap mask) = _ :=
    fun s mask k _ hbit hnew hne => (s.when_of_true _ hbit).trans (State.requestSwap_of_new hnew hne)
  have pends : ∀ (s : State) (mask k : Nat), mask % 16 &&& (15 - s.get ⟨SYS.TBL_SWAP, 0, 4⟩) = 0 →
      s.when (bit mask k) (·.requestSwap mask) = s :=
    fun s mask k h => s.when_self _ (State.requestSwap_of_pending h)
  exact ⟨fun s mask new hb hn h0 => congrArg Host.Outcome.next (asked s mask 3 new hb hn h0),
    fun s mask new hb hn h0 => congrArg Host.Outcome.next (asked s mask 2 new hb hn h0),
    fun s mask new hb hn h0 => congrArg Host.Outcome.next (asked s mask 1 new hb hn h0),
    fun s mask new hb hn h0 => congrArg Host.Outcome.next (asked s mask 0 new hb hn h0),
    fun s mask h => congrArg Host.Outcome.next (pends s mask 3 h),
    fun s mask h => congrArg Host.Outcome.next (pends s mask 2 h),
    fun s mask h => congrArg Host.Outcome.next (pends s mask 1 h),
    fun s mask h => congrArg Host.Outcome.next (pends s mask 0 h)⟩

theorem State.swapComposeIdle_jobs (s : State) : s.swapComposeIdle.jobs = s.jobs := State.swapWhere_jobs s _ _ _

theorem State.swapCalIdle_jobs (s : State) : s.swapCalIdle.jobs = s.jobs := State.swapWhere_jobs s _ _ _

/-- A compositor that composes no job and holds none is idle, as a disabled one is (R22). -/
theorem State.cmpIdle_of {s : State} (h : s.flag CMP.CTL.EN = false ∨ (s.cmp.job = none ∧ s.progNext = none)) :
    s.cmpIdle = true := by
  unfold State.cmpIdle
  rcases h with hoff | ⟨hjob, hprog⟩
  · rw [hoff]
    rfl
  · rw [hjob, hprog]
    exact Bool.or_true _

/-- A fire engine without a running and an armed job is idle (R22). -/
theorem State.fireIdle_of {s : State} (hrun : s.running = none) (harm : s.armed = none) : s.fireIdle = true := by
  unfold State.fireIdle
  rw [hrun, harm]
  exact Bool.or_true _

/-- On idle engines the compose tables and then CAL swap (R22). -/
theorem State.settleSwaps_of_idle {s : State} (hcmp : s.cmpIdle = true) (hrun : s.running = none) (harm : s.armed = none) :
    s.settleSwaps = (s.swapComposeIdle.swapCalIdle).unreachRun := by
  have hjobs := s.swapComposeIdle_jobs
  have hfire : s.swapComposeIdle.fireIdle = true := by
    refine State.fireIdle_of ?_ ?_
    · unfold State.running State.firstJob at hrun ⊢
      rw [hjobs, hrun]
    · unfold State.armed State.firstJob at harm ⊢
      rw [hjobs, harm]
  unfold State.settleSwaps
  rw [State.when_of_true s _ hcmp]
  dsimp only
  rw [State.when_of_true _ _ hfire]

/-- A swap that pends after every write has swapped its tables of m is one of before with the tables of m taken out. -/
theorem State.left_of_mem_swapWhere {s : State} {m : Nat} {upd : Swap → Swap} {w : Swap}
    (hw : w ∈ (s.swapWhere (fun _ => true) m upd).swaps) : ∃ u ∈ s.swaps, w.left = u.left - (u.left &&& m) ∧ w.left ≠ 0 := by
  rw [State.swapWhere_swaps] at hw
  obtain ⟨hmap, hne⟩ := List.mem_filter.1 hw
  obtain ⟨u, hu, rfl⟩ := List.mem_map.1 hmap
  refine ⟨u, hu, ?_, by simpa using hne⟩
  split
  · rfl
  · rename_i h
    have none_of_m : u.left &&& m = 0 := by simpa using h
    rw [none_of_m, Nat.sub_zero]

/-- The compose tables and CAL together are all tables that a write can ask for. -/
theorem composeThenCal_left : ∀ left : Nat, left < 16 →
    left - (left &&& 7) - ((left - (left &&& 7)) &&& 8) = 0 := by decide

/-- Settles O12: the compose tables leave only CAL in the masks, and CAL leaves nothing. -/
theorem swapIdleComplete : Obligations.SwapIdleComplete := by
  unfold Obligations.SwapIdleComplete
  refine ⟨fun s hcmp hrun harm => congrArg Host.Outcome.next (State.settleSwaps_of_idle (State.cmpIdle_of hcmp) hrun harm),
    fun s hleft => ⟨?_, (State.swapCalIdle_jobs _).trans s.swapComposeIdle_jobs⟩⟩
  refine List.eq_nil_iff_forall_not_mem.2 fun w hw => ?_
  obtain ⟨v, hv, hcal, hne⟩ := State.left_of_mem_swapWhere hw
  obtain ⟨u, hu, hcompose, -⟩ := State.left_of_mem_swapWhere (s := s) hv
  rw [hcal, hcompose] at hne
  exact hne (composeThenCal_left u.left (hleft u hu))

end Sys2Proof.Machine
end

section
/-! PROOFS. Reads of flags and fields after the small writes of Machine/Ops.lean. -/

namespace Sys2Proof.Machine

theorem fieldsApart_of_bits {f g : Fld} (hf : f.lo + f.width ≤ 32) (h : f.lo + f.width ≤ g.lo ∨ g.lo + g.width ≤ f.lo) :
    fieldsApart f g = true := by
  simp only [fieldsApart, Bool.and_eq_true, Bool.or_eq_true, decide_eq_true_eq]
  exact ⟨hf, h.elim (fun b => .inl (.inr b)) .inr⟩

theorem fieldsApart_of_addr {f g : Fld} (hf : f.lo + f.width ≤ 32) (h : f.addr ≠ g.addr) : fieldsApart f g = true := by
  simp only [fieldsApart, Bool.and_eq_true, Bool.or_eq_true, decide_eq_true_eq, bne_iff_ne]
  exact ⟨hf, .inl (.inl h)⟩

theorem State.flag_put_other (s : State) (f g : Fld) (v : Nat) (h : fieldsApart f g = true) : (s.put f v).flag g = s.flag g :=
  congrArg (· != 0) (s.get_put_other f g v h)

theorem State.get_raise_other (s : State) (f g : Fld) (h : fieldsApart f g = true) : (s.raise f).get g = s.get g :=
  s.get_put_other f g 1 h

theorem State.flag_raise_other (s : State) (f g : Fld) (h : fieldsApart f g = true) : (s.raise f).flag g = s.flag g :=
  s.flag_put_other f g 1 h

theorem State.get_drop_other (s : State) (f g : Fld) (h : fieldsApart f g = true) : (s.drop f).get g = s.get g :=
  s.get_put_other f g 0 h

theorem State.flag_drop_other (s : State) (f g : Fld) (h : fieldsApart f g = true) : (s.drop f).flag g = s.flag g :=
  s.flag_put_other f g 0 h

theorem State.get_bump_other (s : State) (f g : Fld) (n : Nat) (h : fieldsApart f g = true) : (s.bump f n).get g = s.get g :=
  s.get_put_other f g _ h

theorem State.flag_bump_other (s : State) (f g : Fld) (n : Nat) (h : fieldsApart f g = true) : (s.bump f n).flag g = s.flag g :=
  s.flag_put_other f g _ h

theorem State.flag_wr_other (s : State) {a : Nat} (v : Word) (g : Fld) (h : a ≠ g.addr) : (s.wr a v).flag g = s.flag g :=
  congrArg (· != 0) (s.get_wr_other v g h)

theorem State.get_drop_same (s : State) (f : Fld) (h : f.lo + f.width ≤ 32) : (s.drop f).get f = 0 := by
  rw [State.drop, State.get_put_same s f 0 h, Nat.zero_mod]

theorem State.flag_drop_same (s : State) (f : Fld) (h : f.lo + f.width ≤ 32) : (s.drop f).flag f = false := by
  rw [State.flag, State.get_drop_same s f h]
  rfl

theorem State.flag_raise_same (s : State) (f : Fld) (h : f.lo + f.width ≤ 32) (hw : 0 < f.width) : (s.raise f).flag f = true := by
  have one_lt : 1 < 2 ^ f.width := Nat.one_lt_two_pow (Nat.pos_iff_ne_zero.1 hw)
  rw [State.flag, State.raise, State.get_put_same s f 1 h, Nat.mod_eq_of_lt one_lt]
  rfl

/-- A flag that a one-bit number was put into reads it. -/
theorem State.flag_put_nat01 (s : State) (f : Fld) (b : Bool) (h : f.lo + f.width ≤ 32) (hw : 0 < f.width) :
    (s.put f (nat01 b)).flag f = b := by
  cases b
  · exact s.flag_drop_same f h
  · exact s.flag_raise_same f h hw

@[simp] theorem State.onSys_flag (s : State) (f) (g : Fld) : (s.onSys f).flag g = s.flag g := congrArg (· != 0) (s.onSys_get f g)
@[simp] theorem State.onHost_flag (s : State) (f) (g : Fld) : (s.onHost f).flag g = s.flag g := congrArg (· != 0) (s.onHost_get f g)
@[simp] theorem State.onFire_flag (s : State) (f) (g : Fld) : (s.onFire f).flag g = s.flag g := congrArg (· != 0) (s.onFire_get f g)

/-- States with equal registers read alike. -/
theorem State.rd_of_regs {s t : State} (h : t.regs = s.regs) (a : Nat) : t.rd a = s.rd a := congrArg (mapGet resetWord · a) h

theorem State.get_of_rd {s t : State} {f : Fld} (h : t.rd f.addr = s.rd f.addr) : t.get f = s.get f := by
  unfold State.get
  rw [h]

theorem State.flag_of_rd {s t : State} {f : Fld} (h : t.rd f.addr = s.rd f.addr) : t.flag f = s.flag f := by
  unfold State.flag
  rw [State.get_of_rd h]

/-- A one-bit field is 0 where its flag is clear. -/
theorem State.get_of_flag_false {s : State} {f : Fld} (h : s.flag f = false) : s.get f = 0 := by
  simpa [State.flag] using h

theorem State.get_ne_of_flag {s : State} {f : Fld} (h : s.flag f = true) : s.get f ≠ 0 := by
  simpa [State.flag] using h

/-- A field of a word made from a number. -/
theorem fieldOf_w32 (n lo w : Nat) : fieldOf (w32 n) lo w = n % 2 ^ 32 / 2 ^ lo % 2 ^ w := by
  rw [fieldOf, w32, BitVec.toNat_ofNat, Nat.shiftRight_eq_div_pow]

end Sys2Proof.Machine
end

section
/-! PROOFS. What a report leaves in the record of its source and in the event queue, and what follows it (14_management_errors.md,
R382 to R386). -/

namespace Sys2Proof.Machine

/-! What is written for a report -/

/-- The state once the record of a report and its event queue entry are written. -/
def State.noted (s : State) (q sev inst detail : Nat) (latest : Bool) : State :=
  let a := if latest then s.recordLatest q sev inst detail else s.recordFirst q sev inst detail
  ((a.onSys (fun y => { y with evq := y.evq ++ [a.evqEntry q sev inst detail latest] })).syncEvq).syncSev

/-- The host event of a report. -/
def State.reactHost (s : State) (q : Nat) : State :=
  s.when (s.flag (ERR.SRC_CFG.HOST q)) (fun u => u.postEvent (0x8000 + q) (u.recWords q))

/-- Source q asserts a stop (R385). -/
def State.asserts (s : State) (q : Nat) : State := (s.onSys (fun y => { y with stops := insertAsc y.stops q })).syncStops

@[simp] theorem State.asserts_sys (s : State) (q : Nat) : (s.asserts q).sys = { s.sys with stops := insertAsc s.sys.stops q } := rfl

@[simp] theorem State.asserts_quiet (s : State) (q : Nat) : (s.asserts q).quiet = s.quiet := rfl

theorem State.asserts_rd (s : State) (q : Nat) {a : Nat} (h : a ≠ ERR.STOP_SRC) : (s.asserts q).rd a = s.rd a := by
  unfold State.asserts State.syncStops
  rw [State.rd_wr_other _ _ h.symm, State.onSys_rd]

/-- The stop that a source asserts. -/
def State.reactStop (s : State) (q : Nat) (fatal : Bool) : State :=
  s.when (s.flag (ERR.SRC_CFG.STOP q) || fatal) (fun u => (u.asserts q).nodeStop 3)

theorem State.when_when (s : State) (c : Bool) (f g : State → State) : (s.when c f).when c g = s.when c (fun t => g (f t)) := by
  cases c <;> rfl

/-- A record is written into registers and the list of valid records alone. -/
theorem State.puts_words_eq (s : State) (f g h : Fld) (a b c d x y z : Nat) (u v w k : Word) :
    ∃ r, ((((((((s.put f x).put g y).put h z).wr a u).wr b v).wr c w).wr d k)) = { s with regs := r } := ⟨_, rfl⟩

theorem State.recordLatest_eq (s : State) (q sev inst detail : Nat) : ∃ r, s.recordLatest q sev inst detail = { s with regs := r } := by
  unfold State.recordLatest
  exact State.puts_words_eq s _ _ _ _ _ _ _ _ _ _ _ _ _ _

theorem State.recordLatest_sys (s : State) (q sev inst detail : Nat) : (s.recordLatest q sev inst detail).sys = s.sys := by
  obtain ⟨r, e⟩ := s.recordLatest_eq q sev inst detail
  rw [e]

theorem State.recordFirst_sys (s : State) (q sev inst detail : Nat) :
    (s.recordFirst q sev inst detail).sys = { s.sys with recs := insertAsc s.sys.recs q } := by
  obtain ⟨r, e⟩ := recordFirst_eq s q sev inst detail
  rw [e]

theorem REC_ne_of_lt {q k a : Nat} (h : a < 0x40031000) : ERR.REC q k ≠ a := by
  simp only [ERR.REC]
  omega

theorem State.syncSev_recSev (s : State) (q : Nat) : s.syncSev.get (recSev q) = s.get (recSev q) :=
  State.get_of_rd (s.rd_put_other _ _ (REC_ne_of_lt (by decide)).symm)

/-- With room in the event queue a report of an enabled source is noted, and its reactions follow. -/
theorem State.reportCore_noted {s : State} {q sev inst detail : Nat} (hen : s.flag (ERR.SRC_CFG.EN q) = true)
    (hroom : s.sys.evq.length < 64) (latest : Bool) (hfirst : s.flag (recFirst q) = latest) (now : Nat)
    (hnow : (s.noted q sev inst detail latest).get (recSev q) = now) :
    s.reportCore q sev inst detail =
      (((s.noted q sev inst detail latest).reactHost q).reactStop q (now == 3)).when
        (now == 3 && ((if latest then s.get (recSev q) else 0) != 3 ||
          (sev == 3 && (((s.noted q sev inst detail latest).reactHost q).reactStop q (now == 3)).flag SYS.SUMP_STAT.ACTIVE))) (·.fatal q) := by
  subst hfirst hnow
  have hroom' : (if s.flag (recFirst q) then s.recordLatest q sev inst detail else s.recordFirst q sev inst detail).sys.evq.length < 64 := by
    split
    · rw [State.recordLatest_sys]
      exact hroom
    · rw [State.recordFirst_sys]
      exact hroom
  unfold State.reportCore
  rw [if_neg (State.get_ne_of_flag hen)]
  dsimp only
  rw [if_pos hroom', State.when_when, ← State.syncSev_recSev]
  rfl

/-! What noting a report leaves -/

/-- A report is noted in registers and the error collector alone. -/
theorem State.noted_eq (s : State) (q sev inst detail : Nat) (latest : Bool) :
    ∃ r y, s.noted q sev inst detail latest = { s with regs := r, sys := y } := by
  obtain ⟨r, er⟩ := recordFirst_eq s q sev inst detail
  obtain ⟨l, el⟩ := s.recordLatest_eq q sev inst detail
  unfold State.noted
  cases latest
  · rw [er]
    exact ⟨_, _, rfl⟩
  · rw [el]
    exact ⟨_, _, rfl⟩

theorem State.syncEvq_rd (s : State) {a : Nat} (h : 0x40030040 ≤ a ∨ a < 0x40030000) : s.syncEvq.rd a = s.rd a := by
  have other : ∀ b, 0x40030000 ≤ b → b < 0x40030040 → b ≠ a := by omega
  unfold State.syncEvq
  rw [State.rd_wr_other _ _ (other _ (by decide) (by decide)), State.rd_wr_other _ _ (other _ (by decide) (by decide)),
    State.rd_wr_other _ _ (other _ (by decide) (by decide)), State.rd_wr_other _ _ (other _ (by decide) (by decide)),
    State.rd_put_other _ _ _ (other _ (by decide) (by decide))]

/-- The event queue and PEND_SEV lie below the records and the sources' settings. -/
theorem State.noted_rd (s : State) (q sev inst detail : Nat) (latest : Bool) {a : Nat} (h : 0x40030040 ≤ a ∨ a < 0x40030000) :
    (s.noted q sev inst detail latest).rd a =
      (if latest then s.recordLatest q sev inst detail else s.recordFirst q sev inst detail).rd a := by
  unfold State.noted State.syncSev
  rw [State.rd_put_other _ _ _ (by simp only [ERR.STATUS]; omega), State.syncEvq_rd _ h, State.onSys_rd]

/-- The first report of a source fills its record (R383). -/
theorem State.recordFirst_words (s : State) (q sev inst detail : Nat) :
    (s.recordFirst q sev inst detail).rd (ERR.REC q 0) = w32 (2 ^ 31 + sev % 4 * 2 ^ 28 + inst % 256 * 2 ^ 16) ∧
    (s.recordFirst q sev inst detail).rd (ERR.REC q 1) = w32 detail ∧
    (s.recordFirst q sev inst detail).rd (ERR.REC q 2) = w32 s.time ∧
    (s.recordFirst q sev inst detail).rd (ERR.REC q 4) = 0#32 := by
  have apart : ∀ {i k : Nat}, i ≠ k → ERR.REC q i ≠ ERR.REC q k := fun h => by simp only [ERR.REC]; omega
  unfold State.recordFirst
  simp only [State.onSys_rd]
  refine ⟨?_, ?_, ?_, ?_⟩ <;> simp (disch := (apply apart; decide)) only [State.rd_wr_other, State.rd_wr_same]

theorem State.recordFirst_rd_other (s : State) (q sev inst detail : Nat) {a : Nat} (h : ∀ k, ERR.REC q k ≠ a) :
    (s.recordFirst q sev inst detail).rd a = s.rd a := by
  unfold State.recordFirst
  simp only [State.onSys_rd, State.rd_wr_other _ _ (h _)]

theorem State.recordLatest_rd_other (s : State) (q sev inst detail : Nat) {a : Nat} (h : ∀ k, ERR.REC q k ≠ a) :
    (s.recordLatest q sev inst detail).rd a = s.rd a := by
  unfold State.recordLatest
  rw [State.rd_wr_other _ _ (h _), State.rd_wr_other _ _ (h _), State.rd_wr_other _ _ (h _), State.rd_wr_other _ _ (h _),
    State.rd_put_other _ _ _ (h 0), State.rd_put_other _ _ _ (h 0), State.rd_put_other _ _ _ (h 0)]

theorem REC_apart {q i k : Nat} (h : i ≠ k) : ERR.REC q i ≠ ERR.REC q k := by
  simp only [ERR.REC]
  omega

/-- The header of a record after a later report, and the words of LATEST (R383). -/
theorem State.recordLatest_header (s : State) (q sev inst detail n e : Nat) (hn : min 65535 (s.get (recSubseq q) + 1) = n)
    (he : escalated (s.get ERR.CFG.REPEAT_LIM) n (s.get (recSev q)) sev = e) (hlt : e < 4) :
    (s.recordLatest q sev inst detail).flag (recLatest q) = true ∧
    (s.recordLatest q sev inst detail).get (recSubseq q) = n ∧
    (s.recordLatest q sev inst detail).get (recSev q) = e := by
  have hn16 : n < 2 ^ 16 := by omega
  have header : (s.recordLatest q sev inst detail).rd (ERR.REC q 0) =
      (((s.put (recLatest q) 1).put (recSubseq q) n).put (recSev q) e).rd (ERR.REC q 0) := by
    unfold State.recordLatest
    dsimp only
    rw [hn, he]
    simp (disch := (apply REC_apart; decide)) only [State.rd_wr_other]
  have sev_latest : fieldsApart (recSev q) (recLatest q) = true := fieldsApart_of_bits (by decide : 30 ≤ 32) (.inl (by decide : 30 ≤ 30))
  have sub_latest : fieldsApart (recSubseq q) (recLatest q) = true := fieldsApart_of_bits (by decide : 16 ≤ 32) (.inl (by decide : 16 ≤ 30))
  have sev_sub : fieldsApart (recSev q) (recSubseq q) = true := fieldsApart_of_bits (by decide : 30 ≤ 32) (.inr (by decide : 16 ≤ 28))
  refine ⟨?_, ?_, ?_⟩
  · rw [State.flag_of_rd (f := recLatest q) header, State.flag_put_other _ _ _ _ sev_latest, State.flag_put_other _ _ _ _ sub_latest]
    exact s.flag_raise_same (recLatest q) (by decide : 31 ≤ 32) (by decide : 0 < 1)
  · rw [State.get_of_rd (f := recSubseq q) header, State.get_put_other _ _ _ _ sev_sub,
      State.get_put_same _ (recSubseq q) _ (by decide : 16 ≤ 32)]
    exact Nat.mod_eq_of_lt hn16
  · rw [State.get_of_rd (f := recSev q) header, State.get_put_same _ (recSev q) _ (by decide : 30 ≤ 32)]
    exact Nat.mod_eq_of_lt hlt

theorem State.recordLatest_words (s : State) (q sev inst detail : Nat) :
    (s.recordLatest q sev inst detail).rd (ERR.REC q 1) = s.rd (ERR.REC q 1) ∧
    (s.recordLatest q sev inst detail).rd (ERR.REC q 4) = w32 (sev % 4 * 2 ^ 28 + inst % 256 * 2 ^ 16 + s.get (recLost q)) ∧
    (s.recordLatest q sev inst detail).rd (ERR.REC q 5) = w32 detail ∧
    (s.recordLatest q sev inst detail).rd (ERR.REC q 6) = w32 s.time ∧
    (s.recordLatest q sev inst detail).rd (ERR.REC q 7) = w32 (s.time / 2 ^ 32 % 2 ^ 16) := by
  have put_apart : ∀ (t : State) (f : Fld) (v k : Nat), f.addr = ERR.REC q 0 → k ≠ 0 → (t.put f v).rd (ERR.REC q k) = t.rd (ERR.REC q k) :=
    fun t f v k hf hk => t.rd_put_other f v (hf ▸ REC_apart (Ne.symm hk))
  have lost : ∀ n e : Nat, (((s.put (recLatest q) 1).put (recSubseq q) n).put (recSev q) e).get (recLost q) = s.get (recLost q) :=
    fun n e => State.get_of_rd (f := recLost q) (by
      rw [show (recLost q).addr = ERR.REC q 4 from rfl, put_apart _ _ _ _ rfl (by decide), put_apart _ _ _ _ rfl (by decide),
        put_apart _ _ _ _ rfl (by decide)])
  unfold State.recordLatest
  dsimp only
  rw [lost]
  refine ⟨?_, ?_, ?_, ?_, ?_⟩ <;> simp (disch := (apply REC_apart; decide)) only [State.rd_wr_other, State.rd_wr_same]
  rw [put_apart _ _ _ _ rfl (by decide), put_apart _ _ _ _ rfl (by decide), put_apart _ _ _ _ rfl (by decide)]

/-! A first report -/

section First

variable {s : State} {q sev inst detail : Nat}

theorem SRC_CFG_apart {q r k : Nat} (h : q < 256) : ERR.REC r k ≠ ERR.SRC_CFG q := by
  simp only [ERR.REC, ERR.SRC_CFG]
  omega

/-- A report of source q leaves the settings of every source. -/
theorem State.noted_settings (latest : Bool) (hq : q < 256) :
    (s.noted q sev inst detail latest).rd (ERR.SRC_CFG q) = s.rd (ERR.SRC_CFG q) := by
  rw [State.noted_rd _ _ _ _ _ _ (.inl (by simp only [ERR.SRC_CFG]; omega))]
  cases latest
  · exact State.recordFirst_rd_other _ _ _ _ _ fun _ => SRC_CFG_apart hq
  · exact State.recordLatest_rd_other _ _ _ _ _ fun _ => SRC_CFG_apart hq

/-- Registers outside ERR stay. -/
theorem State.noted_rd_other (latest : Bool) (hq : q < 256) {a : Nat} (h : 0x40040000 ≤ a) :
    (s.noted q sev inst detail latest).rd a = s.rd a := by
  have other : ∀ k, k < 8 → ERR.REC q k ≠ a := by
    intro k hk
    simp only [ERR.REC]
    omega
  rw [State.noted_rd _ _ _ _ _ _ (.inl (by omega))]
  cases latest
  · show (s.recordFirst q sev inst detail).rd a = s.rd a
    unfold State.recordFirst
    rw [State.onSys_rd]
    simp (disch := (apply other; decide)) only [State.rd_wr_other]
  · show (s.recordLatest q sev inst detail).rd a = s.rd a
    unfold State.recordLatest
    dsimp only
    simp (disch := (apply other; decide)) only [State.rd_wr_other]
    rw [State.rd_put_other _ _ _ (other 0 (by decide)), State.rd_put_other _ _ _ (other 0 (by decide)),
      State.rd_put_other _ _ _ (other 0 (by decide))]

theorem State.noted_sys_first (s : State) (q sev inst detail : Nat) : (s.noted q sev inst detail false).sys = { s.sys with
    recs := insertAsc s.sys.recs q
    evq := s.sys.evq ++ [(s.recordFirst q sev inst detail).evqEntry q sev inst detail false] } := by
  have kept : ∀ t : State, (t.syncEvq.syncSev).sys = t.sys := fun _ => rfl
  unfold State.noted
  simp only [Bool.false_eq_true, if_false]
  rw [kept, State.onSys_sys, State.recordFirst_sys]

theorem State.noted_words_first (hs : sev < 4) (hi : inst < 256) :
    (s.noted q sev inst detail false).rd (ERR.REC q 0) = w32 (2 ^ 31 + sev * 2 ^ 28 + inst * 2 ^ 16) ∧
    (s.noted q sev inst detail false).rd (ERR.REC q 1) = w32 detail ∧
    (s.noted q sev inst detail false).rd (ERR.REC q 2) = w32 s.time ∧
    (s.noted q sev inst detail false).rd (ERR.REC q 4) = 0#32 := by
  have above : ∀ k, 0x40030040 ≤ ERR.REC q k ∨ ERR.REC q k < 0x40030000 := fun k => .inl (by simp only [ERR.REC]; omega)
  have words := s.recordFirst_words q sev inst detail
  rw [Nat.mod_eq_of_lt hs, Nat.mod_eq_of_lt hi] at words
  simpa only [State.noted_rd _ _ _ _ _ _ (above _), Bool.false_eq_true, if_false] using words

/-- SEV of a first report is its severity, and the record names the unit that reported. -/
theorem recSev_of_header {c : State} (h : c.rd (ERR.REC q 0) = w32 (2 ^ 31 + sev * 2 ^ 28 + inst * 2 ^ 16)) (hs : sev < 4) (hi : inst < 256) :
    c.get (recSev q) = sev ∧ c.get (recInst q) = inst ∧ c.get (recOvf q) = 0 ∧ c.get (recSubseq q) = 0 := by
  simp only [State.get, recSev, recInst, recOvf, recSubseq, h, fieldOf_w32]
  omega

end First

/-- A report of a named source, while no reset is held and the event queue has room. -/
theorem exec_errorReport {s : State} {q inst detail : Nat} (hnamed : srcNamed q = true) (hheld : s.held = false)
    (hroom : s.sys.evq.length < 64) : exec (.errorReport q inst detail) s =
      .next (((s.reportCore q (s.get (ERR.SRC_CFG.SEV q)) inst detail).stopRun).unreachRun) := by
  have room : s.evqFull q = false := by
    unfold State.evqFull
    rw [decide_eq_false (by omega), Bool.and_false]
  show Host.Outcome.next (s.when (!s.held && srcNamed q) (·.report q inst detail)) = _
  rw [hnamed, hheld]
  show Host.Outcome.next (((s.reportCore q _ inst detail).noteOverflow (s.evqFull q) q).stopRun).unreachRun = _
  rw [room]
  rfl

/-- A first report is noted with its own severity, and its reactions follow; a first report of severity FATAL starts the
fatal path. -/
theorem State.reportCore_first {s : State} {q sev inst detail : Nat} (hen : s.flag (ERR.SRC_CFG.EN q) = true)
    (hroom : s.sys.evq.length < 64) (hfirst : s.flag (recFirst q) = false) (hs : sev < 4) (hi : inst < 256) :
    s.reportCore q sev inst detail =
      (((s.noted q sev inst detail false).reactHost q).reactStop q (sev == 3)).when (sev == 3) (·.fatal q) := by
  rw [State.reportCore_noted hen hroom false hfirst sev (recSev_of_header (State.noted_words_first hs hi).1 hs hi).1]
  simp

/-! The reactions to a report -/

section Reactions

variable {s : State} {q : Nat}

theorem State.noted_flag {sev inst detail : Nat} {latest : Bool} (hq : q < 256) {f : Fld} (hf : f.addr = ERR.SRC_CFG q) :
    (s.noted q sev inst detail latest).flag f = s.flag f :=
  State.flag_of_rd (by rw [hf]; exact State.noted_settings latest hq)

theorem State.reactHost_of_off (h : s.flag (ERR.SRC_CFG.HOST q) = false) : s.reactHost q = s := s.when_of_false _ h

theorem State.reactStop_of_off (h : s.flag (ERR.SRC_CFG.STOP q) = false) : s.reactStop q false = s := by
  refine s.when_of_false _ ?_
  rw [h]
  rfl

/-- A stop that is asserted while STOPPED is set is remembered and changes nothing more (R159). -/
theorem State.reactStop_of_stopped {fatal : Bool} (h : (s.flag (ERR.SRC_CFG.STOP q) || fatal) = true)
    (hs : s.flag FIRE.SLUICE_STAT.STOPPED = true) :
    s.reactStop q fatal = s.asserts q := by
  have stopped : (s.asserts q).flag FIRE.SLUICE_STAT.STOPPED = true :=
    (State.flag_of_rd (f := FIRE.SLUICE_STAT.STOPPED) (s.asserts_rd q (by decide))).trans hs
  unfold State.reactStop
  rw [State.when_of_true _ _ h]
  unfold State.nodeStop
  rw [if_pos stopped]

/-- A stop that is asserted while STOPPED is clear stops the node (R24, R158). -/
theorem State.reactStop_works {fatal : Bool} (h : (s.flag (ERR.SRC_CFG.STOP q) || fatal) = true)
    (hs : s.flag FIRE.SLUICE_STAT.STOPPED = false) : (s.reactStop q fatal).Works [] s.fire.stopped
      { s.cal with stopDue := match s.cal.meas with | some r => decide (r.elem < 48) | none => s.cal.stopDue } := by
  have clear : (s.asserts q).flag FIRE.SLUICE_STAT.STOPPED = false :=
    (State.flag_of_rd (f := FIRE.SLUICE_STAT.STOPPED) (s.asserts_rd q (by decide))).trans hs
  unfold State.reactStop
  rw [State.when_of_true _ _ h]
  exact State.nodeStop_works _ 3 clear

end Reactions

theorem State.quiet_runs {s : State} (h : s.quiet = true) : (s.stopRun).unreachRun = s := by
  obtain ⟨hstop, hunreach⟩ := State.of_quiet h
  rw [State.quiet_stopRun hstop, State.quiet_unreachRun hunreach]

/-- A quiet state is quiet once a report is noted. -/
theorem State.noted_quiet {s : State} {q sev inst detail : Nat} {latest : Bool} (h : s.quiet = true) :
    (s.noted q sev inst detail latest).quiet = true := by
  obtain ⟨r, y, e⟩ := s.noted_eq q sev inst detail latest
  rw [e]
  exact h

/-- The entry of a first report carries what its record does (R384). -/
theorem State.evqEntry_recordFirst {s : State} {q sev inst detail : Nat} (hs : sev < 4) (hq : q < 256) (hi : inst < 256) :
    (s.recordFirst q sev inst detail).evqEntry q sev inst detail false =
      { w0 := w32 (2 ^ 31 + sev * 2 ^ 28 + inst * 2 ^ 16), w1 := w32 detail, w2 := w32 s.time,
        w3 := w32 (q * 2 ^ 24 + sev * 2 ^ 22 + s.time / 2 ^ 32 % 2 ^ 16) } := by
  have header := (s.recordFirst_words q sev inst detail).1
  rw [Nat.mod_eq_of_lt hs, Nat.mod_eq_of_lt hi] at header
  obtain ⟨hsev, -, hovf, hsub⟩ := recSev_of_header header hs hi
  have time : (s.recordFirst q sev inst detail).time = s.time := by
    obtain ⟨r, e⟩ := recordFirst_eq s q sev inst detail
    rw [e]
  rw [evqEntry_first _ _ _ _ _ hsev hovf hsub, time, Nat.mod_eq_of_lt hs, Nat.mod_eq_of_lt hi, Nat.mod_eq_of_lt hq]

/-- SRC_CFG's SEV is a severity. -/
theorem State.sev_lt (s : State) (q : Nat) : s.get (ERR.SRC_CFG.SEV q) < 4 := s.get_lt _

/-- A report of a disabled source changes nothing. -/
theorem exec_errorReport_of_disabled {s : State} {q inst detail : Nat} (hen : s.get (ERR.SRC_CFG.EN q) = 0) (hquiet : s.quiet = true) :
    exec (.errorReport q inst detail) s = .next s := by
  have core : ∀ sev, s.reportCore q sev inst detail = s := fun sev => by
    unfold State.reportCore
    rw [if_pos hen]
  have room : s.evqFull q = false := by
    unfold State.evqFull
    rw [hen]
    rfl
  have none_made : s.report q inst detail = s := by
    show (((s.reportCore q _ inst detail).noteOverflow (s.evqFull q) q).stopRun).unreachRun = s
    rw [core, room]
    exact State.quiet_runs hquiet
  exact congrArg Host.Outcome.next (s.when_self _ none_made)

/-! The fatal path -/

theorem State.nmi_rd (s : State) {a : Nat} (hepc : SYS.NMI_EPC ≠ a) (hcause : SYS.NMI_CAUSE ≠ a) : s.nmi.rd a = s.rd a := by
  unfold State.nmi
  split
  · rw [State.onSys_rd]
    exact (State.rd_wr_other _ _ hcause).trans (State.rd_wr_other _ _ hepc)
  · rfl

theorem State.nmi_sys (s : State) : s.nmi.sys.sumpSeq = s.sys.sumpSeq ∧ s.nmi.sys.stops = s.sys.stops := by
  unfold State.nmi
  split <;> exact ⟨rfl, rfl⟩

theorem State.wdtPause_eq (s : State) : ∃ l, s.wdtPause = s.onSys (fun y => { y with wdtLeft := l }) := by
  unfold State.wdtPause State.when
  split
  · exact ⟨_, rfl⟩
  · exact ⟨s.sys.wdtLeft, rfl⟩

/-- The fatal path of R386 names its source, sets ACTIVE and counts. -/
theorem State.fatal_starts {c : State} {q : Nat} (h : c.flag SYS.SUMP_STAT.ACTIVE = false) :
    (c.fatal q).rd ERR.FATAL_SRC = w32 (2 ^ 31 + c.get (recInst q) * 2 ^ 8 + q % 256) ∧
    (c.fatal q).flag SYS.SUMP_STAT.ACTIVE = true ∧ (c.fatal q).flag SYS.SUMP_STAT.HW_DONE = false ∧
    (c.fatal q).sys.sumpSeq = (c.sys.sumpSeq + 1) % 2 ^ 32 ∧ (c.fatal q).sys.stops = c.sys.stops ∧
    (c.fatal q).quiet = c.quiet := by
  obtain ⟨l, hl⟩ := (c.wr ERR.FATAL_SRC (w32 (2 ^ 31 + c.get (recInst q) * 2 ^ 8 + q % 256))).wdtPause_eq
  unfold State.fatal
  rw [h]
  simp only [Bool.false_eq_true, if_false]
  rw [hl]
  refine ⟨?_, ?_, ?_, ?_, ?_, ?_⟩
  · rw [State.nmi_rd _ (by decide) (by decide), State.onSys_rd]
    unfold State.countFatal State.drop State.raise
    rw [State.rd_put_other _ _ _ (by decide), State.onSys_rd, State.rd_put_other _ _ _ (by decide), State.rd_put_other _ _ _ (by decide),
      State.rd_put_other _ _ _ (by decide), State.rd_put_other _ _ _ (by decide), State.onSys_rd, State.rd_wr_same]
  · rw [State.flag_of_rd (f := SYS.SUMP_STAT.ACTIVE) (State.nmi_rd _ (by decide) (by decide)), State.onSys_flag]
    unfold State.countFatal
    rw [State.flag_put_other _ _ _ _ (by decide), State.onSys_flag, State.flag_drop_other _ _ _ (by decide),
      State.flag_drop_other _ _ _ (by decide), State.flag_drop_other _ _ _ (by decide)]
    exact State.flag_raise_same _ _ (by decide) (by decide)
  · rw [State.flag_of_rd (f := SYS.SUMP_STAT.HW_DONE) (State.nmi_rd _ (by decide) (by decide)), State.onSys_flag]
    unfold State.countFatal
    rw [State.flag_put_other _ _ _ _ (by decide), State.onSys_flag, State.flag_drop_other _ _ _ (by decide),
      State.flag_drop_other _ _ _ (by decide)]
    exact State.flag_drop_same _ _ (by decide)
  · exact (State.nmi_sys _).1
  · exact (State.nmi_sys _).2
  · unfold State.nmi
    split <;> rfl

/-! The statement -/

section Reported

variable {s : State} {q inst detail : Nat}

/-- A first report without reactions is noted, and nothing else happens. -/
theorem exec_errorReport_quietly (hnamed : srcNamed q = true) (hq : q < 256) (hi : inst < 256)
    (hen : s.flag (ERR.SRC_CFG.EN q) = true) (hfirst : s.flag (recFirst q) = false) (hroom : s.sys.evq.length < 64)
    (hhost : s.flag (ERR.SRC_CFG.HOST q) = false) (hstop : s.flag (ERR.SRC_CFG.STOP q) = false)
    (hsev : s.get (ERR.SRC_CFG.SEV q) < 3) (hquiet : s.quiet = true) (hheld : s.held = false) :
    exec (.errorReport q inst detail) s = .next (s.noted q (s.get (ERR.SRC_CFG.SEV q)) inst detail false) := by
  have below : (s.get (ERR.SRC_CFG.SEV q) == 3) = false := beq_false_of_ne (by omega)
  rw [exec_errorReport hnamed hheld hroom, State.reportCore_first hen hroom hfirst (s.sev_lt q) hi, below, State.when_false,
    State.reactHost_of_off ((State.noted_flag hq rfl).trans hhost), State.reactStop_of_off ((State.noted_flag hq rfl).trans hstop),
    State.quiet_runs (State.noted_quiet hquiet)]

/-- What a report notes is in registers and the error collector, so jobs and memory stay. -/
theorem State.noted_frame (s : State) (q sev inst detail : Nat) (latest : Bool) :
    (s.noted q sev inst detail latest).jobs = s.jobs ∧ SameMemory s (s.noted q sev inst detail latest) := by
  obtain ⟨r, y, e⟩ := s.noted_eq q sev inst detail latest
  rw [e]
  exact ⟨rfl, sameMemory_of_mem rfl⟩

/-- The severity of a record never falls below that of its source's report, and never above FATAL. -/
theorem escalated_lt {limit n old sev : Nat} (hold : old < 4) (hsev : sev < 4) : escalated limit n old sev < 4 := by
  unfold escalated
  dsimp only
  split <;> split <;> omega

theorem State.noted_sys_latest (s : State) (q sev inst detail : Nat) :
    (s.noted q sev inst detail true).sys.recs = s.sys.recs ∧
    (s.noted q sev inst detail true).sys.evq.length = s.sys.evq.length + 1 := by
  have kept : ∀ t : State, (t.syncEvq.syncSev).sys = t.sys := fun _ => rfl
  unfold State.noted
  simp only [if_true]
  rw [kept, State.onSys_sys, State.recordLatest_sys]
  exact ⟨rfl, List.length_append⟩

theorem State.noted_words_latest (hs : s.get (ERR.SRC_CFG.SEV q) < 4) (hi : inst < 256) :
    let c := s.noted q (s.get (ERR.SRC_CFG.SEV q)) inst detail true
    c.rd (ERR.REC q 1) = s.rd (ERR.REC q 1) ∧
    c.rd (ERR.REC q 4) = w32 (s.get (ERR.SRC_CFG.SEV q) * 2 ^ 28 + inst * 2 ^ 16 + s.get (recLost q)) ∧
    c.rd (ERR.REC q 5) = w32 detail ∧ c.rd (ERR.REC q 6) = w32 s.time ∧ c.rd (ERR.REC q 7) = w32 (s.time / 2 ^ 32 % 2 ^ 16) := by
  have above : ∀ k, 0x40030040 ≤ ERR.REC q k ∨ ERR.REC q k < 0x40030000 := fun k => .inl (by simp only [ERR.REC]; omega)
  have words := s.recordLatest_words q (s.get (ERR.SRC_CFG.SEV q)) inst detail
  rw [Nat.mod_eq_of_lt hs, Nat.mod_eq_of_lt hi] at words
  simpa only [State.noted_rd _ _ _ _ _ _ (above _), if_true] using words

theorem State.noted_header_latest {sev n e : Nat} (hn : min 65535 (s.get (recSubseq q) + 1) = n)
    (he : escalated (s.get ERR.CFG.REPEAT_LIM) n (s.get (recSev q)) sev = e) (hlt : e < 4) :
    (s.noted q sev inst detail true).flag (recLatest q) = true ∧ (s.noted q sev inst detail true).get (recSubseq q) = n ∧
    (s.noted q sev inst detail true).get (recSev q) = e := by
  have header : (s.noted q sev inst detail true).rd (ERR.REC q 0) = (s.recordLatest q sev inst detail).rd (ERR.REC q 0) :=
    s.noted_rd q sev inst detail true (.inl (by simp only [ERR.REC]; omega))
  obtain ⟨hl, hsub, hsev⟩ := s.recordLatest_header q sev inst detail n e hn he hlt
  exact ⟨(State.flag_of_rd (f := recLatest q) header).trans hl, (State.get_of_rd (f := recSubseq q) header).trans hsub,
    (State.get_of_rd (f := recSev q) header).trans hsev⟩

/-- A first report that stops the node leaves no job, trigger, tap and compare (R24). -/
theorem reportCore_stops (hq : q < 256) (hi : inst < 256) (hen : s.flag (ERR.SRC_CFG.EN q) = true)
    (hfirst : s.flag (recFirst q) = false) (hroom : s.sys.evq.length < 64) (hhost : s.flag (ERR.SRC_CFG.HOST q) = false)
    (hstop : s.flag (ERR.SRC_CFG.STOP q) = true) (hrun : s.flag FIRE.SLUICE_STAT.STOPPED = false) (hmeas : s.cal.meas = none) :
    (s.reportCore q (s.get (ERR.SRC_CFG.SEV q)) inst detail).Works [] s.fire.stopped s.cal := by
  have stop_on : ((s.noted q (s.get (ERR.SRC_CFG.SEV q)) inst detail false).flag (ERR.SRC_CFG.STOP q) ||
      s.get (ERR.SRC_CFG.SEV q) == 3) = true := by
    rw [State.noted_flag hq rfl, hstop]
    rfl
  have clear : (s.noted q (s.get (ERR.SRC_CFG.SEV q)) inst detail false).flag FIRE.SLUICE_STAT.STOPPED = false :=
    (State.flag_of_rd (f := FIRE.SLUICE_STAT.STOPPED) (State.noted_rd_other false hq (by decide))).trans hrun
  have works := State.reactStop_works stop_on clear
  obtain ⟨r, y, e⟩ := s.noted_eq q (s.get (ERR.SRC_CFG.SEV q)) inst detail false
  have same : (s.noted q (s.get (ERR.SRC_CFG.SEV q)) inst detail false).fire = s.fire ∧
      (s.noted q (s.get (ERR.SRC_CFG.SEV q)) inst detail false).cal = s.cal := by
    rw [e]
    exact ⟨rfl, rfl⟩
  rw [same.1, same.2, hmeas] at works
  rw [State.reportCore_first hen hroom hfirst (s.sev_lt q) hi, State.reactHost_of_off ((State.noted_flag hq rfl).trans hhost)]
  exact State.when_works works fun t ht => State.fatal_works ht

/-- A first report of severity FATAL while the node is stopped starts the fatal path (R386). -/
theorem reportCore_fatal (hq : q < 256) (hi : inst < 256) (hen : s.flag (ERR.SRC_CFG.EN q) = true)
    (hfirst : s.flag (recFirst q) = false) (hroom : s.sys.evq.length < 64) (hhost : s.flag (ERR.SRC_CFG.HOST q) = false)
    (hsev : s.get (ERR.SRC_CFG.SEV q) = 3) (hstopped : s.flag FIRE.SLUICE_STAT.STOPPED = true)
    (hactive : s.flag SYS.SUMP_STAT.ACTIVE = false) (hquiet : s.quiet = true) :
    let t := s.reportCore q (s.get (ERR.SRC_CFG.SEV q)) inst detail
    t.quiet = true ∧ t.rd ERR.FATAL_SRC = w32 (2 ^ 31 + inst * 2 ^ 8 + q) ∧ t.flag SYS.SUMP_STAT.ACTIVE = true ∧
      t.flag SYS.SUMP_STAT.HW_DONE = false ∧ t.sys.sumpSeq = (s.sys.sumpSeq + 1) % 2 ^ 32 ∧ t.sys.stops = insertAsc s.sys.stops q := by
  have three : (3 : Nat) < 4 := by decide
  have outside : ∀ {a : Nat}, 0x40040000 ≤ a ∨ a < 0x40030000 → (s.noted q 3 inst detail false).rd a = s.rd a :=
    fun h => h.elim (State.noted_rd_other false hq) fun low => by
      rw [State.noted_rd _ _ _ _ _ _ (.inr low)]
      exact State.recordFirst_rd_other _ _ _ _ _ fun k => by simp only [ERR.REC]; omega
  have stopped : (s.noted q 3 inst detail false).flag FIRE.SLUICE_STAT.STOPPED = true :=
    (State.flag_of_rd (f := FIRE.SLUICE_STAT.STOPPED) (outside (by decide))).trans hstopped
  have core : s.reportCore q 3 inst detail = ((s.noted q 3 inst detail false).asserts q).fatal q := by
    rw [State.reportCore_first hen hroom hfirst three hi, State.reactHost_of_off ((State.noted_flag hq rfl).trans hhost),
      beq_self_eq_true, State.when_true, State.reactStop_of_stopped (Bool.or_true _) stopped]
  have inactive : ((s.noted q 3 inst detail false).asserts q).flag SYS.SUMP_STAT.ACTIVE = false :=
    (State.flag_of_rd (f := SYS.SUMP_STAT.ACTIVE) ((State.asserts_rd _ _ (by decide)).trans (outside (by decide)))).trans hactive
  have header : ((s.noted q 3 inst detail false).asserts q).get (recInst q) = inst :=
    (State.get_of_rd (f := recInst q) (State.asserts_rd _ _ (REC_ne_of_lt (by decide)))).trans
      (recSev_of_header (State.noted_words_first three hi).1 three hi).2.1
  obtain ⟨hsrc, hact, hdone, hseq, hstops, hsame⟩ := State.fatal_starts (q := q) inactive
  rw [header, Nat.mod_eq_of_lt hq] at hsrc
  rw [State.asserts_sys, s.noted_sys_first q 3 inst detail] at hseq hstops
  dsimp only
  rw [hsev, core]
  exact ⟨hsame.trans ((State.asserts_quiet _ q).trans (State.noted_quiet hquiet)), hsrc, hact, hdone, hseq, hstops⟩

end Reported

/-- Settles O13: noting the report and the reactions to it, one after the other (R383 to R386). -/
theorem errorReportRecorded : Obligations.ErrorReportRecorded := by
  unfold Obligations.ErrorReportRecorded
  refine ⟨fun s q inst detail => exec_errorReport_of_disabled, ?_, ?_, ?_, ?_, ?_⟩
  · intro s q inst detail hnamed hq hi hen hfirst hroom hhost hstop hsev hquiet hheld
    have words := State.noted_words_first (s := s) (q := q) (detail := detail) (s.sev_lt q) hi
    have frame := s.noted_frame q (s.get (ERR.SRC_CFG.SEV q)) inst detail false
    have sys := s.noted_sys_first q (s.get (ERR.SRC_CFG.SEV q)) inst detail
    rw [State.evqEntry_recordFirst (s.sev_lt q) hq hi] at sys
    refine ⟨_, exec_errorReport_quietly hnamed hq hi hen hfirst hroom hhost hstop hsev hquiet hheld,
      words.1, words.2.1, words.2.2.1, words.2.2.2, ?_, ?_, ?_, frame.1, frame.2⟩ <;> rw [sys]
  · intro s q inst detail hnamed hq hi hen hfirst hroom hheld
    have words := State.noted_words_first (s := s) (q := q) (detail := detail) (s.sev_lt q) hi
    have frame := s.noted_frame q (s.get (ERR.SRC_CFG.SEV q)) inst detail false
    have sys := s.noted_sys_first q (s.get (ERR.SRC_CFG.SEV q)) inst detail
    refine ⟨_, exec_errorReport hnamed hheld hroom, s.noted q (s.get (ERR.SRC_CFG.SEV q)) inst detail false,
      words.1, words.2.1, words.2.2.1, words.2.2.2, State.noted_settings false hq, ?_, ?_, frame.1, frame.2, _, rfl, _, rfl, ?_⟩
    · rw [sys]
    · rw [sys]
      exact List.length_append
    · rw [State.reportCore_first hen hroom hfirst (s.sev_lt q) hi]
      rfl
  · intro s q inst detail e hnamed hq hi hen hfirst hroom hheld he
    have lt : e < 4 := he ▸ escalated_lt (s.get_lt _) (s.sev_lt q)
    have words := State.noted_words_latest (s := s) (q := q) (detail := detail) (s.sev_lt q) hi
    have header := State.noted_header_latest (s := s) (q := q) (inst := inst) (detail := detail) rfl he.symm lt
    have frame := s.noted_frame q (s.get (ERR.SRC_CFG.SEV q)) inst detail true
    have sys := s.noted_sys_latest q (s.get (ERR.SRC_CFG.SEV q)) inst detail
    refine ⟨_, exec_errorReport hnamed hheld hroom, s.noted q (s.get (ERR.SRC_CFG.SEV q)) inst detail true,
      header.1, header.2.1, header.2.2, words.1, words.2.1, words.2.2.1, words.2.2.2.1, words.2.2.2.2,
      State.noted_settings true hq, sys.1, sys.2, frame.1, frame.2, _, rfl, _, rfl, ?_⟩
    rw [State.reportCore_noted hen hroom true hfirst e header.2.2]
    rfl
  · intro s q inst detail hnamed hq hi hen hfirst hroom hhost hstop hrun hmeas hheld
    have works := reportCore_stops (detail := detail) hq hi hen hfirst hroom hhost hstop hrun hmeas
    have no_run : (s.reportCore q (s.get (ERR.SRC_CFG.SEV q)) inst detail).stopRun = s.reportCore q (s.get (ERR.SRC_CFG.SEV q)) inst detail :=
      State.stopRun_none _ (by rw [works.cal_eq]; exact hmeas)
    have calm : Calm s.fire.pinLow _ _ := State.unreachRun_ends
      (s := (s.reportCore q (s.get (ERR.SRC_CFG.SEV q)) inst detail)) (P := Calm s.fire.pinLow)
      (fun J X h => ⟨rfl, rfl, rfl, rfl, rfl, h.2.2.2.2.2⟩) (by rw [works.1, works.2.1]; exact ⟨rfl, rfl, rfl, rfl, rfl, rfl⟩)
    obtain ⟨jobs, trigs, taps, loaded, -, -⟩ := calm
    refine ⟨_, exec_errorReport hnamed hheld hroom, ?_⟩
    rw [no_run]
    exact ⟨jobs, trigs, taps, loaded⟩
  · intro s q inst detail hnamed hq hi hen hfirst hroom hhost hsev hstopped hactive hquiet hheld
    have runs := reportCore_fatal (detail := detail) hq hi hen hfirst hroom hhost hsev hstopped hactive hquiet
    refine ⟨_, exec_errorReport hnamed hheld hroom, ?_⟩
    rw [State.quiet_runs runs.1]
    exact runs.2

end Sys2Proof.Machine
end

section
/-! PROOFS. The sluice (01_architecture.md, 06_fire_timing.md, R24, R158 to R160, R319): what a stop leaves, how it is released. -/

namespace Sys2Proof.Machine

/-! A stop of a node that has nothing to end -/

/-- Registers and fields that a stop of a node without jobs, swaps, slots and taps writes beside those that show the stop. -/
def stopWords : List Nat := [FIRE.CMP_FRAC, FIRE.CMP_INT, SYS.TBL_SWAP]
def stopFlds : List Fld :=
  [CMP.STATUS.BUSY, CMP.TBL_ACTIVE.HEALTH, CMP.TBL_ACTIVE.COMP, CMP.TBL_ACTIVE.RAIL, CAL.LIVE_ACTIVE.COPY, CMP.KILL_CNT.COUNT,
    FIRE.STATUS.RUNNING, FIRE.STATUS.ARMED, CMP.STATUS.PROG_NEXT, LQ.FLUSH.REQ]

/-- Such a stop leaves field g. -/
abbrev stopSpares (g : Fld) : Prop := (∀ a ∈ stopWords, a ≠ g.addr) ∧ ∀ f ∈ stopFlds, fieldsApart f g = true

/-- t reads every field that such a stop leaves as s does, and has its fabric, channels, jobs, swaps and runs of CAL. -/
structure State.Spared (s t : State) : Prop where
  fab : t.fab = s.fab
  wfe : t.wfe = s.wfe
  cal : t.cal = s.cal
  jobs : t.jobs = s.jobs
  swaps : t.swaps = s.swaps
  get : ∀ g, stopSpares g → t.get g = s.get g

section Spared

variable {s t : State}

theorem spared_self (s : State) : s.Spared s := ⟨rfl, rfl, rfl, rfl, rfl, fun _ _ => rfl⟩

theorem spared_put (h : s.Spared t) {f : Fld} (v : Nat) (hf : f ∈ stopFlds) : s.Spared (t.put f v) :=
  { h with get := fun g hg => (t.get_put_other f g v (hg.2 f hf)).trans (h.get g hg) }

theorem spared_wr (h : s.Spared t) {a : Nat} (v : Word) (ha : a ∈ stopWords) : s.Spared (t.wr a v) :=
  { h with get := fun g hg => (t.get_wr_other v g (hg.1 a ha)).trans (h.get g hg) }

theorem spared_onCmp (h : s.Spared t) (f) : s.Spared (t.onCmp f) := ⟨h.fab, h.wfe, h.cal, h.jobs, h.swaps, h.get⟩
theorem spared_onNh (h : s.Spared t) (f) : s.Spared (t.onNh f) := ⟨h.fab, h.wfe, h.cal, h.jobs, h.swaps, h.get⟩
theorem spared_onFire (h : s.Spared t) (f) : s.Spared (t.onFire f) := ⟨h.fab, h.wfe, h.cal, h.jobs, h.swaps, h.get⟩
theorem spared_onQueue (h : s.Spared t) (k f) : s.Spared (t.onQueue k f) := ⟨h.fab, h.wfe, h.cal, h.jobs, h.swaps, h.get⟩
theorem spared_stopPorts (h : s.Spared t) : s.Spared t.stopPorts := ⟨h.fab, h.wfe, h.cal, h.jobs, h.swaps, h.get⟩

theorem spared_when (h : s.Spared t) {c : Bool} {f : State → State} (hf : ∀ u, s.Spared u → s.Spared (f u)) : s.Spared (t.when c f) := by
  cases c
  · exact h
  · exact hf t h

theorem spared_each {α : Type} {f : α → State → State} (hf : ∀ x u, s.Spared u → s.Spared (f x u)) :
    ∀ (l : List α) (t : State), s.Spared t → s.Spared (t.each l f)
  | [], _, h => h
  | x :: l, t, h => spared_each hf l (f x t) (hf x t h)

theorem spared_setKill (h : s.Spared t) (l : List Nat) : s.Spared (t.setKill l) := spared_put (spared_onCmp h _) _ (by decide)

/-- With no swap pending the copies of no table change place. -/
theorem spared_swapWhere (h : s.Spared t) (hswaps : s.swaps = []) (sel : Swap → Bool) (m : Nat) (upd : Swap → Swap) :
    s.Spared (t.swapWhere sel m upd) := by
  have none_pends : t.swaps = [] := h.swaps.trans hswaps
  have e : t.swapWhere sel m upd = { t.toggleTables 0 with swaps := [] } := by
    simp [State.swapWhere, none_pends, State.finishSwaps, State.each]
  have toggled : s.Spared (t.toggleTables 0) := by
    unfold State.toggleTables
    refine spared_when (spared_when (spared_wr (spared_put (spared_put (spared_put (spared_put h _ ?_) _ ?_) _ ?_) _ ?_) _ ?_) ?_) ?_
    · decide
    · decide
    · decide
    · decide
    · decide
    · exact fun u hu => spared_setKill hu _
    · exact fun u hu => spared_onNh (spared_setKill hu _) _
  rw [e]
  exact ⟨toggled.fab, toggled.wfe, toggled.cal, toggled.jobs, hswaps.symm, toggled.get⟩

theorem spared_swapStop (h : s.Spared t) (hswaps : s.swaps = []) : s.Spared t.swapStop := by
  unfold State.swapStop State.lateKills
  exact spared_onNh (spared_setKill (spared_swapWhere (spared_swapWhere h hswaps _ _ _) hswaps _ _ _) _) _

theorem spared_cmpAbandon (h : s.Spared t) (stop : Bool) : s.Spared (t.cmpAbandon stop) :=
  spared_put (spared_onCmp (spared_each (fun _ _ hu => spared_onQueue hu _ _) _ _ h) _) _ (by decide)

end Spared

theorem State.each_nil {α : Type} (s : State) (f : α → State → State) : s.each [] f = s := rfl

theorem State.stopJobs_of_nil {s : State} (h : s.jobs = []) : s.stopJobs = s := by
  unfold State.stopJobs
  rw [h]
  rfl

/-- Without a channel no slot is cut. -/
theorem State.cutSlots_of_nil {s : State} (h : s.wfe = []) : s.cutSlots = s := by
  have no_slot : (List.range 48).filter (fun c => (s.chan c).slot.isSome) = [] :=
    List.filter_eq_nil_iff.2 fun c _ => by simp [State.chan, h]
  unfold State.cutSlots
  rw [no_slot]
  rfl

/-- The fields that show a stop: STOPPED, its cause, the drive and the level of the pin (R158). -/
def State.showStop (s : State) (cause : Nat) : State :=
  let a := ((s.raise FIRE.SLUICE_STAT.STOPPED).put FIRE.SLUICE_STAT.CAUSE cause).raise FIRE.STATUS.STOPPED
  (a.when (cause != 1 && a.flag FIRE.CTL.SLUICE_OUT) (·.raise FIRE.SLUICE_STAT.DRIVE)).syncPin

theorem State.showStop_frame (s : State) (cause : Nat) : (s.showStop cause).jobs = s.jobs ∧ (s.showStop cause).swaps = s.swaps ∧
    (s.showStop cause).wfe = s.wfe ∧ (s.showStop cause).fire = s.fire ∧ (s.showStop cause).cal = s.cal ∧ (s.showStop cause).fab = s.fab := by
  unfold State.showStop State.when
  dsimp only
  split <;> exact ⟨rfl, rfl, rfl, rfl, rfl, rfl⟩

/-- What a stop of a node with nothing to end clears. -/
def State.clearIdle (s : State) : State :=
  let d := s.onFire (fun f => { f with trigs := [], taps := [], loaded := false, check := false, prev := none, contig := none,
                                       tRefPrev := none, overRun := false })
  let f := (((d.wr FIRE.CMP_FRAC 0#32).wr FIRE.CMP_INT 0#32).cmpAbandon true).swapStop
  let g := (f.syncFire).syncCmp
  (g.put LQ.FLUSH.REQ (g.get LQ.FLUSH.REQ ||| (2 ^ g.nHeads - 1))).stopPorts

theorem State.clearIdle_spared {s : State} (hswaps : s.swaps = []) : s.Spared s.clearIdle := by
  refine spared_stopPorts (spared_put (spared_put (spared_put (spared_put (spared_swapStop (spared_cmpAbandon
    (spared_wr (spared_wr (spared_onFire (spared_self s) _) _ ?_) _ ?_) _) hswaps) _ ?_) _ ?_) _ ?_) _ ?_)
  all_goals decide

/-- On a node without jobs, swaps, slots and taps a stop is shown, clears what waits in registers, and floods as it should. -/
theorem State.nodeStop_idle {s : State} {cause : Nat} (hrun : s.flag FIRE.SLUICE_STAT.STOPPED = false) (hmeas : s.cal.meas = none)
    (hjobs : s.jobs = []) (hswaps : s.swaps = []) (hwfe : s.wfe = []) (htaps : s.fire.taps = []) :
    s.nodeStop cause = ((s.showStop cause).clearIdle).floodStop cause := by
  obtain ⟨jobs, swaps, wfe, fire, cal, -⟩ := s.showStop_frame cause
  have spared := (s.showStop cause).clearIdle_spared (swaps.trans hswaps)
  have no_tap : (s.showStop cause).fire.taps = [] := by rw [fire, htaps]
  have no_job : (s.showStop cause).jobs = [] := jobs.trans hjobs
  have no_slot : ((s.showStop cause).clearIdle).cutSlots = (s.showStop cause).clearIdle :=
    State.cutSlots_of_nil (spared.wfe.trans (wfe.trans hwfe))
  have no_meas : (((s.showStop cause).clearIdle).floodStop cause).cal.meas = none := by
    rw [State.Works.cal_eq (State.floodStop_works (works_self _)), spared.cal, cal, hmeas]
  unfold State.nodeStop
  rw [hrun]
  simp only [Bool.false_eq_true, if_false]
  generalize shown : State.syncPin _ = b
  change s.showStop cause = b at shown
  subst shown
  rw [no_tap, List.filter_nil, List.filter_nil, State.each_nil, State.each_nil, State.stopJobs_of_nil]
  · change (match (((s.showStop cause).clearIdle).cutSlots.floodStop cause).cal.meas with | some r => _ | none => _) = _
    rw [no_slot, no_meas]
    exact congrArg (State.floodStop · cause) no_slot
  · exact no_job

/-! The fields that show a stop -/

/-- SLUICE_N reads low exactly when it is held low from outside or driven (R158). -/
theorem State.syncPin_pin (s : State) : s.syncPin.flag FIRE.SLUICE_STAT.PIN = (s.fire.pinLow || s.flag FIRE.SLUICE_STAT.DRIVE) :=
  s.flag_put_nat01 _ _ (by decide) (by decide)

theorem State.syncPin_get (s : State) {g : Fld} (h : fieldsApart FIRE.SLUICE_STAT.PIN g = true) : s.syncPin.get g = s.get g :=
  s.get_put_other _ _ _ h

theorem State.syncPin_flag (s : State) {g : Fld} (h : fieldsApart FIRE.SLUICE_STAT.PIN g = true) : s.syncPin.flag g = s.flag g :=
  s.flag_put_other _ _ _ h

/-- With SLUICE_OUT a stop of a cause other than the pin drives the pin (R158). -/
theorem State.showStop_fields {s : State} {cause : Nat} (hcause : cause < 16) (hpin : cause ≠ 1) (hout : s.flag FIRE.CTL.SLUICE_OUT = true) :
    (s.showStop cause).flag FIRE.SLUICE_STAT.STOPPED = true ∧ (s.showStop cause).get FIRE.SLUICE_STAT.CAUSE = cause ∧
    (s.showStop cause).flag FIRE.STATUS.STOPPED = true ∧ (s.showStop cause).flag FIRE.SLUICE_STAT.DRIVE = true ∧
    (s.showStop cause).flag FIRE.SLUICE_STAT.PIN = true := by
  have drives : (cause != 1 && (((s.raise FIRE.SLUICE_STAT.STOPPED).put FIRE.SLUICE_STAT.CAUSE cause).raise FIRE.STATUS.STOPPED).flag
      FIRE.CTL.SLUICE_OUT) = true := by
    rw [State.flag_raise_other _ _ _ (by decide), State.flag_put_other _ _ _ _ (by decide), State.flag_raise_other _ _ _ (by decide), hout]
    simpa using hpin
  unfold State.showStop
  dsimp only
  rw [State.when_of_true _ _ drives]
  refine ⟨?_, ?_, ?_, ?_, ?_⟩
  · rw [State.syncPin_flag _ (by decide), State.flag_raise_other _ _ _ (by decide), State.flag_raise_other _ _ _ (by decide),
      State.flag_put_other _ _ _ _ (by decide)]
    exact s.flag_raise_same _ (by decide) (by decide)
  · rw [State.syncPin_get _ (by decide), State.get_raise_other _ _ _ (by decide), State.get_raise_other _ _ _ (by decide),
      State.get_put_same _ _ _ (by decide)]
    exact Nat.mod_eq_of_lt hcause
  · rw [State.syncPin_flag _ (by decide), State.flag_raise_other _ _ _ (by decide)]
    exact State.flag_raise_same _ _ (by decide) (by decide)
  · rw [State.syncPin_flag _ (by decide)]
    exact State.flag_raise_same _ _ (by decide) (by decide)
  · rw [State.syncPin_pin, State.flag_raise_same _ _ (by decide) (by decide), Bool.or_true]

theorem State.showStop_get (s : State) (cause : Nat) {g : Fld} (h : FIRE.SLUICE_STAT ≠ g.addr ∧ FIRE.STATUS ≠ g.addr) :
    (s.showStop cause).get g = s.get g := by
  have apart : ∀ f : Fld, f.addr = FIRE.SLUICE_STAT ∨ f.addr = FIRE.STATUS → f.addr ≠ g.addr := by
    rintro f (e | e) <;> rw [e]
    · exact h.1
    · exact h.2
  refine State.get_of_rd ?_
  unfold State.showStop State.when State.syncPin State.raise
  dsimp only
  split
  · rw [State.rd_put_other _ _ _ (apart _ (.inl rfl)), State.rd_put_other _ _ _ (apart _ (.inl rfl)),
      State.rd_put_other _ _ _ (apart _ (.inr rfl)), State.rd_put_other _ _ _ (apart _ (.inl rfl)), State.rd_put_other _ _ _ (apart _ (.inl rfl))]
  · rw [State.rd_put_other _ _ _ (apart _ (.inl rfl)), State.rd_put_other _ _ _ (apart _ (.inr rfl)),
      State.rd_put_other _ _ _ (apart _ (.inl rfl)), State.rd_put_other _ _ _ (apart _ (.inl rfl))]

theorem PORT_STAT_spared : ∀ p, p < 4 → stopSpares (FAB.PORT_STAT.STATE p) := by decide

theorem PORT_STAT_apart : ∀ p, p < 4 → FIRE.SLUICE_STAT ≠ (FAB.PORT_STAT.STATE p).addr ∧ FIRE.STATUS ≠ (FAB.PORT_STAT.STATE p).addr := by
  decide

/-- Settles O14: a stop leaves no work, and on an idle node its fields show and its packet goes out (R24, R158, R319). -/
theorem sluiceStops : Obligations.SluiceStops := by
  unfold Obligations.SluiceStops
  refine ⟨?_, ?_, ?_, ?_, ?_, ?_⟩
  · intro s hstopped hquiet
    have same : s.nodeStop 4 = s := by
      unfold State.nodeStop
      rw [if_pos hstopped]
    show Host.Outcome.next (((s.nodeStop 4).stopRun).unreachRun) = _
    rw [same, State.quiet_runs hquiet]
  · intro s hrun
    obtain ⟨jobs, trigs, taps, loaded, prev, -⟩ := (s.halt_calm 4 hrun).1
    exact ⟨_, rfl, jobs, trigs, taps, loaded, prev⟩
  · intro s hrun
    have hrun' : ((s.onFire (fun f => { f with pinLow := true })).syncPin).flag FIRE.SLUICE_STAT.STOPPED = false := by
      rw [State.syncPin_flag _ (by decide), State.onFire_flag, hrun]
    obtain ⟨jobs, trigs, taps, -, -, pin⟩ := (State.halt_calm _ 1 hrun').1
    exact ⟨_, rfl, jobs, trigs, taps, pin⟩
  · intro s r hrun hmeas
    have runs := (s.halt_calm 4 hrun).2
    rw [hmeas] at runs
    exact ⟨_, rfl, runs⟩
  · intro s hrun hmeas hjobs hswaps hwfe htaps hdue hout hlocal hunreach
    obtain ⟨-, swaps, -, -, -, fab⟩ := s.showStop_frame 4
    have spared := (s.showStop 4).clearIdle_spared (swaps.trans hswaps)
    have quiet_flood : ((s.showStop 4).clearIdle).floodStop 4 = (s.showStop 4).clearIdle := by
      have local_off : ((s.showStop 4).clearIdle).flag FAB.SLUICE_CFG.TX_LOCAL = false := by
        unfold State.flag
        rw [spared.get _ (by decide), s.showStop_get 4 (by decide)]
        exact hlocal
      unfold State.floodStop
      rw [local_off]
      rfl
    have ended : s.halt 4 = (s.showStop 4).clearIdle := by
      rw [s.halt_none 4 hmeas, State.nodeStop_idle hrun hmeas hjobs hswaps hwfe htaps, quiet_flood,
        State.quiet_unreachRun (by rw [spared.fab, fab, hunreach])]
    have kept : ∀ g, stopSpares g → ((s.showStop 4).clearIdle).flag g = (s.showStop 4).flag g :=
      fun g hg => congrArg (· != 0) (spared.get g hg)
    obtain ⟨hstop, hcause, hstat, hdrive, hpin⟩ := State.showStop_fields (s := s) (cause := 4) (by decide) (by decide) hout
    refine ⟨_, congrArg Host.Outcome.next ended, ?_, ?_, ?_, ?_, ?_⟩
    · rw [kept _ (by decide), hstop]
    · rw [spared.get _ (by decide), hcause]
    · rw [kept _ (by decide), hstat]
    · rw [kept _ (by decide), hdrive]
    · rw [kept _ (by decide), hpin]
  · intro s hrun hmeas hjobs hswaps hwfe htaps hdue hlocal hunreach
    obtain ⟨-, swaps, -, -, -, fab⟩ := s.showStop_frame 4
    have spared := (s.showStop 4).clearIdle_spared (swaps.trans hswaps)
    have kept : ∀ g, stopSpares g → FIRE.SLUICE_STAT ≠ g.addr ∧ FIRE.STATUS ≠ g.addr → ((s.showStop 4).clearIdle).get g = s.get g :=
      fun g hg hs => (spared.get g hg).trans (s.showStop_get 4 hs)
    refine ⟨_, rfl, (s.showStop 4).clearIdle, spared.fab.trans fab, kept FAB.NODE.ID (by decide) (by decide), ?_, ?_⟩
    · intro p hp
      unfold State.portUp
      rw [kept _ (PORT_STAT_spared p hp) (PORT_STAT_apart p hp)]
    · rw [s.halt_none 4 hmeas, State.nodeStop_idle hrun hmeas hjobs hswaps hwfe htaps]
      have local_on : ((s.showStop 4).clearIdle).flag FAB.SLUICE_CFG.TX_LOCAL = true := by
        unfold State.flag
        rw [kept _ (by decide) (by decide)]
        exact hlocal
      have node : ((s.showStop 4).clearIdle).nodeId = s.nodeId := kept FAB.NODE.ID (by decide) (by decide)
      unfold State.floodStop
      rw [local_on, spared.fab, fab, node]
      rfl

/-! Release -/

/-- Settles O15: the release clears the drive, and the check clears the stop when nothing asserts it (R160). -/
theorem sluiceReleased : Obligations.SluiceReleased := by
  unfold Obligations.SluiceReleased
  refine ⟨fun s => ⟨_, rfl, ?_, ?_, rfl, rfl, sameMemory_of_mem rfl⟩, ?_, ?_, ?_⟩
  · unfold State.sluiceClear
    rw [State.onFire_flag, State.syncPin_flag _ (by decide)]
    exact s.flag_drop_same _ (by decide)
  · unfold State.sluiceClear
    rw [State.onFire_flag, State.syncPin_pin, s.flag_drop_same _ (by decide), Bool.or_false]
    rfl
  · intro s hdue hdrive hstops hchan
    have pin : ((s.onFire (fun f => { f with clrDue := false, pinLow := false })).syncPin).flag FIRE.SLUICE_STAT.PIN = false := by
      rw [State.syncPin_pin, State.onFire_flag, hdrive]
      rfl
    have cleared : s.sluiceCheck false = ((((s.onFire (fun f => { f with clrDue := false, pinLow := false })).syncPin).drop
        FIRE.SLUICE_STAT.STOPPED).drop FIRE.SLUICE_STAT.CAUSE).drop FIRE.STATUS.STOPPED := by
      unfold State.sluiceCheck
      dsimp only
      rw [pin, if_pos]
      show (!false && s.sys.stops.isEmpty && !s.fab.chanStop) = true
      rw [hstops, hchan]
      rfl
    have checked : exec (.sluiceClrCheck false) s = .next (s.sluiceCheck false) :=
      congrArg Host.Outcome.next (s.when_of_true _ hdue)
    refine ⟨_, checked, ?_⟩
    rw [cleared]
    refine ⟨?_, ?_, ?_, rfl, rfl, sameMemory_of_mem rfl⟩
    · rw [State.flag_drop_other _ _ _ (by decide), State.flag_drop_other _ _ _ (by decide)]
      exact State.flag_drop_same _ _ (by decide)
    · rw [State.get_drop_other _ _ _ (by decide)]
      exact State.get_drop_same _ _ (by decide)
    · exact State.flag_drop_same _ _ (by decide)
  · intro s hdue
    have pin : ((s.onFire (fun f => { f with clrDue := false, pinLow := true })).syncPin).flag FIRE.SLUICE_STAT.PIN = true :=
      (State.syncPin_pin _).trans (Bool.true_or _)
    have kept : s.sluiceCheck true = ((s.onFire (fun f => { f with clrDue := false, pinLow := true })).syncPin).raise
        FIRE.STATUS.WRITE_IGNORED := by
      unfold State.sluiceCheck
      dsimp only
      rw [pin]
      rfl
    have checked : exec (.sluiceClrCheck true) s = .next (s.sluiceCheck true) :=
      congrArg Host.Outcome.next (s.when_of_true _ hdue)
    refine ⟨_, checked, ?_⟩
    rw [kept]
    refine ⟨?_, State.flag_raise_same _ _ (by decide) (by decide)⟩
    rw [State.flag_raise_other _ _ _ (by decide), State.syncPin_flag _ (by decide), State.onFire_flag]
  · intro s low hdue
    exact congrArg Host.Outcome.next (s.when_of_false _ hdue)

end Sys2Proof.Machine
end

section
/-! PROOFS. The enable of the fire engine and its prediction (06_fire_timing.md, R35, R136 to R139, R408). -/

namespace Sys2Proof.Machine

/-! Enable -/

/-- With its PLL locked a block's enable takes effect at once (R408). -/
theorem State.enableBlock_of_lock {s : State} {en : Fld} {pll code : Nat} (hheld : s.held = false)
    (hlock : ({ s.raise en with pmu := { s.pmu with pllRun := insertAsc s.pmu.pllRun pll } } : State).flag (pllFld pll) = true) :
    s.enableBlock en pll code = ({ s.raise en with pmu := { s.pmu with pllRun := insertAsc s.pmu.pllRun pll } } : State).startBlock code := by
  unfold State.enableBlock
  rw [hheld]
  exact if_pos hlock

/-- Without its lock the enable waits (R408). -/
theorem State.enableBlock_of_no_lock {s : State} {en : Fld} {pll code : Nat} (hheld : s.held = false)
    (hlock : ({ s.raise en with pmu := { s.pmu with pllRun := insertAsc s.pmu.pllRun pll } } : State).flag (pllFld pll) = false) :
    s.enableBlock en pll code = { s.raise en with
      pmu := { s.pmu with pllRun := insertAsc s.pmu.pllRun pll, waiting := insertAsc s.pmu.waiting code } } := by
  unfold State.enableBlock
  rw [hheld]
  exact if_neg fun locked => Bool.false_ne_true (hlock.symm.trans locked)

/-- The lock bits of the PLLs share no register with an enable bit outside the PMU. -/
theorem State.flag_pll_raise (s : State) {en : Fld} (pmu : PmuState) (pll : Nat) (h : en.addr ≠ PMU.CLK_STAT) :
    ({ s.raise en with pmu := pmu } : State).flag (pllFld pll) = s.flag (pllFld pll) :=
  State.flag_of_rd (s := s) (s.rd_put_other en 1 h)

theorem State.fireEnable_off {s : State} (hen : s.flag FIRE.CTL.EN = false) (haxis : s.get FIRE.CFG.AXIS < 5) :
    s.fireEnable = s.enableBlock FIRE.CTL.EN 2 1 := by
  unfold State.fireEnable
  rw [hen, if_neg Bool.false_ne_true, if_neg (by omega)]

/-- With every trigger cancelled no trigger is left. -/
theorem State.cancelTrigs_all (s : State) : (s.cancelTrigs (fun _ => true)).fire.trigs = [] :=
  List.filter_eq_nil_iff.2 fun _ _ => Bool.false_ne_true

/-- Without a tap word to account for, cancelling triggers changes the fire engine alone. -/
theorem State.cancelTrigs_of_no_tap {s : State} (h : s.fire.taps = []) (sel : Nat → Bool) : ∃ x, s.cancelTrigs sel = { s with fire := x } := by
  unfold State.cancelTrigs
  rw [h]
  exact ⟨_, rfl⟩

/-- No compare, no trigger and no last fire line: what FIRE_DISABLE leaves, whatever stop it asserts. -/
def Unplaced (_ : List Job) (X : FireState) : Prop := X.loaded = false ∧ X.trigs = [] ∧ X.prev = none

theorem unplaced_stopped {J : List Job} {X : FireState} (_ : Unplaced J X) : Unplaced [] X.stopped := ⟨rfl, rfl, rfl⟩

theorem State.running_of_no_job {s : State} (h : s.jobs = []) : s.running = none := by
  unfold State.running State.firstJob
  rw [h]
  rfl

theorem State.armed_of_no_job {s : State} (h : s.jobs = []) : s.armed = none := by
  unfold State.armed State.firstJob
  rw [h]
  rfl

theorem State.abortRunning_of_no_job {s : State} (h : s.jobs = []) (group : Nat) : s.abortRunning group = s := by
  unfold State.abortRunning
  rw [State.running_of_no_job h]

/-- Without jobs and swaps none appears when the engines settle. -/
theorem State.settleSwaps_of_empty {s : State} (hjobs : s.jobs = []) (hswaps : s.swaps = []) (hunreach : s.fab.unreachDue = []) :
    s.settleSwaps.jobs = [] ∧ s.settleSwaps.swaps = [] := by
  obtain ⟨works, swaps⟩ := State.settleSwaps_works (works_self s) hunreach hswaps
  exact ⟨works.1.trans hjobs, swaps⟩

/-- Settles O16: the enable is that of a block with a PLL, and the disable drops what was placed (R35, R136, R408). -/
theorem fireEnable : Obligations.FireEnable := by
  unfold Obligations.FireEnable
  refine ⟨?_, ?_, ?_, ?_, ?_, ?_, ?_⟩
  · intro s hen haxis hlock hheld
    have locked := (s.flag_pll_raise { s.pmu with pllRun := insertAsc s.pmu.pllRun 2 } 2 (by decide : FIRE.CTL.EN.addr ≠ _)).trans hlock
    exact congrArg Host.Outcome.next ((State.fireEnable_off hen haxis).trans (State.enableBlock_of_lock hheld locked))
  · intro s hen haxis hlock hheld
    have unlocked := (s.flag_pll_raise { s.pmu with pllRun := insertAsc s.pmu.pllRun 2 } 2 (by decide : FIRE.CTL.EN.addr ≠ _)).trans hlock
    exact congrArg Host.Outcome.next ((State.fireEnable_off hen haxis).trans (State.enableBlock_of_no_lock hheld unlocked))
  · intro s hen
    exact congrArg Host.Outcome.next (if_pos hen)
  · intro s hen haxis
    refine congrArg Host.Outcome.next ?_
    unfold State.fireEnable
    rw [hen, if_neg Bool.false_ne_true, if_pos haxis]
  · intro s hen
    refine congrArg Host.Outcome.next ?_
    unfold State.fireDisable
    rw [hen]
    rfl
  · intro s hen
    refine ⟨_, rfl, ?_⟩
    unfold State.fireDisable
    rw [hen, Bool.not_true, if_neg Bool.false_ne_true]
    exact State.settleSwaps_ends (P := Unplaced) (fun _ _ h => unplaced_stopped h) ⟨rfl, State.cancelTrigs_all _, rfl⟩
  · intro s hen hjobs hswaps htaps hunreach
    have no_job : (s.disableBlock FIRE.CTL.EN 1).jobs = [] := hjobs
    obtain ⟨x, cancelled⟩ := (s.disableBlock FIRE.CTL.EN 1).cancelTrigs_of_no_tap htaps (fun _ => true)
    refine ⟨_, rfl, ?_⟩
    unfold State.fireDisable
    rw [hen, Bool.not_true, if_neg Bool.false_ne_true]
    dsimp only
    rw [State.abortRunning_of_no_job no_job, State.disarm_of_none (State.armed_of_no_job no_job), cancelled]
    exact State.settleSwaps_of_empty hjobs hswaps hunreach

/-! Prediction -/

/-- A sample of an axis without a correction table is taken as it is (R230, R243). -/
theorem State.correctSample_of_off {s : State} {k : Sample} (h : bit (s.get CAL.ENC_OK.AXIS) (s.get FIRE.CFG.AXIS) = false) :
    s.correctSample k = k := by
  unfold State.correctSample
  dsimp only
  rw [h]
  rfl

/-- Without a mark and without a job that runs or is armed, a sample sets no mark (R155). -/
theorem State.markSample_of_idle {s : State} {k : Sample} (hhwm : s.fire.hwm = none) (hjobs : s.jobs = []) : s.markSample k = s := by
  unfold State.markSample
  rw [hhwm, State.armed_of_no_job hjobs, State.running_of_no_job hjobs]
  rfl

/-- Without a job and without a job armed before, the direction is 0. -/
theorem State.fireDir_of_idle {s : State} (hjobs : s.jobs = []) (hlast : s.fire.lastDir = none) : s.fireDir = 0 := by
  unfold State.fireDir
  rw [State.running_of_no_job hjobs, State.armed_of_no_job hjobs, hlast]
  rfl

/-- A fresh sample with forward speed makes the prediction of an idle engine sound (R137). -/
theorem State.predOk_of_idle {s : State} {k : Sample} (hsample : s.fire.sample = some k) (hjobs : s.jobs = [])
    (hlast : s.fire.lastDir = none) (hhwm : s.fire.hwm = none) (hv : 0 < k.v)
    (hfresh : tickDist s.time k.t ≤ (1600 * oneIfZero (s.get FIRE.PRED_CFG.STALE_TMO) : Nat)) : s.predOk = true := by
  have fresh : s.sampleFresh = true := by
    unfold State.sampleFresh
    rw [hsample]
    exact decide_eq_true hfresh
  unfold State.predOk
  rw [hsample, hhwm]
  dsimp only
  rw [State.fireDir_of_idle hjobs hlast, fresh]
  simpa using hv

/-- A prediction that becomes valid is shown, and the check of a loaded compare is due (R137, R154). -/
theorem State.syncPred_gains {s : State} (hwas : s.flag FIRE.STATUS.PRED_VALID = false) (hon : s.fireOn = true) (hok : s.predOk = true) :
    s.syncPred = (s.raise FIRE.STATUS.PRED_VALID).onFire (fun f => { f with predLost := false, check := f.loaded }) := by
  unfold State.syncPred
  rw [hwas, hon, hok]
  rfl

theorem State.replace_of_no_trig {s : State} (k : Sample) (h : s.fire.trigs = []) : s.replace k = s :=
  s.onFire_self (by rw [h]; show { s.fire with trigs := [] } = s.fire; rw [← h])

theorem State.holdCommitted_of_no_trig {s : State} (h : s.fire.trigs = []) : s.holdCommitted = s :=
  s.onFire_self (by rw [h]; show { s.fire with trigs := [] } = s.fire; rw [← h])

theorem State.lateCheck_of_no_job {s : State} (h : s.jobs = []) : s.lateCheck = s := by
  have no_job : s.job? s.fire.cmpJob = none := by
    unfold State.job?
    rw [h]
    rfl
  unfold State.lateCheck
  rw [no_job]
  cases s.fire.sample <;> rfl

/-- What follows a sample on an idle engine whose prediction it makes sound. -/
theorem State.predicts_of_idle {s : State} {k : Sample} (hjobs : s.jobs = []) (htrigs : s.fire.trigs = []) (hload : s.fire.loaded = false)
    (hhwm : s.fire.hwm = none) (hpred : s.flag FIRE.STATUS.PRED_VALID = false) (hon : s.fireOn = true) (hok : s.predOk = true) :
    (let b := (s.markSample k).syncPred
     (b.when (b.flag FIRE.STATUS.PRED_VALID) (·.replace k)).lateCheck) =
      (s.raise FIRE.STATUS.PRED_VALID).onFire (fun f => { f with predLost := false, check := false }) := by
  have shown : s.syncPred = (s.raise FIRE.STATUS.PRED_VALID).onFire (fun f => { f with predLost := false, check := false }) := by
    rw [State.syncPred_gains hpred hon hok]
    exact congrArg (fun c => (s.raise FIRE.STATUS.PRED_VALID).onFire (fun f => { f with predLost := false, check := c })) hload
  dsimp only
  rw [State.markSample_of_idle hhwm hjobs, shown, State.when_self]
  · exact State.lateCheck_of_no_job hjobs
  · exact State.replace_of_no_trig k htrigs

/-- An idle engine takes a fresh forward sample and predicts from it (R137). -/
theorem exec_validSample_idle {s : State} {k : Sample} {rest : List Sample} (hinbox : s.fire.inbox = k :: rest)
    (hcal : bit (s.get CAL.ENC_OK.AXIS) (s.get FIRE.CFG.AXIS) = false) (hon : s.fireOn = true) (hjobs : s.jobs = [])
    (htrigs : s.fire.trigs = []) (hload : s.fire.loaded = false) (hhwm : s.fire.hwm = none) (hlast : s.fire.lastDir = none)
    (hpred : s.flag FIRE.STATUS.PRED_VALID = false) (hv : 0 < k.v)
    (hfresh : tickDist s.time k.t ≤ (1600 * oneIfZero (s.get FIRE.PRED_CFG.STALE_TMO) : Nat)) :
    exec .validSample s = .next ((((s.onFire (fun f => { f with inbox := rest, sample := some k })).wr FIRE.SPEED
      (w32 (unsignedOf 32 k.v))).raise FIRE.STATUS.PRED_VALID).onFire (fun f => { f with predLost := false, check := false })) := by
  have taken : ∀ a, a = (s.onFire (fun f => { f with inbox := rest, sample := some k })).wr FIRE.SPEED (w32 (unsignedOf 32 k.v)) →
      a.flag FIRE.STATUS.PRED_VALID = false ∧ a.fireOn = true ∧ a.predOk = true := by
    rintro a rfl
    have read : ∀ g : Fld, FIRE.SPEED ≠ g.addr →
        ((s.onFire (fun f => { f with inbox := rest, sample := some k })).wr FIRE.SPEED (w32 (unsignedOf 32 k.v))).get g = s.get g :=
      fun g hg => (State.get_wr_other _ _ g hg).trans (s.onFire_get _ g)
    refine ⟨?_, ?_, ?_⟩
    · unfold State.flag
      rw [read _ (by decide)]
      exact hpred
    · unfold State.fireOn State.blockOn State.domainRuns State.flag
      rw [read _ (by decide), read _ (by decide)]
      exact hon
    · refine State.predOk_of_idle rfl hjobs hlast hhwm hv ?_
      rw [read _ (by decide)]
      exact hfresh
  obtain ⟨was, on, ok⟩ := taken _ rfl
  show execValidSample s = _
  unfold execValidSample
  rw [hinbox]
  dsimp only
  rw [State.correctSample_of_off hcal, State.when_of_false _ _ hpred]
  exact congrArg Host.Outcome.next (State.predicts_of_idle hjobs htrigs hload hhwm was on ok)

/-- PREDICTION_STALE loses a valid prediction whose sample has grown too old (R137). -/
theorem exec_predictionStale {s : State} (hpred : s.flag FIRE.STATUS.PRED_VALID = true) (hfresh : s.sampleFresh = false) :
    exec .predictionStale s = .next s.losePred := by
  refine congrArg Host.Outcome.next (s.when_of_true _ ?_)
  rw [hpred, hfresh]
  rfl

/-- Settles O17: samples in the order of the inbox, and the loss of a prediction (R136 to R138). -/
theorem predictionFollowsSamples : Obligations.PredictionFollowsSamples := by
  unfold Obligations.PredictionFollowsSamples
  refine ⟨?_, fun s k rest => exec_validSample_idle, ?_, fun s => exec_predictionStale, ?_, ?_⟩
  · intro s k rest hinbox
    show execValidSample s = _
    unfold execValidSample
    rw [hinbox]
  · intro s hinbox
    show execValidSample s = _
    unfold execValidSample
    rw [hinbox]
  · intro s hpred hfresh htrigs
    rw [exec_predictionStale hpred hfresh]
    unfold State.losePred
    rw [State.holdCommitted_of_no_trig htrigs]
    show Host.Outcome.next (match s.fire.trigs.find? _ with | some _ => _ | none => _) = _
    rw [htrigs]
    rfl
  · intro s u hpred hfresh hfind hlost
    rw [exec_predictionStale hpred hfresh]
    unfold State.losePred
    show Host.Outcome.next (match s.holdCommitted.fire.trigs.find? _ with | some _ => _ | none => _) = _
    rw [hfind]
    exact congrArg Host.Outcome.next (if_neg (fun lost => Bool.false_ne_true (hlost.symm.trans lost)))

end Sys2Proof.Machine
end

section
/-! PROOFS. Arming, fire-line boundaries, row triggers and completion (06_fire_timing.md, R141 to R155). -/

namespace Sys2Proof.Machine

/-! The compare -/

/-- The compare reads what was set, modulo 2^24 counts (R141). -/
theorem State.setCompare_int (s : State) (c : Nat) : (s.setCompare c).get FIRE.CMP_INT.CMP = c / 2 ^ 24 % 2 ^ 24 := by
  unfold State.setCompare State.get
  rw [State.rd_wr_same, fieldOf_w32]
  show c / 2 ^ 24 % 2 ^ 24 % 2 ^ 32 / 2 ^ 0 % 2 ^ 24 = c / 2 ^ 24 % 2 ^ 24
  omega

theorem State.setCompare_frac (s : State) (c : Nat) : (s.setCompare c).get FIRE.CMP_FRAC.CMP = c % 2 ^ 24 := by
  unfold State.setCompare
  rw [State.get_wr_other _ _ _ (by decide)]
  unfold State.get
  rw [State.rd_wr_same, fieldOf_w32]
  show c % 2 ^ 24 % 2 ^ 32 / 2 ^ 0 % 2 ^ 24 = c % 2 ^ 24
  omega

theorem State.compare_setCompare (s : State) (c : Nat) : (s.setCompare c).compare = c % 2 ^ 48 := by
  unfold State.compare
  rw [s.setCompare_frac c, s.setCompare_int c]
  omega

/-! Arming -/

section Arming

variable {s : State} {j : Job}

/-- The conditions under which JOB_ARM comes to the arm check (R150). -/
theorem armable (hchecked : j.checked = true) (hen : s.flag SYS.MGMT_CTL.ARM_EN = true) (hstop : s.stopped = false)
    (harmed : s.armed = none) (hon : s.fireOn = true) :
    (j.checked && s.flag SYS.MGMT_CTL.ARM_EN && !s.stopped && s.armed.isNone && s.fireOn) = true := by
  rw [hchecked, hen, hstop, harmed, hon]
  rfl

theorem exec_jobArm_sound (hfind : s.jobs.find? (·.st == .queued) = some j) (hchecked : j.checked = true)
    (hen : s.flag SYS.MGMT_CTL.ARM_EN = true) (hstop : s.stopped = false) (harmed : s.armed = none) (hon : s.fireOn = true)
    (hsound : s.armFault j = none) : exec .jobArm s = .next (s.armJob j) := by
  show execJobArm s = _
  unfold execJobArm
  rw [hfind]
  dsimp only
  rw [if_pos (armable hchecked hen hstop harmed hon), hsound]

/-- Tests that agree on the members of a list find the same one. -/
theorem find?_of_agree {α : Type} {p q : α → Bool} {l : List α} (h : ∀ k ∈ l, p k = q k) : l.find? p = l.find? q := by
  induction l with
  | nil => rfl
  | cons k l ih =>
    rw [List.find?_cons, List.find?_cons, h k List.mem_cons_self, ih fun j hj => h j (List.mem_cons_of_mem k hj)]

/-- Where no job was armed, the job that is now armed is the first of its number (R150). -/
theorem State.armed_onJob (hjob : s.job? j.seq = some j) (harmed : s.armed = none) :
    (s.onJob j.seq (fun k => { k with st := .armed })).armed = some { j with st := .armed } := by
  have not_armed : ∀ k ∈ s.jobs, ¬ (k.st == JobState.armed) = true := List.find?_eq_none.1 harmed
  have now_armed : ∀ k ∈ s.jobs, ((if k.seq == j.seq then { k with st := JobState.armed } else k : Job).st == JobState.armed) =
      (k.seq == j.seq) := by
    intro k hk
    split
    · rename_i at_seq
      exact at_seq.symm
    · rename_i other
      rw [Bool.eq_false_iff.2 other, Bool.eq_false_iff.2 (not_armed k hk)]
  have first : s.jobs.find? (fun k => (if k.seq == j.seq then { k with st := JobState.armed } else k : Job).st == JobState.armed) = some j :=
    (find?_of_agree now_armed).trans hjob
  show (s.jobs.map _).find? _ = _
  rw [List.find?_map]
  show (s.jobs.find? _).map _ = _
  rw [Function.comp_def, first]
  simp

/-- Arming shows in FIRE.STATUS. -/
theorem State.syncFire_armed {k : Job} (h : s.armed = some k) : s.syncFire.flag FIRE.STATUS.ARMED = true := by
  unfold State.syncFire
  rw [h]
  exact State.flag_raise_same _ _ (by decide) (by decide)

theorem State.syncPred_of_no_sample (hsample : s.fire.sample = none) (hpred : s.flag FIRE.STATUS.PRED_VALID = false) : s.syncPred = s := by
  have no_pred : s.predOk = false := by
    unfold State.predOk
    rw [hsample]
  unfold State.syncPred
  rw [hpred, no_pred, Bool.and_false]
  rfl

theorem State.lateCheck_of_no_sample (hsample : s.fire.sample = none) : s.lateCheck = s := by
  unfold State.lateCheck
  rw [hsample]

/-- C(0) of the armed job is loaded when no compare is (R151). -/
theorem State.loadArmed_of {k : Job} (harmed : s.armed = some k) (hload : s.fire.loaded = false) : s.loadArmed =
    (s.setCompare (s.firstCompare k)).onFire (fun f => { f with loaded := true, cmpJob := k.seq, cmpY := 0, check := true }) := by
  unfold State.loadArmed
  rw [harmed]
  dsimp only
  rw [hload]
  rfl

/-- What an idle engine without a sample does to arm a job: its C(0) is loaded, and no mark stands. -/
def State.armsIdle (s : State) (j : Job) : State :=
  ((((s.onJob j.seq (fun k => { k with st := .armed })).syncFire).onFire (fun f => { f with
    hwm := none, lastDir := some j.dir, revReported := false })).setCompare (s.firstCompare j)).onFire (fun f => { f with
      loaded := true, cmpJob := j.seq, cmpY := 0, check := true })

theorem State.armsIdle_flag (s : State) (j : Job) {g : Fld} (hfrac : FIRE.CMP_FRAC ≠ g.addr) (hint : FIRE.CMP_INT ≠ g.addr) :
    (s.armsIdle j).flag g = ((s.onJob j.seq (fun k => { k with st := .armed })).syncFire).flag g := by
  refine State.flag_of_rd ?_
  unfold State.armsIdle
  rw [State.onFire_rd, State.setCompare_rd _ _ hfrac hint, State.onFire_rd]

theorem State.armJob_idle (hjob : s.job? j.seq = some j) (harmed : s.armed = none) (hrun : s.running = none)
    (hsample : s.fire.sample = none) (hload : s.fire.loaded = false) (hpred : s.flag FIRE.STATUS.PRED_VALID = false)
    (hmeas : s.cal.meas = none) : s.armJob j = s.armsIdle j := by
  have marked : ∀ a : State, a.fire = s.fire →
      (a.when (true || a.fire.lastDir != some j.dir) (·.setMark (a.fire.sample.map (·.p)))).onFire
        (fun f => { f with lastDir := some j.dir, revReported := f.revReported && !true }) =
      a.onFire (fun f => { f with hwm := none, lastDir := some j.dir, revReported := false }) := by
    intro a ha
    rw [State.when_of_true _ _ (Bool.true_or _), ha, hsample]
    unfold State.onFire State.setMark
    simp [State.onFire]
  have loads : (((s.onJob j.seq (fun k => { k with st := .armed })).syncFire).onFire (fun f => { f with
      hwm := none, lastDir := some j.dir, revReported := false })).loadArmed = s.armsIdle j :=
    State.loadArmed_of (k := { j with st := .armed }) (State.armed_onJob hjob harmed) hload
  have invalid : (s.armsIdle j).flag FIRE.STATUS.PRED_VALID = false := by
    rw [State.armsIdle_flag _ _ (by decide) (by decide)]
    exact (State.flag_put_other _ _ _ _ (by decide)).trans ((State.flag_put_other _ _ _ _ (by decide)).trans hpred)
  unfold State.armJob
  rw [hrun]
  dsimp only [Option.isNone]
  rw [marked ((s.onJob j.seq (fun k => { k with st := .armed })).syncFire) rfl, loads]
  show (State.syncPred (match s.cal.meas with | some _ => _ | none => _)).lateCheck = _
  rw [hmeas]
  show ((s.armsIdle j).syncPred).lateCheck = _
  rw [State.syncPred_of_no_sample (s := s.armsIdle j) hsample invalid, State.lateCheck_of_no_sample (s := s.armsIdle j) hsample]

end Arming

/-- Settles O18: the arm check decides, and an idle engine loads C(0) (R150, R151). -/
theorem jobsAreArmed : Obligations.JobsAreArmed := by
  unfold Obligations.JobsAreArmed
  refine ⟨fun s j => exec_jobArm_sound, ?_, ?_, ?_⟩
  · intro s j hfind hjob hchecked hen hstop harmed hrun hon hsound hsample hload hpred hmeas
    refine ⟨_, exec_jobArm_sound hfind hchecked hen hstop harmed hon hsound, ?_⟩
    rw [State.armJob_idle hjob harmed hrun hsample hload hpred hmeas]
    refine ⟨rfl, rfl, rfl, rfl, rfl, ?_, ?_, sameMemory_of_mem rfl⟩
    · exact (State.onFire_get _ _ _).trans (State.setCompare_int _ _)
    · rw [State.armsIdle_flag _ _ (by decide) (by decide)]
      exact State.syncFire_armed (State.armed_onJob hjob harmed)
  · intro s j code hfind hchecked hen hstop harmed hon hfault
    show execJobArm s = _
    unfold execJobArm
    rw [hfind]
    dsimp only
    rw [if_pos (armable hchecked hen hstop harmed hon), hfault]
    rfl
  · intro s hen
    show execJobArm s = _
    unfold execJobArm
    split
    · rw [hen, Bool.and_false]
      rfl
    · rfl

/-! Fire-line boundaries -/


/-- A compare that moves on within the job (R141, R154). -/
theorem State.nextCompare_within {s : State} {j : Job} {y c : Nat} (hy : y + 1 < j.lines) (hlast : s.lastLine j y c = false) :
    (s.nextCompare j y c 1).compare = (c + j.step) % 2 ^ 48 ∧ (s.nextCompare j y c 1).fire.cmpY = y + 1 := by
  have stays : ¬ (s.lastLine j y c || decide (s.linesLeft j y c < 1)) = true := by
    have left : ¬ s.linesLeft j y c < 1 := by
      unfold State.linesLeft
      omega
    rw [hlast, decide_eq_false left]
    exact Bool.false_ne_true
  unfold State.nextCompare
  dsimp only
  rw [if_neg stays]
  refine ⟨?_, rfl⟩
  have compares : ∀ (t : State) f, (t.onFire f).compare = t.compare := fun t f => by
    unfold State.compare
    rw [State.onFire_get, State.onFire_get]
  rw [compares, State.compare_setCompare, Nat.one_mul, Nat.mod_mod]

/-- An engine that is stopped takes no boundary. -/
theorem State.fireReady_of_stopped {s : State} (h : s.stopped = true) : s.fireReady = false := by
  unfold State.fireReady
  rw [h, Bool.not_true, Bool.and_false]

/-- Settles O19: the boundary is due, late or not taken, and the compare moves on by a pitch (R141, R142, R154). -/
theorem fireLineBoundaries : Obligations.FireLineBoundaries := by
  unfold Obligations.FireLineBoundaries
  refine ⟨?_, ?_, ?_, fun s j y c => State.nextCompare_within⟩
  · intro s k j hsample hjob hready hcheck hahead
    show execFireLineBoundary s = _
    unfold execFireLineBoundary
    rw [hsample, hjob]
    dsimp only
    rw [hready, hcheck, hahead]
    rfl
  · intro s k j hsample hjob hready hcheck hbehind
    show execFireLineBoundary s = _
    unfold execFireLineBoundary
    rw [hsample, hjob]
    dsimp only
    rw [hready, hcheck, hbehind]
    rfl
  · intro s hstop
    show execFireLineBoundary s = _
    unfold execFireLineBoundary
    split
    · rw [State.fireReady_of_stopped hstop]
      rfl
    · rfl

/-! Row triggers and completion -/

section Triggers

variable {s : State} {h : Nat} {t : Trig}

/-- A committed trigger whose instant has come is issued unless the node is stopped (R144, R146). -/
theorem exec_rowTrigger (hfind : s.fire.trigs.find? (·.head == h) = some t) (hreached : reached s.time t.at_ = true)
    (hcommitted : t.committed = true) (hstop : s.stopped = false) : exec (.rowTrigger h) s = .next (s.issueTrig t) := by
  show execRowTrigger h s = _
  unfold execRowTrigger
  rw [hfind]
  refine congrArg Host.Outcome.next (s.when_of_true _ ?_)
  unfold State.committedNow
  rw [hreached, hcommitted, hstop]
  rfl

/-- The head of a trigger that is found for head h is h. -/
theorem head_of_find (hfind : s.fire.trigs.find? (·.head == h) = some t) : t.head = h := by
  simpa using List.find?_some hfind

end Triggers

/-- A completion leaves the fire engine and memory and takes the job away (R153). -/
theorem State.completed_frame (s : State) (q : Nat) : (((s.complete q 0 0 0).syncFire).syncCmp).jobs = s.jobs.filter (·.seq != q) ∧
    (((s.complete q 0 0 0).syncFire).syncCmp).fire = s.fire ∧ SameMemory s (((s.complete q 0 0 0).syncFire).syncCmp) :=
  ⟨s.complete_jobs q 0 0 0, s.complete_fire q 0 0 0, sameMemory_of_mem (congrArg State.mem (s.complete_rest q 0 0 0) :)⟩

/-- Settles O20: a trigger is issued in its instant, and the first job that is done completes (R144 to R148, R153). -/
theorem triggersAndCompletion : Obligations.TriggersAndCompletion := by
  unfold Obligations.TriggersAndCompletion
  refine ⟨fun s h t => exec_rowTrigger, ?_, ?_, ?_, ?_, fun s q => s.completed_frame q, ?_⟩
  · intro s h t hfind hreached hcommitted hstop hlatched
    rw [exec_rowTrigger hfind hreached hcommitted hstop]
    unfold State.issueTrig
    rw [head_of_find hfind]
    dsimp only
    rw [hlatched]
  · intro s h t x hfind hreached hcommitted hstop hlatched hseq hy hrail hacting hrefusal
    rw [exec_rowTrigger hfind hreached hcommitted hstop]
    unfold State.issueTrig
    rw [head_of_find hfind]
    dsimp only
    have plays : (s.get (WFE.HEAD_STAT.RAIL_STATE h) == 3 || (s.hport h).acting || !(x.seq == t.seq && x.y == t.y)) = false := by
      rw [hacting, hseq, hy, beq_eq_false_iff_ne.2 hrail]
      simp
    rw [hlatched]
    dsimp only
    rw [plays, hrefusal]
    rfl
  · intro s h t hfind hwaits
    show execRowTrigger h s = _
    unfold execRowTrigger
    rw [hfind]
    refine congrArg Host.Outcome.next (s.when_of_false _ ?_)
    rw [hwaits]
    rfl
  · intro s j hdone
    show execJobComplete s = _
    unfold execJobComplete
    rw [hdone]
  · intro s hdone
    show execJobComplete s = _
    unfold execJobComplete
    rw [hdone]

end Sys2Proof.Machine
end

section
/-! PROOFS. The waveform engine: the instructions that play samples, the zero-time ones, and the ends of slots (R106 to R120). -/

namespace Sys2Proof.Machine

/-- Playing n samples moves the sample count by n, sends n codes, and leaves the program counter (R108, R113). -/
theorem playSamples_counts (corr : List Int) (slope : Int) (n k : Nat) (z : Slot) :
    (playSamples corr slope n (z, k)).1.idx = z.idx + n ∧ (playSamples corr slope n (z, k)).1.codes.length = z.codes.length + n ∧
      (playSamples corr slope n (z, k)).1.pc = z.pc := by
  induction n generalizing z k with
  | zero => exact ⟨rfl, rfl, rfl⟩
  | succ n ih =>
    unfold playSamples
    obtain ⟨hidx, hcodes, hpc⟩ := ih _ _
    refine ⟨hidx.trans ?_, hcodes.trans ?_, hpc⟩
    · show z.idx + 1 + n = z.idx + (n + 1)
      omega
    · simp only [List.length_append, List.length_singleton]
      omega

section Playing

variable {s : State} {c n : Nat} {z : Slot} {slope : Int}

/-- All samples play when the slot's limit lies behind them (R106). -/
theorem State.playOn_all (h : z.idx + n ≤ s.slotCap c z) : (s.playOn c z slope n).2.2 = true := by
  show (min n (s.slotCap c z - z.idx) == n) = true
  rw [Nat.min_eq_left (by omega), beq_self_eq_true]

/-- Not all samples play when the slot's limit lies before their end (R106). -/
theorem State.playOn_cut (h : s.slotCap c z < z.idx + n) (hn : 0 < n) : (s.playOn c z slope n).2.2 = false := by
  show (min n (s.slotCap c z - z.idx) == n) = false
  exact beq_eq_false_iff_ne.2 (by omega)

/-- The next instruction of a channel runs when it has the opcode. -/
theorem State.runWave_of_ready {opc : Nat} (h : s.waveReady c opc z) (f : State → Slot → Word × Word → State) :
    s.runWave c opc f = f s z (s.wmem z.pc) := by
  obtain ⟨hslot, hopc, hends⟩ := h
  unfold State.runWave
  rw [hslot]
  exact if_pos (by rw [hopc, hends, beq_self_eq_true]; rfl)

/-- A zero-time instruction takes no sample up to the fourth in a row (R109). -/
theorem State.zeroTime_of_few (h : z.zeros < 4) : s.zeroTime c z = (s, ({ z with zeros := z.zeros + 1 }, true)) :=
  if_neg (Nat.not_le.2 h)

/-- The suspension of the checks leaves the limit of a slot. -/
theorem State.suspendChecks_slotCap (s : State) (c upto : Nat) (z y : Slot) :
    (s.suspendChecks c z upto).slotCap c y = s.slotCap c y := by
  unfold State.suspendChecks State.when
  split
  · rfl
  · rfl

/-- The accumulator that HOLD plays leaves the limit of the slot. -/
theorem State.slotCap_hold (s : State) (c : Nat) (b : Bool) (z : Slot) (a : Int) :
    s.slotCap c (if b = true then { z with acc := a } else z) = s.slotCap c z := by
  cases b <;> rfl

theorem Slot.idx_hold (b : Bool) (z : Slot) (a : Int) : (if b = true then { z with acc := a } else z).idx = z.idx := by
  cases b <;> rfl

end Playing

/-! The faults that one cycle shows -/

/-- No fault changes no rail state. -/
theorem State.resolveFaults_nil (s : State) (h : Nat) : s.resolveFaults h [] = s := by
  unfold State.resolveFaults
  exact if_pos rfl

/-- A cycle without a fault changes nothing more. -/
theorem State.faultChans_nil (s : State) : s.faultChans [] = s :=
  each_id s (List.range 16) _ (fun h _ => s.resolveFaults_nil h)

section Lists

variable (s : State) (l : CycleFaults)

theorem State.noteSamples_nil : s.noteSamples [] = s := rfl

theorem State.shortsOf_of_nil (h : l.shorts = []) : s.shortsOf l = [] := by
  unfold State.shortsOf
  rw [h]
  rfl

theorem State.ampsOf_of_nil (h : l.amps = []) : s.ampsOf l = [] := by
  unfold State.ampsOf
  rw [h]
  rfl

theorem State.tracksOf_of_nil (h : l.tracks = []) : s.tracksOf l = [] := by
  unfold State.tracksOf
  rw [h]
  rfl

theorem State.offsOf_of_nil (h : l.offs = []) : s.offsOf l = [] := by
  unfold State.offsOf
  rw [h]
  rfl

theorem State.playRamps_nil : s.playRamps [] = (s, []) := rfl

theorem State.playRamps_single (c : Nat) (fb : List (Nat × Nat)) : s.playRamps [(c, fb)] = s.playRamp c fb := rfl

end Lists

/-- A single ramp's cycle: the ramp plays, and the fault its end finds is resolved. -/
theorem State.cycleFaults_ramp (s : State) (c : Nat) (fb : List (Nat × Nat)) :
    s.cycleFaults { ramps := [(c, fb)] } = (s.playRamp c fb).1.faultChans (firstFaults (s.playRamp c fb).2) := by
  unfold State.cycleFaults
  rw [s.shortsOf_of_nil _ rfl, s.ampsOf_of_nil _ rfl, s.tracksOf_of_nil _ rfl, s.offsOf_of_nil _ rfl, s.playRamps_single]
  simp only [State.noteSamples_nil, State.each_nil, List.map_nil, List.filter_nil, List.append_nil, List.nil_append]

/-- The open check finds at most one fault. -/
theorem State.firstFaults_openFault (s : State) (c : Nat) (z : Slot) (dv : Nat) (fb : List (Nat × Nat)) :
    firstFaults (s.openFault c z dv fb) = s.openFault c z dv fb := by
  unfold State.openFault
  split <;> rfl

/-- RAMP as the command of its cycle. -/
theorem exec_ramp (s : State) (c : Nat) (l : CycleFaults) (h : l.ramps.any (·.1 == c) = true) :
    exec (.ramp c l) s = .next (s.cycleFaults l) := by
  show Host.Outcome.next (s.cycleFaults { l with ramps := if l.ramps.any (·.1 == c) = true then l.ramps else (c, []) :: l.ramps }) = _
  rw [if_pos h]

/-- A single RAMP as the command of its cycle. -/
theorem exec_ramp_single (s : State) (c : Nat) (fb : List (Nat × Nat)) :
    exec (.ramp c { ramps := [(c, fb)] }) s = .next ((s.playRamp c fb).1.faultChans (firstFaults (s.playRamp c fb).2)) := by
  rw [exec_ramp s c _ (by simp), s.cycleFaults_ramp]

/-- Settles O21: each instruction of a program plays its samples, up to the slot's limit, or takes no time (R107 to R120). -/
theorem waveformInstructions : Obligations.WaveformInstructions := by
  unfold Obligations.WaveformInstructions
  refine ⟨?_, ?_, exec_ramp, ?_, ?_, ?_, ?_, ?_, ?_, playSamples_counts⟩
  · intro s c fb z ⟨hslot, hopc, _⟩ hcap
    rw [exec_ramp_single]
    unfold State.playRamp
    rw [hslot]
    dsimp only
    rw [hopc, if_neg (by decide), State.playOn_all hcap, if_pos rfl]
    dsimp only
    rw [State.firstFaults_openFault]
  · intro s c fb z ⟨hslot, hopc, _⟩ hcap
    rw [exec_ramp_single]
    unfold State.playRamp
    rw [hslot]
    dsimp only
    rw [hopc, if_neg (by decide), State.playOn_cut hcap (Nat.succ_pos _), if_neg Bool.false_ne_true]
    exact congrArg Host.Outcome.next (State.faultChans_nil _)
  · intro s c z h hcap
    refine congrArg Host.Outcome.next ((s.runWave_of_ready h _).trans ?_)
    dsimp only
    rw [State.playOn_all (by rw [State.slotCap_hold, Slot.idx_hold]; exact hcap), if_pos rfl]
  · intro s c z h hcap
    refine congrArg Host.Outcome.next ((s.runWave_of_ready h _).trans ?_)
    dsimp only
    rw [State.playOn_cut (by rw [State.slotCap_hold, Slot.idx_hold]; exact hcap) (Nat.succ_pos _), if_neg Bool.false_ne_true]
  · intro s c vfb z h hcap
    refine congrArg Host.Outcome.next ((s.runWave_of_ready h _).trans ?_)
    dsimp only
    rw [Nat.min_eq_left hcap, State.playOn_all (by rw [State.suspendChecks_slotCap]; exact hcap), if_pos rfl] <;> rfl
  · intro s c vfb z h hcap
    refine congrArg Host.Outcome.next ((s.runWave_of_ready h _).trans ?_)
    dsimp only
    rw [Nat.min_eq_right (Nat.le_of_lt hcap), State.playOn_cut (by rw [State.suspendChecks_slotCap]; exact hcap) (by omega),
      if_neg Bool.false_ne_true]
  · intro s c z h hzeros
    refine congrArg Host.Outcome.next ((s.runWave_of_ready h _).trans ?_)
    dsimp only
    rw [State.zeroTime_of_few hzeros]
    rfl
  · intro s c z h hzeros
    refine congrArg Host.Outcome.next ((s.runWave_of_ready h _).trans ?_)
    dsimp only
    rw [State.zeroTime_of_few hzeros]
    rfl

/-! Ends of slots -/

/-- END, or a reserved opcode, of a slot with few zero-time instructions (R110, R112). -/
theorem exec_endSlot {s : State} {c : Nat} {vfb : List (Nat × Nat)} {z : Slot} (hslot : (s.chan c).slot = some z)
    (hends : endsSlot (s.wmem z.pc) = true) (hzeros : z.zeros < 4) :
    exec (.endSlot c vfb) s = .next (let y := { z with zeros := z.zeros + 1 }
      let b := (s.setSlot c y).when (256 < (z.acc - z.rest).natAbs) (·.raise (WFE.CH_STATUS.REST_MISMATCH c))
      let d := b.when (reservedIns (s.wmem z.pc)) (fun t =>
        ((t.raise (WFE.CH_STATUS.PROG_ERR c)).raise WFE.STATUS.PROG_ERR).report Src.WFE_PROG c (z.pc % 2 ^ 14))
      ((((d.noteLast c vfb).pdUpdate c y (vfb.map (fun x => (s.byRole c x).1))).closeSlot c).afterSlot c)) := by
  show execEndSlot c vfb s = _
  unfold execEndSlot
  rw [hslot]
  dsimp only
  rw [hends, State.zeroTime_of_few hzeros]
  rfl

@[simp] theorem State.onChan_flag (s : State) (c : Nat) (f) (g : Fld) : (s.onChan c f).flag g = s.flag g :=
  congrArg (· != 0) (s.onChan_get c f g)

/-- The feedback samples that show leave the enable of pre-distortion. -/
theorem State.noteLast_pdEn (s : State) (c : Nat) (vfb : List (Nat × Nat)) :
    (s.noteLast c vfb).flag (WFE.CH_CTL.PD_EN c) = s.flag (WFE.CH_CTL.PD_EN c) := by
  have apart : (WFE.FB_LAST c) ≠ WFE.CH_CTL c := by
    show 0x40181048 + 0x80 * c ≠ 0x40181000 + 0x80 * c
    omega
  unfold State.noteLast
  split
  · unfold State.noteFeedback
    rw [State.flag_put_other _ _ _ _ (fieldsApart_of_addr (show 16 + 14 ≤ 32 by decide) apart),
      State.flag_put_other _ _ _ _ (fieldsApart_of_addr (show 0 + 14 ≤ 32 by decide) apart)]
  · rfl

/-- Without pre-distortion a slot's end updates no table (R116). -/
theorem State.pdUpdate_of_off {s : State} {c : Nat} (h : s.flag (WFE.CH_CTL.PD_EN c) = false) (z : Slot) (vfb : List Nat) :
    s.pdUpdate c z vfb = s := by
  unfold State.pdUpdate
  rw [h]
  rfl

/-- Settles O22: a slot ends with END, with a reserved opcode, or at its limit (R106, R110, R112). -/
theorem waveformSlotsEnd : Obligations.WaveformSlotsEnd := by
  unfold Obligations.WaveformSlotsEnd
  refine ⟨fun s c vfb z => exec_endSlot, ?_, ?_, ?_⟩
  · intro s c vfb z hslot hopc hzeros hrest hpd
    have hends : endsSlot (s.wmem z.pc) = true := by
      unfold endsSlot
      rw [hopc]
      rfl
    have hsound : reservedIns (s.wmem z.pc) = false := by
      unfold reservedIns
      rw [hopc]
      rfl
    rw [exec_endSlot hslot hends hzeros, hrest, Int.sub_self, hsound]
    have off : ∀ y, ((s.setSlot c y).noteLast c vfb).flag (WFE.CH_CTL.PD_EN c) = false := fun y => by
      rw [State.noteLast_pdEn, State.setSlot, State.onChan_flag, hpd]
    dsimp only
    rw [State.when_of_false _ _ rfl, State.when_of_false _ _ (by decide), State.pdUpdate_of_off (off _)]
  · intro s c vfb z hslot hres hzeros hrest
    have hends : endsSlot (s.wmem z.pc) = true := by
      unfold endsSlot
      rw [hres, Bool.or_true]
    rw [exec_endSlot hslot hends hzeros, hrest, Int.sub_self, hres]
    rfl
  · intro s c z hslot hcap hends hlimit
    show execSlotLimit c s = _
    unfold execSlotLimit
    rw [hslot]
    dsimp only
    rw [hends, decide_eq_true hcap]
    exact congrArg Host.Outcome.next (State.when_of_true _ _ (decide_eq_true hlimit))

end Sys2Proof.Machine
end

section
/-! PROOFS. Channels and rails: enables and disables, the faults of one cycle, the rail-state table and the two clears
(R106, R122 to R132). -/

namespace Sys2Proof.Machine

/-! Enabling, disabling and clearing a channel -/

/-- Two replacements that agree on the present channel are one. -/
theorem State.onChan_congr {s : State} {c : Nat} {f g : Chan → Chan} (h : f (s.chan c) = g (s.chan c)) :
    s.onChan c f = s.onChan c g := by
  unfold State.onChan
  rw [h]

/-- The high-voltage supply of a channel's head is not shown in the registers of the waveform engine. -/
theorem State.hvGood_put {s : State} {c v : Nat} {f : Fld} (hc : c < 48) (hf : f.lo + f.width ≤ 32) (ha : 0x40180000 ≤ f.addr) :
    (s.put f v).hvGood (headOf c) = s.hvGood (headOf c) :=
  s.flag_put_other f _ v (fieldsApart_of_addr hf (by
    have head := head_lt hc
    show f.addr ≠ 0x40010118 + 0x40 * (headOf c / 4)
    omega))

theorem State.hvGood_wr {s : State} {c : Nat} {a : Nat} {v : Word} (hc : c < 48) (ha : 0x40180000 ≤ a) :
    (s.wr a v).hvGood (headOf c) = s.hvGood (headOf c) :=
  s.flag_wr_other v _ (by
    have head := head_lt hc
    show a ≠ 0x40010118 + 0x40 * (headOf c / 4)
    omega)

section Starting

variable {s : State} {c : Nat}

/-- An enabled channel takes its first step with a sound fault input and a good supply (R122). -/
theorem State.startChannel_sound (hgood : s.hvGood (headOf c) = true) :
    s.startChannel c false = ((s.drop (WFE.CH_STATUS.FAULTED c)).drop (WFE.CH_STATUS.FAULT_CAUSE c)).onChan c
      (fun k => { k with dac := 0, ampOn := true, fails := 0, phase := .enabling }) := by
  unfold State.startChannel
  dsimp only
  rw [hgood, if_neg (by decide), onChan_twice]

/-- The first step fails with a low fault input or without a good supply (R122). -/
theorem State.startChannel_bad {flt : Bool} (hbad : flt = true ∨ s.hvGood (headOf c) = false) :
    s.startChannel c flt = (((s.drop (WFE.CH_STATUS.FAULTED c)).drop (WFE.CH_STATUS.FAULT_CAUSE c)).onChan c
      (fun k => { k with dac := 0, ampOn := false, fails := 0, phase := .enabling })).chanFault c 3 := by
  have fails : (flt || !s.hvGood (headOf c)) = true := by
    obtain h | h := hbad
    · rw [h, Bool.true_or]
    · rw [h, Bool.not_false, Bool.or_true]
  unfold State.startChannel
  dsimp only
  rw [fails]
  rfl

/-- The writes of an enable leave the high-voltage supply. -/
theorem State.hvGood_enabled (hc : c < 48) (s : State) :
    ((s.raise (WFE.CH_CTL.EN c)).wr (WFE.SLOT_CNT c) 0#32).hvGood (headOf c) = s.hvGood (headOf c) := by
  unfold State.raise
  rw [State.hvGood_wr hc (show 0x40180000 ≤ 0x40181040 + 0x80 * c by omega),
    State.hvGood_put hc (show 0 + 1 ≤ 32 by decide) (show 0x40180000 ≤ 0x40181000 + 0x80 * c by omega)]

/-- With the engine on an enable writes EN and SLOT_CNT and begins the steps (R122). -/
theorem exec_channelEnable {flt : Bool} (hon : s.chanOn c = true) (hen : s.flag (WFE.CH_CTL.EN c) = false)
    (hblock : s.blockOn WFE.CTL.EN 4 = true) :
    exec (.channelEnable c flt) s = .next (((s.raise (WFE.CH_CTL.EN c)).wr (WFE.SLOT_CNT c) 0#32).startChannel c flt) := by
  refine congrArg Host.Outcome.next ((s.when_of_true _ hon).trans ?_)
  unfold State.channelEnable
  rw [hen, hblock]
  rfl

/-- A channel's disable, by what it finds (R123). -/
theorem exec_channelDisable (hon : s.chanOn c = true) : exec (.channelDisable c) s = .next (s.channelDisable c) :=
  congrArg Host.Outcome.next (s.when_of_true _ hon)

theorem exec_faultClr {flt : Bool} (hon : s.chanOn c = true) (hfault : s.chFaulted c = true)
    (hblock : s.blockOn WFE.CTL.EN 4 = true) : exec (.faultClr c flt) s = .next (s.startChannel c flt) := by
  refine congrArg Host.Outcome.next ((s.when_of_true _ hon).trans ?_)
  unfold State.faultClr
  rw [hfault, hblock]
  rfl

end Starting

/-- Settles O23: the steps of an enable, a disable and a clear, and the tables that PD_RESET clears (R116, R122, R123). -/
theorem channelSteps : Obligations.ChannelSteps := by
  unfold Obligations.ChannelSteps
  refine ⟨?_, ?_, ?_, ?_, ?_, ?_, ?_, ?_, ?_, ?_, ?_, ?_, ?_, ?_, ?_, ?_, fun s c => State.when_of_true _ _⟩
  · intro s c hon hen hblock hgood
    rw [exec_channelEnable hon hen hblock,
      State.startChannel_sound ((State.hvGood_enabled (chan_lt hon) s).trans hgood)]
  · intro s c flt hon hen hblock
    refine congrArg Host.Outcome.next ((s.when_of_true _ hon).trans ?_)
    unfold State.channelEnable
    rw [hen, hblock]
    rfl
  · intro s c es hphase hsound
    show execChannelReady c es s = _
    unfold execChannelReady
    rw [hphase, hsound]
    rfl
  · intro s c flt hon hen hblock hbad
    rw [exec_channelEnable hon hen hblock, State.startChannel_bad
      (hbad.imp_right (State.hvGood_enabled (chan_lt hon) s).trans)]
  · intro s c hon hen hready hidle hslot
    rw [exec_channelDisable hon]
    unfold State.channelDisable
    dsimp only
    rw [hen, hready, hidle, show ((s.drop (WFE.CH_CTL.EN c)).chan c).slot = none from hslot]
    rfl
  · intro s c z hon hen hready hidle hslot
    rw [exec_channelDisable hon]
    unfold State.channelDisable
    dsimp only
    rw [hen, hready, hidle, show ((s.drop (WFE.CH_CTL.EN c)).chan c).slot = some z from hslot]
    rfl
  · intro s c hon hen hready
    rw [exec_channelDisable hon]
    unfold State.channelDisable
    rw [hen, hready]
    rfl
  · intro s c hon hen hready hbusy
    rw [exec_channelDisable hon]
    unfold State.channelDisable
    rw [hen, hready, hbusy]
    rfl
  · intro s c hphase
    exact congrArg Host.Outcome.next (s.when_of_true _ (beq_iff_eq.2 hphase))
  · intro s hen
    refine congrArg Host.Outcome.next ?_
    unfold State.wfeDisable
    rw [hen]
    rfl
  · intro s hen
    exact congrArg Host.Outcome.next (if_neg (by rw [hen]; decide))
  · intro s c hon hfault hblock hgood
    rw [exec_faultClr hon hfault hblock, State.startChannel_sound hgood]
  · intro s c flt hsound
    refine congrArg Host.Outcome.next (s.when_self _ ?_)
    unfold State.faultClr
    rw [hsound]
    rfl
  · intro s c hon hfault hblock
    rw [exec_faultClr hon hfault hblock, State.startChannel_bad (.inl rfl)]
  · intro s c hon hslot
    refine congrArg Host.Outcome.next ((s.when_of_true _ hon).trans (State.onChan_congr ?_))
    rw [hslot]
    rfl
  · intro s c z hon hslot
    refine congrArg Host.Outcome.next ((s.when_of_true _ hon).trans (State.onChan_congr ?_))
    rw [hslot]
    rfl

/-! The rail-state table -/

/-- Settles O24: the transitions of the table, by the state and the rails at fault (R130). -/
theorem railStateTable : Obligations.RailStateTable := by
  unfold Obligations.RailStateTable
  refine ⟨?_, ?_, ?_, ?_, ?_, ?_, ?_, ?_⟩
  · intro s h k b hdown
    simp [State.resolveFaults, hdown]
  · intro s h k x b hst hx hready hsound
    obtain rfl | rfl : x = 0 ∨ x = 1 := by omega
    · simp [State.resolveFaults, hst, hready, hsound]
    · simp [State.resolveFaults, hst, hready, hsound]
  · intro s h k x b hst hx hready
    obtain rfl | rfl : x = 0 ∨ x = 1 := by omega
    · simp [State.resolveFaults, hst, hready]
    · simp [State.resolveFaults, hst, hready]
  · intro s h k b hst hserving hk
    simp [State.resolveFaults, hst, hserving, hk, State.when]
  · intro s h k y b hst hy hcal
    obtain rfl | rfl : y = 0 ∨ y = 1 := by omega
    · simp [State.resolveFaults, hst, hcal]
    · simp [State.resolveFaults, hst, hcal]
  · intro s h k x b hst hx hcal
    obtain rfl | rfl : x = 0 ∨ x = 1 := by omega
    · simp [State.resolveFaults, hst, hcal]
    · simp [State.resolveFaults, hst, hcal]
  · intro s h k y b hst hy hcal
    obtain rfl | rfl : y = 0 ∨ y = 1 := by omega
    · obtain hst | hst := hst
      · simp [State.resolveFaults, hst, hcal]
      · simp [State.resolveFaults, hst, hcal]
    · obtain hst | hst := hst
      · simp [State.resolveFaults, hst, hcal]
      · simp [State.resolveFaults, hst, hcal]
  · intro s h l hst
    cases l with
    | nil => exact s.resolveFaults_nil h
    | cons f l => simp [State.resolveFaults, hst]

/-! The faults of one cycle -/

/-- The sample of a single channel that watches. -/
theorem State.noteSamples_single {s : State} {c v i : Nat} (h : s.watched c = true) :
    s.noteSamples [(c, (v, i))] = s.noteFeedback c v i := by
  unfold State.noteSamples
  rw [List.filter_cons, if_pos h]
  rfl

theorem firstFaults_single (f : Nat × Nat) : firstFaults [f] = [f] := rfl

section Single

variable {s : State} {c v i : Nat} {es : List Int}

/-- A cycle that shows one channel's third current sample in a row (R124). -/
theorem State.cycleFaults_short (hwatched : s.watched c = true) : s.cycleFaults { shorts := [(c, (v, i))] } =
    (s.noteFeedback c v i).faultChans (firstFaults (s.shortsOf { shorts := [(c, (v, i))] })) := by
  unfold State.cycleFaults
  rw [s.ampsOf_of_nil _ rfl, s.tracksOf_of_nil _ rfl, s.offsOf_of_nil _ rfl, s.playRamps_nil]
  simp only [State.noteSamples_nil, State.noteSamples_single hwatched, State.each_nil, List.map_nil, List.filter_nil, List.append_nil]

/-- A cycle that shows one fault input low (R124). -/
theorem State.cycleFaults_amp (hwatched : s.watched c = true) : s.cycleFaults { amps := [(c, (v, i))] } =
    (s.noteFeedback c v i).faultChans [(c, 3)] := by
  have amp : s.ampsOf { amps := [(c, (v, i))] } = [(c, 3)] := by
    unfold State.ampsOf
    rw [List.filter_cons, if_pos hwatched]
    rfl
  unfold State.cycleFaults
  rw [s.shortsOf_of_nil _ rfl, s.tracksOf_of_nil _ rfl, s.offsOf_of_nil _ rfl, s.playRamps_nil, amp]
  simp only [State.noteSamples_nil, State.noteSamples_single hwatched, State.each_nil, List.map_nil, List.filter_nil,
    List.append_nil, List.nil_append, firstFaults_single]

/-- A cycle that shows one channel's tracking excess (R124). -/
theorem State.cycleFaults_track (hwatched : s.watched c = true) (hcal : (s.chan c).cal = false)
    (hchecks : s.checksOff c = false) (hbad : s.trackBad c es = true) :
    s.cycleFaults { tracks := [(c, ((v, i), es))] } =
      let a := s.noteFeedback c v i
      if a.flag (WFE.CH_CTL.TRACK_ACT c) = true then (a.raise (WFE.CH_STATUS.TRACK c)).faultChans [(c, 4)] else a.trackNote c := by
  have track : s.tracksOf { tracks := [(c, ((v, i), es))] } = [c] := by
    have finds : (s.watched c && !(s.chan c).cal && !s.checksOff c && s.trackBad c es) = true := by
      rw [hwatched, hcal, hchecks, hbad]
      rfl
    unfold State.tracksOf
    rw [List.filter_cons, if_pos finds]
    rfl
  have sample : s.noteSamples (List.map (fun f : Nat × ((Nat × Nat) × List Int) => (f.1, f.2.1)) [(c, ((v, i), es))]) =
      s.noteFeedback c v i := State.noteSamples_single hwatched
  unfold State.cycleFaults
  rw [s.shortsOf_of_nil _ rfl, s.ampsOf_of_nil _ rfl, s.offsOf_of_nil _ rfl, s.playRamps_nil, track]
  simp only [State.noteSamples_nil, sample, List.filter_nil, List.append_nil, List.nil_append, State.each_nil]
  cases act : (s.noteFeedback c v i).flag (WFE.CH_CTL.TRACK_ACT c)
  · simp [act, State.each, firstFaults, State.faultChans_nil]
  · simp [act, State.each, firstFaults]

/-- What a third current sample in a row shows: a short beyond the limit, or nothing (R124). -/
theorem State.shortsOf_single (hwatched : s.watched c = true) (hchecks : s.checksOff c = false) :
    s.shortsOf { shorts := [(c, (v, i))] } =
      if s.get (WFE.I_SHORT.LIMIT c) < (((s.byRole c (v, i)).2 : Int) - 8192).natAbs then [(c, 1)] else [] := by
  unfold State.shortsOf
  rw [List.filter_cons]
  dsimp only
  rw [hwatched, hchecks]
  by_cases h : s.get (WFE.I_SHORT.LIMIT c) < (((s.byRole c (v, i)).2 : Int) - 8192).natAbs
  · rw [decide_eq_true h, if_pos h]
    rfl
  · rw [decide_eq_false h, if_neg h]
    rfl

end Single

/-- A list that is not empty says so. -/
theorem not_isEmpty {α : Type} {l : List α} (h : l ≠ []) : (!l.isEmpty) = true := by
  cases l with
  | nil => exact absurd rfl h
  | cons _ _ => rfl

/-- Settles O25: a cycle's findings are recorded and resolved together, each channel by its first cause (R124). -/
theorem channelFaults : Obligations.ChannelFaults := by
  unfold Obligations.ChannelFaults
  refine ⟨?_, ?_, ?_, ?_, ?_, ?_, ?_, ?_, ?_, State.faultChans_nil⟩
  · intro s l hl
    exact congrArg Host.Outcome.next (s.when_of_true _ (not_isEmpty hl))
  · intro s l hl
    refine congrArg Host.Outcome.next (s.when_of_false _ ?_)
    rw [hl]
    rfl
  · intro s c v i hwatched hchecks hover
    refine congrArg Host.Outcome.next ((s.when_of_true _ rfl).trans ?_)
    rw [State.cycleFaults_short hwatched, State.shortsOf_single hwatched hchecks, if_pos hover, firstFaults_single]
  · intro s c v i hwatched hchecks hwithin
    refine congrArg Host.Outcome.next ((s.when_of_true _ rfl).trans ?_)
    rw [State.cycleFaults_short hwatched, State.shortsOf_single hwatched hchecks, if_neg (Nat.not_lt.2 hwithin)]
    exact State.faultChans_nil _
  · intro s c v i hwatched
    exact congrArg Host.Outcome.next ((s.when_of_true _ rfl).trans (State.cycleFaults_amp hwatched))
  · intro s l hl
    exact congrArg Host.Outcome.next (s.when_of_true _ (not_isEmpty hl))
  · intro s c v i es hwatched hcal hchecks hbad hact
    refine congrArg Host.Outcome.next ((s.when_of_true _ rfl).trans ?_)
    rw [State.cycleFaults_track hwatched hcal hchecks hbad]
    exact if_pos hact
  · intro s c v i es hwatched hcal hchecks hbad hact
    refine congrArg Host.Outcome.next ((s.when_of_true _ rfl).trans ?_)
    rw [State.cycleFaults_track hwatched hcal hchecks hbad]
    exact if_neg (fun h => Bool.false_ne_true (hact.symm.trans h))
  · intro s l hl
    exact congrArg Host.Outcome.next (s.when_of_true _ (not_isEmpty hl))

/-! The clears of firmware -/

@[simp] theorem State.onWave_flag (s : State) (h : Nat) (f) (g : Fld) : (s.onWave h f).flag g = s.flag g :=
  congrArg (· != 0) (s.onWave_get h f g)

/-- A settling head changes no field but SETTLED. -/
theorem State.trySettle_get (s : State) (h : Nat) (g : Fld) (hg : fieldsApart (WFE.HEAD_STAT.SETTLED h) g = true) :
    (s.trySettle h).get g = s.get g := by
  unfold State.trySettle State.when
  split
  · rw [State.onWave_get, State.get_raise_other _ _ _ hg]
  · rfl

/-- The end of a takeover or of DOWN shows NONE, and the head's other fields stay (R126). -/
theorem State.moveRail_none (s : State) {h : Nat} (hh : h < 16) :
    (s.moveRail h 0).get (WFE.HEAD_STAT.RAIL_STATE h) = 0 ∧
      (s.moveRail h 0).get (WFE.HEAD_STAT.SENSE_LOST h) = s.get (WFE.HEAD_STAT.SENSE_LOST h) := by
  have port : ∀ lo w, fieldsApart (HPT.RAIL_STATE.STATE h) ⟨WFE.HEAD_STAT h, lo, w⟩ = true := fun lo w =>
    fieldsApart_of_addr (show 0 + 2 ≤ 32 by decide) (show 0x40141058 + 0x200 * h ≠ 0x40183004 + 0x40 * h by omega)
  have sum : ∀ lo w, fieldsApart WFE.FAULT_SUM.DOWN ⟨WFE.HEAD_STAT h, lo, w⟩ = true ∧
      fieldsApart WFE.FAULT_SUM.TAKE ⟨WFE.HEAD_STAT h, lo, w⟩ = true := fun lo w =>
    have apart : (0x40180008 : Nat) ≠ 0x40183004 + 0x40 * h := by omega
    ⟨fieldsApart_of_addr (show 16 + 16 ≤ 32 by decide) apart, fieldsApart_of_addr (show 0 + 16 ≤ 32 by decide) apart⟩
  have settled : ∀ lo w, lo + w ≤ 2 ∨ 3 ≤ lo → fieldsApart (WFE.HEAD_STAT.SETTLED h) ⟨WFE.HEAD_STAT h, lo, w⟩ = true :=
    fun lo w hl => fieldsApart_of_bits (show 2 + 1 ≤ 32 by decide) (show 2 + 1 ≤ lo ∨ lo + w ≤ 2 by omega)
  have shown : ∀ lo w, lo + w ≤ 2 ∨ 3 ≤ lo → (s.moveRail h 0).get ⟨WFE.HEAD_STAT h, lo, w⟩ =
      (s.put (WFE.HEAD_STAT.RAIL_STATE h) 0).get ⟨WFE.HEAD_STAT h, lo, w⟩ := fun lo w hl => by
    unfold State.moveRail
    dsimp only
    rw [State.when_of_false _ _ (show (0 == 1 || 0 == 2) = false from rfl), State.trySettle_get _ _ _ (settled lo w hl), State.onWave_get,
      State.get_drop_other _ _ _ (settled lo w hl)]
    unfold State.showRail
    rw [State.get_put_other _ _ _ _ (sum lo w).2, State.get_put_other _ _ _ _ (sum lo w).1,
      State.get_put_other _ _ _ _ (port lo w)]
  constructor
  · rw [shown 0 2 (.inl (Nat.le_refl 2)), State.get_put_same _ _ _ (show 0 + 2 ≤ 32 by decide), Nat.zero_mod]
  · rw [shown 5 1 (.inr (by decide))]
    exact State.get_put_other _ _ _ _ (fieldsApart_of_bits (show 0 + 2 ≤ 32 by decide) (.inl (show 0 + 2 ≤ 5 by decide)))

/-- With the rail state NONE a restarted frame changes no register. -/
theorem State.restartFrame_get (s : State) (h : Nat) (g : Fld) (hst : s.get (WFE.HEAD_STAT.RAIL_STATE h) = 0) :
    (s.restartFrame h).get g = s.get g := by
  unfold State.restartFrame
  rw [hst]
  cases (s.hport h).xfer with
  | none => rfl
  | some x =>
    cases s.xferLine h with
    | none => rfl
    | some l =>
      refine (apply_ite (State.get · g) _ _ _).trans ((ite_congr rfl (fun _ => ?_) (fun _ => rfl)).trans (ite_self _))
      rw [State.when_of_false _ _ (by decide), State.when_of_false _ _ (by decide), State.onNhh_get, State.onHport_get]

/-- A head that leaves another rail state shows NONE, with its SENSE_LOST as it was. -/
theorem State.setRail_none {s : State} {h : Nat} (hh : h < 16) (hst : s.get (WFE.HEAD_STAT.RAIL_STATE h) ≠ 0) :
    (s.setRail h 0).get (WFE.HEAD_STAT.RAIL_STATE h) = 0 ∧
      (s.setRail h 0).get (WFE.HEAD_STAT.SENSE_LOST h) = s.get (WFE.HEAD_STAT.SENSE_LOST h) := by
  obtain ⟨hnone, hlost⟩ := s.moveRail_none hh
  unfold State.setRail
  dsimp only
  rw [if_neg (fun e => hst (beq_iff_eq.1 e)), State.when_of_false _ _ (beq_eq_false_iff_ne.2 hst)]
  exact ⟨(State.restartFrame_get _ _ _ hnone).trans hnone, (State.restartFrame_get _ _ _ hnone).trans hlost⟩

section Clears

variable {s : State} {h : Nat}

theorem exec_headDownClr (hon : s.headOn h = true) : exec (.headDownClr h) s = .next (s.headDownClr h) :=
  congrArg Host.Outcome.next (s.when_of_true _ hon)

theorem exec_takeoverClr (hon : s.headOn h = true) : exec (.takeoverClr h) s = .next (s.takeoverClr h) :=
  congrArg Host.Outcome.next (s.when_of_true _ hon)

/-- DOWN_CLR with all three channels READY again (R132). -/
theorem State.headDownClr_obeyed (hst : s.get (WFE.HEAD_STAT.RAIL_STATE h) = 3) (hready : (chansOf h).all s.chReady = true) :
    s.headDownClr h = ((s.drop (WFE.HEAD_STAT.DOWN_WHY h)).drop (WFE.HEAD_STAT.SENSE_LOST h)).setRail h 0 := by
  unfold State.headDownClr
  rw [hst, hready]
  rfl

/-- TAKEOVER_CLR in a fault takeover of rail x asks whether the rail's channel is READY (R131). -/
theorem State.takeoverClr_of_take {x : Nat} (hst : s.get (WFE.HEAD_STAT.RAIL_STATE h) = x + 1) (hx : x < 2)
    (htake : s.flag (WFE.HEAD_STAT.FAULT_TAKE h) = true) : s.takeoverClr h =
      if s.chReady (2 * h + x) = true then (s.drop (WFE.HEAD_STAT.FAULT_TAKE h)).setRail h 0 else s.raise WFE.STATUS.WRITE_IGNORED := by
  have taken : (x + 1 == 1 || x + 1 == 2) = true := by
    obtain rfl | rfl : x = 0 ∨ x = 1 := by omega
    · rfl
    · rfl
  unfold State.takeoverClr
  dsimp only
  rw [hst, htake, taken, Nat.add_sub_cancel, Bool.true_and, Bool.true_and]

/-- After a DOWN_CLR that is obeyed the head shows NONE and no lost sensing (R132). -/
theorem State.headDownClr_shows (hh : h < 16) (hst : s.get (WFE.HEAD_STAT.RAIL_STATE h) = 3) :
    (((s.drop (WFE.HEAD_STAT.DOWN_WHY h)).drop (WFE.HEAD_STAT.SENSE_LOST h)).setRail h 0).get (WFE.HEAD_STAT.RAIL_STATE h) = 0 ∧
      (((s.drop (WFE.HEAD_STAT.DOWN_WHY h)).drop (WFE.HEAD_STAT.SENSE_LOST h)).setRail h 0).flag (WFE.HEAD_STAT.SENSE_LOST h) = false := by
  have stays : ((s.drop (WFE.HEAD_STAT.DOWN_WHY h)).drop (WFE.HEAD_STAT.SENSE_LOST h)).get (WFE.HEAD_STAT.RAIL_STATE h) = 3 := by
    rw [State.get_drop_other _ _ _ (fieldsApart_of_bits (show 5 + 1 ≤ 32 by decide) (.inr (show 0 + 2 ≤ 5 by decide))),
      State.get_drop_other _ _ _ (fieldsApart_of_bits (show 12 + 4 ≤ 32 by decide) (.inr (show 0 + 2 ≤ 12 by decide))), hst]
  obtain ⟨hnone, hlost⟩ := State.setRail_none hh (by rw [stays]; decide)
  refine ⟨hnone, ?_⟩
  rw [State.get_drop_same _ _ (show 5 + 1 ≤ 32 by decide)] at hlost
  unfold State.flag
  rw [hlost]
  rfl

end Clears

/-- Settles O26: the clears act in their states only, and else set WRITE_IGNORED (R131, R132). -/
theorem railClears : Obligations.RailClears := by
  unfold Obligations.RailClears
  refine ⟨?_, ?_, ?_, ?_, ?_, ?_⟩
  · intro s h hon hst hready
    rw [exec_headDownClr hon, State.headDownClr_obeyed hst hready]
  · intro s h hon hnot
    have refused : (s.get (WFE.HEAD_STAT.RAIL_STATE h) == 3 && (chansOf h).all s.chReady) = false := by
      obtain hst | hready := hnot
      · rw [beq_eq_false_iff_ne.2 hst, Bool.false_and]
      · rw [hready, Bool.and_false]
    rw [exec_headDownClr hon]
    unfold State.headDownClr
    rw [refused]
    rfl
  · intro s h x hon hst hx htake hready
    rw [exec_takeoverClr hon, State.takeoverClr_of_take hst hx htake, if_pos hready]
  · intro s h x hon hst hx htake hready
    rw [exec_takeoverClr hon, State.takeoverClr_of_take hst hx htake, if_neg (fun e => Bool.false_ne_true (hready.symm.trans e))]
  · intro s h hon htake
    rw [exec_takeoverClr hon]
    unfold State.takeoverClr
    rw [htake]
    rfl
  · intro s h hon hst hready
    refine ⟨_, exec_headDownClr hon, ?_⟩
    rw [State.headDownClr_obeyed hst hready]
    exact State.headDownClr_shows (headOn_lt hon) hst

end Sys2Proof.Machine
end

section
/-! PROOFS. The compositor (02_compositor.md): its ops, its kill mask, its enables and its programs. -/

namespace Sys2Proof.Machine

/-! Ops -/

/-- Without a line in progress there is no job of a line. -/
theorem State.cmpJob?_of_none {s : State} (h : s.cmp.job = none) : s.cmpJob? = none := by
  unfold State.cmpJob?
  rw [h]

/-- Without a line in progress no op runs. -/
theorem State.runOp_of_no_line {s : State} (h : s.cmp.job = none) (opc : Nat) (f : State → Job → Nat → Nat → State) :
    s.runOp opc f = s := by
  unfold State.runOp
  rw [State.cmpJob?_of_none h]

/-- While the DATA clock is gated no op runs (R414). -/
theorem State.runOp_of_gated {s : State} (h : s.domainRuns 4 = false) (opc : Nat) (f : State → Job → Nat → Nat → State) :
    s.runOp opc f = s := by
  unfold State.runOp
  split
  · exact if_neg (by rw [h]; simp)
  · rfl

/-- An op that is the next one answers its effect. -/
theorem next_of_opReady {s : State} {j : Job} {opc : Nat} (ready : s.opReady j opc) (f : State → Job → Nat → Nat → State) :
    (Host.Outcome.next (s.runOp opc f) : Host.Outcome State Fault Refusal) = .next (f s j s.cmp.op (s.get CMP.JOB_LINE.LINE)) :=
  congrArg Host.Outcome.next (State.runOp_of_opReady f ready)

/-- Settles O27: each op writes the heads of its mask by its row, when it is next and the DATA clock runs (R43 to R45, R414). -/
theorem opsWriteTheirHeads : Obligations.OpsWriteTheirHeads := by
  unfold Obligations.OpsWriteTheirHeads
  refine ⟨fun s j ready => ⟨_, next_of_opReady ready _, op_writes s j _⟩, fun s j ready => ⟨_, next_of_opReady ready _, op_writes s j _⟩,
    fun s j ready => ⟨_, next_of_opReady ready _, op_writes s j _⟩, fun s j ready => ⟨_, next_of_opReady ready _, op_writes s j _⟩,
    fun s j ready => ⟨_, next_of_opReady ready _, op_writes s j _⟩, fun s h => ?_, fun s h => ?_⟩
  · have idles : ∀ opc f, (Host.Outcome.next (s.runOp opc f) : Host.Outcome State Fault Refusal) = .next s := fun opc f =>
      congrArg Host.Outcome.next (State.runOp_of_no_line h opc f)
    exact ⟨idles 1 _, idles 3 _, idles 4 _, idles 5 _, idles 6 _⟩
  · have idles : ∀ opc f, (Host.Outcome.next (s.runOp opc f) : Host.Outcome State Fault Refusal) = .next s := fun opc f =>
      congrArg Host.Outcome.next (State.runOp_of_gated h opc f)
    exact ⟨idles 1 _, idles 3 _, idles 4 _, idles 5 _, idles 6 _⟩

/-! FETCH -/

/-- A layer that is not streamed is always there (R41). -/
theorem State.delivered_of_stored (s : State) {j : Job} {l : Nat} (y : Nat) (h : j.streamed l = false) : s.delivered j l y = true := by
  unfold State.delivered
  rw [h]
  rfl

/-- A layer that is not streamed is not consumed (R41). -/
theorem State.consume_of_stored (s : State) {j : Job} {i : Nat} (y : Nat) (h : j.streamed (j.opA i) = false) : s.consume j i y = s := by
  unfold State.consume
  dsimp only
  rw [h]
  rfl

/-- FETCH of a layer that shows nothing at this line writes 0 (R40). -/
theorem State.fetchEffect_transparent {s : State} {j : Job} {i y : Nat} {x : Access} (hthere : s.delivered j (j.opA i) y = true)
    (hrow : j.row (j.opA i) y = none) :
    s.fetchEffect j i y x = ((s.mapLb j (j.opDst i) (j.opMask i) (fun _ _ => 0#4)).consume j i y).nextOp := by
  unfold State.fetchEffect
  dsimp only
  rw [hthere, hrow]
  rfl

/-- Settles O29: what FETCH writes for a layer that shows nothing, waits or shows a row (R39 to R42). -/
theorem fetchOpWrites : Obligations.FetchOpWrites := by
  unfold Obligations.FetchOpWrites
  refine ⟨fun s j x ready hstored hrow => ⟨_, (next_of_opReady ready _).trans (congrArg Host.Outcome.next
    (State.fetchEffect_transparent (s.delivered_of_stored _ hstored) hrow)), ?_⟩, fun s j x ready hthere hrow =>
    (next_of_opReady ready _).trans (congrArg Host.Outcome.next (State.fetchEffect_transparent hthere hrow)), ?_, ?_⟩
  · rw [State.consume_of_stored _ _ hstored]
    exact op_writes s j _
  · intro s j x ready hwaits
    refine (next_of_opReady ready _).trans (congrArg Host.Outcome.next ?_)
    unfold State.fetchEffect
    dsimp only
    rw [hwaits]
    rfl
  · intro s j x r ready hthere hrow
    refine (next_of_opReady ready _).trans (congrArg Host.Outcome.next ?_)
    unfold State.fetchEffect
    dsimp only
    rw [hthere, hrow]
    rfl

/-! COMP -/

/-- Reads of the COMP copy inside SRAM, without errors and with every slice online, change nothing. -/
theorem State.compReads_of_clean {s : State} {x : Access} (mask : Nat) (hce : x.ce = []) (hue : x.ue = [])
    (hsram : s.compBase + 0x20000 ≤ 0x10800000) (honline : ∀ h, h < 16 → s.offline (s.compBase + 8192 * h) = false) :
    s.each (headsOf mask) (fun h v => v.tableRead x (v.compBase + 8192 * h) (v.compBase + 8192 * h + 8192)) = s := by
  refine each_id s _ _ (fun h hm => ?_)
  have hlt : h < 16 := bitsOf_lt hm
  exact State.tableRead_of_clean hce hue (honline h hlt) (by omega)

section CompStep

variable {j : Job} {mask : Nat} {dead : List Nat} {keep : Bool} {old new : CompBuf} {entry : Nat → Nat} {n : Nat}

/-- A dead nozzle with a drop is acted on when its head and position are there. -/
theorem compStep_acts (hmask : bit mask (n / 4096) = true) (hpos : n % 4096 < j.nnz (n / 4096))
    (hdrop : ds (compGet old (n / 4096) (n % 4096)) ≠ 0) :
    ¬ (!bit mask (n / 4096) || decide (j.nnz (n / 4096) ≤ n % 4096) || ds (compGet old (n / 4096) (n % 4096)) == 0) = true := by
  rw [hmask, decide_eq_false (Nat.not_le.2 hpos), beq_eq_false_iff_ne.2 hdrop]
  exact Bool.false_ne_true

/-- A dead nozzle outside the mask or the head, or without a drop, changes nothing (log entry 20). -/
theorem compStep_idle (y : Nat)
    (h : bit mask (n / 4096) = false ∨ j.nnz (n / 4096) ≤ n % 4096 ∨ ds (compGet old (n / 4096) (n % 4096)) = 0) :
    compStep j mask y dead keep old entry n new = (new, false) := by
  refine if_pos ?_
  obtain hm | hp | hd := h
  · rw [hm]
    rfl
  · rw [decide_eq_true hp, Bool.or_true, Bool.true_or]
  · rw [hd, beq_self_eq_true, Bool.or_true]

/-- In mode 0 the drop is lost (R55). -/
theorem compStep_lost (y : Nat) (hmask : bit mask (n / 4096) = true) (hpos : n % 4096 < j.nnz (n / 4096))
    (hdrop : ds (compGet old (n / 4096) (n % 4096)) ≠ 0) (hmode : entry n / 2 ^ 14 = 0) :
    compStep j mask y dead keep old entry n new =
      (if keep = true then new else compSet new (n / 4096) (n % 4096) (fun _ => 0#4), true) := by
  refine (if_neg (compStep_acts hmask hpos hdrop)).trans ?_
  rw [hmode]
  rfl

/-- In mode 1, with the left neighbour named and a valid target, the drop moves there (R55). -/
theorem compStep_left {k t : Nat} (y : Nat) (hk : n % 4096 = k) (ht : k = t + 1) (hmask : bit mask (n / 4096) = true)
    (hpos : n % 4096 < j.nnz (n / 4096)) (hdrop : ds (compGet old (n / 4096) (n % 4096)) ≠ 0) (hmode : entry n / 2 ^ 14 = 1)
    (hside : entry n / 128 % 4 = 1) (htarget : compTarget j mask dead (n / 4096) t = true) :
    let put := compSet new (n / 4096) t (fun c => mkCode (railOf c) (min 3 (ds c + min 3 (ds (compGet old (n / 4096) k) + entry n / 32 % 4))))
    compStep j mask y dead keep old entry n new =
      (if keep = true then put else compSet put (n / 4096) k (fun _ => 0#4), false) := by
  have left : compSides (entry n) y (n % 4096) = [(t : Int)] := by
    have back : ((n % 4096 : Nat) : Int) - 1 = t := by omega
    unfold compSides
    rw [hside]
    exact congrArg (fun i : Int => [i]) back
  have finds : [(t : Int)].find? (compTarget j mask dead (n / 4096)) = some (t : Int) := by
    rw [List.find?_cons, htarget]
  refine (if_neg (compStep_acts hmask hpos hdrop)).trans ?_
  rw [hmode, left, ← hk]
  rw [show ((1 == 2 || 1 == 3) && bit (entry n) 13 &&
      compTarget j mask dead (entry n / 512 % 16) (((n % 4096 : Nat) : Int) + j.xo (n / 4096) - j.xo (entry n / 512 % 16))) = false from rfl]
  simp only [Bool.not_false, Bool.true_and, show (1 == 1 || 1 == 3) = true from rfl, if_true, finds]
  rfl

end CompStep

/-- Settles O30: COMP's reads, its pass over the dead list, and one member of it (R54, R55, R463). -/
theorem compOpCovers : Obligations.CompOpCovers := by
  unfold Obligations.CompOpCovers
  refine ⟨?_, fun s j x ready => next_of_opReady ready _, fun j mask y dead keep old entry n new => compStep_idle y,
    fun j mask y dead keep old entry n new => compStep_lost y, ?_⟩
  · intro s j x ready hce hue hsram honline
    refine (next_of_opReady ready _).trans (congrArg Host.Outcome.next ?_)
    dsimp only
    rw [State.compReads_of_clean _ hce hue hsram honline, State.goOn_self]
  · intro j mask y dead keep old entry n new h k t hn hk ht hmask hpos hdrop hmode hside htarget
    have head : n / 4096 = h := by omega
    have place : n % 4096 = k := by omega
    subst head
    have hpos' : n % 4096 < j.nnz (n / 4096) := by rw [place]; exact hpos
    have hdrop' : ds (compGet old (n / 4096) (n % 4096)) ≠ 0 := by rw [place]; exact hdrop
    rw [compStep_left y place ht hmask hpos' hdrop' hmode hside htarget, compStep_left y place ht hmask hpos' hdrop' hmode hside htarget]
    exact ⟨rfl, rfl⟩

/-! EMIT -/

/-- With room in every target queue EMIT corrects its codes and makes the head lines ready (R46). -/
theorem State.emitEffect_of_room {s : State} {j : Job} {i stall : Nat} {x : Access}
    (hroom : (headsOf (j.opMask i)).any (fun h => s.queueFull h (s.get CMP.JOB_LINE.LINE)) = false) :
    s.emitEffect j i stall x =
      (let heads := headsOf (j.opMask i)
       let fixes := (heads.map (fun h => (s.lbCodes j (j.opSrc i) h).countP (fun c => ds c != 0 && 2 ≤ railOf c))).sum
       let t := s.when (fixes != 0) (fun u => ((u.each heads (fun h w => w.railFixRead j i x h)).bump (wordFld CMP.RAIL_FIX_CNT) fixes).raise CMP.STATUS.RAIL_FIX)
       s.goOn t (fun u =>
         let v := u.onCmp (fun c => { c with
           load := min 65535 stall * 2 ^ 16 + j.cost % 2 ^ 16
           emit := heads.map (fun h => (h, (List.range (j.nnz h)).map (fun k => emitCode (s.lbCode (j.opSrc i) h k) (s.railBit x (4096 * h + k))))) })
         if heads = [] then v.endLine else v)) := by
  unfold State.emitEffect
  dsimp only
  rw [hroom, if_neg Bool.false_ne_true]
  refine congrArg (s.goOn _) (funext fun u => ?_)
  cases headsOf (j.opMask i) <;> rfl

/-- The record of a composed line shows the load noted at its EMIT (R46, R47). -/
theorem State.endLine_load (s : State) : s.endLine.rd CMP.LOAD = w32 s.cmp.load := by
  have shown : ((s.wr CMP.LOAD (w32 s.cmp.load)).drop CMP.STATUS.BUSY).rd CMP.LOAD = w32 s.cmp.load := by
    unfold State.drop
    rw [State.rd_put_other _ _ _ (by decide), State.rd_wr_same]
  have synced : ∀ t : State, t.syncCmp.rd CMP.LOAD = t.rd CMP.LOAD := fun t => t.rd_put_other _ _ (by decide)
  unfold State.endLine State.when
  dsimp only
  (repeat' split) <;> exact (synced _).trans shown

/-- Settles O31: EMIT waits for room, corrects its codes, and the line's end shows its load (R36, R46). -/
theorem emitPushes : Obligations.EmitPushes := by
  unfold Obligations.EmitPushes
  refine ⟨?_, ?_, ?_, State.endLine_load, ?_⟩
  · intro s j stall x ready hheads hroom hfixes
    refine (next_of_opReady ready _).trans (congrArg Host.Outcome.next ?_)
    rw [State.emitEffect_of_room hroom]
    dsimp only
    rw [hfixes]
    rw [State.when_of_false _ _ (show (0 != 0) = false from rfl), State.goOn_self, if_neg hheads]
  · intro s j stall x ready hroom
    exact (next_of_opReady ready _).trans (congrArg Host.Outcome.next (State.emitEffect_of_room hroom))
  · intro s j stall x ready hfull
    refine (next_of_opReady ready _).trans (congrArg Host.Outcome.next ?_)
    unfold State.emitEffect
    exact if_pos hfull
  · intro c r
    simp only [emitCode, beq_iff_eq]

/-! The kill mask -/

/-- Settles O32: a kill bit joins those that are set, and a clear takes them all (R56). -/
theorem killMask : Obligations.KillMask := by
  unfold Obligations.KillMask
  exact ⟨fun s n => rfl, fun s => rfl,
    fun s n => ⟨_, rfl, rfl, fun m => mem_insertAsc s.cmp.kill (n % 65536) m, rfl, fun a => rfl⟩⟩

/-! Enables -/

/-- With no line that EMIT writes, an abandoned line only leaves the compositor. -/
theorem State.cmpAbandon_of_no_emit {s : State} (h : s.cmp.emit = []) (stop : Bool) : s.cmpAbandon stop =
    (s.onCmp (fun c => { c with job := none, abandon := false, hold := none, op := 0, emit := [], stalled := false })).drop CMP.STATUS.BUSY := by
  unfold State.cmpAbandon
  rw [h, State.each_nil]

/-- With no job in the node none is ended. -/
theorem State.abortJobs_of_no_job {s : State} (h : s.jobs = []) (group : Nat) : s.abortJobs group [] = s := by
  unfold State.abortJobs
  rw [State.running_of_no_job h]
  rfl

/-- Settles O33: what each enable asks of its settings and what each disable ends (R35, R58, R65, R73, R462). -/
theorem printEnables : Obligations.PrintEnables := by
  unfold Obligations.PrintEnables
  refine ⟨?_, ?_, ?_, ?_, ?_, ?_, ?_, ?_, ?_, ?_⟩
  · intro s d hen hbases
    refine congrArg Host.Outcome.next ?_
    unfold State.cmpEnable
    rw [hen, hbases]
    rfl
  · intro s hen hbases
    refine congrArg Host.Outcome.next ?_
    unfold State.cmpEnable
    rw [hen, hbases]
    rfl
  · intro s hen
    exact congrArg Host.Outcome.next (if_pos hen)
  · intro s l hen
    exact congrArg Host.Outcome.next (if_pos (by rw [hen]; rfl))
  · intro s l hen
    exact congrArg Host.Outcome.next (if_neg (by rw [hen]; decide))
  · intro s l hen hjobs hemit
    have held : s.heldJobs = [] := by
      unfold State.heldJobs
      rw [hjobs]
      rfl
    have whole : l.filter (fun p => (s.cmp.emit.map (·.1)).contains p.1) = [] := by
      rw [hemit]
      exact List.filter_eq_nil_iff.2 (fun p _ => Bool.false_ne_true)
    have left : ((s.disableBlock CMP.CTL.EN 0).cmpAbandon false) = _ :=
      State.cmpAbandon_of_no_emit (s := s.disableBlock CMP.CTL.EN 0) hemit false
    refine congrArg Host.Outcome.next ((if_neg (by rw [hen]; decide)).trans ?_)
    dsimp only
    rw [held, whole, State.each_nil, left, State.abortJobs_of_no_job]
    · rfl
    · exact hjobs
  · intro s hen hbad
    refine congrArg Host.Outcome.next ?_
    unfold State.lqEnable
    rw [hen, hbad]
    rfl
  · intro s h c hen hbad
    refine congrArg Host.Outcome.next ?_
    unfold State.lqEnable
    rw [hen, hbad]
    rfl
  · intro s l hen
    exact congrArg Host.Outcome.next (if_pos (by rw [hen]; rfl))
  · intro s l hen
    exact congrArg Host.Outcome.next (if_neg (by rw [hen]; decide))

/-! Programs -/

/-- With no checked program that waits, the first unchecked job's program is read and checked (R48, R49). -/
theorem State.loadProgram_checks {s : State} {j : Job} (hon : s.cmpOn = true) (hnext : s.progNext = none) (hload : s.toLoad = some j)
    (xp xt : Access) : s.loadProgram xp xt =
      match s.checkProgram j xp xt with
      | (t, .inr k) => (t.onJob j.seq (fun m => { m with checked := true, prog := k.prog, ltbl := k.ltbl })).syncCmp
      | (t, .inl (code, op)) =>
        ((((t.wr CMP.PROG_CHECK (w32 (code * 2 ^ 24 + op * 2 ^ 19 + j.id))).raise CMP.STATUS.PROG_ERR).complete j.seq 3 2 code).report
          Src.CMP_PROG 0 (w32 (code * 2 ^ 24 + op * 2 ^ 19 + j.id)).toNat).syncCmp := by
  unfold State.loadProgram
  rw [hon, hnext, hload]
  rfl

/-- Settles O34: a program is loaded, checked and composed line by line (R38, R48 to R50). -/
theorem compositorPrograms : Obligations.CompositorPrograms := by
  unfold Obligations.CompositorPrograms
  refine ⟨fun s xp xt => rfl, ?_, ?_, ?_, ?_, ?_, ?_⟩
  · intro s xp xt j k hon hnext hload hcheck
    refine congrArg Host.Outcome.next ((State.loadProgram_checks hon hnext hload xp xt).trans ?_)
    rw [← Prod.eta (s.checkProgram j xp xt), hcheck]
  · intro s xp xt j code op hon hnext hload hcheck
    refine congrArg Host.Outcome.next ((State.loadProgram_checks hon hnext hload xp xt).trans ?_)
    rw [← Prod.eta (s.checkProgram j xp xt), hcheck]
  · intro s xp xt k hnext
    exact congrArg Host.Outcome.next (if_pos (by rw [hnext, Option.isSome_some, Bool.or_true]))
  · intro s x j y hon hidle hline
    show execComposeLineBoundary x s = _
    unfold execComposeLineBoundary
    rw [hon, hidle, hline]
    rfl
  · intro s x hwaits
    show execComposeLineBoundary x s = _
    unfold execComposeLineBoundary
    obtain hbusy | hnone := hwaits
    · exact if_neg (by rw [hbusy, Bool.not_true, Bool.and_false]; exact Bool.false_ne_true)
    · rw [hnone]
      exact ite_self _
  · intro s j hgoes hjob hleft
    unfold State.nextLine
    rw [hgoes, hjob]
    dsimp only
    rw [hleft]
    rfl

end Sys2Proof.Machine
end

section
/-! PROOFS. The line queues (03_line_queues.md): pushes, moves between the sections and flushes. -/

namespace Sys2Proof.Machine

/-! Pushes -/

section Pushes

variable {s : State} {h : Nat} {e : Nat × List Code} {j : Job}

/-- A queue that is not full has a free landing buffer (R63, R67). -/
theorem State.landing_of_room {y : Nat} (hroom : s.queueFull h y = false) : (s.queue h).landing = none := by
  unfold State.queueFull at hroom
  simp only [Bool.or_eq_false_iff] at hroom
  obtain ⟨⟨_, hfree⟩, _⟩ := hroom
  exact Option.isNone_iff_eq_none.1 (by rw [← Option.not_isSome, hfree]; rfl)

/-- The queue with a line entered: in the tail, or in the landing buffer while the tail holds 8 lines (R67, log entry 81). -/
def Queue.entered (q : Queue) (l : QLine) : Queue :=
  if q.tail.length < 8 then { q with tail := q.tail ++ [l] } else { q with landing := some l }

/-- A line that enters is the newest of the queue. -/
theorem Queue.entered_lines {q : Queue} (hfree : q.landing = none) (l : QLine) : (q.entered l).lines = q.lines ++ [l] := by
  unfold Queue.entered
  split
  · simp [Queue.lines, hfree]
  · simp [Queue.lines, hfree]

/-- The line ends with the last of its head lines (R46). -/
def State.endWhenEmpty (u : State) : State := if u.cmp.emit.isEmpty = true then u.endLine else u

theorem State.endWhenEmpty_queue (u : State) (g : Nat) : u.endWhenEmpty.queue g = u.queue g := by
  unfold State.endWhenEmpty
  split
  · exact u.endLine_queue g
  · rfl

theorem State.endWhenEmpty_mem (u : State) : u.endWhenEmpty.mem = u.mem := by
  unfold State.endWhenEmpty
  split
  · exact u.endLine_mem
  · rfl

/-- The line that EMIT made ready enters the queue, and the head line is done (R46, R59). -/
theorem State.pushLine_of_room (hemit : s.cmp.emit.find? (·.1 == h) = some e) (hjob : s.cmpJob? = some j)
    (hdrop : (s.queue h).drop = 0) (hroom : s.queueFull h (s.get CMP.JOB_LINE.LINE) = false) :
    s.pushLine h =
      (((s.setQueue h (fun q => q.entered { seq := j.seq, job := j.id, y := s.get CMP.JOB_LINE.LINE, codes := e.2 })).queueBoundary h).onCmp
        (fun c => { c with emit := c.emit.erase e })).endWhenEmpty := by
  unfold State.pushLine
  rw [hemit, hjob]
  dsimp only
  rw [hdrop, hroom]
  rfl

/-- The beats of a line that a flush has cut are counted, and the head line is done (R71). -/
theorem State.pushLine_of_cut (hemit : s.cmp.emit.find? (·.1 == h) = some e) (hjob : s.cmpJob? = some j)
    (hdrop : (s.queue h).drop ≠ 0) :
    s.pushLine h =
      let u := ((s.bump (LQ.DROP_BEATS.COUNT h) (s.queue h).drop).onQueue h (fun q => { q with drop := 0 })).onCmp (fun c => { c with emit := c.emit.erase e })
      if u.cmp.emit.isEmpty = true then u.endLine else u := by
  unfold State.pushLine
  rw [hemit, hjob]
  exact if_pos (bne_iff_ne.2 hdrop)

/-- A line for which its queue has no room waits (R63). -/
theorem State.pushLine_of_full (hdrop : (s.queue h).drop = 0) (hfull : s.queueFull h (s.get CMP.JOB_LINE.LINE) = true) :
    s.pushLine h = s := by
  unfold State.pushLine
  split
  · dsimp only
    rw [hdrop, hfull]
    rfl
  · rfl

@[simp] theorem State.loadB_queue (s : State) (lo hi g : Nat) : (s.loadB lo hi).queue g = s.queue g := rfl

/-- A change of queue h and its boundary, without a CAP that waits, are seen in queue h alone and leave memory (R64). -/
theorem State.boundary_queue (hcap : s.act.any (·.1 == LQ.CAP h) = false) (f : Queue → Queue) :
    (∀ g, ((s.setQueue h f).queueBoundary h).queue g = if g = h then s.settled h (f (s.queue h)) else s.queue g) ∧
      ((s.setQueue h f).queueBoundary h).mem = s.mem := by
  rw [State.queueBoundary_free _ _ (by rw [State.setQueue_act]; exact hcap)]
  exact ⟨fun g => State.setQueue_queue s h g f, (State.loadB_mem _ _ _).trans (State.setQueue_mem s h f)⟩

/-- The pushed line is the newest of its queue; the other queues and memory stay (R59). -/
theorem State.pushLine_adds (hemit : s.cmp.emit.find? (·.1 == h) = some e) (hjob : s.cmpJob? = some j)
    (hdrop : (s.queue h).drop = 0) (hroom : s.queueFull h (s.get CMP.JOB_LINE.LINE) = false)
    (hcap : s.act.any (·.1 == LQ.CAP h) = false) :
    ((s.pushLine h).queue h).lines = (s.queue h).lines ++ [{ seq := j.seq, job := j.id, y := s.get CMP.JOB_LINE.LINE, codes := e.2 }] ∧
      (∀ g, g ≠ h → (s.pushLine h).queue g = s.queue g) ∧ SameMemory s (s.pushLine h) := by
  obtain ⟨hqueues, hmem⟩ := State.boundary_queue hcap
    (fun q => q.entered { seq := j.seq, job := j.id, y := s.get CMP.JOB_LINE.LINE, codes := e.2 })
  rw [State.pushLine_of_room hemit hjob hdrop hroom]
  generalize (s.setQueue h (fun q => q.entered { seq := j.seq, job := j.id, y := s.get CMP.JOB_LINE.LINE, codes := e.2 })).queueBoundary h = t
    at hqueues hmem ⊢
  refine ⟨?_, fun g hg => ?_, sameMemory_of_mem ((State.endWhenEmpty_mem _).trans hmem)⟩
  · rw [State.endWhenEmpty_queue]
    refine (congrArg Queue.lines ((hqueues h).trans (if_pos rfl))).trans ?_
    rw [State.settled_lines, Queue.entered_lines (State.landing_of_room hroom)]
  · rw [State.endWhenEmpty_queue]
    exact (hqueues g).trans (if_neg hg)

end Pushes

/-! Moves -/

/-- With DATA running nothing else asks of a push but room; a disabled queue still drops a cut line (R59, R71, R73). -/
theorem pushes_of {s : State} {h : Nat} (hon : s.headOn h = true)
    (hqueue : s.blockOn LQ.CTL.EN 2 = true ∨ (s.flag LQ.CTL.EN = false ∧ s.domainRuns 4 = true ∧ (s.queue h).drop ≠ 0)) :
    exec (.linePush h) s = .next (s.pushLine h) := by
  refine congrArg Host.Outcome.next (s.when_of_true _ ?_)
  obtain hen | ⟨hen, hdata, hdrop⟩ := hqueue
  · rw [hen, hon]
    rfl
  · rw [hen, hdata, bne_iff_ne.2 hdrop, hon, Bool.not_false, Bool.and_self, Bool.and_self, Bool.or_true, Bool.and_self]

/-- Which moves start (R60 rule 2). -/
theorem Queue.start_moving (q : Queue) (deep room : Bool) :
    (q.start deep room).moving = (q.moving || (q.spill.isEmpty && !q.busy && decide (q.head.length < 8) && !q.tail.isEmpty)) := by
  have spills : ∀ (c : Bool) (b : Queue), (if c = true then { b with spilling := true } else b).moving = b.moving := fun c b => by
    cases c <;> rfl
  unfold Queue.start
  dsimp only
  rw [spills]
  cases hs : q.spill.isEmpty
  · cases decide (q.head.length < 8) <;> simp [hs]
  · cases hh : (!q.busy && decide (q.head.length < 8) && !q.tail.isEmpty) <;> simp [hs, hh]

/-- Which refills start (R60 rule 1). -/
theorem Queue.start_refilling (q : Queue) (deep room : Bool) :
    (q.start deep room).refilling = (q.refilling || (!q.spill.isEmpty && decide (q.head.length < 8))) := by
  have spills : ∀ (c : Bool) (b : Queue), (if c = true then { b with spilling := true } else b).refilling = b.refilling :=
    fun c b => by cases c <;> rfl
  have moves : ∀ (c : Bool) (b : Queue), (if c = true then { b with moving := true } else b).refilling = b.refilling :=
    fun c b => by cases c <;> rfl
  unfold Queue.start
  dsimp only
  rw [spills, moves]
  cases (!q.spill.isEmpty && decide (q.head.length < 8)) <;> simp

/-- Settles O35: lines enter, move between the sections, spill and come back, each when its conditions hold (R59 to R61, R73). -/
theorem queueMoves : Obligations.QueueMoves := by
  unfold Obligations.QueueMoves
  refine ⟨fun s h => rfl, ?_, ?_, ?_, ?_, ?_, ?_, Queue.start_moving, Queue.start_refilling, ?_, ?_, ?_, ?_, ?_⟩
  · intro s h l j hen hon hemit hjob hdrop hroom hcap
    exact ⟨_, pushes_of hon (.inl hen), State.pushLine_adds hemit hjob hdrop hroom hcap⟩
  · intro s h e j hon hqueue hemit hjob hdrop
    rw [pushes_of hon (hqueue.imp_right (fun ⟨hen, hdata⟩ => ⟨hen, hdata, hdrop⟩)), State.pushLine_of_cut hemit hjob hdrop]
  · intro s h hon hdrop hfull
    exact congrArg Host.Outcome.next (s.when_self _ (State.pushLine_of_full hdrop hfull))
  · intro s h hon hdata hmoving
    exact congrArg Host.Outcome.next (s.when_of_true _ (by rw [hon, hdata, hmoving]; rfl))
  · intro q l r htail
    unfold Queue.moved
    rw [htail]
  · intro s h hstill
    exact congrArg Host.Outcome.next (s.when_of_false _ (by rw [hstill, Bool.and_false]))
  · intro s h x l r hon hspilling hport htail hdata
    show execSpillComplete h x s = _
    unfold execSpillComplete
    rw [hon, hdata, hspilling, hport, htail]
    rfl
  · intro s h x hwaits
    show execSpillComplete h x s = _
    unfold execSpillComplete
    refine if_neg ?_
    obtain hspilling | hport | hdata := hwaits
    · simp [hspilling]
    · simp [hport]
    · simp [hdata]
  · intro s h slot x l r hon hspill hrefilling hport hdata
    show execRefillComplete h x s = _
    unfold execRefillComplete
    rw [hspill]
    dsimp only
    rw [hon, hdata, hrefilling, hport, beq_self_eq_true]
    rfl
  · intro s h n x hgated
    refine ⟨?_, congrArg Host.Outcome.next (s.when_of_false _ (by simp [hgated])),
      congrArg Host.Outcome.next (s.when_of_false _ (by simp [hgated]))⟩
    show execRefillComplete h x s = _
    unfold execRefillComplete
    split
    · exact if_neg (by simp [hgated])
    · rfl
  · intro s hfree
    unfold State.servePort
    rw [hfree]
    rfl

/-! Flushes -/

section Flushes

variable {s : State} {h : Nat}

/-- A flush of a queue whose spill is not in flight, which EMIT does not write and which holds no cut line: the queue is
empty, in resync, and its request is gone (R71). -/
theorem State.flushQueue_of_still (hbusy : (s.queue h).busy = false) (hwrites : s.cmp.emit.any (·.1 == h) = false)
    (hpart : (s.queue h).part = false) (beats : Nat) :
    s.flushQueue h beats =
      let b := (s.setQueue h (fun _ => { refused := (s.queue h).refused })).setResync h true
      ((b.put LQ.FLUSH.REQ (setBitTo (b.get LQ.FLUSH.REQ) h false)).onHport h (fun p => { p with skewN := 0, lastTag := none })).queueBoundary h := by
  have still : (s.queue h).spilling = false := by
    unfold Queue.busy at hbusy
    simp only [Bool.or_eq_false_iff] at hbusy
    obtain ⟨⟨_, hspill⟩, _⟩ := hbusy
    exact hspill
  unfold State.flushQueue
  dsimp only
  rw [hwrites, hpart, still]
  rfl

/-- After such a flush, without a CAP that waits. -/
theorem State.flushQueue_empties (hh : h < 16) (hbusy : (s.queue h).busy = false) (hwrites : s.cmp.emit.any (·.1 == h) = false)
    (hpart : (s.queue h).part = false) (hcap : s.act.any (·.1 == LQ.CAP h) = false) (beats : Nat) :
    ((s.flushQueue h beats).queue h).lines = [] ∧ (s.flushQueue h beats).resync h = true ∧
      bit ((s.flushQueue h beats).get LQ.FLUSH.REQ) h = false := by
  have act : ∀ (t : State) f v p, (((t.put f v).put LQ.FLUSH.REQ p).onHport h (fun p => { p with skewN := 0, lastTag := none })).act = t.act :=
    fun t f v p => rfl
  rw [State.flushQueue_of_still hbusy hwrites hpart, State.queueBoundary_free _ _ (by
    unfold State.setResync
    rw [act, State.setQueue_act]
    exact hcap)]
  refine ⟨?_, ?_, ?_⟩
  · refine (congrArg Queue.lines ((State.setQueue_queue s h h (fun _ => { refused := (s.queue h).refused })).trans (if_pos rfl))).trans ?_
    rw [State.settled_lines]
    rfl
  · unfold State.resync State.setResync
    rw [State.loadB_get, State.onHport_get, State.get_put_other _ _ _ _ (by decide), State.get_put_same _ _ _ (by decide)]
    exact bit_setBitTo _ _ _ _ hh
  · rw [State.loadB_get, State.onHport_get, State.get_put_same _ _ _ (by decide)]
    exact bit_setBitTo _ _ _ _ hh

/-- A requested flush takes effect once no transfer of its queue is in flight (R71). -/
theorem exec_flushEffect {beats : Nat} (hon : s.headOn h = true) (hdata : s.domainRuns 4 = true)
    (hreq : bit (s.get LQ.FLUSH.REQ) h = true) (hbusy : (s.queue h).busy = false) :
    exec (.flushEffect h beats) s = .next (s.flushQueue h (min 63 beats)) :=
  congrArg Host.Outcome.next (s.when_of_true _ (by rw [hon, hdata, hreq, hbusy]; rfl))

end Flushes

/-- Settles O36: a flush waits for the transfers in flight, or is forced, and empties its queue (R71, R72, R74). -/
theorem queueFlush : Obligations.QueueFlush := by
  unfold Obligations.QueueFlush
  refine ⟨fun s mask => rfl, fun s h beats => exec_flushEffect, ?_, ?_, ?_, ?_⟩
  · intro s h beats hbusy
    exact congrArg Host.Outcome.next (s.when_of_false _ (by rw [hbusy, Bool.not_true, Bool.and_false]))
  · intro s h beats hon hdata hreq
    exact congrArg Host.Outcome.next (s.when_of_true _ (by rw [hon, hdata, hreq]; rfl))
  · intro s h ptr a b beats hon hdata
    exact congrArg Host.Outcome.next (s.when_of_true _ (by rw [hon, hdata]; rfl))
  · intro s h hon hreq hbusy hwrites hpart hcap hdata
    exact ⟨_, exec_flushEffect hon hdata hreq hbusy, State.flushQueue_empties (headOn_lt hon) hbusy hwrites hpart hcap _⟩

end Sys2Proof.Machine
end

section
/-! PROOFS. The head ports (04_head_ports.md): framing instructions, transfers and latches, program loads, the enable
checks and the ID bus. -/

namespace Sys2Proof.Machine

/-! Framing instructions -/

/-- With its instruction next, a lane runs it (R87, R88). -/
theorem next_of_laneReady {s : State} {h lane opc : Nat} {x : Xfer} {l : Lane} (ready : s.laneReady h lane opc x l)
    (f : Xfer → Word × Word → Lane → Lane) :
    (Host.Outcome.next (s.runLane h lane opc f) : Host.Outcome State Fault Refusal) =
      .next (s.onHport h (fun p => { p with xfer := some { x with lanes := modAt x.lanes lane (f x (fpIns x.prog lane l.pc)) } })) := by
  obtain ⟨hxfer, hlane, hdone, hcomplete, hopc⟩ := ready
  refine congrArg Host.Outcome.next ?_
  unfold State.runLane
  rw [hxfer]
  dsimp only
  rw [hlane]
  exact if_pos (by rw [hdone, hcomplete, hopc, beq_self_eq_true]; rfl)

/-- Going on to the next instruction sends and covers nothing. -/
theorem Lane.advance_bits (l : Lane) : l.advance.bits = l.bits ∧ l.advance.covered = l.covered := by
  unfold Lane.advance
  (repeat' split) <;> exact ⟨rfl, rfl⟩

theorem bitsOut_length (msbf : Bool) (w v : Nat) : (bitsOut msbf w v).length = w := by
  cases msbf <;> simp [bitsOut, bitsUp]

/-- CONST sends its bits, NBITS for each repetition (R88). -/
theorem laneConst_bits (i : Word × Word) (l : Lane) :
    (laneConst i l).bits = l.bits ++ ((List.range (insRep i)).flatMap (fun _ => bitsOut (insMsbf i) (insNbits i) i.2.toNat)) :=
  (Lane.advance_bits _).1

theorem laneConst_length (i : Word × Word) (l : Lane) : (laneConst i l).bits.length = l.bits.length + insRep i * insNbits i := by
  rw [laneConst_bits, List.length_append, List.length_flatMap]
  simp only [bitsOut_length, List.map_const', List.length_range, List.sum_replicate_nat]

/-- Settles O37: each framing instruction runs when it is next, and what it sends and covers (R87, R88). -/
theorem framingInstructions : Obligations.FramingInstructions := by
  unfold Obligations.FramingInstructions
  exact ⟨fun s h lane x l ready => next_of_laneReady ready _, fun s h lane x l ready => next_of_laneReady ready _,
    fun s h lane x l ready => next_of_laneReady ready _, fun s h lane x l ready => next_of_laneReady ready _,
    fun s h lane x l ready => next_of_laneReady ready _, fun s h lane x l ready => next_of_laneReady ready _,
    fun i l => ⟨laneConst_bits i l, laneConst_length i l⟩,
    fun x i l => ⟨(Lane.advance_bits _).2, (Lane.advance_bits _).1, (Lane.advance_bits _).2⟩⟩

/-! Transfers and latches -/

section Late

variable {s : State} {h : Nat} {t : Trig}

/-- A frame that is not ready LAT_SETUP before its latch: late, or nothing fires (R79). -/
theorem exec_xferLate (htrig : s.latchTrig h = some t) (hpred : s.flag FIRE.STATUS.PRED_VALID = true)
    (hreached : reached s.time (before (latStartOf (s.xferCfg h t.seq) t.at_) (latSetup (s.xferCfg h t.seq))) = true)
    (hready : (s.hport h).xfer.any (fun x => x.readyFor t (latStartOf (s.xferCfg h t.seq) t.at_)) = false) :
    exec (.xferLate h) s = .next (if (s.xferLine h).isSome = true then s.lateLine h t else s.dropLine h t) := by
  show execXferLate h s = _
  unfold execXferLate
  rw [htrig]
  dsimp only
  rw [hpred, hreached]
  cases hx : (s.hport h).xfer with
  | none => rfl
  | some x =>
    rw [hx] at hready
    have missed : x.readyFor t (latStartOf (s.xferCfg h t.seq) t.at_) = false := hready
    exact if_pos (by dsimp only; rw [missed]; rfl)

end Late

section Pops

variable {s : State} {h : Nat} {g : PortLine} {x : Access} {deadline : Bool}

/-- With the pop window open and no transfer, the port tries the line at the head of its queue (R68, R77). -/
theorem State.popPort_tries (hline : s.xferLine h = some g) (hxfer : (s.hport h).xfer = none) (hwindow : (s.hport h).window = true)
    (htail : (s.onHport h (fun p => { p with xfer := none })).tailLine g = false) :
    s.popPort h deadline x =
      let t := s.onHport h (fun p => { p with xfer := none })
      match t.popQueue h (g.seq, g.y) (tagDetail (t.jobId g.seq) g.y) deadline with
      | (u, .line l) => u.prepare h g l x
      | (u, .blank) => u.prepare h g [] x
      | (u, .retry) => u := by
  unfold State.popPort
  rw [hline]
  dsimp only
  rw [hxfer, hwindow, htail]
  rfl

/-- At the pop deadline of its line the port pops it with blanks allowed (R77). -/
theorem exec_popDeadline (hline : s.xferLine h = some g) (hpassed : s.deadlinePassed h g = true) :
    exec (.popDeadline ⟨h, x⟩) s = .next (s.popPort h true x) := by
  show execPopDeadline ⟨h, x⟩ s = _
  unfold execPopDeadline
  dsimp only
  rw [hline]
  exact congrArg Host.Outcome.next (s.when_of_true _ hpassed)

end Pops

/-- A pop of the line of the fire line returns its codes (R68). -/
theorem State.popQueue_line {s : State} {h d : Nat} {g : Nat × Nat} {b : Bool} {l : QLine} {r : List QLine}
    (hhead : (s.queue h).head = l :: r) (htag : l.tag = g) (hahead : tagBefore l.tag g = false) :
    (s.popQueue h g d b).2 = .line l.codes := by
  have kept : discardBehind g (l :: r) = l :: r := by
    unfold discardBehind
    rw [hahead]
    rfl
  unfold State.popQueue
  dsimp only
  rw [hhead, kept]
  dsimp only
  rw [if_pos (beq_iff_eq.2 htag)]

/-- Settles O38: a line is popped, framed and latched, or counted as late (R68, R75 to R79). -/
theorem transfersAndLatches : Obligations.TransfersAndLatches := by
  unfold Obligations.TransfersAndLatches
  refine ⟨?_, ?_, ?_, ?_, ?_, fun s h x => rfl, ?_, fun s h x g => exec_popDeadline, ?_, fun s h d g b l r => State.popQueue_line⟩
  · intro s h t x htrig hxfer hlive hpred hreached hready
    show execLatStart h s = _
    unfold execLatStart
    rw [htrig, hxfer]
    exact if_pos (by rw [hlive, hpred, hreached, hready]; rfl)
  · intro s h x e hat hup hreached
    show execLatEnd ⟨h, x⟩ s = _
    unfold execLatEnd
    dsimp only
    rw [hat]
    exact if_pos (by rw [hup, hreached]; rfl)
  · intro s h x hxfer hdone hcomplete
    show execFrameComplete h s = _
    unfold execFrameComplete
    rw [hxfer]
    exact if_pos (by rw [hdone, hcomplete]; rfl)
  · intro s h t htrig hpred hreached hready hline
    rw [exec_xferLate htrig hpred hreached hready, if_pos hline]
  · intro s h t htrig hpred hreached hready hline
    rw [exec_xferLate htrig hpred hreached hready, hline]
    rfl
  · intro s h x g l hline hxfer hwindow htail hpop
    refine congrArg Host.Outcome.next ((State.popPort_tries hline hxfer hwindow htail).trans ?_)
    dsimp only
    rw [← Prod.eta (State.popQueue _ _ _ _ _), hpop]
  · intro s h x g hline hpassed hxfer hwindow htail hpop
    refine (exec_popDeadline hline hpassed).trans (congrArg Host.Outcome.next ((State.popPort_tries hline hxfer hwindow htail).trans ?_))
    dsimp only
    rw [← Prod.eta (State.popQueue _ _ _ _ _), hpop]

/-! Framing program loads -/

/-- Settles O39: a framing program is read, checked and made pending, or its first failure shown (R89). -/
theorem framingProgramLoad : Obligations.FramingProgramLoad := by
  unfold Obligations.FramingProgramLoad
  refine ⟨?_, ?_, ?_, ?_, ?_⟩
  · intro s h x hon hidle
    refine congrArg Host.Outcome.next ((s.when_of_true _ hon).trans ?_)
    exact if_neg (by rw [hidle]; exact Bool.false_ne_true)
  · intro s h x hloads
    exact congrArg Host.Outcome.next (s.when_self _ (if_pos hloads))
  · intro s h hnone
    show execFpCheckComplete h s = _
    unfold execFpCheckComplete
    rw [hnone]
  · intro s h w hload hheader hbody
    have sound : progFailure w false = none := by
      unfold progFailure
      rw [hheader, hbody]
      rfl
    show execFpCheckComplete h s = _
    unfold execFpCheckComplete
    rw [hload]
    dsimp only
    rw [sound]
  · intro s h code lane ins w bad hload hfail
    show execFpCheckComplete h s = _
    unfold execFpCheckComplete
    rw [hload]
    dsimp only
    rw [hfail]

/-! The enable checks -/

section Checks

variable {s : State} {h raw shorts opens : Nat} {stable : Bool}

/-- The end of the checks is judged while they run (R92). -/
theorem exec_portReady (hon : s.headOn h = true) (hchecks : (s.hport h).enabling = true) :
    exec (.portReady h raw stable shorts opens) s = .next (s.portReady h (min raw 255) stable (shorts % 64) (opens % 64)) :=
  congrArg Host.Outcome.next (s.when_of_true _ (by rw [hon, hchecks]; rfl))

/-- The checks of a connector that is not empty (R92). -/
theorem State.portReady_of_head (hcode : raw / 16 % 16 ≠ 15) : s.portReady h raw stable shorts opens =
    match (s.acceptPrs h raw stable).enableFault h (raw / 16 % 16) stable shorts opens with
    | some c => (s.acceptPrs h raw stable).refusePort h c shorts opens
    | none => (((s.acceptPrs h raw stable).raise (HPT.PSTATUS.READY h)).drop (HPT.PSTATUS.NO_HEAD h)).onHport h
        (fun p => { p with enabling := false, window := true }) := by
  unfold State.portReady
  dsimp only
  rw [beq_eq_false_iff_ne.2 hcode, Bool.and_false]
  rfl

/-- A presence reading of an enabled port past its checks (R94). -/
theorem exec_prsSample (hon : s.headOn h = true) (hen : s.flag (HPT.PCTL.EN h) = true) (hpast : (s.hport h).enabling = false)
    (hvalid : s.flag (HPT.PRS.VALID h) = true) : exec (.prsSample h raw) s = .next (s.prsSample h (min raw 255)) :=
  congrArg Host.Outcome.next (s.when_of_true _ (by rw [hon, hen, hpast, hvalid]; rfl))

/-- DOWN_CLR of a head that is there (R101). -/
theorem exec_downClr (hon : s.headOn h = true) :
    exec (.downClr h shorts opens) s = .next (s.downClr h (shorts % 64) (opens % 64)) :=
  congrArg Host.Outcome.next (s.when_of_true _ hon)

end Checks

/-- Settles O40: the checks of an enable, the disables, and what readings of an enabled port bring (R91 to R94, R98, R101). -/
theorem portChecks : Obligations.PortChecks := by
  unfold Obligations.PortChecks
  refine ⟨?_, ?_, fun s h raw shorts opens stable => exec_portReady, ?_, ?_, ?_, ?_, ?_, ?_, fun s h raw => exec_prsSample,
    ?_, ?_, ?_, ?_, fun s h shorts opens => exec_downClr, ?_, ?_⟩
  · intro s h hon hen
    exact congrArg Host.Outcome.next ((s.when_of_true _ hon).trans (if_neg (by rw [hen]; exact Bool.false_ne_true)))
  · intro s h hen
    exact congrArg Host.Outcome.next (s.when_self _ (if_pos hen))
  · intro s h raw shorts opens hon hchecks hcode hsound
    rw [exec_portReady hon hchecks, State.portReady_of_head hcode, hsound]
  · intro s h raw shorts opens hon hchecks hcode
    rw [exec_portReady hon hchecks]
    exact congrArg Host.Outcome.next (if_pos (by rw [hcode]; rfl))
  · intro s h raw shorts opens k stable hon hchecks hcode hfault
    rw [exec_portReady hon hchecks, State.portReady_of_head hcode, hfault]
  · intro s h hon hen
    exact congrArg Host.Outcome.next ((s.when_of_true _ hon).trans (if_pos hen))
  · intro s hen
    exact congrArg Host.Outcome.next (if_neg (by rw [hen]; decide))
  · intro s hen
    exact congrArg Host.Outcome.next (if_pos (by rw [hen]; rfl))
  · intro s h raw hon hen hpast hvalid hdiff hfree hcode
    rw [exec_prsSample hon hen hpast hvalid]
    unfold State.prsSample
    dsimp only
    rw [bne_iff_ne.2 hcode, hdiff, hfree]
    rfl
  · intro s h raw hon hen hpast hvalid hcode
    rw [exec_prsSample hon hen hpast hvalid]
    unfold State.prsSample
    dsimp only
    rw [← hcode, bne_self_eq_false]
    rfl
  · intro s h lane short hon hready hlane hused
    refine congrArg Host.Outcome.next ((s.when_of_true _ (by rw [hon, hready, decide_eq_true hlane, hused]; rfl)).trans ?_)
    cases short <;> rfl
  · intro s h lane short hunused
    exact congrArg Host.Outcome.next (s.when_of_false _ (by rw [hunused, Bool.and_false]))
  · intro s h shorts opens hon hcause hclean
    rw [exec_downClr hon]
    unfold State.downClr
    dsimp only
    rw [State.when_of_true _ _ hcause, hclean]
    rfl
  · intro s h shorts opens hon hcause
    rw [exec_downClr hon]
    unfold State.downClr
    dsimp only
    rw [State.when_of_false _ _ hcause]

/-! The ID bus -/

section IdBus

variable {s : State} {h : Nat} {ctl : Word} {stuck : Bool}

/-- A write with START asks for a transaction (R95). -/
theorem exec_i2cStart (hon : s.headOn h = true) (hstart : fieldOf ctl 31 1 = 1) :
    exec (.i2cTransaction h ctl stuck) s = .next ((s.wr (HPT.I2C_CTL h) (ctl &&& 0x013F3F7F#32)).i2cStart h stuck) := by
  refine congrArg Host.Outcome.next ((s.when_of_true _ hon).trans ?_)
  exact State.when_of_true _ _ (by rw [hstart]; rfl)

/-- An idle bus takes a START (R95, R96). -/
theorem State.i2cStart_of_idle (hidle : s.flag (HPT.I2C_STATUS.BUSY h) = false) : s.i2cStart h stuck =
    if stuck = true then s.raise (HPT.I2C_STATUS.STUCK h)
    else (s.raise (HPT.I2C_STATUS.BUSY h)).onHport h (fun p => { p with
      i2cNow := some (s.get (HPT.I2C_CTL.DEV h), ((List.range (min 32 (s.get (HPT.I2C_CTL.WLEN h)))).map (s.i2cByte h),
        min 32 (s.get (HPT.I2C_CTL.RLEN h)))) }) :=
  if_neg (by rw [hidle]; exact Bool.false_ne_true)

end IdBus

/-- Settles O41: the ID bus runs one transaction, and shows how it ended (R95, R96). -/
theorem headIdBus : Obligations.HeadIdBus := by
  unfold Obligations.HeadIdBus
  refine ⟨?_, ?_, ?_, ?_, fun s h n nack read => rfl, ?_, ?_, ?_⟩
  · intro s h ctl hon hstart hidle
    rw [exec_i2cStart hon hstart, State.i2cStart_of_idle hidle]
    rfl
  · intro s h ctl hon hstart hidle
    rw [exec_i2cStart hon hstart, State.i2cStart_of_idle hidle]
    rfl
  · intro s h ctl stuck hon hstart hbusy
    rw [exec_i2cStart hon hstart]
    exact congrArg Host.Outcome.next (if_pos hbusy)
  · intro s h ctl stuck hon hstart
    refine congrArg Host.Outcome.next ((s.when_of_true _ hon).trans ?_)
    exact State.when_of_false _ _ (by rw [hstart]; rfl)
  · intro s h n dev rlen read out hnow
    refine congrArg Host.Outcome.next ?_
    unfold State.i2cEnd
    rw [hnow]
    cases rlen <;> rfl
  · intro s h n dev rlen read out hnow
    refine congrArg Host.Outcome.next ?_
    unfold State.i2cEnd
    rw [hnow]
    rfl
  · intro s h n dev rlen out hnow
    refine congrArg Host.Outcome.next ?_
    unfold State.i2cEnd
    rw [hnow]
    rfl

end Sys2Proof.Machine
end

section
/-! PROOFS. Position feedback (07_position.md) and head care with nozzle sensing (08_nozzle_health.md). -/

namespace Sys2Proof.Machine

/-! What an answer under a condition is -/

section Answers

variable {s : State} {c : Bool} {f : State → State}

/-- A command whose condition holds answers its effect. -/
theorem next_when_true (h : c = true) :
    (Host.Outcome.next (s.when c f) : Host.Outcome State Fault Refusal) = .next (f s) :=
  congrArg Host.Outcome.next (s.when_of_true f h)

/-- A command whose condition fails answers its state. -/
theorem next_when_false (h : c = false) :
    (Host.Outcome.next (s.when c f) : Host.Outcome State Fault Refusal) = .next s :=
  congrArg Host.Outcome.next (s.when_of_false f h)

end Answers

/-! Axes -/

section Axes

variable {s : State} {n : Nat}

/-- Accepted levels are held, and decoded by the mode of an axis that decodes (R165). -/
theorem exec_inputAccepted (hn : n < 4) (l : Nat) :
    exec (.inputAccepted n l) s =
      let a := s.onAx n (fun x => { x with levels := l % 8 })
      let t := before s.time (s.get (POS.AX_CTL.FILT n))
      if a.axOn n = true then
        match a.axMode n with
        | 0 => .next (a.quadTick n t (a.axLevels n l))
        | 1 => .next (a.hallTick n t (s.axLevels n (s.ax n).levels) (a.axLevels n l))
        | _ => .next a
      else .next a := by
  show execInputAccepted n l s = _
  unfold execInputAccepted
  rw [if_neg (Nat.not_le.2 hn)]
  dsimp only
  cases (s.onAx n (fun x => { x with levels := l % 8 })).axOn n <;> rfl

/-- A frame's bits are judged by the CRC, then by the error bit (R182). -/
theorem exec_serialFrameComplete {w d t0 : Nat} (hon : s.serialOn n = true) (hframe : (s.ax n).frame = some t0) :
    exec (.serialFrameComplete n w d) s =
      if s.serCrcOk n (s.serBits n w) = false then .next ((s.keepRaw n w d).frameFail n 4)
      else if s.serErrBit n (s.serBits n w) = true then .next ((s.keepRaw n w d).frameFail n 5)
      else .next ((s.keepRaw n w d).frameGood n t0 (s.serU n (s.serBits n w))) := by
  show execSerialFrameComplete n w d s = _
  unfold execSerialFrameComplete
  rw [hon, hframe]
  simp only [Bool.not_eq_true']

/-- A period tick of an axis whose frame is not in progress (R180). -/
theorem exec_serialFrameStart {slo : Bool} (hon : s.serialOn n = true) (hframe : (s.ax n).frame = none) :
    exec (.serialFrameStart n slo) s = .next (if slo == s.flag (POS.AX_CTL.INV_A n) then s.frameFail n 1
      else s.onAx n (fun x => { x with frame := some s.time })) :=
  next_when_true (by rw [hon, hframe]; rfl)

/-- Setting EN asks for sound settings (R191). -/
theorem exec_axisEnable (hn : n < 4) (hen : s.flag (POS.AX_CTL.EN n) = false) :
    exec (.axisEnable n) s = .next (match s.axRefusal n with
      | some code => (s.raise POS.STATUS.CFG_ERR).report Src.POS_CFG n code
      | none => (s.raise (POS.AX_CTL.EN n)).when ((s.raise (POS.AX_CTL.EN n)).axOn n) (·.axStart n)) := by
  refine (next_when_true (decide_eq_true hn)).trans (congrArg Host.Outcome.next ?_)
  exact if_neg (by rw [hen]; exact Bool.false_ne_true)

/-- Clearing EN stops the decoder, and ends the job of the fire engine that uses the axis (R35, R192). -/
theorem exec_axisDisable (hn : n < 4) (hen : s.flag (POS.AX_CTL.EN n) = true) :
    exec (.axisDisable n) s = .next (((s.drop (POS.AX_CTL.EN n)).axStop n).when
      (((s.drop (POS.AX_CTL.EN n)).axStop n).get FIRE.CFG.AXIS == n) (·.abortRunning 12)) := by
  refine (next_when_true (decide_eq_true hn)).trans (congrArg Host.Outcome.next ?_)
  exact if_neg (by rw [hen]; decide)

end Axes

/-- One tick of a QUAD axis by the phase's distance from the reference (R166, R167). -/
theorem State.quadTick_of_ref {s : State} {n t r : Nat} {v : Bool × (Bool × Bool)} (href : (s.ax n).ref = some r) :
    s.quadTick n t v =
      let a := s.onAx n (fun x => { x with ref := some (quadPhase v.1 v.2.1) })
      match (quadPhase v.1 v.2.1 + 4 - r) % 4 with
      | 1 => a.axStep n t 1 (s.qualIndex n v)
      | 3 => a.axStep n t (-1) (s.qualIndex n v)
      | 2 => (a.axFault n t POS.SKIP_CNT.COUNT POS.AX_STATUS.SKIP Src.POS_SKIP (s.qualIndex n v)).encBreak n
      | _ => if (a.ax n).lost == 0 then a.indexTick n t (s.qualIndex n v) else a.onAx n (fun x => { x with qi := s.qualIndex n v }) := by
  unfold State.quadTick
  rw [href]
  rfl

/-- Settles O42: levels are decoded by the mode, frames checked in the order of R182, and inputs watched (R164 to R192). -/
theorem axisDecoding : Obligations.AxisDecoding := by
  unfold Obligations.AxisDecoding
  refine ⟨?_, ?_, ?_, ?_, ?_, ?_, ?_, ?_, ?_, ?_, fun s => rfl, ?_, ?_, ?_, ?_, ?_, ?_, ?_, ?_, ?_, ?_, ?_, ?_, ?_, ?_⟩
  · intro s n l hn hon hmode
    rw [exec_inputAccepted hn]
    dsimp only
    rw [if_pos hon, hmode]
    rfl
  · intro s n l hn hon hmode
    rw [exec_inputAccepted hn]
    dsimp only
    rw [if_pos hon, hmode]
    rfl
  · intro s n l hn hoff
    rw [exec_inputAccepted hn]
    dsimp only
    rw [hoff]
    rfl
  · intro s n l hn hmode
    obtain ⟨m, hm⟩ := Nat.exists_eq_add_of_le' hmode
    rw [exec_inputAccepted hn]
    dsimp only
    rw [hm]
    exact ite_self _
  · intro s n t r v href hstep
    rw [State.quadTick_of_ref href, hstep]
    rfl
  · intro s n t r v href hstep
    rw [State.quadTick_of_ref href, hstep]
    rfl
  · intro s n t r v href hstep
    rw [State.quadTick_of_ref href, hstep]
    rfl
  · intro s n hon hmode htmo
    exact next_when_true (by rw [hon, decide_eq_true hmode, bne_iff_ne.2 htmo]; rfl)
  · intro s n mask hon hwire hused
    exact next_when_true (by rw [hon, hwire, bne_iff_ne.2 hused]; rfl)
  · intro s n hn hlost
    exact next_when_true (by rw [decide_eq_true hn, bne_iff_ne.2 hlost]; rfl)
  · intro s n hn hen hsound hon
    rw [exec_axisEnable hn hen, hsound]
    exact next_when_true hon
  · intro s n code hn hen hbad
    rw [exec_axisEnable hn hen, hbad]
  · intro s n hn hen hother
    rw [exec_axisDisable hn hen]
    exact next_when_false (beq_eq_false_iff_ne.2 hother)
  · intro s n hn hen hfires
    rw [exec_axisDisable hn hen]
    exact next_when_true (beq_iff_eq.2 hfires)
  · intro s hen hsrc hvalid
    show execTideHandoff s = _
    unfold execTideHandoff
    rw [hen, hsrc, bne_self_eq_false]
    exact next_when_true hvalid
  · intro s hen
    exact if_pos (by rw [hen]; rfl)
  · intro s n slo hon hframe hidle
    rw [exec_serialFrameStart hon hframe, if_neg (fun e => hidle (beq_iff_eq.1 e))]
  · intro s n slo hon hframe hlow
    rw [exec_serialFrameStart hon hframe, if_pos (beq_iff_eq.2 hlow)]
  · intro s n hon hmode hframe
    exact next_when_true (by rw [hon, hmode, hframe]; rfl)
  · intro s n w d hon hframe
    exact next_when_true (by rw [hon, hframe]; rfl)
  · intro s n w d t0 hon hframe hcrc herr
    rw [exec_serialFrameComplete hon hframe, hcrc, herr]
    rfl
  · intro s n w d t0 hon hframe hcrc
    rw [exec_serialFrameComplete hon hframe, if_pos hcrc]
  · intro s n w d t0 hon hframe hcrc herr
    rw [exec_serialFrameComplete hon hframe, hcrc, herr]
    rfl
  · intro s n t u p hlost hprev hstep
    unfold State.frameGood
    rw [hlost, hprev]
    exact if_pos hstep

/-! Head care -/

/-- Whether the loop may run does not depend on the time off that OVERTEMP began (R196). -/
theorem State.loopRuns_cooled (s : State) (h : Nat) : (s.cooled h).loopRuns h = s.loopRuns h := by
  unfold State.cooled State.when
  split
  · unfold State.loopRuns State.flag
    rw [State.onNhh_get, State.onNhh_get, State.onNhh_get]
  · rfl

/-- A heater that is latched off leaves the temperature (R199, R200). -/
theorem State.latchHeat_temp (s : State) (h : Nat) : (s.latchHeat h).get (NH.TEMP.T h) = s.get (NH.TEMP.T h) := by
  have status : ∀ lo w, lo + w ≤ 32 → fieldsApart ⟨NH.HSTAT h, lo, w⟩ (NH.TEMP.T h) = true := fun lo w hw =>
    fieldsApart_of_addr hw (show 0x40201004 + 0x80 * h ≠ 0x40201024 + 0x80 * h by omega)
  have duty : NH.HEAT_DUTY h ≠ (NH.TEMP.T h).addr := show 0x40201034 + 0x80 * h ≠ 0x40201024 + 0x80 * h by omega
  unfold State.latchHeat State.heatOff
  rw [State.onNhh_get, State.get_drop_other _ _ _ (status 2 1 (by decide)), State.get_wr_other _ _ _ duty,
    State.get_raise_other _ _ _ (status 3 1 (by decide))]

section Overrides

variable {s : State} {v : Word} {x : Access}

/-- A write of FORCE for a nozzle whose record lies in SRAM (R213). -/
theorem State.forceRecord_inside (hsram : inSram (s.mapAddr (fieldOf v 0 16)) 4 = true) :
    s.forceRecord v x =
      let n := fieldOf v 0 16
      let a := s.mapAddr n
      let r := s.nhRead a x
      if fieldOf v 30 1 == 1 then ((r.1.nhWrite a 0#32 x).countClass (n / 4096) (recClass r.2) 0).suspect (n / 4096) (n % 4096) 0
      else if fieldOf v 31 1 == 0 then r.1.nhWrite a (withField (withField r.2 15 1 1) 12 3 (fieldOf v 24 3)) x
      else r.1.nhWrite a (withField r.2 15 1 0) x :=
  if_neg (by rw [hsram]; decide)

end Overrides

/-- PUBLISH without a publish in progress (R216). -/
theorem exec_publish {s : State} {x : Access} (hidle : s.flag NH.STATUS.PUB_BUSY = false) :
    exec (.publish x) s = .next (s.when ((s.nh.pubWait || s.chgReached) && s.flag NH.CTL.EN && s.get ⟨SYS.TBL_SWAP, 0, 1⟩ == 0)
      (·.publishBegin x)) :=
  if_neg (by rw [hidle]; exact Bool.false_ne_true)

/-- SENSE_EN where it was clear (R223). -/
theorem exec_senseEn {s : State} {h : Nat} (hh : h < 16) (hen : s.flag (NH.HCTL.SENSE_EN h) = false) :
    exec (.senseEn h) s = .next (match s.senseFault h with
      | some c => s.reportOnce NH.STATUS.CFG_ERR Src.NH_CFG h c
      | none => ((s.raise (NH.HCTL.SENSE_EN h)).put (NH.SCAN.POS h) 0).onNhh h (fun n => { n with steps := 0 })) := by
  refine (next_when_true (decide_eq_true hh)).trans (congrArg Host.Outcome.next ?_)
  exact if_neg (by rw [hen]; exact Bool.false_ne_true)

/-- NH_ENABLE where the enable was clear (R223). -/
theorem exec_nhEnable {s : State} (hen : s.flag NH.CTL.EN = false) :
    exec .nhEnable s = .next (match s.nhFault with
      | some c => s.reportOnce NH.STATUS.CFG_ERR Src.NH_CFG 255 c
      | none => s.raise NH.CTL.EN) :=
  congrArg Host.Outcome.next (if_neg (by rw [hen]; exact Bool.false_ne_true))

/-- Settles O43: temperature and heater, overrides, publishes and the enables of sensing (R193 to R200, R213 to R223). -/
theorem headCare : Obligations.HeadCare := by
  unfold Obligations.HeadCare
  refine ⟨?_, ?_, ?_, ?_, ?_, fun s v x => rfl, ?_, ?_, ?_, fun s h hon => next_when_true hon, fun s => rfl, ?_, ?_,
    fun s x => rfl, ?_, ?_, ?_, ?_, ?_, fun s t0 t1 t2 t3 => rfl⟩
  · intro s h x hon hready
    exact if_pos (by rw [hon, hready]; rfl)
  · intro s h x hready
    exact if_neg (by rw [hready, Bool.and_false]; exact Bool.false_ne_true)
  · intro s h hstill
    exact if_pos (by rw [State.loopRuns_cooled, hstill]; rfl)
  · intro s h t0 hrun hon hloop hrise
    show execNoRise h s = _
    unfold execNoRise
    rw [hrun, State.latchHeat_temp]
    exact next_when_true (by rw [hon, hloop, decide_eq_true hrise]; rfl)
  · intro s h hon hready hdrives
    exact next_when_true (by rw [hon, hready, hdrives]; rfl)
  · intro s v x hsram hclr
    refine congrArg Host.Outcome.next ((State.forceRecord_inside hsram).trans ?_)
    exact if_pos (beq_iff_eq.2 hclr)
  · intro s v x hsram hkeep hforce
    refine congrArg Host.Outcome.next ((State.forceRecord_inside hsram).trans ?_)
    dsimp only
    rw [hkeep, hforce]
    rfl
  · intro s v x hsram hkeep hend
    refine congrArg Host.Outcome.next ((State.forceRecord_inside hsram).trans ?_)
    dsimp only
    rw [hkeep, hend]
    rfl
  · intro s hauto htmo hchg
    exact next_when_true (by rw [hauto, bne_iff_ne.2 htmo, bne_iff_ne.2 hchg]; rfl)
  · intro s x hidle hasked hen hswap
    have asked : (s.nh.pubWait || s.chgReached) = true := by rw [Bool.or_eq_true]; exact hasked
    rw [exec_publish hidle]
    exact next_when_true (by rw [asked, hen, hswap]; rfl)
  · intro s x hbusy
    exact if_pos hbusy
  · intro s hen hsound
    rw [exec_nhEnable hen, hsound]
  · intro s c hen hbad
    rw [exec_nhEnable hen, hbad]
  · intro s h hh hen hsound
    rw [exec_senseEn hh hen, hsound]
  · intro s h c hh hen hbad
    rw [exec_senseEn hh hen, hbad]

/-! Results of nozzle sensing -/

/-- The oldest samples of the head are taken, and analysed with CTL.EN set (R208, log entry 35). -/
theorem exec_senseResult {s : State} {h : Nat} {x : Access} {k : Samples} {rest : List Samples}
    (hresults : (s.nhh h).results = k :: rest) :
    exec (.senseResult h x) s = .next ((s.onNhh h (fun n => { n with results := rest })).when
      ((s.onNhh h (fun n => { n with results := rest })).flag NH.CTL.EN) (·.senseResult h k x)) := by
  show execSenseResult h x s = _
  unfold execSenseResult
  rw [hresults]

/-- Settles O44: a result's class and its step of the live record (R207 to R212). -/
theorem nozzleResults : Obligations.NozzleResults := by
  unfold Obligations.NozzleResults
  refine ⟨?_, ?_, ?_, ?_, ?_, ?_, ?_, fun c w f d ampB perB => rfl, ?_, ?_, ?_⟩
  · intro s h x k rest hresults hen
    rw [exec_senseResult hresults]
    exact next_when_true hen
  · intro s h x hnone
    show execSenseResult h x s = _
    unfold execSenseResult
    rw [hnone]
  · intro s h x k rest hresults hen
    rw [exec_senseResult hresults]
    exact next_when_false hen
  · intro s h x k hfew
    exact if_pos hfew
  · intro c f d ampB perB hdead
    exact if_pos hdead
  · intro c f d ampB perB hsound hbase
    unfold SenseCfg.rawClass
    rw [if_neg (Nat.not_lt.2 hsound)]
    exact if_pos (by simpa using hbase)
  · intro c f d ampB perB hsound hamp hper hratio hperiod
    unfold SenseCfg.rawClass
    rw [if_neg (Nat.not_lt.2 hsound), if_neg (by simp [hamp, hper])]
    dsimp only
    rw [if_neg (Nat.not_lt.2 hratio), hperiod]
    rfl
  · intro w r hsame
    exact if_pos (beq_iff_eq.2 hsame)
  · intro w r hother hpend
    unfold pendStep
    rw [if_neg (fun e => hother (beq_iff_eq.1 e)), if_pos (beq_iff_eq.2 hpend)]
  · intro w r hother hnew
    unfold pendStep
    rw [if_neg (fun e => hother (beq_iff_eq.1 e)), if_neg (fun e => hnew (beq_iff_eq.1 e))]

end Sys2Proof.Machine
end

section
/-! PROOFS. Calibration runs, live tables and records (09_calibration.md). -/

namespace Sys2Proof.Machine

/-! Runs -/

section Runs

variable {s : State} {e h : Nat} {x : Access} {d : CalMeas}

/-- With the lane free its next element starts, when that is a channel (R237). -/
theorem exec_channelRun_next (hlane : s.cal.meas = none) (hnext : s.nextElem = some e) (he : e < 48) :
    exec .channelRun s = .next (s.startChannelRun e) := by
  show execChannelRun s = _
  unfold execChannelRun
  rw [hlane, hnext]
  exact next_when_true (decide_eq_true he)

/-- The encoder's run starts on an axis that is enabled in QUAD mode (R242). -/
theorem exec_encoderRun (hnext : s.nextElem = some e) (he : 64 ≤ e) :
    exec .encoderRun s = .next (if s.axOn (e - 64) && s.axMode (e - 64) == 0 then (s.beginElem e).takeLane e 0 true
      else (s.beginElem e).calNotReady e 0) := by
  show execEncoderRun s = _
  unfold execEncoderRun
  rw [hnext]
  exact next_when_true (decide_eq_true he)

/-- A pending baseline run that may start asks for sensing (R244). -/
theorem exec_baselineRun (hon : s.headOn h = true) (hen : s.flag CAL.CTL.EN = true) (hpend : s.flag (pendFld (80 + h)) = true)
    (hretry : s.cal.retry.contains (80 + h) = false) (hruns : s.runsNow (80 + h) = false) :
    exec (.baselineRun h) s =
      if s.flag NH.CTL.EN && s.flag NH.CTL.SENSE_EN && s.flag (NH.HCTL.SENSE_EN h) then
        .next ((s.onCal (fun c => { c with base := c.base ++ [{ head := h, tRun := s.elemTemp (80 + h), passes := s.get (NH.SCAN.PASSES h) }] })).syncHeadLane)
      else .next (s.calNotReady (80 + h) (s.elemTemp (80 + h))) :=
  if_pos (by rw [hon, hen, hpend, hretry, hruns]; rfl)

/-- Heads whose rail run pends and may start (R247). -/
def State.railHeads (s : State) : List Nat :=
  (List.range 16).filter (fun h => s.headOn h && s.flag (pendFld (96 + h)) && !s.cal.retry.contains (96 + h))

/-- A pending rail pass with the block enabled (R247, R252). -/
theorem exec_railRun (hen : s.flag CAL.CTL.EN = true) (hheads : s.railHeads ≠ []) :
    exec (.railRun x) s =
      if s.flag CAL.CTL.RAIL_OWN = false then .next (s.each s.railHeads (fun h t => t.calNotReady (96 + h) (t.elemTemp (96 + h))))
      else if s.get ⟨SYS.TBL_SWAP, 2, 1⟩ == 1 || s.flag CAL.REC_STAT.BUSY then .next s
      else
        let c := s.ramRead calIssuer s.railBase 8192 x
        .next (((c.1.ramWrite calIssuer s.railSpare c.2.2 x).1.each s.railHeads (fun h t => t.railHead x s.railSpare h)).requestSwap 4) := by
  have some_head : s.railHeads.isEmpty = false := by rw [List.isEmpty_eq_false_iff]; exact hheads
  show execRailRun x s = _
  unfold execRailRun
  dsimp only
  rw [if_neg (by rw [hen]; exact fun no_head => Bool.false_ne_true (some_head.symm.trans no_head))]
  simp only [Bool.not_eq_true']
  rfl

/-- Without an export in progress the run of the measurement lane ends by its element (R233). -/
theorem exec_runComplete_lane {r : MeasRun} (he : e < 80) (hmeas : s.cal.meas = some r) (helem : r.elem = e)
    (hidle : s.flag CAL.REC_STAT.BUSY = false) :
    exec (.runComplete e d) s =
      if e < 48 then .next (s.when r.holds (·.endChannelRun e r.tRun d))
      else if e < 64 then .next (s.endDelayRun e r.tRun d)
      else .next (s.when (s.encNeed ≤ r.edges.length) (·.endEncoderRun e r.edges)) := by
  show execRunComplete e d s = _
  unfold execRunComplete
  rw [hidle, if_neg Bool.false_ne_true, if_neg (Nat.not_le.2 he), hmeas]
  dsimp only
  rw [helem, bne_self_eq_false]
  rfl

end Runs

/-- Settles O45: requests pend, the lanes start what is due, and runs end with their results (R224 to R248). -/
theorem calibrationRuns : Obligations.CalibrationRuns := by
  unfold Obligations.CalibrationRuns
  refine ⟨?_, ?_, fun s e => exec_channelRun_next, ?_, ?_, ?_, ?_, ?_, ?_, ?_, ?_, ?_, ?_, ?_, ?_, ?_, ?_, ?_, ?_, ?_, ?_, fun s => rfl, ?_,
    fun s e => rfl⟩
  · intro s e hok
    exact congrArg Host.Outcome.next (if_pos hok)
  · intro s e hnot
    exact congrArg Host.Outcome.next (if_neg (by rw [hnot]; exact Bool.false_ne_true))
  · intro s hlane hnext
    show execChannelRun s = _
    unfold execChannelRun
    rw [hlane, hnext]
  · intro s e hlane hnext hlo hhi hready hfree
    rw [exec_channelRun_next hlane hnext hhi]
    unfold State.startChannelRun
    dsimp only
    rw [hready, hfree, if_pos hlo]
    rfl
  · intro s e hlane hnext he hready
    rw [exec_channelRun_next hlane hnext he]
    unfold State.startChannelRun
    dsimp only
    rw [hready]
    rfl
  · intro s r hmeas he hholds hsettled
    show execChannelRun s = _
    unfold execChannelRun
    rw [hmeas]
    exact next_when_true (by rw [decide_eq_true he, hholds, hsettled]; rfl)
  · intro s e hnext hlo hhi
    show execDelayPathRun s = _
    unfold execDelayPathRun
    rw [hnext]
    exact next_when_true (by rw [decide_eq_true hlo, decide_eq_true hhi]; rfl)
  · intro s e hnext he hon hmode
    rw [exec_encoderRun hnext he, hon, hmode]
    rfl
  · intro s e hnext he hnot
    rw [exec_encoderRun hnext he]
    obtain hoff | hmode := hnot
    · rw [hoff]
      rfl
    · rw [beq_eq_false_iff_ne.2 hmode, Bool.and_false]
      rfl
  · intro s r hmeas he hfew
    show execEncTmo s = _
    unfold execEncTmo
    rw [hmeas]
    exact next_when_true (by rw [decide_eq_true he, decide_eq_true hfew]; rfl)
  · intro s h hon hen hpend hretry hruns hnh hsense hhead
    rw [exec_baselineRun hon hen hpend hretry hruns]
    exact if_pos (by rw [hnh, hsense, hhead]; rfl)
  · intro s h hon hen hpend hretry hruns hoff
    rw [exec_baselineRun hon hen hpend hretry hruns]
    refine if_neg ?_
    obtain hnh | hsense | hhead := hoff
    · simp [hnh]
    · simp [hsense]
    · simp [hhead]
  · intro s x hen hheads hown hswap hidle
    rw [exec_railRun hen hheads, hown, hswap, hidle]
    rfl
  · intro s x hen hown hheads
    rw [exec_railRun hen hheads, if_pos hown]
    rfl
  · intro s x hnone
    exact if_pos (by rw [hnone]; exact Bool.or_true _)
  · intro s e d r hlo hhi hmeas helem hidle
    rw [exec_runComplete_lane (by omega) hmeas helem hidle, if_neg (by omega), if_pos hhi]
  · intro s e d r he hmeas helem hholds hidle
    rw [exec_runComplete_lane (by omega) hmeas helem hidle, if_pos he]
    exact next_when_true hholds
  · intro s e d b he hfind hover hidle
    show execRunComplete e d s = _
    unfold execRunComplete
    rw [hidle, if_neg Bool.false_ne_true, if_pos he, hfind]
    exact next_when_true hover
  · intro s e d r hlo hhi hmeas helem hneed hidle
    rw [exec_runComplete_lane hhi hmeas helem hidle, if_neg (by omega), if_neg (by omega)]
    exact next_when_true (decide_eq_true hneed)
  · intro s e d hbusy
    exact if_pos hbusy
  · intro s hmeas
    refine congrArg Host.Outcome.next ?_
    unfold State.calAbortBy
    rw [hmeas]

/-! Live tables and records -/

/-- A record without its mark or of another version is refused with code 1 (R253). -/
theorem State.importFault_mark (s : State) {w : List Word} (l : List Byte) (h : wf w 0 16 16 ≠ 0x4352 ∨ wf w 0 8 8 ≠ 1) :
    s.importFault w l = some 1 := by
  refine if_pos ?_
  obtain hmark | hversion := h
  · rw [bne_iff_ne.2 hmark, Bool.true_or]
  · rw [bne_iff_ne.2 hversion, Bool.or_true]

/-- Settles O46: a rebuild derives the live tables, and a record carries them out and in (R229, R251 to R253). -/
theorem liveTables : Obligations.LiveTables := by
  unfold Obligations.LiveTables
  refine ⟨fun s => rfl, ?_, ?_, ?_, ?_, ?_, fun s w l => s.importFault_mark l, ?_⟩
  · intro s x hdue hswap
    exact next_when_true (by rw [hdue, hswap]; rfl)
  · intro s x hidle
    exact next_when_false (by rw [hidle, Bool.false_and])
  · intro s x hidle
    exact congrArg Host.Outcome.next (if_neg (by rw [hidle]; exact Bool.false_ne_true))
  · intro s x hbusy
    exact congrArg Host.Outcome.next (if_pos hbusy)
  · intro s x
    refine congrArg Host.Outcome.next ?_
    unfold State.calImport
    rfl
  · intro s w l hmark hversion hlen hcrc hlo hhi hpart hnone hall hen
    unfold State.importFault
    dsimp only
    rw [hmark, hversion, ← hlen, hcrc, hlo, hhi, hpart, hen, beq_eq_false_iff_ne.2 hnone, beq_eq_false_iff_ne.2 hall]
    simp

end Sys2Proof.Machine
end

section
/-! PROOFS. The Weir's mailbox (10_weir.md, The mailbox). -/

namespace Sys2Proof.Machine

section Serving

variable {s : State} {c cmd : Nat} {fw rom firmware : Bool} {q : WeirReq} {f : State → List Word → State × (Nat × List Word)}

/-- A request that is served where its command runs is taken, and answered with what the command gives (R271). -/
theorem next_of_weirReady (ready : s.weirReady c cmd fw q) (runs : (if fw = true then firmware else rom) = true) :
    (Host.Outcome.next (s.weirServe c cmd rom firmware f) : Host.Outcome State Fault Refusal) =
      .next ((f (s.taken q) q.words).1.answered c q (f (s.taken q) q.words).2.1 (f (s.taken q) q.words).2.2) := by
  obtain ⟨hfind, hup, hfw, hlatch, hlive⟩ := ready
  have serves : (if (s.taken q).weir.fw = true then firmware else rom) = true := by
    rw [show (s.taken q).weir.fw = fw from hfw]
    exact runs
  have idle : ¬ (!s.weir.up || s.latchDue) = true := by
    rw [hup, hlatch]
    exact Bool.false_ne_true
  refine congrArg Host.Outcome.next ?_
  unfold State.weirServe
  rw [hfind]
  dsimp only
  rw [if_neg idle, State.when_of_true _ _ hlive]
  exact congrArg (fun r : State × (Nat × List Word) => r.1.answered c q r.2.1 r.2.2) (if_pos serves)

/-- A served command whose result is known. -/
theorem next_of_weirResult {t : State} {code : Nat} {body : List Word} (ready : s.weirReady c cmd fw q)
    (runs : (if fw = true then firmware else rom) = true) (result : f (s.taken q) q.words = (t, (code, body))) :
    (Host.Outcome.next (s.weirServe c cmd rom firmware f) : Host.Outcome State Fault Refusal) = .next (t.answered c q code body) := by
  rw [next_of_weirReady ready runs, result]

end Serving

/-- A condition that does not hold is false. -/
theorem ite_of_false {α : Type} {b : Bool} {x y : α} (h : b = false) : (if b = true then x else y) = y :=
  if_neg (by rw [h]; exact Bool.false_ne_true)

/-- A block with the mark, the version, its MAC and the identity of this device (R275). -/
theorem block_sound {a b v : Nat} {m n : List Word} {i k : List Word} (ha : a = v) (hb : b = 1) (hm : m = n) (hi : i = k) :
    (a != v || b != 1 || m != n || i != k) = false := by
  rw [ha, hb, hm, hi]
  simp

/-- Settles O47: each request is taken, and answered with what its command gives in the ROM or the firmware (R265, R271 to R281). -/
theorem weirMailbox : Obligations.WeirMailbox := by
  unfold Obligations.WeirMailbox
  refine ⟨?_, ?_, ?_, ?_, ?_, ?_, ?_, ?_, ?_, ?_, ?_, ?_, ?_, ?_, ?_, ?_, ?_⟩
  · intro s c q f ready
    show execGetId c s = _
    unfold execGetId
    have hfw : (s.taken q).weir.fw = f := ready.2.2.1
    refine next_of_weirResult ready (by cases f <;> rfl) ?_
    rw [hfw]
    rfl
  · intro s c q f ready
    show execGetStatus c s = _
    unfold execGetStatus
    exact next_of_weirReady ready (by cases f <;> rfl)
  · intro s c q f key ready hkey
    show execReadTotals c s = _
    unfold execReadTotals
    refine next_of_weirResult ready (by cases f <;> rfl) ?_
    rw [show (s.taken q).keyRec = some key from hkey]
  · intro s c q f ready hkey
    show execReadTotals c s = _
    unfold execReadTotals
    refine next_of_weirResult ready (by cases f <;> rfl) ?_
    rw [show (s.taken q).keyRec = none from hkey]
  · intro s c q e ready hfind
    show execReadEvent c s = _
    unfold execReadEvent
    refine next_of_weirResult ready rfl ?_
    rw [show (s.taken q).weir.cistern.events.find? (fun e => e.cnt == wf q.words 1 0 11) = some e from hfind]
  · intro s c q b ready hblock
    show execReadParams c s = _
    unfold execReadParams
    refine next_of_weirResult ready rfl ?_
    rw [show (s.taken q).weir.block = some b from hblock]
  · intro s c q ready hlo hhi
    show execLoadBegin c s = _
    unfold execLoadBegin
    refine next_of_weirResult ready rfl ?_
    have within : ((wordAt q.words 1).toNat == 0 || decide (61440 < (wordAt q.words 1).toNat)) = false := by
      rw [beq_eq_false_iff_ne.2 (by omega), decide_eq_false (by omega)]
      rfl
    exact ite_of_false within
  · intro s c q l ready hload hat hfits
    show execLoadChunk c s = _
    unfold execLoadChunk
    refine next_of_weirResult ready rfl ?_
    rw [show (s.taken q).weir.load = some l from hload]
    exact ite_of_false (by rw [hat, bne_self_eq_false, decide_eq_false (Nat.not_lt.2 hfits)]; rfl)
  · intro s c q l ready hload hwhole hfree hdigest
    show execLoadEnd c s = _
    unfold execLoadEnd
    have same : ((s.taken q).onWeir (fun w => { w with load := none })).fwDigest = some (sha256 (l.bytes.take l.len)) := hdigest
    refine next_of_weirResult ready rfl ?_
    rw [show (s.taken q).weir.restricted = false from hfree, show (s.taken q).weir.load = some l from hload]
    dsimp only
    rw [if_neg Bool.false_ne_true, same]
    exact ite_of_false (by rw [bne_self_eq_false, decide_eq_false (Nat.not_lt.2 hwhole)]; rfl)
  · intro s c q ready hrestricted
    show execLoadEnd c s = _
    unfold execLoadEnd
    refine next_of_weirResult ready rfl ?_
    exact if_pos hrestricted
  · intro s c q ready hopen
    show execChallenge c s = _
    unfold execChallenge
    refine next_of_weirResult ready rfl ?_
    exact ite_of_false hopen
  · intro s c q ready hlocked
    show execChallenge c s = _
    unfold execChallenge
    refine next_of_weirResult ready rfl ?_
    exact if_pos hlocked
  · intro s c q key ready hkey hmark hversion hmac hident hlog
    show execParamLoad c s = _
    unfold execParamLoad
    refine next_of_weirResult ready rfl ?_
    rw [show (s.taken q).keyRec = some key from hkey]
    refine (ite_of_false (block_sound hmark hversion hmac hident)).trans (ite_of_false ?_)
    exact bne_eq_false_iff_eq.2 hlog
  · intro s c q burn ready hauth hrange hlogged
    show execSetParams c burn s = _
    unfold execSetParams
    refine next_of_weirResult ready rfl ?_
    dsimp only
    rw [hauth, hrange, hlogged]
    rfl
  · intro s c q burn ready hauth hst hlogged
    show execSealWeir c false burn s = _
    unfold execSealWeir
    have sealable : (((s.taken q).authCheck q.words).1.weir.st == 1 || ((s.taken q).authCheck q.words).1.weir.st == 3) = true := by
      rw [Bool.or_eq_true, beq_iff_eq, beq_iff_eq]
      exact hst
    refine next_of_weirResult ready rfl ?_
    dsimp only
    rw [hauth, sealable, hlogged]
    rfl
  · intro s c q burn slot ready hauth hslot hlogged hburnt
    show execAddFw c burn slot s = _
    unfold execAddFw
    refine next_of_weirResult ready rfl ?_
    dsimp only
    rw [hauth, if_neg (by decide), if_neg (Nat.not_le.2 hslot), hlogged, hburnt]
    rfl
  · intro s c q burn ready hauth
    show execSetParams c burn s = _
    unfold execSetParams
    refine next_of_weirResult ready rfl ?_
    exact if_pos (bne_iff_ne.2 hauth)

end Sys2Proof.Machine
end

section
/-! PROOFS. The Weir's counts, latches and supply (10_weir.md). -/

namespace Sys2Proof.Machine

/-- WSTAT is only shown: the Weir itself stays. -/
theorem syncWeir_weir (s : State) : s.syncWeir.weir = s.weir := by
  unfold State.syncWeir
  exact State.wr_weir s _ _

/-- What a breach leaves of the Weir. -/
theorem setBreach_weir (s : State) :
    s.setBreach.weir = { s.weir with cistern := { s.weir.cistern with breach := true } } := by
  show ((s.onCistern _).when s.weir.vdd State.syncWeir).weir = _
  cases s.weir.vdd with
  | false => rfl
  | true => exact syncWeir_weir _

/-- What a breach that a condition asks for leaves of the Weir. -/
theorem whenBreach_weir (s : State) (c : Bool) :
    (s.when c State.setBreach).weir = { s.weir with cistern := { s.weir.cistern with breach := s.weir.cistern.breach || c } } := by
  cases c with
  | false => rw [State.when_of_false _ _ rfl, Bool.or_false]
  | true => rw [State.when_of_true _ _ rfl, setBreach_weir, Bool.or_true]

/-- TAMPER_LINK is a fuse, which no latch reaches. -/
theorem tamperLink_whenBreach (s : State) (c : Bool) : (s.when c State.setBreach).syncWeir.tamperLink = s.tamperLink := by
  unfold State.tamperLink State.weirBit
  rw [syncWeir_weir, whenBreach_weir]

/-- The state in which the ROM has started, before a standing tamper latch acts (R269). -/
def State.weirStart (s : State) (kept : Bool) : State :=
  let c : Cistern := if kept then s.weir.cistern else { contLost := true, contFlag := true }
  let live := [(0, s.fuseWord 0), (1, s.fuseWord 1)] ++ (List.range 55).map (fun i =>
    let w := 102 + i
    (w, if 110 ≤ w && w < 134 then s.fuseWord w else mapGet (fun _ => 0#32) s.otp.sealed w))
  let regress := kept && s.logCnt < c.logCnt
  { s with weir := {
      vdd := true, up := true, restricted := s.otp.weirBad, regress := regress
      st := if regress || s.otp.weirBad then 4 else 0
      fuses := live.filter (fun e => e.2 != 0#32)
      cistern := { c with logCnt := if regress then c.logCnt else s.logCnt, seenOsc := c.seenOsc || s.weir.noXtal }
      upFrom := s.ticks, wx := s.weir.wx, noXtal := s.weir.noXtal, oscFallback := s.weir.noXtal } }

/-- The start of a Weir that is not up. -/
theorem exec_weirPor {s : State} (kept : Bool) (hup : s.weir.up = false) :
    exec (.weirPor kept) s = .next (((s.weirStart kept).when ((s.weirStart kept).tamperLink && (s.weirStart kept).flag PMU.TAMPER.LATCH)
      (·.setBreach)).syncWeir) :=
  if_neg (by rw [hup]; exact Bool.false_ne_true)

/-- A cistern that was lost starts cleared, with its continuity latch and flag set. -/
theorem weirStart_lost (s : State) (breach : Bool) :
    { (s.weirStart false).weir.cistern with breach := (s.weirStart false).weir.cistern.breach || breach } =
      ({ contLost := true, contFlag := true, logCnt := s.logCnt, breach := breach, seenOsc := s.weir.noXtal } : Cistern) := by
  unfold State.weirStart
  simp only [Bool.false_and, Bool.false_eq_true, if_false, Bool.false_or]

/-- The start of the ROM reads the registers as they stand. -/
theorem weirStart_flag (s : State) (kept : Bool) (f : Fld) : (s.weirStart kept).flag f = s.flag f := rfl

/-- Only the values of a change at the cistern that stands count. -/
theorem onCistern_congr {s : State} {f g : Cistern → Cistern} (h : f s.weir.cistern = g s.weir.cistern) :
    s.onCistern f = s.onCistern g := by
  show ({ s with weir := { s.weir with cistern := f s.weir.cistern } } : State) = _
  rw [h]
  rfl

/-- A value computed by a map over the first numbers. -/
theorem getD_map_range {n i : Nat} (f : Nat → Nat) (h : i < n) : ((List.range n).map f).getD i 0 = f i := by
  rw [List.getD_eq_getElem?_getD, List.getElem?_map, List.getElem?_range h]
  rfl

section TapWord

variable {s : State} {flip a b : Nat} {x : Word × Word} {r : List (Word × Word)}

/-- A tap word reaches a Weir that is up. -/
theorem exec_tapWord_arrives (hvdd : s.weir.vdd = true) (hup : s.weir.up = true) (htap : s.tap = x :: r)
    (ha : a = x.1.toNat ^^^ flip % 2 ^ 32) (hb : b = x.2.toNat ^^^ (flip / 2 ^ 32 % 2 ^ 32)) :
    exec (.tapWordReceived flip) s = .next (({ s with tap := r } : State).takeTap a b) := by
  show execTapWordReceived flip s = _
  unfold execTapWordReceived
  rw [htap]
  dsimp only
  rw [if_neg (by rw [hvdd]; exact Bool.false_ne_true), if_neg (by rw [hup]; exact Bool.false_ne_true), ← ha, ← hb]

/-- A tap word of odd parity, or of no head, is an error (R262). -/
theorem takeTap_bad (bad : parity64 (a + 2 ^ 32 * b) = 1 ∨ s.headOn (fieldOf (w32 a) 28 4) = false) :
    s.takeTap a b = s.onCistern (fun c => { c with tapErr := c.tapErr + 1, seenTapErr := true }) := by
  unfold State.takeTap
  refine if_pos ?_
  rw [Bool.or_eq_true]
  exact bad.imp beq_iff_eq.2 fun off => by rw [off]; rfl

/-- A sound tap word of a certified Weir adds its counts to its head (R262, R264). -/
theorem takeTap_certified (even : parity64 (a + 2 ^ 32 * b) = 0) (on : s.headOn (fieldOf (w32 a) 28 4) = true)
    (valid : s.weirValid = true) :
    s.takeTap a b = ((s.onCistern (fun c => { c with tapWords := c.tapWords + 1 })).onWeir (fun w => { w with lastTap := some s.ticks })).onCistern
      (fun c => { c with drops := (List.range 48).map (fun i => c.drops.getD i 0 + (if i / 3 == fieldOf (w32 a) 28 4 then
        [fieldOf (w32 a) 0 13, fieldOf (w32 a) 13 13, fieldOf (w32 b) 0 13].getD (i % 3) 0 else 0)) }) := by
  unfold State.takeTap
  dsimp only
  rw [if_neg (by rw [even, on]; exact Bool.false_ne_true), if_pos valid]

end TapWord

/-! Steps of WX (R260, R261) -/

/-- What a step of WX does to the state whose levels it has set. -/
def State.wxMoved (s : State) (d : Nat) : State :=
  if d == 2 then s.onCistern (fun c => { c with wxSkip := c.wxSkip + 1, seenSkip := true })
  else if d == 0 then s
  else if (d == 1) == (fieldOf (s.param 4) 31 1 == 0) then s.wxForward else s.wxBack

section WxStep

variable {s : State} {l d : Nat}

/-- A step of valid inputs moves, and a rise of Z that goes forward is an index. -/
theorem exec_wxStep_valid (hvdd : s.weir.vdd = true) (hup : s.weir.up = true) (hlost : s.weir.wxLost = 0)
    (hd : (s.wxPhase l + 4 - s.wxPhase s.weir.wx) % 4 = d) :
    exec (.wxStep l) s = .next (let m := (s.onWeir (fun w => { w with wx := l % 8 })).wxMoved d
      (m.when (bit l 2 && !bit s.weir.wx 2 && m.weir.wxFwd) (·.wxIndex)).syncWeir) := by
  show execWxStep l s = _
  unfold execWxStep
  rw [if_neg (by rw [hvdd, hup]; exact Bool.false_ne_true)]
  dsimp only
  rw [if_neg (by rw [show (s.onWeir (fun w => { w with wx := l % 8 })).weir.wxLost = 0 from hlost]; exact Bool.false_ne_true),
    show ((s.onWeir (fun w => { w with wx := l % 8 })).wxPhase l + 4 - (s.onWeir (fun w => { w with wx := l % 8 })).wxPhase s.weir.wx) % 4 = d
      from hd]
  rfl

/-- After a forward step the direction is forward. -/
theorem wxForward_fwd (s : State) : s.wxForward.weir.wxFwd = true := by
  unfold State.wxForward
  dsimp only
  split
  · rfl
  · split <;> rfl

/-- After a reverse step the direction is back. -/
theorem wxBack_fwd (s : State) : s.wxBack.weir.wxFwd = false := rfl

/-- A step of one quarter in the direction that DIR counts up is a forward step. -/
theorem wxMoved_forward (hd : d = if fieldOf (s.param 4) 31 1 = 0 then 1 else 3) : s.wxMoved d = s.wxForward := by
  unfold State.wxMoved
  by_cases dir : fieldOf (s.param 4) 31 1 = 0
  · rw [hd, if_pos dir, dir]
    rfl
  · rw [hd, if_neg dir, beq_eq_false_iff_ne.2 dir]
    rfl

/-- A step of one quarter in the other direction is a reverse step. -/
theorem wxMoved_back (hd : d = if fieldOf (s.param 4) 31 1 = 0 then 3 else 1) : s.wxMoved d = s.wxBack := by
  unfold State.wxMoved
  by_cases dir : fieldOf (s.param 4) 31 1 = 0
  · rw [hd, if_pos dir, dir]
    rfl
  · rw [hd, if_neg dir, beq_eq_false_iff_ne.2 dir]
    rfl

/-- A certified forward step past the furthest position adds its length (R261). -/
theorem wxForward_certified (valid : s.weirValid = true) (past : s.weir.whw ≤ s.weir.wxPos) :
    s.wxForward.weir.cistern.lenTotal = s.weir.cistern.lenTotal + (s.param 5).toNat ∧ s.wxForward.weir.whw = s.weir.wxPos + 1 := by
  have further : ¬ s.weir.wxPos + 1 ≤ s.weir.whw := by omega
  have forward : s.wxForward = _ := (if_neg further).trans (if_pos valid)
  rw [forward]
  exact ⟨rfl, rfl⟩

end WxStep

/-- Volumes grow by what each of the three drop sizes adds (R263). -/
theorem volUpdate_vol (s : State) {h : Nat} (hh : h < 16) :
    s.volUpdate.weir.cistern.vol.getD h 0 = s.weir.cistern.vol.getD h 0 +
      ((s.weir.cistern.drops.getD (3 * h) 0 - s.weir.cistern.done.getD (3 * h) 0) * s.dvol (3 * h)
        + (s.weir.cistern.drops.getD (3 * h + 1) 0 - s.weir.cistern.done.getD (3 * h + 1) 0) * s.dvol (3 * h + 1)
        + (s.weir.cistern.drops.getD (3 * h + 2) 0 - s.weir.cistern.done.getD (3 * h + 2) 0) * s.dvol (3 * h + 2)) := by
  show (addLists 16 s.weir.cistern.vol _).getD h 0 = _
  unfold addLists
  rw [getD_map_range _ hh, getD_map_range _ hh]

/-- Settles O48: the Weir's start and loss of supply, its taps, steps, volumes and latches (R257 to R264, R268, R269, R273, R277,
R278). -/
theorem weirCounts : Obligations.WeirCounts := by
  unfold Obligations.WeirCounts
  refine ⟨?_, ?_, ?_, ?_, ?_, ?_, ?_, ?_, ?_, ?_, ?_, ?_, ?_, ?_, ?_, ?_, ?_, ?_, ?_, ?_, ?_, ?_, ?_, ?_, ?_, ?_, ?_⟩
  · intro s kept hup
    refine ⟨_, exec_weirPor kept hup, ?_⟩
    rw [tamperLink_whenBreach, syncWeir_weir, whenBreach_weir, weirStart_flag]
    generalize ((s.weirStart kept).tamperLink && s.flag PMU.TAMPER.LATCH) = breach
    cases kept
    · exact ⟨rfl, rfl, rfl, (weirStart_lost s breach).trans (by
        simp only [Bool.false_and, Bool.false_eq_true, if_false, Bool.false_or]), rfl, by
        unfold State.weirStart
        simp only [Bool.false_and, Bool.false_or]⟩
    · exact ⟨rfl, rfl, rfl, rfl, rfl, rfl⟩
  · intro s kept hup
    exact if_pos hup
  · exact fun s => rfl
  · intro s hvdd
    exact next_when_true (by rw [hvdd]; rfl)
  · intro s hvdd
    exact next_when_false (by rw [hvdd]; rfl)
  · intro s hlocked
    exact congrArg Host.Outcome.next (onCistern_congr (if_pos hlocked))
  · intro s mask hdead
    refine next_when_false ?_
    rcases hdead with h | h | h <;> rw [h] <;> simp
  · intro s flip hvdd
    show execTapWordReceived flip s = _
    unfold execTapWordReceived
    cases htap : s.tap with
    | nil => exact congrArg Host.Outcome.next (by rw [List.drop_nil, ← htap])
    | cons x rest => exact if_pos (by rw [hvdd]; rfl)
  · intro s flip x r a b hvdd hup htap ha hb bad
    rw [exec_tapWord_arrives hvdd hup htap ha hb, takeTap_bad (s := { s with tap := r }) bad]
  · intro s flip x r a b hvdd hup htap ha hb even on valid
    refine ⟨_, exec_tapWord_arrives hvdd hup htap ha hb, ?_⟩
    rw [takeTap_certified (s := { s with tap := r }) even on valid]
    refine ⟨fun i hi => ?_, rfl, rfl, rfl, rfl⟩
    simp only [← beq_iff_eq (a := i / 3)]
    exact getD_map_range (fun i => s.weir.cistern.drops.getD i 0 + (if i / 3 == fieldOf (w32 a) 28 4 then
      [fieldOf (w32 a) 0 13, fieldOf (w32 a) 13 13, fieldOf (w32 b) 0 13].getD (i % 3) 0 else 0)) hi
  · intro s hvdd hup hfw hblock
    show execVolUpdate s = _
    refine (next_when_true (by rw [hvdd, hup]; rfl)).trans (congrArg Host.Outcome.next ?_)
    rw [State.when_of_true _ _ hblock]
    exact State.when_of_true _ _ hfw
  · exact fun s => rfl
  · intro s h hh
    exact volUpdate_vol s hh
  · exact fun s => rfl
  · intro s mask hvdd hup hmask
    exact next_when_true (by rw [hvdd, hup, bne_iff_ne.2 hmask]; rfl)
  · intro s hvdd hup
    exact next_when_true (by rw [hvdd, hup]; rfl)
  · intro s l hvdd hup hlost
    show execWxStep l s = _
    unfold execWxStep
    rw [if_neg (by rw [hvdd, hup]; exact Bool.false_ne_true)]
    exact if_pos (bne_iff_ne.2 hlost)
  · intro s l hvdd hup hlost hd
    rw [exec_wxStep_valid hvdd hup hlost hd]
    dsimp only
    rw [wxMoved_forward (by rfl), wxForward_fwd, Bool.and_true]
  · intro s l hvdd hup hlost hd
    rw [exec_wxStep_valid hvdd hup hlost hd]
    dsimp only
    rw [wxMoved_back (by rfl), wxBack_fwd, Bool.and_false, State.when_of_false _ _ rfl]
  · intro s l hvdd hup hlost hd
    rw [exec_wxStep_valid hvdd hup hlost hd]
    rfl
  · intro s l hvdd hup hlost hd
    rw [exec_wxStep_valid hvdd hup hlost hd]
    rfl
  · intro s valid past
    exact wxForward_certified valid past
  · intro s burn hdue
    exact if_pos (by rw [hdue]; rfl)
  · intro s burn hdue hcont
    show execLatchHandling burn s = _
    unfold execLatchHandling
    rw [if_neg (by rw [hdue]; exact Bool.false_ne_true)]
    exact if_pos hcont
  · intro s burn hdue hcont hgap
    show execLatchHandling burn s = _
    unfold execLatchHandling
    rw [if_neg (by rw [hdue]; exact Bool.false_ne_true)]
    exact (ite_of_false hcont).trans (if_pos hgap)
  · intro s burn hdue hcont hgap hst
    show execLatchHandling burn s = _
    unfold execLatchHandling
    rw [if_neg (by rw [hdue]; exact Bool.false_ne_true)]
    exact (ite_of_false hcont).trans ((ite_of_false hgap).trans (if_pos (beq_iff_eq.2 hst)))
  · intro s burn hdue hcont hgap hst
    show execLatchHandling burn s = _
    unfold execLatchHandling
    rw [if_neg (by rw [hdue]; exact Bool.false_ne_true)]
    exact (ite_of_false hcont).trans ((ite_of_false hgap).trans (if_neg (by rw [beq_iff_eq]; exact hst)))

end Sys2Proof.Machine
end

section
/-! PROOFS. What arrives over the fabric (11_fabric.md, Links, Packets, Routing, Stop, Requests). -/

namespace Sys2Proof.Machine

/-! Arrival -/

section Arrival

variable {s : State} {p b : Nat} {k : Packet} {good : Bool}

/-- A packet comes over a port whose link is UP. -/
theorem receive_up (hp : p ≠ 4) (up : s.portUp p = true) :
    s.receive p good k = (let a := s.bump (wordFld (FAB.RX_WORDS p)) k.size
      if !good then ((a.bump (wordFld (FAB.CRC_ERR_CNT p))).sendNak p, none)
      else if k.vc == 3 then (if badHeader k then (a.malformed p k, none) else (a, some 0))
      else if k.lseq != (a.port p).rxSeq then (a.sendNak p, none)
      else
        let b := a.takeSeq p
        if !(b.port p).roomFor k.cls then (b.malformed p k, none)
        else if badHeader k then ((b.malformed p k).countFreed p k.cls, none)
        else (b.takeBuf p k, some b.fab.nextBuf)) := by
  unfold State.receive
  rw [if_neg (by rw [beq_iff_eq]; exact hp), if_neg (by rw [up]; exact Bool.false_ne_true)]

/-- A good packet in sequence, for whose class a receive buffer is free. -/
theorem receive_inSequence (hp : p ≠ 4) (up : s.portUp p = true) (hvc : k.vc ≠ 3) (hseq : k.lseq = (s.port p).rxSeq)
    (room : (((s.bump (wordFld (FAB.RX_WORDS p)) k.size).takeSeq p).port p).roomFor k.cls = true) :
    s.receive p true k = (let b := (s.bump (wordFld (FAB.RX_WORDS p)) k.size).takeSeq p
      if badHeader k then ((b.malformed p k).countFreed p k.cls, none) else (b.takeBuf p k, some b.fab.nextBuf)) := by
  rw [receive_up hp up]
  dsimp only
  rw [if_neg (by decide), if_neg (by rw [beq_iff_eq]; exact hvc),
    if_neg (by rw [bne_iff_ne, port_bump]; exact fun ne => ne hseq), if_neg (by rw [room]; exact Bool.false_ne_true)]

/-- A packet that is sent on the link channel of a port leaves its sequence numbers. -/
theorem rxSeq_sendLink (s : State) (p : Nat) (j : Packet) : ((s.sendLink p j).port p).rxSeq = (s.port p).rxSeq := by
  unfold State.sendLink
  split
  · rw [port_bump, port_onPort]
  · rfl

/-- Each packet taken in sequence moves the number expected next on by one (R289). -/
theorem rxSeq_takeSeq (s : State) (p : Nat) : ((s.takeSeq p).port p).rxSeq = ((s.port p).rxSeq + 1) % 256 := by
  unfold State.takeSeq State.when
  dsimp only
  split
  · unfold State.sendAck
    rw [rxSeq_sendLink, port_onPort, port_onPort]
  · rw [port_onPort]

end Arrival

/-! What is done with what arrives -/

section Taken

variable {s : State} {p b vc typ : Nat} {k : Packet} {good : Bool} {f : State → State}

/-- A routed packet of its type acts at its target and is forwarded elsewhere (R300). -/
theorem routed_of_taken (hb : (s.receive p good k).2 = some b) (htype : k.isType vc typ = true) :
    s.routed p good k vc typ f = (if p == 4 || k.dst == (s.receive p good k).1.nodeId then (f (s.receive p good k).1).settleBuf b
      else (s.receive p good k).1.forward p b k) := by
  unfold State.routed
  dsimp only
  rw [hb]
  exact if_neg (by rw [htype]; exact Bool.false_ne_true)

/-- A routed packet at its target. -/
theorem routed_of_target (hb : (s.receive p good k).2 = some b) (htype : k.isType vc typ = true)
    (target : p = 4 ∨ k.dst = (s.receive p good k).1.nodeId) :
    s.routed p good k vc typ f = (f (s.receive p good k).1).settleBuf b := by
  rw [routed_of_taken hb htype]
  refine if_pos ?_
  rw [Bool.or_eq_true, beq_iff_eq, beq_iff_eq]
  exact target

/-- A routed packet for another node. -/
theorem routed_of_other (hb : (s.receive p good k).2 = some b) (htype : k.isType vc typ = true) (hp : p ≠ 4)
    (other : k.dst ≠ (s.receive p good k).1.nodeId) : s.routed p good k vc typ f = (s.receive p good k).1.forward p b k := by
  rw [routed_of_taken hb htype]
  refine if_neg ?_
  rw [Bool.or_eq_true, beq_iff_eq, beq_iff_eq]
  exact fun h => h.elim hp other

/-- What is not taken changes only what its arrival changes. -/
theorem routed_of_none (hb : (s.receive p good k).2 = none) : s.routed p good k vc typ f = (s.receive p good k).1 := by
  unfold State.routed
  dsimp only
  rw [hb]

/-- A new flooded packet of its type acts and is passed on (R301). -/
theorem flooded_of_new (hb : (s.receive p good k).2 = some b) (htype : k.isType vc typ = true)
    (new : (s.receive p good k).1.isNew k = true) :
    s.flooded p good k vc typ f = (f ((s.receive p good k).1.noteFlood k)).forwardFlood p b k := by
  unfold State.flooded
  dsimp only
  rw [hb]
  exact if_pos (by rw [htype, new]; rfl)

/-- A repeated flooded packet acts on nothing and is not passed on. -/
theorem flooded_of_old (hb : (s.receive p good k).2 = some b) (old : (s.receive p good k).1.isNew k = false) :
    s.flooded p good k vc typ f = (s.receive p good k).1.settleBuf b := by
  unfold State.flooded
  dsimp only
  rw [hb]
  exact if_neg (by rw [old, Bool.and_false]; exact Bool.false_ne_true)

end Taken

section SourceRouted

variable {s : State} {p b typ : Nat} {k : Packet} {good : Bool} {f : Packet → State → State}

/-- The packet with the port it came over shifted into RET (R295). -/
def withRet (k : Packet) (p : Nat) : Packet := { k with payload := modAt k.payload 0 (fun w => w32 (w.toNat * 4 + p)) }

/-- A source-routed packet that comes over a port, at its target or on its way. -/
theorem sourceRouted_port (hp : p < 4) (hsr : k.sr = true) (hb : (s.receive p good k).2 = some b)
    (htype : k.isType 0 typ = true) :
    s.sourceRouted p good k typ f = (if k.hop == 0 then (f (withRet k p) (s.receive p good k).1).settleBuf b
      else (s.receive p good k).1.sendSr (withRet k p) b) := by
  have loop : ¬ (p == 4) = true := by
    rw [beq_iff_eq]
    omega
  unfold State.sourceRouted withRet
  dsimp only
  rw [hb]
  dsimp only
  rw [if_neg (by rw [htype, hsr, Bool.or_true]; exact Bool.false_ne_true), if_neg loop, Nat.mod_eq_of_lt hp]

/-- At its target a source-routed packet that came over a port acts. -/
theorem sourceRouted_target (hp : p < 4) (hsr : k.sr = true) (hhop : k.hop = 0) (hb : (s.receive p good k).2 = some b)
    (htype : k.isType 0 typ = true) :
    s.sourceRouted p good k typ f = (f (withRet k p) (s.receive p good k).1).settleBuf b := by
  rw [sourceRouted_port hp hsr hb htype]
  exact if_pos (beq_iff_eq.2 hhop)

/-- With hops to go it is sent on. -/
theorem sourceRouted_passes (hp : p < 4) (hsr : k.sr = true) (hhop : k.hop ≠ 0) (hb : (s.receive p good k).2 = some b)
    (htype : k.isType 0 typ = true) :
    s.sourceRouted p good k typ f = (s.receive p good k).1.sendSr (withRet k p) b := by
  rw [sourceRouted_port hp hsr hb htype]
  exact if_neg (by rw [beq_iff_eq]; exact hhop)

/-- A source-routed packet of the node's own loop acts here. -/
theorem sourceRouted_loop (hp : p = 4) (hhop : k.hop = 0) (hb : (s.receive p good k).2 = some b)
    (htype : k.isType 0 typ = true) :
    s.sourceRouted p good k typ f = (f k (s.receive p good k).1).settleBuf b := by
  have loop : (p == 4) = true := beq_iff_eq.2 hp
  unfold State.sourceRouted
  dsimp only
  rw [hb]
  dsimp only
  rw [if_neg (by rw [htype, loop]; exact Bool.false_ne_true), if_pos loop]
  exact if_pos (beq_iff_eq.2 hhop)

end SourceRouted

/-- Settles O49: what arrives is checked in the order of `receive`, and acted on or passed on (R287, R289, R290, R300). -/
theorem fabricArrival : Obligations.FabricArrival := by
  unfold Obligations.FabricArrival
  refine ⟨?_, ?_, ?_, ?_, ?_, ?_, rxSeq_takeSeq, ?_, ?_, ?_, fun k crc => rfl⟩
  · intro s p good k hp down
    exact (if_neg (by rw [beq_iff_eq]; exact hp)).trans (if_pos (by rw [down]; rfl))
  · intro s p k hp up
    rw [receive_up hp up]
    rfl
  · intro s p k hp up hvc sound
    rw [receive_up hp up]
    dsimp only
    rw [if_neg (by decide), if_pos (beq_iff_eq.2 hvc)]
    exact ite_of_false sound
  · intro s p k hp up hvc hseq
    rw [receive_up hp up]
    dsimp only
    rw [if_neg (by decide), if_neg (by rw [beq_iff_eq]; exact hvc)]
    exact if_pos (bne_iff_ne.2 hseq)
  · intro s p k hp up hvc hseq room sound
    rw [receive_inSequence hp up hvc hseq room]
    exact ite_of_false sound
  · intro s p k hp up hvc hseq room bad
    rw [receive_inSequence hp up hvc hseq room]
    exact if_pos bad
  · intro s p crc k v b hb htype hp hdst hself
    refine (next_when_true ?_).trans (congrArg Host.Outcome.next (routed_of_other hb htype hp hdst))
    rw [beq_eq_false_iff_ne.2 hself, Bool.and_false]
    rfl
  · intro s p b vc typ good k f hb htype
    exact routed_of_taken hb htype
  · intro s p vc typ good k f hb
    exact routed_of_none hb

/-- Settles O51: STOP, CLEAR and POS are flooded, and act where they are new (R317 to R320). -/
theorem fabricStops : Obligations.FabricStops := by
  unfold Obligations.FabricStops
  refine ⟨?_, fun s k => rfl, ?_, ?_, ?_, ?_, ?_, ?_, fun s => rfl, ?_, ?_, ?_⟩
  · intro s p crc k b hb htype new
    exact congrArg Host.Outcome.next (flooded_of_new hb htype new)
  · intro s p crc k b hb htype new
    exact congrArg Host.Outcome.next (flooded_of_new hb htype new)
  · intro s p crc k b hb old
    exact congrArg Host.Outcome.next (flooded_of_old hb old)
  · intro s t hlead
    exact if_neg (Int.not_lt.2 hlead)
  · intro s t hlead
    exact if_pos hlead
  · intro s low hexec
    exact next_when_true hexec
  · intro s low hexec
    exact next_when_false (by rw [hexec]; rfl)
  · intro s p crc k b hrx htype hsrc hb new hrx'
    show execPosPacket p crc k s = _
    unfold execPosPacket
    rw [if_neg (by rw [bne_eq_false_iff_eq.2 hsrc, Bool.and_false]; exact Bool.false_ne_true), flooded_of_new hb htype new,
      State.when_of_true _ _ hrx']
  · intro s p crc k b hrx htype hsrc hb
    show execPosPacket p crc k s = _
    unfold execPosPacket
    rw [if_pos (by rw [hrx, htype, bne_iff_ne.2 hsrc]; rfl)]
    dsimp only
    rw [hb]
  · intro s q t v hnew haxis
    have taken : s.tideSample q t v = _ :=
      (if_neg (by rw [beq_iff_eq]; exact hnew)).trans (State.when_of_true _ _ (beq_iff_eq.2 haxis))
    rw [taken]
    rfl

end Sys2Proof.Machine
end

section
/-! PROOFS. Requests over the fabric and their answers (11_fabric.md, R294 to R310). -/

namespace Sys2Proof.Machine

/-- Settles O52: requests act at their targets and are answered, and answers complete what waits for them (R294 to R296, R307 to
R310). -/
theorem fabricRequests : Obligations.FabricRequests := by
  unfold Obligations.FabricRequests
  refine ⟨fun s p crc k => rfl, fun s p crc k v => rfl, fun s p crc k v => rfl, fun s p crc k => rfl, fun s p crc k => rfl,
    fun s p crc k => rfl, ?_, ?_, ?_, ?_, ?_, ?_, ?_, ?_, ?_, ?_, ?_, ?_, ?_, ?_, ?_, ?_, ?_, ?_, ?_, ?_, ?_, ?_, ?_, ?_, ?_, ?_, ?_,
    ?_, ?_, ?_, ?_, ?_, ?_, ?_, ?_, ?_, ?_⟩
  · intro s p crc k b hb htype target
    exact congrArg Host.Outcome.next (routed_of_target hb htype target)
  · intro s p crc k v b hb htype target
    exact congrArg Host.Outcome.next (routed_of_target hb htype target)
  · intro s k f hnew hopen hboot
    unfold State.takeCtrl
    rw [hnew]
    exact if_neg (by rw [hopen, hboot]; exact Bool.false_ne_true)
  · intro s k f e hfind
    unfold State.takeCtrl
    rw [hfind]
  · intro s k f hnew hdenied
    unfold State.takeCtrl
    rw [hnew]
    exact if_pos (by rw [hdenied]; rfl)
  · intro s p crc k v hfree
    refine next_when_true ?_
    rcases hfree with h | h | h
    · rw [h]
      rfl
    · rw [beq_eq_false_iff_ne.2 h, Bool.and_false]
      rfl
    · rw [h, Bool.and_false]
      rfl
  · intro s p crc k v htype hdst hholds
    exact next_when_false (by rw [htype, hdst, hholds, beq_self_eq_true]; rfl)
  · intro s p crc k v b hb htype target
    exact congrArg Host.Outcome.next (routed_of_target hb htype target)
  · intro s p crc k b hb htype target
    exact congrArg Host.Outcome.next (routed_of_target hb htype target)
  · intro s p crc k b hb htype target
    exact congrArg Host.Outcome.next (routed_of_target hb htype target)
  · intro s p crc k b hb htype target
    exact congrArg Host.Outcome.next (routed_of_target hb htype target)
  · intro s k write hnone
    unfold State.takeRsp
    rw [hnone]
    rfl
  · intro s k write t hsome hkind
    unfold State.takeRsp
    rw [hsome]
    exact if_pos (beq_iff_eq.2 hkind)
  · intro s tag t hsome
    show execBulkTimeout tag s = _
    unfold execBulkTimeout
    rw [hsome]
  · intro s tag t hsome
    show execCtrlTimeout tag s = _
    unfold execCtrlTimeout
    rw [hsome]
  · intro s tag hnone hgo htag
    show execCtrlTimeout tag s = _
    unfold execCtrlTimeout
    rw [hnone]
    exact next_when_true (by rw [hgo, htag]; rfl)
  · intro s tag t hsome htag
    show execCtrlTimeout tag s = _
    unfold execCtrlTimeout
    rw [hsome]
    exact next_when_true (beq_iff_eq.2 htag)
  · intro s hgo hkind
    exact next_when_true (by rw [State.creqFree, hgo, hkind]; rfl)
  · intro s hgo hkind
    exact next_when_true (by rw [State.creqFree, hgo, hkind]; rfl)
  · intro s hgo hkind
    exact next_when_true (by rw [State.creqFree, hgo, hkind]; rfl)
  · intro s hgo hkind
    exact next_when_true (by rw [State.creqFree, hgo, hkind]; rfl)
  · intro s p crc k b hp hhop hb htype
    exact congrArg Host.Outcome.next (sourceRouted_loop hp hhop hb htype)
  · intro s p crc k b hp hhop hb htype
    exact congrArg Host.Outcome.next (sourceRouted_loop hp hhop hb htype)
  · intro s p crc k b hp hhop hb htype
    exact congrArg Host.Outcome.next (sourceRouted_loop hp hhop hb htype)
  · intro s k hlo hhi
    exact if_pos (by rw [hlo, hhi, beq_self_eq_true, beq_self_eq_true]; rfl)
  · intro s k hother
    refine if_neg ?_
    rw [Bool.and_eq_true, beq_iff_eq, beq_iff_eq]
    exact fun same => hother.elim (· same.1) (· same.2)
  · intro s k typ rest hhops
    exact if_neg (by rw [beq_iff_eq]; exact hhops)
  · intro s k b up
    exact if_pos up
  · intro s p crc k b hp hhop hb htype
    exact congrArg Host.Outcome.next (sourceRouted_loop hp hhop hb htype)
  · intro s p crc k b hp hsr hhop hb htype
    exact congrArg Host.Outcome.next (sourceRouted_target hp hsr hhop hb htype)
  · intro s p crc k b hp hsr hhop hb htype
    exact congrArg Host.Outcome.next (sourceRouted_passes hp hsr hhop hb htype)
  · intro s p crc k b hp hsr hhop hb htype
    exact congrArg Host.Outcome.next (sourceRouted_target hp hsr hhop hb htype)
  · intro s p crc k b hp hsr hhop hb htype
    exact congrArg Host.Outcome.next (sourceRouted_passes hp hsr hhop hb htype)
  · intro s p crc k b hp hsr hhop hb htype
    exact congrArg Host.Outcome.next (sourceRouted_target hp hsr hhop hb htype)
  · intro s p crc k b hp hsr hhop hb htype
    exact congrArg Host.Outcome.next (sourceRouted_passes hp hsr hhop hb htype)
  · intro s p crc k b hp hsr hhop hb htype
    exact congrArg Host.Outcome.next (sourceRouted_target hp hsr hhop hb htype)
  · intro s p crc k b hp hsr hhop hb htype
    exact congrArg Host.Outcome.next (sourceRouted_passes hp hsr hhop hb htype)

end Sys2Proof.Machine
end

section
/-! PROOFS. The links of the fabric, its time and its enable (11_fabric.md, Links, Failover, Fabric time). -/

namespace Sys2Proof.Machine

section LinkPackets

variable {r : State × Option Nat} {b : Bool} {f : State → State}

/-- A link packet of its type acts where it arrives. -/
theorem next_of_linkPacket (taken : r.2.isSome = true) (htype : b = true) :
    (Host.Outcome.next (r.1.when (r.2.isSome && b) f) : Host.Outcome State Fault Refusal) = .next (f r.1) :=
  next_when_true (by rw [taken, htype]; rfl)

end LinkPackets

/-! The enable of the fabric (R294, R324) -/

/-- The state in which time and lock of a fabric start anew. -/
def State.fabStart (s : State) : State :=
  (s.wr FAB.TIME_STAT 0#32).onFab (fun b => { b with lockRun := 0, unlockRun := 0, slew := none, wasOn := true })

/-- The root is node 0 and LOCKED. -/
def State.asRoot (s : State) : State := (s.wr FAB.NODE (w32 (2 ^ 31))).raise FAB.TIME_STAT.LOCKED

section Enable

variable {s : State}

/-- A fabric that is off takes its enable, unless its parent port is not enabled. -/
theorem fabEnable_of_off (hen : s.flag FAB.CTL.EN = false) (hheld : s.held = false)
    (parent : s.root = true ∨ 4 ≤ s.get FAB.TIME_CFG.PARENT ∨ s.flag (FAB.PORT_CTL.EN (s.get FAB.TIME_CFG.PARENT)) = true) :
    s.fabEnable = (let b := s.fabStart.when s.root (·.asRoot)
      if (List.range 4).any (fun p => b.flag (FAB.PORT_CTL.EN p)) then b.enableBlock FAB.CTL.EN 4 9 else b.raise FAB.CTL.EN) := by
  have sound : (!s.root && decide (s.get FAB.TIME_CFG.PARENT < 4) && !s.flag (FAB.PORT_CTL.EN (s.get FAB.TIME_CFG.PARENT))) = false := by
    rcases parent with h | h | h
    · rw [h]
      rfl
    · rw [decide_eq_false (Nat.not_lt.2 h), Bool.and_false, Bool.false_and]
    · rw [h, Bool.not_true, Bool.and_false]
  unfold State.fabEnable
  rw [if_neg (by rw [hen, hheld]; exact Bool.false_ne_true)]
  dsimp only
  rw [if_neg (by rw [sound]; exact Bool.false_ne_true)]
  rfl

/-- The start of a fabric leaves the enables of its ports. -/
theorem fabStart_port (s : State) (p : Nat) : s.fabStart.flag (FAB.PORT_CTL.EN p) = s.flag (FAB.PORT_CTL.EN p) := by
  unfold State.fabStart State.flag
  rw [State.onFab_get, State.get_wr_other _ _ _ (show (0x400A0024 : Nat) ≠ 0x400A0100 + 0x40 * p by omega)]

/-- So does what makes a node the root. -/
theorem asRoot_port (s : State) (p : Nat) : s.asRoot.flag (FAB.PORT_CTL.EN p) = s.flag (FAB.PORT_CTL.EN p) := by
  unfold State.asRoot
  rw [State.flag_raise_other _ _ _ (fieldsApart_of_addr (by decide) (show (0x400A0024 : Nat) ≠ 0x400A0100 + 0x40 * p by omega)),
    State.flag_wr_other _ _ _ (show (0x400A0010 : Nat) ≠ 0x400A0100 + 0x40 * p by omega)]

/-- The enable of a root whose fabric is off. -/
theorem fabEnable_root (hen : s.flag FAB.CTL.EN = false) (hheld : s.held = false) (root : s.root = true) :
    s.fabEnable = (if (List.range 4).any (fun p => s.flag (FAB.PORT_CTL.EN p)) then s.fabStart.asRoot.enableBlock FAB.CTL.EN 4 9
      else s.fabStart.asRoot.raise FAB.CTL.EN) := by
  rw [fabEnable_of_off hen hheld (.inl root), State.when_of_true _ _ root]
  simp only [asRoot_port, fabStart_port]

/-- The enable of another node whose fabric is off. -/
theorem fabEnable_other (hen : s.flag FAB.CTL.EN = false) (hheld : s.held = false) (root : s.root = false)
    (parent : 4 ≤ s.get FAB.TIME_CFG.PARENT ∨ s.flag (FAB.PORT_CTL.EN (s.get FAB.TIME_CFG.PARENT)) = true) :
    s.fabEnable = (if (List.range 4).any (fun p => s.flag (FAB.PORT_CTL.EN p)) then s.fabStart.enableBlock FAB.CTL.EN 4 9
      else s.fabStart.raise FAB.CTL.EN) := by
  rw [fabEnable_of_off hen hheld (.inr parent), State.when_of_false _ _ root]
  simp only [fabStart_port]

end Enable

/-- Settles O50: training, loss, replay, credits, delay, time and the enable of the fabric (R284 to R291, R303 to R305, R311 to
R315, R324). -/
theorem fabricLinks : Obligations.FabricLinks := by
  unfold Obligations.FabricLinks
  refine ⟨?_, ?_, ?_, ?_, ?_, ?_, ?_, ?_, ?_, ?_, ?_, ?_, ?_, fun s => rfl, ?_, ?_, ?_, ?_, ?_, ?_, ?_, ?_, ?_, ?_, ?_, ?_, ?_, ?_, ?_, ?_⟩
  · intro s p lo hi rate16 width2 swap inv trains inTraining hrate hwidth
    have width : (width2 || s.flag (FAB.PORT_CTL.ALLOW_X1 p)) = true := by
      rw [Bool.or_eq_true]
      exact hwidth
    exact if_neg (by rw [trains, inTraining, beq_iff_eq.2 hrate, width]; exact Bool.false_ne_true)
  · intro s p lo hi rate16 width2 swap inv hbad
    refine if_pos ?_
    rcases hbad with h | ⟨h1, h2⟩
    · rw [beq_eq_false_iff_ne.2 h, Bool.and_false]
      rfl
    · rw [h1, h2, Bool.or_false, Bool.and_false]
      rfl
  · intro s p trains
    refine (next_when_true trains).trans ?_
    simp only [beq_iff_eq]
  · intro s p why up
    exact congrArg Host.Outcome.next (if_neg (by rw [up]; exact Bool.false_ne_true))
  · intro s p why down
    exact congrArg Host.Outcome.next (if_pos (by rw [down]; rfl))
  · intro s p up hreplay hfew
    refine (next_when_true up).trans (congrArg Host.Outcome.next ?_)
    unfold State.replayAll
    rw [if_neg (by rw [List.isEmpty_iff]; exact hreplay), if_neg (Nat.not_le.2 hfew)]
  · intro s p up hreplay hmany
    refine (next_when_true up).trans (congrArg Host.Outcome.next ?_)
    unfold State.replayAll
    rw [if_neg (by rw [List.isEmpty_iff]; exact hreplay), if_pos hmany]
  · exact fun s p crc k taken htype => next_of_linkPacket taken htype
  · exact fun s p crc k taken htype => next_of_linkPacket taken htype
  · exact fun s p crc k taken htype => next_of_linkPacket taken htype
  · exact fun s p crc k taken htype => next_of_linkPacket taken htype
  · exact fun s p crc k taken htype => next_of_linkPacket taken htype
  · intro s p crc k t1 taken htype ht1
    show execDlyRsp p crc k s = _
    unfold execDlyRsp
    dsimp only
    rw [if_neg (by rw [taken, htype]; exact Bool.false_ne_true), ht1]
  · intro s p up hunacked
    exact next_when_true (by rw [up, bne_iff_ne.2 hunacked]; rfl)
  · intro s p up
    exact next_when_true up
  · intro s d hd hon up
    exact next_when_true (by rw [decide_eq_true hd, hon, up]; rfl)
  · intro s hon up
    exact next_when_true (by rw [hon, up]; rfl)
  · intro s p crc k b hb htype
    show execTimePacket p crc k s = _
    unfold execTimePacket
    dsimp only
    rw [hb]
    dsimp only
    rw [State.when_of_true _ _ htype]
  · intro s p o hfar
    exact if_pos hfar
  · intro s p o hnear
    exact if_neg (Nat.not_lt.2 hnear)
  · intro s hon hlocked
    exact next_when_true (by rw [hon, hlocked]; rfl)
  · intro s hlocked
    exact next_when_false (by rw [hlocked, Bool.and_false])
  · intro s hold
    exact next_when_true hold
  · intro s hen hroot hparent hport hheld
    refine congrArg Host.Outcome.next ?_
    unfold State.fabEnable
    rw [if_neg (by rw [hen, hheld]; exact Bool.false_ne_true)]
    exact if_pos (by rw [hroot, decide_eq_true hparent, hport]; rfl)
  · intro s hstays
    refine congrArg Host.Outcome.next (if_pos ?_)
    rw [Bool.or_eq_true]
    exact hstays
  · intro s hen hroot hheld hports
    refine congrArg Host.Outcome.next ((fabEnable_root hen hheld hroot).trans ?_)
    rw [hports]
    rfl
  · intro s hen hroot hheld hports
    refine congrArg Host.Outcome.next ((fabEnable_root hen hheld hroot).trans ?_)
    rw [hports]
    rfl
  · intro s hen hroot hheld hparent hports
    refine congrArg Host.Outcome.next ((fabEnable_other hen hheld hroot hparent).trans ?_)
    rw [hports]
    rfl
  · intro s hen hroot hheld hparent hports
    refine congrArg Host.Outcome.next ((fabEnable_other hen hheld hroot hparent).trans ?_)
    rw [hports]
    rfl

end Sys2Proof.Machine
end

section
/-! PROOFS. The host interface (12_host_interface.md). -/

namespace Sys2Proof.Machine

/-! Doorbells (R327) -/

section Doorbells

variable {s : State} {idx prod cons size v : Nat} {drain : State → State}

/-- A producer count that moves forwards within the ring is taken. -/
theorem producerBell_taken (fwd : forwards (s.rd prod).toNat v = true) (fits : filled v (s.rd cons).toNat ≤ size) :
    s.producerBell idx prod cons size v = s.wr prod (w32 v) :=
  if_pos (by rw [fwd, decide_eq_true fits]; rfl)

/-- One that moves backwards is an error. -/
theorem producerBell_backwards (back : forwards (s.rd prod).toNat v = false) :
    s.producerBell idx prod cons size v = s.ringError idx v :=
  if_neg (by rw [back]; exact Bool.false_ne_true)

/-- So is one that overfills the ring. -/
theorem producerBell_overfull (tooFull : size < filled v (s.rd cons).toNat) :
    s.producerBell idx prod cons size v = s.ringError idx v :=
  if_neg (by rw [decide_eq_false (Nat.not_le.2 tooFull), Bool.and_false]; exact Bool.false_ne_true)

/-- A consumer count that moves forwards within the ring is taken, and what waits is written. -/
theorem consumerBell_taken (fwd : forwards (s.rd cons).toNat v = true) (fits : filled (s.rd prod).toNat v ≤ size) :
    s.consumerBell idx prod cons size v drain = drain (s.wr cons (w32 v)) :=
  if_pos (by rw [fwd, decide_eq_true fits]; rfl)

/-- One that moves backwards is an error. -/
theorem consumerBell_backwards (back : forwards (s.rd cons).toNat v = false) :
    s.consumerBell idx prod cons size v drain = s.ringError idx v :=
  if_neg (by rw [back]; exact Bool.false_ne_true)

/-- So is one that leaves more entries filled than the ring has. -/
theorem consumerBell_overfull (tooFull : size < filled (s.rd prod).toNat v) :
    s.consumerBell idx prod cons size v drain = s.ringError idx v :=
  if_neg (by rw [decide_eq_false (Nat.not_le.2 tooFull), Bool.and_false]; exact Bool.false_ne_true)

end Doorbells

/-- The doorbell of an enabled stream context acts. -/
theorem exec_streamDoorbell {s : State} {r : Nat} (v : Nat) (hon : s.hostOn = true) (hr : r < 248)
    (hen : s.flag (HOSTIF.SCTX_CFG.EN r) = true) :
    exec (.streamDoorbell r v) s = .next (s.producerBell (r + 8) (HOSTIF.SCTX_PROD r) (HOSTIF.SCTX_CONS r)
      (ringSize (s.get (HOSTIF.SCTX_CFG.SIZE_LOG2 r))) (v % 2 ^ 32)) :=
  next_when_true (by rw [hon, decide_eq_true hr, hen]; rfl)

/-! The parser (R331 to R333) -/

section Parser

variable {s : State} {w : List Word}

/-- A sound descriptor waits, is queued here, or is passed on. -/
theorem parse_sound (sound : s.parseCode w = 0) :
    s.parse w = (if 16 ≤ s.get (occFld (wf w 0 0 6)) then (s.onHost (fun h => { h with parser := some w })).raise HOSTIF.STATUS.HR_WAIT
      else if wf w 0 0 6 == 0 then (((s.newJobId w).consumeHead).openUp w).placeJob w
      else if s.culvertBusy (wf w 0 0 6) then (s.onHost (fun h => { h with parser := some w })).drop HOSTIF.STATUS.HR_WAIT
      else ((((s.newJobId w).consumeHead).openUp w).forwardJob w).unreachRun) := by
  unfold State.parse
  rw [sound]
  rfl

/-- A descriptor without its magic number, or of another version, has check code 1. -/
theorem parseCode_mark (bad : wf w 0 16 16 ≠ 0x4A44 ∨ wf w 0 8 8 ≠ 1) : s.parseCode w = 1 := by
  refine if_pos ?_
  rw [Bool.or_eq_true, bne_iff_ne, bne_iff_ne]
  exact bad

/-- A descriptor for a node without a route has check code 3. -/
theorem parseCode_route (hmark : wf w 0 16 16 = 0x4A44) (hversion : wf w 0 8 8 = 1) (h0 : wf w 0 6 2 = 0) (h1 : wf w 1 16 13 = 0)
    (hpad : [6, 7, 8, 9].any (fun i => wf w i 24 8 != 0) = false)
    (hresv : [11, 14, 15].any (fun i => wordAt w i != 0#32) = false)
    (hnode : wf w 0 0 6 ≠ 0) (hroute : s.flag (FAB.ROUTE.VALID (wf w 0 0 6)) = false) : s.parseCode w = 3 := by
  unfold State.parseCode
  dsimp only
  rw [hmark, hversion, h0, h1, hpad, hresv, bne_iff_ne.2 hnode, hroute]
  rfl

end Parser

/-! The enable and the contexts -/

/-- Every count of a ring that starts anew is 0. -/
def State.ringsAtZero (s : State) : State :=
  (((s.each [HOSTIF.HR_PROD, HOSTIF.HR_CONS, HOSTIF.CPL_PROD, HOSTIF.CPL_CONS, HOSTIF.TR_PROD, HOSTIF.TR_CONS] (fun r t => t.wr r 0#32)).each
    (List.range 248) (fun r t => (t.wr (HOSTIF.SCTX_PROD r) 0#32).wr (HOSTIF.SCTX_CONS r) 0#32)).raise HOSTIF.CTL.EN).onHost
      (fun h => { h with lost := false, parserOld := h.parser.isSome, ctx := h.ctx.map (fun e => (e.1, e.2.restart)) })

/-- What refuses the enable of the host interface, if anything does (R346). -/
def State.hostFault (s : State) : Option Nat :=
  if !s.root then some 1
  else ringFault [(s.rd64 HOSTIF.HR_BASE_LO HOSTIF.HR_BASE_HI, s.get HOSTIF.HR_SIZE.SIZE_LOG2),
    (s.rd64 HOSTIF.CPL_BASE_LO HOSTIF.CPL_BASE_HI, s.get HOSTIF.CPL_SIZE.SIZE_LOG2),
    (s.rd64 HOSTIF.TR_BASE_LO HOSTIF.TR_BASE_HI, s.get HOSTIF.TR_SIZE.SIZE_LOG2)] (s.rd64 HOSTIF.HR_SHADOW_LO HOSTIF.HR_SHADOW_HI)

section HostEnable

variable {s : State} {c : Nat}

/-- An enable that a check refuses. -/
theorem hostEnable_refused (hen : s.flag HOSTIF.CTL.EN = false) (bad : s.hostFault = some c) :
    s.hostEnable = (s.raise HOSTIF.STATUS.CFG_ERR).report Src.HOST_CFG 255 c := by
  unfold State.hostFault at bad
  unfold State.hostEnable
  rw [if_neg (by rw [hen]; exact Bool.false_ne_true)]
  dsimp only
  rw [bad]

/-- An enable with sound rings. -/
theorem hostEnable_taken (hen : s.flag HOSTIF.CTL.EN = false) (sound : s.hostFault = none) :
    s.hostEnable = (s.ringsAtZero.drainCpl s.ringsAtZero.host.cplBuf.length).drainEvt s.ringsAtZero.host.evtBuf.length := by
  unfold State.hostFault at sound
  unfold State.hostEnable
  rw [if_neg (by rw [hen]; exact Bool.false_ne_true)]
  dsimp only
  rw [sound]
  rfl

end HostEnable

section Contexts

variable {s : State} {r : Nat}

/-- A context with nothing in hand and an entry in its ring looks at the read of it. -/
theorem exec_streamEntry_fetch (x pay : Access) (runs : s.entryRuns r = true) (fetching : s.fetching = true)
    (idle : (s.sctx r).entry = []) (waits : s.rd (HOSTIF.SCTX_PROD r) ≠ s.rd (HOSTIF.SCTX_CONS r)) :
    exec (.streamEntry r x pay) s = (if x.status != 0 then .next (s.haltStream r)
      else .next (((s.hostBoundary.takeEntry r ((List.range 16).map (wordAt x.words))).runEntry r pay).unreachRun)) := by
  show execStreamEntry r x pay s = _
  unfold execStreamEntry
  rw [if_neg (by rw [runs]; exact Bool.false_ne_true), if_neg (by rw [idle]; exact Bool.false_ne_true),
    if_neg (by rw [fetching, beq_eq_false_iff_ne.2 waits]; exact Bool.false_ne_true)]

end Contexts

section Culvert

variable {s : State} {off : Nat}

/-- An access through a valid aperture of the root. -/
theorem exec_culvert_valid (write : Bool) (n : Nat) (data : List Nat) (x : Access) (root : s.root = true) (hi : off / 2 ^ 26 < 16)
    (valid : s.flag (HOSTIF.CULV_MAP.VALID (off / 2 ^ 26)) = true) :
    exec (.culvertAccess off write n data x) s = .next (let i := off / 2 ^ 26
      let node := s.get (HOSTIF.CULV_MAP.NODE i)
      let a := s.get (HOSTIF.CULV_MAP.BASE i) * 2 ^ 26 + off % 2 ^ 26
      let l : List Byte := data.map (BitVec.ofNat 8)
      if node == s.nodeId then (if write then s.culvWriteHere i a l x else s.culvReadHere i a n x)
      else if write then (s.culvWriteFar i node a l).unreachRun
      else (s.culvReadFar i node a n).unreachRun) := by
  show execCulvertAccess off write n data x s = _
  unfold execCulvertAccess
  dsimp only
  rw [if_neg (by rw [root, decide_eq_false (Nat.not_le.2 hi)]; exact Bool.false_ne_true),
    if_neg (by rw [valid]; exact Bool.false_ne_true)]

end Culvert

/-- A link of a width and a speed that the port has. -/
theorem linkOk_of_range {width speed : Nat} (hw : width = 1 ∨ width = 2 ∨ width = 4) (hs : 1 ≤ speed ∧ speed ≤ 4) :
    linkOk width speed = true := by
  unfold linkOk
  rw [decide_eq_true hs.1, decide_eq_true hs.2]
  rcases hw with h | h | h <;> rw [h] <;> rfl

/-- Settles O53: doorbells, the parser, rings, contexts, records and the culvert (R325 to R347). -/
theorem hostRings : Obligations.HostRings := by
  unfold Obligations.HostRings
  refine ⟨?_, ?_, ?_, ?_, ?_, ?_, ?_, ?_, ?_, ?_, ?_, ?_, ?_, ?_, ?_, ?_, ?_, ?_, ?_, ?_, ?_, ?_, ?_, fun s lo hi log prod ws => rfl,
    ?_, ?_, ?_, ?_, fun s => rfl, ?_, ?_, ?_, ?_, ?_, ?_, ?_, ?_, ?_, ?_, ?_, ?_, ?_, ?_, ?_, ?_, ?_, ?_, ?_, ?_, ?_, ?_, ?_, ?_⟩
  · exact fun s v hon fwd fits => (next_when_true hon).trans (congrArg Host.Outcome.next (producerBell_taken fwd fits))
  · exact fun s v hon back => (next_when_true hon).trans (congrArg Host.Outcome.next (producerBell_backwards back))
  · exact fun s v hon fwd tooFull => (next_when_true hon).trans (congrArg Host.Outcome.next (producerBell_overfull tooFull))
  · exact fun s r v hon hr hen fwd fits =>
      (exec_streamDoorbell v hon hr hen).trans (congrArg Host.Outcome.next (producerBell_taken fwd fits))
  · exact fun s r v hon hr hen back =>
      (exec_streamDoorbell v hon hr hen).trans (congrArg Host.Outcome.next (producerBell_backwards back))
  · exact fun s r v hon hr hen fwd tooFull =>
      (exec_streamDoorbell v hon hr hen).trans (congrArg Host.Outcome.next (producerBell_overfull tooFull))
  · exact fun s v hon fwd fits => (next_when_true hon).trans (congrArg Host.Outcome.next (consumerBell_taken fwd fits))
  · exact fun s v hon back => (next_when_true hon).trans (congrArg Host.Outcome.next (consumerBell_backwards back))
  · exact fun s v hon fwd tooFull => (next_when_true hon).trans (congrArg Host.Outcome.next (consumerBell_overfull tooFull))
  · exact fun s v hon fwd fits => (next_when_true hon).trans (congrArg Host.Outcome.next (consumerBell_taken fwd fits))
  · exact fun s v hon back => (next_when_true hon).trans (congrArg Host.Outcome.next (consumerBell_backwards back))
  · exact fun s v hon fwd tooFull => (next_when_true hon).trans (congrArg Host.Outcome.next (consumerBell_overfull tooFull))
  · intro s x hnone fetching waits hok
    show execJobDescriptor x s = _
    unfold execJobDescriptor
    rw [hnone]
    exact if_pos (by rw [fetching, bne_iff_ne.2 waits, hok]; rfl)
  · intro s x w hsome
    show execJobDescriptor x s = _
    unfold execJobDescriptor
    rw [hsome]
  · intro s x hnone idle
    show execJobDescriptor x s = _
    unfold execJobDescriptor
    rw [hnone]
    exact if_neg (by rw [idle]; exact Bool.false_ne_true)
  · intro s w sound room here
    rw [parse_sound sound, if_neg (Nat.not_le.2 room), if_pos (beq_iff_eq.2 here)]
  · intro s w sound room far free
    rw [parse_sound sound, if_neg (Nat.not_le.2 room), if_neg (by rw [beq_iff_eq]; exact far), ite_of_false free]
  · intro s w sound full
    rw [parse_sound sound, if_pos full]
  · intro s w sound room far busy
    rw [parse_sound sound, if_neg (Nat.not_le.2 room), if_neg (by rw [beq_iff_eq]; exact far), if_pos busy]
  · exact fun s w bad => parseCode_mark bad
  · exact fun s w hmark hversion h0 h1 hpad hresv hnode hroute => parseCode_route hmark hversion h0 h1 hpad hresv hnode hroute
  · exact fun s hnew => ite_of_false hnew
  · exact fun s hold => if_pos hold
  · exact fun s ws hlen => congrArg Host.Outcome.next (if_pos (by rw [hlen]; rfl))
  · exact fun s ws hlen => congrArg Host.Outcome.next (if_neg (by rw [beq_eq_false_iff_ne.2 hlen]; exact Bool.false_ne_true))
  · exact fun s ws hroom hlen =>
      (next_when_true (by rw [hroom]; rfl)).trans (congrArg Host.Outcome.next (if_pos (beq_iff_eq.2 hlen)))
  · exact fun s ws hfull => next_when_false (by rw [hfull]; rfl)
  · exact fun s ws hlen => congrArg Host.Outcome.next (if_pos (beq_iff_eq.2 hlen))
  · exact fun s ws hroom hlen =>
      (next_when_true (by rw [hroom]; rfl)).trans (congrArg Host.Outcome.next (ite_of_false (beq_eq_false_iff_ne.2 hlen)))
  · exact fun s ws hlen => congrArg Host.Outcome.next (ite_of_false (beq_eq_false_iff_ne.2 hlen))
  · exact fun s huncovered => next_when_true (bne_iff_ne.2 huncovered)
  · exact fun s huncovered => next_when_true (bne_iff_ne.2 huncovered)
  · exact fun s root => next_when_true root
  · exact fun s root up => next_when_true (by rw [root, up]; rfl)
  · exact fun s width speed root hw hs => next_when_true (by rw [root, linkOk_of_range hw hs]; rfl)
  · exact fun s width speed none => next_when_false (by rw [none, Bool.and_false])
  · intro s hen root
    refine congrArg Host.Outcome.next (hostEnable_refused hen ?_)
    exact if_pos (by rw [root]; rfl)
  · intro s c hen root bad
    refine congrArg Host.Outcome.next (hostEnable_refused hen (Eq.trans ?_ bad))
    exact if_neg (by rw [root]; exact Bool.false_ne_true)
  · intro s hen root sound
    refine ⟨s.ringsAtZero, rfl, congrArg Host.Outcome.next (hostEnable_taken hen (Eq.trans ?_ sound))⟩
    exact if_neg (by rw [root]; exact Bool.false_ne_true)
  · intro s r x pay runs fetching idle waits hok
    rw [exec_streamEntry_fetch x pay runs fetching idle waits, hok]
    rfl
  · intro s r x pay runs busy
    show execStreamEntry r x pay s = _
    unfold execStreamEntry
    rw [if_neg (by rw [runs]; exact Bool.false_ne_true), if_pos (not_isEmpty busy)]
  · intro s r x pay runs fetching idle waits hbad
    rw [exec_streamEntry_fetch x pay runs fetching idle waits, if_pos (bne_iff_ne.2 hbad)]
  · intro s r x pay rests
    exact if_pos (by rw [rests]; rfl)
  · intro s r q bad n hentry hhalted hphase hbegun hmoved hfull
    refine (if_neg ?_).trans ((if_neg (Nat.not_le.2 hmoved)).trans (if_pos hfull))
    rw [hhalted, hphase, hbegun, List.isEmpty_eq_false_iff.2 hentry]
    exact Bool.false_ne_true
  · intro s r runs waits far
    exact if_pos (by rw [runs, waits, bne_iff_ne.2 far]; rfl)
  · intro s off write n data x root hi invalid hread
    show execCulvertAccess off write n data x s = _
    unfold execCulvertAccess
    dsimp only
    rw [if_neg (by rw [root, decide_eq_false (Nat.not_le.2 hi)]; exact Bool.false_ne_true), if_pos (by rw [invalid]; rfl), hread]
    rfl
  · intro s off n data x root hi valid here
    rw [exec_culvert_valid false n data x root hi valid]
    dsimp only
    rw [if_pos (beq_iff_eq.2 here), if_neg Bool.false_ne_true]
  · intro s off n data x root hi valid here
    rw [exec_culvert_valid true n data x root hi valid]
    dsimp only
    rw [if_pos (beq_iff_eq.2 here), if_pos rfl]
  · intro s off n data x root hi valid far
    rw [exec_culvert_valid false n data x root hi valid]
    exact congrArg Host.Outcome.next (if_neg (by rw [beq_iff_eq]; exact far))
  · intro s off n data x root hi valid far
    rw [exec_culvert_valid true n data x root hi valid]
    exact congrArg Host.Outcome.next (if_neg (by rw [beq_iff_eq]; exact far))
  · intro s off n data x hi invalid
    show execCulvertAccess off true n data x s = _
    unfold execCulvertAccess
    dsimp only
    cases root : s.root
    · rfl
    · rw [if_neg (by rw [decide_eq_false (Nat.not_le.2 hi)]; exact Bool.false_ne_true), if_pos (by rw [invalid]; rfl)]
      rfl

end Sys2Proof.Machine
end

section
/-! PROOFS. The DMA channels (13_dma_memory.md, R348 to R358). -/

namespace Sys2Proof.Machine

section Go

variable {s : State} {n : Nat} {x : Access}

/-- The channel with its cause cleared, as a GO that is obeyed finds it. -/
def State.causeCleared (s : State) (n : Nat) : State :=
  (((s.put (DMA.CH_STAT.CAUSE n) 0).put (DMA.CH_STAT.XSTAT n) 0).put (DMA.CH_STAT.CODE n) 0).drop (DMA.CH_STAT.ERR_DIR n)

/-- The states of a channel that takes a GO. -/
def canGo (st : Nat) : Bool := st == dmaIdle || st == dmaStopped || st == dmaHalted

theorem canGo_of {st : Nat} (h : st = dmaIdle ∨ st = dmaStopped ∨ st = dmaHalted) : canGo st = true := by
  rcases h with rfl | rfl | rfl <;> rfl

theorem not_canGo_of {st : Nat} (h : st = dmaRunning ∨ st = dmaStopping ∨ st = dmaQuiesced) : canGo st = false := by
  rcases h with rfl | rfl | rfl <;> rfl

/-- A GO is ignored and flagged unless the engine is on and the channel rests. -/
theorem exec_chGo_ignored (x : Access) (hn : n < 16)
    (rests : s.blockOn DMA.CTL.EN 5 = false ∨ canGo (s.get (DMA.CH_STAT.STATE n)) = false) :
    exec (.chGo n x) s = .next (s.raise DMA.STATUS.WRITE_IGNORED) := by
  refine (next_when_true (decide_eq_true hn)).trans (congrArg Host.Outcome.next (if_pos ?_))
  show (!s.blockOn DMA.CTL.EN 5 || !canGo (s.get (DMA.CH_STAT.STATE n))) = true
  rcases rests with h | h
  · rw [h]
    rfl
  · rw [h, Bool.not_false, Bool.or_true]

/-- A GO that is obeyed clears the cause and looks at the list head. -/
theorem exec_chGo_obeyed (x : Access) (hn : n < 16) (on : s.blockOn DMA.CTL.EN 5 = true)
    (idle : canGo (s.get (DMA.CH_STAT.STATE n)) = true) :
    exec (.chGo n x) s = .next (let a := s.rd64 (DMA.CH_DESC_LO n) (DMA.CH_DESC_HI n)
      if s.badSpace a then (s.causeCleared n).descErr n ⟨a, [], 0⟩ 3
      else if a % 32 != 0 then (s.causeCleared n).descErr n ⟨a, [], 0⟩ 4
      else ((s.causeCleared n).readDesc a x).1.startDesc n ((s.causeCleared n).readDesc a x).2) := by
  refine (next_when_true (decide_eq_true hn)).trans (congrArg Host.Outcome.next (if_neg ?_))
  show ¬ (!s.blockOn DMA.CTL.EN 5 || !canGo (s.get (DMA.CH_STAT.STATE n))) = true
  rw [on, idle]
  exact Bool.false_ne_true

end Go

section Start

variable {s : State} {n : Nat} {d : DmaDesc}

/-- A descriptor that passes every check, in no domain that goes down, becomes the active set. -/
theorem startDesc_sound (sound : s.dmaCode d = 0) (stays : s.namesDomain s.dma.down d = false) :
    s.startDesc n d = (((((s.loadB (DMA.CH_CTL n) (DMA.CH_CTL n + 4)).showSet n d).setCh n dmaRunning).onDmaCh n
      (fun c => { active := some d, slot := c.slot })).settleDma) := by
  unfold State.startDesc
  rw [sound]
  exact ite_of_false stays

/-- One that fails a check halts the channel with its code. -/
theorem startDesc_bad (bad : s.dmaCode d ≠ 0) : s.startDesc n d = s.descErr n d (s.dmaCode d) := by
  unfold State.startDesc
  split
  next sound => exact absurd sound bad
  next => rfl

/-- Code 1: the OP is none of the four. -/
theorem dmaCode_op (read : d.status = 0) (hop : d.op = 0 ∨ 5 ≤ d.op) : s.dmaCode d = 1 := by
  unfold State.dmaCode
  rw [if_neg (by rw [read]; exact Bool.false_ne_true)]
  refine if_pos ?_
  rw [Bool.or_eq_true, beq_iff_eq, decide_eq_true_eq]
  exact hop

/-- Code 2: nothing to move. -/
theorem dmaCode_len (read : d.status = 0) (h1 : 1 ≤ d.op) (h4 : d.op ≤ 4) (hlen : d.len = 0) : s.dmaCode d = 2 := by
  unfold State.dmaCode
  have known : (d.op == 0 || decide (5 ≤ d.op)) = false := by
    rw [beq_eq_false_iff_ne.2 (by omega), decide_eq_false (by omega)]
    rfl
  rw [if_neg (by rw [read]; exact Bool.false_ne_true), ite_of_false known]
  exact if_pos (beq_iff_eq.2 hlen)

end Start

section Tasks

variable {s : State} {n : Nat}

/-- A channel that has no COPY to move stays. -/
theorem exec_dmaCopy_none (x : Access) (env : BusEnv) (nx : Access) (sent : Nat) (none : s.dmaTask n 1 = none) :
    exec (.dmaCopy n x env nx sent) s = .next s := by
  show execDmaCopy n x env nx sent s = _
  unfold execDmaCopy
  rw [none]

/-- A COPY writes the bytes it has read; one whose read fails, those that were written before. -/
theorem exec_dmaCopy_some {d : DmaDesc} (x : Access) (env : BusEnv) (nx : Access) (sent : Nat) (task : s.dmaTask n 1 = some d) :
    exec (.dmaCopy n x env nx sent) s = .next (let r := (s.fetchShadow n d nx).dmaRead d.src d.src d.len x
      r.s.putData n d (if r.fail.isSome then r.data.take sent else r.data) r.fail env) := by
  show execDmaCopy n x env nx sent s = _
  unfold execDmaCopy
  rw [task]

/-- What moves no data leaves the descriptor's end. -/
theorem exec_descriptorComplete_rests (env : BusEnv)
    (rests : (s.dmaCh n).phase ≠ 2 ∨ (s.dmaCh n).active = none ∨ 16 ≤ n ∨ s.domainRuns 9 = false) :
    exec (.descriptorComplete n env) s = .next s := by
  show execDescriptorComplete n env s = _
  unfold execDescriptorComplete
  split
  next d hactive =>
    refine next_when_false ?_
    rcases rests with h | h | h | h
    · rw [beq_eq_false_iff_ne.2 h, Bool.and_false]
    · rw [h] at hactive
      cases hactive
    · rw [decide_eq_false (Nat.not_lt.2 h)]
      rfl
    · rw [h, Bool.and_false, Bool.false_and]
  next => rfl

/-- STOP has no effect on a channel that neither runs nor is quiesced. -/
theorem dmaStop_rests (h1 : s.get (DMA.CH_STAT.STATE n) ≠ 1) (h5 : s.get (DMA.CH_STAT.STATE n) ≠ 5) : s.dmaStop n = s := by
  unfold State.dmaStop
  split
  next h => exact absurd h h1
  next h => exact absurd h h5
  next => rfl

/-- STOP on a quiesced channel acts at once. -/
theorem dmaStop_quiesced (h5 : s.get (DMA.CH_STAT.STATE n) = 5) :
    s.dmaStop n = (match (s.dmaCh n).shadow with
      | some d => s.wr64 (DMA.CH_DESC_LO n) (DMA.CH_DESC_HI n) d.addr
      | none => s).leaveDma n dmaStopped := by
  unfold State.dmaStop
  rw [h5]
  rfl

/-- A boundary between two descriptors. -/
theorem dmaBoundary_next {d e : DmaDesc} (more : d.endBit = false) (goes : (s.dmaCh n).stop = false)
    (shadow : (s.dmaCh n).shadow = some e) :
    s.dmaBoundary n d = (if s.affected n then ((s.setCh n dmaQuiesced).onDmaCh n (fun _ => { shadow := some e })).settleDma
      else (s.yieldSlot n).startDesc n e) := by
  unfold State.dmaBoundary
  dsimp only
  rw [ite_of_false more, ite_of_false goes, shadow]

end Tasks

/-- Settles O54: GO, the descriptor checks, the four operations, word 5, boundaries, STOP and quiesce (R348 to R358). -/
theorem dmaRuns : Obligations.DmaRuns := by
  unfold Obligations.DmaRuns
  refine ⟨?_, ?_, ?_, ?_, ?_, ?_, ?_, ?_, ?_, ?_, ?_, ?_, ?_, ?_, ?_, ?_, fun d m => rfl, ?_, ?_, ?_, ?_, ?_, fun s n => rfl, ?_, ?_, ?_,
    ?_, ?_, ?_, ?_, ?_, fun s mask => rfl, ?_, ?_⟩
  · exact fun s n x hn off => exec_chGo_ignored x hn (.inl off)
  · exact fun s n x hn busy => exec_chGo_ignored x hn (.inr (not_canGo_of busy))
  · intro s n x hn on idle odd hspace
    rw [exec_chGo_obeyed x hn on (canGo_of idle)]
    dsimp only
    rw [ite_of_false hspace, if_pos (bne_iff_ne.2 odd)]
    rfl
  · intro s n x hn on idle hspace
    rw [exec_chGo_obeyed x hn on (canGo_of idle)]
    dsimp only
    rw [if_pos hspace]
    rfl
  · exact fun s n x hn => next_when_false (decide_eq_false (Nat.not_lt.2 hn))
  · intro s n x hn on idle even hspace
    rw [exec_chGo_obeyed x hn on (canGo_of idle)]
    dsimp only
    rw [ite_of_false hspace, ite_of_false (bne_eq_false_iff_eq.2 even)]
    rfl
  · exact fun s n d sound stays => startDesc_sound sound stays
  · exact fun s n d bad => startDesc_bad bad
  · exact fun s d read hop => dmaCode_op read hop
  · exact fun s d read h1 h4 hlen => dmaCode_len read h1 h4 hlen
  · intro s n x env nx sent d task whole
    rw [exec_dmaCopy_some x env nx sent task]
    dsimp only
    rw [whole]
    rfl
  · intro s n x env nx sent d task failed
    rw [exec_dmaCopy_some x env nx sent task]
    dsimp only
    rw [if_pos (Option.isSome_iff_ne_none.2 failed)]
  · intro s n env nx none
    show execDmaFill n env nx s = _
    unfold execDmaFill
    rw [none]
  · intro s n x y nx none
    show execDmaCmp n x y nx s = _
    unfold execDmaCmp
    rw [none]
  · intro s n y nx none
    show execDmaCmpPat n y nx s = _
    unfold execDmaCmpPat
    rw [none]
  · intro s n env nx d task
    show execDmaFill n env nx s = _
    unfold execDmaFill
    rw [task]
  · intro s n x y nx d task
    show execDmaCmp n x y nx s = _
    unfold execDmaCmp
    rw [task]
  · intro s n y nx d task
    show execDmaCmpPat n y nx s = _
    unfold execDmaCmpPat
    rw [task]
  · exact fun s n x env nx sent none => exec_dmaCopy_none x env nx sent none
  · intro s n env d hn hactive hphase runs
    show execDescriptorComplete n env s = _
    unfold execDescriptorComplete
    rw [hactive]
    exact next_when_true (by rw [decide_eq_true hn, runs, hphase]; rfl)
  · exact fun s n env rests => exec_descriptorComplete_rests env rests
  · intro s n d hfail mismatch
    unfold State.dmaWord5Done
    dsimp only
    rw [hfail]
    dsimp only
    rw [if_neg (by decide), if_pos mismatch]
  · exact fun s n d last => if_pos last
  · intro s n d e more goes shadow free
    rw [dmaBoundary_next more goes shadow, ite_of_false free]
  · intro s n d e more goes shadow affected
    rw [dmaBoundary_next more goes shadow, if_pos affected]
  · intro s n hn h1
    refine (next_when_true (decide_eq_true hn)).trans (congrArg Host.Outcome.next ?_)
    unfold State.dmaStop
    rw [h1]
    rfl
  · intro s n d hn h5 shadow
    refine (next_when_true (decide_eq_true hn)).trans (congrArg Host.Outcome.next ?_)
    rw [dmaStop_quiesced h5, shadow]
  · intro s n hn h5 shadow
    refine (next_when_true (decide_eq_true hn)).trans (congrArg Host.Outcome.next ?_)
    rw [dmaStop_quiesced h5, shadow]
  · exact fun s n h1 h5 => congrArg Host.Outcome.next (s.when_self _ (dmaStop_rests h1 h5))
  · intro s n d hactive goes
    unfold State.holdWaiting
    rw [hactive]
    exact ite_of_false goes
  · exact fun s open_ => next_when_true open_

end Sys2Proof.Machine
end

section
/-! PROOFS. Resets and the boot (11_fabric.md, R321, R322; 13_dma_memory.md, R370; 14_management_errors.md, R380, R381, R386;
15_otp_lifecycle.md, R388, R405, R406). -/

namespace Sys2Proof.Machine

section Resets

variable {s : State} {cause : Nat} {e : ResetEnv}

/-- A device reset that nothing holds back. -/
theorem exec_deviceReset (free : s.held = false) (hcause : cause < 5) :
    exec (.deviceReset cause e) s = .next ((s.assertReset e.cut).release cause e) :=
  (next_when_true (decide_eq_true hcause)).trans (congrArg Host.Outcome.next (ite_of_false free))

/-- A release leaves no byte of memory listed and the queue as it is. -/
theorem release_assertReset_wiped (hinv : s.Inv) :
    ((s.assertReset e.cut).release cause e).pending = s.pending ∧ ((s.assertReset e.cut).release cause e).mem = [] :=
  have wiped := State.release_wiped (cause := cause) (e := e) (State.assertReset_good (cut := e.cut) (good_of_inv hinv).to000)
  ⟨wiped.queue, wiped.sameMem [] rfl⟩

/-- With nothing listed every byte reads 0. -/
theorem byte_of_mem_nil (hmem : s.mem = []) (a : Nat) : s.byte a = 0#8 := by
  unfold State.byte
  rw [hmem]
  rfl

end Resets

section Images

variable {s : State}

/-- The length of a host boot fits the window. -/
theorem hboot_fits (s : State) (hlen : 1 ≤ s.get OTP.HBOOT_LEN.LEN) :
    (s.get OTP.HBOOT_LEN.LEN == 0 || decide (2097152 < s.get OTP.HBOOT_LEN.LEN)) = false := by
  have lt : s.get OTP.HBOOT_LEN.LEN < 2097152 := s.get_lt _
  rw [beq_eq_false_iff_ne.2 (by omega), decide_eq_false (by omega)]
  rfl

/-- So does that of a fabric boot. -/
theorem fboot_fits (s : State) (hlen : 1 ≤ s.get FAB.BOOT_CTL.LEN) :
    (s.get FAB.BOOT_CTL.LEN == 0 || decide (2097152 < s.get FAB.BOOT_CTL.LEN)) = false := by
  have lt : s.get FAB.BOOT_CTL.LEN < 2097152 := s.get_lt _
  rw [beq_eq_false_iff_ne.2 (by omega), decide_eq_false (by omega)]
  rfl

/-- A GO of the host that the ROM waits for. -/
theorem exec_hbootGo (x : Access) (root : s.root = true) (waits : s.romWaits = true) :
    exec (.hbootGo x) s = .next (let n := s.get OTP.HBOOT_LEN.LEN
      if n == 0 || 2097152 < n then s.wr OTP.HBOOT_STAT 4#32
      else if x.status != 0 then s.wr OTP.HBOOT_STAT 3#32
      else (s.setBytes 0x10000000 (imgBytes (wordsBytes x.words) 0 n)).checkBegin true n) :=
  congrArg Host.Outcome.next (if_neg (by rw [root, waits]; exact Bool.false_ne_true))

/-- A GO over the fabric in boot mode. -/
theorem bootGo_of_waits (mode : s.flag FAB.STATUS.BOOT_MODE = true) (waits : s.romWaits = true) :
    s.bootGo = (let n := s.get FAB.BOOT_CTL.LEN
      if n == 0 || 2097152 < n then (s.clearWindow).wr FAB.BOOT_STAT 4#32 else s.checkBegin false n) :=
  if_neg (by rw [mode, waits]; exact Bool.false_ne_true)

/-- Outside boot mode, or while the ROM does not wait, a GO does nothing. -/
theorem bootGo_of_rests (rests : s.flag FAB.STATUS.BOOT_MODE = false ∨ s.romWaits = false) : s.bootGo = s := by
  refine if_pos ?_
  rcases rests with h | h
  · rw [h]
    rfl
  · rw [h, Bool.and_false]
    rfl

end Images

/-- An expiry below the escalation limit. -/
theorem wdtExpired_resets {s : State}
    (below : (s.bump SYS.WDT_STAT.RESETS).get SYS.WDT_CTL.ESC_N = 0 ∨
      (s.bump SYS.WDT_STAT.RESETS).get SYS.WDT_STAT.RESETS < (s.bump SYS.WDT_STAT.RESETS).get SYS.WDT_CTL.ESC_N) :
    s.wdtExpired = ((((s.bump SYS.WDT_STAT.RESETS).report Src.WDT_EXPIRED 0
      ((s.bump SYS.WDT_STAT.RESETS).get SYS.WDT_STAT.RESETS)).wdtRestart).raise SYS.RST_CAUSE.WDT).coreReset := by
  unfold State.wdtExpired
  dsimp only
  refine if_neg ?_
  rcases below with h | h
  · rw [h]
    exact Bool.false_ne_true
  · rw [decide_eq_false (Nat.not_le.2 h), Bool.and_false]
    exact Bool.false_ne_true

/-- Settles O56: device resets wipe and release, core resets resume the ROM, and images are checked and entered (R11, R321, R322,
R370, R380, R381, R386, R405, R406). -/
theorem resetsAndBoot : Obligations.ResetsAndBoot := by
  unfold Obligations.ResetsAndBoot
  refine ⟨?_, ?_, ?_, ?_, ?_, ?_, ?_, ?_, ?_, ?_, fun s => rfl, ?_, ?_, ?_, ?_, ?_, ?_, ?_, fun s b n => rfl, ?_, ?_, ?_, ?_, ?_, ?_, ?_⟩
  · exact fun s cause e free hcause => exec_deviceReset free hcause
  · exact fun s cause e held => congrArg Host.Outcome.next (s.when_self _ (if_pos held))
  · exact fun s cause e hcause => next_when_false (decide_eq_false (Nat.not_lt.2 hcause))
  · intro s cause e hinv hcause free
    have wiped := release_assertReset_wiped (cause := cause) (e := e) hinv
    exact ⟨_, exec_deviceReset free hcause, wiped.1, byte_of_mem_nil wiped.2⟩
  · intro s v e hbit hkey
    exact next_when_true (by rw [hbit, hkey]; rfl)
  · intro s v e hbad
    refine next_when_false ?_
    rcases hbad with h | h
    · rw [beq_eq_false_iff_ne.2 h, Bool.and_false]
    · rw [h]
      rfl
  · intro s e active ended htmo
    exact next_when_true (by rw [active, ended, bne_iff_ne.2 htmo]; rfl)
  · intro s e rests
    refine next_when_false ?_
    rcases rests with h | h | h <;> rw [h] <;> simp
  · intro s l hrom stopping
    unfold State.romResume
    rw [hrom]
    exact if_pos stopping
  · intro s l hrom stopped
    unfold State.romResume
    rw [hrom]
    exact ite_of_false stopped
  · intro s hen active below
    exact (next_when_true (by rw [hen, active]; rfl)).trans (congrArg Host.Outcome.next (wdtExpired_resets below))
  · intro s hen active hesc reached
    refine (next_when_true (by rw [hen, active]; rfl)).trans (congrArg Host.Outcome.next (if_pos ?_))
    rw [bne_iff_ne.2 hesc, decide_eq_true reached]
    rfl
  · intro s rests
    refine next_when_false ?_
    rcases rests with h | h <;> rw [h] <;> simp
  · intro s x root waits hlen
    rw [exec_hbootGo x root waits, hlen]
    rfl
  · intro s x root waits hlen hbad
    rw [exec_hbootGo x root waits]
    dsimp only
    rw [ite_of_false (hboot_fits s hlen), if_pos (bne_iff_ne.2 hbad)]
  · intro s x root waits hlen hok
    rw [exec_hbootGo x root waits]
    dsimp only
    rw [ite_of_false (hboot_fits s hlen), ite_of_false (bne_eq_false_iff_eq.2 hok)]
  · intro s x rests
    refine congrArg Host.Outcome.next (if_pos ?_)
    rcases rests with h | h <;> rw [h] <;> simp
  · intro s n hcheck
    unfold State.checkEnd
    rw [hcheck]
    dsimp only
    rw [if_pos rfl]
    rfl
  · intro s img hbad
    unfold State.tryImage
    exact ite_of_false hbad
  · intro s v hbit
    exact next_when_false hbit
  · intro s v rests
    exact congrArg Host.Outcome.next (State.when_self _ _ (bootGo_of_rests rests))
  · intro s v hbit mode waits hlen
    refine (next_when_true hbit).trans (congrArg Host.Outcome.next ?_)
    rw [bootGo_of_waits mode waits, hlen]
    rfl
  · intro s v hbit mode waits hlen
    refine (next_when_true hbit).trans (congrArg Host.Outcome.next ?_)
    rw [bootGo_of_waits mode waits]
    exact ite_of_false (fboot_fits _ hlen)
  · intro s n hcheck
    unfold State.checkEnd
    rw [hcheck]
    dsimp only
    rw [if_neg Bool.false_ne_true]
    rfl

end Sys2Proof.Machine
end

section
/-! PROOFS. The management block (14_management_errors.md). -/

namespace Sys2Proof.Machine

/-! The job log (R378) -/

/-- No disabled part hides the job log. -/
theorem hidden_jlog (s : State) : s.hidden SYS.JLOG_1 = false := by
  simp [State.hidden, SYS.JLOG_1]

/-- A read of JLOG_1 returns the register's word. -/
theorem view_jlog (s : State) : s.view SYS.JLOG_1 = s.rd SYS.JLOG_1 := by
  simp [State.view, hidden_jlog, State.printView, HOSTIF.SCONS, HOSTIF.SJOB, CAL.VIEW, SYS.JLOG_1, SYS.IRQ_PEND, SYS.MTIME_LO,
    FAB.FT_LO, PMU.RTC_LO, SYS.WDT_STAT, HPT.STATUS, WFE.STATUS, NH.STATUS]

/-- JLOG_1 is a register of a block. -/
theorem row_jlog : ∃ b r i, blockOf SYS.JLOG_1 = some b ∧ rowOf b SYS.JLOG_1 = some (r, i) := by
  have found : (blockOf SYS.JLOG_1).any (fun b => (rowOf b SYS.JLOG_1).isSome) = true := by decide +kernel
  obtain ⟨b, hb, hrow⟩ := (Option.any_eq_true _ _).1 found
  obtain ⟨⟨r, i⟩, hr⟩ := Option.isSome_iff_exists.1 hrow
  exact ⟨b, r, i, hb, hr⟩

/-- A full read of JLOG_1 returns its word and removes the oldest entry. -/
theorem regRead_jlog (s : State) (issuer : Nat) :
    s.regRead issuer SYS.JLOG_1 = ((s.onSys (fun y => { y with jlog := y.jlog.drop 1 })).syncJlog, s.view SYS.JLOG_1) := by
  obtain ⟨b, r, i, hb, hr⟩ := row_jlog
  unfold State.regRead
  rw [hb]
  dsimp only
  rw [hr]
  dsimp only
  rw [ite_of_false (hidden_jlog s)]
  exact if_pos (beq_self_eq_true _)

/-- The two words that the log shows are those of its oldest entry. -/
theorem syncJlog_words (s : State) :
    s.syncJlog.rd SYS.JLOG_0 = (s.sys.jlog.headD (0#32, 0#32)).1 ∧ s.syncJlog.rd SYS.JLOG_1 = (s.sys.jlog.headD (0#32, 0#32)).2 := by
  unfold State.syncJlog
  dsimp only
  constructor
  · rw [State.rd_put_other _ _ _ (by decide), State.rd_wr_other _ _ (by decide), State.rd_wr_same]
  · rw [State.rd_put_other _ _ _ (by decide), State.rd_wr_same]

/-! The sump dump (R386) -/

section Sump

variable {s : State}

/-- The sump writer's end while a dump goes on that it has not written. -/
theorem exec_sumpHwDone (active : s.flag SYS.SUMP_STAT.ACTIVE = true) (fresh : s.flag SYS.SUMP_STAT.HW_DONE = false)
    (goes : s.sys.sumpEnded = false) :
    exec .sumpHwDone s = .next ((s.when s.sumpValid (fun t => ((t.ramWriteWords 0 t.sumpBase t.sumpWords).1).raise SYS.SUMP_STAT.HW_DONE)).when
      (!s.sys.sumpFw) (·.endSump false false)) :=
  if_neg (by rw [active, fresh, goes]; exact Bool.false_ne_true)

/-- No dump in progress: nothing ends. -/
theorem sump_rests {fw tmo : Bool} (rests : s.flag SYS.SUMP_STAT.ACTIVE = false ∨ s.sys.sumpEnded = true) :
    (Host.Outcome.next (s.when (s.flag SYS.SUMP_STAT.ACTIVE && !s.sys.sumpEnded) (·.endSump fw tmo)) : Host.Outcome State Fault Refusal) =
      .next s := by
  refine next_when_false ?_
  rcases rests with h | h <;> rw [h] <;> simp

end Sump

/-- Settles O57: the cache, the timer, the watchdog, the logs, the records, the load and the dump (R374 to R386). -/
theorem managementCore : Obligations.ManagementCore := by
  unfold Obligations.ManagementCore
  refine ⟨?_, ?_, fun s a => rfl, fun s a => rfl, ?_, ?_, ?_, ?_, fun s => rfl, ?_, ?_, ?_, ?_, ?_, syncJlog_words, fun s => rfl, ?_, ?_,
    ?_, ?_, fun s busy => rfl, fun s => rfl, ?_, ?_, ?_, ?_, ?_, ?_, ?_, ?_, ?_⟩
  · intro s a l hline
    show Host.Outcome.next (s.cleanLine a) = _
    unfold State.cleanLine
    rw [hline]
    simp only [beq_iff_eq]
  · intro s a hnone
    show Host.Outcome.next (s.cleanLine a) = _
    unfold State.cleanLine
    rw [hnone]
  · exact fun s => rfl
  · exact fun s => rfl
  · exact fun s => rfl
  · intro s v h1 h2 h3
    refine congrArg Host.Outcome.next ?_
    have others : (v == 1 || v == 3) = false ∧ (v == 2 || v == 3) = false := by
      rw [beq_eq_false_iff_ne.2 h1, beq_eq_false_iff_ne.2 h2, beq_eq_false_iff_ne.2 h3]
      exact ⟨rfl, rfl⟩
    exact (State.when_of_false _ _ others.2).trans (State.when_of_false _ _ others.1)
  · exact fun s => congrArg Host.Outcome.next (if_pos rfl)
  · exact fun s v hkey => congrArg Host.Outcome.next (ite_of_false (beq_eq_false_iff_ne.2 hkey))
  · exact fun s hen active half => next_when_true (by rw [hen, active, half]; rfl)
  · intro s rests
    refine next_when_false ?_
    rcases rests with h | h | h <;> rw [h] <;> simp
  · intro s
    show Host.Outcome.next { (s.regRead 0 SYS.JLOG_1).1 with rdata := (s.regRead 0 SYS.JLOG_1).2 } = _
    rw [regRead_jlog, view_jlog]
  · exact fun s q hq => next_when_true (decide_eq_true hq)
  · exact fun s q hq => next_when_false (decide_eq_false (Nat.not_lt.2 hq))
  · exact fun s v held => next_when_false (by rw [held]; rfl)
  · exact fun s v free => next_when_true (by rw [free]; rfl)
  · intro s active fresh goes valid fw
    rw [exec_sumpHwDone active fresh goes, fw, State.when_of_true _ _ valid]
    rfl
  · intro s active fresh goes invalid fw
    rw [exec_sumpHwDone active fresh goes, fw, State.when_of_false _ _ invalid]
    rfl
  · intro s active fresh goes valid fw
    rw [exec_sumpHwDone active fresh goes, fw, State.when_of_true _ _ valid]
    rfl
  · intro s invalid fw
    show execSumpHwDone s = _
    unfold execSumpHwDone
    rw [fw, State.when_of_false _ _ invalid]
    exact ite_self _
  · intro s rests
    refine if_pos ?_
    rcases rests with h | h | h <;> rw [h] <;> simp
  · exact fun s rests => sump_rests rests
  · exact fun s rests => sump_rests rests
  · exact fun s active goes => next_when_true (by rw [active, goes]; rfl)
  · exact fun s active goes => next_when_true (by rw [active, goes]; rfl)

end Sys2Proof.Machine
end

section
/-! PROOFS. Fuse programming, locks and the life cycle (15_otp_lifecycle.md, R397 to R404). -/

namespace Sys2Proof.Machine

section Commands

variable {s : State}

/-- An accepted PGM begins with its word and data fixed. -/
theorem pgmGo_accepted (accepted : s.pgmCode (s.get OTP.PGM_WORD.INDEX) (s.rd OTP.PGM_DATA).toNat = 0) :
    s.pgmGo = ((s.wr OTP.PGM_STAT 0#32).raise OTP.STATUS.PGM_BUSY).onOtp
      (fun o => { o with cmd := some (.program (s.get OTP.PGM_WORD.INDEX) (s.rd OTP.PGM_DATA).toNat) }) := by
  unfold State.pgmGo
  dsimp only
  rw [accepted]
  rfl

/-- A refused one is recorded and reported with its code. -/
theorem pgmGo_refused {c : Nat} (hcode : s.pgmCode (s.get OTP.PGM_WORD.INDEX) (s.rd OTP.PGM_DATA).toNat = c) (hc : c ≠ 0) :
    s.pgmGo = (s.put OTP.PGM_STAT.CODE c).otpRefused c (s.get OTP.PGM_WORD.INDEX) := by
  unfold State.pgmGo
  dsimp only
  split
  next zero => exact absurd (hcode.symm.trans zero) hc
  next => rw [hcode]

/-- An accepted finalise begins. -/
theorem finGo_accepted (accepted : s.finCode (s.get OTP.FIN_CTL.REGION) (s.flag OTP.FIN_CTL.FORCE) = 0) :
    s.finGo = ((s.wr OTP.FIN_STAT 0#32).raise OTP.STATUS.PGM_BUSY).onOtp
      (fun o => { o with cmd := some (.finalise (s.get OTP.FIN_CTL.REGION) (s.slotMissing (s.get OTP.FIN_CTL.REGION))) }) := by
  unfold State.finGo
  dsimp only
  rw [accepted]
  rfl

/-- A refused one is recorded and reported with its code. -/
theorem finGo_refused {c : Nat} (hcode : s.finCode (s.get OTP.FIN_CTL.REGION) (s.flag OTP.FIN_CTL.FORCE) = c) (hc : c ≠ 0) :
    s.finGo = (s.put OTP.FIN_STAT.CODE c).otpRefused c (s.get OTP.FIN_CTL.REGION) := by
  unfold State.finGo
  dsimp only
  split
  next zero => exact absurd (hcode.symm.trans zero) hc
  next => rw [hcode]

/-- An unwritten mandatory slot keeps a region from being finalised without FORCE. -/
theorem finCode_slot {q : Nat} (live : s.lcState ≠ 5) (region : q = 0 ∨ q = 2 ∨ hasLocks q = true) (sound : s.failed q = false)
    (open_ : s.closed q = false) (allowed : s.lcForbids q = false) (hold : s.pgmHold = 0) (missing : s.slotMissing q = true) :
    s.finCode q false = 0x20 := by
  have known : (!(q == 0 || q == 2 || hasLocks q)) = false := by
    rcases region with h | h | h <;> rw [h]
    · rfl
    · rfl
    · rw [Bool.or_true]
      rfl
  unfold State.finCode
  rw [ite_of_false (beq_eq_false_iff_ne.2 live), ite_of_false known, ite_of_false sound, ite_of_false open_, ite_of_false allowed, hold,
    missing]
  rfl

/-- A finalise whose first bits are pulsed. -/
theorem exec_finDone {q : Nat} {forced : Bool} (burn : List Burn) (cmd : s.otp.cmd = some (.finalise q forced)) :
    exec (.finDone burn) s = (let bits := s.finBits q forced
      let a := s.burnCounted bits burn
      match a.2 with
      | some i => .next (a.1.finEnd q forced (some i))
      | none => .next ((a.1.burnCounted (a.1.selfBits q) (burn.drop bits.length)).1.finEnd q forced
          (a.1.burnCounted (a.1.selfBits q) (burn.drop bits.length)).2)) := by
  show execFinDone burn s = _
  unfold execFinDone
  rw [cmd] <;> rfl

/-- An accepted lock begins. -/
theorem lockCtl_accepted {v : Nat} {burn sofar : List Burn} (asks : v / 16 % 4 ≠ 0) (accepted : s.lockCode (v % 16) = 0) :
    s.lockCtl v burn sofar = (s.onOtp (fun o => { o with lock := some ⟨v, burn, sofar⟩ })).syncBusy := by
  unfold State.lockCtl
  dsimp only
  rw [ite_of_false (beq_eq_false_iff_ne.2 asks), accepted]
  rfl

/-- A refused one is recorded and reported. -/
theorem lockCtl_refused {v c : Nat} {burn sofar : List Burn} (asks : v / 16 % 4 ≠ 0) (hcode : s.lockCode (v % 16) = c) (hc : c ≠ 0) :
    s.lockCtl v burn sofar = (s.put OTP.PGM_STAT.CODE c).otpRefused c (v % 16) := by
  unfold State.lockCtl
  dsimp only
  rw [ite_of_false (beq_eq_false_iff_ne.2 asks)]
  split
  next zero => exact absurd (hcode.symm.trans zero) hc
  next => rw [hcode]

/-- A transition request with its key. -/
theorem lcReq_keyed {v : Nat} {e : ResetEnv} (key : v / 2 ^ 16 % 2 ^ 16 = 0x1C5E) :
    s.lcReq v e = (match s.lcCode (v % 8) with
      | 0 => ((s.put OTP.LC_STAT.CODE 0).onOtp (fun o => { o with cmd := some (.transition (v % 8) e) })).syncBusy
      | code => (s.put OTP.LC_STAT.CODE code).report Src.OTP_LC 0 (v % 8 * 256 + code)) := by
  unfold State.lcReq
  rw [key]
  rfl

/-- A transition that is not allowed is refused with its code. -/
theorem lcReq_refused {v c : Nat} {e : ResetEnv} (key : v / 2 ^ 16 % 2 ^ 16 = 0x1C5E) (hcode : s.lcCode (v % 8) = c) (hc : c ≠ 0) :
    s.lcReq v e = (s.put OTP.LC_STAT.CODE c).report Src.OTP_LC 0 (v % 8 * 256 + c) := by
  rw [lcReq_keyed key]
  split
  next zero => exact absurd (hcode.symm.trans zero) hc
  next => rw [hcode]

end Commands

/-- Settles O58: PGM, finalise, locks and the life cycle (R397 to R404). -/
theorem fuseCommands : Obligations.FuseCommands := by
  unfold Obligations.FuseCommands
  refine ⟨?_, ?_, ?_, ?_, ?_, ?_, ?_, ?_, ?_, ?_, ?_, fun s w d => rfl, ?_, ?_, ?_, ?_, ?_, fun s l burn => rfl, ?_, ?_, ?_, ?_, ?_,
    fun s => rfl, ?_, ?_, ?_, ?_, ?_⟩
  · exact fun s vpp held => next_when_false (by rw [held]; rfl)
  · exact fun s vpp held => next_when_false (by rw [held]; rfl)
  · exact fun s vpp v burn sofar held => next_when_false (by rw [held]; rfl)
  · exact fun s v e held => next_when_false (by rw [held]; rfl)
  · exact fun s vpp accepted free =>
      (next_when_true (by rw [free]; rfl)).trans (congrArg Host.Outcome.next (pgmGo_accepted accepted))
  · exact fun s vpp c hcode hc free =>
      (next_when_true (by rw [free]; rfl)).trans (congrArg Host.Outcome.next (pgmGo_refused hcode hc))
  · exact fun s w d scrap => if_pos (beq_iff_eq.2 scrap)
  · exact fun s w d live failed => (ite_of_false (beq_eq_false_iff_ne.2 live)).trans (if_pos failed)
  · intro s burn w d cmd
    show execPgmDone burn s = _
    unfold execPgmDone
    rw [cmd]
  · intro s burn other
    show execPgmDone burn s = _
    unfold execPgmDone
    split
    next w d cmd =>
      rw [cmd] at other
      exact absurd other Bool.false_ne_true
    next => rfl
  · intro s burn other
    show execFinDone burn s = _
    unfold execFinDone
    split
    next q forced cmd =>
      rw [cmd] at other
      exact absurd other Bool.false_ne_true
    next => rfl
  · exact fun s vpp accepted free =>
      (next_when_true (by rw [free]; rfl)).trans (congrArg Host.Outcome.next (finGo_accepted accepted))
  · exact fun s vpp c hcode hc free =>
      (next_when_true (by rw [free]; rfl)).trans (congrArg Host.Outcome.next (finGo_refused hcode hc))
  · exact fun s q live region sound open_ allowed hold missing => finCode_slot live region sound open_ allowed hold missing
  · intro s burn q i forced cmd stops
    rw [exec_finDone burn cmd]
    dsimp only
    rw [stops]
  · intro s burn q forced cmd goes
    rw [exec_finDone burn cmd]
    dsimp only
    rw [goes]
  · exact fun s vpp v burn sofar none free =>
      (next_when_true (by rw [free]; rfl)).trans (congrArg Host.Outcome.next (if_pos (beq_iff_eq.2 none)))
  · exact fun s vpp v burn sofar asks accepted free =>
      (next_when_true (by rw [free]; rfl)).trans (congrArg Host.Outcome.next (lockCtl_accepted asks accepted))
  · intro s v burn sofar lock alone
    unfold State.lockEnd
    rw [lock]
    dsimp only
    rw [alone]
  · intro s v burn sofar gone rest lock beside
    unfold State.lockEnd
    rw [lock]
    dsimp only
    rw [beside]
  · exact fun s vpp v burn sofar c asks hcode hc free =>
      (next_when_true (by rw [free]; rfl)).trans (congrArg Host.Outcome.next (lockCtl_refused asks hcode hc))
  · exact fun s v e nokey free =>
      (next_when_true (by rw [free]; rfl)).trans (congrArg Host.Outcome.next (if_pos (bne_iff_ne.2 nokey)))
  · exact fun s v e c key hcode hc free =>
      (next_when_true (by rw [free]; rfl)).trans (congrArg Host.Outcome.next (lcReq_refused key hcode hc))
  · intro s v e key allowed free
    refine (next_when_true (by rw [free]; rfl)).trans (congrArg Host.Outcome.next ?_)
    rw [lcReq_keyed key, allowed]
    rfl
  · intro s k e cmd verified
    unfold State.transitionEnd
    rw [cmd]
    dsimp only
    rw [verified]
  · intro s k e i cmd stops
    unfold State.transitionEnd
    rw [cmd]
    dsimp only
    rw [stops]

end Sys2Proof.Machine
end

section
/-! PROOFS. Power states, supplies, clocks, boost controllers and the PMBus (16_power_clocks.md). -/

namespace Sys2Proof.Machine

/-! State requests and entry (R412 to R414) -/

section Requests

variable {s : State} {target : Nat}

/-- A request while a transition is not BUSY and reset is released is judged by its code. -/
theorem stateReq_judged (busy : s.flag PMU.STATE_STAT.BUSY = false) (free : s.held = false) :
    s.stateReq target = (match s.reqCode target with
      | 0 => (((((((s.put PMU.STATE_REQ.TARGET target).loadB 0x40010000 0x40020000).put PMU.STATE_STAT.REFUSE 0).drop
          PMU.STATE_STAT.ABORTED).raise PMU.STATE_STAT.BUSY).onPmu (fun m => { m with goal := target })).quiesce (goalDomains target))
      | code => (((s.put PMU.STATE_REQ.TARGET target).put PMU.STATE_STAT.REFUSE code).raise PMU.STATUS.REFUSED).report Src.PMU_STATE 0
          (code * 2 ^ 24 + target)) := by
  unfold State.stateReq
  rw [ite_of_false free, ite_of_false busy] <;> rfl

/-- A refused request shows its code and is reported. -/
theorem stateReq_refused (busy : s.flag PMU.STATE_STAT.BUSY = false) (hcode : s.reqCode target ≠ 0) (free : s.held = false) :
    s.stateReq target = (((s.put PMU.STATE_REQ.TARGET target).put PMU.STATE_STAT.REFUSE (s.reqCode target)).raise
      PMU.STATUS.REFUSED).report Src.PMU_STATE 0 (s.reqCode target * 2 ^ 24 + target) := by
  rw [stateReq_judged busy free]
  split
  next zero => exact absurd zero hcode
  next => rfl

/-- The state that a target is entered from: the core waits and the transition is over. -/
def State.entering (s : State) : State :=
  (((s.onSys (fun y => if y.core = .running then { y with core := .wfi } else y)).drop PMU.STATE_STAT.BUSY).onPmu
    (fun m => { m with goal := 0 }))

/-- With a request and a ready engine the target is entered. -/
theorem exec_stateEntry (asked : s.pmu.goal ≠ 0) (ready : s.dmaReady = true) :
    exec .stateEntry s = .next (match s.pmu.goal with
      | 1 => (s.entering.wr PMU.DOM_STAT 0x021603FF#32).put PMU.STATE_STAT.STATE 1
      | 2 => s.entering.enterLow
      | _ => s.entering.enterDry) := by
  show execStateEntry s = _
  unfold execStateEntry State.entering
  rw [if_neg (by rw [beq_eq_false_iff_ne.2 asked, ready]; exact Bool.false_ne_true)]
  simp only [beq_iff_eq] <;> rfl

/-- STILL is entered. -/
theorem exec_stateEntry_still (asked : s.pmu.goal = 1) (ready : s.dmaReady = true) :
    exec .stateEntry s = .next ((s.entering.wr PMU.DOM_STAT 0x021603FF#32).put PMU.STATE_STAT.STATE 1) := by
  rw [exec_stateEntry (by rw [asked]; decide) ready, asked]
  rfl

/-- A wake source that counts while no transition is under way. -/
theorem exec_wake_returns {src cycles : Nat} (valid : s.wakeValid src = true) (still : s.pmu.goal = 0) (low : s.pwrState ≠ 0) :
    exec (.wake src cycles) s = .next ((((s.noteWake src).when (s.pwrState == 2) (·.leaveLow cycles)).toFlow).onSys
      (fun y => if y.core = .wfi then { y with core := .running } else y)) := by
  show execWake src cycles s = _
  unfold execWake
  rw [if_neg (by rw [valid]; exact Bool.false_ne_true), if_neg (by rw [still]; exact Bool.false_ne_true),
    ite_of_false (beq_eq_false_iff_ne.2 low)]
  simp only [beq_iff_eq]

end Requests

/-! Supplies and the tamper latch (R418, R428 to R430, R453) -/

section Supplies

variable {s : State}

/-- Good supplies release a reset that only they held. -/
theorem exec_powerOn_releases {pin : Bool} {e : ResetEnv} (off : s.pmu.off ≠ 0) (test : s.pmu.test = false) :
    exec (.powerOn pin e) s = .next ((s.onPmu (fun m => { m with low := 0 })).release
      (if s.pmu.why = 4 then 4 else if pin = true ∧ s.pmu.off ≠ 2 then 1 else 0) e) := by
  have held : ((s.onPmu (fun m => { m with low := 0 })).held && !(s.onPmu (fun m => { m with low := 0 })).pmu.test) = true := by
    rw [Bool.and_eq_true]
    exact ⟨bne_iff_ne.2 off, by rw [show (s.onPmu (fun m => { m with low := 0 })).pmu.test = false from test]; rfl⟩
  refine (next_when_true held).trans ?_
  simp only [beq_iff_eq, Bool.and_eq_true, bne_iff_ne]
  rfl

/-- A rise of the tamper latch is reported, at once or with the next start. -/
theorem exec_tamper_rises (latch : s.flag PMU.TAMPER.LATCH = false) :
    exec .tamper s = .next (let b := ((s.raise PMU.TAMPER.PIN).raise PMU.TAMPER.LATCH).when (s.raise PMU.TAMPER.PIN).tamperLink (·.setBreach)
      if b.pmu.off != 0 then b.onPmu (fun m => { m with tamperDue := true }) else b.report Src.PMU_TAMPER 0 0) :=
  ite_of_false latch

end Supplies

/-! The crystal (R409) -/

section Crystal

variable {s t : State} {why : Nat}

/-- A failure of the crystal puts the device on its backup clock. -/
theorem exec_xtalFail_falls (ht : s.when (why == 1) (·.weirXtal true) = t) (main : t.flag PMU.STATUS.ON_BACKUP = false)
    (fails : (why == 1 || why == 2 || (why == 3 && t.flag PMU.CLK_STAT.X32_OK)) = true) :
    exec (.xtalFail why) s = .next ((((((t.raise PMU.STATUS.XTAL_FAIL).raise PMU.STATUS.ON_BACKUP).drop PMU.CLK_STAT.XTAL_OK).abandon).halt
      4).report Src.PMU_XTAL 0 why) := by
  show execXtalFail why s = _
  unfold execXtalFail
  dsimp only
  rw [ht, if_neg (by rw [main, fails]; exact Bool.false_ne_true)]

/-- On the backup clock, or without a failure, nothing more happens. -/
theorem exec_xtalFail_stays (ht : s.when (why == 1) (·.weirXtal true) = t)
    (rests : t.flag PMU.STATUS.ON_BACKUP = true ∨ (why == 1 || why == 2 || (why == 3 && t.flag PMU.CLK_STAT.X32_OK)) = false) :
    exec (.xtalFail why) s = .next t := by
  show execXtalFail why s = _
  unfold execXtalFail
  dsimp only
  rw [ht]
  refine if_pos ?_
  rcases rests with h | h
  · rw [h]
    rfl
  · rw [h, Bool.not_false, Bool.or_true]

/-- Only the value of a change at the Weir that stands counts. -/
theorem onWeir_congr {f g : WeirState → WeirState} (h : f s.weir = g s.weir) : s.onWeir f = s.onWeir g := by
  show ({ s with weir := f s.weir } : State) = _
  rw [h]
  rfl

/-- A Weir that is up follows the crystal. -/
theorem weirXtal_up (stopped : Bool) (up : s.weir.up = true) :
    s.weirXtal stopped = ((s.onWeir (fun w => { w with noXtal := stopped, oscFallback := stopped })).when stopped
      (·.onCistern (fun c => { c with seenOsc := true }))).syncWeir := by
  have follows : (s.onWeir (fun w => { w with noXtal := stopped, oscFallback := if w.up then stopped else w.oscFallback })) =
      s.onWeir (fun w => { w with noXtal := stopped, oscFallback := stopped }) := onWeir_congr (by rw [up]; rfl)
  unfold State.weirXtal
  rw [follows]
  dsimp only
  rw [show (s.onWeir (fun w => { w with noXtal := stopped, oscFallback := stopped })).weir.up = true from up, Bool.true_and]
  refine State.when_of_true _ _ ?_
  cases stopped <;> exact up

/-- One that is down only notes it. -/
theorem weirXtal_down (stopped : Bool) (down : s.weir.up = false) :
    s.weirXtal stopped = s.onWeir (fun w => { w with noXtal := stopped, oscFallback := w.oscFallback }) := by
  have notes : (s.onWeir (fun w => { w with noXtal := stopped, oscFallback := if w.up then stopped else w.oscFallback })) =
      s.onWeir (fun w => { w with noXtal := stopped, oscFallback := w.oscFallback }) := onWeir_congr (by rw [down]; rfl)
  have still : (s.onWeir (fun w => { w with noXtal := stopped, oscFallback := w.oscFallback })).weir.up = false := down
  unfold State.weirXtal
  rw [notes]
  dsimp only
  rw [still, State.when_of_false _ _ (Bool.false_and _), still]
  exact State.when_of_false _ _ rfl

end Crystal

/-! Boost controllers (R419 to R421) -/

section Boost

variable {s : State} {g vs cs : Nat}

/-- A controller that is not of the part, or does not switch, or is within its limit, meets no fault. -/
theorem and3_false {a b c : Bool} (h : a = false ∨ b = false ∨ c = false) : (a && b && c) = false := by
  rcases h with h | h | h <;> rw [h] <;> simp

theorem and4_false {a b c d : Bool} (h : a = false ∨ b = false ∨ c = false ∨ d = false) : (a && b && c && d) = false := by
  rcases h with h | h | h | h <;> rw [h] <;> simp

/-- ILIM shows whether the current is limited. -/
theorem hvMeas_ilim (s : State) (g vs cs : Nat) :
    (s.hvMeas g vs cs).get (PMU.HV_STAT.ILIM g) =
      nat01 (decide (s.get (PMU.HV_LIM.OC_LIM g) < s.get (PMU.HV_ISENSE.ISENSE_FS g) * cs / 1000000)) := by
  unfold State.hvMeas
  rw [State.get_put_same _ _ _ (Nat.le_of_ble_eq_true rfl)]
  show nat01 (s.hvLimits g cs) % 2 ^ 1 = nat01 (s.hvLimits g cs)
  cases s.hvLimits g cs <;> rfl

/-- The EN bit of a controller may be cleared when no channel of its group is enabled. -/
theorem hvDisable_on (on : s.hvOn g = true) (en : s.flag (PMU.HV_CTL.EN g) = true) :
    s.hvDisable g = (if (groupChans g).any (fun c => s.flag (WFE.CH_CTL.EN c)) then s.raise PMU.STATUS.WRITE_IGNORED
      else (((s.drop (PMU.HV_CTL.EN g)).drop (PMU.HV_STAT.PGOOD g)).drop (PMU.HV_STAT.RAMPING g)).drop (PMU.HV_STAT.ILIM g)) :=
  if_neg (by rw [on, en]; exact Bool.false_ne_true)

end Boost

/-! The PMBus (R422, R423) -/

section PmBus

variable {s : State} {k x vout err : Nat}

/-- A transfer that may start takes the bus, or waits for the poll in progress. -/
theorem pmbStart_starts (idle : s.flag PMU.PMB_XSTAT.BUSY = false) (en : s.flag PMU.PMB_CTL.EN = true) (kind : s.get PMU.PMB_XFER.KIND < 5) :
    s.pmbStart err x = (let j : PmbJob := ⟨s.get PMU.PMB_XFER.DEV, s.get PMU.PMB_XFER.KIND, s.get PMU.PMB_XFER.CMD, err, x⟩
      if s.pmu.pmb.isSome then (s.raise PMU.PMB_XSTAT.BUSY).onPmu (fun m => { m with pmbWait := some j })
      else (s.raise PMU.PMB_XSTAT.BUSY).pmbRun j) := by
  unfold State.pmbStart
  dsimp only
  rw [ite_of_false idle, if_neg (by rw [en, decide_eq_false (Nat.not_le.2 kind)]; exact Bool.false_ne_true)]

/-- Only a PEC error depends on packet error checking. -/
theorem pmbResult_of_ne (h : err ≠ 2) : s.pmbResult err = err :=
  if_neg (by rw [beq_eq_false_iff_ne.2 h]; exact Bool.false_ne_true)

/-- A poll that may run ends as its result says. -/
theorem exec_pmbusPoll (polls : s.polls k = true) :
    exec (.pmbusPoll k x vout err) s = (match s.pmbResult err with
      | 0 => .next ((((s.put (PMU.PMB_STAT.STATUS_WORD k) x).put (PMU.PMB_STAT.VOUT k) vout).when (x / 2 % 128 != 0)
          (·.reportOnce ⟨PMU.PMB_FLT, k, 1⟩ Src.PMU_REG k (x % 65536))).pollEnd)
      | 1 => .next ((s.pmbErr k 1).pollEnd)
      | 2 => .next ((s.pmbErr k 2).pollEnd)
      | _ => .next (s.onPmu (fun m => { m with pmb := some k }))) := by
  show execPmbusPoll k x vout err s = _
  unfold execPmbusPoll
  rw [if_neg (by rw [polls]; exact Bool.false_ne_true)] <;> rfl

/-- A result of 3 or more leaves the poll running. -/
theorem exec_pmbusPoll_runs (polls : s.polls k = true) (hrun : 3 ≤ err) :
    exec (.pmbusPoll k x vout err) s = .next (s.onPmu (fun m => { m with pmb := some k })) := by
  rw [exec_pmbusPoll polls, pmbResult_of_ne (by omega)]
  split
  · omega
  · omega
  · omega
  · rfl

/-- The host polls an enabled device while nothing else holds the bus. -/
theorem polls_of (hk : k < 4) (en : s.flag PMU.PMB_CTL.EN = true) (dev : s.flag (PMU.PMB_DEV.EN k) = true)
    (period : s.get PMU.PMB_CTL.POLL ≠ 0) (up : s.pwrState < 2) (idle : s.flag PMU.PMB_XSTAT.BUSY = false)
    (own : s.pmu.pmb = none ∨ s.pmu.pmb = some k) : s.polls k = true := by
  unfold State.polls
  rw [decide_eq_true hk, en, dev, bne_iff_ne.2 period, decide_eq_true up, idle]
  rcases own with h | h <;> rw [h] <;> simp

/-- Otherwise it does not. -/
theorem polls_false (rests : s.flag PMU.PMB_CTL.EN = false ∨ s.flag (PMU.PMB_DEV.EN k) = false ∨ s.get PMU.PMB_CTL.POLL = 0 ∨
      2 ≤ s.pwrState ∨ (s.flag PMU.PMB_XSTAT.BUSY = true ∧ s.pmu.pmbWait.isSome = false) ∨
      (s.pmu.pmb.isSome = true ∧ s.pmu.pmb ≠ some k)) : s.polls k = false := by
  unfold State.polls
  rcases rests with h | h | h | h | ⟨h1, h2⟩ | ⟨h1, h2⟩
  · simp [h]
  · simp [h]
  · simp [h]
  · simp [Nat.not_lt.2 h]
  · simp [h1, h2]
  · have other : (s.pmu.pmb == none || s.pmu.pmb == some k) = false := by
      rw [beq_eq_false_iff_ne.2 (Option.isSome_iff_ne_none.1 h1), beq_eq_false_iff_ne.2 h2]
      rfl
    rw [other, Bool.and_false]

end PmBus

end Sys2Proof.Machine
end

section
/-! PROOFS. The rules of power and clocks, settled (16_power_clocks.md). -/

namespace Sys2Proof.Machine

/-- Settles O59: power states, supplies, clocks, boost controllers and the PMBus (R408 to R430, R453, R454). -/
theorem powerAndClocks : Obligations.PowerAndClocks := by
  unfold Obligations.PowerAndClocks
  refine ⟨fun s => rfl, fun s l1 => rfl, fun s => rfl, ?_, ?_, ?_, ?_, ?_, ?_, ?_, ?_, ?_, ?_, ?_, ?_, ?_, ?_, ?_, ?_, ?_, ?_, ?_, ?_, ?_, ?_,
    ?_, ?_, fun s cut => rfl, fun s cut => rfl, ?_, ?_, ?_, fun s low => rfl, ?_, ?_, ?_, ?_, ?_, ?_, ?_, ?_, ?_, ?_, ?_, ?_, fun s => rfl,
    ?_, fun s => rfl, ?_, ?_, ?_, ?_, ?_, ?_, ?_, hvMeas_ilim, ?_, ?_, ?_, ?_, ?_, ?_, ?_, fun s k cmd err => rfl, fun s k cmd err => rfl,
    fun s k cmd err => rfl, fun s k cmd err data => rfl, fun s k cmd err data => rfl, ?_, ?_, ?_, ?_, ?_, ?_, ?_, ?_, ?_, ?_, ?_, ?_, ?_, ?_,
    ?_, ?_, ?_, ?_, ?_⟩
  · exact fun s target busy free => (ite_of_false free).trans (if_pos busy)
  · exact fun s target held => if_pos held
  · intro s target busy hcode free
    rw [stateReq_judged busy free, hcode]
    rfl
  · exact fun s target busy hcode free => stateReq_refused busy hcode free
  · intro s target job
    refine if_pos ?_
    rw [Bool.or_eq_true]
    exact job
  · exact fun s asked ready => exec_stateEntry_still asked ready
  · intro s asked ready
    refine ⟨_, exec_stateEntry_still asked ready, ?_, rfl⟩
    rw [State.get_put_same _ _ _ (by decide)]
    rfl
  · intro s asked ready
    rw [exec_stateEntry (by rw [asked]; decide) ready, asked]
    rfl
  · intro s asked ready
    rw [exec_stateEntry (by rw [asked]; decide) ready, asked]
    rfl
  · exact fun s none => if_pos (by rw [none]; rfl)
  · exact fun s waits => if_pos (by rw [waits, Bool.not_false, Bool.or_true])
  · intro s src cycles valid still hstate
    rw [exec_wake_returns valid still (by rw [hstate]; decide), State.when_of_false _ _ (by rw [hstate]; rfl)]
  · intro s src cycles valid still hstate
    rw [exec_wake_returns valid still (by rw [hstate]; decide), State.when_of_true _ _ (beq_iff_eq.2 hstate)]
  · intro s src cycles valid under
    show execWake src cycles s = _
    unfold execWake
    rw [if_neg (by rw [valid]; exact Bool.false_ne_true), if_pos (bne_iff_ne.2 under)]
  · exact fun s src cycles invalid => if_pos (by rw [invalid]; rfl)
  · intro s src cycles still hstate
    show execWake src cycles s = _
    unfold execWake
    rw [if_neg (c := (s.pmu.goal != 0) = true) (by rw [still]; exact Bool.false_ne_true), if_pos (beq_iff_eq.2 hstate)]
    exact ite_self _
  · exact fun s up => next_when_false (beq_eq_false_iff_ne.2 up)
  · exact fun s dry => next_when_true (beq_iff_eq.2 dry)
  · intro s pin e rests
    refine next_when_false ?_
    rcases rests with h | h
    · rw [show (s.onPmu (fun m => { m with low := 0 })).held = false from bne_eq_false_iff_eq.2 h, Bool.false_and]
    · rw [show (s.onPmu (fun m => { m with low := 0 })).pmu.test = true from h, Bool.not_true, Bool.and_false]
  · exact fun s pin e off test => exec_powerOn_releases off test
  · exact fun s e dry => congrArg Host.Outcome.next (if_pos (beq_iff_eq.2 dry))
  · intro s e up low
    refine congrArg Host.Outcome.next ((ite_of_false (beq_eq_false_iff_ne.2 up)).trans ?_)
    dsimp only
    rw [State.when_of_true _ _ (bne_iff_ne.2 low)]
  · intro s e up none
    refine congrArg Host.Outcome.next ((ite_of_false (beq_eq_false_iff_ne.2 up)).trans ?_)
    dsimp only
    rw [State.when_of_false _ _ (bne_eq_false_iff_eq.2 none)]
  · intro s g off
    unfold State.hvGate
    rcases off with h | h
    · rw [State.hvOn, h, Bool.not_true, Bool.and_false, Bool.false_and, Bool.false_and]
    · rw [h, Bool.and_false]
  · exact fun s latch => if_pos latch
  · intro s latch on
    rw [exec_tamper_rises latch]
    exact congrArg Host.Outcome.next (ite_of_false (bne_eq_false_iff_eq.2 on))
  · intro s latch off
    rw [exec_tamper_rises latch]
    exact congrArg Host.Outcome.next (if_pos (bne_iff_ne.2 off))
  · exact fun s low => if_pos low
  · exact fun s high => ite_of_false high
  · exact fun s p hp started unlocked => next_when_true (by rw [decide_eq_true hp, started, unlocked]; rfl)
  · intro s p rests
    refine next_when_false ?_
    rcases rests with h | h | h
    · rw [h, Bool.and_false, Bool.false_and]
    · rw [h, Bool.not_true, Bool.and_false]
    · rw [decide_eq_false (Nat.not_lt.2 h), Bool.false_and, Bool.false_and]
  · intro s p rests
    refine next_when_false ?_
    rcases rests with h | h
    · rw [decide_eq_false (Nat.not_lt.2 h), Bool.false_and]
    · rw [h, Bool.and_false]
  · exact fun s p hp locked => next_when_true (by rw [decide_eq_true hp, locked]; rfl)
  · intro s why main fails
    have other : (why == 1) = false := beq_eq_false_iff_ne.2 (by omega)
    refine exec_xtalFail_falls (State.when_of_false _ _ other) main ?_
    rcases fails with h | ⟨h, x32⟩
    · rw [h]
      rfl
    · rw [h, x32]
      rfl
  · exact fun s main => exec_xtalFail_falls (State.when_of_true _ _ rfl) main rfl
  · exact fun s backup => exec_xtalFail_stays (State.when_of_true _ _ rfl) (.inl backup)
  · intro s why rests other
    have hne : (why == 1) = false := beq_eq_false_iff_ne.2 other
    refine exec_xtalFail_stays (State.when_of_false _ _ hne) (rests.imp id ?_)
    rintro ⟨h2, h3⟩
    rw [hne, beq_eq_false_iff_ne.2 h2]
    rcases h3 with h | h
    · rw [beq_eq_false_iff_ne.2 h]
      rfl
    · rw [h, Bool.and_false]
      rfl
  · intro s up
    rw [weirXtal_up true up]
    rfl
  · exact fun s stopped down => weirXtal_down stopped down
  · intro s up
    rw [weirXtal_up false up]
    rfl
  · exact fun s g on en => congrArg Host.Outcome.next (if_neg (by rw [on, en]; exact Bool.false_ne_true))
  · intro s g rests
    refine congrArg Host.Outcome.next (if_pos ?_)
    rcases rests with h | h
    · rw [h]
      rfl
    · rw [h, Bool.or_true]
  · exact fun s g vs cs hg en ramping near => next_when_true (by rw [decide_eq_true hg, en, ramping, near]; rfl)
  · exact fun s g vs cs rests => next_when_false (and4_false (rests.imp (fun h => decide_eq_false (Nat.not_lt.2 h)) id))
  · exact fun s g vs cs hg runs above => next_when_true (by rw [decide_eq_true hg, runs, above]; rfl)
  · exact fun s g vs cs hg runs good under => next_when_true (by rw [decide_eq_true hg, runs, good, under]; rfl)
  · exact fun s g vs cs hg runs limits => next_when_true (by rw [decide_eq_true hg, runs, limits]; rfl)
  · exact fun s g vs cs rests => next_when_false (and3_false (rests.imp (fun h => decide_eq_false (Nat.not_lt.2 h)) id))
  · exact fun s g vs cs rests => next_when_false (and4_false (rests.imp (fun h => decide_eq_false (Nat.not_lt.2 h)) id))
  · exact fun s g vs cs rests => next_when_false (and3_false (rests.imp (fun h => decide_eq_false (Nat.not_lt.2 h)) id))
  · exact fun s g vs hdiv => ite_of_false (beq_eq_false_iff_ne.2 hdiv)
  · intro s g rests
    refine congrArg Host.Outcome.next (if_pos ?_)
    rcases rests with h | h
    · rw [h]
      rfl
    · rw [h, Bool.not_false, Bool.or_true]
  · exact fun s g on en busy => congrArg Host.Outcome.next ((hvDisable_on on en).trans (if_pos busy))
  · exact fun s g on en free => congrArg Host.Outcome.next ((hvDisable_on on en).trans (ite_of_false free))
  · exact fun s err x busy => if_pos busy
  · intro s err x idle rests
    refine (ite_of_false idle).trans (if_pos ?_)
    rcases rests with h | h
    · rw [h]
      rfl
    · rw [decide_eq_true h, Bool.or_true]
  · exact fun s err x idle en kind poll => (pmbStart_starts idle en kind).trans (if_pos poll)
  · exact fun s err x idle en kind free => (pmbStart_starts idle en kind).trans (ite_of_false free)
  · intro s d c x
    unfold State.pmbRun
    dsimp only
    rw [pmbResult_of_ne (by decide)]
    rfl
  · intro s d k c x
    unfold State.pmbRun
    dsimp only
    rw [pmbResult_of_ne (by decide)]
    rfl
  · intro s err
    unfold State.pmbResult
    simp only [Bool.and_eq_true, beq_iff_eq, Bool.not_eq_true']
  · intro s busy none
    show execPmbusTimeout s = _
    unfold execPmbusTimeout
    rw [none]
    exact next_when_true busy
  · intro s k poll
    show execPmbusTimeout s = _
    unfold execPmbusTimeout
    rw [poll]
  · intro s none
    unfold State.pollEnd
    rw [none]
  · intro s j waits
    unfold State.pollEnd
    rw [waits]
  · intro s idle none
    show execPmbusTimeout s = _
    unfold execPmbusTimeout
    rw [none]
    exact next_when_false idle
  · intro s k x vout err polls hresult herr
    rw [exec_pmbusPoll polls, hresult]
    rcases herr with h | h <;> rw [h] <;> rfl
  · exact fun s k x vout err polls runs => exec_pmbusPoll_runs polls runs
  · exact fun s k hk en dev period up idle own => polls_of hk en dev period up idle own
  · exact fun s k x vout err rests => if_pos (by rw [polls_false rests]; rfl)
  · intro s k x vout err polls hresult
    rw [exec_pmbusPoll polls, hresult]
    rfl
  · intro s mv rests
    refine next_when_false ?_
    rcases rests with h | h
    · rw [beq_eq_false_iff_ne.2 h, Bool.false_and]
    · rw [h, Bool.not_true, Bool.and_false]
  · exact fun s mv flow free => next_when_true (by rw [flow, free]; rfl)

end Sys2Proof.Machine
end

section
/-! PROOFS. Register accesses: the bits that a store and a read leave, and the accesses that R5 does not allow
(00_scope.md, 01_architecture.md). -/

namespace Sys2Proof.Machine

/-! The bits that a write stores (R7, R9, R10) -/

theorem State.keepActive_regs (s : State) (a : Nat) : (s.keepActive a).regs = s.regs := by
  unfold State.keepActive
  split <;> rfl

/-- What a write arranges for the boundary changes no register. -/
theorem State.boundaryCopy_rd (s : State) (c kept : Bool) (a b : Nat) :
    (s.when c (fun w => if kept then w.keepActive a else w.loadB a (a + 1))).rd b = s.rd b := by
  cases c
  · rfl
  · cases kept
    · exact s.loadB_rd _ _ b
    · exact State.rd_of_regs (s.keepActive_regs a) b

/-- The word that a store leaves in its register. -/
theorem State.storeReg_rd (s : State) (b : Block) (r : RegRow) (i a : Nat) (v act : Word) :
    (s.storeReg b r i a v act).rd a =
      mergeBits (s.rd a) v (((w32 r.live ||| (if s.owned r i then 0#32 else w32 r.stat)) &&& ~~~(s.heldBits a ||| act)) |||
        (w32 r.bnd &&& ~~~(s.heldBits a ||| act))) &&& ~~~(v &&& w32 r.w1c &&& ~~~(s.heldBits a ||| act)) :=
  State.rd_wr_same _ _ _

/-- Each bit of a merged word comes from the new word where the mask names it, and from the old one elsewhere. -/
theorem getLsbD_mergeBits (x v mask : Word) {k : Nat} (hk : k < 32) :
    (mergeBits x v mask).getLsbD k = if mask.getLsbD k then v.getLsbD k else x.getLsbD k := by
  unfold mergeBits
  rw [BitVec.getLsbD_or, BitVec.getLsbD_and, BitVec.getLsbD_and, BitVec.getLsbD_not, decide_eq_true hk]
  cases mask.getLsbD k <;> simp

/-- Without held bits each bit is stored under its own rule (R7, R9). -/
theorem State.storeReg_bit (s : State) (b : Block) (r : RegRow) (i a : Nat) (v : Word) (free : s.heldBits a = 0#32) {k : Nat}
    (hk : k < 32) :
    ((s.storeReg b r i a v 0#32).rd a).getLsbD k =
      if (w32 r.w1c).getLsbD k && v.getLsbD k then false
      else if (w32 r.live).getLsbD k || ((w32 r.stat).getLsbD k && !s.owned r i) || (w32 r.bnd).getLsbD k then v.getLsbD k
      else (s.rd a).getLsbD k := by
  have noneHeld : ∀ x : Word, x &&& ~~~(s.heldBits a ||| 0#32) = x := by
    intro x
    rw [free, BitVec.or_zero, BitVec.not_zero, BitVec.and_allOnes]
  have stat : (if s.owned r i then 0#32 else w32 r.stat).getLsbD k = ((w32 r.stat).getLsbD k && !s.owned r i) := by
    cases s.owned r i <;> simp
  rw [s.storeReg_rd, noneHeld, noneHeld, noneHeld, BitVec.getLsbD_and, BitVec.getLsbD_not, decide_eq_true hk,
    getLsbD_mergeBits _ _ _ hk, BitVec.getLsbD_or, BitVec.getLsbD_or, stat, BitVec.getLsbD_and, Bool.true_and,
    Bool.and_comm (v.getLsbD k)]
  cases (w32 r.w1c).getLsbD k && v.getLsbD k
  · exact Bool.and_true _
  · exact Bool.and_false _

/-- A write that would change a static bit of an enabled block shows in WRITE_IGNORED (R34). -/
theorem State.storeReg_ignored (s : State) (b : Block) (r : RegRow) (i a : Nat) (v act : Word) (on : s.owned r i = true)
    (change : (v ^^^ s.rd a) &&& w32 r.stat ≠ 0#32) (apart : a ≠ b.ignored.addr) (width : b.ignored.width = 1)
    (low : b.ignored.lo < 32) : (s.storeReg b r i a v act).flag b.ignored = true := by
  have raised : s.when (s.owned r i && (v ^^^ s.rd a) &&& w32 r.stat != 0#32) (·.raise b.ignored) = s.raise b.ignored :=
    s.when_of_true _ (by rw [on, bne_iff_ne.2 change]; rfl)
  unfold State.storeReg
  dsimp only
  rw [raised, State.flag_wr_other _ _ _ apart, State.flag_of_rd (State.boundaryCopy_rd _ _ _ _ _)]
  exact s.flag_raise_same b.ignored (by omega) (by omega)

/-! What a read leaves (R7, R8) -/

/-- A read that latches no time clears the RC bits of its word, and keeps the others. -/
theorem State.afterRead_rd (s : State) {a : Nat} (rc : Word) (mtime : a ≠ SYS.MTIME_LO) (ft : a ≠ FAB.FT_LO)
    (rtc : a ≠ PMU.RTC_LO) : (s.afterRead a rc).rd a = s.rd a &&& ~~~rc := by
  have cleared : (s.when (rc != 0#32) (fun u => u.wr a (u.rd a &&& ~~~rc))).rd a = s.rd a &&& ~~~rc := by
    by_cases noRc : rc = 0#32
    · rw [s.when_of_false _ (bne_eq_false_iff_eq.2 noRc), noRc, BitVec.not_zero, BitVec.and_allOnes]
    · rw [s.when_of_true _ (bne_iff_ne.2 noRc)]
      exact State.rd_wr_same _ _ _
  unfold State.afterRead
  dsimp only
  rw [ite_of_false (beq_eq_false_iff_ne.2 mtime), ite_of_false (beq_eq_false_iff_ne.2 ft),
    ite_of_false (beq_eq_false_iff_ne.2 rtc)]
  split
  · exact cleared
  · exact cleared

/-- A full read of a register other than JLOG_1 has the side effects of the read, and no other. -/
theorem State.regRead_afterRead (s : State) (issuer : Nat) {a i : Nat} {b : Block} {r : RegRow} (hb : blockOf a = some b)
    (hr : rowOf b a = some (r, i)) (shown : s.hidden a = false) (jlog : a ≠ SYS.JLOG_1) :
    (s.regRead issuer a).1 = s.afterRead a (w32 r.rc) := by
  unfold State.regRead
  rw [hb]
  dsimp only
  rw [hr]
  dsimp only
  rw [ite_of_false shown, ite_of_false (beq_eq_false_iff_ne.2 jlog)]

/-- A read of a part of a word changes nothing but at the time registers. -/
theorem State.regPeek_state (s : State) (issuer : Nat) {a : Nat} (h : a ∉ [SYS.MTIME_LO, FAB.FT_LO, PMU.RTC_LO]) :
    (s.regPeek issuer a).1 = s := by
  simp only [List.mem_cons, List.not_mem_nil, or_false, not_or] at h
  obtain ⟨mtime, ft, rtc⟩ := h
  unfold State.regPeek
  rw [beq_eq_false_iff_ne.2 mtime, beq_eq_false_iff_ne.2 ft, beq_eq_false_iff_ne.2 rtc]
  split <;> rfl

/-! The accesses of the register range (R5, R29) -/

theorem w32_bytesNat_wordBytes (w : Word) : w32 (bytesNat (wordBytes w)) = w := by
  rw [bytesNat_wordBytes, w32, BitVec.ofNat_toNat, BitVec.setWidth_eq]

/-- An aligned 32-bit write is a write of its register. -/
theorem State.regStore_word (s : State) (issuer : Nat) {a : Nat} {l : List Byte} (env : BusEnv) (len : l.length = 4)
    (aligned : a % 4 = 0) : s.regStore issuer a l env = s.regWrite issuer a (w32 (bytesNat l)) env := by
  unfold State.regStore
  rw [len, aligned]
  rfl

/-- Any other write in a block is reported, and the status is 0. -/
theorem State.regStore_ignored (s : State) (issuer : Nat) {a : Nat} {l : List Byte} (env : BusEnv)
    (odd : l.length ≠ 4 ∨ a % 4 ≠ 0) (inBlock : (blockOf a).isNone = false) :
    s.regStore issuer a l env = (s.regAccess issuer a, 0) := by
  have notWord : (l.length == 4 && a % 4 == 0) = false := by
    simpa only [Bool.and_eq_false_iff, beq_eq_false_iff_ne] using odd
  unfold State.regStore
  rw [ite_of_false notWord, inBlock]
  rfl

/-- A full read of a register in a block. -/
theorem State.regLoad_word (s : State) (issuer : Nat) {a : Nat} (bells : inBells issuer a = false)
    (inBlock : (blockOf a).isNone = false) (aligned : a % 4 = 0) :
    s.regLoad issuer a 4 = ((s.regRead issuer a).1, (0, wordBytes (s.regRead issuer a).2)) := by
  unfold State.regLoad
  rw [ite_of_false bells, ite_of_false inBlock, aligned]
  rfl

/-- A narrower read within one word takes its bytes, and clears nothing. -/
theorem State.regLoad_part (s : State) (issuer : Nat) {a n : Nat} (bells : inBells issuer a = false)
    (inBlock : (blockOf a).isNone = false) (narrow : n < 4) (nonempty : n ≠ 0) (within : a / 4 = (a + n - 1) / 4) :
    s.regLoad issuer a n = ((s.regPeek issuer (a / 4 * 4)).1,
      (0, ((wordBytes (s.regPeek issuer (a / 4 * 4)).2).drop (a % 4)).take n)) := by
  unfold State.regLoad
  rw [ite_of_false bells, ite_of_false inBlock, beq_eq_false_iff_ne.2 (Nat.ne_of_lt narrow), Bool.false_and,
    ite_of_false rfl, bne_iff_ne.2 nonempty, Bool.true_and, if_pos (beq_iff_eq.2 within)]

/-- A read that crosses a word boundary reads no register, and is reported. -/
theorem State.regLoad_crossing (s : State) (issuer : Nat) {a n : Nat}
    (place : inBells issuer a = true ∨ (blockOf a).isNone = false) (across : a / 4 ≠ (a + n - 1) / 4)
    (odd : n ≠ 4 ∨ a % 4 ≠ 0) : s.regLoad issuer a n = (s.regAccess issuer a, (0, List.replicate n 0#8)) := by
  have notWord : (n == 4 && a % 4 == 0) = false := by
    simpa only [Bool.and_eq_false_iff, beq_eq_false_iff_ne] using odd
  unfold State.regLoad
  cases bells : inBells issuer a with
  | true => rw [if_pos rfl, if_pos (bne_iff_ne.2 across)]
  | false =>
    have inBlock : (blockOf a).isNone = false := place.resolve_left (by rw [bells]; exact Bool.false_ne_true)
    rw [ite_of_false rfl, ite_of_false inBlock, ite_of_false notWord, beq_eq_false_iff_ne.2 across, Bool.and_false,
      ite_of_false rfl]

/-- A write to a register range is a store of its bytes and the response to it. -/
theorem State.access_reg (s : State) (issuer : Nat) {a : Nat} (l : List Byte) (env : BusEnv) (range : inRegRange a = true) :
    s.access issuer a l env = (s.regStore issuer a l env).1.respond issuer (s.regStore issuer a l env).2 := by
  unfold State.access
  rw [if_pos range]

theorem State.accessRead_reg (s : State) (issuer n : Nat) {a : Nat} (x : Access) (range : inRegRange a = true) :
    s.accessRead issuer a n x = ((s.regLoad issuer a n).1.respond issuer (s.regLoad issuer a n).2.1, (s.regLoad issuer a n).2.2) := by
  unfold State.accessRead
  rw [if_pos range]

/-- A write to the row of a register. -/
theorem State.regWrite_row (s : State) (issuer : Nat) {a i : Nat} {b : Block} {r : RegRow} (v : Word) (env : BusEnv)
    (bells : inBells issuer a = false) (hb : blockOf a = some b) (hr : rowOf b a = some (r, i)) :
    s.regWrite issuer a v env = (s.rowWrite issuer b r i a v env, 0) := by
  unfold State.regWrite
  rw [ite_of_false bells, hb]
  dsimp only
  rw [hr]

/-- A reserved offset ignores a write. -/
theorem State.regWrite_reserved (s : State) (issuer : Nat) {a : Nat} {b : Block} (v : Word) (env : BusEnv)
    (bells : inBells issuer a = false) (hb : blockOf a = some b) (hr : rowOf b a = none) :
    s.regWrite issuer a v env = (s, 0) := by
  unfold State.regWrite
  rw [ite_of_false bells, hb]
  dsimp only
  rw [hr]

/-- The bytes of a write, low byte first. -/
theorem length_writeBytes (n v : Nat) : ((List.range n).map (fun i => BitVec.ofNat 8 (v / 256 ^ i))).length = n := by
  rw [List.length_map, List.length_range]

section Accesses
variable {s : State} {issuer a : Nat}

theorem registerWrite_allowed (n v : Nat) (env : BusEnv) (may : s.mayIssue issuer = true) :
    exec (.registerWrite issuer a n v env) s =
      .next (s.access issuer a ((List.range n).map (fun i => BitVec.ofNat 8 (v / 256 ^ i))) env) :=
  next_when_true may

theorem rcRead_allowed (n : Nat) (x : Access) (may : s.mayIssue issuer = true) :
    exec (.rcRead issuer a n x) s =
      .next { (s.accessRead issuer a n x).1 with rdata := w32 (bytesNat (s.accessRead issuer a n x).2) } :=
  if_pos may

end Accesses

/-- Settles O60: register accesses take aligned words under the access code and class of each field (R5 to R10, R34). -/
theorem registerAccess : Obligations.RegisterAccess := by
  unfold Obligations.RegisterAccess
  refine ⟨?_, ?_, ?_, ?_, ?_, ?_, ?_, ?_, ?_, ?_, ?_, ?_, ?_, ?_, ?_, ?_⟩
  · intro s issuer a v env b r i may aligned range bells hb hr
    rw [registerWrite_allowed 4 v env may, s.access_reg issuer _ env range,
      s.regStore_word issuer env (length_writeBytes 4 v) aligned, s.regWrite_row issuer _ env bells hb hr]
  · exact fun s issuer a n v env may => registerWrite_allowed n v env may
  · exact fun s issuer a n v env may => next_when_false may
  · exact fun s issuer a n x may => ite_of_false may
  · exact fun s issuer a n x may => rcRead_allowed n x may
  · exact fun s issuer k => rfl
  · intro s issuer a n off
    have inert : (s.mayIssue issuer && inRegRange a && a / 4 != (a + n - 1) / 4 && n != 0) = false := by
      simpa only [Bool.and_eq_false_iff, bne_eq_false_iff_eq, or_assoc] using off
    exact ite_of_false inert
  · intro s issuer a n v env may odd range _ inBlock
    have notWord : ((List.range n).map (fun i => BitVec.ofNat 8 (v / 256 ^ i))).length ≠ 4 ∨ a % 4 ≠ 0 := by
      rwa [length_writeBytes]
    rw [registerWrite_allowed n v env may, s.access_reg issuer _ env range, s.regStore_ignored issuer env notWord inBlock]
  · intro s issuer a n v env b word may aligned range bells hb hr
    rw [registerWrite_allowed n v env may, s.access_reg issuer _ env range,
      s.regStore_word issuer env ((length_writeBytes n v).trans word) aligned, s.regWrite_reserved issuer _ env bells hb hr]
  · exact fun s b r i a w free k hk => s.storeReg_bit b r i a w free hk
  · exact fun s b r i a w m on change apart width low => s.storeReg_ignored b r i a w m on change apart width low
  · intro s issuer a x may range bells inBlock aligned
    rw [rcRead_allowed 4 x may, s.accessRead_reg issuer 4 x range, s.regLoad_word issuer bells inBlock aligned]
    dsimp only
    rw [w32_bytesNat_wordBytes]
  · intro s issuer a b r i hb hr shown jlog mtime ft rtc
    rw [s.regRead_afterRead issuer hb hr shown jlog]
    exact s.afterRead_rd _ mtime ft rtc
  · exact fun s issuer _ => regRead_jlog s issuer
  · intro s issuer a n x may range bells inBlock narrow nonempty within noTime
    rw [rcRead_allowed n x may, s.accessRead_reg issuer n x range, s.regLoad_part issuer bells inBlock narrow nonempty within]
    dsimp only
    rw [s.regPeek_state issuer noTime]
  · intro s issuer a n may range place across nonempty odd
    have acts : (s.mayIssue issuer && inRegRange a && a / 4 != (a + n - 1) / 4 && n != 0) = true := by
      rw [may, range, bne_iff_ne.2 across, bne_iff_ne.2 nonempty]
      rfl
    show execCrossingRead issuer a n s = _
    unfold execCrossingRead
    rw [if_pos acts, s.regLoad_crossing issuer place across odd]

end Sys2Proof.Machine
end
